-- ==== Sys2Proof/Word.lean ====
section
/-!
DEFINITION. The word types of the manual: registers are 32 bits wide (R6), the microcode registers 64 bits (R390), and every
byte format of the manual is a list of bytes.
-/
namespace Sys2Proof

/-- A byte. -/
abbrev Byte := BitVec 8

/-- A management register: 32 bits (R6). -/
abbrev Word := BitVec 32

/-- A microcode register: 64 bits (R390). -/
abbrev DWord := BitVec 64

/-- A byte string, in the order in which the manual numbers its offsets. -/
abbrev Bytes := List Byte

end Sys2Proof
end

