-- ==== Sys2Proof/Machine/Bytes.lean ====
section
/-!
DEFINITION. Byte strings: big-endian fields (R13), slices, the CRC-32 of R417, and small list helpers.
-/
namespace Sys2Proof.Machine

/-- `n` bytes of a number, most significant first (R13). -/
def be : Nat → Nat → Bytes
  | 0, _ => []
  | n + 1, v => be n (v / 256) ++ [BitVec.ofNat 8 v]

/-- `n` bytes of a number, least significant first (R6, R407). -/
def le : Nat → Nat → Bytes
  | 0, _ => []
  | n + 1, v => BitVec.ofNat 8 v :: le n (v / 256)

/-- The number that a big-endian byte string spells. -/
def beNat (b : Bytes) : Nat := b.foldl (fun acc x => acc * 256 + x.toNat) 0

/-- The number that a little-endian byte string spells. -/
def leNat : Bytes → Nat
  | [] => 0
  | x :: b => x.toNat + 256 * leNat b

/-- `len` bytes of a string from an offset; bytes past its end are absent. -/
def slice (off len : Nat) (b : Bytes) : Bytes := (b.drop off).take len

/-- The big-endian field of `len` bytes at an offset. -/
def fieldAt (off len : Nat) (b : Bytes) : Nat := beNat (slice off len b)

/-- `n` zero bytes. -/
def zeros (n : Nat) : Bytes := List.replicate n 0#8

/-- Are all the bytes 0? (reserved fields) -/
def allZero (b : Bytes) : Bool := b.all (fun x => x == 0#8)

/-- The ASCII bytes of a character list. -/
def ascii (s : String) : Bytes := s.toList.map (fun c => BitVec.ofNat 8 c.toNat)

/-- Consecutive pieces of `n` items; the last may be shorter. `fuel` bounds the number of pieces. -/
def chunksFuel {α : Type} (n : Nat) : Nat → List α → List (List α)
  | 0, _ => []
  | fuel + 1, l => if l.isEmpty then [] else l.take n :: chunksFuel n fuel (l.drop n)

/-- Consecutive pieces of `n` items. -/
def chunks {α : Type} (n : Nat) (l : List α) : List (List α) := chunksFuel n l.length l

/-- Sum of a list of numbers. -/
def sumNat (l : List Nat) : Nat := l.foldl (· + ·) 0

/-- The smallest number of a list, if any. -/
def minNat? : List Nat → Option Nat
  | [] => none
  | x :: l => some (l.foldl min x)

/-- The first element with the smallest key. -/
def argMin? {α : Type} (key : α → Nat) : List α → Option α
  | [] => none
  | x :: l => match argMin? key l with
    | none => some x
    | some y => if key y < key x then some y else some x

/-- The first element with the smallest pair key, compared lexicographically. -/
def argMin2? {α : Type} (key : α → Nat × Nat) : List α → Option α
  | [] => none
  | x :: l => match argMin2? key l with
    | none => some x
    | some y =>
      if (key y).1 < (key x).1 ∨ ((key y).1 = (key x).1 ∧ (key y).2 < (key x).2) then some y else some x

/-- Insertion into a list sorted by a relation. -/
def insertBy {α : Type} (le : α → α → Bool) (x : α) : List α → List α
  | [] => [x]
  | y :: l => if le x y then x :: y :: l else y :: insertBy le x l

/-- Stable insertion sort. -/
def sortBy {α : Type} (le : α → α → Bool) (l : List α) : List α := l.foldr (insertBy le) []

/-- The first number below `n` (counting down from `fuel`) that a predicate accepts. -/
def findBelow (n : Nat) (p : Nat → Bool) : Option Nat := (List.range n).find? p

/-- Round up: the least number of `d`s that cover `n`. -/
def ceilDiv (n d : Nat) : Nat := (n + d - 1) / d

/-- One step of the reflected CRC-32 with polynomial 0x04C11DB7 (R417). -/
def crcBit (c : BitVec 32) : BitVec 32 := if c.getLsbD 0 then (c >>> 1) ^^^ 0xEDB88320#32 else c >>> 1

/-- The CRC register after one more byte. -/
def crcByte (c : BitVec 32) (b : Byte) : BitVec 32 :=
  let x := c ^^^ b.setWidth 32
  crcBit (crcBit (crcBit (crcBit (crcBit (crcBit (crcBit (crcBit x)))))))

/-- CRC-32 under R417. -/
def crc32 (b : Bytes) : Word := (b.foldl crcByte 0xFFFFFFFF#32) ^^^ 0xFFFFFFFF#32

/-- Signed value of the low `w` bits of a number. -/
def signedOf (w v : Nat) : Int := if v % 2 ^ w < 2 ^ (w - 1) then (v % 2 ^ w : Nat) else (v % 2 ^ w : Nat) - (2 ^ w : Nat)

/-- Clamp an integer into a range. -/
def clampInt (lo hi v : Int) : Int := if v < lo then lo else if hi < v then hi else v

/-- Clamp a natural number into a range. -/
def clampNat (lo hi v : Nat) : Nat := if v < lo then lo else if hi < v then hi else v

end Sys2Proof.Machine
end

