-- ==== Sys2Proof/Machine/Operands.lean ====
section
/-!
DEFINITION. The operand forms of commands that come from outside: a received frame as the MAC presents it to the checks of R36,
and the readers of the fields that the manual lays out in KT datagrams (R42), RTP packets and requests.
-/
namespace Sys2Proof.Machine

/-- How a UDP checksum came out. -/
inductive UdpSum
  | good | bad | zero
  deriving DecidableEq, Repr

/-- What follows the Ethernet header. `proto` is the IP protocol number (17 UDP, 1 ICMP, 58 ICMPv6, 2 IGMP, 6 TCP). -/
inductive L3
  /-- neither IPv4 nor IPv6 -/
  | none
  /-- IPv4: header checksum right, is a fragment, protocol, UDP checksum -/
  | ip4 (csumOk fragment : Bool) (proto : Nat) (udp : UdpSum)
  /-- IPv6: has an extension header; that header is the Hop-by-Hop header of R36 (only Router Alert and padding, before an MLD
  message); protocol; UDP checksum -/
  | ip6 (ext hopMld : Bool) (proto : Nat) (udp : UdpSum)
  deriving DecidableEq, Repr

/-- A frame that the MAC received. IP addresses are 128-bit numbers, IPv4 mapped as ::ffff:a.b.c.d (R39). -/
structure RxFrame where
  /-- the receiving port, 0 to 3 -/
  port : Fin 4
  fcsOk : Bool
  /-- destination MAC through FCS, tags included -/
  len : Nat
  /-- an 0x88A8 outer tag -/
  sTag : Bool
  /-- the VID of an 802.1Q tag -/
  vid : Option Nat
  etherType : Nat
  dstMac : Nat
  srcMac : Nat
  l3 : L3
  srcIp : Nat
  dstIp : Nat
  srcPort : Nat
  dstPort : Nat
  /-- the UDP payload; for ICMP, ARP and the like, the message -/
  payload : Bytes
  deriving DecidableEq, Repr

/-- The protocol number of a frame, if it is IP. -/
def RxFrame.proto (f : RxFrame) : Option Nat := match f.l3 with
  | .none => Option.none
  | .ip4 _ _ p _ => some p
  | .ip6 _ _ p _ => some p

/-- Is the frame an ARP packet? -/
def RxFrame.isArp (f : RxFrame) : Bool := f.etherType == 0x0806

/-- Is the frame an ICMPv6 message of a type? -/
def RxFrame.isIcmp6 (f : RxFrame) (type : Nat) : Bool := f.proto == some 58 && fieldAt 0 1 f.payload == type

/-- Is the frame an echo request, of ICMP or ICMPv6? -/
def RxFrame.isEchoRequest (f : RxFrame) : Bool := f.isIcmp6 128 || (f.proto == some 1 && fieldAt 0 1 f.payload == 8)

/-- Is the frame an echo request or reply, of ICMP or ICMPv6? -/
def RxFrame.isEcho (f : RxFrame) : Bool := f.isEchoRequest || f.isIcmp6 129 || (f.proto == some 1 && fieldAt 0 1 f.payload == 0)

/-- Is the frame a Neighbor Solicitation or Advertisement? -/
def RxFrame.isNd (f : RxFrame) : Bool := f.isIcmp6 135 || f.isIcmp6 136

/-- Is the frame a message of MLD: query, report, done, MLDv2 report? -/
def RxFrame.isMld (f : RxFrame) : Bool := f.isIcmp6 130 || f.isIcmp6 131 || f.isIcmp6 132 || f.isIcmp6 143

/-- A KT datagram's header fields (R42). -/
structure KtMsg where
  magic : Nat
  version : Nat
  cls : Nat
  type : Nat
  flags : Nat
  length : Nat
  session : Nat
  seq : Nat
  body : Bytes
  deriving DecidableEq, Repr

/-- The KT header and payload of a UDP payload; none if it is shorter than the header. -/
def parseKt (b : Bytes) : Option KtMsg :=
  if b.length < 16 then none else
  some { magic := fieldAt 0 2 b, version := fieldAt 2 1 b, cls := fieldAt 3 1 b, type := fieldAt 4 1 b, flags := fieldAt 5 1 b,
         length := fieldAt 6 2 b, session := fieldAt 8 4 b, seq := fieldAt 12 4 b, body := b.drop 16 }

/-- A KT datagram (R42). -/
def ktBytes (cls type flags session seq : Nat) (body : Bytes) : Bytes :=
  be 2 0x4B54 ++ be 1 1 ++ be 1 cls ++ be 1 type ++ be 1 flags ++ be 2 body.length ++ be 4 session ++ be 4 seq ++ body

/-- KT classes (R43). -/
def clsOffload : Nat := 1
def clsMask : Nat := 2
def clsSheet : Nat := 3
def clsMgmt : Nat := 4
def clsHeartbeat : Nat := 5
def clsManifest : Nat := 6

/-- An IPv4 address as a 128-bit mapped address. -/
def mapped4 (a : Nat) : Nat := 0xFFFF * 2 ^ 32 + a % 2 ^ 32

/-- Is the address an IPv4 mapped one? -/
def isMapped4 (ip : Nat) : Bool := ip / 2 ^ 32 == 0xFFFF

/-- Is the address an IPv4 or IPv6 multicast address? -/
def isMulticast (ip : Nat) : Bool :=
  if isMapped4 ip then decide (0xE0000000 ≤ ip % 2 ^ 32 ∧ ip % 2 ^ 32 < 0xF0000000) else ip / 2 ^ 120 == 0xFF

/-- Is the address the unspecified one, in either family? -/
def isUnspecified (ip : Nat) : Bool := ip == 0 || ip == mapped4 0

/-- The IPv4 limited broadcast address. -/
def ip4Broadcast : Nat := mapped4 0xFFFFFFFF

/-- ff02::1. -/
def allNodes : Nat := 0xFF02 * 2 ^ 112 + 1

/-- The link-local address of a port MAC: fe80::/64 and the modified EUI-64 identifier (R38). -/
def linkLocal (mac : Nat) : Nat :=
  let hi := mac / 2 ^ 24
  let flipped := (hi ^^^ 0x020000)
  0xFE80 * 2 ^ 112 + flipped * 2 ^ 40 + 0xFFFE * 2 ^ 24 + mac % 2 ^ 24

/-- The solicited-node group of an IPv6 address. -/
def solicitedNode (ip : Nat) : Nat := 0xFF02 * 2 ^ 112 + 0x1FF * 2 ^ 24 + ip % 2 ^ 24

/-- The multicast MAC of an IP multicast group. -/
def groupMac (ip : Nat) : Nat :=
  if isMapped4 ip then 0x01005E000000 + ip % 2 ^ 23 else 0x333300000000 + ip % 2 ^ 32

/-- The fields of a received PTP message that the device uses (IEEE 1588-2019): sourcePortIdentity (clockIdentity × 65,536 + port
number), domain, sequenceId, twoStepFlag, correctionField in ns, and the time stamp the message carries in ns. -/
structure PtpMsg where
  source : Nat
  domain : Nat
  seqId : Nat
  twoStep : Bool
  correction : Int
  stamp : Nat
  /-- requestingPortIdentity of a Delay_Resp or Pdelay_Resp, 0 in other messages -/
  requesting : Nat
  deriving DecidableEq, Repr

/-- A wrong symbol that a memory port reads: beat, symbol position (R338) and what is XORed onto it. -/
structure SymErr where
  beat : Nat
  pos : Nat
  xor : Byte
  deriving DecidableEq, Repr

/-- The margins of one byte lane in steps (R354). -/
structure Margin where
  rdL : Nat
  rdR : Nat
  wrL : Nat
  wrR : Nat
  deriving DecidableEq, Repr

/-- What a frame that the device sends is for; the first ten are the system queue's kinds (R324). -/
inductive FrameKind
  | heartbeat | arp | nd | mld | igmp | icmpReply | ptp | mgmt | ktReply | bye
  | sheet | manifest
  deriving DecidableEq, Repr

/-- What a PTP message of the device's own has to do with its transmit time (R77): a Delay_Req or Pdelay_Req with its sequenceId, whose time is kept;
or a Pdelay_Resp with sequenceId, requester and correction, whose time its follow-up carries. -/
inductive PtpNote
  | none
  | req (seq : Nat)
  | resp (seq requester : Nat) (correction : Int)
  deriving DecidableEq, Repr

/-- A frame that the device sends: its place in the stack and its payload (the UDP payload, or the message). `proto` 0 stands for
a frame without an IP header. `mac` is the destination MAC where it is fixed without resolution, `src` the source address where the frame fixes
it; the port fills in the source address, the UDP checksum and the VLAN tag as the frame starts (R37). -/
structure OutFrame where
  kind : FrameKind
  proto : Nat
  dstIp : Nat
  mac : Option Nat
  srcPort : Nat
  dstPort : Nat
  /-- the IPv6 Hop-by-Hop Options header with Router Alert precedes the message (R38) -/
  routerAlert : Bool
  payload : Bytes
  src : Option Nat := none
  /-- the UDP checksum -/
  csum : Nat := 0
  /-- the 802.1Q tag: PCP × 8,192 + VID -/
  tag : Option Nat := none
  ptp : PtpNote := .none
  deriving DecidableEq, Repr

/-- Bytes of the headers above Ethernet. -/
def OutFrame.headBytes (f : OutFrame) : Nat :=
  (if f.proto = 0 then 0 else if isMapped4 f.dstIp then 20 else 40) + (if f.proto = 17 then 8 else 0)
    + (if f.routerAlert then 8 else 0)

/-- Length from destination MAC through FCS, at least 64 bytes (R320, R326). -/
def OutFrame.len (tagged : Bool) (f : OutFrame) : Nat :=
  max 64 (14 + (if tagged then 4 else 0) + f.headBytes + f.payload.length + 4)

/-! ## What commands carry -/

/-- A clock's announced data set (IEEE 1588-2019), with the interval of its Announce messages. -/
structure Announce where
  /-- sourcePortIdentity: clockIdentity × 65,536 + port number -/
  source : Nat
  priority1 : Nat
  clockClass : Nat
  accuracy : Nat
  variance : Nat
  priority2 : Nat
  grandmaster : Nat
  steps : Nat
  /-- logMessageInterval -/
  logInterval : Int
  deriving DecidableEq, Repr, Inhabited

/-- Names an open session: MASK or OFFLOAD, partner, SESSION. -/
structure SessRef where
  mask : Bool
  partner : Fin 32
  id : Nat
  deriving DecidableEq, Repr

/-- The decode core's poisoned reads of one picture (R158), as they happen in memory: blocks whose bitstream was poisoned, reference blocks
(buffer, block), blocks whose collocated motion was poisoned, filled blocks whose read of R_c was poisoned. -/
structure DecPoison where
  bits : List Nat := []
  /-- how many reads of bitstream bytes returned poison -/
  reads : Nat := 0
  refs : List (Nat × Nat) := []
  motion : List Nat := []
  conceal : List Nat := []
  deriving DecidableEq, Repr

/-- Poisoned source samples of a composition: source number, plane, column, row (R264), in the picture or side-scaled copy that is read. -/
abbrev SrcPoison := List (Nat × Nat × Nat × Nat)

/-- The poisoned reads of a composition (R264): source samples, the mask record, the flattened surface. -/
structure ComposePoison where
  src : SrcPoison := []
  mask : Bool := false
  surf : Bool := false
  deriving DecidableEq, Repr

/-- Poisoned reads of an encode core (R207): 128-byte lines of the composed picture, and the first reference block that a deckle window could not load
(reference index, block), where the picture stops. -/
structure EncPoison where
  input : List Nat := []
  ref : Option (Nat × Nat) := none
  deriving DecidableEq, Repr

/-- How a control store read came out (R388). -/
inductive StoreRead
  | clean | corrected | bad
  deriving DecidableEq, Repr

/-- Who sends a felt operation: a sequencer by XOP FELT, with the operands of its microword; or another agent. -/
inductive FeltBy
  | xop (i : Fin 8)
  | agent (id : Fin 256) (arg : Nat) (dst : Nat)
  deriving DecidableEq, Repr

/-- What the calibration block reads of its references: PRECRES in 0.1 Ω, whether REFCLK trims the oscillator, and the sensors: °C, and
whether it agrees with its neighbours within 5 °C. -/
structure RefReading where
  precres : Nat
  oscOk : Bool
  temps : List (Int × Bool)
  deriving DecidableEq, Repr

/-- A monitor pair's rings in kHz: unstressed and stressed. -/
structure RingPair where
  unstressed : Nat
  stressed : Nat
  deriving DecidableEq, Repr

/-- What the surroundings give a boot: BOOT2 to BOOT0, VIN in mV, the references and the monitor rings as read at step 2, and whether the
identity key's unwrap passes its integrity check at step 9. -/
structure BootEnv where
  straps : Fin 8
  /-- the reference clock pairs REFCLKA and REFCLKB are present (R29) -/
  refA : Bool
  refB : Bool
  mv : Nat
  refs : RefReading
  rings : List RingPair
  unwrapOk : Bool
  deriving DecidableEq, Repr

end Sys2Proof.Machine
end

