-- ==== Sys2Proof/Syntax.lean ====
section
/-!
DEFINITION. The commands of the block, one constructor per row of spec/opcode_table.json, with what each brings from outside. The rows have no
fields: the operands are what the rules named in the docstrings let the command say (log entry 21).
-/
namespace Sys2Proof
open Sys2Proof.Machine

/-- The commands. -/
inductive Instr
  /-- LINK_UP (R30). A port declares link up once its PCS has held block lock for 10 ms, with training or auto-negotiation complete where configured. -/
  | linkUp (p : Fin 4)
  /-- LINK_DOWN (R30). A port declares link down after 1 ms without block lock, sets LINK_CHG and counts PRT_LINK_DOWNS. -/
  | linkDown (p : Fin 4)
  /-- HI_BER (R30). The PCS reports high BER, and the port declares link down at once and sets HI_BER. -/
  | hiBer (p : Fin 4)
  /-- TRAINING_DONE (R31). Clause 72 training, or auto-negotiation with training, completes on a KR port and allows link up. -/
  | trainingDone (p : Fin 4) (fec : Nat)
  /-- PAUSE_FRAME (R28). A received MAC Control frame is discarded and counted in PRT_RX_PAUSE. -/
  | pauseFrame (f : RxFrame)
  /-- ARP_REQUEST (R38). A received ARP request for PRT_IP4_ADDR is answered. -/
  | arpRequest (f : RxFrame)
  /-- ARP_REPLY (R39). A received ARP reply resolves or refreshes a PRT_NBR entry and releases the frames waiting for it. -/
  | arpReply (f : RxFrame)
  /-- NEIGHBOR_SOLICITATION (R38). A received Neighbor Solicitation for the global or link-local address is answered. -/
  | neighborSolicitation (f : RxFrame)
  /-- NEIGHBOR_ADVERTISEMENT (R39). A received Neighbor Advertisement resolves or refreshes a PRT_NBR entry. -/
  | neighborAdvertisement (f : RxFrame)
  /-- MLD_QUERY (R38). A received MLD query for the port's solicited-node groups is answered with an MLDv2 report. -/
  | mldQuery (f : RxFrame)
  /-- IGMP_QUERY (R515). A received IGMP query on the PTP port is answered for the PTP multicast groups. -/
  | igmpQuery (f : RxFrame)
  /-- ICMP_ECHO_REQUEST (R515). An ICMP echo request on a CONTROL port is answered, within the limit of 100 in each second. -/
  | icmpEchoRequest (f : RxFrame)
  /-- RATE_WINDOW_ROLLOVER (R515). A fixed 1 s window on the supervisor oscillator ends, which resets the ICMP echo limit and the HELLO limit. -/
  | rateWindowRollover
  /-- NEIGHBOUR_REFRESH (R39). Thirty seconds before a resolved PRT_NBR entry expires, the port sends a unicast refresh request. -/
  | neighbourRefresh (p : Fin 4) (ip : Nat)
  /-- NEIGHBOUR_RETRY_TIMEOUT (R39). An unanswered resolution is retried after 1 s, and after the third failure the entry is removed and the destination becomes unreachable. -/
  | neighbourRetryTimeout (p : Fin 4) (ip : Nat)
  /-- RESOLUTION_WAIT_EXPIRY (R39). A frame other than a sheet that has waited 3 s for resolution is discarded. -/
  | resolutionWaitExpiry (p : Fin 4)
  /-- PTP_SYNC (R76). A Sync message from the master on the PTP port is timestamped and used for the offset, the frequency correction and the time quality. -/
  | ptpSync (f : RxFrame) (m : PtpMsg)
  /-- PTP_FOLLOW_UP (R76). A Follow_Up message completes a two-step Sync measurement. -/
  | ptpFollowUp (f : RxFrame) (m : PtpMsg)
  /-- PTP_ANNOUNCE (R76). An Announce message is fed to the default BMCA, which may select another master. -/
  | ptpAnnounce (f : RxFrame) (m : PtpMsg) (a : Announce)
  /-- PTP_DELAY_RESP (R77). A Delay_Resp message completes an E2E path-delay measurement. -/
  | ptpDelayResp (f : RxFrame) (m : PtpMsg)
  /-- PTP_PDELAY_REQ (R76). A Pdelay_Req message is answered with a two-step Pdelay_Resp. -/
  | ptpPdelayReq (f : RxFrame) (m : PtpMsg)
  /-- PTP_PDELAY_RESP (R76). A Pdelay_Resp message, with its follow-up, completes a P2P peer-delay measurement. -/
  | ptpPdelayResp (f : RxFrame) (resp follow : PtpMsg)
  /-- PTP_DELAY_REQ_TIMER (R76). The device sends its own Delay_Req or Pdelay_Req when that is due. -/
  | ptpDelayReqTimer
  /-- SYNC_LOSS_TIMEOUT (R78). After LOSS_S seconds without Sync from the selected master, the quality enters HOLDOVER and GLB_PTP_LOSS counts. -/
  | syncLossTimeout
  /-- HOLDOVER_EXPIRY (R78). After HOLD_MIN minutes of holdover, the quality becomes HOLDOVER_EXPIRED. -/
  | holdoverExpiry
  /-- RTP_PACKET (R114). A datagram bound to a live context passes the headbox, the policer and the RTP checks, and is held for access-unit assembly. -/
  | rtpPacket (f : RxFrame)
  /-- REORDER_EXPIRY (R117). A sequence number still missing REORDER_MS after a higher one was held is declared lost. -/
  | reorderExpiry (n : Fin 1024)
  /-- AU_WAIT_EXPIRY (R118). AU_WAIT_MS after the unit's last held packet, the open live access unit closes with what it holds. -/
  | auWaitExpiry (n : Fin 1024)
  /-- CONTEXT_IDLE_TIMEOUT (R133). The idle timer of a context reaches IDLE_S, and the context leaves OPEN; an offload session also receives ABORT reason 2. -/
  | contextIdleTimeout (n : Fin 1024)
  /-- OFFLOAD_OPEN (R123). A KT OFFLOAD OPEN is checked and is refused at once, or held for the admission evaluation that decides it. -/
  | offloadOpen (f : RxFrame)
  /-- OFFLOAD_DATA (R50). A KT OFFLOAD DATA chunk is stored, discarded or counted by the rows of R50, and held records are assembled in SEQ order. -/
  | offloadData (f : RxFrame)
  /-- OFFLOAD_CLOSE (R51). A KT OFFLOAD CLOSE fixes FINAL and receives CLOSE_ACK once every SEQ up to FINAL is held. -/
  | offloadClose (f : RxFrame)
  /-- OFFLOAD_ABORT (R52). A received ABORT ends the offload session as a close with chunks missing, and its context closes. -/
  | offloadAbort (f : RxFrame)
  /-- MASK_OPEN (R255). A KT MASK OPEN for a RELEASE rendition is accepted or refused with STATUS 2. -/
  | maskOpen (f : RxFrame)
  /-- MASK_DATA (R256). A KT MASK DATA chunk is stored under the window, and its records are held or discarded by R257. -/
  | maskData (f : RxFrame)
  /-- MASK_CLOSE (R51). A KT MASK CLOSE ends the mask track once held or after the close timeout. -/
  | maskClose (f : RxFrame)
  /-- MASK_ABORT (R52). A received ABORT ends the mask session. -/
  | maskAbort (f : RxFrame)
  /-- ACK_DELAY_EXPIRY (R49). Two hundred microseconds after the first unacknowledged in-order chunk, an ACK is sent. -/
  | ackDelayExpiry (r : SessRef)
  /-- ZERO_WINDOW_REPEAT (R49). While WINDOW is 0, the current ACK is repeated every 50 ms. -/
  | zeroWindowRepeat (r : SessRef)
  /-- CLOSE_TIMEOUT (R51). Chunks still missing at the close timeout after CLOSE produce a CLOSE_ACK with STATUS 1 and end the session. -/
  | closeTimeout (r : SessRef)
  /-- CLOSED_SESSION_EXPIRY (R51). Sixty seconds after CLOSE_ACK, the SESSION value becomes free and is no longer remembered. -/
  | closedSessionExpiry (r : SessRef)
  /-- PAUSED_SESSION_ABORT (R104). An offload session that has stayed paused for 60 s is sent ABORT reason 5, and its context closes. -/
  | pausedSessionAbort (r : SessRef)
  /-- MASK_SESSION_IDLE (R261). A mask session that accepts no DATA for 60 s is sent ABORT reason 2. -/
  | maskSessionIdle (r : SessRef)
  /-- PARTNER_HEARTBEAT (R57). A PARTNER heartbeat marks a monitored partner up and restarts its silence timer. -/
  | partnerHeartbeat (f : RxFrame)
  /-- PARTNER_SILENCE_TIMEOUT (R57). After 3 device intervals without a PARTNER heartbeat, a monitored partner is marked down and EV081 is raised. -/
  | partnerSilenceTimeout (n : Fin 32)
  /-- DEVICE_HEARTBEAT_TIMER (R56). At each heartbeat interval, a DEVICE heartbeat is sent to every configured partner, or to the destinations of maintenance mode. -/
  | deviceHeartbeatTimer
  /-- HELLO (R61). A MGMT HELLO is checked, and is answered with HELLO_REPLY that opens a session or refuses it. -/
  | hello (f : RxFrame)
  /-- BYE (R64). A valid BYE ends the session and is answered with the device's own BYE. -/
  | bye (f : RxFrame)
  /-- MGMT_SESSION_IDLE (R64). A session without a valid REQUEST for the idle limit ends. -/
  | mgmtSessionIdle (num : Nat)
  /-- READ (R67). A READ request checks every address, samples the registers per block at one instant and returns them. -/
  | read (f : RxFrame)
  /-- WRITE (R67). A WRITE request checks every address, stores the registers in ascending order through their clamps and runs the settle pass. -/
  | write (f : RxFrame)
  /-- TICKET_START_SELF_TEST (R470). A SELF_TEST ticket is issued for a unit, which is drained and tested once the charges fit. -/
  | ticketStartSelfTest (f : RxFrame)
  /-- TICKET_START_CALIBRATE (R471). A CALIBRATE ticket is issued to measure a unit's groups, or for agent ID 0xB8 to run the reference calibration. -/
  | ticketStartCalibrate (f : RxFrame)
  /-- TICKET_START_ATTEST (R486). An ATTEST ticket captures the report fields and queues the report for signing behind every queued seal. -/
  | ticketStartAttest (f : RxFrame)
  /-- TICKET_START_DIGEST (R71). A DIGEST ticket returns the announced epoch and its digest. -/
  | ticketStartDigest (f : RxFrame)
  /-- TICKET_START_STILL (R209). A STILL ticket waits for the source's next picture and encodes it as a JPEG. -/
  | ticketStartStill (f : RxFrame)
  /-- TICKET_START_IMAGE_INSTALL (R428). An IMAGE_INSTALL ticket waits for the slot's queue to be programmed, then reads the slot and checks it. -/
  | ticketStartImageInstall (f : RxFrame)
  /-- TICKET_READ (R72). A TICKET_READ returns the ticket's state and result bytes from OFFSET, and counts reads at OFFSET 0. -/
  | ticketRead (f : RxFrame)
  /-- TICKET_RELEASE (R74). A TICKET_RELEASE frees a ready ticket, or cancels a pending one at the unit's next stopping point. -/
  | ticketRelease (f : RxFrame)
  /-- IMAGE_BLOCK (R426). An IMAGE_BLOCK queues 1,024 bytes for programming into a flash slot, or refuses them. -/
  | imageBlock (f : RxFrame)
  /-- FLASH_PROGRAM_DONE (R426). A queued kilobyte, with its sector erase where due, finishes programming in the flash. -/
  | flashProgramDone (ok : Bool)
  /-- SELF_TEST_DONE (R470). A unit's self-test completes, the ticket becomes READY, and the unit returns to service or raises F173. -/
  | selfTestDone (agent : Fin 256) (verdict : Fin 4) (dur : Nat) (ms : List (List Int))
  /-- SELF_TEST_FIT_TIMEOUT (R107). A SELF_TEST whose charges do not fit within 60 s becomes READY with RESULT 2. -/
  | selfTestFitTimeout (num : Nat)
  /-- CALIBRATE_DONE (R471). A CALIBRATE measurement completes, R466 applies, and the ticket becomes READY. -/
  | calibrateDone (num dur : Nat) (ms : List (List Int)) (r : RefReading)
  /-- ATTEST_SIGNED (R486). The identity key finishes signing the attestation report, and its ticket becomes READY. -/
  | attestSigned (k : Fin 2)
  /-- STILL_DONE (R209). A still finishes encoding on an idle encode core, and its ticket becomes READY. -/
  | stillDone (c : Fin 24)
  /-- STILL_TIMEOUT (R209). No picture has become available 5 s after a STILL start, and the ticket becomes READY with RESULT 1. -/
  | stillTimeout (num : Nat)
  /-- IMAGE_INSTALL_DONE (R428). The slot check completes, and the IMAGE_INSTALL ticket becomes READY with its verdict. -/
  | imageInstallDone (num : Nat)
  /-- MAINTENANCE_INSTALL_RESET (R428). In maintenance mode, the device resets 1 s after an IMAGE_INSTALL ticket with VERDICT 0 becomes READY. -/
  | maintenanceInstallReset
  /-- ADMISSION_EVALUATION (R100). Once per millisecond, a sequencer takes the newest capabilities and decides shedding, resumption and pending admissions. -/
  | admissionEvaluation
  /-- CAPABILITY_PUBLISH (R461). At the end of each 100 µs pace-ring window, a coding unit publishes its capability under R92. -/
  | capabilityPublish (k : Fin 96) (f e : Nat)
  /-- VERIFICATION_LIMIT_EXPIRY (R19). A leaf's effective verification limit expires before its broke map is final, and the leaf, with its predecessors, is chained with reason 6. -/
  | verificationLimitExpiry (n : Fin 1024)
  /-- DECODE_DISPATCH (R108). An idle decode core at a picture boundary takes the ready picture with the earliest deadline, once its output buffer is allocated. -/
  | decodeDispatch (poison : Bool)
  /-- DECODE_ALLOC_FAILURE (R144). A picture with no frame buffer by its deadline is not decoded, carries reason 7, and decoding skips to the next random access point. -/
  | decodeAllocFailure (n : Fin 1024)
  /-- DECODE_PICTURE_DONE (R137). A decode core finishes a picture and sends its completion record, with output, block index, motion field and side-scaled copies written. -/
  | decodePictureDone (c : Fin 64) (po : DecPoison)
  /-- SEAL_SIGNED (R285). A signature engine finishes a seal, which is placed in the ream's last sheet with the DERIV object. -/
  | sealSigned (k : Fin 2)
  /-- SHEET_TIMER (R292). One millisecond after its first record was placed, an open sheet closes and joins each entitled partner's backlog. -/
  | sheetTimer (slot : Fin 2048)
  /-- COMPOSE_DISPATCH (R262). An idle composition unit takes the ready rendition picture whose SRC0 leaf arrived earliest. -/
  | composeDispatch (poison : Bool)
  /-- COMPOSE_PICTURE_DONE (R262). A composition unit finishes a rendition picture, with its layers, mask and caption, and sends its completion record. -/
  | composePictureDone (u : Fin 8) (po : ComposePoison)
  /-- FLATTEN_DONE (R250). A composition unit finishes rebuilding the flattened graphics surface. -/
  | flattenDone (u : Fin 8)
  /-- TILE_WAIT_EXPIRY (R237). One hundred milliseconds after an SRC0 candidate was output, a mosaic tile shows the newest picture it has. -/
  | tileWaitExpiry (n : Fin 1024)
  /-- MASK_WAIT_EXPIRY (R259). A RELEASE picture with no mask record after MASK_WAIT_MS is blanked. -/
  | maskWaitExpiry (n : Fin 1024)
  /-- ENCODE_DISPATCH (R191). An idle encode core at a picture boundary takes the composed picture whose composition completed first. -/
  | encodeDispatch (poison : Bool)
  /-- ENCODE_PICTURE_DONE (R190). An encode core finishes a rendition picture and sends its completion record. -/
  | encodePictureDone (c : Fin 24) (po : EncPoison)
  /-- ENC_ALLOC_TIMEOUT (R208). A rendition picture without a reconstruction buffer for 100 ms is discarded, and its ream closes with reason shed. -/
  | encAllocTimeout (n : Fin 1024)
  /-- CTX_CLOSE (R86). A write of 1 to CTX_CTRL.CLOSE moves an OPEN context to CLOSING. -/
  | ctxClose (n : Fin 1024)
  /-- RND_OPEN (R88). A write of 1 to RND_CTRL.OPEN requests admission of a FREE RELEASE or MOSAIC rendition. -/
  | rndOpen (n : Fin 1024) (port : Fin 5)
  /-- RND_CLOSE (R88). A write of 1 to RND_CTRL.CLOSE moves an OPEN rendition to CLOSING. -/
  | rndClose (n : Fin 1024)
  /-- DEC_OOS (R160). A write of DEC_CFG.OOS takes a decode core out of service at its next picture boundary, or returns it at once. -/
  | decOos (c : Fin 64) (out : Bool)
  /-- ENC_OOS (R213). A write of ENC_CFG.OOS takes an encode core out of service at its next picture boundary, or returns it at once. -/
  | encOos (c : Fin 24) (out : Bool)
  /-- CU_OOS (R268). A write of CU_CFG.OOS takes a composition unit out of service at its next picture boundary, or returns it at once. -/
  | cuOos (u : Fin 8) (out : Bool)
  /-- EGRESS_SELECT (R328). When the port can start a frame, it starts the system queue's head or the eligible fair-queue head with the smallest tag. -/
  | egressSelect (p : Fin 4)
  /-- COLLECTOR_ROUND (R405). The completion collector accepts up to 8 held records, numbers them and appends them to the sequencers' completion queues. -/
  | collectorRound
  /-- HOLDOFF_EXPIRY (R400). HOLDOFF_US after its oldest held event, a moderation group releases its held events to routing. -/
  | holdoffExpiry (g : Fin 64)
  /-- FAST_EVENT_ACCEPT (R398). A sequencer at a microword boundary accepts a fast event and switches to its fast bank. -/
  | fastEventAccept (i : Fin 8)
  /-- SEQ_WAKE (R399). A sleeping sequencer that an event was offered to wakes within 2 µs. -/
  | seqWake (i : Fin 8)
  /-- MICROWORD_STEP (R392). A microword with XOP 0 runs its ALU operation for its cycle-class delay and chooses the next address. -/
  | microwordStep (i : Fin 8) (rd : StoreRead)
  /-- FETCH (R393). XOP FETCH accepts one offered normal event, or waits until one is offered. -/
  | fetch (i : Fin 8)
  /-- SLEEP (R401). XOP SLEEP puts the sequencer to sleep, or is refused and completes as a FETCH. -/
  | sleep (i : Fin 8)
  /-- RETF (R398). XOP RETF restores the normal bank, CP and saved address. -/
  | retf (i : Fin 8)
  /-- LOAD (R393). XOP LOAD reads 64 bits at an agent address into a register. -/
  | load (i : Fin 8) (errs : List (Nat × List SymErr))
  /-- STORE (R393). XOP STORE writes 64 bits from a register to an agent address. -/
  | store (i : Fin 8) (errs : List (Nat × List SymErr))
  /-- REGRD (R494). XOP REGRD reads a management register into a register. -/
  | regrd (i : Fin 8)
  /-- REGWR (R494). XOP REGWR writes a management register under the rules for microcode writes. -/
  | regwr (i : Fin 8)
  /-- POP (R393). XOP POP moves the oldest completion record of the sequencer's own queue into four registers. -/
  | pop (i : Fin 8)
  /-- SETPRIO (R393). XOP SETPRIO sets the sequencer's current priority. -/
  | setprio (i : Fin 8)
  /-- DOORBELL (R393). XOP DOORBELL raises one of the doorbell events EV092 to EV099. -/
  | doorbell (i : Fin 8)
  /-- UNIT (R393). XOP UNIT sends a command block to a unit, for dispatch, drain and service commands. -/
  | unit (i : Fin 8)
  /-- SEAL (R393). XOP SEAL sends a request to the sealing block. -/
  | seal (i : Fin 8)
  /-- ALLOC (R366). ALLOC returns a buffer from the pool or its fallback chain, or the null handle. -/
  | alloc (by_ : FeltBy)
  /-- FREE (R366). FREE returns a buffer to its pool's FIFO, or is handled as a double, foreign or bad free. -/
  | free (by_ : FeltBy)
  /-- GIVE (R366). GIVE passes ownership of a buffer to another agent, with the same double and foreign free checks. -/
  | give (by_ : FeltBy)
  /-- DMA_ARM (R379). DMA_CTRL.ARM validates the shadow set, which loads when the channel is idle or at the end of the active transfer. -/
  | dmaArm (n : Fin 64) (seq : Fin 8)
  /-- DMA_ABORT (R380). DMA_CTRL.ABORT stops the channel at its next burst boundary and discards the shadow set and any program. -/
  | dmaAbort (n : Fin 64)
  /-- DMA_CLEAR (R380). DMA_CTRL.CLEAR leaves the error state and returns the channel to idle. -/
  | dmaClear (n : Fin 64)
  /-- DMA_PROG_START (R384). DMA_CTRL.PROG_START runs the program at DMA_PROG. -/
  | dmaProgStart (n : Fin 64)
  /-- DMA_GO_SET (R384). A write of 0 to DMA_GO sets the flag that a WAIT with condition 2 waits for. -/
  | dmaGoSet (n : Fin 64)
  /-- DMA_SWREQ_WRITE (R377). A write of DMA_SWREQ drives the sequencer request lines DREQ108 to DREQ115. -/
  | dmaSwreqWrite (v : BitVec 8)
  /-- DMA_BURST (R374). A channel, with its request line asserted where paced, issues its next burst and, after the last one, completes the transfer. -/
  | dmaBurst (n : Fin 64) (line : Bool) (errs : List (Nat × List SymErr))
  /-- MOVE (R384). Instruction MOVE loads a descriptor into the shadow set as if written and armed. -/
  | move (n : Fin 64)
  /-- LOOP (R384). Instruction LOOP counts down a loop counter and jumps while it is above 0. -/
  | loop (n : Fin 64)
  /-- WAIT (R384). Instruction WAIT waits for idle, for a request line or for DMA_GO. -/
  | wait (n : Fin 64) (line : Bool)
  /-- WAIT_TIMEOUT (R384). A WAIT whose condition does not hold within its timeout stops the channel with ERR_KIND 4. -/
  | waitTimeout (n : Fin 64)
  /-- SIGNAL (R384). Instruction SIGNAL writes DMA_SIGNAL and raises the channel's event, after a drain where requested. -/
  | signal (n : Fin 64)
  /-- END (R384). Instruction END waits until both register sets are idle, sets DONE, raises the event and stops. -/
  | end_ (n : Fin 64)
  /-- NOP (R384). Instruction NOP does nothing. -/
  | nop (n : Fin 64)
  /-- MEM_READ_REQUEST (R343). A memory port performs an agent's line read, checks and corrects it, and returns data or poison. -/
  | memReadRequest (agent a n : Nat) (errs : List SymErr)
  /-- MEM_WRITE_REQUEST (R345). A memory port accepts an agent's line or partial write into its write queue. -/
  | memWriteRequest (agent a : Nat) (mask : BitVec 128) (data : Bytes) (poison : Bool) (errs : List SymErr)
  /-- WRITE_AGE_DRAIN (R346). A write that has waited 20 µs starts a drain at once. -/
  | writeAgeDrain (p : Fin 8)
  /-- MEM_READ_TIMEOUT (R347). A read with no data within MEM_RD_TIMEOUT returns poison and is logged as kind 2. -/
  | memReadTimeout (agent a : Nat)
  /-- PATROL_SCRUB_READ (R349). The patrol scrub reads its next line at the lowest priority and corrects it, or logs it. -/
  | patrolScrubRead (p : Fin 8) (errs : List SymErr)
  /-- MARGIN_PROBE (R354). Every PERIOD_S seconds, each port measures the read and write margins of each slice and may set MARGIN_LOW. -/
  | marginProbe (p : Fin 8) (ms : List Margin)
  /-- REFRESH (R356). A port issues per-bank refresh at the interval the devices ask for. -/
  | refresh (p : Fin 8)
  /-- REFRESH_RATE_READ (R356). Every 16 ms, a port reads each channel's refresh-rate report, sets the rate and may set HOT. -/
  | refreshRateRead (p : Fin 8) (rs : List (Nat × Bool))
  /-- BACKGROUND_FILL (R352). The background fill writes zero lines into the next unfilled 1 MiB chunk. -/
  | backgroundFill
  /-- NIGHT_ENTER (R357). A write of GLB_MEM_NIGHT.ENTER starts night retention if no work is running, or counts a refusal. -/
  | nightEnter (exit : Bool)
  /-- NIGHT_EXIT (R359). A write of GLB_MEM_NIGHT.EXIT takes the ports out of self-refresh and marks the segments not kept unfilled. -/
  | nightExit
  /-- NIGHT_ENTRY_DONE (R357). Every channel is in partial-array self-refresh, and STATE reads 2. -/
  | nightEntryDone
  /-- NIGHT_EXIT_DONE (R359). The ports have left self-refresh and the segments not kept are marked unfilled, so work resumes. -/
  | nightExitDone
  /-- POWER_FAIL_DETECT (R299). PFAIL_N or VIN_THR is recognised after its 2 µs filter, and the power-fail sequence sheds load, chains pending leaves and freezes the chain states. -/
  | powerFailDetect (pf : Bool) (mv : Nat) (acked : Bool)
  /-- MANIFEST_SIGNED (R299). The manifest signature is ready, and the journal write and the sending of segments start. -/
  | manifestSigned
  /-- JOURNAL_COMMIT_DONE (R307). The commit record is written with STATE VALID, and ISA_STATUS.STATE becomes 2 or 3. -/
  | journalCommitDone (bad : List (Fin 256))
  /-- VIN_COLLAPSE (R298). VIN stays below 2.30 V for 2 µs, and the sequence is abandoned with the chip held in reset. -/
  | vinCollapse (mv done : Nat)
  /-- POWER_RETURN_RESET (R311). After VIN and PFAIL_N have held good for 100 ms, the Isaim performs a full reset and boots. -/
  | powerReturnReset (e : BootEnv)
  /-- NPOR_FALL (R510). A recognised fall of NPOR_N commits safe state or resets, as the device state requires. -/
  | nporFall
  /-- BOOT_START (R413). NPOR_N release, with power good, starts boot: straps, references, journal read, slot checks, load and memory bring-up. -/
  | bootStart (e : BootEnv)
  /-- FLASH_READ_TIMEOUT (R412). A flash read that returns no data within 1 ms is retried, and after three failures the slot fails. -/
  | flashReadTimeout (slot : Fin 2)
  /-- JOURNAL_READ_TIMEOUT (R413). A journal read or write that does not complete within 10 ms sends boot to maintenance mode with cause 3. -/
  | journalReadTimeout
  /-- MEM_PORT_INIT_DONE (R351). A memory port completes its bring-up to STATE 2, or reaches STATE 4 on a channel mismatch. -/
  | memPortInitDone (p : Fin 8) (ok : Bool) (ms : List Margin)
  /-- SWEEP_START (R433). The stored configuration differs from the announced one, and with no sweep running a sweep of the next epoch starts. -/
  | sweepStart
  /-- EPOCH_ANNOUNCE (R434). Every unit in service has acknowledged and the digest is computed, so GLB_EPOCH and GLB_DIGEST change in one instant. -/
  | epochAnnounce
  /-- GLB_RESET (R428). A write of KEY 0x0B0B to GLB_RESET commits safe state and then resets the device. -/
  | glbReset (key : BitVec 16)
  /-- UNIT_PROGRESS_TIMEOUT (R443). A coding unit makes no handshake progress on a picture for 20 µs, and its fault source is raised. -/
  | unitProgressTimeout (agent : Fin 256)
  /-- XOP_TIMEOUT (R443). A sequencer XOP with no handshake for 10 µs raises the sequencer's fault source. -/
  | xopTimeout (i : Fin 8)
  /-- REGULATOR_OUT_OF_RANGE (R443). An on-package regulator outside its range for 10 µs raises F164. -/
  | regulatorOutOfRange
  /-- UNIT_RESET_DONE (R445). A frozen unit's pipeline reset or takeover completes, and its FLT_CAUSE bit clears. -/
  | unitResetDone (agent : Fin 256)
  /-- SAFE_STATE_EXIT (R451). With the commit complete and the safe-state bits cleared, the device leaves safe state and slots become FREE. -/
  | safeStateExit
  /-- FLT_FORCE (R456). A write of FLT_SRC_CFG.FORCE raises a fault source once, with no cause held. -/
  | fltForce (n : Fin 256)
  /-- FLT_UNFREEZE (R447). A write of FLT_UNFREEZE with the key unfreezes the named agent, or is refused and counted. -/
  | fltUnfreeze (agent : BitVec 8) (key : BitVec 16)
  /-- FLT_STATUS_CLEAR (R451). A W1C write to FLT_STATUS clears the latched bits whose cause is absent. -/
  | fltStatusClear (k : Fin 8) (bits : BitVec 32)
  /-- REF_CALIBRATION (R463). Every 10 s, the calibration block traces its references to PRECRES and REFCLK and checks them. -/
  | refCalibration (r : RefReading)
  /-- GROUP_MEASUREMENT (R465). Every MEAS_S seconds, a unit measures the replica and lines of every group and lengthens a line where needed. -/
  | groupMeasurement (agent : Fin 256) (ms : List (List Int))
  /-- CURRENT_LIMIT_STEP (R462). While VIN current would exceed 43 A, the core setpoint is lowered by 5 mV each 10 µs. -/
  | currentLimitStep
  /-- CURRENT_RESTORE_STEP (R462). After 100 ms below 40 A, the core setpoint is restored in 5 mV steps. -/
  | currentRestoreStep
  /-- REPLAN (R468). A re-plan reads the ageing monitors, sets the grade and chooses lines, setpoint and RED. -/
  | replan (ps : List RingPair) (again : List (List (Nat × List Int)))
  /-- CAL_REPLAN (R468). A write of CAL_CTRL.REPLAN starts a re-plan. -/
  | calReplan
  /-- OTP_PROGRAM (R485). The PROGRAM command writes the staged hash into an empty operator key slot. -/
  | otpProgram (num : Nat) (slot : Fin 4)
  /-- OTP_REVOKE (R485). The REVOKE command blows a slot's revoke fuse and ends the sessions authenticated with it. -/
  | otpRevoke (num : Nat) (slot : Fin 4)
  /-- OTP_ADVANCE (R485). The ADVANCE command raises the anti-rollback counter to the running image's ROLLBACK. -/
  | otpAdvance (num : Nat)
  /-- OTP_COMMAND_DONE (R485). An OTP command finishes, and BUSY clears and RESULT is set. -/
  | otpCommandDone (ok : Bool)
  /-- KEYLOAD (R484). Update-DR of the KEYLOAD instruction programs an operator key slot of an unclaimed device. -/
  | keyload (dr : BitVec 258)
  /-- JTAG_INSTRUCTION (R513). An instruction loaded into the 1149.1 instruction register takes effect, or acts as BYPASS. -/
  | jtagInstruction (code : BitVec 8)
  /-- PRT_CNT_CLR (R31). A write of 1 to PRT_CNT_CLR clears every counter of the port. -/
  | prtCntClr (p : Fin 4) (v : BitVec 32)
  /-- GLB_CNT_CLR (R82). A write of 1 to GLB_CNT_CLR clears the management and PTP counters. -/
  | glbCntClr (v : BitVec 32)
  /-- GLB_ADM_CNT_CLR (R111). A write of 1 to GLB_ADM_CNT_CLR clears the admission counters. -/
  | glbAdmCntClr (v : BitVec 32)
  /-- DEC_CNT_CLR (R160). A write of 1 to DEC_CNT_CLR clears the decode core's counters. -/
  | decCntClr (p : Fin 64) (v : BitVec 32)
  /-- ENC_CNT_CLR (R213). A write of 1 to ENC_CNT_CLR clears the encode core's counters. -/
  | encCntClr (p : Fin 24) (v : BitVec 32)
  /-- CU_CNT_CLR (R268). A write of 1 to CU_CNT_CLR clears the composition unit's counters. -/
  | cuCntClr (p : Fin 8) (v : BitVec 32)
  /-- SEAL_CNT_CLR (R293). A write of 1 to SEAL_CNT_CLR clears the sealing counters. -/
  | sealCntClr (v : BitVec 32)
  /-- HBX_CNT_CLR (R331). A write of 1 to HBX_CNT_CLR clears every headbox counter. -/
  | hbxCntClr (v : BitVec 32)
  /-- EGQ_CNT_CLR (R331). A write of 1 to EGQ_CNT_CLR clears every egress queue counter. -/
  | egqCntClr (v : BitVec 32)
  /-- MEM_CNT_CLR (R360). A write of 1 to MEM_CNT_CLR clears the memory port's counters. -/
  | memCntClr (p : Fin 8) (v : BitVec 32)
  /-- GLB_MEM_CNT_CLR (R361). A write of 1 to GLB_MEM_CNT_CLR clears the night-retention counters. -/
  | glbMemCntClr (v : BitVec 32)
  /-- FP_CNT_CLR (R371). A write of 1 to FP_CNT_CLR clears the pool's counters and sets FP_LOW to FP_FREE. -/
  | fpCntClr (p : Fin 8) (v : BitVec 32)
  /-- FP_GLB_CNT_CLR (R371). A write of 1 to FP_GLB_CNT_CLR clears FP_BAD_HANDLE. -/
  | fpGlbCntClr (v : BitVec 32)
  /-- DMA_CNT_CLR (R386). A write of 1 to DMA_CNT_CLR clears the channel's counters. -/
  | dmaCntClr (p : Fin 64) (v : BitVec 32)
  /-- SEQ_CNT_CLR (R408). A write of 1 to SEQ_CNT_CLR clears the sequencer's counters. -/
  | seqCntClr (p : Fin 8) (v : BitVec 32)
  /-- INT_CNT_CLR (R409). A write of 1 to INT_CNT_CLR clears the interrupt controller counters. -/
  | intCntClr (v : BitVec 32)
  /-- COL_CNT_CLR (R405). A write of 1 to COL_CNT_CLR clears the collector counters and COL_WORST. -/
  | colCntClr (v : BitVec 32)
  /-- GLB_CFG_CNT_CLR (R439). A write of 1 to GLB_CFG_CNT_CLR clears GLB_CFG_IMMUT and GLB_BOOT_SKIPPED. -/
  | glbCfgCntClr (v : BitVec 32)
  /-- FLT_CNT_CLR (R456). A write of 1 to FLT_CNT_CLR clears every fault counter and FLT_COUNT. -/
  | fltCntClr (v : BitVec 32)
  /-- CAL_CNT_CLR (R476). A write of 1 to CAL_CNT_CLR clears the calibration counters. -/
  | calCntClr (v : BitVec 32)
  /-- REGISTER_WRITE (R432). A write to a register with no row of its own stores mutable fields through their clamps, clears W1C bits, and leaves non-mutable fields unchanged. -/
  | registerWrite (num a : Nat) (v : BitVec 32)
  /-- BLOCK_LOCK_ACQUIRED (R30). The PCS gains block lock, which sets PRT_STATUS.LOCK and starts the 10 ms hold toward link up. -/
  | blockLockAcquired (p : Fin 4)
  /-- BLOCK_LOCK_LOST (R30). The PCS loses block lock, which clears PRT_STATUS.LOCK and starts the 1 ms timer toward link down. -/
  | blockLockLost (p : Fin 4)
  /-- DISCARDED_FRAME (R36). A received frame that fails a check of R36 or of the KT header checks of R43 is discarded and counted in the port counter of the first check it fails. -/
  | discardedFrame (f : RxFrame)
  /-- UNKNOWN_OP_REQUEST (R65). A MGMT REQUEST whose OP is unknown, or whose BODY_LEN is wrong for its OP, is answered with BAD_REQUEST and performs nothing. -/
  | unknownOpRequest (f : RxFrame)
  /-- WINDOW_RISES_FROM_ZERO (R49). An offload session's WINDOW rises from 0 as its byte bucket refills or its receive buffers free, and an ACK is sent at once. -/
  | windowRisesFromZero (r : SessRef)
  /-- POWER_RETURN (R311). VIN rises above VIN_THR plus 100 mV with PFAIL_N high, which starts the 100 ms wait for the reset or for boot. -/
  | powerReturn (mv : Nat)
  /-- INTERNAL_CHECK_FAILURE (R443). An internal, duplicated-logic or code check of a unit or block fails, and its fault source is raised. -/
  | internalCheckFailure (src : Fin 256) (record : Option (Fin 1024 × Nat))
  /-- TEMPERATURE_LIMIT_CROSSING (R443). The junction temperature crosses the operating limit, or falls 3 °C below it, which sets or clears CAL_TEMP.HOT and THERM_N and raises F165. -/
  | temperatureLimitCrossing (t : Int) (sensor : Fin 16)
  /-- REGULATOR_BACK_IN_RANGE (R444). An on-package regulator returns to its range, which clears the cause of F164 so that its status bit can be cleared. -/
  | regulatorBackInRange
  /-- TRNG_TEST_WINDOW (R483). A TRNG health-test window ends passing or failing, which makes device nonces available or unavailable to HELLO_REPLY. -/
  | trngTestWindow (pass : Bool)
  deriving DecidableEq, Repr

end Sys2Proof
end

