-- ==== Sys2Proof/Decode.lean ====
section
/-!
DEFINITION. Words of the opcode table.
-/
namespace Sys2Proof

/-- The command that a word spells. No row of spec/opcode_table.json gives bits (every row's list of fields is empty), so none (log entry 21). -/
def decodeTableWord (_nbits _w : Nat) : Option Instr := none

end Sys2Proof
end

