-- ==== Sys2Proof/Config.lean ====
section
/-!
DEFINITION. What the manual leaves to the device, to its surroundings or open: constants without a body, so that no proof can see
what they are. Each is named in the assumption log.
-/
namespace Sys2Proof.Config

/-- The n-th value that the manual leaves open (log entry 2); `w` bits of it are used. -/
opaque freeValue : Nat → Nat

/-- GLB_ID.TGRADE: a fuse (R490); 0 = KJ1024-C, 1 = KJ1024-E. -/
opaque tgradeFuse : Bool

/-- The 8 bytes of DEVICE_ID: fuses (R490). -/
opaque deviceId : Nat → Byte

/-- The private scalar of the device identity key (R478, R480). -/
opaque identityKey : Nat

/-- Bytes of the manufacturer's endorsement GLB_SEC_MFG_SIG (R481). -/
opaque mfgSig : Nat → Byte

/-- GLB_SEC_MFG_KEY (R481). -/
opaque mfgKey : BitVec 32

/-- The rows of the caption font (R518): a ROM. -/
opaque fontRow : Nat → BitVec 16

/-- The n-th byte that the TRNG gives (R483). -/
opaque trngByte : Nat → Byte

/-- Microwords of the maintenance program in on-chip ROM (R415). -/
opaque romWord : Nat → BitVec 128
/-- How many microwords the maintenance program has (R415). -/
opaque romLength : Nat
/-- Dispatch entries of the maintenance program (R415). -/
opaque romDispatch : Nat → BitVec 14

/-- The servo's frequency correction in fs per 4 ns tick, from an offset in ns and the correction in force (R76, R80: the manual
bounds the rate and does not give the servo). -/
opaque servoFreq : Int → Int → Int

/-- The state byte of a PRT_NBR entry (R32): of an entry being resolved (false) and of a resolved one (true). The manual gives no codes. -/
opaque nbrState : Bool → Byte

end Sys2Proof.Config
end

