-- ==== Sys2Proof/Machine/Depay.lean ====
section
/-!
DEFINITION. RTP packets (R114), the payload formats and modes of R41, depacketisation into NAL units and JPEG scan data (R119), and
Annex B byte streams (R121). The layouts are those of RFC 3550, RFC 6184, RFC 7798 and RFC 2435. PRESUMED (log entry 8).
-/
namespace Sys2Proof.Machine

/-- A packet of a live flow that is held, or whose number is resolved without data (R114). `seq` is extended (R116). -/
structure RtpPkt where
  seq : Nat
  ts : Nat
  marker : Bool
  payload : Bytes
  /-- refused payload mode: resolved, no record, data missing -/
  refused : Bool
  /-- arrival time in TAI nanoseconds, its quality, and the tick at which it was held -/
  arr : Nat
  tq : Nat
  tick : Nat
  deriving DecidableEq, Repr, Inhabited

/-- The fixed header of an RTP packet and its payload, extension and CSRC list skipped and padding removed (R41). -/
structure RtpHdr where
  pt : Nat
  marker : Bool
  seq : Nat
  ts : Nat
  ssrc : Nat
  payload : Bytes
  deriving DecidableEq, Repr

/-- Parse an RTP packet; none under the first row of R114. -/
def parseRtp (b : Bytes) : Option RtpHdr :=
  let b0 := fieldAt 0 1 b
  let b1 := fieldAt 1 1 b
  let cc := b0 % 16
  let x := b0 / 16 % 2
  let h1 := 12 + 4 * cc
  let ext := if x = 1 then 4 + 4 * fieldAt (h1 + 2) 2 b else 0
  let h := h1 + ext
  if b.length < 12 ∨ b0 / 64 ≠ 2 ∨ b.length < h1 + (if x = 1 then 4 else 0) ∨ b.length < h then none else
  let body := b.drop h
  let pad := if b0 / 32 % 2 = 1 then fieldAt (body.length - 1) 1 body else 0
  if body.length < pad then none else
  let payload := body.take (body.length - pad)
  if payload.isEmpty then none else
  some { pt := b1 % 128, marker := b1 / 128 == 1, seq := fieldAt 2 2 b, ts := fieldAt 4 4 b, ssrc := fieldAt 8 4 b, payload }

/-- RFC 6184: a single NAL unit, a STAP-A, or an FU-A that is not start and end at once and carries a NAL unit type of its own. -/
def avcAllowed (p : Bytes) : Bool :=
  let t := fieldAt 0 1 p % 32
  let fu := fieldAt 1 1 p
  decide (1 ≤ t ∧ t ≤ 24) || (t == 28 && decide (2 ≤ p.length) && decide (fu / 64 ≠ 3) && decide (1 ≤ fu % 32 ∧ fu % 32 ≤ 23))

/-- RFC 7798: a single NAL unit, an aggregation packet, or a fragment that is not start and end at once and carries a NAL unit type of its own;
nuh_temporal_id_plus1 is not 0. -/
def hevcAllowed (p : Bytes) : Bool :=
  let t := fieldAt 0 1 p / 2 % 64
  let fu := fieldAt 2 1 p
  decide (2 ≤ p.length) && decide (fieldAt 1 1 p % 8 ≠ 0)
    && (decide (t ≤ 48) || (t == 49 && decide (3 ≤ p.length) && decide (fu / 64 ≠ 3) && decide (fu % 64 ≤ 47)))

/-- Bytes of an RFC 2435 payload before its scan data: the main header, the restart header of types 64 and 65, and the quantisation tables that
the first fragment carries under Q 128 to 255. -/
def jpegHeadLen (p : Bytes) : Nat :=
  let h := 8 + (if 64 ≤ fieldAt 4 1 p then 4 else 0)
  h + (if fieldAt 1 3 p = 0 ∧ 128 ≤ fieldAt 5 1 p then 4 + fieldAt (h + 2) 2 p else 0)

/-- RFC 2435: types and Q of R41, headers within the payload, a restart interval that is not 0, and tables in every frame under Q 255. -/
def jpegAllowed (p : Bytes) : Bool :=
  let t := fieldAt 4 1 p
  let q := fieldAt 5 1 p
  let h := 8 + (if 64 ≤ t then 4 else 0)
  (t == 0 || t == 1 || ((t == 64 || t == 65) && decide (fieldAt 8 2 p ≠ 0))) && (decide (1 ≤ q ∧ q ≤ 99) || decide (128 ≤ q ∧ q ≤ 255))
    && decide (h ≤ p.length) && decide (jpegHeadLen p ≤ p.length)
    && !(q == 255 && fieldAt 1 3 p == 0 && fieldAt (h + 2) 2 p == 0)

/-- Is the payload mode accepted under R41, and its payload header one that the payload format allows (R114)? CODEC: 0 H.264, 1 H.265, 2 JPEG.
What the formats allow is read from their RFCs. PRESUMED (log entry 93). -/
def modeAccepted (codec : Nat) (p : Bytes) : Bool :=
  if codec = 0 then avcAllowed p else if codec = 1 then hevcAllowed p else jpegAllowed p

/-- The NAL units of an aggregation packet after its header, each with its place: each has a 16-bit size; a size that overruns ends
parsing, and the rest is missing (R119). -/
def aggFuel : Nat → Nat → Bytes → List (Nat × Bytes) × Bool
  | 0, _, _ => ([], false)
  | fuel + 1, off, b =>
    if b.isEmpty then ([], false)
    else
      let n := fieldAt 0 2 b
      if b.length < 2 ∨ b.length < 2 + n ∨ n = 0 then ([], true)
      else
        let r := aggFuel fuel (off + 2 + n) (b.drop (2 + n))
        ((off + 2, slice 2 n b) :: r.1, r.2)

/-- Header bytes of the NAL unit that fragments rebuild, and where the fragment's data starts. -/
def fuHead (codec : Nat) (p : Bytes) : Bytes × Nat :=
  if codec = 0 then (be 1 (fieldAt 0 1 p / 32 * 32 + fieldAt 1 1 p % 32), 2)
  else (be 1 (fieldAt 0 1 p / 128 * 128 + fieldAt 2 1 p % 64 * 2 + fieldAt 0 1 p % 2) ++ slice 1 1 p, 3)

/-- A fragment's start and end bits. -/
def fuBits (codec : Nat) (p : Bytes) : Bool × Bool :=
  let b := fieldAt (if codec = 0 then 1 else 2) 1 p
  (b / 128 == 1, b / 64 % 2 == 1)

/-- Is the payload an aggregation packet, a fragment? -/
def isAgg (codec : Nat) (p : Bytes) : Bool := if codec = 0 then fieldAt 0 1 p % 32 == 24 else fieldAt 0 1 p / 2 % 64 == 48
def isFu (codec : Nat) (p : Bytes) : Bool := if codec = 0 then fieldAt 0 1 p % 32 == 28 else fieldAt 0 1 p / 2 % 64 == 49

/-- What depacketisation has gathered: NAL units with the place in the unit bytes (R120) where each starts, whether data is missing,
the fragmented NAL unit in progress with its place and the number that must come next, and the bytes of the records so far. -/
structure DepayAcc where
  nals : List (Nat × Bytes) := []
  missing : Bool := false
  part : Option (Nat × Bytes × Nat) := none
  off : Nat := 0
  deriving DecidableEq, Repr

/-- Depacketise one held packet (R119): a fragmented NAL unit is complete only with its start, its end and every number between. -/
def depayStep (codec : Nat) (a : DepayAcc) (q : RtpPkt) : DepayAcc :=
  let p := q.payload
  let here := a.off + 4
  let off := here + p.length
  if q.refused then { a with missing := true }
  else if isFu codec p then
    let se := fuBits codec p
    let hd := fuHead codec p
    let data := p.drop hd.2
    let cont := match a.part with
      | some (o, x, n) => if n = q.seq then some (o, x) else none
      | none => none
    let cur := if se.1 then some (here, hd.1 ++ data) else cont.map (fun c => (c.1, c.2 ++ data))
    let lostPart := a.part.isSome && (se.1 || cont.isNone)
    match cur with
    | none => { a with part := none, missing := true, off }
    | some (o, x) =>
      if se.2 then { nals := a.nals ++ [(o, x)], part := none, missing := a.missing || lostPart, off }
      else { a with part := some (o, x, q.seq + 1), missing := a.missing || lostPart, off }
  else
    let m := a.missing || a.part.isSome
    if isAgg codec p then
      let hd := if codec = 0 then 1 else 2
      let r := aggFuel p.length (here + hd) (p.drop hd)
      { nals := a.nals ++ r.1, part := none, missing := m || r.2, off }
    else { nals := a.nals ++ [(here, p)], part := none, missing := m, off }

/-- The NAL units of an access unit's held packets with their places, and whether slice data is missing. -/
def depay (codec : Nat) (ps : List RtpPkt) : List (Nat × Bytes) × Bool :=
  let a := ps.foldl (depayStep codec) {}
  (a.nals, a.missing || a.part.isSome)

/-- A piece of a JPEG picture: its offset, the payload header and tables before it (empty in a file), and its bytes. -/
structure ScanPiece where
  off : Nat
  head : Bytes
  data : Bytes
  /-- the packet carries the marker bit -/
  last : Bool := false
  deriving DecidableEq, Repr, Inhabited

/-- JPEG scan data: fragments with their offsets and headers, in packet order (RFC 2435). -/
def jpegFrags (ps : List RtpPkt) : List ScanPiece :=
  (ps.filter (fun q => !q.refused)).map (fun q =>
    let h := jpegHeadLen q.payload
    { off := fieldAt 1 3 q.payload, head := q.payload.take h, data := q.payload.drop h, last := q.marker })

/-- Are the offsets contiguous from an offset on to the marker packet (R119)? -/
def jpegComplete : Nat → List ScanPiece → Bool
  | _, [] => false
  | off, x :: t => x.off == off && (x.last || jpegComplete (off + x.data.length) t)

/-- A NAL unit from its bytes in reverse; trailing zero bytes are dropped. -/
def closeNal : Option (Nat × Bytes) → List (Nat × Bytes)
  | none => []
  | some (o, r) => let d := r.dropWhile (· == 0#8); if d.isEmpty then [] else [(o, d.reverse)]

/-- Split an Annex B byte stream at its start codes. Bytes before the first one belong to no NAL unit. -/
def annexBFuel : Nat → Nat → Option (Nat × Bytes) → Bytes → List (Nat × Bytes)
  | 0, _, _, _ => []
  | _ + 1, _, cur, [] => closeNal cur
  | fuel + 1, off, cur, b :: t =>
    match b, t with
    | 0#8, x :: y :: rest =>
      if x = 0#8 ∧ y = 1#8 then closeNal cur ++ annexBFuel fuel (off + 3) (some (off + 3, [])) rest
      else annexBFuel fuel (off + 1) (cur.map (fun c => (c.1, b :: c.2))) t
    | _, _ => annexBFuel fuel (off + 1) (cur.map (fun c => (c.1, b :: c.2))) t

/-- The NAL units of an Annex B byte stream, each with the place of its first byte (R121). -/
def annexB (b : Bytes) : List (Nat × Bytes) := annexBFuel (b.length + 1) 0 none b

/-- nal_unit_type. -/
def nalType (codec : Nat) (n : Bytes) : Nat := if codec = 0 then fieldAt 0 1 n % 32 else fieldAt 0 1 n / 2 % 64

/-- nuh_layer_id of an H.265 NAL unit; 0 for H.264. -/
def nalLayer (codec : Nat) (n : Bytes) : Nat := if codec = 0 then 0 else fieldAt 0 2 n / 8 % 64

/-- forbidden_zero_bit. -/
def nalForbidden (n : Bytes) : Bool := fieldAt 0 1 n / 128 == 1

/-- Is it a slice NAL unit (R132)? H.264 types 1 to 5; H.265 VCL types 0 to 9 and 16 to 21. -/
def isSlice (codec : Nat) (n : Bytes) : Bool :=
  let t := nalType codec n
  if codec = 0 then decide (1 ≤ t ∧ t ≤ 5) else decide (t ≤ 9) || decide (16 ≤ t ∧ t ≤ 21)

/-- Is it a slice of a random-access-point type (R179): IDR in H.264, IRAP in H.265? -/
def isRapSlice (codec : Nat) (n : Bytes) : Bool :=
  let t := nalType codec n
  if codec = 0 then t == 5 else decide (16 ≤ t ∧ t ≤ 21)

/-- Is it an H.265 end-of-sequence or end-of-bitstream NAL unit that decode reads (R131)? The next picture then starts a coded video
sequence. -/
def isEos (codec : Nat) (n : Bytes) : Bool :=
  codec == 1 && nalLayer codec n == 0 && !nalForbidden n && (nalType codec n == 36 || nalType codec n == 37)

/-- Is it a parameter set: SPS and PPS, or VPS, SPS and PPS (R127)? -/
def isParamSet (codec : Nat) (n : Bytes) : Bool :=
  let t := nalType codec n
  if codec = 0 then t == 7 || t == 8 else t == 32 || t == 33 || t == 34

/-- A record of an offload DATA payload (R124). -/
structure OffRec where
  ts : Nat
  start : Bool
  stop : Bool
  gap : Bool
  data : Bytes
  deriving DecidableEq, Repr

/-- The records of a DATA payload; none if it is malformed (R124). -/
def offRecsFuel : Nat → Bytes → Option (List OffRec)
  | 0, b => if b.isEmpty then some [] else none
  | fuel + 1, b =>
    if b.isEmpty then some []
    else
      let n := fieldAt 6 2 b
      if b.length < 8 + n then none
      else (offRecsFuel fuel (b.drop (8 + n))).map (fun l =>
        { ts := fieldAt 0 4 b, start := fieldAt 4 1 b % 2 == 1, stop := fieldAt 4 1 b / 2 % 2 == 1,
          gap := fieldAt 4 1 b / 4 % 2 == 1, data := slice 8 n b } :: l)

/-- The records of a DATA payload. -/
def offRecs (b : Bytes) : Option (List OffRec) := offRecsFuel b.length b

end Sys2Proof.Machine
end

