-- ==== Sys2Proof/Machine/Tab.lean ====
section
/-!
DEFINITION. A sparse table: a list of (key, value) pairs with strictly rising keys and no entry equal to what an unlisted key
reads as. Registers, ports, contexts, renditions and byte memories are held so, so that equal contents are equal data.
-/
namespace Sys2Proof.Machine

/-- A sparse table from natural-number keys; what an unlisted key reads as is an argument of the operations. -/
abbrev Tab (α : Type) := List (Nat × α)

variable {α : Type}

/-- The value at a key; `d` says what an unlisted key reads as. -/
def tget (d : Nat → α) : Tab α → Nat → α
  | [], k => d k
  | (a, v) :: t, k => if k = a then v else if k < a then d k else tget d t k

/-- The table with the key set to a value; a value equal to the unlisted one removes the entry. -/
def tput [DecidableEq α] (d : Nat → α) : Tab α → Nat → α → Tab α
  | [], k, v => if v = d k then [] else [(k, v)]
  | (a, w) :: t, k, v =>
    if k < a then (if v = d k then (a, w) :: t else (k, v) :: (a, w) :: t)
    else if k = a then (if v = d k then t.dropWhile (fun e => e.1 ≤ k) else (k, v) :: t)
    else (a, w) :: tput d t k v

/-- Every key of the table lies above `lo`, the keys rise strictly, and no entry equals the unlisted value. -/
def twfFrom [DecidableEq α] (d : Nat → α) : Nat → Tab α → Bool
  | _, [] => true
  | lo, (a, v) :: t => decide (lo ≤ a) && decide (v ≠ d a) && twfFrom d (a + 1) t

/-- The canonical form of a table. -/
def twf [DecidableEq α] (d : Nat → α) (t : Tab α) : Bool := twfFrom d 0 t

/-- The keys that hold something other than the unlisted value. -/
def tkeys (t : Tab α) : List Nat := t.map (·.1)

/-- Change the value at one key. -/
def tmod [DecidableEq α] (d : Nat → α) (t : Tab α) (k : Nat) (f : α → α) : Tab α := tput d t k (f (tget d t k))

end Sys2Proof.Machine
end

