-- ==== Sys2Proof/Machine/Types.lean ====
section
/-!
DEFINITION. The kinds of state that the blocks hold outside the register map: sequencers and events (16_control_complex.md), ports,
neighbours, queues and KT sessions (02, 13), reams and seals (11), the power-fail sequence (12).
Times are ticks of the 4 ns monotonic base (R317) unless a name says nanoseconds.
-/
namespace Sys2Proof.Machine

/-! ## Control complex (R387 to R409) -/

/-- SEQ_STATUS.STATE (R408). -/
inductive SeqState
  | notLoaded | idle | running | fast | sleeping | frozen | halted
  deriving DecidableEq, Repr, Inhabited

/-- The number that SEQ_STATUS shows. -/
def SeqState.code : SeqState → Nat
  | .notLoaded => 0 | .idle => 1 | .running => 2 | .fast => 3 | .sleeping => 4 | .frozen => 5 | .halted => 6

/-- A completion record (R407); `gseq` is given at acceptance. -/
structure CRec where
  gseq : Nat
  unit : Nat
  kind : Nat
  slot : Nat
  leafSeq : Nat
  status : Nat
  value : Nat
  busy : Nat
  deriving DecidableEq, Repr, Inhabited

/-- A record that a unit holds until the collector accepts it (R404): its queue, when it was raised, rounds waited. -/
structure HeldRec where
  rcd : CRec
  dest : Nat
  raised : Nat
  rounds : Nat
  deriving DecidableEq, Repr, Inhabited

/-- A sequencer (R390, R398, R406, R408). `bank*` list the registers r0 to r31 that are not 0. -/
structure SeqSt where
  state : SeqState := .notLoaded
  cp : Nat := 0
  pc : Nat := 0
  opcode : Nat := 0
  event : Nat := 0
  fastRet : Nat := 0
  fastCp : Nat := 0
  /-- opcode of the item in the normal bank, kept while a fast event runs -/
  fastOpcode : Nat := 0
  /-- the state that the normal bank was in when a fast event was accepted -/
  fastState : SeqState := .running
  /-- events of the work items in progress, in the normal and the fast bank -/
  item : Option Nat := none
  fastItem : Option Nat := none
  bankN : Tab DWord := []
  bankF : Tab DWord := []
  zf : Bool := false
  nf : Bool := false
  cf : Bool := false
  vf : Bool := false
  err : Bool := false
  queue : List CRec := []
  /-- drained for a self-test, or out of service under R466 -/
  out : Bool := false
  deriving DecidableEq, Repr, Inhabited

/-- The control stores and dispatch tables: the eight hold the same contents (R387). -/
structure Store where
  words : Tab (BitVec 128) := []
  disp : Tab Nat := []
  length : Nat := 0
  deriving DecidableEq, Repr, Inhabited

/-- A pending event (R397): held by moderation, or offered to a sequencer. -/
structure PendEv where
  ev : Nat
  raised : Nat
  held : Bool
  offered : Option Nat
  /-- the sequencer that the event is sent to, its TARGETS aside (R445) -/
  only : Option Nat := none
  deriving DecidableEq, Repr, Inhabited

/-- The control complex. -/
structure Control where
  seqs : Tab SeqSt := []
  store : Store := {}
  events : List PendEv := []
  held : Tab (Option HeldRec) := []
  gseq : Nat := 0
  /-- command blocks that XOP UNIT sent: sequencer, agent ID, address (R393; the block's format is not in the manual) -/
  unitCmds : List (Nat × Nat × Nat) := []
  /-- requests that XOP SEAL sent: sequencer and RA's value (R393; the request's format is not in the manual) -/
  sealReqs : List (Nat × Nat) := []
  deriving DecidableEq, Repr, Inhabited

/-! ## Ports, neighbours, queues (02_ports_and_kt.md, 13_traffic.md) -/

/-- The state of a neighbour entry (R39). -/
inductive NbrState
  | resolving | resolved
  deriving DecidableEq, Repr, Inhabited

/-- A PRT_NBR entry (R39). -/
structure Nbr where
  ip : Nat
  mac : Nat := 0
  state : NbrState := .resolving
  /-- when the lifetime of 300 s ends -/
  expires : Nat := 0
  /-- requests sent and unanswered -/
  tries : Nat := 0
  /-- when the next try or failure is due -/
  retryAt : Nat := 0
  /-- the unicast refresh of this lifetime has been sent -/
  refreshed : Bool := false
  deriving DecidableEq, Repr, Inhabited

/-- A token bucket or shaper: tokens in units of 1/2,000,000 byte, the tick they were counted at (R317), and the bytes taken in that tick. -/
structure Bucket where
  tok : Int := 0
  last : Nat := 0
  used : Nat := 0
  deriving DecidableEq, Repr, Inhabited

/-- An egress port (R27 to R41, R324 to R328). -/
structure PortSt where
  /-- enabled by boot step 11 -/
  enabled : Bool := false
  /-- when block lock was gained or lost last -/
  lockTick : Nat := 0
  /-- clause 72 training, or auto-negotiation with training, is complete -/
  trained : Bool := false
  /-- a link up has happened since boot (R313) -/
  firstUp : Bool := false
  /-- frozen, stopped -/
  stopped : Bool := false
  sysq : List OutFrame := []
  /-- frames that wait for resolution, with the tick they began to wait -/
  waiting : List (OutFrame × Nat) := []
  nbrs : List Nbr := []
  /-- the virtual time V of R327 -/
  vtime : BitVec 64 := 0
  shaper : Bucket := {}
  ctl : Bucket := {}
  /-- manifest segments that are still to be sent on this port (R310) -/
  segs : List OutFrame := []
  /-- manifest segments that this port has sent of the present manifest -/
  segSent : Nat := 0
  /-- its link was up at the freeze of a commit and has stayed up (R310) -/
  steady : Bool := false
  /-- replies to echo requests in the present 1 s window (R515) -/
  echoes : Nat := 0
  /-- HELLOs of the present window (R61) -/
  hellos : Nat := 0
  deriving DecidableEq, Repr, Inhabited

/-- A sheet in a backlog: the KT datagram and where it belongs. -/
structure Sheet where
  partner : Nat
  rnd : Bool
  serial : Nat
  seq : Nat
  datagram : Bytes
  deriving DecidableEq, Repr, Inhabited

/-- A fair queue (R324 to R328). -/
structure EgqSt where
  sheets : List Sheet := []
  /-- finish tag of the head, once it is the head -/
  tag : Option (BitVec 64) := none
  last : BitVec 64 := 0
  shaper : Bucket := {}
  deriving DecidableEq, Repr, Inhabited

/-- A partner's monitoring state (R57) and whether its address is unreachable (R39). -/
structure PartnerSt where
  up : Bool := false
  lastHb : Nat := 0
  unreachable : Bool := false
  deriving DecidableEq, Repr, Inhabited

/-- A DATA chunk as its first copy was held (R50, R81). -/
structure Chunk where
  seq : Nat
  data : Bytes
  /-- receive time in TAI nanoseconds, its quality, and the tick -/
  arr : Nat
  tq : Nat
  tick : Nat
  /-- its record in packet memory reads as poison (R453) -/
  bad : Bool := false
  deriving DecidableEq, Repr, Inhabited

/-- A message that arrived while its OPEN was ADMITTING (R85): the receiving port, the message, and its receipt as a chunk's. -/
structure EarlyKt where
  port : Nat
  msg : KtMsg
  arr : Nat
  tq : Nat
  tick : Nat
  deriving DecidableEq, Repr

/-- An open OFFLOAD or MASK session (R45 to R52). -/
structure KtSess where
  cls : Nat
  partner : Nat
  id : Nat
  /-- context or rendition number -/
  target : Nat
  /-- an OFFLOAD OPEN that waits for its evaluation: arrival order number -/
  awaiting : Bool := false
  /-- messages held until that evaluation, oldest first -/
  early : List EarlyKt := []
  /-- payload of the OPEN_ACK sent -/
  openAck : Bytes := []
  /-- lowest SEQ not yet received -/
  next : Nat := 1
  /-- chunks held above NEXT -/
  held : List Chunk := []
  /-- NEXT + WINDOW last advertised -/
  edge : Nat := 1
  ackSeq : Nat := 0
  /-- in-order chunks not yet acknowledged, and when the first of them arrived -/
  unacked : Nat := 0
  unackedAt : Nat := 0
  /-- when the zero-window ACK repeats, while WINDOW is 0 -/
  zeroAt : Option Nat := none
  /-- when the current ACK was last repeated for a duplicate -/
  dupAckAt : Option Nat := none
  final : Option Nat := none
  closeAt : Nat := 0
  /-- chunks received and held in the session's life -/
  received : Nat := 0
  /-- admitted rate G in hundredths of a credit (R98) -/
  rate : Nat := 0
  /-- rate asked in the OPEN, hundredths of a credit; 0 = no limit -/
  asked : Nat := 0
  /-- byte bucket of R99: content in bytes × 250,000,000 -/
  bucket : Bucket := {}
  maxLen : Nat := 0
  /-- when it was paused (R104) -/
  pausedAt : Option Nat := none
  /-- last stored DATA, for the mask idle limit -/
  activity : Nat := 0
  deriving DecidableEq, Repr, Inhabited

/-- A session closed by CLOSE_ACK, remembered for 60 s (R51). -/
structure KtClosed where
  cls : Nat
  partner : Nat
  id : Nat
  closeAck : Bytes
  final : Nat
  expires : Nat
  deriving DecidableEq, Repr, Inhabited

/-- Ports, partners, queues and sessions. -/
structure Net where
  ports : Tab PortSt := []
  partners : Tab PartnerSt := []
  egq : Tab EgqSt := []
  sess : List KtSess := []
  closed : List KtClosed := []
  /-- heartbeats sent since boot (R56) and when the next one is due -/
  hbSeq : Nat := 0
  hbAt : Nat := 0
  /-- the 1 s windows of R515: when the present one began -/
  winAt : Nat := 0
  /-- policers of the contexts (R320) -/
  pol : Tab Bucket := []
  deriving DecidableEq, Repr, Inhabited

/-! ## Reams and seals (11_reams_and_seals.md) -/

/-- What a ream fixes when its serial is taken (R276, R277). -/
structure ReamHdr where
  serial : Nat
  span : Nat
  maxSpan : Nat
  epoch : Nat
  digest : Bytes
  /-- arrival time of the first leaf (of the first picture's SRC0 leaf for a rendition), TAI nanoseconds -/
  a1 : Nat
  /-- rendition: COMP_DIGEST of the ream's pictures (R289) -/
  comp : Bytes := []
  deriving DecidableEq, Repr, Inhabited

/-- A leaf: its unit bytes and everything its LEAF_HEAD says (R272). -/
structure Leaf where
  seq : Nat
  /-- arrival time, TAI nanoseconds -/
  arr : Nat
  tq : Nat
  rtp : Nat
  flags : Nat
  unit : Bytes
  hash : Bytes
  /-- the tick of its arrival -/
  tick : Nat := 0
  /-- blocks across and down, and the runs (reason, length) of the broke map; before it is final, the reasons 5 and 7 given before
  dispatch, 0 elsewhere (R180) -/
  bw : Nat := 0
  bh : Nat := 0
  runs : List (Nat × Nat) := []
  /-- the map is final (R180); for a rendition leaf, its encode has completed -/
  final : Bool := false
  /-- rendition: the mask record applied, with the bytes it was received in (R260) -/
  mask : Bytes := []
  /-- rendition: per valid source, context and the LEAF_SEQ shown, and the context's GENERATION -/
  srcs : List (Nat × Nat × Nat) := []
  /-- the leaf starts this ream -/
  starts : Option ReamHdr := none
  /-- the ream closes after this leaf, with this reason, decided at this tick -/
  ends : Option Nat := none
  endTick : Nat := 0
  deriving DecidableEq, Repr, Inhabited

/-- What a ream showed of one source (R288). -/
structure SrcUse where
  ctx : Nat
  gen : Nat
  first : Nat
  last : Nat
  serial : Nat
  chain : Bytes
  deriving DecidableEq, Repr, Inhabited

/-- An open ream: its chain state, counters, and the sheet being filled (R274 to R292). -/
structure Ream where
  hdr : ReamHdr
  nsc : Bool
  openHash : Bytes
  h : Bytes
  leaves : Nat := 0
  lastSeq : Nat := 0
  unitBytes : Nat := 0
  broke : Nat := 0
  deferred : Nat := 0
  degraded : Bool := false
  uses : List SrcUse := []
  sheetMax : Nat
  /-- SEQ of the sheet being filled -/
  sheetSeq : Nat := 0
  /-- records of the sheet being filled -/
  buf : Bytes := []
  bufAt : Nat := 0
  /-- LEAF_HEAD objects completed so far and H after them -/
  heads : Nat := 0
  headsH : Bytes
  /-- highest sheet SEQ whose frame left a port -/
  sent : Option Nat := none
  /-- rendition: the mask records applied so far (R260) -/
  maskData : Bytes := []
  deriving DecidableEq, Repr, Inhabited

/-- A closed ream whose seal is not yet signed (R284, R285). `sealBytes` are bytes 0 to 223 of the SEAL. -/
structure SealJob where
  slot : Nat
  serial : Nat
  final : Bytes
  leaves : Nat
  reason : Nat
  nsc : Bool
  /-- the DERIV object, empty for an original -/
  deriv : Bytes
  sealBytes : Bytes
  sheetSeq : Nat
  sheetMax : Nat
  /-- the held sheet's records -/
  buf : Bytes
  /-- highest sheet SEQ whose frame left a port -/
  sent : Option Nat
  deriving DecidableEq, Repr, Inhabited

/-- What a signature engine is doing. -/
inductive SignWork
  | seal (j : SealJob)
  | attest (ticket : Nat)
  | manifest
  /-- a signature whose result is discarded (R286) -/
  | discarded
  deriving DecidableEq, Repr, Inhabited

/-- The chain state of a slot, held in the sealing block (R110). Slot n is context n, slot 1024 + n is rendition n. -/
structure SealSlot where
  /-- leaves awaiting chaining, in LEAF_SEQ order (R300) -/
  await : List Leaf := []
  ream : Option Ream := none
  /-- serial and FINAL of the slot's previous ream since it left FREE -/
  prev : Option (Nat × Bytes) := none
  deriving DecidableEq, Repr, Inhabited

/-- The sealing block. -/
structure Sealing where
  slots : Tab SealSlot := []
  queue : List SealJob := []
  /-- SE0 and SE1 -/
  se0 : Option SignWork := none
  se1 : Option SignWork := none
  /-- ATTEST tickets waiting behind the seals -/
  attests : List Nat := []
  /-- low half of the next serial -/
  serialLo : Nat := 0
  /-- serial and H after each chained original leaf: key (context, generation, LEAF_SEQ) -/
  chainLog : Tab (Option (Nat × Bytes)) := []
  /-- slots with an entry in a safe-state manifest: serial and CHAIN (R314) -/
  links : Tab (Option (Nat × Bytes)) := []
  /-- private scalar of the per-boot ream-signing key, none before it exists -/
  bootKey : Option Nat := none
  cert : Bytes := []
  deriving DecidableEq, Repr, Inhabited

/-! ## Power failure (12_power_fail.md) -/

/-- Where a commit stands (R299). -/
inductive CommitPhase
  /-- no commit -/
  | none
  /-- the manifest's signature is being made -/
  | signing
  /-- the journal is being written -/
  | writing
  /-- the commit record is VALID, or there was nothing to commit -/
  | done
  deriving DecidableEq, Repr, Inhabited

/-- The Isaim's sequence and the journal memory. -/
structure Power where
  phase : CommitPhase := .none
  /-- a power-fail sequence has started (steps of R299), as opposed to a safe-state commit -/
  failing : Bool := false
  /-- in safe state (R448) -/
  safe : Bool := false
  /-- header and entries of the manifest being made, its ROOT and its signature -/
  body : Bytes := []
  root : Bytes := []
  sig : Bytes := []
  /-- slot, serial, CHAIN of each entry -/
  entries : List (Nat × Nat × Bytes) := []
  /-- manifests made in this boot -/
  made : Nat := 0
  /-- journal memory -/
  journal : Tab Byte := []
  /-- parts of the commit still to be written: offset and bytes -/
  parts : List (Nat × Bytes) := []
  /-- measured VIN in mV and the level of PFAIL_N (true = low) -/
  vin : Nat := 0
  pfail : Bool := false
  /-- since when VIN and PFAIL_N have been good (R311) -/
  goodSince : Option Nat := Option.none
  /-- a GLB_RESET that waits for the commit (R428), and the maintenance install's reset time -/
  resetAfter : Bool := false
  /-- the reset that waits also waits until the manifest is sent (R510) -/
  resetSend : Bool := false
  /-- the commit precedes a reset and no source caused it: FAULT_N stays released (R510) -/
  quiet : Bool := false
  resetAt : Option Nat := Option.none
  /-- the manifest to resend at each port's first link up (R313) -/
  resend : Bytes := []
  deriving DecidableEq, Repr, Inhabited

/-! ## Faults (18_faults.md) -/

/-- A raise of a source: the agent concerned (0xFF: the one that R443 names, or none), the two details of R455, and whether it was forced. -/
structure Raise where
  src : Nat
  agent : Nat := 0xFF
  d0 : Nat := 0
  d1 : Nat := 0
  forced : Bool := false
  deriving DecidableEq, Repr, Inhabited

/-- The collector's own state beside its registers. -/
structure FaultSt where
  /-- agent → 1 + the source that froze it -/
  frozenBy : Tab Nat := []
  /-- sources that reacted with safe state and are not yet cleared -/
  safeSrcs : List Nat := []
  logSeq : Nat := 0
  /-- FAULT_N and THERM_N asserted -/
  faultPin : Bool := false
  thermPin : Bool := false
  /-- raises of this instant that await its last one, and the sources raised in a tick (R442) -/
  arrived : List Raise := []
  rose : Nat × List Nat := (0, [])
  deriving DecidableEq, Repr, Inhabited

/-! ## Time and management (03_management_and_time.md) -/

/-- A clock that announces itself on the PTP port (IEEE 1588-2019): its data set, and the ticks of its last Announce and of the one before. -/
structure ForeignClock where
  ds : Announce
  last : Nat
  prev : Option Nat := none
  deriving DecidableEq, Repr, Inhabited

/-- Device time (R76 to R81): TAI in femtoseconds, the servo, and the measurements in progress. -/
structure TimeSt where
  taiFs : Nat := 0
  /-- frequency correction in fs per tick, and the correction still to be slewed in fs -/
  freq : Int := 0
  slew : Int := 0
  goodRun : Nat := 0
  badRun : Nat := 0
  lastSync : Nat := 0
  holdoverAt : Nat := 0
  /-- meanPathDelay in ns -/
  delay : Int := 0
  /-- a two-step Sync that waits for its Follow_Up: sequenceId, receive time, correction -/
  sync : Option (Nat × Nat × Int) := none
  /-- t1 and t2 of the last complete Sync, for E2E -/
  last12 : Option (Int × Int) := none
  /-- own Delay_Req or Pdelay_Req: sequenceId of the next one, and sequenceId and send time of the last one that a port has started -/
  reqSeq : Nat := 0
  req : Option (Nat × Nat) := none
  /-- announced clocks and the selected one -/
  clocks : List ForeignClock := []
  master : Option Nat := none
  deriving DecidableEq, Repr, Inhabited

/-- A management session (R59 to R69). -/
structure MgmtSess where
  num : Nat
  port : Nat
  ip : Nat
  udp : Nat
  kPD : Bytes
  kDP : Bytes
  /-- the partner's OTP key slot (R485) -/
  keySlot : Nat
  lastSeq : Nat := 0
  /-- SEQ and RESPONSE datagram of the last 8 requests, newest first -/
  answers : List (Nat × Bytes) := []
  lastReq : Nat := 0
  /-- requests taken in the tick `busyAt` (R68) -/
  busy : Nat := 0
  busyAt : Nat := 0
  deriving DecidableEq, Repr, Inhabited

/-- A ticket (R71 to R74). -/
structure Ticket where
  num : Nat
  kind : Nat
  params : Bytes
  started : Nat
  ready : Bool := false
  result : Nat := 0
  data : Bytes := []
  reads : Nat := 0
  /-- the unit's work on it has begun -/
  running : Bool := false
  deriving DecidableEq, Repr, Inhabited

/-- Management. -/
structure Mgmt where
  sess : List MgmtSess := []
  /-- sessions opened so far -/
  opened : Nat := 0
  tickets : List Ticket := []
  /-- number of the ticket issued last -/
  issued : Nat := 0
  /-- pending tickets that were released while their unit could not stop -/
  cancelled : List Nat := []
  deriving DecidableEq, Repr, Inhabited

end Sys2Proof.Machine
end

