-- ==== Sys2Proof/Machine/Coding.lean ====
section
/-!
DEFINITION. The kinds of state that the coding array works on: units and their jobs (R108, R191, R262), contexts (04 to 07), renditions
(08 to 10), admission (R100), memory ports (14), felt pools and DMA channels (15).
-/
namespace Sys2Proof.Machine

/-! ## What the coding standards fix -/

/-- A buffer's reference mark (R145). -/
inductive RefMark
  | unused | shortTerm | longTerm
  deriving DecidableEq, Repr, Inhabited

/-- What decode takes from an active SPS and the slices that use it, or from a JPEG header (R130, R132, R147, R232, R242). The syntax is that of
the standards (log entry 13). -/
structure SeqInfo where
  /-- profile_idc or general_profile_idc; JPEG: the low byte of the frame header's marker, 0xC0 for baseline -/
  profile : Nat := 0
  /-- H.264 constraint_set1_flag -/
  constrained : Bool := false
  /-- level_idc or general_level_idc -/
  level : Nat := 0
  /-- H.264: the picture is a field, or its macroblocks may be (MBAFF) -/
  fields : Bool := false
  /-- H.264: more than one slice group (FMO), slices out of order (ASO) -/
  fmo : Bool := false
  aso : Bool := false
  /-- H.265: a range, multilayer, 3D or screen-content extension is in use -/
  ext : Bool := false
  w : Nat := 0
  h : Nat := 0
  /-- sample depth, the larger of luma's and chroma's -/
  depth : Nat := 8
  /-- 0 = monochrome, 1 = 4:2:0, 2 = 4:2:2, 3 = 4:4:4 -/
  chroma : Nat := 1
  /-- DPB size in frames, reorder and latency limits of the output process -/
  dpb : Nat := 1
  reorder : Nat := 0
  latency : Nat := 0
  /-- the cropping window -/
  cropX : Nat := 0
  cropY : Nat := 0
  cropW : Nat := 0
  cropH : Nat := 0
  /-- transfer_characteristics (2 where the VUI has none) and video_full_range_flag -/
  xfer : Nat := 2
  fullRange : Bool := false
  deriving DecidableEq, Repr, Inhabited

/-- A picture that a context has decoded, as renditions see it. -/
structure PicInfo where
  ctx : Nat := 0
  gen : Nat := 0
  leafSeq : Nat := 0
  /-- arrival time in TAI nanoseconds, its quality, RTP or recorder timestamp, serial of the leaf's ream -/
  arr : Nat := 0
  tq : Nat := 0
  rtp : Nat := 0
  serial : Nat := 0
  info : SeqInfo := {}
  poc : Int := 0
  /-- coded video sequence of the context -/
  cvs : Nat := 0
  /-- the frame buffer: its number within the context, and its handle -/
  buf : Nat := 0
  handle : Nat := 0
  /-- side-scaled copies: width, height, handle -/
  copies : List (Nat × Nat × Nat) := []
  deriving DecidableEq, Repr, Inhabited

end Sys2Proof.Machine

namespace Sys2Proof.Config
open Sys2Proof.Machine

/-- A missing reference that needs a stand-in (R173), in the order the standard creates it. -/
structure Missing where
  poc : Int
  frameNum : Int
  mark : RefMark
  ltIdx : Nat
  /-- it is a frame of the H.264 gap process -/
  gap : Bool := false
  deriving DecidableEq, Repr, Inhabited

/-- An entry of an H.265 reference picture set: its picture order count, or that count's `lsb` low bits; a long-term entry; an entry of one of
the sets that the current picture may read (StCurrBefore, StCurrAfter, LtCurr). -/
structure RpsEntry where
  poc : Int
  lsb : Option Nat := none
  long : Bool := false
  curr : Bool := false
  deriving DecidableEq, Repr, Inhabited

/-- What a picture's slice headers say before its blocks are decoded. -/
structure Start where
  poc : Int := 0
  frameNum : Int := 0
  /-- no_output_of_prior_pics_flag in force -/
  noOutput : Bool := false
  /-- PicOutputFlag -/
  output : Bool := true
  /-- H.264: MaxFrameNum, PrevRefFrameNum, max_num_ref_frames -/
  maxFrameNum : Nat := 0
  prevRef : Nat := 0
  numRef : Nat := 0
  /-- H.265: the reference picture set -/
  rps : List RpsEntry := []
  /-- entries of the reference lists that would otherwise hold no picture -/
  unfilled : List Missing := []
  deriving DecidableEq, Repr, Inhabited

end Sys2Proof.Config

namespace Sys2Proof.Machine

/-! ## Units -/

/-- What a coding unit has in hand. -/
inductive Job
  | decode (ctx : Nat)
  | compose (rnd : Nat)
  | flatten (rnd : Nat)
  | encode (rnd : Nat)
  | still (ticket : Nat)
  deriving DecidableEq, Repr, Inhabited

/-- A decode core, encode core or composition unit, by agent ID (R160, R213, R268). -/
structure UnitSt where
  job : Option Job := none
  /-- tick of the dispatch, and until when the unit is held after its last picture (R94) -/
  since : Nat := 0
  holdUntil : Nat := 0
  /-- the job was dispatched again after another unit stopped (R140, R193, R263) -/
  restarted : Bool := false
  /-- slot that it ran last -/
  last : Option Nat := none
  /-- out of service under R466 -/
  oos : Bool := false
  /-- the tick at which OOS 1 was written -/
  oosAt : Option Nat := none
  /-- its last self-test failed (R470) -/
  failed : Bool := false
  /-- drained for a self-test, or in it: the ticket, 0 for the test of an unfreeze (R447) -/
  test : Option Nat := none
  deriving DecidableEq, Repr, Inhabited

/-! ## Contexts -/

/-- The access unit that an RTP flow is assembling, and what is known of its numbers (R114 to R118). -/
structure RtpSt where
  /-- highest extended number held -/
  high : Option Nat := none
  /-- the number after the last packet of the last closed unit -/
  base : Option Nat := none
  /-- held packets, in ascending order -/
  held : List RtpPkt := []
  /-- missing numbers, with the tick at which a higher one was held -/
  gaps : List (Nat × Nat) := []
  lost : List Nat := []
  deriving DecidableEq, Repr, Inhabited

/-- The offload access unit being assembled (R125). -/
structure OffUnit where
  ts : Nat
  bytes : Bytes
  missing : Bool
  /-- byte offsets at which data is missing, latest first -/
  cuts : List Nat := []
  arr : Nat
  tq : Nat
  tick : Nat
  deriving DecidableEq, Repr, Inhabited

/-- An access unit that waits for decode. -/
structure Au where
  seq : Nat
  /-- when its last byte arrived: tick, TAI nanoseconds, quality -/
  tick : Nat
  arr : Nat
  tq : Nat
  rtp : Nat
  serial : Nat
  rap : Bool
  /-- slices of the base layer, in order; those that start beyond 16 MiB apart (R131, R132) -/
  nals : List Bytes
  beyond : List Bytes
  /-- parameter sets held when it closed -/
  sets : List Bytes
  /-- JPEG: pieces of scan data, or the parts of a file -/
  scan : List ScanPiece
  file : Bool
  missing : Bool
  info : SeqInfo
  /-- an end-of-sequence NAL unit came since the picture before -/
  afterEos : Bool
  /-- it has been counted as waiting for a buffer (R144) -/
  waited : Bool := false
  /-- a core stopped while it decoded this unit (R140) -/
  restarted : Bool := false
  /-- what its slice headers fixed, and whether decoding started or restarted at it, once it has been dispatched -/
  start : Option Config.Start := none
  fresh : Bool := false
  deriving DecidableEq, Repr, Inhabited

/-- A frame buffer of a context's reference pool (R145). -/
structure FrameBuf where
  pic : PicInfo
  mark : RefMark := .unused
  /-- frame_num (FrameNumWrap) and LongTermFrameIdx of H.264 -/
  frameNum : Int := 0
  ltIdx : Nat := 0
  outPending : Bool := false
  /-- pictures output or skipped since it became pending (latency count of the output process) -/
  latency : Nat := 0
  concealed : Bool := false
  standIn : Bool := false
  /-- a stand-in that the H.264 gap process created (R168) -/
  gap : Bool := false
  deriving DecidableEq, Repr, Inhabited

/-- What the decode of a picture has left for the instant at which the collector accepts its record (R180): the broke map, reference marks (buffer,
mark, FrameNumWrap, long-term index), those of the picture itself, an H.264 memory_management_control_operation 5 and the picture order
count after it, what the next picture's decoding takes over, and the press ratio. -/
structure DecResult where
  bw : Nat
  bh : Nat
  runs : List (Nat × Nat)
  marks : List (Nat × RefMark × Int × Nat)
  own : RefMark
  ownLt : Nat
  flush : Option Int
  carry : Bytes
  ratio : Nat
  deriving DecidableEq, Repr, Inhabited

/-- A picture being decoded: its unit, its access unit, its output buffer, and its scaled copies (width, height, handle); its result once the
core is done and holds the completion record. -/
structure DecJob where
  unit : Nat
  au : Au
  handle : Nat
  copies : List (Nat × Nat × Nat)
  result : Option DecResult := none
  deriving DecidableEq, Repr, Inhabited

/-- Everything a context holds beside its registers and its chain state. -/
structure CtxSt where
  /-- payloads that arrived in ADMITTING: bytes, arrival, quality, tick (R85) -/
  early : List (Bytes × Nat × Nat × Nat) := []
  rtp : RtpSt := {}
  off : Option OffUnit := none
  /-- when the idle timer ends (R133) -/
  idleAt : Nat := 0
  /-- sequence number of the next leaf -/
  leafSeq : Nat := 0
  /-- units closed so far, newest first: arrival, bytes, has a picture (R132) -/
  window : List (Nat × Nat × Bool) := []
  /-- parameter sets held, by kind and identifier (R127) -/
  sets : Tab Bytes := []
  info : Option SeqInfo := none
  /-- the ream that the next leaf joins, for the boundary decision (R277) -/
  ream : Option ReamHdr := none
  queue : List Au := []
  /-- pictures up to the next random access point carry this reason (R110, R144) -/
  skip : Option Nat := none
  /-- decoding starts or restarts at the next random access point (R175) -/
  restart : Bool := true
  /-- an H.265 end of sequence has arrived since the last picture -/
  eos : Bool := false
  /-- decoding started or restarted at the last CRA or BLA picture, whose RASL pictures are absent (R175) -/
  noRasl : Bool := false
  /-- leaves whose limit fell in an instant in which the collector still accepts records (R180) -/
  expiring : Bool := false
  /-- what the standard's decoding process carries from picture to picture beside marks and buffers -/
  carry : Bytes := []
  dpb : List FrameBuf := []
  bufCount : Nat := 0
  cvs : Nat := 0
  /-- the picture being decoded -/
  busy : Option DecJob := none
  /-- sizes that SC0 and SC1 hold (R155) -/
  sc0 : Option (Nat × Nat) := none
  sc1 : Option (Nat × Nat) := none
  /-- press ratios of the last 32 pictures, in 64ths (R96) -/
  press : List Nat := []
  /-- pictures output last, newest first, that a mosaic tile may show (R237) -/
  shown : List PicInfo := []
  /-- timestamp of the last output picture and its 64-bit extension (R235) -/
  lastTs : Option (Nat × Int) := none
  /-- arrival of the picture output last, and the latest arrival of a picture output (R237) -/
  lastArr : Nat := 0
  topArr : Nat := 0
  /-- the admitted rate G of an offload session, hundredths of a credit (R98) -/
  grant : Option Nat := none
  deriving DecidableEq, Repr, Inhabited

/-! ## Renditions -/

/-- A picture of a rendition between its SRC0 picture's output and its encode. -/
structure Cand where
  /-- pictures that the valid sources show, in source order; none = background -/
  pics : List (Option PicInfo)
  /-- tick at which SRC0's picture was output -/
  at_ : Nat
  /-- sources that are decided (R237) -/
  tilesDone : Bool := false
  /-- the mask record (R257), and whether the picture is blanked -/
  mask : Option Bytes := none
  blank : Bool := false
  /-- tick at which the wait for its mask record ended, and it was blanked -/
  blankAt : Option Nat := none
  /-- it opens a ream for another cause than the span, and the reason with which the previous ream closes (R279, R280) -/
  opens : Bool := false
  closes : Nat := 1
  /-- its encode codes it as an IDR (R186) -/
  first : Bool := false
  /-- composition fields that it is composed with, 0x80 to 0xBC (R266) -/
  cmp : List Word := []
  /-- a unit stopped while it composed or encoded the picture (R193, R263) -/
  restarted : Bool := false
  /-- its composition has begun: opens, closes and mask are fixed; cmp too, unless the ream it turns out to belong to has other fields -/
  begun : Bool := false
  /-- its unit is done and holds the completion record; the tick -/
  done : Option Nat := none
  /-- motion fields of the pictures it shows, in source order (R201) -/
  motion : List (List Bytes) := []
  /-- the header of the ream that it opens, once an encode of it has begun -/
  starts : Option ReamHdr := none
  /-- composed picture -/
  handle : Nat := 0
  /-- tile mask and tone-mapping flag of CMP_STATUS -/
  tiles : Nat := 0
  toned : Bool := false
  /-- its composition has found no buffer -/
  denied : Bool := false
  /-- tick at which it began to wait for a reconstruction buffer (R208) -/
  waited : Option Nat := none
  deriving DecidableEq, Repr, Inhabited

/-- A surface of the image's SURFACES section (R421): ARGB8888 or indexed, and its data. -/
structure Surface where
  indexed : Bool := false
  w : Nat := 0
  h : Nat := 0
  data : Bytes := []
  deriving DecidableEq, Repr, Inhabited

/-- A still that waits for, or is on, an encode core (R209): its ticket, the picture, and the composed picture of a rendition. -/
structure Still where
  ticket : Nat
  pic : PicInfo
  rnd : Option Nat
  handle : Nat
  leafSeq : Nat
  /-- arrival time and quality of that leaf -/
  arr : Nat
  tq : Nat
  deriving DecidableEq, Repr, Inhabited

/-- Rate-control state of a ream (R215). -/
structure RateSt where
  full : Nat := 0
  carry : Int := 0
  /-- f, R_p, a, B, and whether R_p was raised (R216, R217) -/
  fps : Nat := 0
  raised : Bool := false
  peak : Nat := 0
  gain : Nat := 0
  size : Nat := 0
  /-- index of the next picture; picture QP, budget, size and mean row QP of the previous one -/
  n : Nat := 0
  qp : Nat := 0
  budget : Int := 0
  bits : Nat := 0
  meanQp : Nat := 0
  rows : List Nat := []
  deriving DecidableEq, Repr, Inhabited

/-- A reconstruction that a rendition still refers to (R195). -/
structure Recon where
  handle : Nat
  idr : Bool
  /-- what the picture showed (for R201) -/
  pics : List (Option PicInfo)
  deriving DecidableEq, Repr, Inhabited

/-- What the encode of a picture has left for the instant at which the collector accepts its record (R190, R228): the leaf, the state of rate
control, its registers (status, F, K), an overrun in bits, floor mode and forced CTUs, and the press ratio. -/
structure EncResult where
  leaf : Leaf
  rate : RateSt
  status : Nat
  full : Nat
  carry : Int
  overrun : Option Nat
  floor : Bool
  forced : Bool
  ratio : Nat
  deriving DecidableEq, Repr, Inhabited

/-- A picture being encoded: its unit, the picture, its reconstruction buffer; its result once the core is done and holds the completion
record. -/
structure EncJob where
  unit : Nat
  cand : Cand
  handle : Nat
  /-- the ream that it opens -/
  starts : Option ReamHdr := none
  result : Option EncResult := none
  deriving DecidableEq, Repr, Inhabited

/-- Everything a rendition holds beside its registers and its chain state. -/
structure RndSt where
  /-- anchor A, timestamp of the last candidate, next tick index j (R235) -/
  anchor : Option Int := none
  lastTs : Int := 0
  tickJ : Int := 0
  /-- candidates numbered since the ream opened (R236) -/
  candNo : Nat := 0
  /-- candidates, oldest first -/
  wait : List Cand := []
  /-- composed pictures, oldest first -/
  ready : List Cand := []
  cmpUnit : Option Nat := none
  encUnit : Option EncJob := none
  lastCu : Option Nat := none
  lastEc : Option Nat := none
  /-- composition fields of the ream in progress (0x80 to 0xBC) -/
  cmp : List Word := []
  /-- rate-control fields, NUM_REF and GUIDED in force (R194, R215) -/
  rc : List Word := []
  numRef : Nat := 1
  guided : Bool := true
  /-- RC_STATUS, RC_FULL and RC_CARRY before their last update, and its tick (R228) -/
  rcWas : Option (Nat × List Word) := none
  /-- of the ream in progress: SRC0 arrival time of its first picture, and SPAN_MS as its serial was taken (R277, R279) -/
  ream : Option (Nat × Nat) := none
  leafSeq : Nat := 0
  rate : RateSt := {}
  recon : List Recon := []
  press : List Nat := []
  /-- mask records held: LEAF_SEQ and bytes -/
  masks : List (Nat × Bytes) := []
  /-- highest source LEAF_SEQ composed -/
  composedTo : Option Nat := none
  /-- flattened surface: what it was built from, and its handle -/
  surf : Option (List Word × Nat) := none
  /-- a MOSAIC that shedding has stopped (R102) -/
  stopped : Bool := false
  /-- why the ream in progress closes once its last picture is encoded (R106, R280) -/
  ending : Option Nat := none
  deriving DecidableEq, Repr, Inhabited

/-! ## Admission -/

/-- A request that waits for an evaluation (R100). -/
inductive AdmReq
  | live (ctx port : Nat)
  | offload (ctx port partner session rate : Nat)
  /-- `port` is 4 where microcode wrote OPEN (R100) -/
  | rnd (n port : Nat)
  deriving DecidableEq, Repr, Inhabited

/-- Admission and shedding. -/
structure Adm where
  /-- requests with the tick of their arrival, in arrival order -/
  reqs : List (Nat × AdmReq) := []
  /-- overloaded evaluations in a row, of decode, encode, composition and memory (R102) -/
  ovDec : Nat := 0
  ovEnc : Nat := 0
  ovCmp : Nat := 0
  ovMem : Nat := 0
  /-- the same since step 3 came into force, of encode or composition, and since step 4, of decode or memory (R103) -/
  after3 : Nat := 0
  after4 : Nat := 0
  /-- evaluations in a row at which the charges fit with the step lifted, from this tick -/
  fitSince : Option Nat := none
  lastChange : Nat := 0
  lastEval : Option Nat := none
  /-- LIMIT_PCT as of the last evaluation (R100); before the first one, its reset value -/
  limitPct : Nat := 100
  deriving DecidableEq, Repr, Inhabited

/-! ## Boot, image, OTP (R410 to R439, R477 to R489) -/

/-- Where boot stands (R413, R414): held in reset, reading the journal, reading slot A or B, waiting for the memory ports, writing the boot
record, the same in maintenance mode, running, or stopped at step 9. -/
inductive BootPhase
  | off | journal | slot (k : Nat) | memory | record | maintRecord | running | stopped
  deriving DecidableEq, Repr, Inhabited

/-- What the device keeps of the running image (R436, R485, R486). -/
structure ImageInfo where
  keySlot : Nat := 0
  rollback : Nat := 0
  hash : Bytes := []
  /-- BASE, PATCH and SHA-256 of the microcode payload -/
  mcBase : Nat := 0
  mcPatch : Nat := 0
  /-- TYPE and SHA-256 of the sections of types 2, 3 and 4 -/
  sections : List (Nat × Bytes) := []
  deriving DecidableEq, Repr, Inhabited

/-- A kilobyte that waits to be programmed (R426). -/
structure FlashWrite where
  slot : Nat
  off : Nat
  data : Bytes
  deriving DecidableEq, Repr, Inhabited

/-- One-time-programmable memory and its commands (R484, R485). -/
structure Otp where
  keys : Tab (Option Bytes) := []
  revoked : Nat := 0
  rollback : Nat := 0
  /-- the command that runs: 1 to 3, its slot -/
  busy : Option (Nat × Nat) := none
  /-- the hash that a running PROGRAM writes -/
  hash : Bytes := []
  result : Nat := 0
  /-- GLB_SEC_STAGE -/
  stage : Tab Word := []
  deriving DecidableEq, Repr, Inhabited

/-- Boot, flash, image, OTP, TRNG, test port. -/
structure BootSt where
  phase : BootPhase := .off
  straps : Nat := 0
  /-- REFCLKA and REFCLKB are present (R29) -/
  refA : Bool := true
  refB : Bool := true
  /-- the tick of the last announcement, and the epoch and digest that it ended (R285) -/
  announced : Option (Nat × Nat × Bytes) := none
  /-- the identity key's unwrap succeeds (R480) -/
  unwrapOk : Bool := true
  /-- timeouts of the present flash read (R412) -/
  tries : Nat := 0
  /-- the boot record copy that is current, 0 or 1 -/
  copy : Option Nat := none
  /-- configuration flash: slot A at 0, slot B at 2^24; an unlisted byte is erased, 0xFF -/
  flash : Tab Byte := []
  queue : List FlashWrite := []
  /-- slots with a program or erase failure since their first sector was last erased -/
  failed : List Nat := []
  /-- the slot whose IMAGE_INSTALL returned verdict 0 in this boot, with no IMAGE_BLOCK to it since (R427) -/
  verified : Option Nat := none
  image : Option ImageInfo := none
  /-- FLAGS.FROZEN, and the lock entries: ADDR, MASK, STRIDE, COUNT (R422, R431) -/
  frozenImg : Bool := false
  locks : List (Nat × Nat × Nat × Nat) := []
  seed : Bytes := []
  otp : Otp := {}
  /-- bytes that the TRNG has given, and its failing test windows in a row (R483) -/
  trng : Nat := 0
  trngFails : Nat := 0
  /-- units that have not taken the announced configuration (R435), by agent ID -/
  deferred : List Nat := []
  /-- NPOR_N is low -/
  nporLow : Bool := false
  /-- the instruction in force at the test port (R513) -/
  jtag : Nat := 1
  deriving DecidableEq, Repr, Inhabited

/-! ## Calibration (R457 to R476) -/

/-- The calibration block beside its registers. -/
structure CalSt where
  /-- margins of L0 to L3 in 0.1 % at a group's last measurement; [] before the first -/
  lines : Tab (List Int) := []
  /-- LINE values of a seed that wait for their group's first measurement (R474): 1 + the line -/
  seed : Tab Nat := []
  /-- last measurement by agent, of the references, and of the current limit steps -/
  measAt : Tab Nat := []
  refAt : Option Nat := none
  limitAt : Nat := 0
  lowerAt : Nat := 0
  /-- mV by which the current limit lowers the core -/
  lowered : Nat := 0
  /-- MV and RED that the last re-plan chose -/
  planMv : Nat := 720
  planRed : Nat := 0
  /-- when the next re-plan is due -/
  replanAt : Option Nat := none
  /-- monitor pairs excluded until reset (R467) -/
  badPairs : List Nat := []
  /-- base of CAL_HOURS, and when it was set -/
  hoursAt : Nat := 0
  deriving DecidableEq, Repr, Inhabited

/-! ## Memory -/

/-- A queued write (R345): the line, when it was accepted, by whom, and the bytes of the line that it holds (the data itself is in memory, where every
later read finds it). -/
structure WqEnt where
  line : Nat
  at_ : Nat
  agent : Nat
  mask : BitVec 128 := BitVec.allOnes 128
  deriving DecidableEq, Repr, Inhabited

/-- A request to a memory port (R343): agent, address, and length, or enabled bytes with data that may arrive as poison; and the symbol errors of the
read that it takes. -/
inductive MemReq
  | read (agent a n : Nat) (errs : List SymErr)
  | write (agent a : Nat) (mask : BitVec 128) (data : Bytes) (poison : Bool) (errs : List SymErr)
  deriving DecidableEq, Repr

/-- A record in the context cache (R109): its number in the backing store, and whether it differs from what stands there. -/
structure CacheRec where
  slot : Nat
  modified : Bool
  deriving DecidableEq, Repr, Inhabited

/-- A memory port (R343 to R356). -/
structure MemPort where
  wq : List WqEnt := []
  /-- requests of this instant, until the last of them has come (R343) -/
  arrivals : List MemReq := []
  /-- refresh interval in force, in ticks (R356) -/
  refresh : Nat := 0
  lastRefresh : Nat := 0
  lastReport : Nat := 0
  lastProbe : Nat := 0
  /-- next line of the patrol scrub, and when it read last -/
  scrub : Nat := 0
  lastScrub : Nat := 0
  logSeq : Nat := 0
  /-- bring-up finished at this tick -/
  upAt : Nat := 0
  deriving DecidableEq, Repr, Inhabited

/-- A response of a memory port: the tick, the requester, the address, and the data, none for poison (R347). The model's own record. -/
structure MemResp where
  at_ : Nat
  agent : Nat
  addr : Nat
  data : Option Bytes
  deriving DecidableEq, Repr, Inhabited

/-- A felt operation that has reached the manager (R366). -/
inductive FeltReq
  | alloc (by_ : FeltBy)
  | free (by_ : FeltBy)
  | give (by_ : FeltBy)
  deriving DecidableEq, Repr

/-- Memory: packet memory, DRAM and unit SRAM by DMA address (R372). -/
structure MemSt where
  cells : List (Nat × Byte) := []
  /-- DRAM lines (address / 128) that carry the poison mark (R342) -/
  poison : Tab Bool := []
  /-- 1 MiB chunks that are filled (R352) -/
  filled : Tab Bool := []
  ports : Tab MemPort := []
  /-- since when night entry or exit runs, and the KEEP that entry took (R357, R361) -/
  nightAt : Nat := 0
  keep : Nat := 255
  /-- bytes of packet memory and unit SRAM that were written as poison (R382) -/
  badBytes : Tab Bool := []
  /-- bytes in the input FIFOs of the hash engines, oldest first; none: a poisoned byte (R372) -/
  heFifo : Tab (List (Option Byte)) := []
  /-- the handles that the ALLOCs of the last instant with some gave, in order: tick, sender, handle (the model's own record) -/
  handles : List (Nat × Nat × Nat) := []
  /-- felt operations of this instant that await its last one (R367) -/
  felts : List FeltReq := []
  /-- the responses of the last instant that had some, in order -/
  resp : List MemResp := []
  /-- the context cache, most recently used first (R109) -/
  records : List CacheRec := []
  deriving DecidableEq, Repr, Inhabited

/-- A felt pool (R366, R367): owners of allocated buffers, and the free FIFO as what differs from ascending order. -/
structure Pool where
  /-- owner by index: 1 + agent ID; 0 = free -/
  owner : Tab Nat := []
  /-- indices that were never allocated begin here -/
  fresh : Nat := 0
  /-- freed buffers, oldest first; they follow the never-allocated ones -/
  freed : List Nat := []
  deriving DecidableEq, Repr, Inhabited

/-- What a channel fetched at an address (R385): an instruction, or an error of R382 with its kind. -/
inductive DmaWord
  | word (w : Nat)
  | err (kind : Nat)
  deriving DecidableEq, Repr, Inhabited

/-- A DMA program's place (R384, R385): address, the active loop counters, the fetched copies from the address on, and since when the
instruction waits. -/
structure DmaProg where
  pc : Nat
  loops : Tab Nat := []
  fetched : List DmaWord := []
  waitFrom : Option Nat := none
  deriving DecidableEq, Repr, Inhabited

/-- A DMA channel beside its registers (R373 to R385). -/
structure DmaCh where
  /-- the active set has a transfer, and the bytes of it that have moved -/
  active : Bool := false
  moved : Nat := 0
  /-- SHADOW_VALID -/
  shadow : Bool := false
  prog : Option DmaProg := none
  /-- the sequencer that last armed it -/
  armedBy : Nat := 0
  /-- STATE 4 -/
  stopped : Bool := false
  deriving DecidableEq, Repr, Inhabited

end Sys2Proof.Machine
end

