-- ==== Sys2Proof/Machine/RegMap.lean ====
section
/-!
DEFINITION. The management address map: every register that the chapters of the manual lay out (00_scope.md R5 to R16 and the
register table of each chapter), as rows of (base, strides, fields), and the address of each register under its own name.
A counter's name is the address of the low half of its pair (R10).
-/
namespace Sys2Proof.Machine

/-- Access types of R7. -/
inductive Access
  | ro | rw | w1c | wo
  deriving DecidableEq, Repr

/-- How a field's own illegal values become legal ones (R12; the rule of each register table). -/
inductive Clamp
  /-- every value is legal -/
  | any
  /-- a numeric range, clamped to the nearer end -/
  | range (lo hi : Nat)
  /-- a value above `max` becomes `v` -/
  | above (max v : Nat)
  /-- 0 is legal, every other value is clamped into the range -/
  | zeroOr (lo hi : Nat)
  /-- even values of a range; an odd value becomes the next lower even one -/
  | even (lo hi : Nat)
  /-- four bytes of printable ASCII; any other byte becomes 0x20 -/
  | ascii
  /-- a signed 32-bit value from −m to m -/
  | signed (m : Nat)
  /-- bit 0 becomes 1 -/
  | orOne
  deriving DecidableEq, Repr

/-- One field of a register: lowest bit, width, access, reset value, clamp, and whether its chapter names it mutable (R431). -/
structure Field where
  lo : Nat
  w : Nat
  acc : Access
  reset : Nat
  clamp : Clamp
  mutable : Bool
  deriving DecidableEq, Repr

/-- A row of the map: the registers `base + i * s1 + j * s2` for `i < n1` and `j < n2`. -/
structure Row where
  base : Nat
  n1 : Nat
  s1 : Nat
  n2 : Nat
  s2 : Nat
  /-- R10: 0 no pair; 1 pairs of registers, the low word at even j; 2 the low word of a pair -/
  pair : Nat
  fields : List Field
  deriving DecidableEq, Repr


/-- The rows of the global block. -/
def rowsGlobal0 : List Row := [
  -- GLB_ID (21_register_map.md R490)
  ⟨0x0, 1, 0x4, 1, 0x4, 0, [⟨0, 8, .ro, 0xB0, .any, false⟩, ⟨8, 4, .ro, 0x0, .any, false⟩, ⟨16, 16, .ro, 0x1024, .any, false⟩]⟩,
  -- GLB_UNITS (21_register_map.md R490)
  ⟨0x4, 1, 0x4, 1, 0x4, 0, [⟨0, 7, .ro, 0x40, .any, false⟩, ⟨8, 5, .ro, 0x18, .any, false⟩, ⟨16, 4, .ro, 0x8, .any, false⟩, ⟨20, 4, .ro, 0x8, .any, false⟩]⟩,
  -- GLB_DEVICE_ID (21_register_map.md R490)
  ⟨0x8, 1, 0x8, 2, 0x4, 0, [⟨0, 32, .ro, 0x0, .any, false⟩]⟩,
  -- GLB_STATE (21_register_map.md R490)
  ⟨0x10, 1, 0x4, 1, 0x4, 0, [⟨0, 3, .ro, 0x0, .any, false⟩, ⟨8, 1, .w1c, 0x0, .any, false⟩]⟩,
  -- GLB_UPTIME (21_register_map.md R490)
  ⟨0x14, 1, 0x4, 1, 0x4, 0, [⟨0, 32, .ro, 0x0, .any, false⟩]⟩,
  -- GLB_OPEN (21_register_map.md R490)
  ⟨0x18, 1, 0x4, 1, 0x4, 0, [⟨0, 11, .ro, 0x0, .any, false⟩, ⟨16, 11, .ro, 0x0, .any, false⟩]⟩,
  -- GLB_PTP_CFG (03_management_and_time.md R82)
  ⟨0x400, 1, 0x4, 1, 0x4, 0, [⟨0, 1, .rw, 0x0, .any, false⟩, ⟨1, 2, .rw, 0x1, .any, false⟩, ⟨3, 1, .rw, 0x0, .any, false⟩, ⟨4, 2, .rw, 0x1, .above 2 0, false⟩, ⟨8, 8, .rw, 0x0, .range 0 127, false⟩]⟩,
  -- GLB_PTP_TIMERS (03_management_and_time.md R83)
  ⟨0x404, 1, 0x4, 1, 0x4, 0, [⟨0, 8, .rw, 0x3, .range 1 60, false⟩, ⟨16, 16, .rw, 0x3C, .range 1 10080, false⟩]⟩,
  -- GLB_PTP_ASYM (03_management_and_time.md R77)
  ⟨0x408, 1, 0x4, 1, 0x4, 0, [⟨0, 32, .rw, 0x0, .signed 100000, false⟩]⟩,
  -- GLB_TIME (03_management_and_time.md R76)
  ⟨0x410, 1, 0xC, 3, 0x4, 0, [⟨0, 32, .ro, 0x0, .any, false⟩]⟩,
  -- GLB_TIME_STATUS (03_management_and_time.md R83)
  ⟨0x420, 1, 0x4, 1, 0x4, 0, [⟨0, 3, .ro, 0x4, .any, false⟩, ⟨3, 1, .ro, 0x0, .any, false⟩, ⟨8, 1, .w1c, 0x0, .any, false⟩]⟩,
  -- GLB_PTP_OFFSET (03_management_and_time.md R83)
  ⟨0x424, 1, 0x4, 1, 0x4, 0, [⟨0, 32, .ro, 0x0, .any, false⟩]⟩,
  -- GLB_PTP_MASTER (03_management_and_time.md R83)
  ⟨0x428, 1, 0x8, 2, 0x4, 1, [⟨0, 32, .ro, 0x0, .any, false⟩]⟩,
  -- GLB_MGMT_ADDR_ERR (03_management_and_time.md R67)
  ⟨0x500, 1, 0x4, 1, 0x4, 0, [⟨0, 32, .ro, 0x0, .any, false⟩]⟩,
  -- GLB_MGMT_AUTH_FAIL (03_management_and_time.md R61)
  ⟨0x504, 1, 0x4, 1, 0x4, 0, [⟨0, 32, .ro, 0x0, .any, false⟩]⟩,
  -- GLB_MGMT_REPLAY (03_management_and_time.md R69)
  ⟨0x508, 1, 0x4, 1, 0x4, 0, [⟨0, 32, .ro, 0x0, .any, false⟩]⟩,
  -- GLB_MGMT_SESSIONS (03_management_and_time.md R61)
  ⟨0x50C, 1, 0x4, 1, 0x4, 0, [⟨0, 3, .ro, 0x0, .any, false⟩]⟩,
  -- GLB_PTP_LOSS (03_management_and_time.md R80)
  ⟨0x510, 1, 0x4, 1, 0x4, 0, [⟨0, 32, .ro, 0x0, .any, false⟩]⟩,
  -- GLB_CNT_CLR (03_management_and_time.md R82)
  ⟨0x5FC, 1, 0x4, 1, 0x4, 0, [⟨0, 1, .wo, 0x0, .any, false⟩]⟩,
  -- GLB_ADM_CFG (04_contexts_and_admission.md R111)
  ⟨0x600, 1, 0x4, 1, 0x4, 0, [⟨0, 5, .rw, 0xA, .range 0 30, true⟩, ⟨8, 7, .rw, 0x64, .range 10 100, true⟩, ⟨16, 7, .rw, 0x15, .range 0 100, false⟩]⟩,
  -- GLB_ADM_DEFER (04_contexts_and_admission.md R111)
  ⟨0x604, 1, 0x4, 1, 0x4, 0, [⟨0, 14, .rw, 0x7D0, .range 250 10000, true⟩]⟩,
  -- GLB_ADM_STATE (04_contexts_and_admission.md R111)
  ⟨0x608, 1, 0x4, 1, 0x4, 0, [⟨0, 3, .ro, 0x0, .any, false⟩, ⟨3, 4, .ro, 0x0, .any, false⟩, ⟨8, 1, .w1c, 0x0, .any, false⟩, ⟨16, 11, .ro, 0x0, .any, false⟩]⟩,
  -- GLB_CAP (04_contexts_and_admission.md R93)
  ⟨0x610, 1, 0x10, 4, 0x4, 0, [⟨0, 32, .ro, 0x0, .any, false⟩]⟩,
  -- GLB_LOAD (04_contexts_and_admission.md R95)
  ⟨0x620, 1, 0x10, 4, 0x4, 0, [⟨0, 32, .ro, 0x0, .any, false⟩]⟩,
  -- GLB_ADM_REFUSED (04_contexts_and_admission.md R97)
  ⟨0x630, 1, 0x4, 1, 0x4, 0, [⟨0, 32, .ro, 0x0, .any, false⟩]⟩]

/-- More rows of the global block. -/
def rowsGlobal1 : List Row := [
  -- GLB_SHED_COUNT (04_contexts_and_admission.md R105)
  ⟨0x634, 1, 0x4, 1, 0x4, 0, [⟨0, 32, .ro, 0x0, .any, false⟩]⟩,
  -- GLB_SUSPEND_COUNT (04_contexts_and_admission.md R103)
  ⟨0x638, 1, 0x4, 1, 0x4, 0, [⟨0, 32, .ro, 0x0, .any, false⟩]⟩,
  -- GLB_CACHE_MISS (04_contexts_and_admission.md R109)
  ⟨0x63C, 1, 0x4, 1, 0x4, 0, [⟨0, 32, .ro, 0x0, .any, false⟩]⟩,
  -- GLB_ADM_CNT_CLR (04_contexts_and_admission.md R111)
  ⟨0x6FC, 1, 0x4, 1, 0x4, 0, [⟨0, 1, .wo, 0x0, .any, false⟩]⟩,
  -- GLB_ENC_CFG (08_encode.md R212)
  ⟨0x700, 1, 0x4, 1, 0x4, 0, [⟨0, 2, .rw, 0x1, .range 1 2, true⟩, ⟨2, 1, .rw, 0x1, .any, true⟩, ⟨8, 7, .rw, 0x55, .range 1 100, true⟩]⟩,
  -- GLB_MEM_CFG (14_memory.md R361)
  ⟨0x800, 1, 0x4, 1, 0x4, 0, [⟨0, 2, .rw, 0x0, .any, false⟩, ⟨2, 1, .rw, 0x0, .any, false⟩, ⟨3, 2, .rw, 0x1, .above 2 2, false⟩]⟩,
  -- GLB_MEM_CAP (14_memory.md R361)
  ⟨0x804, 1, 0x4, 1, 0x4, 0, [⟨0, 18, .ro, 0x0, .any, false⟩]⟩,
  -- GLB_MEM_FILL (14_memory.md R361)
  ⟨0x808, 1, 0x4, 1, 0x4, 0, [⟨0, 7, .ro, 0x0, .any, false⟩, ⟨7, 1, .ro, 0x0, .any, false⟩]⟩,
  -- GLB_MEM_MAP_PORT0_LO (14_memory.md R336)
  ⟨0x810, 1, 0x4, 1, 0x4, 2, [⟨7, 25, .rw, 0x82002, .any, false⟩]⟩,
  -- GLB_MEM_MAP_PORT0_HI (14_memory.md R336)
  ⟨0x814, 1, 0x4, 1, 0x4, 0, [⟨0, 5, .rw, 0x0, .any, false⟩]⟩,
  -- GLB_MEM_MAP_PORT1_LO (14_memory.md R336)
  ⟨0x818, 1, 0x4, 1, 0x4, 2, [⟨7, 25, .rw, 0x104004, .any, false⟩]⟩,
  -- GLB_MEM_MAP_PORT1_HI (14_memory.md R336)
  ⟨0x81C, 1, 0x4, 1, 0x4, 0, [⟨0, 5, .rw, 0x0, .any, false⟩]⟩,
  -- GLB_MEM_MAP_PORT2_LO (14_memory.md R336)
  ⟨0x820, 1, 0x4, 1, 0x4, 2, [⟨7, 25, .rw, 0x208008, .any, false⟩]⟩,
  -- GLB_MEM_MAP_PORT2_HI (14_memory.md R336)
  ⟨0x824, 1, 0x4, 1, 0x4, 0, [⟨0, 5, .rw, 0x0, .any, false⟩]⟩,
  -- GLB_MEM_MAP_BG0_LO (14_memory.md R336)
  ⟨0x828, 1, 0x4, 1, 0x4, 2, [⟨7, 25, .rw, 0x410010, .any, false⟩]⟩,
  -- GLB_MEM_MAP_BG0_HI (14_memory.md R336)
  ⟨0x82C, 1, 0x4, 1, 0x4, 0, [⟨0, 5, .rw, 0x0, .any, false⟩]⟩,
  -- GLB_MEM_MAP_BG1_LO (14_memory.md R336)
  ⟨0x830, 1, 0x4, 1, 0x4, 2, [⟨7, 25, .rw, 0x820020, .any, false⟩]⟩,
  -- GLB_MEM_MAP_BG1_HI (14_memory.md R336)
  ⟨0x834, 1, 0x4, 1, 0x4, 0, [⟨0, 5, .rw, 0x0, .any, false⟩]⟩,
  -- GLB_MEM_MAP_BA0_LO (14_memory.md R336)
  ⟨0x838, 1, 0x4, 1, 0x4, 2, [⟨7, 25, .rw, 0x1040040, .any, false⟩]⟩,
  -- GLB_MEM_MAP_BA0_HI (14_memory.md R336)
  ⟨0x83C, 1, 0x4, 1, 0x4, 0, [⟨0, 5, .rw, 0x0, .any, false⟩]⟩,
  -- GLB_MEM_MAP_BA1_LO (14_memory.md R336)
  ⟨0x840, 1, 0x4, 1, 0x4, 2, [⟨7, 25, .rw, 0x80, .any, false⟩]⟩,
  -- GLB_MEM_MAP_BA1_HI (14_memory.md R336)
  ⟨0x844, 1, 0x4, 1, 0x4, 0, [⟨0, 5, .rw, 0x1, .any, false⟩]⟩,
  -- GLB_MEM_SCRUB (14_memory.md R361)
  ⟨0x850, 1, 0x4, 1, 0x4, 0, [⟨0, 8, .rw, 0x18, .range 0 168, true⟩]⟩,
  -- GLB_MEM_PROBE (14_memory.md R361)
  ⟨0x854, 1, 0x4, 1, 0x4, 0, [⟨0, 12, .rw, 0x3C, .range 10 3600, true⟩, ⟨16, 6, .rw, 0x8, .range 1 32, true⟩]⟩,
  -- GLB_MEM_NIGHT (14_memory.md R361)
  ⟨0x858, 1, 0x4, 1, 0x4, 0, [⟨0, 1, .wo, 0x0, .any, false⟩, ⟨1, 1, .wo, 0x0, .any, false⟩, ⟨4, 8, .rw, 0xFF, .orOne, true⟩, ⟨16, 2, .ro, 0x0, .any, false⟩]⟩]

/-- More rows of the global block. -/
def rowsGlobal2 : List Row := [
  -- GLB_MEM_NIGHT_REFUSED (14_memory.md R357)
  ⟨0x870, 1, 0x4, 1, 0x4, 0, [⟨0, 32, .ro, 0x0, .any, false⟩]⟩,
  -- GLB_MEM_NIGHT_DROP (14_memory.md R359)
  ⟨0x874, 1, 0x4, 1, 0x4, 0, [⟨0, 32, .ro, 0x0, .any, false⟩]⟩,
  -- GLB_MEM_CNT_CLR (14_memory.md R361)
  ⟨0x8FC, 1, 0x4, 1, 0x4, 0, [⟨0, 1, .wo, 0x0, .any, false⟩]⟩,
  -- GLB_EPOCH (17_boot_and_configuration.md R434)
  ⟨0x900, 1, 0x4, 1, 0x4, 0, [⟨0, 32, .ro, 0x0, .any, false⟩]⟩,
  -- GLB_EPOCH_PEND (17_boot_and_configuration.md R433)
  ⟨0x904, 1, 0x4, 1, 0x4, 0, [⟨0, 32, .ro, 0x0, .any, false⟩]⟩,
  -- GLB_CFG_STATUS (17_boot_and_configuration.md R439)
  ⟨0x908, 1, 0x4, 1, 0x4, 0, [⟨0, 1, .ro, 0x0, .any, false⟩, ⟨8, 8, .ro, 0x0, .any, false⟩, ⟨16, 8, .ro, 0x0, .any, false⟩, ⟨24, 1, .w1c, 0x0, .any, false⟩]⟩,
  -- GLB_DIGEST (17_boot_and_configuration.md R436)
  ⟨0x910, 1, 0x20, 8, 0x4, 0, [⟨0, 32, .ro, 0x0, .any, false⟩]⟩,
  -- GLB_BOOT_STATUS (17_boot_and_configuration.md R439)
  ⟨0x930, 1, 0x4, 1, 0x4, 0, [⟨0, 2, .ro, 0x0, .any, false⟩, ⟨4, 4, .ro, 0xA, .any, false⟩, ⟨8, 4, .ro, 0xA, .any, false⟩, ⟨12, 3, .ro, 0x0, .any, false⟩, ⟨15, 1, .ro, 0x0, .any, false⟩, ⟨16, 3, .ro, 0x0, .any, false⟩]⟩,
  -- GLB_BOOT_COUNT (17_boot_and_configuration.md R416)
  ⟨0x934, 1, 0x4, 1, 0x4, 0, [⟨0, 32, .ro, 0x0, .any, false⟩]⟩,
  -- GLB_RESET (17_boot_and_configuration.md R428)
  ⟨0x938, 1, 0x4, 1, 0x4, 0, [⟨0, 16, .wo, 0x0, .any, false⟩]⟩,
  -- GLB_KT_CFG (17_boot_and_configuration.md R439)
  ⟨0x940, 1, 0x4, 1, 0x4, 0, [⟨0, 9, .rw, 0x40, .range 1 256, false⟩, ⟨16, 6, .rw, 0x5, .range 1 60, false⟩]⟩,
  -- GLB_KT_TIMERS (17_boot_and_configuration.md R439)
  ⟨0x944, 1, 0x4, 1, 0x4, 0, [⟨0, 16, .rw, 0x3E8, .range 100 60000, false⟩, ⟨16, 12, .rw, 0x3C, .range 10 3600, false⟩]⟩,
  -- GLB_SYS_BASE_LO (17_boot_and_configuration.md R437)
  ⟨0x948, 1, 0x4, 1, 0x4, 2, [⟨20, 12, .rw, 0x1, .any, false⟩]⟩,
  -- GLB_SYS_BASE_HI (17_boot_and_configuration.md R437)
  ⟨0x94C, 1, 0x4, 1, 0x4, 0, [⟨0, 5, .rw, 0x0, .any, false⟩]⟩,
  -- GLB_CFG_IMMUT (17_boot_and_configuration.md R432)
  ⟨0x960, 1, 0x4, 1, 0x4, 0, [⟨0, 32, .ro, 0x0, .any, false⟩]⟩,
  -- GLB_BOOT_SKIPPED (17_boot_and_configuration.md R430)
  ⟨0x964, 1, 0x4, 1, 0x4, 0, [⟨0, 32, .ro, 0x0, .any, false⟩]⟩,
  -- GLB_CFG_CNT_CLR (17_boot_and_configuration.md R439)
  ⟨0x9FC, 1, 0x4, 1, 0x4, 0, [⟨0, 1, .wo, 0x0, .any, false⟩]⟩,
  -- GLB_SEC_IDKEY (20_security.md R481)
  ⟨0xA00, 1, 0x40, 16, 0x4, 0, [⟨0, 32, .ro, 0x0, .any, false⟩]⟩,
  -- GLB_SEC_MFG_SIG (20_security.md R481)
  ⟨0xA40, 1, 0x40, 16, 0x4, 0, [⟨0, 32, .ro, 0x0, .any, false⟩]⟩,
  -- GLB_SEC_MFG_KEY (20_security.md R481)
  ⟨0xA80, 1, 0x4, 1, 0x4, 0, [⟨0, 32, .ro, 0x0, .any, false⟩]⟩,
  -- GLB_SEC_OTP_STATUS (20_security.md R489)
  ⟨0xA84, 1, 0x4, 1, 0x4, 0, [⟨0, 4, .ro, 0x0, .any, false⟩, ⟨4, 4, .ro, 0x0, .any, false⟩, ⟨8, 8, .ro, 0x0, .any, false⟩, ⟨16, 1, .ro, 0x0, .any, false⟩, ⟨17, 3, .ro, 0x0, .any, false⟩]⟩,
  -- GLB_SEC_OTP_CTRL (20_security.md R489)
  ⟨0xA88, 1, 0x4, 1, 0x4, 0, [⟨0, 2, .wo, 0x0, .any, false⟩, ⟨2, 2, .wo, 0x0, .any, false⟩, ⟨16, 16, .wo, 0x0, .any, false⟩]⟩,
  -- GLB_SEC_STAGE (20_security.md R489)
  ⟨0xA90, 1, 0x20, 8, 0x4, 0, [⟨0, 32, .wo, 0x0, .any, false⟩]⟩,
  -- GLB_PTN_ADDR (17_boot_and_configuration.md R438)
  ⟨0x1000, 32, 0x40, 4, 0x4, 0, [⟨0, 32, .rw, 0x0, .any, false⟩]⟩,
  -- GLB_PTN_CFG (17_boot_and_configuration.md R438)
  ⟨0x1010, 32, 0x40, 1, 0x4, 0, [⟨0, 16, .rw, 0xB86A, .range 1024 65535, false⟩, ⟨16, 2, .rw, 0x0, .any, false⟩, ⟨18, 4, .rw, 0x0, .any, false⟩, ⟨22, 1, .rw, 0x0, .any, false⟩, ⟨23, 1, .rw, 0x0, .any, true⟩]⟩]

/-- More rows of the global block. -/
def rowsGlobal3 : List Row := [
  -- GLB_PTN_LINK (17_boot_and_configuration.md R438)
  ⟨0x1014, 32, 0x40, 1, 0x4, 0, [⟨0, 14, .rw, 0x5DC, .range 1280 9216, false⟩, ⟨16, 8, .rw, 0x1, .range 1 255, false⟩, ⟨24, 8, .rw, 0x1, .range 1 255, false⟩]⟩,
  -- GLB_PTN_BACKLOG (17_boot_and_configuration.md R438)
  ⟨0x1018, 32, 0x40, 1, 0x4, 0, [⟨0, 14, .rw, 0x400, .range 64 8192, false⟩]⟩,
  -- GLB_TM_HLG (10_composition.md R269)
  ⟨0x4000, 1, 0x1000, 1024, 0x4, 0, [⟨0, 16, .rw, 0x0, .any, false⟩]⟩,
  -- GLB_TM_PQ (10_composition.md R269)
  ⟨0x5000, 1, 0x1000, 1024, 0x4, 0, [⟨0, 16, .rw, 0x0, .any, false⟩]⟩,
  -- GLB_TM_MTX (10_composition.md R269)
  ⟨0x6000, 1, 0x24, 9, 0x4, 0, [⟨0, 16, .rw, 0x0, .any, false⟩]⟩,
  -- GLB_FONT (10_composition.md R518)
  ⟨0x8000, 1, 0x2F80, 3040, 0x4, 0, [⟨0, 16, .ro, 0x0, .any, false⟩]⟩]

/-- All rows of the global block. -/
def rowsGlobal : List Row := rowsGlobal0 ++ rowsGlobal1 ++ rowsGlobal2 ++ rowsGlobal3

/-- The rows of the isaim block. -/
def rowsIsaim : List Row := [
  -- ISA_PF_CFG (12_power_fail.md R316)
  ⟨0x10000, 1, 0x4, 1, 0x4, 0, [⟨0, 10, .rw, 0x118, .range 270 520, false⟩, ⟨16, 1, .rw, 0x1, .any, false⟩]⟩,
  -- ISA_JRN_CFG (12_power_fail.md R316)
  ⟨0x10004, 1, 0x4, 1, 0x4, 0, [⟨0, 2, .rw, 0x0, .above 2 2, false⟩, ⟨2, 1, .rw, 0x0, .any, false⟩, ⟨3, 4, .rw, 0x0, .range 0 6, false⟩, ⟨8, 8, .rw, 0x64, .range 25 133, false⟩]⟩,
  -- ISA_STATUS (12_power_fail.md R316)
  ⟨0x10008, 1, 0x4, 1, 0x4, 0, [⟨0, 3, .ro, 0x0, .any, false⟩, ⟨3, 2, .ro, 0x0, .any, false⟩, ⟨5, 1, .ro, 0x0, .any, false⟩, ⟨6, 1, .ro, 0x0, .any, false⟩, ⟨8, 2, .ro, 0x0, .any, false⟩, ⟨16, 1, .w1c, 0x0, .any, false⟩]⟩,
  -- ISA_VIN (12_power_fail.md R316)
  ⟨0x1000C, 1, 0x4, 1, 0x4, 0, [⟨0, 13, .ro, 0x0, .any, false⟩]⟩,
  -- ISA_PEND (12_power_fail.md R316)
  ⟨0x10010, 1, 0x4, 1, 0x4, 0, [⟨0, 16, .ro, 0x0, .any, false⟩, ⟨16, 16, .ro, 0x0, .any, false⟩]⟩]

/-- The rows of the fault block. -/
def rowsFault : List Row := [
  -- FLT_SRC_CFG (18_faults.md R456)
  ⟨0x20000, 1, 0x400, 256, 0x4, 0, [⟨0, 2, .rw, 0x0, .any, true⟩, ⟨8, 1, .wo, 0x0, .any, false⟩]⟩,
  -- FLT_STATUS (18_faults.md R456)
  ⟨0x20400, 1, 0x20, 8, 0x4, 0, [⟨0, 32, .w1c, 0x0, .any, false⟩]⟩,
  -- FLT_CAUSE (18_faults.md R444)
  ⟨0x20420, 1, 0x20, 8, 0x4, 0, [⟨0, 32, .ro, 0x0, .any, false⟩]⟩,
  -- FLT_FROZEN (18_faults.md R445)
  ⟨0x20440, 1, 0x20, 8, 0x4, 0, [⟨0, 32, .ro, 0x0, .any, false⟩]⟩,
  -- FLT_GLOBAL (18_faults.md R456)
  ⟨0x20460, 1, 0x4, 1, 0x4, 0, [⟨0, 2, .ro, 0x0, .any, false⟩, ⟨3, 1, .ro, 0x0, .any, false⟩, ⟨4, 1, .rw, 0x0, .any, true⟩, ⟨5, 1, .ro, 0x0, .any, false⟩, ⟨8, 8, .ro, 0x0, .any, false⟩, ⟨16, 1, .w1c, 0x0, .any, false⟩]⟩,
  -- FLT_UNFREEZE (18_faults.md R456)
  ⟨0x20464, 1, 0x4, 1, 0x4, 0, [⟨0, 8, .wo, 0x0, .any, false⟩, ⟨16, 16, .wo, 0x0, .any, false⟩]⟩,
  -- FLT_LOG_HEAD (18_faults.md R455)
  ⟨0x20468, 1, 0x4, 1, 0x4, 0, [⟨0, 6, .ro, 0x0, .any, false⟩]⟩,
  -- FLT_CNT (18_faults.md R456)
  ⟨0x20470, 1, 0x20, 8, 0x4, 1, [⟨0, 32, .ro, 0x0, .any, false⟩]⟩,
  -- FLT_CNT_CLR (18_faults.md R456)
  ⟨0x204FC, 1, 0x4, 1, 0x4, 0, [⟨0, 1, .wo, 0x0, .any, false⟩]⟩,
  -- FLT_COUNT (18_faults.md R456)
  ⟨0x20800, 1, 0x400, 256, 0x4, 0, [⟨0, 32, .ro, 0x0, .any, false⟩]⟩,
  -- FLT_LOG (18_faults.md R455)
  ⟨0x21000, 1, 0x800, 512, 0x4, 0, [⟨0, 32, .ro, 0x0, .any, false⟩]⟩]

/-- The rows of the interrupt block. -/
def rowsInterrupt : List Row := [
  -- INT_SRC_CFG (16_control_complex.md R409)
  ⟨0x30000, 1, 0x800, 512, 0x4, 0, [⟨0, 8, .rw, 0xFF, .any, true⟩, ⟨8, 4, .rw, 0x0, .any, true⟩, ⟨12, 1, .rw, 0x0, .any, false⟩, ⟨13, 1, .rw, 0x1, .any, true⟩, ⟨14, 6, .rw, 0x0, .any, false⟩, ⟨20, 8, .rw, 0x0, .any, false⟩]⟩,
  -- INT_PEND (16_control_complex.md R409)
  ⟨0x30800, 1, 0x40, 16, 0x4, 0, [⟨0, 32, .ro, 0x0, .any, false⟩]⟩,
  -- INT_GRP_CFG (16_control_complex.md R409)
  ⟨0x30900, 1, 0x100, 64, 0x4, 0, [⟨0, 10, .rw, 0x0, .any, true⟩, ⟨10, 8, .rw, 0x1, .range 1 255, true⟩]⟩,
  -- INT_CNT (16_control_complex.md R409)
  ⟨0x30A00, 1, 0x20, 8, 0x4, 1, [⟨0, 32, .ro, 0x0, .any, false⟩]⟩,
  -- INT_CNT_CLR (16_control_complex.md R409)
  ⟨0x30AFC, 1, 0x4, 1, 0x4, 0, [⟨0, 1, .wo, 0x0, .any, false⟩]⟩,
  -- COL_STATUS (16_control_complex.md R405)
  ⟨0x38000, 1, 0x4, 1, 0x4, 0, [⟨0, 7, .ro, 0x0, .any, false⟩]⟩,
  -- COL_GSEQ (16_control_complex.md R406)
  ⟨0x38008, 1, 0x8, 2, 0x4, 1, [⟨0, 32, .ro, 0x0, .any, false⟩]⟩,
  -- COL_QFILL (16_control_complex.md R406)
  ⟨0x38010, 1, 0x20, 8, 0x4, 0, [⟨0, 9, .ro, 0x0, .any, false⟩]⟩,
  -- COL_CNT (16_control_complex.md R405)
  ⟨0x38040, 1, 0x18, 6, 0x4, 1, [⟨0, 32, .ro, 0x0, .any, false⟩]⟩,
  -- COL_WORST (16_control_complex.md R405)
  ⟨0x38058, 1, 0x4, 1, 0x4, 0, [⟨0, 4, .ro, 0x0, .any, false⟩]⟩,
  -- COL_CNT_CLR (16_control_complex.md R405)
  ⟨0x380FC, 1, 0x4, 1, 0x4, 0, [⟨0, 1, .wo, 0x0, .any, false⟩]⟩]

/-- The rows of the sequencer block. -/
def rowsSequencer : List Row := [
  -- SEQ_STATUS (16_control_complex.md R408)
  ⟨0x40000, 8, 0x2000, 1, 0x4, 0, [⟨0, 3, .ro, 0x0, .any, false⟩, ⟨4, 4, .ro, 0x0, .any, false⟩, ⟨16, 14, .ro, 0x0, .any, false⟩]⟩,
  -- SEQ_MC_VERSION (16_control_complex.md R408)
  ⟨0x40004, 8, 0x2000, 1, 0x4, 0, [⟨0, 16, .ro, 0x0, .any, false⟩, ⟨16, 8, .ro, 0x0, .any, false⟩]⟩,
  -- SEQ_MC_DIGEST (16_control_complex.md R408)
  ⟨0x40008, 8, 0x2000, 1, 0x4, 0, [⟨0, 32, .ro, 0x0, .any, false⟩]⟩,
  -- SEQ_WORK (16_control_complex.md R408)
  ⟨0x4000C, 8, 0x2000, 1, 0x4, 0, [⟨0, 8, .ro, 0x0, .any, false⟩, ⟨8, 9, .ro, 0x0, .any, false⟩]⟩,
  -- SEQ_FAST_RET (16_control_complex.md R408)
  ⟨0x40010, 8, 0x2000, 1, 0x4, 0, [⟨0, 14, .ro, 0x0, .any, false⟩]⟩,
  -- SEQ_CNT (16_control_complex.md R408)
  ⟨0x40040, 8, 0x2000, 12, 0x4, 1, [⟨0, 32, .ro, 0x0, .any, false⟩]⟩,
  -- SEQ_CNT_CLR (16_control_complex.md R408)
  ⟨0x400FC, 8, 0x2000, 1, 0x4, 0, [⟨0, 1, .wo, 0x0, .any, false⟩]⟩,
  -- SEQ_REG_N (16_control_complex.md R390)
  ⟨0x40100, 8, 0x2000, 64, 0x4, 1, [⟨0, 32, .ro, 0x0, .any, false⟩]⟩,
  -- SEQ_REG_F (16_control_complex.md R390)
  ⟨0x40200, 8, 0x2000, 64, 0x4, 1, [⟨0, 32, .ro, 0x0, .any, false⟩]⟩]

/-- The rows of the port block. -/
def rowsPort : List Row := [
  -- PRT_CFG (02_ports_and_kt.md R32)
  ⟨0x80000, 4, 0x4000, 1, 0x4, 0, [⟨0, 2, .rw, 0x1, .above 1 1, false⟩, ⟨2, 2, .rw, 0x0, .above 2 0, false⟩, ⟨4, 2, .rw, 0x0, .above 2 2, false⟩, ⟨8, 1, .rw, 0x0, .any, false⟩, ⟨9, 1, .rw, 0x0, .any, false⟩, ⟨10, 1, .rw, 0x0, .any, false⟩, ⟨11, 1, .rw, 0x0, .any, false⟩, ⟨16, 14, .rw, 0x5F2, .range 1518 9216, false⟩]⟩,
  -- PRT_STATUS (02_ports_and_kt.md R34)
  ⟨0x80004, 4, 0x4000, 1, 0x4, 0, [⟨0, 1, .ro, 0x0, .any, false⟩, ⟨1, 1, .ro, 0x0, .any, false⟩, ⟨2, 1, .ro, 0x0, .any, false⟩, ⟨3, 2, .ro, 0x0, .any, false⟩, ⟨8, 1, .w1c, 0x0, .any, false⟩, ⟨9, 1, .w1c, 0x0, .any, false⟩]⟩,
  -- PRT_VLAN (02_ports_and_kt.md R35)
  ⟨0x80008, 4, 0x4000, 1, 0x4, 0, [⟨0, 12, .rw, 0x0, .range 0 4094, false⟩, ⟨12, 3, .rw, 0x0, .any, false⟩, ⟨15, 1, .rw, 0x0, .any, false⟩]⟩,
  -- PRT_KT_UDP (02_ports_and_kt.md R33)
  ⟨0x8000C, 4, 0x4000, 1, 0x4, 0, [⟨0, 16, .rw, 0xB86A, .range 1024 65535, false⟩]⟩,
  -- PRT_MAC_LO (02_ports_and_kt.md R33)
  ⟨0x80010, 4, 0x4000, 1, 0x4, 0, [⟨0, 32, .rw, 0x0, .any, false⟩]⟩,
  -- PRT_MAC_HI (02_ports_and_kt.md R33)
  ⟨0x80014, 4, 0x4000, 1, 0x4, 0, [⟨0, 16, .rw, 0x0, .any, false⟩]⟩,
  -- PRT_IP4_ADDR (02_ports_and_kt.md R33)
  ⟨0x80020, 4, 0x4000, 1, 0x4, 0, [⟨0, 32, .rw, 0x0, .any, false⟩]⟩,
  -- PRT_IP4_PFX (02_ports_and_kt.md R33)
  ⟨0x80024, 4, 0x4000, 1, 0x4, 0, [⟨0, 6, .rw, 0x0, .range 0 32, false⟩]⟩,
  -- PRT_IP4_GW (02_ports_and_kt.md R33)
  ⟨0x80028, 4, 0x4000, 1, 0x4, 0, [⟨0, 32, .rw, 0x0, .any, false⟩]⟩,
  -- PRT_IP6_ADDR (02_ports_and_kt.md R33)
  ⟨0x80030, 4, 0x4000, 4, 0x4, 0, [⟨0, 32, .rw, 0x0, .any, false⟩]⟩,
  -- PRT_IP6_PFX (02_ports_and_kt.md R33)
  ⟨0x80040, 4, 0x4000, 1, 0x4, 0, [⟨0, 8, .rw, 0x0, .range 0 128, false⟩]⟩,
  -- PRT_IP6_GW (02_ports_and_kt.md R33)
  ⟨0x80050, 4, 0x4000, 4, 0x4, 0, [⟨0, 32, .rw, 0x0, .any, false⟩]⟩,
  -- PRT_CNT_CLR (02_ports_and_kt.md R31)
  ⟨0x80100, 4, 0x4000, 1, 0x4, 0, [⟨0, 1, .wo, 0x0, .any, false⟩]⟩,
  -- PRT_CNT (02_ports_and_kt.md R31)
  ⟨0x80200, 4, 0x4000, 34, 0x4, 1, [⟨0, 32, .ro, 0x0, .any, false⟩]⟩,
  -- PRT_NBR (02_ports_and_kt.md R39)
  ⟨0x80400, 4, 0x4000, 512, 0x4, 0, [⟨0, 32, .ro, 0x0, .any, false⟩]⟩]

/-- The rows of the headbox block. -/
def rowsHeadbox : List Row := [
  -- HBX_POL_CFG (13_traffic.md R331)
  ⟨0x100000, 1024, 0x10, 1, 0x4, 0, [⟨0, 1, .rw, 0x1, .any, true⟩, ⟨1, 1, .rw, 0x1, .any, true⟩]⟩,
  -- HBX_POL_CIR (13_traffic.md R331)
  ⟨0x100004, 1024, 0x10, 1, 0x4, 0, [⟨0, 23, .rw, 0x61A8, .range 64 4000000, true⟩]⟩,
  -- HBX_POL_CBS (13_traffic.md R331)
  ⟨0x100008, 1024, 0x10, 1, 0x4, 0, [⟨0, 27, .rw, 0x4C4B40, .range 16384 100000000, true⟩]⟩,
  -- HBX_POL_DROP (13_traffic.md R331)
  ⟨0x104000, 1024, 0x10, 4, 0x4, 1, [⟨0, 32, .ro, 0x0, .any, false⟩]⟩,
  -- HBX_CTL_CFG (13_traffic.md R331)
  ⟨0x108000, 4, 0x20, 1, 0x4, 0, [⟨0, 1, .rw, 0x1, .any, true⟩]⟩,
  -- HBX_CTL_CIR (13_traffic.md R331)
  ⟨0x108004, 4, 0x20, 1, 0x4, 0, [⟨0, 20, .rw, 0x2710, .range 1000 1000000, true⟩]⟩,
  -- HBX_CTL_CBS (13_traffic.md R331)
  ⟨0x108008, 4, 0x20, 1, 0x4, 0, [⟨0, 21, .rw, 0x10000, .range 16384 1048576, true⟩]⟩,
  -- HBX_CTL_DROP (13_traffic.md R331)
  ⟨0x108010, 4, 0x20, 4, 0x4, 1, [⟨0, 32, .ro, 0x0, .any, false⟩]⟩,
  -- HBX_CNT_CLR (13_traffic.md R331)
  ⟨0x1080FC, 1, 0x4, 1, 0x4, 0, [⟨0, 1, .wo, 0x0, .any, false⟩]⟩,
  -- EGQ_CFG (13_traffic.md R331)
  ⟨0x110000, 1024, 0x10, 1, 0x4, 0, [⟨0, 16, .rw, 0x1, .range 1 65535, true⟩]⟩,
  -- EGQ_RATE (13_traffic.md R331)
  ⟨0x110004, 1024, 0x10, 1, 0x4, 0, [⟨0, 25, .rw, 0x0, .zeroOr 64 25000000, true⟩]⟩,
  -- EGQ_BURST (13_traffic.md R331)
  ⟨0x110008, 1024, 0x10, 1, 0x4, 0, [⟨0, 24, .rw, 0x10000, .range 2048 16777215, true⟩]⟩,
  -- EGQ_STATUS (13_traffic.md R331)
  ⟨0x11000C, 1024, 0x10, 1, 0x4, 0, [⟨0, 1, .ro, 0x0, .any, false⟩, ⟨1, 1, .ro, 0x0, .any, false⟩, ⟨2, 1, .ro, 0x0, .any, false⟩]⟩,
  -- EGQ_TX (13_traffic.md R331)
  ⟨0x114000, 1024, 0x10, 4, 0x4, 1, [⟨0, 32, .ro, 0x0, .any, false⟩]⟩,
  -- EGP_RATE (13_traffic.md R331)
  ⟨0x118000, 4, 0x10, 1, 0x4, 0, [⟨0, 25, .rw, 0x0, .zeroOr 64 25000000, true⟩]⟩,
  -- EGP_BURST (13_traffic.md R331)
  ⟨0x118004, 4, 0x10, 1, 0x4, 0, [⟨0, 24, .rw, 0x10000, .range 2048 16777215, true⟩]⟩,
  -- EGP_STATUS (13_traffic.md R331)
  ⟨0x118008, 4, 0x10, 1, 0x4, 0, [⟨0, 1, .ro, 0x0, .any, false⟩]⟩,
  -- EGQ_CNT_CLR (13_traffic.md R331)
  ⟨0x1180FC, 1, 0x4, 1, 0x4, 0, [⟨0, 1, .wo, 0x0, .any, false⟩]⟩]

/-- The rows of the felt block. -/
def rowsFelt : List Row := [
  -- FP_CFG (15_dma_and_felt_pools.md R371)
  ⟨0x140000, 8, 0x100, 1, 0x4, 0, [⟨0, 3, .rw, 0x0, .any, false⟩, ⟨3, 1, .rw, 0x1, .any, false⟩]⟩,
  -- FP_BASE_LO (15_dma_and_felt_pools.md R371)
  ⟨0x140004, 8, 0x100, 1, 0x4, 2, [⟨0, 32, .rw, 0x100000, .any, false⟩]⟩,
  -- FP_BASE_HI (15_dma_and_felt_pools.md R371)
  ⟨0x140008, 8, 0x100, 1, 0x4, 0, [⟨0, 5, .rw, 0x0, .any, false⟩]⟩,
  -- FP_COUNT (15_dma_and_felt_pools.md R371)
  ⟨0x14000C, 8, 0x100, 1, 0x4, 0, [⟨0, 22, .rw, 0x0, .range 0 2097152, false⟩]⟩,
  -- FP_FREE (15_dma_and_felt_pools.md R371)
  ⟨0x140010, 8, 0x100, 1, 0x4, 0, [⟨0, 22, .ro, 0x0, .any, false⟩]⟩,
  -- FP_LOW (15_dma_and_felt_pools.md R371)
  ⟨0x140014, 8, 0x100, 1, 0x4, 0, [⟨0, 22, .ro, 0x0, .any, false⟩]⟩,
  -- FP_CNT (15_dma_and_felt_pools.md R371)
  ⟨0x140040, 8, 0x100, 12, 0x4, 1, [⟨0, 32, .ro, 0x0, .any, false⟩]⟩,
  -- FP_CNT_CLR (15_dma_and_felt_pools.md R371)
  ⟨0x1400FC, 8, 0x100, 1, 0x4, 0, [⟨0, 1, .wo, 0x0, .any, false⟩]⟩,
  -- FP_QUERY_HANDLE (15_dma_and_felt_pools.md R371)
  ⟨0x141000, 1, 0x4, 1, 0x4, 0, [⟨0, 32, .rw, 0x0, .any, true⟩]⟩,
  -- FP_QUERY_RESULT (15_dma_and_felt_pools.md R371)
  ⟨0x141004, 1, 0x4, 1, 0x4, 0, [⟨0, 1, .ro, 0x0, .any, false⟩, ⟨1, 1, .ro, 0x0, .any, false⟩, ⟨8, 8, .ro, 0x0, .any, false⟩]⟩,
  -- FP_LAST_HANDLE (15_dma_and_felt_pools.md R371)
  ⟨0x141010, 1, 0x4, 1, 0x4, 0, [⟨0, 32, .ro, 0x0, .any, false⟩]⟩,
  -- FP_LAST_INFO (15_dma_and_felt_pools.md R371)
  ⟨0x141014, 1, 0x4, 1, 0x4, 0, [⟨0, 2, .ro, 0x0, .any, false⟩, ⟨8, 8, .ro, 0x0, .any, false⟩, ⟨16, 8, .ro, 0x0, .any, false⟩, ⟨24, 1, .ro, 0x0, .any, false⟩]⟩,
  -- FP_BAD_HANDLE (15_dma_and_felt_pools.md R370)
  ⟨0x141020, 1, 0x8, 2, 0x4, 1, [⟨0, 32, .ro, 0x0, .any, false⟩]⟩,
  -- FP_GLB_CNT_CLR (15_dma_and_felt_pools.md R371)
  ⟨0x1410FC, 1, 0x4, 1, 0x4, 0, [⟨0, 1, .wo, 0x0, .any, false⟩]⟩]

/-- The rows of the dma block. -/
def rowsDma : List Row := [
  -- DMA_ACT_SRC_LO (15_dma_and_felt_pools.md R386)
  ⟨0x180000, 64, 0x100, 1, 0x4, 2, [⟨0, 32, .ro, 0x0, .any, false⟩]⟩,
  -- DMA_ACT_SRC_HI (15_dma_and_felt_pools.md R386)
  ⟨0x180004, 64, 0x100, 1, 0x4, 0, [⟨0, 8, .ro, 0x0, .any, false⟩]⟩,
  -- DMA_ACT_DST_LO (15_dma_and_felt_pools.md R386)
  ⟨0x180008, 64, 0x100, 1, 0x4, 2, [⟨0, 32, .ro, 0x0, .any, false⟩]⟩,
  -- DMA_ACT_DST_HI (15_dma_and_felt_pools.md R386)
  ⟨0x18000C, 64, 0x100, 1, 0x4, 0, [⟨0, 8, .ro, 0x0, .any, false⟩]⟩,
  -- DMA_ACT_CNT_XY (15_dma_and_felt_pools.md R386)
  ⟨0x180010, 64, 0x100, 1, 0x4, 0, [⟨0, 16, .ro, 0x0, .any, false⟩, ⟨16, 16, .ro, 0x0, .any, false⟩]⟩,
  -- DMA_ACT_CNT_Z (15_dma_and_felt_pools.md R386)
  ⟨0x180014, 64, 0x100, 1, 0x4, 0, [⟨0, 16, .ro, 0x0, .any, false⟩, ⟨16, 1, .ro, 0x0, .any, false⟩, ⟨17, 1, .ro, 0x0, .any, false⟩, ⟨18, 7, .ro, 0x0, .any, false⟩]⟩,
  -- DMA_ACT_STEPS (15_dma_and_felt_pools.md R386)
  ⟨0x180018, 64, 0x100, 6, 0x4, 0, [⟨0, 32, .ro, 0x1, .any, false⟩]⟩,
  -- DMA_SRC_LO (15_dma_and_felt_pools.md R386)
  ⟨0x180040, 64, 0x100, 1, 0x4, 2, [⟨0, 32, .rw, 0x0, .any, false⟩]⟩,
  -- DMA_SRC_HI (15_dma_and_felt_pools.md R386)
  ⟨0x180044, 64, 0x100, 1, 0x4, 0, [⟨0, 8, .rw, 0x0, .any, false⟩]⟩,
  -- DMA_DST_LO (15_dma_and_felt_pools.md R386)
  ⟨0x180048, 64, 0x100, 1, 0x4, 2, [⟨0, 32, .rw, 0x0, .any, false⟩]⟩,
  -- DMA_DST_HI (15_dma_and_felt_pools.md R386)
  ⟨0x18004C, 64, 0x100, 1, 0x4, 0, [⟨0, 8, .rw, 0x0, .any, false⟩]⟩,
  -- DMA_CNT_XY (15_dma_and_felt_pools.md R386)
  ⟨0x180050, 64, 0x100, 1, 0x4, 0, [⟨0, 16, .rw, 0x0, .any, false⟩, ⟨16, 16, .rw, 0x0, .any, false⟩]⟩,
  -- DMA_CNT_Z (15_dma_and_felt_pools.md R386)
  ⟨0x180054, 64, 0x100, 1, 0x4, 0, [⟨0, 16, .rw, 0x0, .any, false⟩, ⟨16, 1, .rw, 0x0, .any, false⟩, ⟨17, 1, .rw, 0x0, .any, false⟩, ⟨18, 7, .rw, 0x0, .any, false⟩]⟩,
  -- DMA_STEPS (15_dma_and_felt_pools.md R386)
  ⟨0x180058, 64, 0x100, 6, 0x4, 0, [⟨0, 32, .rw, 0x1, .any, false⟩]⟩,
  -- DMA_CTRL (15_dma_and_felt_pools.md R386)
  ⟨0x180080, 64, 0x100, 1, 0x4, 0, [⟨0, 1, .wo, 0x0, .any, false⟩, ⟨1, 1, .wo, 0x0, .any, false⟩, ⟨2, 1, .wo, 0x0, .any, false⟩, ⟨3, 1, .wo, 0x0, .any, false⟩]⟩,
  -- DMA_STATUS (15_dma_and_felt_pools.md R386)
  ⟨0x180084, 64, 0x100, 1, 0x4, 0, [⟨0, 3, .ro, 0x0, .any, false⟩, ⟨3, 1, .ro, 0x0, .any, false⟩, ⟨4, 1, .ro, 0x0, .any, false⟩, ⟨5, 1, .ro, 0x0, .any, false⟩, ⟨6, 1, .ro, 0x0, .any, false⟩, ⟨8, 3, .ro, 0x0, .any, false⟩, ⟨16, 1, .w1c, 0x0, .any, false⟩, ⟨17, 1, .w1c, 0x0, .any, false⟩, ⟨18, 1, .w1c, 0x0, .any, false⟩]⟩,
  -- DMA_PROG_LO (15_dma_and_felt_pools.md R386)
  ⟨0x180088, 64, 0x100, 1, 0x4, 2, [⟨3, 29, .rw, 0x0, .any, false⟩]⟩,
  -- DMA_PROG_HI (15_dma_and_felt_pools.md R386)
  ⟨0x18008C, 64, 0x100, 1, 0x4, 0, [⟨0, 8, .rw, 0x0, .any, false⟩]⟩,
  -- DMA_PC (15_dma_and_felt_pools.md R386)
  ⟨0x180090, 64, 0x100, 2, 0x4, 1, [⟨0, 32, .ro, 0x0, .any, false⟩]⟩,
  -- DMA_SIGNAL (15_dma_and_felt_pools.md R386)
  ⟨0x180098, 64, 0x100, 1, 0x4, 0, [⟨0, 16, .ro, 0x0, .any, false⟩]⟩,
  -- DMA_GO (15_dma_and_felt_pools.md R384)
  ⟨0x18009C, 64, 0x100, 1, 0x4, 0, [⟨0, 1, .w1c, 0x0, .any, false⟩]⟩,
  -- DMA_ERR_ADDR (15_dma_and_felt_pools.md R382)
  ⟨0x1800A0, 64, 0x100, 2, 0x4, 1, [⟨0, 32, .ro, 0x0, .any, false⟩]⟩,
  -- DMA_SWREQ (15_dma_and_felt_pools.md R377)
  ⟨0x1800A8, 1, 0x4, 1, 0x4, 0, [⟨0, 8, .rw, 0x0, .any, false⟩]⟩,
  -- DMA_CNT (15_dma_and_felt_pools.md R386)
  ⟨0x1800C0, 64, 0x100, 10, 0x4, 1, [⟨0, 32, .ro, 0x0, .any, false⟩]⟩,
  -- DMA_CNT_CLR (15_dma_and_felt_pools.md R386)
  ⟨0x1800FC, 64, 0x100, 1, 0x4, 0, [⟨0, 1, .wo, 0x0, .any, false⟩]⟩]

/-- The rows of the memport block. -/
def rowsMemPort : List Row := [
  -- MEM_STATUS (14_memory.md R360)
  ⟨0x200000, 8, 0x1000, 1, 0x4, 0, [⟨0, 3, .ro, 0x0, .any, false⟩, ⟨3, 1, .ro, 0x0, .any, false⟩, ⟨4, 7, .ro, 0x0, .any, false⟩, ⟨16, 1, .w1c, 0x0, .any, false⟩, ⟨17, 1, .w1c, 0x0, .any, false⟩, ⟨18, 1, .w1c, 0x0, .any, false⟩]⟩,
  -- MEM_WQ_HIGH (14_memory.md R360)
  ⟨0x200004, 8, 0x1000, 1, 0x4, 0, [⟨0, 7, .rw, 0x30, .range 2 64, true⟩]⟩,
  -- MEM_WQ_LOW (14_memory.md R360)
  ⟨0x200008, 8, 0x1000, 1, 0x4, 0, [⟨0, 7, .rw, 0x10, .any, true⟩]⟩,
  -- MEM_RD_TIMEOUT (14_memory.md R360)
  ⟨0x20000C, 8, 0x1000, 1, 0x4, 0, [⟨0, 7, .rw, 0xA, .range 2 100, true⟩]⟩,
  -- MEM_CNT (14_memory.md R360)
  ⟨0x200040, 8, 0x1000, 18, 0x4, 1, [⟨0, 32, .ro, 0x0, .any, false⟩]⟩,
  -- MEM_CNT_CLR (14_memory.md R360)
  ⟨0x2000FC, 8, 0x1000, 1, 0x4, 0, [⟨0, 1, .wo, 0x0, .any, false⟩]⟩,
  -- MEM_DLY_L0 (14_memory.md R360)
  ⟨0x200100, 8, 0x1000, 5, 0x10, 0, [⟨0, 8, .rw, 0x40, .any, false⟩, ⟨8, 8, .rw, 0x40, .any, false⟩, ⟨16, 6, .rw, 0x20, .any, false⟩]⟩,
  -- MEM_DLY_L1 (14_memory.md R360)
  ⟨0x200104, 8, 0x1000, 5, 0x10, 0, [⟨0, 8, .rw, 0x40, .any, false⟩, ⟨8, 8, .rw, 0x40, .any, false⟩, ⟨16, 6, .rw, 0x20, .any, false⟩]⟩,
  -- MEM_DLY_CA (14_memory.md R360)
  ⟨0x200108, 8, 0x1000, 5, 0x10, 0, [⟨0, 8, .rw, 0x40, .any, false⟩]⟩,
  -- MEM_MARGIN (14_memory.md R360)
  ⟨0x200180, 8, 0x1000, 5, 0x4, 0, [⟨0, 6, .ro, 0x0, .any, false⟩, ⟨8, 6, .ro, 0x0, .any, false⟩, ⟨16, 6, .ro, 0x0, .any, false⟩, ⟨24, 6, .ro, 0x0, .any, false⟩]⟩,
  -- MEM_LOG_HEAD (14_memory.md R360)
  ⟨0x2001A0, 8, 0x1000, 1, 0x4, 0, [⟨0, 4, .ro, 0x0, .any, false⟩]⟩,
  -- MEM_LOG (14_memory.md R350)
  ⟨0x200200, 8, 0x1000, 128, 0x4, 0, [⟨0, 32, .ro, 0x0, .any, false⟩]⟩]

/-- The rows of the decode block. -/
def rowsDecode : List Row := [
  -- DEC_CFG (06_decode_and_references.md R160)
  ⟨0x300000, 64, 0x400, 1, 0x4, 0, [⟨0, 1, .rw, 0x0, .any, true⟩]⟩,
  -- DEC_STATUS (06_decode_and_references.md R160)
  ⟨0x300004, 64, 0x400, 1, 0x4, 0, [⟨0, 3, .ro, 0x0, .any, false⟩, ⟨8, 10, .ro, 0x0, .any, false⟩, ⟨18, 1, .ro, 0x0, .any, false⟩]⟩,
  -- DEC_CAP (06_decode_and_references.md R160)
  ⟨0x300008, 64, 0x400, 1, 0x4, 0, [⟨0, 16, .ro, 0x0, .any, false⟩, ⟨16, 16, .ro, 0x0, .any, false⟩]⟩,
  -- DEC_CNT (06_decode_and_references.md R160)
  ⟨0x300040, 64, 0x400, 14, 0x4, 1, [⟨0, 32, .ro, 0x0, .any, false⟩]⟩,
  -- DEC_CNT_CLR (06_decode_and_references.md R160)
  ⟨0x3000FC, 64, 0x400, 1, 0x4, 0, [⟨0, 1, .wo, 0x0, .any, false⟩]⟩]

/-- The rows of the encode block. -/
def rowsEncode : List Row := [
  -- ENC_CFG (08_encode.md R213)
  ⟨0x400000, 24, 0x800, 1, 0x4, 0, [⟨0, 1, .rw, 0x0, .any, true⟩]⟩,
  -- ENC_STATUS (08_encode.md R213)
  ⟨0x400004, 24, 0x800, 1, 0x4, 0, [⟨0, 3, .ro, 0x0, .any, false⟩, ⟨8, 10, .ro, 0x0, .any, false⟩, ⟨18, 1, .ro, 0x0, .any, false⟩]⟩,
  -- ENC_CAP (08_encode.md R213)
  ⟨0x400008, 24, 0x800, 1, 0x4, 0, [⟨0, 16, .ro, 0x0, .any, false⟩, ⟨16, 16, .ro, 0x0, .any, false⟩]⟩,
  -- ENC_CNT (08_encode.md R213)
  ⟨0x400040, 24, 0x800, 20, 0x4, 1, [⟨0, 32, .ro, 0x0, .any, false⟩]⟩,
  -- ENC_CNT_CLR (08_encode.md R213)
  ⟨0x4007FC, 24, 0x800, 1, 0x4, 0, [⟨0, 1, .wo, 0x0, .any, false⟩]⟩]

/-- The rows of the compose block. -/
def rowsCompose : List Row := [
  -- CU_CFG (10_composition.md R268)
  ⟨0x500000, 8, 0x1000, 1, 0x4, 0, [⟨0, 1, .rw, 0x0, .any, true⟩]⟩,
  -- CU_STATUS (10_composition.md R268)
  ⟨0x500004, 8, 0x1000, 1, 0x4, 0, [⟨0, 3, .ro, 0x0, .any, false⟩, ⟨8, 10, .ro, 0x0, .any, false⟩]⟩,
  -- CU_CAP (10_composition.md R268)
  ⟨0x500008, 8, 0x1000, 1, 0x4, 0, [⟨0, 16, .ro, 0x0, .any, false⟩]⟩,
  -- CU_CNT (10_composition.md R268)
  ⟨0x500040, 8, 0x1000, 10, 0x4, 1, [⟨0, 32, .ro, 0x0, .any, false⟩]⟩,
  -- CU_CNT_CLR (10_composition.md R268)
  ⟨0x500FFC, 8, 0x1000, 1, 0x4, 0, [⟨0, 1, .wo, 0x0, .any, false⟩]⟩]

/-- The rows of the sealing block. -/
def rowsSealing : List Row := [
  -- SEAL_CFG (11_reams_and_seals.md R293)
  ⟨0x600000, 1, 0x4, 1, 0x4, 0, [⟨0, 14, .rw, 0x7D0, .range 500 10000, true⟩, ⟨16, 16, .rw, 0x2710, .range 1000 60000, true⟩]⟩,
  -- SEAL_STATUS (11_reams_and_seals.md R293)
  ⟨0x600004, 1, 0x4, 1, 0x4, 0, [⟨0, 12, .ro, 0x0, .any, false⟩]⟩,
  -- SEAL_SERIAL (11_reams_and_seals.md R293)
  ⟨0x600008, 1, 0x8, 2, 0x4, 1, [⟨0, 32, .ro, 0x0, .any, false⟩]⟩,
  -- SEAL_KEY_ID (11_reams_and_seals.md R293)
  ⟨0x600010, 1, 0x20, 8, 0x4, 0, [⟨0, 32, .ro, 0x0, .any, false⟩]⟩,
  -- SEAL_CNT (11_reams_and_seals.md R293)
  ⟨0x600040, 1, 0x28, 10, 0x4, 1, [⟨0, 32, .ro, 0x0, .any, false⟩]⟩,
  -- SEAL_CNT_CLR (11_reams_and_seals.md R293)
  ⟨0x6000FC, 1, 0x4, 1, 0x4, 0, [⟨0, 1, .wo, 0x0, .any, false⟩]⟩]

/-- The rows of the calibration block. -/
def rowsCalibration : List Row := [
  -- CAL_CFG (19_clockless_calibration_ageing.md R476)
  ⟨0x700000, 1, 0x4, 1, 0x4, 0, [⟨0, 8, .rw, 0x18, .range 1 168, true⟩, ⟨8, 6, .rw, 0xA, .range 1 60, true⟩, ⟨16, 10, .rw, 0x30C, .range 750 800, true⟩]⟩,
  -- CAL_CTRL (19_clockless_calibration_ageing.md R476)
  ⟨0x700004, 1, 0x4, 1, 0x4, 0, [⟨0, 1, .wo, 0x0, .any, false⟩]⟩,
  -- CAL_STATUS (19_clockless_calibration_ageing.md R476)
  ⟨0x700008, 1, 0x4, 1, 0x4, 0, [⟨0, 2, .ro, 0x0, .any, false⟩, ⟨2, 2, .ro, 0x0, .any, false⟩, ⟨4, 1, .ro, 0x0, .any, false⟩, ⟨8, 1, .w1c, 0x0, .any, false⟩, ⟨16, 8, .ro, 0x0, .any, false⟩]⟩,
  -- CAL_SETPOINT (19_clockless_calibration_ageing.md R476)
  ⟨0x70000C, 1, 0x4, 1, 0x4, 0, [⟨0, 10, .rw, 0x2EE, .any, true⟩, ⟨16, 10, .ro, 0x2EE, .any, false⟩]⟩,
  -- CAL_RED (19_clockless_calibration_ageing.md R476)
  ⟨0x700010, 1, 0x4, 1, 0x4, 0, [⟨0, 5, .rw, 0x0, .any, true⟩]⟩,
  -- CAL_GRADE (19_clockless_calibration_ageing.md R476)
  ⟨0x700014, 1, 0x4, 1, 0x4, 0, [⟨0, 2, .rw, 0x0, .any, true⟩, ⟨8, 2, .ro, 0x0, .any, false⟩]⟩,
  -- CAL_HOURS (19_clockless_calibration_ageing.md R476)
  ⟨0x700018, 1, 0x4, 1, 0x4, 0, [⟨0, 32, .rw, 0x0, .any, true⟩]⟩,
  -- CAL_TEMP (19_clockless_calibration_ageing.md R476)
  ⟨0x70001C, 1, 0x4, 1, 0x4, 0, [⟨0, 8, .ro, 0x0, .any, false⟩, ⟨8, 4, .ro, 0x0, .any, false⟩, ⟨12, 1, .ro, 0x0, .any, false⟩]⟩,
  -- CAL_REF (19_clockless_calibration_ageing.md R476)
  ⟨0x700020, 1, 0x4, 1, 0x4, 0, [⟨0, 16, .ro, 0x0, .any, false⟩, ⟨16, 1, .ro, 0x0, .any, false⟩]⟩,
  -- CAL_AGE (19_clockless_calibration_ageing.md R476)
  ⟨0x700040, 1, 0x20, 8, 0x4, 0, [⟨0, 16, .ro, 0x0, .any, false⟩, ⟨16, 1, .ro, 0x0, .any, false⟩]⟩,
  -- CAL_CNT (19_clockless_calibration_ageing.md R476)
  ⟨0x700080, 1, 0x20, 8, 0x4, 1, [⟨0, 32, .ro, 0x0, .any, false⟩]⟩,
  -- CAL_CNT_CLR (19_clockless_calibration_ageing.md R476)
  ⟨0x7000FC, 1, 0x4, 1, 0x4, 0, [⟨0, 1, .wo, 0x0, .any, false⟩]⟩,
  -- CAL_GRP (19_clockless_calibration_ageing.md R476)
  ⟨0x701000, 1, 0x2820, 2568, 0x4, 0, [⟨0, 2, .rw, 0x3, .any, true⟩, ⟨8, 10, .ro, 0x0, .any, false⟩, ⟨20, 1, .ro, 0x0, .any, false⟩, ⟨21, 1, .ro, 0x0, .any, false⟩]⟩]

/-- The rows of the context block. -/
def rowsContext : List Row := [
  -- CTX_CTRL (04_contexts_and_admission.md R90)
  ⟨0x800000, 1024, 0x100, 1, 0x4, 0, [⟨0, 1, .wo, 0x0, .any, false⟩]⟩,
  -- CTX_CFG (04_contexts_and_admission.md R90)
  ⟨0x800004, 1024, 0x100, 1, 0x4, 0, [⟨0, 2, .rw, 0x0, .above 2 0, false⟩, ⟨2, 2, .rw, 0x1, .above 2 1, false⟩, ⟨4, 1, .rw, 0x0, .any, false⟩, ⟨5, 3, .rw, 0x0, .any, true⟩]⟩,
  -- CTX_GEOM (04_contexts_and_admission.md R90)
  ⟨0x800008, 1024, 0x100, 1, 0x4, 0, [⟨0, 13, .rw, 0x780, .range 16 4096, false⟩, ⟨16, 13, .rw, 0x438, .range 16 2304, false⟩]⟩,
  -- CTX_RATE (04_contexts_and_admission.md R90)
  ⟨0x80000C, 1024, 0x100, 1, 0x4, 0, [⟨0, 13, .rw, 0xBB8, .range 100 6000, false⟩, ⟨16, 9, .rw, 0x14, .range 1 300, false⟩]⟩,
  -- CTX_VERIFY (04_contexts_and_admission.md R90)
  ⟨0x800010, 1024, 0x100, 1, 0x4, 0, [⟨0, 14, .rw, 0xFA, .range 10 10000, true⟩]⟩,
  -- CTX_LABEL (04_contexts_and_admission.md R90)
  ⟨0x800014, 1024, 0x100, 6, 0x4, 0, [⟨0, 32, .rw, 0x20202020, .ascii, false⟩]⟩,
  -- CTX_STATUS (04_contexts_and_admission.md R90)
  ⟨0x80002C, 1024, 0x100, 1, 0x4, 0, [⟨0, 2, .ro, 0x0, .any, false⟩, ⟨2, 2, .ro, 0x0, .any, false⟩, ⟨16, 16, .ro, 0x0, .any, false⟩]⟩,
  -- CTX_CHARGE_DEC (04_contexts_and_admission.md R95)
  ⟨0x800030, 1024, 0x100, 1, 0x4, 0, [⟨0, 32, .ro, 0x0, .any, false⟩]⟩,
  -- CTX_CHARGE_MEM (04_contexts_and_admission.md R95)
  ⟨0x800034, 1024, 0x100, 1, 0x4, 0, [⟨0, 32, .ro, 0x0, .any, false⟩]⟩,
  -- CTX_PRESS (04_contexts_and_admission.md R96)
  ⟨0x800038, 1024, 0x100, 1, 0x4, 0, [⟨0, 7, .ro, 0x40, .any, false⟩]⟩,
  -- CTX_CORE (04_contexts_and_admission.md R108)
  ⟨0x80003C, 1024, 0x100, 1, 0x4, 0, [⟨0, 8, .ro, 0xFF, .any, false⟩]⟩,
  -- CTX_CNT (04_contexts_and_admission.md R90)
  ⟨0x800040, 1024, 0x100, 10, 0x4, 1, [⟨0, 32, .ro, 0x0, .any, false⟩]⟩,
  -- ING_FLOW (05_ingest.md R112)
  ⟨0x800080, 1024, 0x100, 1, 0x4, 0, [⟨0, 16, .rw, 0x0, .zeroOr 1024 65535, false⟩, ⟨16, 2, .rw, 0x0, .any, false⟩, ⟨18, 1, .rw, 0x0, .any, false⟩]⟩,
  -- ING_RTP (05_ingest.md R112)
  ⟨0x800084, 1024, 0x100, 1, 0x4, 0, [⟨0, 7, .rw, 0x60, .any, false⟩]⟩,
  -- ING_TIMERS (05_ingest.md R112)
  ⟨0x800088, 1024, 0x100, 1, 0x4, 0, [⟨0, 8, .rw, 0x14, .range 0 200, true⟩, ⟨8, 10, .rw, 0x64, .range 10 1000, true⟩, ⟨18, 9, .rw, 0x5, .range 1 300, true⟩]⟩,
  -- ING_SSRC (05_ingest.md R112)
  ⟨0x80008C, 1024, 0x100, 1, 0x4, 0, [⟨0, 32, .ro, 0x0, .any, false⟩]⟩,
  -- ING_SRC_ADDR (05_ingest.md R112)
  ⟨0x800090, 1024, 0x100, 4, 0x4, 0, [⟨0, 32, .rw, 0x0, .any, false⟩]⟩,
  -- ING_STATUS (05_ingest.md R112)
  ⟨0x8000A0, 1024, 0x100, 1, 0x4, 0, [⟨0, 1, .ro, 0x0, .any, false⟩, ⟨1, 1, .ro, 0x0, .any, false⟩, ⟨16, 16, .ro, 0x0, .any, false⟩]⟩,
  -- ING_LAST_TS (05_ingest.md R112)
  ⟨0x8000A4, 1024, 0x100, 1, 0x4, 0, [⟨0, 32, .ro, 0x0, .any, false⟩]⟩,
  -- ING_CNT (05_ingest.md R112)
  ⟨0x8000A8, 1024, 0x100, 22, 0x4, 1, [⟨0, 32, .ro, 0x0, .any, false⟩]⟩]

/-- The rows of the rendition block. -/
def rowsRendition0 : List Row := [
  -- RND_CTRL (04_contexts_and_admission.md R91)
  ⟨0xA00000, 1024, 0x100, 1, 0x4, 0, [⟨0, 1, .wo, 0x0, .any, false⟩, ⟨1, 1, .wo, 0x0, .any, false⟩]⟩,
  -- RND_CFG (04_contexts_and_admission.md R91)
  ⟨0xA00004, 1024, 0x100, 1, 0x4, 0, [⟨0, 2, .rw, 0x0, .any, true⟩, ⟨2, 2, .rw, 0x1, .above 2 1, true⟩, ⟨4, 1, .rw, 0x0, .any, true⟩, ⟨5, 3, .rw, 0x0, .any, true⟩]⟩,
  -- RND_SRC_A (04_contexts_and_admission.md R91)
  ⟨0xA00008, 1024, 0x100, 1, 0x4, 0, [⟨0, 10, .rw, 0x0, .any, true⟩, ⟨15, 1, .rw, 0x0, .any, true⟩, ⟨16, 10, .rw, 0x0, .any, true⟩, ⟨31, 1, .rw, 0x0, .any, true⟩]⟩,
  -- RND_SRC_B (04_contexts_and_admission.md R91)
  ⟨0xA0000C, 1024, 0x100, 1, 0x4, 0, [⟨0, 10, .rw, 0x0, .any, true⟩, ⟨15, 1, .rw, 0x0, .any, true⟩, ⟨16, 10, .rw, 0x0, .any, true⟩, ⟨31, 1, .rw, 0x0, .any, true⟩]⟩,
  -- RND_GEOM (04_contexts_and_admission.md R91)
  ⟨0xA00010, 1024, 0x100, 1, 0x4, 0, [⟨0, 13, .rw, 0x280, .even 64 4096, true⟩, ⟨16, 13, .rw, 0x168, .even 64 2304, true⟩]⟩,
  -- RND_RATE (04_contexts_and_admission.md R91)
  ⟨0xA00014, 1024, 0x100, 1, 0x4, 0, [⟨0, 13, .rw, 0x5DC, .range 100 6000, true⟩]⟩,
  -- RND_STATUS (04_contexts_and_admission.md R91)
  ⟨0xA00018, 1024, 0x100, 1, 0x4, 0, [⟨0, 2, .ro, 0x0, .any, false⟩, ⟨2, 2, .ro, 0x0, .any, false⟩, ⟨4, 1, .ro, 0x0, .any, false⟩, ⟨5, 1, .ro, 0x0, .any, false⟩, ⟨16, 16, .ro, 0x0, .any, false⟩]⟩,
  -- RND_CHARGE_ENC (04_contexts_and_admission.md R95)
  ⟨0xA0001C, 1024, 0x100, 1, 0x4, 0, [⟨0, 32, .ro, 0x0, .any, false⟩]⟩,
  -- RND_CHARGE_CMP (04_contexts_and_admission.md R95)
  ⟨0xA00020, 1024, 0x100, 1, 0x4, 0, [⟨0, 32, .ro, 0x0, .any, false⟩]⟩,
  -- RND_CHARGE_MEM (04_contexts_and_admission.md R95)
  ⟨0xA00024, 1024, 0x100, 1, 0x4, 0, [⟨0, 32, .ro, 0x0, .any, false⟩]⟩,
  -- RND_PRESS (04_contexts_and_admission.md R96)
  ⟨0xA00028, 1024, 0x100, 1, 0x4, 0, [⟨0, 7, .ro, 0x40, .any, false⟩]⟩,
  -- RC_CFG (09_rate_control.md R229)
  ⟨0xA00040, 1024, 0x100, 1, 0x4, 0, [⟨0, 2, .rw, 0x0, .above 2 0, true⟩, ⟨8, 6, .rw, 0x20, .range 0 51, true⟩, ⟨16, 3, .rw, 0x4, .range 1 7, true⟩]⟩,
  -- RC_RATE (09_rate_control.md R229)
  ⟨0xA00044, 1024, 0x100, 1, 0x4, 0, [⟨0, 16, .rw, 0x190, .range 64 40000, true⟩, ⟨16, 16, .rw, 0x320, .range 64 40000, true⟩]⟩,
  -- RC_BUF (09_rate_control.md R229)
  ⟨0xA00048, 1024, 0x100, 1, 0x4, 0, [⟨0, 13, .rw, 0x3E8, .range 100 4000, true⟩, ⟨16, 7, .rw, 0x5A, .range 10 100, true⟩]⟩,
  -- RC_QP (09_rate_control.md R229)
  ⟨0xA0004C, 1024, 0x100, 1, 0x4, 0, [⟨0, 6, .rw, 0x14, .range 0 51, true⟩, ⟨8, 6, .rw, 0x2A, .range 0 51, true⟩, ⟨16, 6, .rw, 0x1E, .range 0 51, true⟩]⟩,
  -- RC_STATUS (09_rate_control.md R229)
  ⟨0xA00050, 1024, 0x100, 1, 0x4, 0, [⟨0, 6, .ro, 0x0, .any, false⟩, ⟨8, 1, .ro, 0x0, .any, false⟩, ⟨9, 1, .ro, 0x0, .any, false⟩, ⟨10, 1, .ro, 0x0, .any, false⟩, ⟨11, 1, .ro, 0x0, .any, false⟩]⟩,
  -- RC_FULL (09_rate_control.md R229)
  ⟨0xA00054, 1024, 0x100, 1, 0x4, 0, [⟨0, 32, .ro, 0x0, .any, false⟩]⟩,
  -- RC_CARRY (09_rate_control.md R229)
  ⟨0xA00058, 1024, 0x100, 1, 0x4, 0, [⟨0, 32, .ro, 0x0, .any, false⟩]⟩,
  -- RC_CNT (09_rate_control.md R229)
  ⟨0xA00060, 1024, 0x100, 8, 0x4, 1, [⟨0, 32, .ro, 0x0, .any, false⟩]⟩,
  -- CMP_CFG (10_composition.md R267)
  ⟨0xA00080, 1024, 0x100, 1, 0x4, 0, [⟨0, 2, .rw, 0x3, .any, false⟩, ⟨2, 6, .rw, 0x4, .any, false⟩, ⟨8, 1, .rw, 0x1, .any, false⟩, ⟨16, 10, .rw, 0xC8, .range 20 1000, true⟩]⟩,
  -- CMP_BG (10_composition.md R267)
  ⟨0xA00084, 1024, 0x100, 1, 0x4, 0, [⟨0, 8, .rw, 0x10, .range 16 235, true⟩, ⟨8, 8, .rw, 0x80, .range 16 240, true⟩, ⟨16, 8, .rw, 0x80, .range 16 240, true⟩]⟩,
  -- CMP_FILL (10_composition.md R267)
  ⟨0xA00088, 1024, 0x100, 1, 0x4, 0, [⟨0, 8, .rw, 0x10, .range 16 235, true⟩, ⟨8, 8, .rw, 0x80, .range 16 240, true⟩, ⟨16, 8, .rw, 0x80, .range 16 240, true⟩]⟩,
  -- CMP_XFER (10_composition.md R267)
  ⟨0xA0008C, 1024, 0x100, 1, 0x4, 0, [⟨0, 8, .rw, 0x0, .any, true⟩]⟩,
  -- CMP_CROP_XY (10_composition.md R267)
  ⟨0xA00090, 1024, 0x100, 4, 0x8, 0, [⟨0, 13, .rw, 0x0, .even 0 4094, true⟩, ⟨16, 13, .rw, 0x0, .even 0 2302, true⟩]⟩,
  -- CMP_CROP_WH (10_composition.md R267)
  ⟨0xA00094, 1024, 0x100, 4, 0x8, 0, [⟨0, 13, .rw, 0x0, .even 0 4096, true⟩, ⟨16, 13, .rw, 0x0, .even 0 2304, true⟩]⟩]

/-- More rows of the rendition block. -/
def rowsRendition1 : List Row := [
  -- CMP_GFX_CFG (10_composition.md R267)
  ⟨0xA000B0, 1024, 0x100, 2, 0x8, 0, [⟨0, 6, .rw, 0x0, .any, true⟩, ⟨8, 1, .rw, 0x0, .any, true⟩]⟩,
  -- CMP_GFX_POS (10_composition.md R267)
  ⟨0xA000B4, 1024, 0x100, 2, 0x8, 0, [⟨0, 13, .rw, 0x0, .even 0 4094, true⟩, ⟨16, 13, .rw, 0x0, .even 0 2302, true⟩]⟩,
  -- CMP_STATUS (10_composition.md R267)
  ⟨0xA000C0, 1024, 0x100, 1, 0x4, 0, [⟨0, 1, .ro, 0x0, .any, false⟩, ⟨1, 1, .ro, 0x0, .any, false⟩, ⟨2, 1, .ro, 0x0, .any, false⟩, ⟨3, 4, .ro, 0x0, .any, false⟩]⟩,
  -- CMP_TRACK_ID (10_composition.md R267)
  ⟨0xA000C4, 1024, 0x100, 1, 0x4, 0, [⟨0, 32, .ro, 0x0, .any, false⟩]⟩,
  -- CMP_CNT (10_composition.md R267)
  ⟨0xA000C8, 1024, 0x100, 14, 0x4, 1, [⟨0, 32, .ro, 0x0, .any, false⟩]⟩]

/-- All rows of the rendition block. -/
def rowsRendition : List Row := rowsRendition0 ++ rowsRendition1

/-- The rows among which an address is looked up: those of its block (R15). -/
def rowsNear (a : Nat) : List Row :=
  if a < 0x10000 then rowsGlobal
  else if a < 0x20000 then rowsIsaim
  else if a < 0x30000 then rowsFault
  else if a < 0x40000 then rowsInterrupt
  else if a < 0x80000 then rowsSequencer
  else if a < 0x100000 then rowsPort
  else if a < 0x140000 then rowsHeadbox
  else if a < 0x180000 then rowsFelt
  else if a < 0x200000 then rowsDma
  else if a < 0x300000 then rowsMemPort
  else if a < 0x400000 then rowsDecode
  else if a < 0x500000 then rowsEncode
  else if a < 0x600000 then rowsCompose
  else if a < 0x700000 then rowsSealing
  else if a < 0x800000 then rowsCalibration
  else if a < 0xA00000 then rowsContext
  else if a < 0xC00000 then rowsRendition
  else []

/-- Is the address one of the registers of the row? -/
def Row.has (r : Row) (a : Nat) : Bool :=
  let o := a - r.base
  let q := o % r.s1
  decide (r.base ≤ a) && decide (o / r.s1 < r.n1) && decide (q / r.s2 < r.n2) && decide (q % r.s2 = 0)

/-- The row of a register, if a chapter assigns the address. -/
def findRow (a : Nat) : Option Row := (rowsNear a).find? (fun r => r.has a)

/-- An address inside a block's range (R15); every other one is unassigned (R16). -/
def assigned (a : Nat) : Bool :=
  decide (a ≤ 0x4FFFF) || (decide (0x80000 ≤ a) && decide (a ≤ 0x8FFFF)) || (decide (0x100000 ≤ a) && decide (a ≤ 0x183FFF))
    || (decide (0x200000 ≤ a) && decide (a ≤ 0x207FFF)) || (decide (0x300000 ≤ a) && decide (a ≤ 0x30FFFF))
    || (decide (0x400000 ≤ a) && decide (a ≤ 0x40BFFF)) || (decide (0x500000 ≤ a) && decide (a ≤ 0x507FFF))
    || (decide (0x600000 ≤ a) && decide (a ≤ 0x60FFFF)) || (decide (0x700000 ≤ a) && decide (a ≤ 0x70FFFF))
    || (decide (0x800000 ≤ a) && decide (a ≤ 0x83FFFF)) || (decide (0xA00000 ≤ a) && decide (a ≤ 0xA3FFFF))

/-- The bits of a field within its register. -/
def Field.mask (f : Field) : Nat := (2 ^ f.w - 1) * 2 ^ f.lo

/-- The value a list of fields has at reset. -/
def fieldsReset (fs : List Field) : Nat := fs.foldl (fun acc f => acc + f.reset * 2 ^ f.lo) 0

/-- The bits of the fields with some access. -/
def fieldsMask (p : Field → Bool) (fs : List Field) : Nat := fs.foldl (fun acc f => if p f then acc + f.mask else acc) 0

/-- The bits of a register that are configuration: its RW bits (R7). -/
def rwMask (a : Nat) : Nat := match findRow a with | some r => fieldsMask (fun f => f.acc == .rw) r.fields | none => 0


/-- Is the register the low word of a 64-bit quantity (R10)? -/
def pairLow (a : Nat) : Bool := match findRow a with
  | some r => r.pair == 2 || (r.pair == 1 && ((a - r.base) % r.s1 / r.s2) % 2 == 0)
  | none => false


/-! Register names. -/

def Reg.GLB_ID : Nat := 0x0
def Reg.GLB_UNITS : Nat := 0x4
def Reg.GLB_DEVICE_ID (j : Nat) : Nat := 0x8 + j * 4
def Reg.GLB_STATE : Nat := 0x10
def Reg.GLB_UPTIME : Nat := 0x14
def Reg.GLB_OPEN : Nat := 0x18
def Reg.GLB_PTP_CFG : Nat := 0x400
def Reg.GLB_PTP_TIMERS : Nat := 0x404
def Reg.GLB_PTP_ASYM : Nat := 0x408
def Reg.GLB_TIME (j : Nat) : Nat := 0x410 + j * 4
def Reg.GLB_TIME_STATUS : Nat := 0x420
def Reg.GLB_PTP_OFFSET : Nat := 0x424
def Reg.GLB_PTP_MASTER (j : Nat) : Nat := 0x428 + j * 4
def Reg.GLB_MGMT_ADDR_ERR : Nat := 0x500
def Reg.GLB_MGMT_AUTH_FAIL : Nat := 0x504
def Reg.GLB_MGMT_REPLAY : Nat := 0x508
def Reg.GLB_MGMT_SESSIONS : Nat := 0x50C
def Reg.GLB_PTP_LOSS : Nat := 0x510
def Reg.GLB_CNT_CLR : Nat := 0x5FC
def Reg.GLB_ADM_CFG : Nat := 0x600
def Reg.GLB_ADM_DEFER : Nat := 0x604
def Reg.GLB_ADM_STATE : Nat := 0x608
def Reg.GLB_CAP (j : Nat) : Nat := 0x610 + j * 4
def Reg.GLB_LOAD (j : Nat) : Nat := 0x620 + j * 4
def Reg.GLB_ADM_REFUSED : Nat := 0x630
def Reg.GLB_SHED_COUNT : Nat := 0x634
def Reg.GLB_SUSPEND_COUNT : Nat := 0x638
def Reg.GLB_CACHE_MISS : Nat := 0x63C
def Reg.GLB_ADM_CNT_CLR : Nat := 0x6FC
def Reg.GLB_ENC_CFG : Nat := 0x700
def Reg.GLB_MEM_CFG : Nat := 0x800
def Reg.GLB_MEM_CAP : Nat := 0x804
def Reg.GLB_MEM_FILL : Nat := 0x808
def Reg.GLB_MEM_MAP_PORT0_LO : Nat := 0x810
def Reg.GLB_MEM_MAP_PORT0_HI : Nat := 0x814
def Reg.GLB_MEM_MAP_PORT1_LO : Nat := 0x818
def Reg.GLB_MEM_MAP_PORT1_HI : Nat := 0x81C
def Reg.GLB_MEM_MAP_PORT2_LO : Nat := 0x820
def Reg.GLB_MEM_MAP_PORT2_HI : Nat := 0x824
def Reg.GLB_MEM_MAP_BG0_LO : Nat := 0x828
def Reg.GLB_MEM_MAP_BG0_HI : Nat := 0x82C
def Reg.GLB_MEM_MAP_BG1_LO : Nat := 0x830
def Reg.GLB_MEM_MAP_BG1_HI : Nat := 0x834
def Reg.GLB_MEM_MAP_BA0_LO : Nat := 0x838
def Reg.GLB_MEM_MAP_BA0_HI : Nat := 0x83C
def Reg.GLB_MEM_MAP_BA1_LO : Nat := 0x840
def Reg.GLB_MEM_MAP_BA1_HI : Nat := 0x844
def Reg.GLB_MEM_SCRUB : Nat := 0x850
def Reg.GLB_MEM_PROBE : Nat := 0x854
def Reg.GLB_MEM_NIGHT : Nat := 0x858
def Reg.GLB_MEM_NIGHT_REFUSED : Nat := 0x870
def Reg.GLB_MEM_NIGHT_DROP : Nat := 0x874
def Reg.GLB_MEM_CNT_CLR : Nat := 0x8FC
def Reg.GLB_EPOCH : Nat := 0x900
def Reg.GLB_EPOCH_PEND : Nat := 0x904
def Reg.GLB_CFG_STATUS : Nat := 0x908
def Reg.GLB_DIGEST (j : Nat) : Nat := 0x910 + j * 4
def Reg.GLB_BOOT_STATUS : Nat := 0x930
def Reg.GLB_BOOT_COUNT : Nat := 0x934
def Reg.GLB_RESET : Nat := 0x938
def Reg.GLB_KT_CFG : Nat := 0x940
def Reg.GLB_KT_TIMERS : Nat := 0x944
def Reg.GLB_SYS_BASE_LO : Nat := 0x948
def Reg.GLB_SYS_BASE_HI : Nat := 0x94C
def Reg.GLB_CFG_IMMUT : Nat := 0x960
def Reg.GLB_BOOT_SKIPPED : Nat := 0x964
def Reg.GLB_CFG_CNT_CLR : Nat := 0x9FC
def Reg.GLB_SEC_IDKEY (j : Nat) : Nat := 0xA00 + j * 4
def Reg.GLB_SEC_MFG_SIG (j : Nat) : Nat := 0xA40 + j * 4
def Reg.GLB_SEC_MFG_KEY : Nat := 0xA80
def Reg.GLB_SEC_OTP_STATUS : Nat := 0xA84
def Reg.GLB_SEC_OTP_CTRL : Nat := 0xA88
def Reg.GLB_SEC_STAGE (j : Nat) : Nat := 0xA90 + j * 4
def Reg.GLB_PTN_ADDR (i : Nat) (j : Nat) : Nat := 0x1000 + i * 0x40 + j * 4
def Reg.GLB_PTN_CFG (i : Nat) : Nat := 0x1010 + i * 0x40
def Reg.GLB_PTN_LINK (i : Nat) : Nat := 0x1014 + i * 0x40
def Reg.GLB_PTN_BACKLOG (i : Nat) : Nat := 0x1018 + i * 0x40
def Reg.GLB_TM_HLG (j : Nat) : Nat := 0x4000 + j * 4
def Reg.GLB_TM_PQ (j : Nat) : Nat := 0x5000 + j * 4
def Reg.GLB_TM_MTX (j : Nat) : Nat := 0x6000 + j * 4
def Reg.GLB_FONT (j : Nat) : Nat := 0x8000 + j * 4
def Reg.ISA_PF_CFG : Nat := 0x10000
def Reg.ISA_JRN_CFG : Nat := 0x10004
def Reg.ISA_STATUS : Nat := 0x10008
def Reg.ISA_VIN : Nat := 0x1000C
def Reg.ISA_PEND : Nat := 0x10010
def Reg.FLT_SRC_CFG (j : Nat) : Nat := 0x20000 + j * 4
def Reg.FLT_STATUS (j : Nat) : Nat := 0x20400 + j * 4
def Reg.FLT_CAUSE (j : Nat) : Nat := 0x20420 + j * 4
def Reg.FLT_FROZEN (j : Nat) : Nat := 0x20440 + j * 4
def Reg.FLT_GLOBAL : Nat := 0x20460
def Reg.FLT_UNFREEZE : Nat := 0x20464
def Reg.FLT_LOG_HEAD : Nat := 0x20468
def Reg.FLT_DOWNGRADED : Nat := 0x20470
def Reg.FLT_UNFREEZE_REFUSED : Nat := 0x20478
def Reg.FLT_SAFE_DROP : Nat := 0x20480
def Reg.FLT_LOG_LOST : Nat := 0x20488
def Reg.FLT_CNT (j : Nat) : Nat := 0x20470 + j * 4
def Reg.FLT_CNT_CLR : Nat := 0x204FC
def Reg.FLT_COUNT (j : Nat) : Nat := 0x20800 + j * 4
def Reg.FLT_LOG (j : Nat) : Nat := 0x21000 + j * 4
def Reg.INT_SRC_CFG (j : Nat) : Nat := 0x30000 + j * 4
def Reg.INT_PEND (j : Nat) : Nat := 0x30800 + j * 4
def Reg.INT_GRP_CFG (j : Nat) : Nat := 0x30900 + j * 4
def Reg.INT_DELIVERED : Nat := 0x30A00
def Reg.INT_MERGED : Nat := 0x30A08
def Reg.INT_BYPASS : Nat := 0x30A10
def Reg.INT_REROUTED : Nat := 0x30A18
def Reg.INT_CNT (j : Nat) : Nat := 0x30A00 + j * 4
def Reg.INT_CNT_CLR : Nat := 0x30AFC
def Reg.COL_STATUS : Nat := 0x38000
def Reg.COL_GSEQ (j : Nat) : Nat := 0x38008 + j * 4
def Reg.COL_QFILL (j : Nat) : Nat := 0x38010 + j * 4
def Reg.COL_RECORDS : Nat := 0x38040
def Reg.COL_ROUNDS : Nat := 0x38048
def Reg.COL_FULL_WAITS : Nat := 0x38050
def Reg.COL_CNT (j : Nat) : Nat := 0x38040 + j * 4
def Reg.COL_WORST : Nat := 0x38058
def Reg.COL_CNT_CLR : Nat := 0x380FC
def Reg.SEQ_STATUS (i : Nat) : Nat := 0x40000 + i * 0x2000
def Reg.SEQ_MC_VERSION (i : Nat) : Nat := 0x40004 + i * 0x2000
def Reg.SEQ_MC_DIGEST (i : Nat) : Nat := 0x40008 + i * 0x2000
def Reg.SEQ_WORK (i : Nat) : Nat := 0x4000C + i * 0x2000
def Reg.SEQ_FAST_RET (i : Nat) : Nat := 0x40010 + i * 0x2000
def Reg.SEQ_ITEMS (i : Nat) : Nat := 0x40040 + i * 0x2000
def Reg.SEQ_FAST (i : Nat) : Nat := 0x40048 + i * 0x2000
def Reg.SEQ_SLEEPS (i : Nat) : Nat := 0x40050 + i * 0x2000
def Reg.SEQ_SLEEP_REFUSED (i : Nat) : Nat := 0x40058 + i * 0x2000
def Reg.SEQ_WAKES (i : Nat) : Nat := 0x40060 + i * 0x2000
def Reg.SEQ_CS_CORR (i : Nat) : Nat := 0x40068 + i * 0x2000
def Reg.SEQ_CNT (i : Nat) (j : Nat) : Nat := 0x40040 + i * 0x2000 + j * 4
def Reg.SEQ_CNT_CLR (i : Nat) : Nat := 0x400FC + i * 0x2000
def Reg.SEQ_REG_N (i : Nat) (j : Nat) : Nat := 0x40100 + i * 0x2000 + j * 4
def Reg.SEQ_REG_F (i : Nat) (j : Nat) : Nat := 0x40200 + i * 0x2000 + j * 4
def Reg.PRT_CFG (i : Nat) : Nat := 0x80000 + i * 0x4000
def Reg.PRT_STATUS (i : Nat) : Nat := 0x80004 + i * 0x4000
def Reg.PRT_VLAN (i : Nat) : Nat := 0x80008 + i * 0x4000
def Reg.PRT_KT_UDP (i : Nat) : Nat := 0x8000C + i * 0x4000
def Reg.PRT_MAC_LO (i : Nat) : Nat := 0x80010 + i * 0x4000
def Reg.PRT_MAC_HI (i : Nat) : Nat := 0x80014 + i * 0x4000
def Reg.PRT_IP4_ADDR (i : Nat) : Nat := 0x80020 + i * 0x4000
def Reg.PRT_IP4_PFX (i : Nat) : Nat := 0x80024 + i * 0x4000
def Reg.PRT_IP4_GW (i : Nat) : Nat := 0x80028 + i * 0x4000
def Reg.PRT_IP6_ADDR (i : Nat) (j : Nat) : Nat := 0x80030 + i * 0x4000 + j * 4
def Reg.PRT_IP6_PFX (i : Nat) : Nat := 0x80040 + i * 0x4000
def Reg.PRT_IP6_GW (i : Nat) (j : Nat) : Nat := 0x80050 + i * 0x4000 + j * 4
def Reg.PRT_CNT_CLR (i : Nat) : Nat := 0x80100 + i * 0x4000
def Reg.PRT_RX_FRAMES (i : Nat) : Nat := 0x80200 + i * 0x4000
def Reg.PRT_RX_FCS_ERR (i : Nat) : Nat := 0x80208 + i * 0x4000
def Reg.PRT_RX_OVERSIZE (i : Nat) : Nat := 0x80210 + i * 0x4000
def Reg.PRT_RX_VLAN_DROP (i : Nat) : Nat := 0x80218 + i * 0x4000
def Reg.PRT_RX_L3_DROP (i : Nat) : Nat := 0x80220 + i * 0x4000
def Reg.PRT_RX_ROLE_DROP (i : Nat) : Nat := 0x80228 + i * 0x4000
def Reg.PRT_RX_PAUSE (i : Nat) : Nat := 0x80230 + i * 0x4000
def Reg.PRT_KT_BAD (i : Nat) : Nat := 0x80238 + i * 0x4000
def Reg.PRT_KT_UNKNOWN (i : Nat) : Nat := 0x80240 + i * 0x4000
def Reg.PRT_KT_WIN_DROP (i : Nat) : Nat := 0x80248 + i * 0x4000
def Reg.PRT_KT_DUP (i : Nat) : Nat := 0x80250 + i * 0x4000
def Reg.PRT_TX_FRAMES (i : Nat) : Nat := 0x80258 + i * 0x4000
def Reg.PRT_TX_SHEETS (i : Nat) : Nat := 0x80260 + i * 0x4000
def Reg.PRT_SHEETS_LOST (i : Nat) : Nat := 0x80268 + i * 0x4000
def Reg.PRT_FEC_CORR (i : Nat) : Nat := 0x80270 + i * 0x4000
def Reg.PRT_FEC_UNCORR (i : Nat) : Nat := 0x80278 + i * 0x4000
def Reg.PRT_LINK_DOWNS (i : Nat) : Nat := 0x80280 + i * 0x4000
def Reg.PRT_CNT (i : Nat) (j : Nat) : Nat := 0x80200 + i * 0x4000 + j * 4
def Reg.PRT_NBR (i : Nat) (j : Nat) : Nat := 0x80400 + i * 0x4000 + j * 4
def Reg.HBX_POL_CFG (i : Nat) : Nat := 0x100000 + i * 0x10
def Reg.HBX_POL_CIR (i : Nat) : Nat := 0x100004 + i * 0x10
def Reg.HBX_POL_CBS (i : Nat) : Nat := 0x100008 + i * 0x10
def Reg.HBX_POL_DROP_FRAMES (i : Nat) : Nat := 0x104000 + i * 0x10
def Reg.HBX_POL_DROP_BYTES (i : Nat) : Nat := 0x104008 + i * 0x10
def Reg.HBX_POL_DROP (i : Nat) (j : Nat) : Nat := 0x104000 + i * 0x10 + j * 4
def Reg.HBX_CTL_CFG (i : Nat) : Nat := 0x108000 + i * 0x20
def Reg.HBX_CTL_CIR (i : Nat) : Nat := 0x108004 + i * 0x20
def Reg.HBX_CTL_CBS (i : Nat) : Nat := 0x108008 + i * 0x20
def Reg.HBX_CTL_DROP_FRAMES (i : Nat) : Nat := 0x108010 + i * 0x20
def Reg.HBX_CTL_DROP_BYTES (i : Nat) : Nat := 0x108018 + i * 0x20
def Reg.HBX_CTL_DROP (i : Nat) (j : Nat) : Nat := 0x108010 + i * 0x20 + j * 4
def Reg.HBX_CNT_CLR : Nat := 0x1080FC
def Reg.EGQ_CFG (i : Nat) : Nat := 0x110000 + i * 0x10
def Reg.EGQ_RATE (i : Nat) : Nat := 0x110004 + i * 0x10
def Reg.EGQ_BURST (i : Nat) : Nat := 0x110008 + i * 0x10
def Reg.EGQ_STATUS (i : Nat) : Nat := 0x11000C + i * 0x10
def Reg.EGQ_TX_FRAMES (i : Nat) : Nat := 0x114000 + i * 0x10
def Reg.EGQ_TX_BYTES (i : Nat) : Nat := 0x114008 + i * 0x10
def Reg.EGQ_TX (i : Nat) (j : Nat) : Nat := 0x114000 + i * 0x10 + j * 4
def Reg.EGP_RATE (i : Nat) : Nat := 0x118000 + i * 0x10
def Reg.EGP_BURST (i : Nat) : Nat := 0x118004 + i * 0x10
def Reg.EGP_STATUS (i : Nat) : Nat := 0x118008 + i * 0x10
def Reg.EGQ_CNT_CLR : Nat := 0x1180FC
def Reg.FP_CFG (i : Nat) : Nat := 0x140000 + i * 0x100
def Reg.FP_BASE_LO (i : Nat) : Nat := 0x140004 + i * 0x100
def Reg.FP_BASE_HI (i : Nat) : Nat := 0x140008 + i * 0x100
def Reg.FP_COUNT (i : Nat) : Nat := 0x14000C + i * 0x100
def Reg.FP_FREE (i : Nat) : Nat := 0x140010 + i * 0x100
def Reg.FP_LOW (i : Nat) : Nat := 0x140014 + i * 0x100
def Reg.FP_ALLOCS (i : Nat) : Nat := 0x140040 + i * 0x100
def Reg.FP_FREES (i : Nat) : Nat := 0x140048 + i * 0x100
def Reg.FP_FALLBACKS (i : Nat) : Nat := 0x140050 + i * 0x100
def Reg.FP_EMPTY (i : Nat) : Nat := 0x140058 + i * 0x100
def Reg.FP_DOUBLE_FREE (i : Nat) : Nat := 0x140060 + i * 0x100
def Reg.FP_FOREIGN_FREE (i : Nat) : Nat := 0x140068 + i * 0x100
def Reg.FP_CNT (i : Nat) (j : Nat) : Nat := 0x140040 + i * 0x100 + j * 4
def Reg.FP_CNT_CLR (i : Nat) : Nat := 0x1400FC + i * 0x100
def Reg.FP_QUERY_HANDLE : Nat := 0x141000
def Reg.FP_QUERY_RESULT : Nat := 0x141004
def Reg.FP_LAST_HANDLE : Nat := 0x141010
def Reg.FP_LAST_INFO : Nat := 0x141014
def Reg.FP_BAD_HANDLE : Nat := 0x141020
def Reg.FP_GLB_CNT_CLR : Nat := 0x1410FC
def Reg.DMA_ACT_SRC_LO (i : Nat) : Nat := 0x180000 + i * 0x100
def Reg.DMA_ACT_SRC_HI (i : Nat) : Nat := 0x180004 + i * 0x100
def Reg.DMA_ACT_DST_LO (i : Nat) : Nat := 0x180008 + i * 0x100
def Reg.DMA_ACT_DST_HI (i : Nat) : Nat := 0x18000C + i * 0x100
def Reg.DMA_ACT_CNT_XY (i : Nat) : Nat := 0x180010 + i * 0x100
def Reg.DMA_ACT_CNT_Z (i : Nat) : Nat := 0x180014 + i * 0x100
def Reg.DMA_ACT_STEPS (i : Nat) (j : Nat) : Nat := 0x180018 + i * 0x100 + j * 4
def Reg.DMA_SRC_LO (i : Nat) : Nat := 0x180040 + i * 0x100
def Reg.DMA_SRC_HI (i : Nat) : Nat := 0x180044 + i * 0x100
def Reg.DMA_DST_LO (i : Nat) : Nat := 0x180048 + i * 0x100
def Reg.DMA_DST_HI (i : Nat) : Nat := 0x18004C + i * 0x100
def Reg.DMA_CNT_XY (i : Nat) : Nat := 0x180050 + i * 0x100
def Reg.DMA_CNT_Z (i : Nat) : Nat := 0x180054 + i * 0x100
def Reg.DMA_STEPS (i : Nat) (j : Nat) : Nat := 0x180058 + i * 0x100 + j * 4
def Reg.DMA_CTRL (i : Nat) : Nat := 0x180080 + i * 0x100
def Reg.DMA_STATUS (i : Nat) : Nat := 0x180084 + i * 0x100
def Reg.DMA_PROG_LO (i : Nat) : Nat := 0x180088 + i * 0x100
def Reg.DMA_PROG_HI (i : Nat) : Nat := 0x18008C + i * 0x100
def Reg.DMA_PC (i : Nat) (j : Nat) : Nat := 0x180090 + i * 0x100 + j * 4
def Reg.DMA_SIGNAL (i : Nat) : Nat := 0x180098 + i * 0x100
def Reg.DMA_GO (i : Nat) : Nat := 0x18009C + i * 0x100
def Reg.DMA_ERR_ADDR (i : Nat) (j : Nat) : Nat := 0x1800A0 + i * 0x100 + j * 4
def Reg.DMA_SWREQ : Nat := 0x1800A8
def Reg.DMA_XFERS (i : Nat) : Nat := 0x1800C0 + i * 0x100
def Reg.DMA_BYTES (i : Nat) : Nat := 0x1800C8 + i * 0x100
def Reg.DMA_BURSTS (i : Nat) : Nat := 0x1800D0 + i * 0x100
def Reg.DMA_SHADOW_BUSY (i : Nat) : Nat := 0x1800D8 + i * 0x100
def Reg.DMA_ERRORS (i : Nat) : Nat := 0x1800E0 + i * 0x100
def Reg.DMA_CNT (i : Nat) (j : Nat) : Nat := 0x1800C0 + i * 0x100 + j * 4
def Reg.DMA_CNT_CLR (i : Nat) : Nat := 0x1800FC + i * 0x100
def Reg.MEM_STATUS (i : Nat) : Nat := 0x200000 + i * 0x1000
def Reg.MEM_WQ_HIGH (i : Nat) : Nat := 0x200004 + i * 0x1000
def Reg.MEM_WQ_LOW (i : Nat) : Nat := 0x200008 + i * 0x1000
def Reg.MEM_RD_TIMEOUT (i : Nat) : Nat := 0x20000C + i * 0x1000
def Reg.MEM_RD_LINES (i : Nat) : Nat := 0x200040 + i * 0x1000
def Reg.MEM_WR_LINES (i : Nat) : Nat := 0x200048 + i * 0x1000
def Reg.MEM_RMW (i : Nat) : Nat := 0x200050 + i * 0x1000
def Reg.MEM_CE_SYMBOLS (i : Nat) : Nat := 0x200058 + i * 0x1000
def Reg.MEM_UE_LINES (i : Nat) : Nat := 0x200060 + i * 0x1000
def Reg.MEM_TIMEOUTS (i : Nat) : Nat := 0x200068 + i * 0x1000
def Reg.MEM_SCRUB_FIX (i : Nat) : Nat := 0x200070 + i * 0x1000
def Reg.MEM_DRAINS (i : Nat) : Nat := 0x200078 + i * 0x1000
def Reg.MEM_LOG_LOST (i : Nat) : Nat := 0x200080 + i * 0x1000
def Reg.MEM_CNT (i : Nat) (j : Nat) : Nat := 0x200040 + i * 0x1000 + j * 4
def Reg.MEM_CNT_CLR (i : Nat) : Nat := 0x2000FC + i * 0x1000
def Reg.MEM_DLY_L0 (i : Nat) (j : Nat) : Nat := 0x200100 + i * 0x1000 + j * 16
def Reg.MEM_DLY_L1 (i : Nat) (j : Nat) : Nat := 0x200104 + i * 0x1000 + j * 16
def Reg.MEM_DLY_CA (i : Nat) (j : Nat) : Nat := 0x200108 + i * 0x1000 + j * 16
def Reg.MEM_MARGIN (i : Nat) (j : Nat) : Nat := 0x200180 + i * 0x1000 + j * 4
def Reg.MEM_LOG_HEAD (i : Nat) : Nat := 0x2001A0 + i * 0x1000
def Reg.MEM_LOG (i : Nat) (j : Nat) : Nat := 0x200200 + i * 0x1000 + j * 4
def Reg.DEC_CFG (i : Nat) : Nat := 0x300000 + i * 0x400
def Reg.DEC_STATUS (i : Nat) : Nat := 0x300004 + i * 0x400
def Reg.DEC_CAP (i : Nat) : Nat := 0x300008 + i * 0x400
def Reg.DEC_PICTURES (i : Nat) : Nat := 0x300040 + i * 0x400
def Reg.DEC_PIXELS (i : Nat) : Nat := 0x300048 + i * 0x400
def Reg.DEC_BITS (i : Nat) : Nat := 0x300050 + i * 0x400
def Reg.DEC_SWITCHES (i : Nat) : Nat := 0x300058 + i * 0x400
def Reg.DEC_POISON (i : Nat) : Nat := 0x300060 + i * 0x400
def Reg.DEC_ALLOC_WAIT (i : Nat) : Nat := 0x300068 + i * 0x400
def Reg.DEC_RESTARTS (i : Nat) : Nat := 0x300070 + i * 0x400
def Reg.DEC_CNT (i : Nat) (j : Nat) : Nat := 0x300040 + i * 0x400 + j * 4
def Reg.DEC_CNT_CLR (i : Nat) : Nat := 0x3000FC + i * 0x400
def Reg.ENC_CFG (i : Nat) : Nat := 0x400000 + i * 0x800
def Reg.ENC_STATUS (i : Nat) : Nat := 0x400004 + i * 0x800
def Reg.ENC_CAP (i : Nat) : Nat := 0x400008 + i * 0x800
def Reg.ENC_PICTURES (i : Nat) : Nat := 0x400040 + i * 0x800
def Reg.ENC_PIXELS (i : Nat) : Nat := 0x400048 + i * 0x800
def Reg.ENC_BITS (i : Nat) : Nat := 0x400050 + i * 0x800
def Reg.ENC_IDR (i : Nat) : Nat := 0x400058 + i * 0x800
def Reg.ENC_SWITCHES (i : Nat) : Nat := 0x400060 + i * 0x800
def Reg.ENC_SEEDS (i : Nat) : Nat := 0x400068 + i * 0x800
def Reg.ENC_POISON (i : Nat) : Nat := 0x400070 + i * 0x800
def Reg.ENC_ALLOC_WAIT (i : Nat) : Nat := 0x400078 + i * 0x800
def Reg.ENC_RESTARTS (i : Nat) : Nat := 0x400080 + i * 0x800
def Reg.ENC_STILLS (i : Nat) : Nat := 0x400088 + i * 0x800
def Reg.ENC_CNT (i : Nat) (j : Nat) : Nat := 0x400040 + i * 0x800 + j * 4
def Reg.ENC_CNT_CLR (i : Nat) : Nat := 0x4007FC + i * 0x800
def Reg.CU_CFG (i : Nat) : Nat := 0x500000 + i * 0x1000
def Reg.CU_STATUS (i : Nat) : Nat := 0x500004 + i * 0x1000
def Reg.CU_CAP (i : Nat) : Nat := 0x500008 + i * 0x1000
def Reg.CU_PICTURES (i : Nat) : Nat := 0x500040 + i * 0x1000
def Reg.CU_PIXELS (i : Nat) : Nat := 0x500048 + i * 0x1000
def Reg.CU_FLATTENS (i : Nat) : Nat := 0x500050 + i * 0x1000
def Reg.CU_POISON (i : Nat) : Nat := 0x500058 + i * 0x1000
def Reg.CU_RESTARTS (i : Nat) : Nat := 0x500060 + i * 0x1000
def Reg.CU_CNT (i : Nat) (j : Nat) : Nat := 0x500040 + i * 0x1000 + j * 4
def Reg.CU_CNT_CLR (i : Nat) : Nat := 0x500FFC + i * 0x1000
def Reg.SEAL_CFG : Nat := 0x600000
def Reg.SEAL_STATUS : Nat := 0x600004
def Reg.SEAL_SERIAL (j : Nat) : Nat := 0x600008 + j * 4
def Reg.SEAL_KEY_ID (j : Nat) : Nat := 0x600010 + j * 4
def Reg.SEAL_REAMS : Nat := 0x600040
def Reg.SEAL_NSC : Nat := 0x600048
def Reg.SEAL_LEAVES : Nat := 0x600050
def Reg.SEAL_SEALS : Nat := 0x600058
def Reg.SEAL_SHEETS : Nat := 0x600060
def Reg.SEAL_CNT (j : Nat) : Nat := 0x600040 + j * 4
def Reg.SEAL_CNT_CLR : Nat := 0x6000FC
def Reg.CAL_CFG : Nat := 0x700000
def Reg.CAL_CTRL : Nat := 0x700004
def Reg.CAL_STATUS : Nat := 0x700008
def Reg.CAL_SETPOINT : Nat := 0x70000C
def Reg.CAL_RED : Nat := 0x700010
def Reg.CAL_GRADE : Nat := 0x700014
def Reg.CAL_HOURS : Nat := 0x700018
def Reg.CAL_TEMP : Nat := 0x70001C
def Reg.CAL_REF : Nat := 0x700020
def Reg.CAL_AGE (j : Nat) : Nat := 0x700040 + j * 4
def Reg.CAL_MEAS : Nat := 0x700080
def Reg.CAL_LENGTHEN : Nat := 0x700088
def Reg.CAL_REPLANS : Nat := 0x700090
def Reg.CAL_VLIMIT : Nat := 0x700098
def Reg.CAL_CNT (j : Nat) : Nat := 0x700080 + j * 4
def Reg.CAL_CNT_CLR : Nat := 0x7000FC
def Reg.CAL_GRP (j : Nat) : Nat := 0x701000 + j * 4
def Reg.CTX_CTRL (i : Nat) : Nat := 0x800000 + i * 0x100
def Reg.CTX_CFG (i : Nat) : Nat := 0x800004 + i * 0x100
def Reg.CTX_GEOM (i : Nat) : Nat := 0x800008 + i * 0x100
def Reg.CTX_RATE (i : Nat) : Nat := 0x80000C + i * 0x100
def Reg.CTX_VERIFY (i : Nat) : Nat := 0x800010 + i * 0x100
def Reg.CTX_LABEL (i : Nat) (j : Nat) : Nat := 0x800014 + i * 0x100 + j * 4
def Reg.CTX_STATUS (i : Nat) : Nat := 0x80002C + i * 0x100
def Reg.CTX_CHARGE_DEC (i : Nat) : Nat := 0x800030 + i * 0x100
def Reg.CTX_CHARGE_MEM (i : Nat) : Nat := 0x800034 + i * 0x100
def Reg.CTX_PRESS (i : Nat) : Nat := 0x800038 + i * 0x100
def Reg.CTX_CORE (i : Nat) : Nat := 0x80003C + i * 0x100
def Reg.CTX_PIC_VERIFIED (i : Nat) : Nat := 0x800040 + i * 0x100
def Reg.CTX_PIC_DEFERRED (i : Nat) : Nat := 0x800048 + i * 0x100
def Reg.CTX_PIC_SHED (i : Nat) : Nat := 0x800050 + i * 0x100
def Reg.CTX_DROP_CLOSING (i : Nat) : Nat := 0x800058 + i * 0x100
def Reg.CTX_SWITCHES (i : Nat) : Nat := 0x800060 + i * 0x100
def Reg.CTX_CNT (i : Nat) (j : Nat) : Nat := 0x800040 + i * 0x100 + j * 4
def Reg.ING_FLOW (i : Nat) : Nat := 0x800080 + i * 0x100
def Reg.ING_RTP (i : Nat) : Nat := 0x800084 + i * 0x100
def Reg.ING_TIMERS (i : Nat) : Nat := 0x800088 + i * 0x100
def Reg.ING_SSRC (i : Nat) : Nat := 0x80008C + i * 0x100
def Reg.ING_SRC_ADDR (i : Nat) (j : Nat) : Nat := 0x800090 + i * 0x100 + j * 4
def Reg.ING_STATUS (i : Nat) : Nat := 0x8000A0 + i * 0x100
def Reg.ING_LAST_TS (i : Nat) : Nat := 0x8000A4 + i * 0x100
def Reg.ING_PKTS (i : Nat) : Nat := 0x8000A8 + i * 0x100
def Reg.ING_LOST (i : Nat) : Nat := 0x8000B0 + i * 0x100
def Reg.ING_LATE (i : Nat) : Nat := 0x8000B8 + i * 0x100
def Reg.ING_REFUSED (i : Nat) : Nat := 0x8000C0 + i * 0x100
def Reg.ING_SSRC_DROP (i : Nat) : Nat := 0x8000C8 + i * 0x100
def Reg.ING_PT_DROP (i : Nat) : Nat := 0x8000D0 + i * 0x100
def Reg.ING_AUS (i : Nat) : Nat := 0x8000D8 + i * 0x100
def Reg.ING_UNSUPPORTED (i : Nat) : Nat := 0x8000E0 + i * 0x100
def Reg.ING_OVER_LIMIT (i : Nat) : Nat := 0x8000E8 + i * 0x100
def Reg.ING_PS_MISSING (i : Nat) : Nat := 0x8000F0 + i * 0x100
def Reg.ING_DISCONT (i : Nat) : Nat := 0x8000F8 + i * 0x100
def Reg.ING_CNT (i : Nat) (j : Nat) : Nat := 0x8000A8 + i * 0x100 + j * 4
def Reg.RND_CTRL (i : Nat) : Nat := 0xA00000 + i * 0x100
def Reg.RND_CFG (i : Nat) : Nat := 0xA00004 + i * 0x100
def Reg.RND_SRC_A (i : Nat) : Nat := 0xA00008 + i * 0x100
def Reg.RND_SRC_B (i : Nat) : Nat := 0xA0000C + i * 0x100
def Reg.RND_GEOM (i : Nat) : Nat := 0xA00010 + i * 0x100
def Reg.RND_RATE (i : Nat) : Nat := 0xA00014 + i * 0x100
def Reg.RND_STATUS (i : Nat) : Nat := 0xA00018 + i * 0x100
def Reg.RND_CHARGE_ENC (i : Nat) : Nat := 0xA0001C + i * 0x100
def Reg.RND_CHARGE_CMP (i : Nat) : Nat := 0xA00020 + i * 0x100
def Reg.RND_CHARGE_MEM (i : Nat) : Nat := 0xA00024 + i * 0x100
def Reg.RND_PRESS (i : Nat) : Nat := 0xA00028 + i * 0x100
def Reg.RC_CFG (i : Nat) : Nat := 0xA00040 + i * 0x100
def Reg.RC_RATE (i : Nat) : Nat := 0xA00044 + i * 0x100
def Reg.RC_BUF (i : Nat) : Nat := 0xA00048 + i * 0x100
def Reg.RC_QP (i : Nat) : Nat := 0xA0004C + i * 0x100
def Reg.RC_STATUS (i : Nat) : Nat := 0xA00050 + i * 0x100
def Reg.RC_FULL (i : Nat) : Nat := 0xA00054 + i * 0x100
def Reg.RC_CARRY (i : Nat) : Nat := 0xA00058 + i * 0x100
def Reg.RC_OVERRUNS (i : Nat) : Nat := 0xA00060 + i * 0x100
def Reg.RC_OVER_BITS (i : Nat) : Nat := 0xA00068 + i * 0x100
def Reg.RC_FLOOR_PICS (i : Nat) : Nat := 0xA00070 + i * 0x100
def Reg.RC_FORCED_PICS (i : Nat) : Nat := 0xA00078 + i * 0x100
def Reg.RC_CNT (i : Nat) (j : Nat) : Nat := 0xA00060 + i * 0x100 + j * 4
def Reg.CMP_CFG (i : Nat) : Nat := 0xA00080 + i * 0x100
def Reg.CMP_BG (i : Nat) : Nat := 0xA00084 + i * 0x100
def Reg.CMP_FILL (i : Nat) : Nat := 0xA00088 + i * 0x100
def Reg.CMP_XFER (i : Nat) : Nat := 0xA0008C + i * 0x100
def Reg.CMP_CROP_XY (i : Nat) (j : Nat) : Nat := 0xA00090 + i * 0x100 + j * 8
def Reg.CMP_CROP_WH (i : Nat) (j : Nat) : Nat := 0xA00094 + i * 0x100 + j * 8
def Reg.CMP_GFX_CFG (i : Nat) (j : Nat) : Nat := 0xA000B0 + i * 0x100 + j * 8
def Reg.CMP_GFX_POS (i : Nat) (j : Nat) : Nat := 0xA000B4 + i * 0x100 + j * 8
def Reg.CMP_STATUS (i : Nat) : Nat := 0xA000C0 + i * 0x100
def Reg.CMP_TRACK_ID (i : Nat) : Nat := 0xA000C4 + i * 0x100
def Reg.CMP_PICTURES (i : Nat) : Nat := 0xA000C8 + i * 0x100
def Reg.CMP_MASK_MISSING (i : Nat) : Nat := 0xA000D0 + i * 0x100
def Reg.CMP_MASK_LATE (i : Nat) : Nat := 0xA000D8 + i * 0x100
def Reg.CMP_MASK_UNUSED (i : Nat) : Nat := 0xA000E0 + i * 0x100
def Reg.CMP_MASK_BAD (i : Nat) : Nat := 0xA000E8 + i * 0x100
def Reg.CMP_TILE_LATE (i : Nat) : Nat := 0xA000F0 + i * 0x100
def Reg.CMP_FLATTEN (i : Nat) : Nat := 0xA000F8 + i * 0x100
def Reg.CMP_CNT (i : Nat) (j : Nat) : Nat := 0xA000C8 + i * 0x100 + j * 4

end Sys2Proof.Machine
end

