-- ==== Sys2Proof/Machine/ToneTables.lean ====
section
/-!
DEFINITION. The reset contents of GLB_TM_HLG and GLB_TM_PQ: entry i is floor(65,535 × E + 0.5) under R245, worked out from that
rule's formula, and the reset matrix of GLB_TM_MTX.
-/
namespace Sys2Proof.Machine

def hlgReset0 : List Nat := [
  0, 0, 1, 3, 6, 9, 13, 17, 23, 29, 35, 43, 51, 60, 69, 80,
  91, 102, 115, 128, 142, 156, 172, 188, 204, 222, 240, 258, 278, 298, 319, 341,
  363, 386, 410, 434, 459, 485, 512, 539, 567, 596, 625, 655, 686, 718, 750, 783,
  817, 851, 886, 922, 959, 996, 1034, 1072, 1112, 1152, 1193, 1234, 1276, 1319, 1363, 1407,
  1452, 1498, 1544, 1591, 1639, 1688, 1737, 1787, 1838, 1889, 1941, 1994, 2048, 2102, 2157, 2213,
  2269, 2326, 2384, 2442, 2501, 2561, 2622, 2683, 2745, 2808, 2872, 2936, 3001, 3066, 3132, 3199,
  3267, 3336, 3405, 3475, 3545, 3616, 3688, 3761, 3834, 3909, 3983, 4059, 4135, 4212, 4290, 4368,
  4447, 4527, 4607, 4688, 4770, 4853, 4936, 5020, 5105, 5190, 5277, 5380, 5466, 5553, 5640, 5726]

def hlgReset1 : List Nat := [
  5813, 5899, 5986, 6072, 6158, 6245, 6331, 6417, 6503, 6589, 6675, 6760, 6846, 6932, 7017, 7103,
  7188, 7274, 7359, 7445, 7530, 7615, 7700, 7785, 7870, 7955, 8040, 8125, 8210, 8295, 8380, 8464,
  8549, 8633, 8718, 8802, 8887, 8971, 9055, 9140, 9224, 9308, 9392, 9476, 9560, 9644, 9728, 9812,
  9896, 9979, 10063, 10147, 10230, 10314, 10397, 10481, 10564, 10648, 10731, 10814, 10898, 10981, 11064, 11147,
  11230, 11313, 11396, 11479, 11562, 11645, 11728, 11811, 11893, 11976, 12059, 12141, 12224, 12306, 12389, 12471,
  12554, 12636, 12718, 12801, 12883, 12965, 13047, 13129, 13212, 13294, 13376, 13458, 13540, 13621, 13703, 13785,
  13867, 13949, 14030, 14112, 14194, 14275, 14357, 14439, 14520, 14602, 14683, 14764, 14846, 14927, 15008, 15090,
  15171, 15252, 15333, 15414, 15496, 15577, 15658, 15739, 15820, 15901, 15982, 16062, 16143, 16224, 16305, 16386]

def hlgReset2 : List Nat := [
  16466, 16547, 16628, 16708, 16789, 16869, 16950, 17030, 17111, 17191, 17272, 17352, 17432, 17513, 17593, 17673,
  17754, 17834, 17914, 17994, 18074, 18154, 18234, 18314, 18394, 18474, 18554, 18634, 18714, 18794, 18874, 18953,
  19033, 19113, 19193, 19272, 19352, 19432, 19511, 19591, 19670, 19750, 19829, 19909, 19988, 20068, 20147, 20226,
  20306, 20385, 20464, 20544, 20623, 20702, 20781, 20860, 20940, 21019, 21098, 21177, 21256, 21335, 21414, 21493,
  21572, 21651, 21729, 21808, 21887, 21966, 22045, 22124, 22202, 22281, 22360, 22438, 22517, 22596, 22674, 22753,
  22831, 22910, 22988, 23067, 23145, 23224, 23302, 23380, 23459, 23537, 23615, 23694, 23772, 23850, 23928, 24007,
  24085, 24163, 24241, 24319, 24397, 24475, 24553, 24632, 24710, 24787, 24865, 24943, 25021, 25099, 25177, 25255,
  25333, 25411, 25488, 25566, 25644, 25722, 25799, 25877, 25955, 26032, 26110, 26188, 26265, 26343, 26420, 26498]

def hlgReset3 : List Nat := [
  26575, 26653, 26730, 26808, 26885, 26962, 27040, 27117, 27195, 27272, 27349, 27426, 27504, 27581, 27658, 27735,
  27813, 27890, 27967, 28044, 28121, 28198, 28275, 28352, 28429, 28506, 28583, 28660, 28737, 28814, 28891, 28968,
  29045, 29122, 29199, 29276, 29352, 29429, 29506, 29583, 29659, 29736, 29813, 29889, 29966, 30043, 30119, 30196,
  30273, 30349, 30426, 30502, 30579, 30655, 30732, 30808, 30885, 30961, 31038, 31114, 31190, 31267, 31343, 31419,
  31496, 31572, 31648, 31725, 31801, 31877, 31953, 32029, 32106, 32182, 32258, 32334, 32410, 32486, 32562, 32638,
  32715, 32791, 32867, 32943, 33019, 33094, 33170, 33246, 33322, 33398, 33474, 33550, 33626, 33702, 33777, 33853,
  33929, 34005, 34081, 34156, 34232, 34308, 34383, 34459, 34535, 34610, 34686, 34762, 34837, 34913, 34988, 35064,
  35140, 35215, 35291, 35366, 35442, 35517, 35593, 35668, 35743, 35819, 35894, 35970, 36045, 36120, 36196, 36271]

def hlgReset4 : List Nat := [
  36346, 36422, 36498, 36574, 36650, 36726, 36803, 36880, 36958, 37035, 37113, 37191, 37270, 37348, 37427, 37506,
  37585, 37665, 37745, 37825, 37906, 37986, 38067, 38148, 38230, 38312, 38394, 38476, 38558, 38641, 38724, 38807,
  38891, 38975, 39059, 39143, 39228, 39313, 39398, 39484, 39569, 39656, 39742, 39828, 39915, 40002, 40090, 40177,
  40265, 40354, 40442, 40531, 40620, 40709, 40799, 40889, 40979, 41070, 41161, 41252, 41343, 41435, 41527, 41619,
  41711, 41804, 41897, 41990, 42084, 42178, 42272, 42367, 42462, 42557, 42652, 42748, 42844, 42940, 43037, 43134,
  43231, 43328, 43426, 43524, 43623, 43721, 43820, 43920, 44019, 44119, 44219, 44320, 44421, 44522, 44623, 44725,
  44827, 44930, 45032, 45135, 45239, 45342, 45446, 45550, 45655, 45760, 45865, 45971, 46076, 46183, 46289, 46396,
  46503, 46610, 46718, 46826, 46934, 47043, 47152, 47262, 47371, 47481, 47592, 47702, 47813, 47925, 48036, 48148]

def hlgReset5 : List Nat := [
  48261, 48373, 48486, 48600, 48713, 48827, 48942, 49056, 49171, 49287, 49402, 49518, 49635, 49751, 49868, 49986,
  50104, 50222, 50340, 50459, 50578, 50697, 50817, 50937, 51058, 51179, 51300, 51421, 51543, 51666, 51788, 51911,
  52035, 52158, 52282, 52407, 52531, 52657, 52782, 52908, 53034, 53161, 53288, 53415, 53543, 53671, 53799, 53928,
  54057, 54186, 54316, 54446, 54577, 54708, 54839, 54971, 55103, 55236, 55369, 55502, 55635, 55769, 55904, 56039,
  56174, 56309, 56445, 56581, 56718, 56855, 56993, 57130, 57269, 57407, 57546, 57686, 57825, 57966, 58106, 58247,
  58389, 58530, 58672, 58815, 58958, 59101, 59245, 59389, 59534, 59679, 59824, 59970, 60116, 60263, 60410, 60557,
  60705, 60853, 61002, 61151, 61300, 61450, 61600, 61751, 61902, 62054, 62206, 62358, 62511, 62664, 62818, 62972,
  63126, 63281, 63436, 63592, 63748, 63905, 64062, 64219, 64377, 64536, 64695, 64854, 65013, 65174, 65334, 65495]

def hlgReset6 : List Nat := [
  65535, 65535, 65535, 65535, 65535, 65535, 65535, 65535, 65535, 65535, 65535, 65535, 65535, 65535, 65535, 65535,
  65535, 65535, 65535, 65535, 65535, 65535, 65535, 65535, 65535, 65535, 65535, 65535, 65535, 65535, 65535, 65535,
  65535, 65535, 65535, 65535, 65535, 65535, 65535, 65535, 65535, 65535, 65535, 65535, 65535, 65535, 65535, 65535,
  65535, 65535, 65535, 65535, 65535, 65535, 65535, 65535, 65535, 65535, 65535, 65535, 65535, 65535, 65535, 65535,
  65535, 65535, 65535, 65535, 65535, 65535, 65535, 65535, 65535, 65535, 65535, 65535, 65535, 65535, 65535, 65535,
  65535, 65535, 65535, 65535, 65535, 65535, 65535, 65535, 65535, 65535, 65535, 65535, 65535, 65535, 65535, 65535,
  65535, 65535, 65535, 65535, 65535, 65535, 65535, 65535, 65535, 65535, 65535, 65535, 65535, 65535, 65535, 65535,
  65535, 65535, 65535, 65535, 65535, 65535, 65535, 65535, 65535, 65535, 65535, 65535, 65535, 65535, 65535, 65535]

def hlgReset7 : List Nat := [
  65535, 65535, 65535, 65535, 65535, 65535, 65535, 65535, 65535, 65535, 65535, 65535, 65535, 65535, 65535, 65535,
  65535, 65535, 65535, 65535, 65535, 65535, 65535, 65535, 65535, 65535, 65535, 65535, 65535, 65535, 65535, 65535,
  65535, 65535, 65535, 65535, 65535, 65535, 65535, 65535, 65535, 65535, 65535, 65535, 65535, 65535, 65535, 65535,
  65535, 65535, 65535, 65535, 65535, 65535, 65535, 65535, 65535, 65535, 65535, 65535, 65535, 65535, 65535, 65535,
  65535, 65535, 65535, 65535, 65535, 65535, 65535, 65535, 65535, 65535, 65535, 65535, 65535, 65535, 65535, 65535,
  65535, 65535, 65535, 65535, 65535, 65535, 65535, 65535, 65535, 65535, 65535, 65535, 65535, 65535, 65535, 65535,
  65535, 65535, 65535, 65535, 65535, 65535, 65535, 65535, 65535, 65535, 65535, 65535, 65535, 65535, 65535, 65535,
  65535, 65535, 65535, 65535, 65535, 65535, 65535, 65535, 65535, 65535, 65535, 65535, 65535, 65535, 65535, 65535]

/-- Reset entry i of GLB_TM_HLG (R245). -/
def hlgReset (i : Nat) : Nat :=
  if i < 128 then hlgReset0.getD (i - 0) 0
  else if i < 256 then hlgReset1.getD (i - 128) 0
  else if i < 384 then hlgReset2.getD (i - 256) 0
  else if i < 512 then hlgReset3.getD (i - 384) 0
  else if i < 640 then hlgReset4.getD (i - 512) 0
  else if i < 768 then hlgReset5.getD (i - 640) 0
  else if i < 896 then hlgReset6.getD (i - 768) 0
  else if i < 1024 then hlgReset7.getD (i - 896) 0
  else 0

def pqReset0 : List Nat := [
  0, 0, 0, 0, 1, 1, 1, 2, 2, 3, 3, 4, 5, 5, 6, 7,
  8, 9, 10, 11, 12, 13, 15, 16, 17, 19, 20, 22, 24, 26, 27, 29,
  31, 33, 36, 38, 40, 43, 45, 48, 50, 53, 56, 59, 62, 65, 69, 72,
  76, 79, 83, 87, 90, 95, 99, 103, 107, 112, 116, 121, 126, 131, 136, 141,
  147, 152, 158, 163, 169, 175, 182, 188, 194, 201, 208, 215, 222, 229, 236, 244,
  252, 260, 268, 276, 284, 293, 302, 310, 320, 329, 338, 348, 358, 368, 378, 389,
  399, 410, 421, 433, 444, 456, 468, 480, 492, 505, 518, 531, 544, 558, 572, 586,
  600, 615, 629, 644, 660, 675, 691, 707, 724, 740, 757, 775, 792, 810, 828, 846]

def pqReset1 : List Nat := [
  865, 884, 903, 923, 943, 963, 984, 1005, 1026, 1048, 1070, 1092, 1114, 1137, 1161, 1184,
  1208, 1233, 1258, 1283, 1308, 1334, 1361, 1387, 1414, 1442, 1470, 1498, 1527, 1556, 1585, 1615,
  1646, 1677, 1708, 1740, 1772, 1805, 1838, 1871, 1906, 1940, 1975, 2011, 2047, 2083, 2120, 2158,
  2196, 2235, 2274, 2313, 2353, 2394, 2435, 2477, 2520, 2563, 2606, 2650, 2695, 2740, 2786, 2833,
  2880, 2928, 2976, 3025, 3075, 3125, 3176, 3228, 3280, 3333, 3386, 3441, 3496, 3551, 3608, 3665,
  3723, 3781, 3841, 3901, 3962, 4023, 4086, 4149, 4213, 4277, 4343, 4409, 4476, 4544, 4613, 4683,
  4753, 4825, 4897, 4970, 5044, 5119, 5194, 5271, 5365, 5443, 5521, 5600, 5679, 5758, 5838, 5918,
  5998, 6078, 6159, 6240, 6322, 6403, 6485, 6568, 6650, 6733, 6817, 6900, 6984, 7069, 7153, 7238]

def pqReset2 : List Nat := [
  7324, 7409, 7495, 7581, 7668, 7755, 7842, 7930, 8018, 8106, 8195, 8284, 8373, 8463, 8553, 8643,
  8734, 8825, 8916, 9008, 9100, 9193, 9285, 9379, 9472, 9566, 9660, 9755, 9850, 9945, 10041, 10137,
  10233, 10330, 10427, 10525, 10623, 10721, 10819, 10919, 11018, 11118, 11218, 11318, 11419, 11521, 11622, 11724,
  11827, 11930, 12033, 12137, 12241, 12345, 12450, 12555, 12661, 12767, 12873, 12980, 13087, 13195, 13303, 13411,
  13520, 13629, 13739, 13849, 13960, 14071, 14182, 14294, 14406, 14518, 14632, 14745, 14859, 14973, 15088, 15203,
  15319, 15435, 15551, 15668, 15786, 15903, 16022, 16140, 16259, 16379, 16499, 16620, 16740, 16862, 16984, 17106,
  17229, 17352, 17476, 17600, 17724, 17850, 17975, 18101, 18228, 18355, 18482, 18610, 18738, 18867, 18997, 19126,
  19257, 19388, 19519, 19651, 19783, 19916, 20049, 20183, 20317, 20452, 20587, 20723, 20859, 20996, 21133, 21271]

def pqReset3 : List Nat := [
  21410, 21549, 21688, 21828, 21968, 22109, 22251, 22393, 22535, 22678, 22822, 22966, 23111, 23256, 23402, 23548,
  23695, 23842, 23990, 24139, 24288, 24437, 24587, 24738, 24889, 25041, 25194, 25347, 25500, 25654, 25809, 25964,
  26120, 26276, 26433, 26591, 26749, 26908, 27067, 27227, 27388, 27549, 27711, 27873, 28036, 28200, 28364, 28528,
  28694, 28860, 29026, 29194, 29362, 29530, 29699, 29869, 30039, 30210, 30382, 30554, 30727, 30901, 31075, 31250,
  31425, 31601, 31778, 31956, 32134, 32312, 32492, 32672, 32853, 33034, 33216, 33399, 33583, 33767, 33952, 34137,
  34324, 34510, 34698, 34886, 35075, 35265, 35456, 35647, 35839, 36031, 36224, 36418, 36613, 36809, 37005, 37202,
  37399, 37598, 37797, 37997, 38197, 38399, 38601, 38803, 39007, 39211, 39416, 39622, 39829, 40036, 40245, 40454,
  40663, 40874, 41085, 41297, 41510, 41724, 41938, 42153, 42369, 42586, 42804, 43022, 43242, 43462, 43683, 43905]

def pqReset4 : List Nat := [
  44127, 44351, 44575, 44800, 45026, 45253, 45480, 45709, 45938, 46168, 46399, 46631, 46864, 47097, 47332, 47567,
  47804, 48041, 48279, 48518, 48757, 48998, 49240, 49482, 49726, 49970, 50215, 50461, 50708, 50956, 51205, 51455,
  51706, 51958, 52210, 52464, 52719, 52974, 53230, 53488, 53746, 54006, 54266, 54527, 54790, 55053, 55317, 55582,
  55849, 56116, 56384, 56653, 56924, 57195, 57467, 57740, 58015, 58290, 58567, 58844, 59123, 59402, 59683, 59964,
  60247, 60531, 60816, 61101, 61388, 61676, 61966, 62256, 62547, 62840, 63133, 63428, 63723, 64020, 64318, 64617,
  64918, 65219, 65521, 65535, 65535, 65535, 65535, 65535, 65535, 65535, 65535, 65535, 65535, 65535, 65535, 65535,
  65535, 65535, 65535, 65535, 65535, 65535, 65535, 65535, 65535, 65535, 65535, 65535, 65535, 65535, 65535, 65535,
  65535, 65535, 65535, 65535, 65535, 65535, 65535, 65535, 65535, 65535, 65535, 65535, 65535, 65535, 65535, 65535]

def pqReset5 : List Nat := [
  65535, 65535, 65535, 65535, 65535, 65535, 65535, 65535, 65535, 65535, 65535, 65535, 65535, 65535, 65535, 65535,
  65535, 65535, 65535, 65535, 65535, 65535, 65535, 65535, 65535, 65535, 65535, 65535, 65535, 65535, 65535, 65535,
  65535, 65535, 65535, 65535, 65535, 65535, 65535, 65535, 65535, 65535, 65535, 65535, 65535, 65535, 65535, 65535,
  65535, 65535, 65535, 65535, 65535, 65535, 65535, 65535, 65535, 65535, 65535, 65535, 65535, 65535, 65535, 65535,
  65535, 65535, 65535, 65535, 65535, 65535, 65535, 65535, 65535, 65535, 65535, 65535, 65535, 65535, 65535, 65535,
  65535, 65535, 65535, 65535, 65535, 65535, 65535, 65535, 65535, 65535, 65535, 65535, 65535, 65535, 65535, 65535,
  65535, 65535, 65535, 65535, 65535, 65535, 65535, 65535, 65535, 65535, 65535, 65535, 65535, 65535, 65535, 65535,
  65535, 65535, 65535, 65535, 65535, 65535, 65535, 65535, 65535, 65535, 65535, 65535, 65535, 65535, 65535, 65535]

def pqReset6 : List Nat := [
  65535, 65535, 65535, 65535, 65535, 65535, 65535, 65535, 65535, 65535, 65535, 65535, 65535, 65535, 65535, 65535,
  65535, 65535, 65535, 65535, 65535, 65535, 65535, 65535, 65535, 65535, 65535, 65535, 65535, 65535, 65535, 65535,
  65535, 65535, 65535, 65535, 65535, 65535, 65535, 65535, 65535, 65535, 65535, 65535, 65535, 65535, 65535, 65535,
  65535, 65535, 65535, 65535, 65535, 65535, 65535, 65535, 65535, 65535, 65535, 65535, 65535, 65535, 65535, 65535,
  65535, 65535, 65535, 65535, 65535, 65535, 65535, 65535, 65535, 65535, 65535, 65535, 65535, 65535, 65535, 65535,
  65535, 65535, 65535, 65535, 65535, 65535, 65535, 65535, 65535, 65535, 65535, 65535, 65535, 65535, 65535, 65535,
  65535, 65535, 65535, 65535, 65535, 65535, 65535, 65535, 65535, 65535, 65535, 65535, 65535, 65535, 65535, 65535,
  65535, 65535, 65535, 65535, 65535, 65535, 65535, 65535, 65535, 65535, 65535, 65535, 65535, 65535, 65535, 65535]

def pqReset7 : List Nat := [
  65535, 65535, 65535, 65535, 65535, 65535, 65535, 65535, 65535, 65535, 65535, 65535, 65535, 65535, 65535, 65535,
  65535, 65535, 65535, 65535, 65535, 65535, 65535, 65535, 65535, 65535, 65535, 65535, 65535, 65535, 65535, 65535,
  65535, 65535, 65535, 65535, 65535, 65535, 65535, 65535, 65535, 65535, 65535, 65535, 65535, 65535, 65535, 65535,
  65535, 65535, 65535, 65535, 65535, 65535, 65535, 65535, 65535, 65535, 65535, 65535, 65535, 65535, 65535, 65535,
  65535, 65535, 65535, 65535, 65535, 65535, 65535, 65535, 65535, 65535, 65535, 65535, 65535, 65535, 65535, 65535,
  65535, 65535, 65535, 65535, 65535, 65535, 65535, 65535, 65535, 65535, 65535, 65535, 65535, 65535, 65535, 65535,
  65535, 65535, 65535, 65535, 65535, 65535, 65535, 65535, 65535, 65535, 65535, 65535, 65535, 65535, 65535, 65535,
  65535, 65535, 65535, 65535, 65535, 65535, 65535, 65535, 65535, 65535, 65535, 65535, 65535, 65535, 65535, 65535]

/-- Reset entry i of GLB_TM_PQ (R245). -/
def pqReset (i : Nat) : Nat :=
  if i < 128 then pqReset0.getD (i - 0) 0
  else if i < 256 then pqReset1.getD (i - 128) 0
  else if i < 384 then pqReset2.getD (i - 256) 0
  else if i < 512 then pqReset3.getD (i - 384) 0
  else if i < 640 then pqReset4.getD (i - 512) 0
  else if i < 768 then pqReset5.getD (i - 640) 0
  else if i < 896 then pqReset6.getD (i - 768) 0
  else if i < 1024 then pqReset7.getD (i - 896) 0
  else 0

/-- Reset entry k of GLB_TM_MTX, row by row, as a 16-bit two's complement number (R245). -/
def mtxReset (k : Nat) : Nat :=
  [27206, 65536 - 9628, 65536 - 1194, 65536 - 2041, 18562, 65536 - 137, 65536 - 297, 65536 - 1648, 18329].getD k 0

end Sys2Proof.Machine
end

