-- ==== Sys2Proof/Machine/State.lean ====
section
/-!
DEFINITION. The state of the block, its faults and refusals, and the state after reset.
-/
namespace Sys2Proof.Machine

/-- Stops of the model. The device's own faults (F000 to F255) are state, not stops. -/
inductive Fault
  /-- A memory port's line request at a DRAM address that the installed devices do not have (R332, R337).
  Raised by MEM_READ_REQUEST and MEM_WRITE_REQUEST. Safe: the model stops where the manual names no outcome. -/
  | absentMemory (addr : Nat)
  deriving DecidableEq, Repr

/-- Commands without a meaning. -/
inductive Refusal
  /-- The command has no meaning yet in this model; raised by exec's arms only. Safe. -/
  | notModelled (mnemonic : String)
  deriving DecidableEq, Repr

/-- The whole state. -/
structure State where
  /-- commands that wait, first in, first out (the model's own) -/
  pending : List Instr := []
  /-- free values used so far (the model's own, log entry 2) -/
  freeCtr : Nat := 0
  /-- 4 ns ticks since NPOR_N release (R317) -/
  now : Nat := 0
  /-- every register of the management address space that is not at its reset value -/
  regs : Tab Word := []
  /-- the announced configuration: RW bits of the configuration registers (R433, R436) -/
  eff : Tab Word := []
  /-- the configuration that the running sweep delivers -/
  pend : Tab Word := []
  /-- the configuration as the image left it (R436, offload contexts) -/
  img : Tab Word := []
  /-- holding copies of R10, by the address of the high word -/
  hold : Tab (Option Word) := []
  /-- frames whose transmission has started: port and frame, oldest first (the model's own record) -/
  wire : List (Nat × OutFrame) := []
  time : TimeSt := {}
  mgmt : Mgmt := {}
  net : Net := {}
  ctl : Control := {}
  seals : Sealing := {}
  power : Power := {}
  faults : FaultSt := {}
  units : Tab UnitSt := []
  ctxs : Tab CtxSt := []
  rnds : Tab RndSt := []
  adm : Adm := {}
  /-- stills that have their picture, in ticket order (R209) -/
  stills : List Still := []
  /-- surfaces of the loaded image, by index -/
  surfs : Tab (Option Surface) := []
  mem : MemSt := {}
  pools : Tab Pool := []
  dma : Tab DmaCh := []
  cal : CalSt := {}
  boot : BootSt := {}
  deriving DecidableEq, Repr

/-- Reset severity of a fault source (R443). -/
def sevReset (n : Nat) : Nat :=
  if n ≤ 111 then 2 else if n ≤ 119 then 1 else if n ≤ 127 then 0 else if n ≤ 143 then 1 else if n ≤ 147 then 3
  else if n ≤ 153 then 1 else if n = 154 then 3 else if n = 155 then 1 else if n = 156 then 2 else if n ≤ 159 then 1
  else if n = 160 then 0 else if n ≤ 164 then 3 else if n ≤ 173 then 1 else if n ≤ 253 then 0 else 3

/-- Is the event source reserved (R403)? -/
def evReserved (n : Nat) : Bool := decide (104 ≤ n ∧ n ≤ 255)

/-- Reset buffer count of a pool (R362). -/
def poolCountReset (n : Nat) : Nat := if n = 0 then 8192 else if n = 1 then 4096 else if n = 2 then 512 else 0

/-- A word of a big-endian byte string held in fuses: register k holds bytes 4k to 4k + 3, byte 4k in bits [31:24] (R489). -/
def fuseWord (f : Nat → Byte) (k : Nat) : Word := f (4 * k) ++ f (4 * k + 1) ++ f (4 * k + 2) ++ f (4 * k + 3)

/-- Registers whose reset value the row alone does not give: fuses, R245, R331 (system queues), R362, R371, R409, R443. -/
def resetSpecial (a : Nat) : Option Word :=
  if a < 0x10000 then
    if a < 0x4000 then
      if a = 0 then some (if Config.tgradeFuse then 0x102401B0#32 else 0x102400B0#32)
      else if a = 8 then some (fuseWord Config.deviceId 0)
      else if a = 12 then some (fuseWord Config.deviceId 1)
      else if 0xA40 ≤ a ∧ a < 0xA80 then some (fuseWord Config.mfgSig ((a - 0xA40) / 4))
      else if a = 0xA80 then some Config.mfgKey
      else none
    else if a < 0x5000 then some (BitVec.ofNat 32 (hlgReset ((a - 0x4000) / 4)))
    else if a < 0x6000 then some (BitVec.ofNat 32 (pqReset ((a - 0x5000) / 4)))
    else if a < 0x6024 then some (BitVec.ofNat 32 (mtxReset ((a - 0x6000) / 4)))
    else if 0x8000 ≤ a ∧ a < 0x8000 + 3040 * 4 then some ((Config.fontRow ((a - 0x8000) / 4)).setWidth 32)
    else none
  else if 0x20000 ≤ a ∧ a < 0x20400 then some (BitVec.ofNat 32 (sevReset ((a - 0x20000) / 4)))
  else if 0x30000 ≤ a ∧ a < 0x30800 then
    let n := (a - 0x30000) / 4
    some (BitVec.ofNat 32 ((if 64 ≤ n ∧ n ≤ 71 then 2 ^ (n - 64) else 0xFF) + (if evReserved n then 0 else 2 ^ 13)))
  else if 0x110000 ≤ a ∧ a < 0x114000 ∧ a % 0x1000 = 0 then some 0#32
  else if 0x140000 ≤ a ∧ a < 0x140800 then
    let n := (a - 0x140000) / 0x100
    let o := (a - 0x140000) % 0x100
    if o = 0 then some (BitVec.ofNat 32 (if n = 7 then 7 else n + 1 + 8))
    else if o = 0xC ∨ o = 0x10 ∨ o = 0x14 then some (BitVec.ofNat 32 (poolCountReset n))
    else none
  else none

/-- What a register reads as after reset: the value its table gives; 0 at a reserved or unassigned address. A register for
which the manual states no reset value has the value that its row in RegMap.lean names, DESIGN CHOICE 0 (log entry 3). -/
def regReset (a : Nat) : Word := match resetSpecial a with
  | some v => v
  | none => match findRow a with
    | some r => BitVec.ofNat 32 (fieldsReset r.fields)
    | none => 0#32

/-- The machine right after reset: every register at its reset value, every queue empty, every slot FREE. -/
def State.reset : State := {}

end Sys2Proof.Machine
end

