-- ==== Sys2Proof/Machine/Ops.lean ====
section
/-!
DEFINITION. The named operations that the meanings share: registers and counters (R5 to R12), time, events and their routing
(R397 to R402), and the device state (R490).
-/
namespace Sys2Proof.Machine

/-! ## Time -/

/-- Ticks in n microseconds (R317: 4 ns each). -/
def usT (n : Nat) : Nat := n * 250
/-- Ticks in n milliseconds. -/
def msT (n : Nat) : Nat := n * 250000
/-- Ticks in n seconds. -/
def sT (n : Nat) : Nat := n * 250000000

/-- Device time in TAI nanoseconds, with 4 ns resolution (R76). -/
def State.taiNs (s : State) : Nat := s.time.taiFs / 4000000 * 4

/-- Whole seconds since NPOR_N release (R490). -/
def State.uptime (s : State) : Nat := s.now / 250000000

/-! ## Registers -/

/-- `w` bits of a register from bit `lo`. -/
def fld (v : Word) (lo w : Nat) : Nat := v.toNat / 2 ^ lo % 2 ^ w

/-- A register with `w` bits from bit `lo` replaced. -/
def setFld (v : Word) (lo w x : Nat) : Word :=
  let m := BitVec.ofNat 32 ((2 ^ w - 1) * 2 ^ lo)
  (v &&& ~~~m) ||| (BitVec.ofNat 32 (x * 2 ^ lo) &&& m)

/-- The stored value of a register. -/
def State.reg (s : State) (a : Nat) : Word := tget regReset s.regs a

/-- Store a register. -/
def State.setReg (s : State) (a : Nat) (v : Word) : State := { s with regs := tput regReset s.regs a v }

/-- A field of a stored register. -/
def State.regF (s : State) (a lo w : Nat) : Nat := fld (s.reg a) lo w

/-- Store a field of a register. -/
def State.setRegF (s : State) (a lo w x : Nat) : State := s.setReg a (setFld (s.reg a) lo w x)

/-- A bit of a register. -/
def State.regBit (s : State) (a i : Nat) : Bool := (s.reg a).getLsbD i

/-- Set or clear a bit of a register. -/
def State.setRegBit (s : State) (a i : Nat) (b : Bool) : State := s.setRegF a i 1 (if b then 1 else 0)

/-- What the RW bits of a register are after reset. -/
def cfgReset (a : Nat) : Word := regReset a &&& BitVec.ofNat 32 (rwMask a)

/-- The announced value of a configuration register: what the units run with (R434). -/
def State.cfg (s : State) (a : Nat) : Word := tget cfgReset s.eff a

/-- A field of an announced configuration register. -/
def State.cfgF (s : State) (a lo w : Nat) : Nat := fld (s.cfg a) lo w

/-- A bit of an announced configuration register. -/
def State.cfgBit (s : State) (a i : Nat) : Bool := (s.cfg a).getLsbD i

/-- Is a sweep running (R433)? -/
def State.sweeping (s : State) : Bool := s.regBit Reg.GLB_CFG_STATUS 0

/-- Does an announcement fall in this instant (R321, R326, R329)? A sweep runs and its EPOCH_ANNOUNCE stands in the queue, which empties
before time moves on (log entry 83). -/
def State.announcing (s : State) : Bool := s.sweeping && !s.power.failing && s.pending.contains .epochAnnounce

/-- The value of a configuration register that this instant's announcement brings, if one falls in it, and else the announced one. -/
def State.cfgSoon (s : State) (a : Nat) : Word := if s.announcing then tget cfgReset s.pend a else s.cfg a

/-- A field of it. -/
def State.soonF (s : State) (a lo w : Nat) : Nat := fld (s.cfgSoon a) lo w

/-- Does this instant's announcement change a field of the register? -/
def State.soonDiffers (s : State) (a lo w : Nat) : Bool := s.soonF a lo w != s.cfgF a lo w

/-- A 32-bit counter counts n more and saturates (R11). -/
def State.bump32 (s : State) (a n : Nat) : State := s.setReg a (BitVec.ofNat 32 (min 0xFFFFFFFF ((s.reg a).toNat + n)))

/-- The 64-bit quantity in a register pair (R10). -/
def State.pair (s : State) (a : Nat) : Nat := (s.reg a).toNat + (s.reg (a + 4)).toNat * 2 ^ 32

/-- Store a 64-bit quantity in a register pair. -/
def State.setPair (s : State) (a v : Nat) : State :=
  (s.setReg a (BitVec.ofNat 32 v)).setReg (a + 4) (BitVec.ofNat 32 (v / 2 ^ 32))

/-- A 64-bit counter counts n more and saturates (R10, R11). -/
def State.bumpN (s : State) (a n : Nat) : State := s.setPair a (min 0xFFFFFFFFFFFFFFFF (s.pair a + n))

/-- A 64-bit counter counts one. -/
def State.bump (s : State) (a : Nat) : State := s.bumpN a 1

/-- Set `n` consecutive registers to 0. -/
def State.clearRegs (s : State) (a : Nat) : Nat → State
  | 0 => s
  | n + 1 => (s.setReg a 0#32).clearRegs (a + 4) n

/-- Set consecutive registers to the words of a list. -/
def State.setRegs (s : State) (a : Nat) : List Word → State
  | [] => s
  | v :: vs => (s.setReg a v).setRegs (a + 4) vs

/-- The bytes of consecutive registers under the byte-string layout of R489: byte 0 in bits [31:24]. -/
def State.regBytes (s : State) (a : Nat) (n : Nat) : Bytes := (List.range n).flatMap (fun k => be 4 (s.reg (a + 4 * k)).toNat)

/-- The same of the announced configuration. -/
def State.cfgBytes (s : State) (a : Nat) (n : Nat) : Bytes := (List.range n).flatMap (fun k => be 4 (s.cfg (a + 4 * k)).toNat)

/-- The words of a byte string under the layout of R489. -/
def wordsOf (b : Bytes) : List Word := (chunks 4 b).map (fun c => BitVec.ofNat 32 (beNat c))

/-! ## Free values -/

/-- A value that the manual leaves open (log entry 2), `w` bits wide, and the state that has used it. -/
def State.fresh (s : State) (w : Nat) : Nat × State :=
  (Config.freeValue s.freeCtr % 2 ^ w, { s with freeCtr := s.freeCtr + 1 })

/-! ## Identity, epoch, device state -/

/-- The 8 bytes of DEVICE_ID. -/
def deviceIdBytes : Bytes := (List.range 8).map Config.deviceId

/-- The announced epoch. -/
def State.epoch (s : State) : Nat := (s.reg Reg.GLB_EPOCH).toNat

/-- The digest of the announced epoch. -/
def State.digest (s : State) : Bytes := s.regBytes (Reg.GLB_DIGEST 0) 8

/-- The time quality (R78). -/
def State.quality (s : State) : Nat := s.regF Reg.GLB_TIME_STATUS 0 3

/-- Maintenance mode (R424). -/
def State.maintenance (s : State) : Bool := s.regF Reg.GLB_BOOT_STATUS 12 3 != 0

/-- Is some agent frozen? -/
def State.anyFrozen (s : State) : Bool := (List.range 8).any (fun k => s.reg (Reg.FLT_FROZEN k) != 0#32)

/-- Is the agent frozen (R445)? -/
def State.frozen (s : State) (agent : Nat) : Bool := s.regBit (Reg.FLT_FROZEN (agent / 32)) (agent % 32)

/-- Effective severity of a source (R442, R443): F254 and F255 do not read one. -/
def State.sev (s : State) (n : Nat) : Nat := if 254 ≤ n then 3 else s.cfgF (Reg.FLT_SRC_CFG n) 0 2

/-- The severity that a raise of this instant takes: an announcement of the same instant goes first (R442). -/
def State.sevSoon (s : State) (n : Nat) : Nat := if 254 ≤ n then 3 else fld (s.cfgSoon (Reg.FLT_SRC_CFG n)) 0 2

/-- FLT_GLOBAL.STATE under R452. -/
def State.fltState (s : State) : Nat :=
  if s.power.safe then 2
  else if s.anyFrozen || (List.range 256).any (fun n =>
      s.regBit (Reg.FLT_STATUS (n / 32)) (n % 32) && (s.sev n == 1 || s.sev n == 2)) then 1 else 0

/-- GLB_STATE.STATE: power-fail, then maintenance, then safe state, then fault (R490). -/
def State.deviceState (s : State) : Nat :=
  if s.power.failing then 4 else if s.maintenance then 3 else s.fltState

/-- FAULT_N is asserted in safe state, unless a reset's own commit made it (R510); while an agent is frozen if PIN_ISOLATE is 1 (R448);
and where boot stopped (R480). -/
def State.faultPinNow (s : State) : Bool :=
  (s.power.safe && !s.power.quiet) || (s.cfgBit Reg.FLT_GLOBAL 4 && s.anyFrozen) || s.boot.phase == .stopped

/-- Bring FLT_GLOBAL.STATE, FAULT_PIN, GLB_STATE.STATE and its change bit in line with the state. -/
def State.syncState (s : State) : State :=
  let old := s.regF Reg.GLB_STATE 0 3
  let pin := s.faultPinNow
  let s1 := (s.setRegF Reg.FLT_GLOBAL 0 2 s.fltState).setRegBit Reg.FLT_GLOBAL 3 pin
  let s2 := { s1 with faults := { s1.faults with faultPin := pin } }
  let new := s.deviceState
  let s3 := s2.setRegF Reg.GLB_STATE 0 3 new
  if new = old then s3 else s3.setRegBit Reg.GLB_STATE 8 true

/-! ## Events (R397 to R402) -/

/-- Sequencer i. -/
def State.seq (s : State) (i : Nat) : SeqSt := tget (fun _ => {}) s.ctl.seqs i

/-- Replace sequencer i. -/
def State.setSeq (s : State) (i : Nat) (q : SeqSt) : State :=
  { s with ctl := { s.ctl with seqs := tput (fun _ => {}) s.ctl.seqs i q } }

/-- INT_SRC_CFG fields of an event source. -/
def State.evTargets (s : State) (n : Nat) : Nat := s.cfgF (Reg.INT_SRC_CFG n) 0 8
def State.evPrio (s : State) (n : Nat) : Nat := s.cfgF (Reg.INT_SRC_CFG n) 8 4
def State.evFast (s : State) (n : Nat) : Bool := s.cfgBit (Reg.INT_SRC_CFG n) 12
def State.evEn (s : State) (n : Nat) : Bool := s.cfgBit (Reg.INT_SRC_CFG n) 13
def State.evGroup (s : State) (n : Nat) : Nat := s.cfgF (Reg.INT_SRC_CFG n) 14 6
def State.evOpcode (s : State) (n : Nat) : Nat := s.cfgF (Reg.INT_SRC_CFG n) 20 8

/-- A sequencer that runs no work and could take some. -/
def SeqSt.inService (q : SeqSt) : Bool := !q.out && match q.state with
  | .idle | .running | .fast | .sleeping => true
  | .notLoaded | .frozen | .halted => false

/-- Could the sequencer take the event, its TARGETS aside (R399)? -/
def State.couldTake (s : State) (i n : Nat) : Bool :=
  let q := s.seq i
  q.inService &&
    (!s.evFast n || (match q.state with
      | .idle | .sleeping => true
      | .running => decide (q.cp < s.evPrio n)
      | _ => false))

/-- Is the sequencer eligible for the event (R399)? -/
def State.eligible (s : State) (i n : Nat) : Bool := s.evTargets n / 2 ^ i % 2 == 1 && s.couldTake i n

/-- The first eligible sequencer: idle by index, busy by CP then index, sleeping by index (R399). -/
def State.routeChoice (s : State) (n : Nat) : Option Nat :=
  let es := (List.range 8).filter (fun i => s.eligible i n)
  match es.find? (fun i => (s.seq i).state == .idle) with
  | some i => some i
  | none =>
    match argMin2? (fun i => ((s.seq i).cp, i)) (es.filter (fun i => (s.seq i).state != .sleeping)) with
    | some i => some i
    | none => es.head?

/-- Where a pending event goes: to the sequencer that it is sent to while that one is in service, else by R399. -/
def State.routeOf (s : State) (e : PendEv) : Option Nat := match e.only with
  | some i => if (s.seq i).inService then (if s.couldTake i e.ev then some i else none) else s.routeChoice e.ev
  | none => s.routeChoice e.ev

/-- Route one pending event again; a moved offer counts in INT_REROUTED. -/
def State.routeOne (s : State) (e : PendEv) : PendEv × Nat :=
  if e.held then (e, 0) else
  let new := s.routeOf e
  ({ e with offered := new }, match e.offered, new with
    | some a, some b => if a = b then 0 else 1
    | _, _ => 0)

/-- Route every released event. -/
def State.routeAll (s : State) : State :=
  let rs := s.ctl.events.map s.routeOne
  let moved := sumNat (rs.map (·.2))
  let s1 := { s with ctl := { s.ctl with events := rs.map (·.1) } }
  if moved = 0 then s1 else s1.bumpN Reg.INT_REROUTED moved

/-- Release the held events of a group (R400). -/
def State.releaseGroup (s : State) (g : Nat) : State :=
  { s with ctl := { s.ctl with events := s.ctl.events.map (fun e => if s.evGroup e.ev = g then { e with held := false } else e) } }

/-- The held events of a group. -/
def State.heldOf (s : State) (g : Nat) : List PendEv := s.ctl.events.filter (fun e => e.held && s.evGroup e.ev == g)

/-- Some held event of the group has an idle sequencer in its TARGETS (R400). -/
def State.bypass (s : State) (g : Nat) : Bool :=
  (s.heldOf g).any (fun e => (List.range 8).any (fun i => s.evTargets e.ev / 2 ^ i % 2 == 1 && (s.seq i).state == .idle))

/-- Release a group that holds COUNT events or that an idle sequencer lets bypass. -/
def State.tryRelease (s : State) (g : Nat) : State :=
  if (s.heldOf g).isEmpty then s
  else if s.bypass g then (s.releaseGroup g).bump Reg.INT_BYPASS
  else if s.cfgF (Reg.INT_GRP_CFG g) 10 8 ≤ (s.heldOf g).length then s.releaseGroup g
  else s

/-- Moderation and routing after a change of events or sequencers. -/
def State.settleEvents (s : State) : State :=
  let groups := (s.ctl.events.filter (·.held)).map (fun e => s.evGroup e.ev)
  (groups.foldl (fun t g => t.tryRelease g) s).routeAll

/-- Raise one event without settling: discarded with EN 0, merged while pending (R397, R409). -/
def State.pendEvent (s : State) (n : Nat) : State :=
  if !s.evEn n then s
  else if s.ctl.events.any (fun e => e.ev == n) then s.bump Reg.INT_MERGED
  else { s with ctl := { s.ctl with events := s.ctl.events ++
    [{ ev := n, raised := s.now, held := s.cfgF (Reg.INT_GRP_CFG (s.evGroup n)) 0 10 != 0, offered := none }] } }

/-- Raise the events of one instant. -/
def State.raiseEvs (s : State) (ns : List Nat) : State := (ns.foldl State.pendEvent s).settleEvents

/-- Raise an event. -/
def State.raiseEv (s : State) (n : Nat) : State := s.raiseEvs [n]

/-- A pending event is sent to one sequencer (R445). -/
def State.directEvent (s : State) (n i : Nat) : State :=
  ({ s with ctl := { s.ctl with events := s.ctl.events.map (fun (e : PendEv) => if e.ev = n then { e with only := some i } else e) } }).settleEvents

/-- Slots whose status register, at `base` plus 256 per slot, has a STATE in bits [1:0] that is not FREE and passes a test. -/
def State.slotsWith (s : State) (base : Nat) (p : Nat → Bool) : List Nat :=
  s.regs.filterMap (fun q =>
    if base ≤ q.1 ∧ q.1 < base + 0x40000 ∧ (q.1 - base) % 256 = 0 ∧ fld q.2 0 2 ≠ 0 ∧ p (fld q.2 0 2) = true then some ((q.1 - base) / 256)
    else none)

/-- The contexts that are not FREE and pass a test of their STATE, in ascending order. -/
def State.contexts (s : State) (p : Nat → Bool) : List Nat := s.slotsWith (Reg.CTX_STATUS 0) p
/-- The same of renditions. -/
def State.renditions (s : State) (p : Nat → Bool) : List Nat := s.slotsWith (Reg.RND_STATUS 0) p

/-- Agent IDs of R14. -/
def agDma (n : Nat) : Nat := n
def agDc (n : Nat) : Nat := 0x40 + n
def agEc (n : Nat) : Nat := 0x80 + n
def agCu (n : Nat) : Nat := 0x98 + n
def agGs (n : Nat) : Nat := 0xA0 + n
def agPort (n : Nat) : Nat := 0xA8 + n
def agHe (n : Nat) : Nat := 0xAC + n
def agSe (n : Nat) : Nat := 0xB0 + n
def agIsaim : Nat := 0xB8

/-- Unit index of a coding unit's agent ID (R404): DC00 has 0. -/
def unitIndex (agent : Nat) : Nat := agent - 0x40

/-- The record that a coding unit holds. -/
def State.heldRec (s : State) (agent : Nat) : Option HeldRec := tget (fun _ => none) s.ctl.held agent

/-- A unit sends a completion record and holds it until the collector accepts it (R404, R407). `dest` is the sequencer that issued the
command. -/
def State.sendRecord (s : State) (agent dest kind slot leafSeq status value since : Nat) : State :=
  let busy := min 0xFFFFFFFF ((s.now - since) * 4 / 16)
  { s with ctl := { s.ctl with held := tput (fun _ => none) s.ctl.held agent (some
    { rcd := { gseq := 0, unit := unitIndex agent, kind, slot, leafSeq, status, value, busy }, dest, raised := s.now, rounds := 0 }) } }

/-- Is the agent ID a reserved one (R14)? -/
def agentReserved (a : Nat) : Bool := decide (0xB2 ≤ a ∧ a ≤ 0xB7) || decide (0xB9 ≤ a)

end Sys2Proof.Machine
end

