-- ==== Sys2Proof/Machine/Tx.lean ====
section
/-!
DEFINITION. Ports and what they send and accept: addresses, partners, neighbour resolution, the checks of R36, R43 and R40 on a
received frame, and the sending of frames through the system queue (R39, R324). The layouts of ARP, Neighbor Discovery, MLD, IGMP
and ICMP messages are those of the RFCs that the manual names. PRESUMED (log entry 8).
-/
namespace Sys2Proof.Machine

/-! ## Ports -/

/-- Port p. -/
def State.port (s : State) (p : Nat) : PortSt := tget (fun _ => {}) s.net.ports p

/-- Replace port p. -/
def State.setPort (s : State) (p : Nat) (x : PortSt) : State :=
  { s with net := { s.net with ports := tput (fun _ => {}) s.net.ports p x } }

/-- PRT_STATUS.LINK (R34). -/
def State.linkUp (s : State) (p : Nat) : Bool := s.regBit (Reg.PRT_STATUS p) 0

/-- PRT_VLAN.TAG_EN (R35). -/
def State.tagged (s : State) (p : Nat) : Bool := s.cfgBit (Reg.PRT_VLAN p) 15

/-- The port's MAC address (R33). -/
def State.mac (s : State) (p : Nat) : Nat := s.cfgF (Reg.PRT_MAC_HI p) 0 16 * 2 ^ 32 + (s.cfg (Reg.PRT_MAC_LO p)).toNat

/-- IPv4 is enabled: PRT_IP4_PFX is not 0. -/
def State.ip4On (s : State) (p : Nat) : Bool := s.cfgF (Reg.PRT_IP4_PFX p) 0 6 != 0

/-- The port's IPv4 address as a mapped address. -/
def State.ip4 (s : State) (p : Nat) : Nat := mapped4 (s.cfg (Reg.PRT_IP4_ADDR p)).toNat

/-- Four registers as a 128-bit address; the first register holds bytes 0 to 3 (layout of R489; DEDUCED, log entry 9). -/
def State.ipReg (s : State) (a : Nat) : Nat := beNat (s.cfgBytes a 4)

/-- The global IPv6 address; 0 disables it. -/
def State.ip6 (s : State) (p : Nat) : Nat := s.ipReg (Reg.PRT_IP6_ADDR p 0)

/-- The port's KT UDP port. -/
def State.ktUdp (s : State) (p : Nat) : Nat := s.cfgF (Reg.PRT_KT_UDP p) 0 16

/-- The link-local address of the port. -/
def State.linkLocal (s : State) (p : Nat) : Nat := Sys2Proof.Machine.linkLocal (s.mac p)

/-- Role bits of PRT_CFG (R32): 0 INGEST, 1 VAULT, 2 CONTROL, 3 REVIEW. -/
def State.role (s : State) (p i : Nat) : Bool := s.cfgBit (Reg.PRT_CFG p) (8 + i)

/-- MAX_FRAME of the port. -/
def State.maxFrame (s : State) (p : Nat) : Nat := s.cfgF (Reg.PRT_CFG p) 16 14

/-- The presence of the port's reference clock: REFCLKA serves P0 and P1, REFCLKB serves P2 and P3 (R29). -/
def State.refClk (s : State) (p : Nat) : Bool := if p < 2 then s.boot.refA else s.boot.refB

/-- Does PTP run on this port (R76)? PTP is off in maintenance mode (R425). -/
def State.ptpPort (s : State) (p : Nat) : Bool :=
  s.cfgBit Reg.GLB_PTP_CFG 0 && s.cfgF Reg.GLB_PTP_CFG 1 2 == p && !s.maintenance

/-- The source address that a port uses toward a destination. -/
def State.srcFor (s : State) (p dst : Nat) : Nat :=
  if isMapped4 dst then s.ip4 p
  else if dst / 2 ^ 118 = 0x3FA ∨ (dst / 2 ^ 112 = 0xFF02) ∨ s.ip6 p = 0 then s.linkLocal p else s.ip6 p

/-- The next hop: a destination outside the port's prefix goes through the gateway (R39). -/
def State.nextHop (s : State) (p dst : Nat) : Nat :=
  if isMapped4 dst then
    let w := 32 - min 32 (s.cfgF (Reg.PRT_IP4_PFX p) 0 6)
    if dst / 2 ^ w = s.ip4 p / 2 ^ w then dst else mapped4 (s.cfg (Reg.PRT_IP4_GW p)).toNat
  else
    let w := 128 - min 128 (s.cfgF (Reg.PRT_IP6_PFX p) 0 8)
    if dst / 2 ^ 118 = 0x3FA ∨ dst / 2 ^ w = s.ip6 p / 2 ^ w then dst else s.ipReg (Reg.PRT_IP6_GW p 0)

/-! ## Partners (R44, R438) -/

def State.ptnIp (s : State) (n : Nat) : Nat := s.ipReg (Reg.GLB_PTN_ADDR n 0)
def State.ptnUdp (s : State) (n : Nat) : Nat := s.cfgF (Reg.GLB_PTN_CFG n) 0 16
def State.ptnPort (s : State) (n : Nat) : Nat := s.cfgF (Reg.GLB_PTN_CFG n) 16 2
def State.ptnRole (s : State) (n i : Nat) : Bool := s.cfgBit (Reg.GLB_PTN_CFG n) (18 + i)
def State.ptnMonitored (s : State) (n : Nat) : Bool := s.cfgBit (Reg.GLB_PTN_CFG n) 22
def State.ptnEn (s : State) (n : Nat) : Bool := s.cfgBit (Reg.GLB_PTN_CFG n) 23
def State.ptnPmtu (s : State) (n : Nat) : Nat := s.cfgF (Reg.GLB_PTN_LINK n) 0 14

/-- The partners in use. -/
def State.partnersOn (s : State) : List Nat := (List.range 32).filter s.ptnEn

/-- The partner that a datagram comes from: its address, UDP port and receiving port match a partner in use (R43). -/
def State.partnerOf (s : State) (f : RxFrame) : Option Nat :=
  s.partnersOn.find? (fun n => s.ptnIp n == f.srcIp && s.ptnUdp n == f.srcPort && s.ptnPort n == f.port.val)

/-- The maximum KT payload on a path (R43). -/
def State.maxPayload (s : State) (p ip pmtu : Nat) : Nat :=
  min (s.maxFrame p - 18 - (if s.tagged p then 4 else 0)) pmtu - (if isMapped4 ip then 20 else 40) - 8 - 16

/-- The maximum KT payload toward a partner. -/
def State.ptnMaxPayload (s : State) (n : Nat) : Nat := s.maxPayload (s.ptnPort n) (s.ptnIp n) (s.ptnPmtu n)

/-- Partner n's monitoring state. -/
def State.partner (s : State) (n : Nat) : PartnerSt := tget (fun _ => {}) s.net.partners n

/-- Replace partner n's monitoring state. -/
def State.setPartner (s : State) (n : Nat) (x : PartnerSt) : State :=
  { s with net := { s.net with partners := tput (fun _ => {}) s.net.partners n x } }

/-! ## Messages of the standards -/

/-- Sum of the 16-bit words of a byte string. -/
def sum16 : Bytes → Nat
  | a :: b :: t => a.toNat * 256 + b.toNat + sum16 t
  | [a] => a.toNat * 256
  | [] => 0

/-- The Internet checksum of a sum: its ones' complement. -/
def inetCsum (n : Nat) : Nat :=
  let a := n % 65536 + n / 65536
  let b := a % 65536 + a / 65536
  let c := b % 65536 + b / 65536
  65535 - c

/-- An ICMPv6 message: type, code, checksum over the pseudo-header, rest. -/
def icmp6 (src dst type : Nat) (rest : Bytes) : Bytes :=
  let m := be 1 type ++ be 1 0 ++ be 2 0 ++ rest
  let cs := inetCsum (sum16 (be 16 src ++ be 16 dst ++ be 4 m.length ++ be 4 58) + sum16 m)
  be 1 type ++ be 1 0 ++ be 2 cs ++ rest

/-- An ICMP or IGMP message with its checksum. -/
def icmp4 (type : Nat) (rest : Bytes) : Bytes :=
  be 1 type ++ be 1 0 ++ be 2 (inetCsum (sum16 (be 1 type ++ be 1 0 ++ rest))) ++ rest

/-- An ARP packet: operation, sender MAC and address, target MAC and address. -/
def arpBytes (op sha spa tha tpa : Nat) : Bytes :=
  be 2 1 ++ be 2 0x0800 ++ be 1 6 ++ be 1 4 ++ be 2 op ++ be 6 sha ++ be 4 spa ++ be 6 tha ++ be 4 tpa

/-- The broadcast MAC. -/
def macBroadcast : Nat := 0xFFFFFFFFFFFF

/-- A frame without IP header. -/
def rawFrame (kind : FrameKind) (mac : Nat) (payload : Bytes) : OutFrame :=
  { kind, proto := 0, dstIp := 0, mac := some mac, srcPort := 0, dstPort := 0, routerAlert := false, payload }

/-- An ARP request or reply. -/
def arpFrame (op sha spa tha tpa mac : Nat) : OutFrame := rawFrame .arp mac (arpBytes op sha spa tha tpa)

/-- A frame of an IP protocol other than UDP. -/
def ipFrame (kind : FrameKind) (proto dst : Nat) (mac : Option Nat) (ra : Bool) (payload : Bytes) (src : Option Nat := none) : OutFrame :=
  { kind, proto, dstIp := dst, mac, srcPort := 0, dstPort := 0, routerAlert := ra, payload, src }

/-- A Neighbor Solicitation for a target, with the source link-layer address option. -/
def nsFrame (src mac dst target : Nat) (dstMac : Option Nat) : OutFrame :=
  ipFrame .nd 58 dst dstMac false (icmp6 src dst 135 (be 4 0 ++ be 16 target ++ be 1 1 ++ be 1 1 ++ be 6 mac)) (some src)

/-- A Neighbor Advertisement of a target with flags (solicited, override) and the target link-layer address option. -/
def naFrame (src mac dst flags : Nat) (dstMac : Option Nat) : OutFrame :=
  ipFrame .nd 58 dst dstMac false (icmp6 src dst 136 (be 4 flags ++ be 16 src ++ be 1 2 ++ be 1 1 ++ be 6 mac)) (some src)

/-- An MLDv2 report of groups with a record type, to ff02::16, with the Router Alert option (R38). -/
def mldReport (src recType : Nat) (groups : List Nat) : OutFrame :=
  let dst := 0xFF02 * 2 ^ 112 + 0x16
  ipFrame .mld 58 dst (some (groupMac dst)) true
    (icmp6 src dst 143 (be 2 0 ++ be 2 groups.length ++ groups.flatMap (fun g => be 1 recType ++ be 1 0 ++ be 2 0 ++ be 16 g))) (some src)

/-- An IGMPv3 report of groups with a record type, to 224.0.0.22; the device sends IPv4 without options (R37). -/
def igmpReport (recType : Nat) (groups : List Nat) : OutFrame :=
  let dst := mapped4 0xE0000016
  ipFrame .igmp 2 dst (some (groupMac dst)) false
    (icmp4 0x22 (be 2 0 ++ be 2 groups.length ++ groups.flatMap (fun g => be 1 recType ++ be 1 0 ++ be 2 0 ++ be 4 (g % 2 ^ 32))))

/-- The solicited-node groups of a port (R38). -/
def State.solicited (s : State) (p : Nat) : List Nat :=
  solicitedNode (s.linkLocal p) :: (if s.ip6 p = 0 then [] else [solicitedNode (s.ip6 p)])

/-- The PTP multicast groups of IPv4 and IPv6, by GLB_PTP_CFG.TRANSPORT (0 Ethernet, 1 IPv4, 2 IPv6). -/
def ptpGroups4 : List Nat := [mapped4 0xE0000181, mapped4 0xE000006B]
def ptpGroups6 : List Nat := [0xFF0E * 2 ^ 112 + 0x181, 0xFF02 * 2 ^ 112 + 0x6B]

/-- GLB_PTP_CFG.TRANSPORT. -/
def State.ptpTransport (s : State) : Nat := s.cfgF Reg.GLB_PTP_CFG 4 2

/-- The IP multicast groups that a port has joined: its solicited-node groups (R38), on the PTP port the PTP groups (R515), and ff02::1 and
224.0.0.1, which every host is a member of without joining. DEDUCED (log entry 84). -/
def State.groups (s : State) (p : Nat) : List Nat :=
  [allNodes, mapped4 0xE0000001] ++ s.solicited p
    ++ (if s.ptpPort p then (if s.ptpTransport = 1 then ptpGroups4 else if s.ptpTransport = 2 then ptpGroups6 else []) else [])

/-- Does the port receive frames for this destination MAC (R36)? -/
def State.macAccepted (s : State) (p mac : Nat) : Bool :=
  mac == s.mac p || mac == macBroadcast || (s.groups p).any (fun g => groupMac g == mac)
    || (s.ptpPort p && s.ptpTransport == 0 && (mac == 0x011B19000000 || mac == 0x0180C200000E))

/-! ## Sending (R39, R324, R330) -/

/-- The neighbour entry of an address. -/
def PortSt.nbr? (x : PortSt) (ip : Nat) : Option Nbr := x.nbrs.find? (fun e => e.ip == ip)

/-- Is the entry one that frames wait for: frames held for resolution, or, while it is resolving, sheets in the backlogs of the port's fair
queues (R39, R55)? -/
def State.awaited (s : State) (p : Nat) (e : Nbr) : Bool :=
  (s.port p).waiting.any (fun w => s.nextHop p w.1.dstIp == e.ip)
    || (e.state == .resolving && s.net.egq.any (fun q => q.1 / 256 == p && q.2.sheets.any (fun x => s.nextHop p (s.ptnIp x.partner) == e.ip)))

/-- Put a new entry into the table: at most 64, replacing the one with the shortest remaining lifetime that no frame waits for. -/
def addNbr (x : PortSt) (awaited : Nbr → Bool) (e : Nbr) : PortSt :=
  if x.nbrs.length < 64 then { x with nbrs := x.nbrs ++ [e] }
  else match argMin? (fun n => n.expires) (x.nbrs.filter (fun n => !awaited n)) with
    | none => x
    | some v => { x with nbrs := x.nbrs.filter (fun n => n.ip != v.ip) ++ [e] }

/-- The request that resolves an address: broadcast ARP, or a solicitation to the solicited-node group; unicast to a known MAC. -/
def State.resolveFrame (s : State) (p ip : Nat) (mac : Option Nat) : OutFrame :=
  if isMapped4 ip then
    arpFrame 1 (s.mac p) (s.ip4 p % 2 ^ 32) 0 (ip % 2 ^ 32) (mac.getD macBroadcast)
  else
    let dst := match mac with | some _ => ip | none => solicitedNode ip
    nsFrame (s.srcFor p dst) (s.mac p) dst ip (some (mac.getD (groupMac dst)))

/-- Put a frame at the end of a port's system queue. A frame produced for a port whose link is down is discarded (R39); after a
power-fail sequence has started the queues send nothing (R330). -/
def State.enqueue (s : State) (p : Nat) (f : OutFrame) : State :=
  if s.linkUp p && !s.power.failing then
    let x := s.port p
    s.setPort p { x with sysq := x.sysq ++ [f] }
  else s

/-- Begin to resolve an address (R39): a new entry and its first request. R39 gives an entry that still resolves no lifetime: for the choice
of the one replaced it counts as ending with its third failure, 3 s after its first request. DESIGN CHOICE (log entry 85). -/
def State.startResolve (s : State) (p ip : Nat) : State :=
  let x := s.port p
  match x.nbr? ip with
  | some _ => s
  | none =>
    (s.setPort p (addNbr x (s.awaited p)
      { ip, state := .resolving, tries := 1, retryAt := s.now + sT 1, expires := s.now + sT 3 })).enqueue p (s.resolveFrame p ip none)

/-- Produce a frame other than a sheet for a port. With no MAC fixed, the next hop is resolved first and the frame waits (R39). -/
def State.send (s : State) (p : Nat) (f : OutFrame) : State :=
  if !s.linkUp p || s.power.failing then s else
  match f.mac with
  | some _ => s.enqueue p f
  | none =>
    if isMulticast f.dstIp then s.enqueue p { f with mac := some (groupMac f.dstIp) }
    else if f.dstIp = ip4Broadcast then s.enqueue p { f with mac := some macBroadcast }
    else
      let hop := s.nextHop p f.dstIp
      match (s.port p).nbr? hop with
      | some { state := .resolved, mac, .. } => s.enqueue p { f with mac := some mac }
      | _ =>
        let s1 := s.startResolve p hop
        let x := s1.port p
        s1.setPort p { x with waiting := x.waiting ++ [(f, s.now)] }

/-- The UDP checksum over the pseudo-header, the UDP header and the payload; 0 goes out as 0xFFFF (R37). -/
def udpCsum (src dst sport dport : Nat) (payload : Bytes) : Nat :=
  let addr := fun (ip : Nat) => if isMapped4 ip then be 4 (ip % 2 ^ 32) else be 16 ip
  let n := 8 + payload.length
  let c := inetCsum (sum16 (addr src ++ addr dst ++ be 4 n ++ be 4 17 ++ be 2 sport ++ be 2 dport ++ be 2 n) + sum16 payload)
  if c = 0 then 65535 else c

/-- The frame as a port sends it: source address, UDP checksum, and the tag of PRT_VLAN with TAG_EN 1 (R37). -/
def State.framed (s : State) (p : Nat) (f : OutFrame) : OutFrame :=
  let src := f.src.getD (s.srcFor p f.dstIp)
  { f with
    src := if f.proto = 0 then none else some src
    ptp := .none
    csum := if f.proto = 17 then udpCsum src f.dstIp f.srcPort f.dstPort f.payload else 0
    tag := if s.tagged p then some (s.cfgF (Reg.PRT_VLAN p) 12 3 * 8192 + s.cfgF (Reg.PRT_VLAN p) 0 12) else none }

/-- A frame starts on a port. -/
def State.transmit (s : State) (p : Nat) (f : OutFrame) : State :=
  { s with wire := s.wire ++ [(p, s.framed p f)] }.bump (Reg.PRT_TX_FRAMES p)

/-- A UDP frame from a port's KT UDP port. -/
def State.ktFrame (s : State) (p : Nat) (kind : FrameKind) (ip port : Nat) (datagram : Bytes) : OutFrame :=
  { kind, proto := 17, dstIp := ip, mac := none, srcPort := s.ktUdp p, dstPort := port, routerAlert := false, payload := datagram }

/-- Send a KT datagram to a partner. -/
def State.toPartner (s : State) (n : Nat) (kind : FrameKind) (datagram : Bytes) : State :=
  s.send (s.ptnPort n) (s.ktFrame (s.ptnPort n) kind (s.ptnIp n) (s.ptnUdp n) datagram)

/-! ## The checks of a received frame (R36, R43, R319) -/

/-- Is the frame a KT datagram: UDP to the port's KT UDP port? -/
def State.isKt (s : State) (f : RxFrame) : Bool :=
  f.proto == some 17 && f.dstPort == s.ktUdp f.port && f.etherType != 0x8808

/-- The IP check of R36. The table names protocols without their IP version: ICMPv6 over IPv4, and ICMP or IGMP over IPv6, count with the
protocols it does not name; so do EtherTypes that are neither IP, ARP nor PTP. DEDUCED (log entry 86). -/
def l3Bad (f : RxFrame) : Bool := match f.l3 with
  | .none => !(f.etherType == 0x0806 || f.etherType == 0x88F7)
  | .ip4 ok frag p u => !ok || frag || !(p == 17 || p == 1 || p == 2) || (p == 17 && u == .bad)
  | .ip6 ext hop p u => (ext && !hop) || !(p == 17 || p == 58) || (p == 17 && u != .good)

/-- The rows of R36 but the last, in order: the counter of the first check that fails. -/
def State.frameCheck (s : State) (f : RxFrame) : Option Nat :=
  let p := f.port.val
  let vid := s.cfgF (Reg.PRT_VLAN p) 0 12
  if !f.fcsOk || decide (f.len < 64) then some (Reg.PRT_RX_FCS_ERR p)
  else if s.maxFrame p < f.len then some (Reg.PRT_RX_OVERSIZE p)
  else if f.sTag || (match s.tagged p, f.vid with
      | true, none => true
      | true, some v => v != vid && v != 0
      | false, none => false
      | false, some v => v != 0) then some (Reg.PRT_RX_VLAN_DROP p)
  else if f.etherType = 0x8808 then some (Reg.PRT_RX_PAUSE p)
  else if !s.macAccepted p f.dstMac then some (Reg.PRT_RX_L3_DROP p)
  else if l3Bad f then some (Reg.PRT_RX_L3_DROP p)
  else none

/-- The TYPEs of a class that a partner may send (R43, R59). -/
def rxTypes (cls : Nat) : List Nat :=
  if cls = clsOffload ∨ cls = clsMask then [1, 3, 5, 7] else if cls = clsMgmt then [1, 3, 5] else if cls = clsHeartbeat then [2] else []

/-- The CLASSes that the port's roles permit to be received (R40). The roles of the partner that sends are not looked at: R43 names the port's
alone, and R44 gives a partner's roles no check of their own. DEDUCED (log entry 87). -/
def State.clsPermitted (s : State) (p cls : Nat) : Bool :=
  if cls = clsOffload ∨ cls = clsMask then s.role p 0
  else if cls = clsMgmt then s.role p 2
  else if cls = clsHeartbeat then s.role p 0 || s.role p 1 || s.role p 2 || s.role p 3
  else false

/-- The header checks of R43: the counter of the check that fails. Maintenance mode accepts MGMT from any source (R425). -/
def State.ktCheck (s : State) (f : RxFrame) : Option Nat :=
  let p := f.port.val
  match parseKt f.payload with
  | none => some (Reg.PRT_KT_BAD p)
  | some m =>
    if m.magic ≠ 0x4B54 ∨ m.version ≠ 1 ∨ m.length ≠ m.body.length ∨ (rxTypes m.cls).contains m.type = false
        ∨ s.clsPermitted p m.cls = false then some (Reg.PRT_KT_BAD p)
    else if (s.partnerOf f).isNone && !(s.maintenance && m.cls == clsMgmt) then some (Reg.PRT_KT_UNKNOWN p)
    else none

/-- Is the frame a PTP message on the PTP port (R76)? -/
def State.isPtp (s : State) (f : RxFrame) : Bool :=
  s.ptpPort f.port && (f.etherType == 0x88F7 || (f.proto == some 17 && (f.dstPort == 319 || f.dstPort == 320)))

/-- Count a discarded frame in its counter. -/
def State.discard (s : State) (ctr : Nat) : State := s.bump ctr

/-- Bytes that a bucket has given in the tick `now`. -/
def Bucket.usedAt (b : Bucket) (now : Nat) : Nat := if b.last = now then b.used else 0

/-- The bucket as a change that comes first in its instant leaves it: `full` bytes, less what the instant has already taken (R321, R326). -/
def Bucket.restart (b : Bucket) (full now : Nat) : Bucket :=
  { tok := ((full * 2000000 : Nat) : Int) - ((b.usedAt now * 2000000 : Nat) : Int), last := now, used := b.usedAt now }

/-- Token-bucket policing (R320): the bucket after the frame, and whether it passes. -/
def police (b : Bucket) (cir cbs f now : Nat) : Bucket × Bool :=
  let tok := min ((cbs * 2000000 : Nat) : Int) (b.tok + ((cir * (now - b.last) : Nat) : Int))
  if ((f * 2000000 : Nat) : Int) ≤ tok then (⟨tok - ((f * 2000000 : Nat) : Int), now, b.usedAt now + f⟩, true)
  else (⟨tok, now, b.usedAt now⟩, false)

/-- The control policer of a port (R323): the state after it, and whether the frame passes. -/
def State.policeCtl (s : State) (p len : Nat) : State × Bool :=
  if s.soonF (Reg.HBX_CTL_CFG p) 0 1 = 0 then (s, true) else
  let x := s.port p
  let cbs := s.soonF (Reg.HBX_CTL_CBS p) 0 21
  let b := if s.soonDiffers (Reg.HBX_CTL_CFG p) 0 1 || s.soonDiffers (Reg.HBX_CTL_CIR p) 0 20 || s.soonDiffers (Reg.HBX_CTL_CBS p) 0 21 then
    x.ctl.restart cbs s.now else x.ctl
  let r := police b (s.soonF (Reg.HBX_CTL_CIR p) 0 20) cbs len s.now
  let s1 := s.setPort p { x with ctl := r.1 }
  if r.2 then (s1, true)
  else ((s1.bump (Reg.HBX_CTL_DROP_FRAMES p)).bumpN (Reg.HBX_CTL_DROP_BYTES p) len, false)

/-- Is the port able to receive? A stopped or disabled port receives nothing (R445, R413 step 11); a power-fail sequence discards every
frame uncounted (R300). -/
def State.rxOpen (s : State) (p : Nat) : Bool := s.linkUp p && !(s.port p).stopped && !s.power.failing

/-- The live context that a UDP datagram is bound to (R113). -/
def State.flowOf (s : State) (f : RxFrame) : Option Nat :=
  (List.range 1024).find? (fun n =>
    s.cfgF (Reg.CTX_CFG n) 0 2 == 1 && s.cfgF (Reg.ING_FLOW n) 0 16 != 0 && s.cfgF (Reg.ING_FLOW n) 0 16 == f.dstPort
      && s.cfgF (Reg.ING_FLOW n) 16 2 == f.port.val
      && (!s.cfgBit (Reg.ING_FLOW n) 18 || s.ipReg (Reg.ING_SRC_ADDR n 0) == f.srcIp))

/-- Traffic other than KT that the roles permit (R17, R40): ARP, Neighbor Discovery, MLD and IGMP always; ICMP echo on CONTROL; PTP on its port;
the configured flows on INGEST. -/
def State.otherPermitted (s : State) (f : RxFrame) : Bool :=
  f.isArp || s.isPtp f || f.isNd || f.isMld || f.proto == some 2
    || (f.isEcho && s.role f.port 2)
    || (f.proto == some 17 && s.role f.port 0 && (s.flowOf f).isSome)

/-- What the headbox does with a frame of a class that the control policer polices: the state and whether the frame goes on
(R318, R319). `permitted` is the role check of the frame's kind. A frame that the policer passes counts in PRT_RX_FRAMES (R323, log entry 10). -/
def State.acceptCtl (s : State) (f : RxFrame) (permitted : Bool) : State × Bool :=
  let p := f.port.val
  if !s.rxOpen p then (s, false) else
  match s.frameCheck f with
  | some c => (s.discard c, false)
  | none =>
    match (if s.isKt f then s.ktCheck f else none) with
    | some c => (s.discard c, false)
    | none =>
      if !permitted then (s.discard (Reg.PRT_RX_ROLE_DROP p), false)
      else
        let r := s.policeCtl p f.len
        -- EV076 to EV079: a CONTROL-class frame received (R403)
        if r.2 then ((r.1.bump (Reg.PRT_RX_FRAMES p)).raiseEv (76 + p), true) else r

end Sys2Proof.Machine
end

