-- ==== Sys2Proof/Machine/Ports.lean ====
section
/-!
DEFINITION. Ports and neighbours: link state (R30, R31, R34), the responders of R38, resolution (R39), ICMP echo (R515), and the
frames that a check of R36 or R43 discards.
-/
namespace Sys2Proof.Machine

/-! ## Link state -/

/-- The interface conditions of R30 for link up: with PHY 1 or 2, training (and auto-negotiation) complete. -/
def State.phyReady (s : State) (p : Nat) : Bool := s.cfgF (Reg.PRT_CFG p) 2 2 == 0 || (s.port p).trained

/-- Do the conditions of R29, R30 and R413 step 11 hold for link up? -/
def State.linkUpDue (s : State) (p : Nat) : Bool :=
  let x := s.port p
  x.enabled && s.refClk p && !x.stopped && !s.linkUp p && s.regBit (Reg.PRT_STATUS p) 1
    && decide (x.lockTick + msT 10 ≤ s.now) && s.phyReady p

/-- What a port sends at each link up (R38, R515): a gratuitous ARP, unsolicited Neighbor Advertisements, MLDv2 reports, and the
PTP groups' reports on the PTP port. -/
def State.announceLink (s : State) (p : Nat) : State :=
  let m := s.mac p
  let s1 := if s.ip4On p then
      s.send p (arpFrame 1 m (s.ip4 p % 2 ^ 32) 0 (s.ip4 p % 2 ^ 32) macBroadcast) else s
  let s2 := s1.send p (naFrame (s.linkLocal p) m allNodes 0x20000000 (some (groupMac allNodes)))
  let s3 := if s.ip6 p = 0 then s2 else s2.send p (naFrame (s.ip6 p) m allNodes 0x20000000 (some (groupMac allNodes)))
  let s4 := s3.send p (mldReport (s.linkLocal p) 4 (s.solicited p))
  if s.ptpPort p && s.ptpTransport == 1 then s4.send p (igmpReport 4 ptpGroups4)
  else if s.ptpPort p && s.ptpTransport == 2 then s4.send p (mldReport (s.linkLocal p) 4 ptpGroups6)
  else s4

/-- Segments of a manifest toward one destination: datagrams of at most `max` payload bytes (R58). -/
def manifestSegs (serial max resent : Nat) (m : Bytes) : List Bytes :=
  let ps := chunks max m
  ps.zipIdx.map (fun q => ktBytes clsManifest 1 (resent * 2 + (if q.2 + 1 = ps.length then 1 else 0)) serial q.2 q.1)

/-- The frames that carry a manifest on a port: to each partner with a resolved entry, then the two broadcast destinations (R58). -/
def State.manifestFrames (s : State) (p serial resent : Nat) (m : Bytes) : List OutFrame :=
  let ptn := (s.partnersOn.filter (fun n => s.ptnPort n == p)).flatMap (fun n =>
    match (s.port p).nbr? (s.nextHop p (s.ptnIp n)) with
    | some { state := .resolved, mac, .. } =>
      (manifestSegs serial (s.ptnMaxPayload n) resent m).map (fun d =>
        { s.ktFrame p .manifest (s.ptnIp n) (s.ptnUdp n) d with mac := some mac })
    | _ => [])
  let bc := fun (ip mac : Nat) => (manifestSegs serial (s.maxPayload p ip 1280) resent m).map (fun d =>
    { s.ktFrame p .manifest ip (s.ktUdp p) d with mac := some mac })
  ptn ++ (if s.ip4On p then bc ip4Broadcast macBroadcast else []) ++ bc allNodes (groupMac allNodes)

/-- The boot-time resend of the committed manifest at a port's first link up (R313). -/
def State.resendManifest (s : State) (p : Nat) : State :=
  -- after t = 0 no frame is sent but those of R310 and of step 7 (R300)
  if (s.port p).firstUp || s.power.resend.isEmpty || s.power.failing then s
  else (s.manifestFrames p (fieldAt 20 4 s.power.resend) 1 s.power.resend).foldl (fun t f => t.transmit p f) s

/-- The port declares link up. -/
def State.declareUp (s : State) (p : Nat) : State :=
  let s1 := (s.setRegBit (Reg.PRT_STATUS p) 0 true).setRegBit (Reg.PRT_STATUS p) 8 true
  let s2 := (s1.announceLink p).resendManifest p
  let s3 := s2.setPort p { s2.port p with firstUp := true }
  s3.raiseEv (72 + p)

/-- The port declares link down: frames other than sheets are discarded (R39), manifest segments not yet sent are lost (R310), and
with PHY 2 training starts again (R31). -/
def State.declareDown (s : State) (p : Nat) : State :=
  if !s.linkUp p then s else
  let x := s.port p
  let retrain := s.cfgF (Reg.PRT_CFG p) 2 2 == 2
  let s1 := s.setPort p { x with sysq := [], waiting := [], segs := [], steady := false, trained := if retrain then false else x.trained }
  let s2 := if retrain then s1.setRegBit (Reg.PRT_STATUS p) 2 false else s1
  let s3 := (s2.setRegBit (Reg.PRT_STATUS p) 0 false).setRegBit (Reg.PRT_STATUS p) 8 true
  (s3.bump (Reg.PRT_LINK_DOWNS p)).raiseEv (72 + p)

/-- LINK_UP (R30, R38, R313). -/
def execLinkUp (p : Fin 4) (s : State) : Host.Outcome State Fault Refusal :=
  .next (if s.linkUpDue p then s.declareUp p else s)

/-- LINK_DOWN: 1 ms without block lock (R30). -/
def execLinkDown (p : Fin 4) (s : State) : Host.Outcome State Fault Refusal :=
  .next (if !s.regBit (Reg.PRT_STATUS p) 1 && decide ((s.port p).lockTick + msT 1 ≤ s.now) then s.declareDown p else s)

/-- HI_BER: link down at once, and the HI_BER bit (R30, R34). -/
def execHiBer (p : Fin 4) (s : State) : Host.Outcome State Fault Refusal :=
  .next ((s.declareDown p).setRegBit (Reg.PRT_STATUS p) 9 true)

/-- The FEC mode that a port runs before any link: with PHY 0 or 2 that of PRT_CFG.FEC; with PHY 1 none until AN resolves one (R31, R34). -/
def State.showFec (s : State) (p : Nat) : State :=
  s.setRegF (Reg.PRT_STATUS p) 3 2 (if s.cfgF (Reg.PRT_CFG p) 2 2 = 1 then 0 else s.cfgF (Reg.PRT_CFG p) 4 2)

/-- Boot enables the port (R413 step 11). -/
def State.enablePort (s : State) (p : Nat) : State := (s.setPort p { s.port p with enabled := true }).showFec p

/-- TRAINING_DONE: with PHY 1, auto-negotiation has resolved a FEC mode up to the configured one; with PHY 2, training only
(R30, R31, R34). -/
def execTrainingDone (p : Fin 4) (fec : Nat) (s : State) : Host.Outcome State Fault Refusal :=
  let phy := s.cfgF (Reg.PRT_CFG p) 2 2
  if phy = 0 then .next s else
  let s1 := s.setPort p { s.port p with trained := true }
  let s2 := if phy = 1 then s1.setRegF (Reg.PRT_STATUS p) 3 2 (min fec (s.cfgF (Reg.PRT_CFG p) 4 2)) else s1
  .next (s2.setRegBit (Reg.PRT_STATUS p) 2 true)

/-- BLOCK_LOCK_ACQUIRED: LOCK, and the 10 ms hold starts (R30, R34). -/
def execBlockLockAcquired (p : Fin 4) (s : State) : Host.Outcome State Fault Refusal :=
  .next ((s.setPort p { s.port p with lockTick := s.now }).setRegBit (Reg.PRT_STATUS p) 1 true)

/-- BLOCK_LOCK_LOST: LOCK clears, and the 1 ms timer starts (R30, R34). -/
def execBlockLockLost (p : Fin 4) (s : State) : Host.Outcome State Fault Refusal :=
  .next ((s.setPort p { s.port p with lockTick := s.now }).setRegBit (Reg.PRT_STATUS p) 1 false)

/-! ## Discarded frames -/

/-- The counter of the first check that a frame fails, in the order of R319 steps 1 to 3. -/
def State.firstFailure (s : State) (f : RxFrame) : Option Nat :=
  match s.frameCheck f with
  | some c => some c
  | none => if s.isKt f then s.ktCheck f
      else if s.otherPermitted f then none else some (Reg.PRT_RX_ROLE_DROP f.port)

/-- PAUSE_FRAME: a MAC Control frame is discarded at its place in the checks of R36 (R28). -/
def execPauseFrame (f : RxFrame) (s : State) : Host.Outcome State Fault Refusal :=
  if !s.rxOpen f.port then .next s else
  match s.frameCheck f with
  | some c => .next (s.discard c)
  | none => .next s

/-- A frame that passes steps 1 to 3 of R319, at the control policer: one of the CONTROL class is policed; one that has no command of its own
(an IGMP or MLD report, an echo reply) ends there. KT frames of the class that the policer passes, PTP and UDP frames have commands of their own. -/
def State.controlFrame (s : State) (f : RxFrame) : State :=
  if s.isKt f then
    (match parseKt f.payload with
    | some m => if m.cls = clsMgmt ∨ m.cls = clsHeartbeat then (let r := s.acceptCtl f true; if r.2 then s else r.1) else s
    | none => s)
  else if s.isPtp f || f.proto == some 17 then s
  else (s.acceptCtl f true).1

/-! ## Neighbours -/

/-- A reply or advertisement resolves or refreshes an entry for 300 s and releases the frames that wait for it (R39). -/
def State.resolved (s : State) (p ip mac : Nat) : State :=
  let x := s.port p
  match x.nbr? ip with
  | none => s
  | some e =>
    let e' := { e with mac, state := .resolved, expires := s.now + sT 300, tries := 0, refreshed := false }
    let out := (x.waiting.filter (fun w => s.nextHop p w.1.dstIp == ip)).map (fun w => { w.1 with mac := some mac })
    let s1 := s.setPort p { x with
      nbrs := x.nbrs.map (fun n => if n.ip = ip then e' else n)
      waiting := x.waiting.filter (fun w => s.nextHop p w.1.dstIp != ip) }
    let s2 := out.foldl (fun t f => t.enqueue p f) s1
    (s.partnersOn.filter (fun n => s.ptnPort n == p && s.nextHop p (s.ptnIp n) == ip)).foldl
      (fun t n => t.setPartner n { t.partner n with unreachable := false }) s2

/-- ARP_REQUEST: a request for PRT_IP4_ADDR is answered (R38). -/
def execArpRequest (f : RxFrame) (s : State) : Host.Outcome State Fault Refusal :=
  let r := s.acceptCtl f (s.isKt f || s.otherPermitted f)
  let p := f.port.val
  if r.2 && f.isArp && fieldAt 6 2 f.payload == 1 && s.ip4On p && mapped4 (fieldAt 24 4 f.payload) == s.ip4 p then
    .next (r.1.send p (arpFrame 2 (s.mac p) (s.ip4 p % 2 ^ 32) (fieldAt 8 6 f.payload) (fieldAt 14 4 f.payload) f.srcMac))
  else .next r.1

/-- ARP_REPLY: resolves or refreshes an entry (R39). -/
def execArpReply (f : RxFrame) (s : State) : Host.Outcome State Fault Refusal :=
  let r := s.acceptCtl f (s.isKt f || s.otherPermitted f)
  if r.2 && f.isArp && fieldAt 6 2 f.payload == 2 then
    .next (r.1.resolved f.port (mapped4 (fieldAt 14 4 f.payload)) (fieldAt 8 6 f.payload))
  else .next r.1

/-- NEIGHBOR_SOLICITATION: a solicitation of the global or link-local address is answered (R38). -/
def execNeighborSolicitation (f : RxFrame) (s : State) : Host.Outcome State Fault Refusal :=
  let r := s.acceptCtl f (s.isKt f || s.otherPermitted f)
  let p := f.port.val
  let target := fieldAt 8 16 f.payload
  if r.2 && f.isIcmp6 135 && (target == s.linkLocal p || (s.ip6 p != 0 && target == s.ip6 p)) then
    if isUnspecified f.srcIp then
      .next (r.1.send p (naFrame target (s.mac p) allNodes 0x20000000 (some (groupMac allNodes))))
    else .next (r.1.send p (naFrame target (s.mac p) f.srcIp 0x60000000 (some f.srcMac)))
  else .next r.1

/-- NEIGHBOR_ADVERTISEMENT: resolves or refreshes an entry; the MAC is that of the target link-layer address option (R39). -/
def execNeighborAdvertisement (f : RxFrame) (s : State) : Host.Outcome State Fault Refusal :=
  let r := s.acceptCtl f (s.isKt f || s.otherPermitted f)
  if r.2 && f.isIcmp6 136 then
    .next (r.1.resolved f.port (fieldAt 8 16 f.payload)
      (if fieldAt 24 1 f.payload = 2 then fieldAt 26 6 f.payload else f.srcMac))
  else .next r.1

/-- MLD_QUERY: answered with an MLDv2 report for the port's own groups (R38). -/
def execMldQuery (f : RxFrame) (s : State) : Host.Outcome State Fault Refusal :=
  let r := s.acceptCtl f (s.isKt f || s.otherPermitted f)
  let p := f.port.val
  if r.2 && f.isIcmp6 130 then
    .next (r.1.send p (mldReport (s.linkLocal p) 2
      (s.solicited p ++ (if s.ptpPort p && s.ptpTransport == 2 then ptpGroups6 else []))))
  else .next r.1

/-- IGMP_QUERY: answered on the PTP port for the PTP groups (R515). -/
def execIgmpQuery (f : RxFrame) (s : State) : Host.Outcome State Fault Refusal :=
  let r := s.acceptCtl f (s.isKt f || s.otherPermitted f)
  let p := f.port.val
  if r.2 && f.proto == some 2 && fieldAt 0 1 f.payload == 0x11 && s.ptpPort p && s.ptpTransport == 1 then
    .next (r.1.send p (igmpReport 2 ptpGroups4))
  else .next r.1

/-- ICMP_ECHO_REQUEST: answered on a CONTROL port, at most 100 in each 1 s window (R515). -/
def execIcmpEchoRequest (f : RxFrame) (s : State) : Host.Outcome State Fault Refusal :=
  let p := f.port.val
  let r := s.acceptCtl f (s.otherPermitted f)
  if !r.2 || !f.isEchoRequest then .next r.1 else
  let x := r.1.port p
  if 100 ≤ x.echoes then .next (r.1.discard (Reg.PRT_RX_L3_DROP p)) else
  let s1 := r.1.setPort p { x with echoes := x.echoes + 1 }
  let rest := f.payload.drop 4
  let reply := if f.proto = some 1 then ipFrame .icmpReply 1 f.srcIp (some f.srcMac) false (icmp4 0 rest)
    else ipFrame .icmpReply 58 f.srcIp (some f.srcMac) false (icmp6 (s.srcFor p f.srcIp) f.srcIp 129 rest)
  .next (s1.send p reply)

/-- RATE_WINDOW_ROLLOVER: the next fixed window of 1 s begins (R515). -/
def execRateWindowRollover (s : State) : Host.Outcome State Fault Refusal :=
  if s.now < s.net.winAt + sT 1 then .next s else
  let s1 := (List.range 4).foldl (fun t p => t.setPort p { t.port p with echoes := 0, hellos := 0 }) s
  .next { s1 with net := { s1.net with winAt := s.now / sT 1 * sT 1 } }

/-- NEIGHBOUR_REFRESH: a unicast request 30 s before a resolved entry expires (R39). -/
def execNeighbourRefresh (p : Fin 4) (ip : Nat) (s : State) : Host.Outcome State Fault Refusal :=
  let x := s.port p
  match x.nbr? ip with
  | some e =>
    if e.state = .resolved ∧ e.refreshed = false ∧ e.expires ≤ s.now + sT 30 then
      .next ((s.setPort p { x with nbrs := x.nbrs.map (fun n => if n.ip = ip then
        { n with refreshed := true, tries := 1, retryAt := s.now + sT 1 } else n) }).enqueue p (s.resolveFrame p ip (some e.mac)))
    else .next s
  | none => .next s

/-- NEIGHBOUR_RETRY_TIMEOUT: two retries at 1 s, then the entry goes and its destinations are unreachable (R39). R39 says so of an unanswered
resolution: an unanswered refresh is taken as one, so its entry goes after the third failure, before its 300 s end. DEDUCED (log entry 88). -/
def execNeighbourRetryTimeout (p : Fin 4) (ip : Nat) (s : State) : Host.Outcome State Fault Refusal :=
  let x := s.port p
  match x.nbr? ip with
  | some e =>
    if e.tries = 0 ∨ s.now < e.retryAt then .next s
    else if e.tries < 3 then
      .next ((s.setPort p { x with nbrs := x.nbrs.map (fun n => if n.ip = ip then
        { n with tries := e.tries + 1, retryAt := s.now + sT 1 } else n) }).enqueue p
          (s.resolveFrame p ip (if e.state = .resolved then some e.mac else none)))
    else
      let s1 := s.setPort p { x with nbrs := x.nbrs.filter (fun n => n.ip != ip) }
      .next ((s.partnersOn.filter (fun n => s.ptnPort n == p.val && s.nextHop p (s.ptnIp n) == ip)).foldl
        (fun t n => t.setPartner n { t.partner n with unreachable := true }) s1)
  | none => .next s

/-- RESOLUTION_WAIT_EXPIRY: frames that have waited 3 s are discarded and counted nowhere (R39). -/
def execResolutionWaitExpiry (p : Fin 4) (s : State) : Host.Outcome State Fault Refusal :=
  let x := s.port p
  .next (s.setPort p { x with waiting := x.waiting.filter (fun w => decide (s.now < w.2 + sT 3)) })

/-! ## Heartbeats (R56, R57, R415) -/

/-- The payload of a DEVICE heartbeat. In maintenance mode the epoch is 0 and the digest all zeros (R415). -/
def State.heartbeatBody (s : State) : Bytes :=
  let t := s.taiNs
  deviceIdBytes ++ be 4 s.uptime ++ be 6 (t / 1000000000) ++ be 4 (t % 1000000000) ++ be 1 s.quality ++ be 1 s.deviceState
    ++ be 4 s.epoch ++ s.digest ++ be 1 (s.regF Reg.GLB_ADM_STATE 0 3) ++ be 1 (s.regF Reg.CAL_GRADE 0 2)
    ++ be 2 (s.contexts (· == 2)).length
    ++ be 2 (s.renditions (· == 2)).length ++ be 2 0

/-- The heartbeat interval: GLB_KT_TIMERS.HB_MS; 1 s in maintenance mode (R415). -/
def State.hbInterval (s : State) : Nat := if s.maintenance then sT 1 else msT (s.cfgF Reg.GLB_KT_TIMERS 0 16)

/-- Send a frame directly, bypassing the queues and shapers (R330). -/
def State.sendDirect (s : State) (p : Nat) (f : OutFrame) : State :=
  if s.linkUp p then s.transmit p f else s

/-- Has the port a role? R40 lists device heartbeats with each role, and R17 lets a port without one carry none but those of maintenance mode. -/
def State.anyRole (s : State) (p : Nat) : Bool := s.role p 0 || s.role p 1 || s.role p 2 || s.role p 3

/-- Send a frame directly where its next hop is resolved (R58, R330). -/
def State.sendResolved (s : State) (p : Nat) (f : OutFrame) : State :=
  match (s.port p).nbr? (s.nextHop p f.dstIp) with
  | some { state := .resolved, mac, .. } => s.sendDirect p { f with mac := some mac }
  | _ => s

/-- The heartbeats of one interval: to every configured partner on a port with a role; in maintenance mode to the two broadcast destinations of each
port and to every open session; after a power-fail sequence directly, bypassing the queues (R17, R40, R56, R330, R415, R517). The first one carries
SEQ 0, the partners of one interval share its number, and an interval counts from the end of boot on whether or not anyone was there to send to.
DESIGN CHOICE (log entry 89). -/
def State.sendHeartbeats (s : State) : State :=
  let d := ktBytes clsHeartbeat 1 0 0 s.net.hbSeq s.heartbeatBody
  let s0 := { s with net := { s.net with hbSeq := s.net.hbSeq + 1 } }
  if s.maintenance then
    let out := fun (t : State) (p : Nat) (mac : Nat) (f : OutFrame) =>
      if s.power.failing then t.sendDirect p { f with mac := some mac } else t.send p f
    let s1 := (List.range 4).foldl (fun t p =>
      let t1 := if s.ip4On p then out t p macBroadcast (s.ktFrame p .heartbeat ip4Broadcast (s.ktUdp p) d) else t
      out t1 p (groupMac allNodes) (s.ktFrame p .heartbeat allNodes (s.ktUdp p) d)) s0
    s.mgmt.sess.foldl (fun t m =>
      let f := s.ktFrame m.port .heartbeat m.ip m.udp d
      if s.power.failing then t.sendResolved m.port f else t.send m.port f) s1
  else (s.partnersOn.filter (fun n => s.anyRole (s.ptnPort n))).foldl (fun t n =>
    if s.power.failing then t.sendResolved (s.ptnPort n) (s.ktFrame (s.ptnPort n) .heartbeat (s.ptnIp n) (s.ptnUdp n) d)
    else t.toPartner n .heartbeat d) s0

/-- DEVICE_HEARTBEAT_TIMER (R56). -/
def execDeviceHeartbeatTimer (s : State) : Host.Outcome State Fault Refusal :=
  if s.now < s.net.hbAt ∨ (s.power.failing = true ∧ s.power.phase ≠ .done) ∨ s.boot.phase ≠ .running then .next s else
  let s1 := s.sendHeartbeats
  .next { s1 with net := { s1.net with hbAt := s.now + s.hbInterval } }

/-- Is the datagram a PARTNER heartbeat: CLASS 5, TYPE 2, 8 bytes of payload (R43, R57)? -/
def isPartnerHeartbeat (f : RxFrame) : Bool := match parseKt f.payload with
  | some m => m.cls == clsHeartbeat && m.type == 2 && m.length == 8
  | none => false

/-- PARTNER_HEARTBEAT: a monitored partner is up, and its silence timer restarts (R57). -/
def execPartnerHeartbeat (f : RxFrame) (s : State) : Host.Outcome State Fault Refusal :=
  let r := s.acceptCtl f (s.isKt f || s.otherPermitted f)
  match (if r.2 && isPartnerHeartbeat f && s.isKt f then s.partnerOf f else none) with
  | none => .next r.1
  | some n =>
    if !s.ptnMonitored n then .next r.1 else
    let x := r.1.partner n
    let s1 := r.1.setPartner n { x with up := true, lastHb := s.now }
    .next (if x.up then s1 else s1.raiseEv 81)

/-- PARTNER_SILENCE_TIMEOUT: three device intervals without a heartbeat (R57). -/
def execPartnerSilenceTimeout (n : Fin 32) (s : State) : Host.Outcome State Fault Refusal :=
  let x := s.partner n
  if s.ptnMonitored n && x.up && decide (x.lastHb + 3 * s.hbInterval ≤ s.now) then
    .next ((s.setPartner n { x with up := false }).raiseEv 81)
  else .next s

end Sys2Proof.Machine
end

