-- ==== Sys2Proof/Machine/Hash.lean ====
section
/-!
DEFINITION. SHA-256 (R270), HMAC-SHA-256 (R63) and HKDF-SHA-256 (R62), written from the standards that the manual names
(FIPS 180-4, RFC 2104, RFC 5869). PRESUMED: the manual names these standards and does not print them (log entry 8).
-/
namespace Sys2Proof.Machine

/-- The round constants of SHA-256. -/
def shaK : List (BitVec 32) := [
  0x428a2f98#32, 0x71374491#32, 0xb5c0fbcf#32, 0xe9b5dba5#32, 0x3956c25b#32, 0x59f111f1#32, 0x923f82a4#32, 0xab1c5ed5#32,
  0xd807aa98#32, 0x12835b01#32, 0x243185be#32, 0x550c7dc3#32, 0x72be5d74#32, 0x80deb1fe#32, 0x9bdc06a7#32, 0xc19bf174#32,
  0xe49b69c1#32, 0xefbe4786#32, 0x0fc19dc6#32, 0x240ca1cc#32, 0x2de92c6f#32, 0x4a7484aa#32, 0x5cb0a9dc#32, 0x76f988da#32,
  0x983e5152#32, 0xa831c66d#32, 0xb00327c8#32, 0xbf597fc7#32, 0xc6e00bf3#32, 0xd5a79147#32, 0x06ca6351#32, 0x14292967#32] ++ [
  0x27b70a85#32, 0x2e1b2138#32, 0x4d2c6dfc#32, 0x53380d13#32, 0x650a7354#32, 0x766a0abb#32, 0x81c2c92e#32, 0x92722c85#32,
  0xa2bfe8a1#32, 0xa81a664b#32, 0xc24b8b70#32, 0xc76c51a3#32, 0xd192e819#32, 0xd6990624#32, 0xf40e3585#32, 0x106aa070#32,
  0x19a4c116#32, 0x1e376c08#32, 0x2748774c#32, 0x34b0bcb5#32, 0x391c0cb3#32, 0x4ed8aa4a#32, 0x5b9cca4f#32, 0x682e6ff3#32,
  0x748f82ee#32, 0x78a5636f#32, 0x84c87814#32, 0x8cc70208#32, 0x90befffa#32, 0xa4506ceb#32, 0xbef9a3f7#32, 0xc67178f2#32]

/-- The eight working words of SHA-256. -/
structure ShaState where
  a : BitVec 32
  b : BitVec 32
  c : BitVec 32
  d : BitVec 32
  e : BitVec 32
  f : BitVec 32
  g : BitVec 32
  h : BitVec 32
  deriving DecidableEq, Repr

/-- The initial hash value. -/
def shaInit : ShaState :=
  ⟨0x6a09e667#32, 0xbb67ae85#32, 0x3c6ef372#32, 0xa54ff53a#32, 0x510e527f#32, 0x9b05688c#32, 0x1f83d9ab#32, 0x5be0cd19#32⟩

/-- One round with its constant and schedule word. -/
def shaRound (s : ShaState) (k w : BitVec 32) : ShaState :=
  let s1 := s.e.rotateRight 6 ^^^ s.e.rotateRight 11 ^^^ s.e.rotateRight 25
  let ch := (s.e &&& s.f) ^^^ (~~~s.e &&& s.g)
  let t1 := s.h + s1 + ch + k + w
  let s0 := s.a.rotateRight 2 ^^^ s.a.rotateRight 13 ^^^ s.a.rotateRight 22
  let maj := (s.a &&& s.b) ^^^ (s.a &&& s.c) ^^^ (s.b &&& s.c)
  ⟨t1 + s0 + maj, s.a, s.b, s.c, s.d + t1, s.e, s.f, s.g⟩

/-- The next schedule word from the last sixteen (oldest first). -/
def shaNextW (w : List (BitVec 32)) : BitVec 32 :=
  let w0 := w.getD 0 0#32
  let w1 := w.getD 1 0#32
  let w9 := w.getD 9 0#32
  let w14 := w.getD 14 0#32
  let s0 := w1.rotateRight 7 ^^^ w1.rotateRight 18 ^^^ (w1 >>> 3)
  let s1 := w14.rotateRight 17 ^^^ w14.rotateRight 19 ^^^ (w14 >>> 10)
  w0 + s0 + w9 + s1

/-- The rounds over the constants, with the window of sixteen schedule words. -/
def shaRounds : List (BitVec 32) → List (BitVec 32) → ShaState → ShaState
  | [], _, s => s
  | k :: ks, w, s => shaRounds ks (w.drop 1 ++ [shaNextW w]) (shaRound s k (w.headD 0#32))

/-- The compression of one 64-byte block. -/
def shaBlock (s : ShaState) (blk : Bytes) : ShaState :=
  let w := (chunks 4 blk).map (fun c => BitVec.ofNat 32 (beNat c))
  let t := shaRounds shaK w s
  ⟨s.a + t.a, s.b + t.b, s.c + t.c, s.d + t.d, s.e + t.e, s.f + t.f, s.g + t.g, s.h + t.h⟩

/-- The message with its padding and its length in bits. -/
def shaPad (m : Bytes) : Bytes :=
  let z := (119 - m.length % 64) % 64
  m ++ [0x80#8] ++ zeros z ++ be 8 (m.length * 8)

/-- SHA-256 of a byte string: 32 bytes. -/
def sha256 (m : Bytes) : Bytes :=
  let s := (chunks 64 (shaPad m)).foldl shaBlock shaInit
  be 4 s.a.toNat ++ be 4 s.b.toNat ++ be 4 s.c.toNat ++ be 4 s.d.toNat
    ++ be 4 s.e.toNat ++ be 4 s.f.toNat ++ be 4 s.g.toNat ++ be 4 s.h.toNat

/-- HMAC-SHA-256. -/
def hmac (key m : Bytes) : Bytes :=
  let k := if key.length > 64 then sha256 key else key
  let k64 := k ++ zeros (64 - k.length)
  sha256 (k64.map (· ^^^ 0x5C#8) ++ sha256 (k64.map (· ^^^ 0x36#8) ++ m))

/-- HKDF-SHA-256 with an output of 32 bytes: extract, then the first block of expand. -/
def hkdf32 (salt ikm info : Bytes) : Bytes := hmac (hmac salt ikm) (info ++ [1#8])

end Sys2Proof.Machine
end

