-- ==== Sys2Proof/Machine/Curve.lean ====
section
/-!
DEFINITION. NIST P-256: points, ECDH (R62), ECDSA signing with the RFC 6979 nonce and verification (R478). PRESUMED: the manual
names the curve and the RFC and does not print them (log entry 8). Nothing here is meant to be fast.
-/
namespace Sys2Proof.Machine

/-- The field prime of P-256. -/
def p256P : Nat := 0xffffffff00000001000000000000000000000000ffffffffffffffffffffffff
/-- The group order of P-256. -/
def p256N : Nat := 0xffffffff00000000ffffffffffffffffbce6faada7179e84f3b9cac2fc632551
/-- The coefficient b of P-256. -/
def p256B : Nat := 0x5ac635d8aa3a93e7b3ebbd55769886bc651d06b0cc53b0f63bce3c3e27d2604b
/-- The base point's X. -/
def p256Gx : Nat := 0x6b17d1f2e12c4247f8bce6e563a440f277037d812deb33a0f4a13945d898c296
/-- The base point's Y. -/
def p256Gy : Nat := 0x4fe342e2fe1a7f9b8ee7eb4a7c0f9e162bce33576b315ececbb6406837bf51f5

/-- Modular power by repeated squaring over the bits of the exponent (`fuel` bits). -/
def powModFuel (m : Nat) : Nat → Nat → Nat → Nat → Nat
  | 0, _, _, acc => acc
  | fuel + 1, b, e, acc =>
    powModFuel m fuel (b * b % m) (e / 2) (if e % 2 = 1 then acc * b % m else acc)

/-- Modular inverse by Fermat's theorem, for a prime modulus below 2^256. -/
def invMod (m a : Nat) : Nat := powModFuel m 256 (a % m) (m - 2) (1 % m)

/-- A point in Jacobian coordinates; Z = 0 is the point at infinity. -/
structure Jac where
  x : Nat
  y : Nat
  z : Nat
  deriving DecidableEq, Repr

/-- Subtraction in the field. -/
def fsub (a b : Nat) : Nat := (a + p256P - b % p256P) % p256P

/-- Doubling, for a = −3. -/
def Jac.dbl (p : Jac) : Jac :=
  if p.z = 0 ∨ p.y = 0 then ⟨1, 1, 0⟩ else
  let zz := p.z * p.z % p256P
  let yy := p.y * p.y % p256P
  let s := 4 * p.x * yy % p256P
  let m := 3 * fsub p.x zz * (p.x + zz) % p256P
  let x := fsub (m * m) (2 * s)
  ⟨x, fsub (m * fsub s x) (8 * yy * yy), 2 * p.y * p.z % p256P⟩

/-- Addition. -/
def Jac.add (p q : Jac) : Jac :=
  if p.z = 0 then q else if q.z = 0 then p else
  let z1 := p.z * p.z % p256P
  let z2 := q.z * q.z % p256P
  let u1 := p.x * z2 % p256P
  let u2 := q.x * z1 % p256P
  let s1 := p.y * z2 * q.z % p256P
  let s2 := q.y * z1 * p.z % p256P
  if u1 = u2 then (if s1 = s2 then p.dbl else ⟨1, 1, 0⟩) else
  let h := fsub u2 u1
  let r := fsub s2 s1
  let hh := h * h % p256P
  let hhh := h * hh % p256P
  let v := u1 * hh % p256P
  let x := fsub (fsub (r * r) hhh) (2 * v)
  ⟨x, fsub (r * fsub v x) (s1 * hhh), h * p.z * q.z % p256P⟩

/-- Scalar multiplication, most significant bit first. -/
def Jac.mulFuel (p : Jac) : Nat → Nat → Jac
  | 0, _ => ⟨1, 1, 0⟩
  | fuel + 1, k =>
    let q := (Jac.mulFuel p fuel (k / 2)).dbl
    if k % 2 = 1 then q.add p else q

/-- The affine X of a point, or none at infinity. -/
def Jac.affine (p : Jac) : Option (Nat × Nat) :=
  if p.z = 0 then none else
  let i := invMod p256P p.z
  let ii := i * i % p256P
  some (p.x * ii % p256P, p.y * ii % p256P * i % p256P)

/-- The base point. -/
def p256G : Jac := ⟨p256Gx, p256Gy, 1⟩

/-- Multiplication by a scalar below 2^256. -/
def Jac.mul (p : Jac) (k : Nat) : Jac := p.mulFuel 256 k

/-- Is the affine point on the curve? -/
def onCurve (x y : Nat) : Bool :=
  decide (x < p256P) && decide (y < p256P) && decide (y * y % p256P = (x * x % p256P * x + p256B + 3 * (p256P - x)) % p256P)

/-- A public key in uncompressed form: 0x04, X, Y. -/
def pubBytes (x y : Nat) : Bytes := [4#8] ++ be 32 x ++ be 32 y

/-- The public key of a private scalar. -/
def pubOf (d : Nat) : Bytes := match (p256G.mul d).affine with
  | some (x, y) => pubBytes x y
  | none => zeros 65

/-- The point that an uncompressed key spells, if it is one. -/
def parsePub (b : Bytes) : Option (Nat × Nat) :=
  if b.length = 65 ∧ b.headD 0#8 = 4#8 ∧ onCurve (beNat (slice 1 32 b)) (beNat (slice 33 32 b)) = true
  then some (beNat (slice 1 32 b), beNat (slice 33 32 b)) else none

/-- ECDH: the 32-byte X coordinate of the shared point (R62). -/
def ecdh (d : Nat) (peer : Bytes) : Option Bytes := match parsePub peer with
  | none => none
  | some (x, y) => ((⟨x, y, 1⟩ : Jac).mul d).affine.map (fun q => be 32 q.1)

/-- The candidate nonces of RFC 6979, up to `fuel` of them: the first in range. -/
def nonceFuel : Nat → Bytes → Bytes → Nat
  | 0, _, _ => 1
  | fuel + 1, k, v =>
    let v1 := hmac k v
    let t := beNat v1
    if 1 ≤ t ∧ t < p256N then t
    else
      let k1 := hmac k (v1 ++ [0#8])
      nonceFuel fuel k1 (hmac k1 v1)

/-- The deterministic nonce of RFC 6979 for a private key and a digest. -/
def nonce6979 (d : Nat) (digest : Bytes) : Nat :=
  let x := be 32 d
  let hz := be 32 (beNat digest % p256N)
  let v0 := List.replicate 32 1#8
  let k1 := hmac (zeros 32) (v0 ++ [0#8] ++ x ++ hz)
  let v1 := hmac k1 v0
  let k2 := hmac k1 (v1 ++ [1#8] ++ x ++ hz)
  nonceFuel 8 k2 (hmac k2 v1)

/-- An ECDSA signature over a 32-byte digest: r then s, 32 bytes each (R270), s exactly as computed (R478). -/
def ecdsaSign (d : Nat) (digest : Bytes) : Bytes :=
  let k := nonce6979 d digest
  let r := match (p256G.mul k).affine with | some (x, _) => x % p256N | none => 0
  let s := invMod p256N k * (beNat digest % p256N + r * d) % p256N
  be 32 r ++ be 32 s

/-- Does a 64-byte signature over a digest verify under an uncompressed key? Either form of s is accepted (R478). -/
def ecdsaVerify (pub digest sig : Bytes) : Bool := match parsePub pub with
  | none => false
  | some (x, y) =>
    let r := beNat (slice 0 32 sig)
    let s := beNat (slice 32 32 sig)
    if sig.length ≠ 64 ∨ r = 0 ∨ p256N ≤ r ∨ s = 0 ∨ p256N ≤ s then false else
    let w := invMod p256N s
    let u1 := beNat digest % p256N * w % p256N
    let u2 := r * w % p256N
    match ((p256G.mul u1).add ((⟨x, y, 1⟩ : Jac).mul u2)).affine with
    | none => false
    | some (px, _) => decide (px % p256N = r)

end Sys2Proof.Machine
end

