-- ==== Sys2Proof/Machine/Seal.lean ====
section
/-!
DEFINITION. The sealing block: broke-map records (R181, R182), leaf headers and the chain (R272 to R275), reams and their boundaries
(R276 to R282), seals and derivation records (R284 to R288), sheets and the partners' backlogs (R290 to R292, R55, R325, R327).
-/
namespace Sys2Proof.Machine

/-! ## Broke maps -/

/-- Join adjacent runs of one reason and drop empty ones (canonical form of R181). -/
def normRuns : List (Nat × Nat) → List (Nat × Nat)
  | [] => []
  | (r, n) :: t => match normRuns t with
    | [] => if n = 0 then [] else [(r, n)]
    | (r', n') :: t' => if n = 0 then (r', n') :: t' else if r = r' then (r, n + n') :: t' else (r, n) :: (r', n') :: t'

/-- The bytes of one run in its shortest form; a run above 65,535 blocks cannot occur (R181). -/
def runBytes (q : Nat × Nat) : Bytes :=
  if q.2 ≤ 14 then be 1 (q.1 * 16 + (q.2 - 1))
  else if q.2 ≤ 270 then be 1 (q.1 * 16 + 14) ++ be 1 (q.2 - 15)
  else be 1 (q.1 * 16 + 15) ++ be 2 q.2

/-- The runs of a leaf's map as it is chained: every block that carries neither 5 nor 7 becomes 6 where the map is not final (R180). -/
def Leaf.chainedRuns (l : Leaf) : List (Nat × Nat) :=
  normRuns (if l.final then l.runs else l.runs.map (fun q => if q.1 = 5 ∨ q.1 = 7 then q else (6, q.2)))

/-- The broke-map record (R181). -/
def mapRecord (bw bh : Nat) (runs : List (Nat × Nat)) : Bytes :=
  let rs := (normRuns runs).flatMap runBytes
  if bw * bh = 0 then be 2 0 ++ be 2 0 ++ be 4 0 else be 2 bw ++ be 2 bh ++ be 4 rs.length ++ rs

/-- Bit r set when some block carries reason r (R182). -/
def reasonMask (runs : List (Nat × Nat)) : Nat :=
  sumNat ((List.range 9).map (fun r => if runs.any (fun q => q.1 == r && q.2 != 0) then 2 ^ r else 0))

/-- Blocks whose reason is not 0 (R182). -/
def nonzeroBlocks (runs : List (Nat × Nat)) : Nat := sumNat (runs.map (fun q => if q.1 = 0 then 0 else q.2))

/-- The broke-map summary (R182). -/
def mapSummary (runs : List (Nat × Nat)) : Bytes := be 2 (reasonMask runs) ++ be 2 0 ++ be 4 (nonzeroBlocks runs)

/-! ## Leaves and the chain -/

/-- Slot numbers of the sealing block: contexts from 0, renditions from 1,024. -/
def rndSlot (n : Nat) : Nat := 1024 + n
/-- KIND of a slot: 0 original, 1 rendition. -/
def slotKind (k : Nat) : Nat := if k < 1024 then 0 else 1
/-- NUMBER of a slot. -/
def slotNumber (k : Nat) : Nat := k % 1024

/-- The chain state of a slot. -/
def State.slot (s : State) (k : Nat) : SealSlot := tget (fun _ => {}) s.seals.slots k

/-- Replace the chain state of a slot. -/
def State.setSlot (s : State) (k : Nat) (x : SealSlot) : State :=
  { s with seals := { s.seals with slots := tput (fun _ => {}) s.seals.slots k x } }

/-- A LEAF_HEAD object (R272). -/
def leafHead (slot : Nat) (l : Leaf) : Bytes :=
  let rs := l.chainedRuns
  be 1 (slotKind slot) ++ be 1 l.tq ++ be 2 (slotNumber slot) ++ be 4 l.seq ++ be 6 (l.arr / 1000000000) ++ be 4 (l.arr % 1000000000)
    ++ be 4 l.rtp ++ be 1 l.flags ++ be 1 0 ++ be 4 l.unit.length ++ l.hash ++ mapSummary rs ++ mapRecord l.bw l.bh rs
    ++ (if slot < 1024 then [] else
        be 1 l.srcs.length ++ be 3 0 ++ l.srcs.flatMap (fun q => be 2 q.1 ++ be 2 0 ++ be 4 q.2.1))

/-- H_k from H_(k−1) (R274). -/
def chainNext (h hash head : Bytes) : Bytes := sha256 (h ++ hash ++ head)

/-- STATUS register of a slot: its GENERATION (R90, R91). -/
def State.generation (s : State) (slot : Nat) : Nat :=
  s.regF (if slot < 1024 then Reg.CTX_STATUS slot else Reg.RND_STATUS (slot - 1024)) 16 16

/-- Source contexts of a rendition: per valid source number, the context (R91). -/
def State.rndSources (s : State) (n : Nat) : List Nat :=
  let a := Reg.RND_SRC_A n
  let b := Reg.RND_SRC_B n
  (if s.cfgBit a 15 || s.cfgF (Reg.RND_CFG n) 0 2 == 1 then [s.cfgF a 0 10] else []) ++ (if s.cfgBit a 31 then [s.cfgF a 16 10] else [])
    ++ (if s.cfgBit b 15 then [s.cfgF b 0 10] else []) ++ (if s.cfgBit b 31 then [s.cfgF b 16 10] else [])

/-- CTX_LABEL of a context: 24 bytes under the layout of R489 (DEDUCED, log entry 9). An OPEN's LABEL is stored there (R90). -/
def State.label (s : State) (n : Nat) : Bytes := s.regBytes (Reg.CTX_LABEL n 0) 6

/-- KEY_ID of the per-boot key (R293). -/
def State.keyId (s : State) : Bytes := s.regBytes (Reg.SEAL_KEY_ID 0) 8

/-- Take the next serial (R276): boot count in the high half. -/
def State.takeSerial (s : State) : Nat × State :=
  ((s.reg Reg.GLB_BOOT_COUNT).toNat * 2 ^ 32 + s.seals.serialLo,
    { s with seals := { s.seals with serialLo := s.seals.serialLo + 1 } })

/-- What a ream fixes when its serial is taken (R277). -/
def State.newHdr (s : State) (a1 : Nat) (comp : Bytes) : ReamHdr × State :=
  let r := s.takeSerial
  ({ serial := r.1, span := s.cfgF Reg.SEAL_CFG 0 14, maxSpan := s.cfgF Reg.SEAL_CFG 16 16, epoch := s.epoch, digest := s.digest,
     a1, comp }, r.2)

/-! ## Sheets and backlogs -/

/-- The partners entitled to a slot's stream (R40, R54): VAULT partners of a VAULT port; for a rendition with REVIEW also REVIEW
partners of a REVIEW port. -/
def State.entitled (s : State) (slot : Nat) : List Nat :=
  s.partnersOn.filter (fun n =>
    (s.ptnRole n 1 && s.role (s.ptnPort n) 1) ||
      (decide (1024 ≤ slot) && s.cfgBit (Reg.RND_CFG (slot - 1024)) 4 && s.ptnRole n 3 && s.role (s.ptnPort n) 3))

/-- SHEET_MAX of a stream at ream opening (R292). -/
def State.sheetMaxFor (s : State) (slot : Nat) : Nat :=
  match minNat? ((s.entitled slot).map s.ptnMaxPayload) with
  | none => 1216
  | some m => max 1216 m

/-- A fair queue. -/
def State.egq (s : State) (q : Nat) : EgqSt := tget (fun _ => {}) s.net.egq q

/-- Replace a fair queue. -/
def State.setEgq (s : State) (q : Nat) (x : EgqSt) : State :=
  { s with net := { s.net with egq := tput (fun _ => {}) s.net.egq q x } }

/-- The fair queue of a partner's sheets (R325). -/
def State.sheetQueue (s : State) (n : Nat) (rnd : Bool) : Nat :=
  256 * s.ptnPort n + s.cfgF (Reg.GLB_PTN_LINK n) (if rnd then 24 else 16) 8

/-- Bytes of a partner's sheets in all the queues of its port (R325). -/
def State.backlog (s : State) (n : Nat) : Nat :=
  sumNat (s.net.egq.map (fun q => sumNat ((q.2.sheets.filter (fun x => x.partner == n)).map (fun x => x.datagram.length))))

/-- The frame that carries a sheet. -/
def State.sheetFrame (s : State) (x : Sheet) (mac : Option Nat) : OutFrame :=
  { s.ktFrame (s.ptnPort x.partner) .sheet (s.ptnIp x.partner) (s.ptnUdp x.partner) x.datagram with mac := mac }

/-- L of a sheet's frame: its length plus 20 (R326). -/
def State.sheetL (s : State) (x : Sheet) : Nat := (s.sheetFrame x none).len (s.tagged (s.ptnPort x.partner)) + 20

/-- The finish tag of a head frame (R327). -/
def tagHead (last v : BitVec 64) (l weight : Nat) : BitVec 64 :=
  let st := if 0 < (last - v).toInt then last else v
  st + BitVec.ofNat 64 (l * 65536 / weight)

/-- Give the head of a queue its tag when it has become the head; a weight that this instant's announcement brings counts (R327, R329). -/
def State.tagQueue (s : State) (q : Nat) : State :=
  let e := s.egq q
  match e.tag, e.sheets with
  | none, x :: _ =>
    s.setEgq q { e with tag := some (tagHead e.last (s.port (q / 256)).vtime (s.sheetL x) (s.soonF (Reg.EGQ_CFG q) 0 16)) }
  | _, _ => s

/-- A closed sheet joins one partner's backlog, or is discarded and counted: its path carries less than SHEET_MAX, or the backlog is
full (R55, R292). -/
def State.backlogSheet (s : State) (sheetMax : Nat) (x : Sheet) : State :=
  let n := x.partner
  if s.ptnMaxPayload n < sheetMax || decide (s.cfgF (Reg.GLB_PTN_BACKLOG n) 0 14 * 2 ^ 20 < s.backlog n + x.datagram.length)
  then s.bump (Reg.PRT_SHEETS_LOST (s.ptnPort n))
  else
    let q := s.sheetQueue n x.rnd
    let e := s.egq q
    (s.setEgq q { e with sheets := e.sheets ++ [x] }).tagQueue q

/-- A SHEET datagram (R53, R290). -/
def sheetDatagram (slot serial seq leaves : Nat) (chain : Bytes) (last : Bool) (recs : Bytes) : Bytes :=
  ktBytes clsSheet 1 (if last then 1 else 0) ((if slot < 1024 then 0 else 2 ^ 31) + slotNumber slot) seq
    (be 8 serial ++ be 4 leaves ++ chain ++ be 4 0 ++ recs)

/-- Close a sheet: it is counted and joins each entitled partner's backlog (R292). -/
def State.emitSheet (s : State) (slot serial seq leaves : Nat) (chain : Bytes) (last : Bool) (recs : Bytes) (sheetMax : Nat) : State :=
  let d := sheetDatagram slot serial seq leaves chain last recs
  (s.entitled slot).foldl
    (fun t n => t.backlogSheet sheetMax { partner := n, rnd := decide (1024 ≤ slot), serial, seq, datagram := d })
    (s.bump Reg.SEAL_SHEETS)

/-- A record of a sheet (R291). -/
def sheetRec (type : Nat) (start stop : Bool) (off : Nat) (data : Bytes) : Bytes :=
  be 1 type ++ be 1 ((if start then 1 else 0) + (if stop then 2 else 0)) ++ be 2 data.length ++ be 4 off ++ data

/-- Close the sheet that a ream is filling, if it holds a record. -/
def State.closeSheet (s : State) (slot : Nat) (r : Ream) : State × Ream :=
  if r.buf.isEmpty then (s, r) else
  (s.emitSheet slot r.hdr.serial r.sheetSeq r.heads r.headsH false r.buf r.sheetMax,
    { r with buf := [], sheetSeq := r.sheetSeq + 1 })

/-- Place the rest of an object from an offset, fragment by fragment (R291, R292). `headsAfter` is what LEAVES and CHAIN become when
the object's last fragment is placed. -/
def State.placeFuel (slot type total : Nat) (headsAfter : Option (Nat × Bytes)) :
    Nat → Nat → Bytes → State × Ream → State × Ream
  | 0, _, _, sr => sr
  | fuel + 1, off, rest, (s, r) =>
    let cap := r.sheetMax - 48
    if cap < r.buf.length + 9 then
      State.placeFuel slot type total headsAfter fuel off rest (s.closeSheet slot r)
    else
      let room := cap - r.buf.length - 8
      let part := rest.take room
      let stop := decide (off + part.length = total)
      let r1 := { r with buf := r.buf ++ sheetRec type (off == 0) stop off part, bufAt := if r.buf.isEmpty then s.now else r.bufAt }
      let r2 := match stop, headsAfter with
        | true, some (k, h) => { r1 with heads := k, headsH := h }
        | _, _ => r1
      let sr := if cap < r2.buf.length + 9 then s.closeSheet slot r2 else (s, r2)
      if stop then sr else State.placeFuel slot type total headsAfter fuel (off + part.length) (rest.drop room) sr

/-- Place an object into the ream's sheets. -/
def State.place (slot type : Nat) (obj : Bytes) (headsAfter : Option (Nat × Bytes)) (sr : State × Ream) : State × Ream :=
  State.placeFuel slot type obj.length headsAfter (2 * obj.length + 2) 0 obj sr

/-! ## Reams -/

/-- The OPEN object (R282). -/
def openObject (slot : Nat) (hdr : ReamHdr) (gen : Nat) (nsc : Bool) (prev : Option (Nat × Bytes)) (codec firstSeq : Nat)
    (label keyId : Bytes) : Bytes :=
  be 4 0x4B4A524D ++ be 1 1 ++ be 1 (slotKind slot) ++ be 2 (slotNumber slot) ++ deviceIdBytes ++ be 8 hdr.serial ++ be 2 gen
    ++ be 1 ((if nsc then 1 else 0) + (if prev.isNone then 2 else 0)) ++ be 1 codec ++ be 4 firstSeq ++ be 2 hdr.span
    ++ be 2 hdr.maxSpan ++ be 4 hdr.epoch ++ hdr.digest ++ be 8 ((prev.map (·.1)).getD 0)
    ++ (prev.map (·.2)).getD (zeros 32) ++ label ++ keyId

/-- CODEC of a slot: CTX_CFG.CODEC or RND_CFG.CODEC. -/
def State.slotCodec (s : State) (slot : Nat) : Nat :=
  if slot < 1024 then s.regF (Reg.CTX_CFG slot) 2 2 else s.cfgF (Reg.RND_CFG (slot - 1024)) 2 2

/-- The label of a slot's stream: that of the context, or of SRC0. -/
def State.slotLabel (s : State) (slot : Nat) : Bytes :=
  s.label (if slot < 1024 then slot else s.cfgF (Reg.RND_SRC_A (slot - 1024)) 0 10)

/-- Open a ream with its first leaf (R275, R278, R282): OPEN and CERT are placed. The predecessor is the slot's previous ream, or the
slot's entry in the safe-state manifest (R314). -/
def State.openReam (s : State) (slot : Nat) (hdr : ReamHdr) (l : Leaf) : State × Ream :=
  let x := s.slot slot
  let link := tget (fun _ => none) s.seals.links slot
  let prev := match x.prev with | some q => some q | none => link
  let nsc := l.flags % 2 == 0
  let obj := openObject slot hdr (s.generation slot) nsc prev (s.slotCodec slot) l.seq (s.slotLabel slot) s.keyId
  let h := sha256 obj
  let r : Ream := { hdr, nsc, openHash := h, h, sheetMax := s.sheetMaxFor slot, headsH := h }
  let s1 := s.bump Reg.SEAL_REAMS
  let s2 := if nsc then s1.bump Reg.SEAL_NSC else s1
  let s3 := { s2 with seals := { s2.seals with links := tput (fun _ => none) s2.seals.links slot none } }
  State.place slot 2 s.seals.cert none (State.place slot 1 obj none (s3, r))

/-- Key of the chain log: context, generation, LEAF_SEQ. -/
def chainKey (ctx gen seq : Nat) : Nat := (ctx * 65536 + gen) * 2 ^ 32 + seq

/-- Serial and H of a chained source leaf. -/
def State.chained (s : State) (ctx gen seq : Nat) : Option (Nat × Bytes) :=
  tget (fun _ => none) s.seals.chainLog (chainKey ctx gen seq)

/-- A ream's use of one source after one more leaf (R288). -/
def State.addUse (s : State) (u : SrcUse) (q : Nat × Nat × Nat) : SrcUse :=
  if q.2.1 = 0xFFFFFFFF then u else
  let c := s.chained q.1 q.2.2 q.2.1
  let take := u.last = 0xFFFFFFFF ∨ u.last ≤ q.2.1
  { ctx := u.ctx, gen := q.2.2
    first := if u.first = 0xFFFFFFFF then q.2.1 else min u.first q.2.1
    last := if take then q.2.1 else u.last
    serial := if take then (c.map (·.1)).getD u.serial else u.serial
    chain := if take then (c.map (·.2)).getD u.chain else u.chain }

/-- The uses of a ream after one more leaf: one entry per source, in source order. -/
def State.addUses (s : State) : List SrcUse → List (Nat × Nat × Nat) → List SrcUse
  | u :: us, q :: qs => s.addUse u q :: s.addUses us qs
  | [], q :: qs =>
    s.addUse { ctx := q.1, gen := q.2.2, first := 0xFFFFFFFF, last := 0xFFFFFFFF, serial := 0, chain := zeros 32 } q :: s.addUses [] qs
  | us, [] => us

/-- One entry of a DERIV object (R288). -/
def State.derivEntry (s : State) (u : SrcUse) : Bytes :=
  let stillOpen := match (s.slot u.ctx).ream with | some r => r.hdr.serial == u.serial | none => false
  be 2 u.ctx ++ be 2 u.gen ++ be 4 u.first ++ be 4 u.last ++ be 8 u.serial ++ u.chain
    ++ be 1 (if stillOpen && u.last != 0xFFFFFFFF then 1 else 0) ++ be 3 0

/-- The DERIV object (R287). -/
def State.derivObject (s : State) (slot : Nat) (r : Ream) : Bytes :=
  be 4 0x4B4A4452 ++ be 1 1 ++ be 1 (s.cfgF (Reg.RND_CFG (slot - 1024)) 0 2) ++ be 2 (slot - 1024) ++ be 8 r.hdr.serial
    ++ r.hdr.comp ++ sha256 r.maskData ++ be 1 r.uses.length ++ be 3 0 ++ r.uses.flatMap s.derivEntry

/-- Epoch and digest that a seal carries: those announced, or those before an announcement of the same instant (R285). -/
def State.sealEpoch (s : State) : Nat × Bytes := match s.boot.announced with
  | some (t, e, d) => if t = s.now then (e, d) else (s.epoch, s.digest)
  | none => (s.epoch, s.digest)

/-- Bytes 0 to 223 of the SEAL (R284). -/
def State.sealHead (s : State) (slot : Nat) (r : Ream) (reason sheets : Nat) (deriv : Bytes) : Bytes :=
  let t := s.taiNs
  be 4 0x4B4A534C ++ be 1 1 ++ be 1 (slotKind slot) ++ be 2 (slotNumber slot) ++ be 8 r.hdr.serial ++ be 1 reason
    ++ be 1 ((if r.nsc then 1 else 0) + (if r.degraded then 2 else 0)) ++ be 2 0 ++ r.openHash ++ be 4 r.leaves ++ be 4 r.lastSeq
    ++ be 8 r.unitBytes ++ be 4 r.broke ++ be 4 r.deferred ++ be 4 sheets ++ be 6 (t / 1000000000) ++ be 4 (t % 1000000000)
    ++ be 2 0 ++ r.h ++ be 4 s.sealEpoch.1 ++ s.sealEpoch.2 ++ (if slot < 1024 then zeros 32 else sha256 deriv) ++ s.keyId

/-- Is a SELF_TEST or its like running on the agent? -/
def State.inTest (s : State) (agent : Nat) : Bool :=
  s.mgmt.tickets.any (fun t => t.kind == 1 && t.running && !t.ready && fieldAt 0 1 t.params == agent)

/-- Did the last self-test of an agent fail, so that it stays out of service (R470)? -/
def State.failedTest (s : State) (agent : Nat) : Bool := (tget (fun _ => ({} : UnitSt)) s.units agent).failed

/-- Can a signature engine start new work: in service (R446, R470) and not under test? -/
def State.seFree (s : State) (k : Nat) : Bool :=
  (if k = 0 then s.seals.se0.isNone else s.seals.se1.isNone) && !s.frozen (agSe k) && !s.inTest (agSe k) && !s.failedTest (agSe k)

/-- Put work on a signature engine. -/
def State.setSe (s : State) (k : Nat) (w : Option SignWork) : State :=
  { s with seals := if k = 0 then { s.seals with se0 := w } else { s.seals with se1 := w } }

/-- The next work for a free engine: the manifest of a commit (R299 step 5); seals in the order their FINALs were fixed, then attestation; no seal between the start of a
power-fail sequence or the entry to safe state and the end of the commit (R285, R286). -/
def State.nextWork (s : State) : Option (SignWork × State) :=
  if s.power.phase = .signing ∧ s.seals.se0 ≠ some .manifest ∧ s.seals.se1 ≠ some .manifest then some (.manifest, s) else
  match s.power.phase, s.power.failing, s.seals.queue with
  | .none, false, j :: q => if s.power.safe then none else some (.seal j, { s with seals := { s.seals with queue := q } })
  | .done, false, j :: q => some (.seal j, { s with seals := { s.seals with queue := q } })
  | _, _, _ => match s.seals.attests with
    | a :: t => if s.power.failing then none else some (.attest a, { s with seals := { s.seals with attests := t } })
    | [] => none

/-- Start work on SE0 first, then SE1 (R285). -/
def State.startSign (s : State) : State :=
  let go := fun (t : State) (k : Nat) => if t.seFree k then (match t.nextWork with
    | some (w, u) => u.setSe k (some w)
    | none => t) else t
  go (go s 0) 1

/-- Fix FINAL: the seal counts as made and joins the signing queue; where the DERIV and SEAL pair goes is decided at once
(R285, R292). -/
def State.finalize (s : State) (slot : Nat) (r : Ream) (reason : Nat) : State :=
  let deriv := if slot < 1024 then [] else s.derivObject slot r
  let pair := (if slot < 1024 then 0 else 8 + deriv.length) + 8 + 288
  let fits := !r.buf.isEmpty && decide (r.buf.length + pair ≤ r.sheetMax - 48)
  let sr := if fits then (s, r) else s.closeSheet slot r
  let s1 := sr.1
  let r1 := sr.2
  let head := s1.sealHead slot r1 reason (r1.sheetSeq + 1) deriv
  let j : SealJob := { slot := slot, serial := r1.hdr.serial, final := r1.h, leaves := r1.leaves, reason := reason, nsc := r1.nsc,
                       deriv := deriv, sealBytes := head, sheetSeq := r1.sheetSeq, sheetMax := r1.sheetMax, buf := r1.buf,
                       sent := r1.sent }
  let s2 := s1.setSlot slot { s1.slot slot with ream := none, prev := some (r1.hdr.serial, r1.h) }
  { s2 with seals := { s2.seals with queue := s2.seals.queue ++ [j] } }.startSign

/-- Chain one leaf: open its ream if it starts one, head, hash, counts, sheets, and the ream's end if the leaf ends it
(R274, R275, R285). The leaf has been taken out of `await`. -/
def State.chainOne (s : State) (slot : Nat) (l : Leaf) : State :=
  let sr := match l.starts, (s.slot slot).ream with
    | some hdr, _ => s.openReam slot hdr l
    | none, some r => (s, r)
    | none, none =>
      -- a leaf that starts no ream always finds one open
      let q := s.newHdr l.arr []
      q.2.openReam slot q.1 l
  let r := sr.2
  let head := leafHead slot l
  let h := chainNext r.h l.hash head
  let rs := l.chainedRuns
  let r1 := { r with
    h := h
    leaves := r.leaves + 1
    lastSeq := l.seq
    unitBytes := r.unitBytes + l.unit.length
    broke := r.broke + (if nonzeroBlocks rs = 0 then 0 else 1)
    deferred := r.deferred + (if rs.any (fun q => q.1 == 6) then 1 else 0)
    degraded := r.degraded || l.tq != 0
    uses := sr.1.addUses r.uses l.srcs
    maskData := r.maskData ++ l.mask }
  let s1 := sr.1.bump Reg.SEAL_LEAVES
  let sr2 := State.place slot 4 l.unit none (State.place slot 3 head (some (r1.leaves, h)) (s1, r1))
  let s2 := sr2.1
  let s3 := if slot < 1024 then
      let key := chainKey slot (s2.generation slot) l.seq
      { s2 with seals := { s2.seals with chainLog := tput (fun _ => none) s2.seals.chainLog key (some (r1.hdr.serial, h)) } }
    else s2
  match l.ends with
  | some reason => s3.finalize slot sr2.2 reason
  | none => s3.setSlot slot { s3.slot slot with ream := some sr2.2 }

/-- Close the open ream of a slot with a reason: after the last leaf awaiting chaining, or at once if none waits (R280, R285). Of two causes of one
instant the higher code stands (R281). -/
def State.closeReam (s : State) (slot reason : Nat) : State :=
  let x := s.slot slot
  let put := fun (l : Leaf) (r : Nat) => s.setSlot slot { x with await := x.await.dropLast ++ [{ l with ends := some r, endTick := s.now }] }
  match x.await.getLast? with
  | some l =>
    match l.ends with
    | some e => if l.endTick = s.now ∧ e < reason then put l reason else s
    | none => put l reason
  | none => match x.ream with
    | some r => s.finalize slot r reason
    | none => s

/-- Rendition leaves whose source leaves are all chained (R22). -/
def State.sourcesChained (s : State) (l : Leaf) : Bool :=
  l.srcs.all (fun q => q.2.1 == 0xFFFFFFFF || (s.chained q.1 q.2.2 q.2.1).isSome)

/-- Take the head of the awaiting leaves if it may be chained now: final, and for a rendition all its sources chained (R19, R22). -/
def State.chainReadyFuel (slot : Nat) : Nat → State → State
  | 0, s => s
  | fuel + 1, s =>
    match (s.slot slot).await with
    | l :: rest =>
      if l.final && s.sourcesChained l then
        State.chainReadyFuel slot fuel ((s.setSlot slot { s.slot slot with await := rest }).chainOne slot l)
      else s
    | [] => s

/-- Chain every leaf of a slot that may be chained. -/
def State.chainReady (s : State) (slot : Nat) : State := State.chainReadyFuel slot (s.slot slot).await.length s

/-- Chain what may be chained in every rendition, after an original's leaves were chained (R22). -/
def State.chainRenditions (s : State) : State :=
  (s.seals.slots.filter (fun q => decide (1024 ≤ q.1))).foldl (fun t q => t.chainReady q.1) s

/-- Chain the first n awaiting leaves of an original as they stand (R19, R20, R26). -/
def State.chainForced (slot : Nat) : Nat → State → State
  | 0, s => s
  | n + 1, s => match (s.slot slot).await with
    | l :: rest => State.chainForced slot n ((s.setSlot slot { s.slot slot with await := rest }).chainOne slot l)
    | [] => s

/-- Leaves awaiting chaining on hash engine k: context n, and rendition n, hash on HE(n mod 4) (R122; rendition: log entry 12). -/
def State.pendOn (s : State) (k : Nat) : Nat :=
  sumNat ((s.seals.slots.filter (fun q => q.1 % 4 == k)).map (fun q => q.2.await.length))

/-- P: the largest number on one engine (R299). -/
def State.pendMax (s : State) : Nat := max (max (s.pendOn 0) (s.pendOn 1)) (max (s.pendOn 2) (s.pendOn 3))

/-- A leaf joins the leaves awaiting chaining; ISA_PEND.PEAK follows (R316). -/
def State.awaitLeaf (s : State) (slot : Nat) (l : Leaf) : State :=
  let s1 := s.setSlot slot { s.slot slot with await := (s.slot slot).await ++ [l] }
  let p := min 65535 s1.pendMax
  if s1.regF Reg.ISA_PEND 16 16 < p then s1.setRegF Reg.ISA_PEND 16 16 p else s1

/-- Place a signed seal: DERIV and SEAL in the ream's last sheet, which carries LAST (R284, R291, R292). -/
def State.placeSeal (s : State) (j : SealJob) (sig : Bytes) : State :=
  let recs := j.buf ++ (if j.deriv.isEmpty then [] else sheetRec 5 true true 0 j.deriv) ++ sheetRec 6 true true 0 (j.sealBytes ++ sig)
  (s.bump Reg.SEAL_SEALS).emitSheet j.slot j.serial j.sheetSeq j.leaves j.final true recs j.sheetMax

end Sys2Proof.Machine
end

