-- ==== Sys2Proof/Machine/Commit.lean ====
section
/-!
DEFINITION. The manifest (R302 to R306) and its commit to the journal memory (R307, R310, R314), shared by the power-fail sequence and
the entry to safe state.
-/
namespace Sys2Proof.Machine

/-! ## The manifest -/

/-- What a manifest entry is made from. -/
structure Entry where
  slot : Nat
  serial : Nat
  queued : Bool
  nsc : Bool
  reason : Nat
  leaves : Nat
  chain : Bytes
  sent : Option Nat
  deriving DecidableEq, Repr

/-- The 48 bytes of an entry (R303). -/
def Entry.bytes (e : Entry) : Bytes :=
  be 2 (slotKind e.slot * 2 ^ 15 + slotNumber e.slot)
    ++ be 1 ((if e.queued then 1 else 0) + (if e.nsc then 2 else 0) + (if e.sent.isNone then 4 else 0))
    ++ be 1 (if e.queued then e.reason else 0) ++ be 4 e.serial ++ be 4 e.leaves ++ e.chain ++ be 4 (e.sent.getD 0xFFFFFFFF)

/-- The entry of a closed ream whose seal is unsigned. -/
def SealJob.entry (j : SealJob) : Entry :=
  { slot := j.slot, serial := j.serial, queued := true, nsc := j.nsc, reason := j.reason, leaves := j.leaves, chain := j.final,
    sent := j.sent }

/-- The seal that an engine is signing. -/
def SignWork.job? : Option SignWork → List SealJob
  | some (.seal j) => [j]
  | _ => []

/-- Every ream with an entry: open with a leaf chained, or closed with its seal unsigned (R302). -/
def State.entries (s : State) : List Entry :=
  s.seals.slots.filterMap (fun q => match q.2.ream with
    | some r => if r.leaves = 0 then none else
        some { slot := q.1, serial := r.hdr.serial, queued := false, nsc := r.nsc, reason := 0, leaves := r.leaves, chain := r.h,
               sent := r.sent }
    | none => none)
  ++ (s.seals.queue ++ SignWork.job? s.seals.se0 ++ SignWork.job? s.seals.se1).map SealJob.entry

/-- Class of an entry: open originals, queued originals, open renditions, queued renditions (R304). -/
def Entry.cls (e : Entry) : Nat := 2 * slotKind e.slot + (if e.queued then 1 else 0)

/-- The order of R304. -/
def Entry.le (a b : Entry) : Bool := !keyLess [b.cls, slotNumber b.slot, b.serial] [a.cls, slotNumber a.slot, a.serial]
where
  /-- lexicographic order -/
  keyLess : List Nat → List Nat → Bool
    | x :: xs, y :: ys => decide (x < y) || (x == y && keyLess xs ys)
    | _, _ => false

/-- Bytes of the journal memory (R316: 2^SIZE Mbit). -/
def State.journalBytes (s : State) : Nat := 2 ^ s.cfgF Reg.ISA_JRN_CFG 3 4 * 131072

/-- CAP of R304. -/
def State.manifestCap (s : State) : Nat := (s.journalBytes - 736) / 48

/-- One level of the Merkle tree: pairs joined, a node without a partner passes unchanged (R305). -/
def merkleLevel : List Bytes → List Bytes
  | a :: b :: t => sha256 ([1#8] ++ a ++ b) :: merkleLevel t
  | t => t

/-- Levels until one node remains. -/
def merkleFuel : Nat → List Bytes → Bytes
  | 0, t => t.headD (zeros 32)
  | fuel + 1, t => match t with
    | [] => zeros 32
    | [x] => x
    | _ => merkleFuel fuel (merkleLevel t)

/-- ROOT over the entries (R305). -/
def merkleRoot (es : List Bytes) : Bytes := merkleFuel 32 (es.map (fun e => sha256 ([0#8] ++ e)))

/-- MANIFEST_SERIAL of the next manifest (R306). -/
def State.manifestSerial (s : State) : Nat := (s.reg Reg.GLB_BOOT_COUNT).toNat % 65536 * 65536 + s.power.made % 65536

/-- The 128-byte header (R306). -/
def State.manifestHeader (s : State) (cause : Nat) (lost : Bool) (count omitted : Nat) : Bytes :=
  let t := s.taiNs
  be 4 0x4B4A4D46 ++ be 1 1 ++ be 1 cause ++ be 2 (if lost then 1 else 0) ++ deviceIdBytes ++ be 4 (s.reg Reg.GLB_BOOT_COUNT).toNat
    ++ be 4 s.manifestSerial ++ be 6 (t / 1000000000) ++ be 4 (t % 1000000000) ++ be 1 s.quality ++ be 1 0 ++ be 4 s.epoch ++ s.digest
    ++ be 2 count ++ be 2 omitted ++ s.keyId ++ zeros 20

/-- The ports whose link is up at the freeze will send the manifest (R310). -/
def State.markSteady (s : State) : State := (List.range 4).foldl (fun t p => t.setPort p { t.port p with steady := s.linkUp p }) s

/-- Header, entries and ROOT of a manifest are fixed at the freeze (R299 steps 3 and 4). -/
def State.freeze (s : State) (cause : Nat) : State :=
  let all := sortBy Entry.le s.entries
  let kept := all.take s.manifestCap
  let bytes := kept.map Entry.bytes
  let head := s.manifestHeader cause false kept.length (all.length - kept.length)
  { s with power := { s.power with
      phase := .signing
      body := head ++ bytes.flatten
      root := merkleRoot bytes
      entries := kept.map (fun e => (e.slot, (s.reg Reg.GLB_BOOT_COUNT).toNat * 2 ^ 32 + e.serial % 2 ^ 32, e.chain)) } }

/-- Chain every leaf that is hashed and not yet chained: originals first, then renditions (R26, R301). -/
def State.chainAll (s : State) : State :=
  let s1 := (s.seals.slots.filter (fun q => decide (q.1 < 1024))).foldl (fun t q => State.chainForced q.1 q.2.await.length t) s
  let s2 := s1.chainRenditions
  -- what is left in a rendition cannot be chained: its encode or a source has not completed
  (s2.seals.slots.filter (fun q => decide (1024 ≤ q.1))).foldl (fun t q => t.setSlot q.1 { t.slot q.1 with await := [] }) s2

/-- A signature in progress for a seal will be discarded (R286). -/
def discardWork : Option SignWork → Option SignWork
  | some (.seal _) => some .discarded
  | w => w

/-- Steps 2 to 5 of a commit: chain, freeze, build, and give the manifest to a signature engine. Seals unsigned at the freeze stay
unsigned (R286). -/
def State.commitChains (s : State) (cause : Nat) : State :=
  let s1 := s.chainAll.markSteady.freeze cause
  { s1 with seals := { s1.seals with queue := [], se0 := discardWork s1.seals.se0, se1 := discardWork s1.seals.se1 } }.startSign

/-- A commit record (R307). -/
def commitRecord (state serial length : Nat) (mfHash : Bytes) : Bytes :=
  be 4 0x4B4A4352 ++ be 1 state ++ zeros 3 ++ be 4 serial ++ be 4 length ++ mfHash ++ zeros 16

/-- The three parts of the journal write, with their offsets (R307). -/
def journalParts (serial : Nat) (m : Bytes) : List (Nat × Bytes) :=
  let h := sha256 m
  [(0x100, commitRecord 0xA5 serial m.length h), (0x200, m), (0x100, commitRecord 0x5A serial m.length h)]

/-- Write bytes into the journal memory. -/
def writeJournal (j : Tab Byte) (off : Nat) : Bytes → Tab Byte
  | [] => j
  | b :: t => writeJournal (tput (fun _ => 0#8) j off b) (off + 1) t

/-- Read bytes of the journal memory. What was never written reads 0 (log entry 4). -/
def readJournal (j : Tab Byte) (off n : Nat) : Bytes := (List.range n).map (fun i => tget (fun _ => 0#8) j (off + i))

/-- Each steady port gets its list of segments; EGRESS_SELECT serves the ports in ascending order, segment by segment (R310). -/
def State.loadSegments (s : State) (m : Bytes) : State :=
  (List.range 4).foldl (fun t p => if (s.port p).steady then
    t.setPort p { t.port p with segs := s.manifestFrames p (fieldAt 20 4 m) 0 m, segSent := 0 } else t) s

/-- The manifest is signed: the journal write and the sending start (R299 step 6, R306, R310). -/
def State.manifestSigned (s : State) : State :=
  let sig := ecdsaSign (s.seals.bootKey.getD 0) (sha256 (s.power.body.take 128 ++ s.power.root))
  let m := s.power.body ++ s.power.root ++ sig
  let s1 := { s with power := { s.power with phase := .writing, sig, made := s.power.made + 1,
                                             parts := journalParts (fieldAt 20 4 m) m } }
  s1.loadSegments m

/-- The commit record reads VALID (R299 step 7, R314). -/
def State.commitDone (s : State) : State :=
  let j := s.power.parts.foldl (fun j q => writeJournal j q.1 q.2) s.power.journal
  let s1 := { s with power := { s.power with phase := .done, parts := [], journal := j } }
  s1.setRegF Reg.ISA_STATUS 0 3 (if s.power.failing then 2 else 3)

/-- Is there something to commit with: the per-boot key exists, and the device is not in maintenance mode (R312, R517)? -/
def State.canCommit (s : State) : Bool := s.seals.bootKey.isSome && !s.maintenance

/-- MANIFEST_SIGNED: the engine that holds the manifest finishes (R299 step 6). -/
def execManifestSigned (s : State) : Host.Outcome State Fault Refusal :=
  if s.power.phase ≠ .signing then .next s
  else if s.seals.se0 = some .manifest then .next ((s.manifestSigned.setSe 0 none).startSign)
  else if s.seals.se1 = some .manifest then .next ((s.manifestSigned.setSe 1 none).startSign)
  else .next s

end Sys2Proof.Machine
end

