-- ==== Sys2Proof/Machine/Felt.lean ====
section
/-!
DEFINITION. Byte memory by DMA address (R372, R352) and the felt pools (R362 to R370), without the reactions to a bad free.
-/
namespace Sys2Proof.Machine

/-! ## Byte memory -/

/-- What a byte that nothing has written reads as: DRAM is filled with zero lines before its first access (R352); packet memory and unit
SRAM read 0 (DESIGN CHOICE, log entry 4). -/
def memDefault (_ : Nat) : Byte := 0#8

/-- A byte of memory. -/
def State.byteAt (s : State) (a : Nat) : Byte := tget memDefault s.mem.cells a

/-- Write a byte of memory. -/
def putByte (m : List (Nat × Byte)) (a : Nat) (b : Byte) : List (Nat × Byte) := tput memDefault m a b

/-- Write a byte string from an address. -/
def putBytes (m : List (Nat × Byte)) (a : Nat) : Bytes → List (Nat × Byte)
  | [] => m
  | b :: t => putBytes (putByte m a b) (a + 1) t

/-- The canonical form of memory. -/
abbrev Memory.wf (m : List (Nat × Byte)) : Prop := twf memDefault m = true

/-- Is the address a DRAM address by R372? -/
def isDram (a : Nat) : Bool := decide (a < 2 ^ 37)

/-- Usable 1 MiB chunks of DRAM: every chunk above the reserved one (R337, R352). -/
def State.memChunks (s : State) : Nat :=
  (if s.cfgBit Reg.GLB_MEM_CFG 2 then 4 else 8) * 4 * (1024 * 2 ^ s.cfgF Reg.GLB_MEM_CFG 3 2) - 1

/-- GLB_MEM_FILL from the filled chunks (R361). -/
def State.showFill (s : State) : State :=
  let n := s.mem.filled.length
  let m := max 1 s.memChunks
  s.setReg Reg.GLB_MEM_FILL (BitVec.ofNat 32 (min 100 (100 * n / m) + (if m ≤ n then 128 else 0)))

/-- A chunk is filled with zero lines, with valid checks (R352). A filled chunk, the reserved one and an address outside DRAM are left. -/
def State.fillChunk (s : State) (c : Nat) : State :=
  if c = 0 ∨ s.memChunks < c ∨ tget (fun _ => false) s.mem.filled c = true then s else
  { s with mem := { s.mem with
      cells := s.mem.cells.filter (fun q => q.1 / 2 ^ 20 != c)
      poison := s.mem.poison.filter (fun q => q.1 / 8192 != c)
      filled := tput (fun _ => false) s.mem.filled c true } }.showFill

/-- The chunks that an access touches are filled first (R352). -/
def State.touch (s : State) (a n : Nat) : State :=
  if n = 0 then s else
  let c := a / 2 ^ 20
  ((List.range ((a + n - 1) / 2 ^ 20 + 1 - c)).map (c + ·)).foldl State.fillChunk s

/-- Lines that a write of `n` bytes from an address covers only in part: the first and the last at most. -/
def partLines (a n : Nat) : List Nat :=
  if n = 0 then [] else
  let f := a / 128
  let l := (a + n - 1) / 128
  (if f = l then [f] else [f, l]).filter (fun k => !decide (a ≤ 128 * k ∧ 128 * k + 128 ≤ a + n))

/-- Store bytes from an address: chunks are filled first, and the poison marks of the lines written whole clear (R342). -/
def State.putMem (s : State) (a : Nat) (b : Bytes) : State :=
  let s1 := s.touch a b.length
  { s1 with mem := { s1.mem with
      cells := putBytes s1.mem.cells a b
      poison := if s1.mem.poison.isEmpty || b.isEmpty then s1.mem.poison
        else s1.mem.poison.filter (fun q => !decide (a ≤ 128 * q.1 ∧ 128 * q.1 + 128 ≤ a + b.length)) } }

/-- Bytes of memory from an address. -/
def State.getMem (s : State) (a n : Nat) : Bytes := (List.range n).map (fun i => s.byteAt (a + i))

/-- Address of packet memory (R372). -/
def pmBase : Nat := 0x8000000000

/-- Does the DRAM line at an address carry the poison mark (R342)? -/
def State.lineMarked (s : State) (a : Nat) : Bool := isDram a && tget (fun _ => false) s.mem.poison (a / 128)

/-- Is some byte of the range on a line with the poison mark? -/
def State.rangeMarked (s : State) (a n : Nat) : Bool :=
  isDram a && decide (0 < n) && (s.mem.poison.any (fun q => q.2 && decide (a / 128 ≤ q.1 ∧ q.1 ≤ (a + n - 1) / 128)))

/-- Set or clear the poison mark of a line. -/
def State.markLine (s : State) (line : Nat) (m : Bool) : State :=
  { s with mem := { s.mem with poison := tput (fun _ => false) s.mem.poison line m } }

/-- Data capacity of the installed devices in MiB (R333): ports × four data channels × density. -/
def State.memMib (s : State) : Nat :=
  (if s.cfgBit Reg.GLB_MEM_CFG 2 then 4 else 8) * 4 * (1024 * 2 ^ s.cfgF Reg.GLB_MEM_CFG 3 2)

/-- Base of the system region in MiB (R437). -/
def State.sysBase (s : State) : Nat := s.regF Reg.GLB_SYS_BASE_LO 20 12 + s.regF Reg.GLB_SYS_BASE_HI 0 5 * 4096

/-! ## Felt pools -/

/-- Buffer size of a pool (R362). -/
def poolSize (p : Nat) : Nat :=
  if p = 0 then 256 else if p = 1 then 2048 else if p = 2 then 10240 else if p = 3 then 65536 else if p = 4 then 2 ^ 20
  else if p = 5 then 2 ^ 22 else if p = 6 then 2 ^ 23 else 2 ^ 25

/-- A pool's effective count. -/
def State.poolCount (s : State) (p : Nat) : Nat := s.cfgF (Reg.FP_COUNT p) 0 22

/-- Where a pool begins: FP0 to FP2 are packed in packet memory, the others lie at BASE (R362, R364). -/
def State.poolBase (s : State) (p : Nat) : Nat :=
  if p < 3 then pmBase + sumNat ((List.range p).map (fun q => s.poolCount q * poolSize q))
  else (s.cfg (Reg.FP_BASE_LO p)).toNat + s.cfgF (Reg.FP_BASE_HI p) 0 5 * 2 ^ 32

/-- A buffer handle (R365). -/
def handleOf (p i : Nat) : Nat := 2 ^ 31 + p * 2 ^ 21 + i % 2 ^ 21

/-- Pool and index of a handle. -/
def handlePool (h : Nat) : Nat := h / 2 ^ 21 % 8
def handleIndex (h : Nat) : Nat := h % 2 ^ 21

/-- Is the handle bad (R365)? -/
def State.badHandle (s : State) (h : Nat) : Bool :=
  h / 2 ^ 31 % 2 == 0 || h / 2 ^ 24 % 128 != 0 || decide (s.poolCount (handlePool h) ≤ handleIndex h)

/-- Address of a buffer. -/
def State.bufAddr (s : State) (h : Nat) : Nat := s.poolBase (handlePool h) + handleIndex h * poolSize (handlePool h)

/-- A pool. -/
def State.pool (s : State) (p : Nat) : Pool := tget (fun _ => {}) s.pools p

/-- Replace a pool. -/
def State.setPool (s : State) (p : Nat) (x : Pool) : State := { s with pools := tput (fun _ => {}) s.pools p x }

/-- Owner of a buffer: none while it is free. -/
def State.ownerOf (s : State) (h : Nat) : Option Nat :=
  match tget (fun _ => 0) (s.pool (handlePool h)).owner (handleIndex h) with
  | 0 => none
  | a + 1 => some a

/-- Take the head of a pool's FIFO: the never-allocated indices in ascending order, then the freed ones (R367). -/
def State.takeBuf (s : State) (agent p : Nat) : Option (Nat × State) :=
  let x := s.pool p
  let go := fun (i : Nat) (x' : Pool) =>
    let x2 := { x' with owner := tput (fun _ => 0) x'.owner i (agent + 1) }
    let f := s.regF (Reg.FP_FREE p) 0 22 - 1
    let s1 := (s.setPool p x2).setReg (Reg.FP_FREE p) (BitVec.ofNat 32 f)
    let s2 := if f < s1.regF (Reg.FP_LOW p) 0 22 then s1.setReg (Reg.FP_LOW p) (BitVec.ofNat 32 f) else s1
    some (handleOf p i, s2.bump (Reg.FP_ALLOCS p))
  if x.fresh < s.poolCount p then go x.fresh { x with fresh := x.fresh + 1 }
  else match x.freed with
    | i :: t => go i { x with freed := t }
    | [] => none

/-- Follow the fallback chain, which always rises (R368). -/
def State.allocFuel (agent : Nat) : Nat → Nat → State → Option (Nat × State)
  | 0, _, _ => none
  | fuel + 1, p, s =>
    match s.takeBuf agent p with
    | some r => some r
    | none =>
      let q := s.cfgF (Reg.FP_CFG p) 0 3
      if s.cfgBit (Reg.FP_CFG p) 3 && decide (p < q) then State.allocFuel agent fuel q s else none

/-- ALLOC: a handle, or the null handle 0 (R366, R368). -/
def State.alloc (s : State) (agent p : Nat) : Nat × State :=
  match State.allocFuel agent 8 p s with
  | some (h, s1) => (h, if handlePool h = p then s1 else s1.bump (Reg.FP_FALLBACKS p))
  | none => (0, s.bump (Reg.FP_EMPTY p))

/-- Put a buffer back at the tail of its pool. -/
def State.release (s : State) (h : Nat) : State :=
  let p := handlePool h
  let i := handleIndex h
  let x := s.pool p
  let s1 := s.setPool p { x with owner := tput (fun _ => 0) x.owner i 0, freed := x.freed ++ [i] }
  (s1.setReg (Reg.FP_FREE p) (BitVec.ofNat 32 (s1.regF (Reg.FP_FREE p) 0 22 + 1))).bump (Reg.FP_FREES p)

/-- How a FREE or GIVE came out: done, or a kind of FP_LAST_INFO with the owner found (R369, R370). -/
inductive FeltResult
  | done
  | bad (kind owner : Nat)
  deriving DecidableEq, Repr

/-- Record a refused FREE or GIVE. -/
def State.feltLast (s : State) (h kind agent owner : Nat) (give : Bool) : State :=
  let info := kind + agent * 2 ^ 8 + owner * 2 ^ 16 + (if give then 2 ^ 24 else 0)
  let s1 := (s.setReg Reg.FP_LAST_HANDLE (BitVec.ofNat 32 h)).setReg Reg.FP_LAST_INFO (BitVec.ofNat 32 info)
  if kind = 1 then s1.bump (Reg.FP_DOUBLE_FREE (handlePool h))
  else if kind = 2 then s1.bump (Reg.FP_FOREIGN_FREE (handlePool h))
  else s1.bump Reg.FP_BAD_HANDLE

/-- FREE, or GIVE to an agent, by a sender (R366, R369, R370); a reserved receiver becomes 0xB8 (R14). -/
def State.freeOrGive (s : State) (agent h : Nat) (give : Option Nat) : FeltResult × State :=
  if s.badHandle h then (.bad 3 0, s.feltLast h 3 agent 0 give.isSome)
  else match s.ownerOf h with
    | none => (.bad 1 0, s.feltLast h 1 agent 0 give.isSome)
    | some o =>
      if o ≠ agent then (.bad 2 o, s.feltLast h 2 agent o give.isSome)
      else match give with
        | none => (.done, s.release h)
        | some a =>
          let p := handlePool h
          let x := s.pool p
          let a' := if agentReserved a then agIsaim else a
          (.done, s.setPool p { x with owner := tput (fun _ => 0) x.owner (handleIndex h) (a' + 1) })

/-- REHOME(a, b): every buffer of a becomes b's (R366). -/
def State.rehome (s : State) (a b : Nat) : State :=
  { s with pools := s.pools.map (fun q => (q.1, { q.2 with owner := q.2.owner.map (fun e => if e.2 = a + 1 then (e.1, b + 1) else e) })) }

/-- Free a buffer for the agent that owns it, as the sequencers do with the buffers of their slots (R143); the null handle is left. -/
def State.freeOwn (s : State) (h : Nat) : State :=
  if s.badHandle h then s else match s.ownerOf h with
    | some _ => s.release h
    | none => s

/-- The smallest pool of a range that holds a size. -/
def poolFor (lo size : Nat) : Nat := ((List.range 8).find? (fun p => decide (lo ≤ p) && decide (size ≤ poolSize p))).getD 7

/-- The sequencer that schedules a slot and owns its buffers (R143): the first in service, from the slot's number on (log entry 14). -/
def State.seqFor (s : State) (slot : Nat) : Nat :=
  match (List.range 8).find? (fun k => (s.seq ((slot + k) % 8)).inService) with
  | some k => agGs ((slot + k) % 8)
  | none => agGs (slot % 8)

end Sys2Proof.Machine
end

