-- ==== Sys2Proof/Machine/KtBase.lean ====
section
/-!
DEFINITION. KT sessions (R45 to R52): finding and changing them, windows and acknowledgements (R47 to R49, R99), and the messages to partners.
-/
namespace Sys2Proof.Machine

/-- Is it the session (class, partner, SESSION)? -/
def KtSess.is (x : KtSess) (cls partner id : Nat) : Bool := x.cls == cls && x.partner == partner && x.id == id

/-- An open session. -/
def State.sess (s : State) (cls partner id : Nat) : Option KtSess := s.net.sess.find? (fun x => x.is cls partner id)

/-- Replace a session. -/
def State.setSess (s : State) (x : KtSess) : State :=
  { s with net := { s.net with sess := s.net.sess.map (fun y => if y.is x.cls x.partner x.id then x else y) } }

/-- Remove a session. -/
def State.dropSess (s : State) (cls partner id : Nat) : State :=
  { s with net := { s.net with sess := s.net.sess.filter (fun y => !y.is cls partner id) } }

/-- Add a session. -/
def State.addSess (s : State) (x : KtSess) : State := { s with net := { s.net with sess := s.net.sess ++ [x] } }

/-- A session closed by CLOSE_ACK within the last 60 s (R51). -/
def State.closedSess (s : State) (cls partner id : Nat) : Option KtClosed :=
  s.net.closed.find? (fun x => x.cls == cls && x.partner == partner && x.id == id && decide (s.now < x.expires))

/-- The open session of a context or rendition. -/
def State.sessOf (s : State) (cls target : Nat) : Option KtSess := s.net.sess.find? (fun x => x.cls == cls && x.target == target)

/-- Send a reply of a session. -/
def State.ktReply (s : State) (partner cls type id seq : Nat) (body : Bytes) : State :=
  s.toPartner partner .ktReply (ktBytes cls type 0 id seq body)

/-- Send ABORT (R52). Its header SEQ is not in the manual: 0. DESIGN CHOICE (log entry 92). -/
def State.sendAbort (s : State) (partner cls id reason : Nat) : State := s.ktReply partner cls 7 id 0 (be 1 reason ++ zeros 3)

/-! ## Windows (R48, R99) -/

/-- Burst of a session's byte bucket, in bytes. -/
def KtSess.burst (x : KtSess) : Nat := max (x.rate / 10) 65536

/-- The bucket's content at a tick: bytes × 250,000,000. `rate` is r_b in bytes per second. -/
def KtSess.tokens (x : KtSess) (now : Nat) : Int :=
  min ((x.burst * 250000000 : Nat) : Int) (x.bucket.tok + ((x.rate * (now - x.bucket.last) : Nat) : Int))

/-- The third term of R48 (R99, R104). It does not apply to MASK sessions. -/
def State.paceTerm (s : State) (x : KtSess) : Nat :=
  if x.cls = clsMask then 65535
  else if x.pausedAt.isSome then 0
  else
    let c := if x.maxLen = 0 then s.ptnMaxPayload x.partner else x.maxLen
    (x.tokens s.now / ((max c 1 * 250000000 : Nat) : Int)).toNat

/-- Free receive buffers: those of FP1 and FP2 (DEDUCED, log entry 16). -/
def State.freeRx (s : State) : Nat := s.regF (Reg.FP_FREE 1) 0 22 + s.regF (Reg.FP_FREE 2) 0 22

/-- WINDOW (R48): the smallest of the three terms; NEXT + WINDOW never moves backwards. -/
def State.window (s : State) (x : KtSess) : Nat :=
  max (min (min (s.cfgF Reg.GLB_KT_CFG 0 9) s.freeRx) (s.paceTerm x)) (x.edge - x.next)

/-- SACK (R47). -/
def KtSess.sack (x : KtSess) : Nat := sumNat ((List.range 64).map (fun i => if x.held.any (fun c => c.seq == x.next + 1 + i) then 2 ^ i else 0))

/-- Send an ACK now (R47, R49). -/
def State.ackNow (s : State) (x : KtSess) : State :=
  let w := s.window x
  let x1 := { x with
    ackSeq := x.ackSeq + 1
    edge := x.next + w
    unacked := 0
    zeroAt := if w = 0 then some (s.now + msT 50) else none }
  (s.setSess x1).ktReply x.partner x.cls 4 x.id x1.ackSeq (be 4 x.next ++ be 2 w ++ zeros 2 ++ be 8 x.sack)

/-- The end of a mask session (R261, R267): CMP_STATUS.MASK_OPEN and CMP_TRACK_ID clear. -/
def State.maskGone (s : State) (n : Nat) : State := (s.setRegBit (Reg.CMP_STATUS n) 0 false).setReg (Reg.CMP_TRACK_ID n) 0#32

/-- A rendition that returns to FREE ends its mask session with ABORT reason 6 (R261). -/
def State.abortMaskOf (s : State) (n : Nat) : State := match s.sessOf clsMask n with
  | some x => ((s.dropSess x.cls x.partner x.id).sendAbort x.partner x.cls x.id 6).maskGone n
  | none => s

end Sys2Proof.Machine
end

