-- ==== Sys2Proof/Machine/Std.lean ====
section
/-!
DEFINITION. What the coding standards fix and this manual does not repeat (ITU-T H.264, H.265 and T.81): uninterpreted functions of
exactly the inputs that the manual names (log entry 13). No proof can see what they answer.
-/
namespace Sys2Proof.Config
open Sys2Proof.Machine

/-- The SPS that an access unit's slices use, or the last active one: from codec, parameter sets held, NAL units. -/
opaque seqInfo : Nat → List Bytes → List Bytes → Option SeqInfo

/-- The same of the frame header of a JPEG interchange file. -/
opaque jpegInfo : Bytes → Option SeqInfo

/-- Of a JPEG interchange file: where its entropy-coded data starts, and its restart interval in MCUs (0: none). -/
opaque jpegScan : Bytes → Nat × Nat

/-- MCUs that an entropy-coded segment yields, each with its luma, Cb and Cr samples, and whether a Huffman decoding error ends it. -/
structure JpegMcus where
  mcus : List (List (List Nat)) := []
  error : Bool := false
  deriving Inhabited

/-- Decode of one restart interval (ITU-T T.81): from the headers and tables before it, its data, and the number of its MCUs. -/
opaque jpegMcus : Bytes → Bytes → Nat → JpegMcus

/-- Kind and identifier of a parameter set: the key under which a context keeps it (R127). -/
opaque setKey : Nat → Bytes → Nat

/-- What decode learns of one slice segment (R164, R165). -/
structure Slice where
  /-- its header parses -/
  parsed : Bool := false
  /-- it refers to a parameter set that is not held (R128) -/
  noSet : Bool := false
  /-- it holds a syntax error of R165, the address order apart -/
  bad : Bool := false
  /-- an H.265 dependent slice segment -/
  dependent : Bool := false
  /-- first and last address of its coding tree units or macroblocks, in decoding order -/
  first : Nat := 0
  last : Nat := 0
  /-- the 16×16 blocks it covers, in decoding order -/
  blocks : List Nat := []
  deriving Inhabited

/-- A slice segment, from codec, parameter sets held and its NAL unit. -/
opaque slice : Nat → List Bytes → Bytes → Slice

/-- A reference that decode may read: buffer number, picture order count, mark, frame_num, LongTermFrameIdx, stand-in, and its
samples by block. -/
structure Ref where
  buf : Nat
  poc : Int
  mark : RefMark
  frameNum : Int
  ltIdx : Nat
  standIn : Bool
  blocks : List (List (List Nat))
  motion : List Bytes
  deriving Inhabited

/-- What the decoding process is given: codec, parameter sets, slice NAL units to decode, references (withheld blocks at mid-grey, R170),
whether decoding starts or restarts here (NoRaslOutputFlag), and the filled blocks. -/
structure DecIn where
  codec : Nat
  sets : List Bytes
  nals : List Bytes
  refs : List Ref
  restart : Bool
  /-- what the picture before it left (`DecOut.carry`) -/
  carry : Bytes
  filled : List Nat
  deriving Inhabited

/-- A prediction block: its place and size in luma samples, and per list the quarter-pel vector and the buffer referred to. -/
structure Pred where
  x : Nat := 0
  y : Nat := 0
  w : Nat := 0
  h : Nat := 0
  l0 : Option (Int × Int × Nat) := none
  l1 : Option (Int × Int × Nat) := none
  deriving Inhabited

/-- What the decoding process says of one block with decoded syntax. -/
structure Block where
  /-- luma, Cb and Cr samples before the in-loop filters -/
  planes : List (List Nat) := []
  /-- it is intra at the luma sample (8, 8) -/
  intra : Bool := false
  /-- the inter-predicted blocks in it -/
  preds : List Pred := []
  /-- blocks of the same picture that its intra prediction reads (R177) -/
  near : List Nat := []
  /-- collocated blocks that its temporal candidates come from (R177): buffer and block -/
  temporal : List (Nat × Nat) := []
  deriving Inhabited

/-- What a picture's slice headers say. -/
opaque start : DecIn → Start

/-- The picture order count of a frame that the H.264 gap process creates, by its frame_num. -/
opaque gapPoc : DecIn → Int → Int

/-- What a picture's decoding gives. -/
structure DecOut where
  blocks : List Block := []
  /-- marks after the picture: buffer, mark, frame_num, long-term index; and those of the picture itself -/
  marks : List (Nat × RefMark × Int × Nat) := []
  own : RefMark := .unused
  ownLt : Nat := 0
  /-- H.264 memory_management_control_operation 5: the picture order count that the picture has after it -/
  flush : Option Int := none
  carry : Bytes := []
  deriving Inhabited

/-- The decoding process over the blocks with decoded syntax (R136), before the in-loop filters. -/
opaque decode : DecIn → DecOut

/-- The standard's in-loop filters over a picture's blocks: deblocking on the given edges between blocks and inside the blocks that are not
left out; blocks left out keep their samples, take no SAO offset, and count as outside the picture for edge offsets (R171). -/
opaque loopFilter : DecIn → List (List (List Nat)) → List (Nat × Nat) → List Nat → List (List (List Nat))

/-- Sample access of a picture being coded: plane, x, y. -/
abbrev Samples := Nat → Nat → Nat → Nat

/-- What the encode of one picture is given besides its decisions (R192). -/
structure EncIn where
  /-- CODEC of R91: 0 H.264, 1 H.265 Main, 2 H.265 Main 10 -/
  codec : Nat
  /-- coded size, and the output size that cropping leaves (R188) -/
  w : Nat
  h : Nat
  outW : Nat
  outH : Nat
  fps : Nat
  idr : Bool
  index : Nat
  source : Samples
  /-- reconstructions that list 0 holds, the previous picture first (R185) -/
  refs : List Samples
  rp : Nat
  bufBits : Nat
  numRef : Nat

/-- How one coding unit is coded (R187, R204, R226): mode, with its merge candidate, or reference index and vector. -/
inductive CuMode
  | skip (cand : Nat)
  | merge (cand : Nat)
  | inter (ref : Nat) (mvx mvy : Int)
  | intra (mode : Nat)
  | forced
  deriving DecidableEq, Repr, Inhabited

/-- One coded unit: size and place in luma samples, mode, QP, and the quantised levels of its residual (none where it is coded without). -/
structure Cu where
  x : Nat
  y : Nat
  n : Nat
  mode : CuMode
  qp : Nat
  levels : List Int := []
  deriving DecidableEq, Repr, Inhabited

/-- A transform coefficient of a unit's residual before quantisation (R206): its value, and the standard's scale and quantiser shift at the unit's QP. -/
structure Coeff where
  value : Int
  scale : Nat
  shift : Nat
  deriving Inhabited

/-- The standard's transform of a unit's residual, in coding order, after the units coded before it, with transform blocks of a size (R187). -/
opaque coeffs : EncIn → List Cu → Cu → Nat → List Coeff

/-- The bits that CABAC writes for further units of the slice after those coded, emulation prevention included. -/
opaque cuBits : EncIn → List Cu → List Cu → List Bool

/-- The end of the slice data after the last unit, its trailing bits included. -/
opaque endBits : EncIn → List Cu → List Bool

/-- Luma prediction of a mode for the next unit, after those coded; none where the standard offers no such candidate. -/
opaque encPred : EncIn → List Cu → Cu → Option (List Nat)

/-- Vector and reference index that a skipped or merged unit takes over, after the units coded before it. -/
opaque mergeMotion : EncIn → List Cu → Cu → Int × Int × Nat

/-- Reconstructed block (planes) of a picture, after the loop filter. -/
opaque encRecon : EncIn → List Cu → Nat → List (List Nat)

/-- The 64 quantised coefficients, in zigzag order, of the 8×8 block (bx, by) of a plane of an image of some size, with a quantisation table (ITU-T
T.81, which does not fix the precision of the transform or the samples past the image's edges). -/
opaque dctLevels : Samples → Nat → Nat → Nat → Nat → Nat → List Nat → List Int

end Sys2Proof.Config
end

