-- ==== Sys2Proof/Machine/Slots.lean ====
section
/-!
DEFINITION. Contexts and renditions: their states (R84 to R91), buffers (R142 to R146), output and candidates (R147, R235 to R237), the
closing of reams and slots (R86, R88, R106).
-/
namespace Sys2Proof.Machine

/-! ## Access -/

/-- Context n. -/
def State.ctx (s : State) (n : Nat) : CtxSt := tget (fun _ => {}) s.ctxs n
/-- Replace context n. -/
def State.setCtx (s : State) (n : Nat) (x : CtxSt) : State := { s with ctxs := tput (fun _ => {}) s.ctxs n x }
/-- Rendition n. -/
def State.rnd (s : State) (n : Nat) : RndSt := tget (fun _ => {}) s.rnds n
/-- Replace rendition n. -/
def State.setRnd (s : State) (n : Nat) (x : RndSt) : State := { s with rnds := tput (fun _ => {}) s.rnds n x }
/-- A coding unit, by agent ID. -/
def State.unit (s : State) (a : Nat) : UnitSt := tget (fun _ => {}) s.units a
/-- Replace a coding unit. -/
def State.setUnit (s : State) (a : Nat) (x : UnitSt) : State := { s with units := tput (fun _ => {}) s.units a x }

/-- CTX_STATUS.STATE: 0 FREE, 1 ADMITTING, 2 OPEN, 3 CLOSING (R84). -/
def State.cstate (s : State) (n : Nat) : Nat := s.regF (Reg.CTX_STATUS n) 0 2
def State.setCstate (s : State) (n v : Nat) : State := s.setRegF (Reg.CTX_STATUS n) 0 2 v
/-- CTX_STATUS.VSTATE. -/
def State.vstate (s : State) (n : Nat) : Nat := s.regF (Reg.CTX_STATUS n) 2 2
def State.setVstate (s : State) (n v : Nat) : State := s.setRegF (Reg.CTX_STATUS n) 2 2 v
/-- RND_STATUS.STATE. -/
def State.rstate (s : State) (n : Nat) : Nat := s.regF (Reg.RND_STATUS n) 0 2
def State.setRstate (s : State) (n v : Nat) : State := s.setRegF (Reg.RND_STATUS n) 0 2 v
/-- RND_STATUS.HALVED and PAUSED. -/
def State.halved (s : State) (n : Nat) : Bool := s.regBit (Reg.RND_STATUS n) 4
def State.paused (s : State) (n : Nat) : Bool := s.regBit (Reg.RND_STATUS n) 5
/-- RND_CFG.TYPE: 1 PROXY, 2 RELEASE, 3 MOSAIC. -/
def State.rtype (s : State) (n : Nat) : Nat := s.cfgF (Reg.RND_CFG n) 0 2

/-- GLB_ADM_STATE.SHED. -/
def State.shed (s : State) : Nat := s.regF Reg.GLB_ADM_STATE 0 3

/-- The effective verification limit in ticks (R102). -/
def State.limitT (s : State) (n : Nat) : Nat :=
  let v := s.cfgF (Reg.CTX_VERIFY n) 0 14
  msT (if s.vstate n = 1 then max v (s.cfgF Reg.GLB_ADM_DEFER 0 14) else v)

/-- CODEC and geometry of a context (R90). -/
def State.codec (s : State) (n : Nat) : Nat := s.regF (Reg.CTX_CFG n) 2 2
def State.maxW (s : State) (n : Nat) : Nat := s.regF (Reg.CTX_GEOM n) 0 13
def State.maxH (s : State) (n : Nat) : Nat := s.regF (Reg.CTX_GEOM n) 16 13
def State.maxFps (s : State) (n : Nat) : Nat := s.regF (Reg.CTX_RATE n) 0 13
def State.maxMbps (s : State) (n : Nat) : Nat := s.regF (Reg.CTX_RATE n) 16 9
/-- Output size of a rendition, and its effective frame rate (R216). -/
def State.outW (s : State) (n : Nat) : Nat := s.cfgF (Reg.RND_GEOM n) 0 13
def State.outH (s : State) (n : Nat) : Nat := s.cfgF (Reg.RND_GEOM n) 16 13
def State.outFps (s : State) (n : Nat) : Nat := s.cfgF (Reg.RND_RATE n) 0 13
def State.effFps (s : State) (n : Nat) : Nat := if s.halved n then s.outFps n / 2 else s.outFps n
/-- SRC0 of a rendition. -/
def State.src0 (s : State) (n : Nat) : Nat := s.cfgF (Reg.RND_SRC_A n) 0 10

/-! ## Leaves -/

/-- Change a leaf that awaits chaining. -/
def State.mapLeaf (s : State) (slot seq : Nat) (f : Leaf → Leaf) : State :=
  let x := s.slot slot
  s.setSlot slot { x with await := x.await.map (fun l => if l.seq = seq then f l else l) }

/-- A leaf's map is final: the leaf is chained when its turn has come, and the renditions that waited for it follow (R19, R20, R22). -/
def State.finalLeaf (s : State) (n seq : Nat) (bw bh : Nat) (runs : List (Nat × Nat)) : State :=
  ((s.mapLeaf n seq (fun l => if l.final then l else { l with bw, bh, runs, final := true })).chainReady n).chainRenditions

/-! ## Buffers (R143, R146) -/

/-- Does a rendition or a still that waits need the buffer of a context? A picture is being read from its output until its compositions
are done (log entry 15). -/
def State.isRead (s : State) (n gen buf : Nat) : Bool :=
  let hit := fun (p : PicInfo) => p.ctx == n && p.gen == gen && p.buf == buf
  let opt := fun (q : Option PicInfo) => match q with | some p => hit p | none => false
  s.rnds.any (fun r => r.2.wait.any (fun c => c.pics.any opt))
    || s.stills.any (fun t => t.rnd.isNone && hit t.pic)
    || (s.ctx n).shown.any hit

/-- Free the buffers of a context that nothing needs any more, and the scaled copies that no rendition needs (R146, R157). -/
def State.sweepBufs (s : State) (n : Nat) : State :=
  let x := s.ctx n
  let gen := s.generation n
  let idle := fun (b : FrameBuf) => !b.outPending && !s.isRead n gen b.pic.buf
  let gone := x.dpb.filter (fun b => idle b && b.mark == .unused)
  let copies := (x.dpb.filter idle).flatMap (fun b => b.pic.copies.map (fun c => c.2.2))
  let s1 := s.setCtx n { x with dpb := (x.dpb.filter (fun b => !(idle b && b.mark == .unused))).map (fun b =>
    if idle b then { b with pic := { b.pic with copies := [] } } else b) }
  (copies ++ gone.map (fun b => b.pic.handle)).foldl State.freeOwn s1

/-- No picture that a context still outputs arrived earlier: the arrival of the picture output last, or of one that waits for its output. -/
def CtxSt.nextArr (x : CtxSt) : Nat := ((x.dpb.filter (·.outPending)).map (·.pic.arr)).foldl min x.lastArr

/-- Pictures that tiles of mosaics may still show, opened or not (R237): those that arrived after the earliest T0 to come, and the latest
before. -/
def State.keepShown (s : State) (n : Nat) (l : List PicInfo) : List PicInfo :=
  let ms := (List.range 1024).filter (fun r => s.rtype r == 3 && ((s.rndSources r).drop 1).contains n)
  let bounds := ms.map (fun r =>
    let due := (s.rnd r).wait.filterMap (fun c => if c.tilesDone then none else match c.pics with
      | some p :: _ => some p.arr
      | _ => none)
    due.foldl min (if s.cstate (s.src0 r) = 2 then (s.ctx (s.src0 r)).nextArr else s.taiNs))
  match minNat? bounds with
  | none => []
  | some a => l.filter (fun p => decide (a < p.arr)) ++
      (match argMin? (fun p : PicInfo => a - p.arr) (l.filter (fun p => decide (p.arr ≤ a))) with
        | some p => [p]
        | none => [])

/-! ## Renditions: reams and closing -/

/-- The candidates whose composition has begun. -/
def RndSt.begun (r : RndSt) : List Cand := r.wait.takeWhile (·.begun)

/-- Nothing of the rendition is between composition and chaining. -/
def RndSt.drained (r : RndSt) : Bool := r.begun.isEmpty && r.ready.isEmpty && r.encUnit.isNone

/-- Close the open ream of a rendition (R106, R280): at once if no picture of it is in work, else after the last one. The next picture opens
a new ream with an IDR; candidates not yet in composition are numbered from 0 again (R236). -/
def State.endRndReam (s : State) (n reason : Nat) : State :=
  let r := s.rnd n
  let later := r.wait.drop r.begun.length
  let kept := if s.halved n then (later.zipIdx.filter (fun q => q.2 % 2 == 0)).map (·.1) else later
  let r1 := { r with candNo := later.length, wait := r.begun ++ kept }
  if r.drained then (s.setRnd n { r1 with ending := none, ream := none }).closeReam (rndSlot n) reason
  else s.setRnd n { r1 with ending := some (max reason (r.ending.getD 0)) }

/-- Buffers that a rendition holds. -/
def RndSt.handles (r : RndSt) : List Nat :=
  r.recon.map (·.handle) ++ (match r.surf with | some q => [q.2] | none => []) ++ r.ready.map (·.handle)
    ++ r.wait.map (·.handle) ++ (match r.encUnit with | some e => [e.cand.handle, e.handle] | none => [])

/-- Clear the counters of a rendition when it leaves FREE (R229, R267). -/
def State.clearRndCounters (s : State) (n : Nat) : State := (s.clearRegs (Reg.RC_OVERRUNS n) 8).clearRegs (Reg.CMP_PICTURES n) 14

/-- The fit of a source rectangle into a tile (R233): dst_x, dst_y, dst_w, dst_h. -/
def fitTile (tx ty tw th sw sh : Nat) : Nat × Nat × Nat × Nat :=
  let e := fun (v : Nat) => v / 2 * 2
  let wh := if sh * tw ≤ sw * th then (tw, e (tw * sh / max sw 1)) else (e (th * sw / max sh 1), th)
  (tx + e ((tw - wh.1) / 2), ty + e ((th - wh.2) / 2), wh.1, wh.2)

/-- The tiles of an output for n valid sources (R233). -/
def tilesOf (w h n : Nat) : List (Nat × Nat × Nat × Nat) :=
  let hw := w / 2 / 2 * 2
  let hh := h / 2 / 2 * 2
  if n ≤ 1 then [(0, 0, w, h)]
  else if n = 2 then [(0, 0, hw, h), (hw, 0, w - hw, h)]
  else [(0, 0, hw, hh), (hw, 0, w - hw, hh), (0, hh, hw, h - hh), (hw, hh, w - hw, h - hh)]

/-- The source numbers of a rendition with their contexts: valid ones in ascending order. -/
def State.validSources (s : State) (n : Nat) : List (Nat × Nat) :=
  ([(0, Reg.RND_SRC_A n, 0), (1, Reg.RND_SRC_A n, 16), (2, Reg.RND_SRC_B n, 0), (3, Reg.RND_SRC_B n, 16)]).filterMap (fun q =>
    if s.cfgBit q.2.1 (q.2.2 + 15) || (q.1 == 0 && s.rtype n == 1) then some (q.1, s.cfgF q.2.1 q.2.2 10) else none)

/-- The source rectangle of CMP_CROP words in the coded picture (R232): x, y, w, h. -/
def cropRect (xy wh : Word) (i : SeqInfo) : Nat × Nat × Nat × Nat :=
  let x := fld xy 0 13
  let y := fld xy 16 13
  let w := min (fld wh 0 13) (i.cropW - x)
  let h := min (fld wh 16 13) (i.cropH - y)
  if w = 0 ∨ h = 0 then (i.cropX, i.cropY, i.cropW, i.cropH) else (i.cropX + x, i.cropY + y, w, h)

/-- The side-scaler sizes that a rendition needs of a context (R155, R241): the destination size of each layer that shows it with the whole
cropping window as source rectangle. -/
def State.scalerNeeds (s : State) (r n : Nat) : List (Nat × Nat) :=
  let vs := s.validSources r
  match (s.ctx n).info with
  | some i => ((vs.zip (tilesOf (s.outW r) (s.outH r) vs.length)).filter (fun q => q.1.2 == n
      && cropRect (s.cfg (Reg.CMP_CROP_XY r q.1.1)) (s.cfg (Reg.CMP_CROP_WH r q.1.1)) i == (i.cropX, i.cropY, i.cropW, i.cropH))).map (fun q =>
        (fitTile q.2.1 q.2.2.1 q.2.2.2.1 q.2.2.2.2 i.cropW i.cropH).2.2)
  | none => []

/-- Assign a scaler of a context to a size (R155). -/
def State.assignScaler (n : Nat) (s : State) (z : Nat × Nat) : State :=
  let x := s.ctx n
  let i := x.info.getD {}
  if i.cropW < z.1 ∨ i.cropH < z.2 ∨ z.1 * 8 < i.cropW ∨ z.2 * 8 < i.cropH then s
  else if x.sc0 = none ∨ x.sc0 = some z then s.setCtx n { x with sc0 := some z }
  else if x.sc1 = none ∨ x.sc1 = some z then s.setCtx n { x with sc1 := some z }
  else s

/-- Assign the scalers that a rendition needs of a context, as it is admitted (R155). -/
def State.assignRnd (r : Nat) (s : State) (n : Nat) : State := (s.scalerNeeds r n).foldl (State.assignScaler n) s

/-- Assign scalers for the renditions admitted before a context's picture size was known (log entry 97). -/
def State.assignScalers (s : State) (n : Nat) : State :=
  ((s.renditions (· == 2)).filter (fun r => (s.rndSources r).contains n)).foldl (fun t r => t.assignRnd r n) s

/-- A context's scalers that no open rendition uses are released (R155). -/
def State.releaseScalers (s : State) (n : Nat) : State :=
  let rs := (s.renditions (fun st => st == 2 || st == 3)).filter (fun r => (s.rndSources r).contains n)
  let used := fun (q : Option (Nat × Nat)) => q.filter (fun z => rs.any (fun r => (s.scalerNeeds r n).contains z))
  let x := s.ctx n
  s.setCtx n { x with sc0 := used x.sc0, sc1 := used x.sc1 }

/-- A rendition returns to FREE (R84, R88, R89, R261): buffers, charges, state and mask session go, GENERATION rises. -/
def State.freeRnd (s : State) (n : Nat) : State :=
  let r := s.rnd n
  let s1 := (r.handles.foldl State.freeOwn s).abortMaskOf n
  let s2 := (s1.setRnd n {}).setSlot (rndSlot n) {}
  let s3 := (s2.setRstate n 0).setRegF (Reg.RND_STATUS n) 16 16 (s2.regF (Reg.RND_STATUS n) 16 16 + 1)
  let s4 := ((s3.setRegF (Reg.RND_STATUS n) 4 2 0).clearRegs (Reg.RND_CHARGE_ENC n) 3).setRegF (Reg.RND_PRESS n) 0 7 64
  (s.rndSources n).foldl (fun t c => (t.releaseScalers c).sweepBufs c) s4

/-- A rendition that is CLOSING, drained and sealed returns to FREE (R88). -/
def State.tryFreeRnd (s : State) (n : Nat) : State :=
  let x := s.slot (rndSlot n)
  if s.rstate n = 3 ∧ (s.rnd n).drained ∧ x.await.isEmpty ∧ x.ream.isNone then s.freeRnd n else s

/-- A rendition leaves OPEN (R88): candidates not yet in composition are dropped; the ream closes with reason 3 after its last picture. -/
def State.rndLeaveOpen (s : State) (n : Nat) : State :=
  if s.rstate n ≠ 2 then s else
  let r := s.rnd n
  let s1 := s.setRnd n { r with wait := r.begun }
  ((s1.setRstate n 3).endRndReam n 3).tryFreeRnd n

/-! ## Output and candidates -/

/-- Is the picture a candidate (R235)? The rendition after the decision, and whether it is. An anchor sets j to 0, and j changes when a later
picture is taken (log entry 98). -/
def RndSt.candidate (r : RndSt) (ts : Int) (fps : Nat) : RndSt × Bool :=
  let fresh := match r.anchor with
    | none => true
    | some _ => decide (ts < r.lastTs) || decide (r.lastTs + 900000 < ts)
  if fresh then ({ r with anchor := some ts, lastTs := ts, tickJ := 0 }, true)
  else
    let a := r.anchor.getD 0
    if 9000000 * r.tickJ ≤ (ts - a) * fps then ({ r with lastTs := ts, tickJ := (ts - a) * fps / 9000000 + 1 }, true)
    else (r, false)

/-- Offer a picture that SRC0 output to a rendition (R235, R236). -/
def State.offer (s : State) (n : Nat) (p : PicInfo) (ts : Int) : State :=
  if s.rstate n ≠ 2 ∨ s.paused n ∨ (s.rnd n).stopped then s else
  let q := (s.rnd n).candidate ts (s.outFps n)
  let r := q.1
  if !q.2 then s.setRnd n r
  else
    let r1 := { r with candNo := r.candNo + 1 }
    if s.halved n && r.candNo % 2 == 1 then s.setRnd n r1
    else
      let others := ((s.validSources n).drop 1).map (fun _ => (none : Option PicInfo))
      s.setRnd n { r1 with wait := r.wait ++ [{ pics := some p :: others, at_ := s.now, tilesDone := others.isEmpty }] }

/-- Tickets for a still of a source that wait for a picture, in ticket order (R209). -/
def State.stillTickets (s : State) (kind n : Nat) : List Nat :=
  (s.mgmt.tickets.filter (fun t => t.kind == 5 && !t.ready && !t.running && fieldAt 0 1 t.params == kind && fieldAt 2 2 t.params == n)).map
    (·.num)

/-- Change one ticket. -/
def State.mapTicket (s : State) (num : Nat) (f : Ticket → Ticket) : State :=
  { s with mgmt := { s.mgmt with tickets := s.mgmt.tickets.map (fun t => if t.num = num then f t else t) } }

/-- A picture for the stills that wait for it. -/
def State.giveStills (s : State) (kind n : Nat) (mk : Nat → Still) : State :=
  (s.stillTickets kind n).foldl (fun t k => { (t.mapTicket k (fun x => { x with running := true })) with stills := t.stills ++ [mk k] }) s

/-- A picture is output (R147): it is no longer output-pending and goes to the renditions that source the context. -/
def State.outputPic (s : State) (n buf : Nat) : State :=
  let x := s.ctx n
  match x.dpb.find? (fun b => b.pic.buf == buf) with
  | none => s
  | some b =>
    let p := b.pic
    let ts : Int := match x.lastTs with
      | none => (p.rtp : Int)
      | some (t32, t64) => t64 + signedOf 32 (p.rtp + 2 ^ 32 - t32 % 2 ^ 32)
    let s1 := s.setCtx n { x with
      dpb := x.dpb.map (fun c => if c.pic.buf = buf then { c with outPending := false } else c)
      lastTs := some (p.rtp, ts)
      lastArr := p.arr
      topArr := max p.arr x.topArr }
    let s2 := s1.giveStills 0 n (fun k => { ticket := k, pic := p, rnd := none, handle := p.handle, leafSeq := p.leafSeq, arr := p.arr, tq := p.tq })
    let s3 := ((s2.renditions (· == 2)).filter (fun r => (s2.rndSources r).head? == some n && s2.src0 r == n)).foldl
      (fun t r => t.offer r p ts) s2
    let y := s3.ctx n
    let s4 := s3.setCtx n { y with shown := s3.keepShown n (p :: y.shown) }
    -- contexts whose tiles waited for this one's time keep fewer pictures now
    s4.sweepBufs n

/-- Output every remaining picture in ascending picture order count (R147). -/
def State.outputAll (s : State) (n : Nat) : State :=
  let ps := sortBy (fun (a b : FrameBuf) => decide (a.pic.poc ≤ b.pic.poc)) ((s.ctx n).dpb.filter (·.outPending))
  ps.foldl (fun t b => t.outputPic n b.pic.buf) s

/-- The output process's bumping: output the picture with the lowest picture order count (R147). -/
def State.bumpOne (s : State) (n : Nat) : State :=
  match ((s.ctx n).dpb.filter (·.outPending)).foldl (fun (m : Option FrameBuf) b => match m with
    | none => some b
    | some c => if b.pic.poc < c.pic.poc then some b else m) none with
  | some b => s.outputPic n b.pic.buf
  | none => s

/-- Bump while a condition holds. -/
def State.bumpWhile (cond : CtxSt → Bool) (n : Nat) : Nat → State → State
  | 0, s => s
  | fuel + 1, s => if cond (s.ctx n) && (s.ctx n).dpb.any (·.outPending) then State.bumpWhile cond n fuel (s.bumpOne n) else s

/-! ## Contexts: closing -/

/-- Counters that clear when a context leaves FREE (R90, R112). -/
def State.clearCtxCounters (s : State) (n : Nat) : State := ((s.clearRegs (Reg.CTX_PIC_VERIFIED n) 10).clearRegs (Reg.ING_PKTS n) 22).clearRegs (Reg.HBX_POL_DROP_FRAMES n) 4

/-- A context returns to FREE (R84, R86, R89, R115, R127). -/
def State.freeCtx (s : State) (n : Nat) : State :=
  let x := s.ctx n
  let s1 := x.dpb.foldl (fun t b => (b.pic.copies.map (fun c => c.2.2)).foldl State.freeOwn (t.freeOwn b.pic.handle)) s
  let s2 := (s1.setCtx n {}).setSlot n {}
  let s3 := ((s2.setCstate n 0).setVstate n 0).setRegF (Reg.CTX_STATUS n) 16 16 (s2.regF (Reg.CTX_STATUS n) 16 16 + 1)
  (((s3.setRegF (Reg.ING_STATUS n) 0 2 0).setRegF (Reg.ING_STATUS n) 16 16 0).clearRegs (Reg.CTX_CHARGE_DEC n) 2).setRegF (Reg.CTX_PRESS n) 0 7 64

/-- A CLOSING context whose last leaf is chained and which no core decodes has decoded its last picture: pictures that still wait for a core are
dropped, and what is output-pending is output (R141, R147). -/
def State.lastPicture (s : State) (n : Nat) : State :=
  (s.setCtx n { s.ctx n with queue := [] }).outputAll n

/-- A CLOSING context after its last leaf is chained and its last picture done; it returns to FREE once its seal is made (R86, R141). -/
def State.tryFreeCtx (s : State) (n : Nat) : State :=
  let x := s.slot n
  if s.cstate n = 3 ∧ x.await.isEmpty ∧ (s.ctx n).busy.isNone then
    let s1 := s.lastPicture n
    if x.ream.isNone then s1.freeCtx n else s1
  else s

/-- Free what may be freed after chaining: CLOSING contexts and renditions. -/
def State.settleSlots (s : State) : State :=
  let s1 := (s.contexts (· == 3)).foldl State.tryFreeCtx s
  (s1.renditions (· == 3)).foldl State.tryFreeRnd s1

/-- Renditions follow a context that leaves OPEN (R88): its PROXY at once, the others when every source has left OPEN. -/
def State.rndsFollow (s : State) (n : Nat) : State :=
  ((s.renditions (· == 2)).filter (fun r => (s.rndSources r).contains n)).foldl (fun t r =>
    if s.rtype r = 1 ∨ (s.rndSources r).all (fun c => s.cstate c != 2) then t.rndLeaveOpen r else t) s

end Sys2Proof.Machine
end

