-- ==== Sys2Proof/Machine/Tickets.lean ====
section
/-!
DEFINITION. Tickets (R71 to R75): becoming READY, and the end of a cancelled operation.
-/
namespace Sys2Proof.Machine

/-- A ticket by number. -/
def State.ticket (s : State) (num : Nat) : Option Ticket := s.mgmt.tickets.find? (fun t => t.num == num)

/-- Drop a ticket. -/
def State.dropTicket (s : State) (num : Nat) : State :=
  { s with mgmt := { s.mgmt with tickets := s.mgmt.tickets.filter (fun t => t.num != num), cancelled := s.mgmt.cancelled.filter (· != num) } }

/-- A ticket's operation has ended: it becomes READY with its result, which is then fixed (R73); a cancelled ticket frees its place (R74). -/
def State.readyTicket (s : State) (num result : Nat) (data : Bytes) : State :=
  if s.mgmt.cancelled.contains num then s.dropTicket num
  else s.mapTicket num (fun t => if t.ready then t else { t with ready := true, running := false, result := result, data := data })

/-- A ticket's parameter field. -/
def Ticket.param (t : Ticket) (off len : Nat) : Nat := fieldAt off len t.params

end Sys2Proof.Machine
end

