-- ==== Sys2Proof/Machine/Clamp.lean ====
section
/-!
DEFINITION. How a field's illegal values become legal (R12, and the clamp column of every register table): the field's own rule. Rules that
tie several fields together are in Settle.lean.
-/
namespace Sys2Proof.Machine

/-- The legal value that a written value of a field becomes. -/
def Clamp.apply (c : Clamp) (v : Nat) : Nat := match c with
  | .any => v
  | .range lo hi => clampNat lo hi v
  | .above m x => if m < v then x else v
  | .zeroOr lo hi => if v = 0 then 0 else clampNat lo hi v
  | .even lo hi => clampNat lo hi v / 2 * 2
  | .ascii => beNat ((be 4 v).map (fun b => if 0x20 ≤ b.toNat ∧ b.toNat ≤ 0x7E then b else 0x20#8))
  | .signed m => (clampInt (-(m : Int)) m (signedOf 32 v) % (2 ^ 32 : Nat)).toNat
  | .orOne => v / 2 * 2 + 1

/-- A register with every RW field clamped; other bits are kept. -/
def clampFields (fs : List Field) (v : Word) : Word :=
  fs.foldl (fun w f => if f.acc == .rw then setFld w f.lo f.w (f.clamp.apply (fld w f.lo f.w)) else w) v

/-- A register's value with every RW field clamped by its own rule. -/
def clampReg (a : Nat) (v : Word) : Word := match findRow a with
  | some r => clampFields r.fields v
  | none => v

/-- Policer values derived with AUTO 1 (R322). -/
def State.settlePol (s : State) (n : Nat) : State :=
  if s.regBit (Reg.HBX_POL_CFG n) 1 then
    let m := s.regF (Reg.CTX_RATE n) 16 9
    (s.setRegF (Reg.HBX_POL_CIR n) 0 23 (1250 * m)).setRegF (Reg.HBX_POL_CBS n) 0 27 (250000 * m)
  else s

end Sys2Proof.Machine
end

