-- ==== Sys2Proof/Machine/Ingest.lean ====
section
/-!
DEFINITION. Ingest (05_ingest.md): the closing of access units into leaves, RTP reception, offload assembly, and how a context leaves OPEN.
-/
namespace Sys2Proof.Machine

/-! ## Access units -/

/-- An access unit as it closes. -/
structure AuIn where
  arr : Nat
  tq : Nat
  tick : Nat
  rtp : Nat
  bytes : Bytes
  /-- NAL units, each with the place in the unit bytes where it starts -/
  nals : List (Nat × Bytes)
  scan : List ScanPiece
  /-- the first JPEG payload header of RFC 2435 -/
  jhdr : Bytes
  missing : Bool
  offload : Bool

/-- Size and sampling from an RFC 2435 header: width and height in units of 8; type 0 is 4:2:2, type 1 is 4:2:0. -/
def jpegRtpInfo (h : Bytes) : SeqInfo :=
  let w := fieldAt 6 1 h * 8
  let v := fieldAt 7 1 h * 8
  { profile := 0xC0, w, h := v, depth := 8, chroma := if fieldAt 4 1 h % 64 = 0 then 2 else 1, cropW := w, cropH := v, fullRange := true }

/-- The parameter sets of a unit join the context's store (R127). -/
def storeSets (codec : Nat) (t : Tab Bytes) (nals : List Bytes) : Tab Bytes :=
  (nals.filter (fun x => isParamSet codec x && nalLayer codec x == 0 && !nalForbidden x)).foldl
    (fun t x => tput (fun _ => []) t (Config.setKey codec x) x) t

/-- Slices of the base layer (R131). -/
def slicesOf (codec : Nat) (nals : List Bytes) : List Bytes := nals.filter (fun x => isSlice codec x && nalLayer codec x == 0)

/-- Does a stream use a profile, level, format or tool that R130 does not accept? The codes are those of the standards (log entry 95). -/
def refusedTool (codec : Nat) (i : SeqInfo) (nals : List Bytes) : Bool :=
  if codec = 0 then
    !(i.profile == 77 || i.profile == 100 || (i.profile == 66 && i.constrained)) || decide (51 < i.level) || i.depth != 8 || i.chroma != 1
      || i.fields || i.fmo || i.aso || nals.any (fun x => decide (2 ≤ nalType 0 x ∧ nalType 0 x ≤ 4))
  else if codec = 1 then
    !(i.profile == 1 || i.profile == 2 || i.profile == 3) || decide (153 < i.level) || decide (10 < i.depth) || i.chroma != 1 || i.ext
  else i.profile != 0xC0 || i.depth != 8 || !(i.chroma == 1 || i.chroma == 2)

/-- The largest picture of a level: H.264 in macroblocks (table A-1), H.265 in luma samples (table A.8), by level_idc. -/
def levelSizes (codec : Nat) : List (Nat × Nat) :=
  if codec = 0 then [(9, 99), (11, 396), (21, 792), (22, 1620), (31, 3600), (32, 5120), (40, 8192), (42, 8704), (50, 22080), (51, 36864)]
  else [(30, 36864), (60, 122880), (63, 245760), (90, 552960), (93, 983040), (120, 2228224), (150, 8912896)]

/-- Coded width and height larger than the level allows: in area, or in one dimension beyond the root of 8 times the area. -/
def overLevel (codec : Nat) (i : SeqInfo) : Bool :=
  if codec = 2 then false else
  let top := ((levelSizes codec).filter (fun q => decide (q.1 ≤ i.level))).foldl (fun m q => max m q.2) 0
  let k := if codec = 0 then 16 else 1
  let w := ceilDiv i.w k
  let h := ceilDiv i.h k
  decide (top < w * h) || decide (8 * top < w * w) || decide (8 * top < h * h)

/-- What the checks of R130 and R132 say of a unit: the reason of a whole absent picture, and which counters count. -/
structure Verdict where
  reason : Option Nat
  unsupported : Bool
  overLimit : Bool
  refused : Bool
  noSet : Bool
  deriving DecidableEq, Repr

/-- The checks of a unit (R128, R130, R132, R163, R164). `win` are the units of the window, this one included. -/
def State.judgeAu (s : State) (n : Nat) (u : AuIn) (sets : List Bytes) (info : Option SeqInfo) (isPic : Bool)
    (win : List (Nat × Nat × Bool)) (vs : Nat) : Verdict :=
  let codec := s.codec n
  let i := info.getD {}
  let rate := isPic && decide (ceilDiv (s.maxFps n) 100 + 1 < (win.filter (fun q => q.2.2)).length)
  let bitrate := decide (s.maxMbps n * 250000 < sumNat (win.map (fun q => q.2.1)))
  let size := info.isSome && (decide (s.maxW n < i.w) || decide (s.maxH n < i.h) || (i.depth == 10 && !s.regBit (Reg.CTX_CFG n) 4))
  let big := decide (16777216 < u.bytes.length)
  let r5 := info.isSome && (refusedTool codec i (u.nals.map (·.2)) || decide (4096 < i.w) || decide (2304 < i.h) || overLevel codec i)
    || (codec == 2 && u.offload && !(fieldAt 0 2 u.bytes == 0xFFD8 && fieldAt (u.bytes.length - 2) 2 u.bytes == 0xFFD9))
  let zero := isPic && codec == 2 && !u.offload && (i.w == 0 || i.h == 0)
  let sl := (slicesOf codec (u.nals.map (·.2))).map (Config.slice codec sets)
  let noHead := codec != 2 && (u.missing || isPic) && !sl.any (·.parsed)
  { reason := if rate || bitrate || size || decide (2 ≤ vs) then some 7 else if r5 then some 5 else if zero then some 4
      else if noHead then some (if u.missing then 1 else 4) else none
    unsupported := r5
    overLimit := rate || bitrate || size || big
    refused := zero
    noSet := sl.any (·.noSet) }

/-- The boundary decision of R277 and R281: the header when the leaf starts a ream, and why the open one closes. -/
def State.boundary (s : State) (n arr : Nat) (rap leaving : Bool) : Option Nat × Bool :=
  match (s.ctx n).ream with
  | none => (none, true)
  | some h =>
    if leaving then (none, false)
    else if rap && decide (h.a1 + h.span * 1000000 ≤ arr) then (some 1, true)
    else if decide (h.a1 + h.maxSpan * 1000000 ≤ arr) then (some 2, true)
    else (none, false)

/-- Count once if the flag is set. -/
def State.bumpIf (s : State) (b : Bool) (a : Nat) : State := if b then s.bump a else s

/-- An access unit closes (R118, R122, R127 to R132, R277): its leaf's hash, times and place are final; it is queued for decode, or its map is
final at once where no picture of it is decoded. `leaving`: it closes because its context leaves OPEN. -/
def State.closeAu (s : State) (n : Nat) (u : AuIn) (leaving : Bool) : State :=
  let codec := s.codec n
  let x := s.ctx n
  let nals := u.nals.map (·.2)
  let store := storeSets codec x.sets nals
  let sets := store.map (·.2)
  let sl := slicesOf codec nals
  let isPic := if codec = 2 then !u.scan.isEmpty else !sl.isEmpty
  let rap := if codec = 2 then isPic else sl.any (isRapSlice codec)
  let info := if codec = 2 then (if u.offload then Config.jpegInfo u.bytes else some (jpegRtpInfo u.jhdr))
    else match Config.seqInfo codec sets nals with
      | some i => some i
      | none => x.info
  let i := info.getD {}
  let window := (u.arr, u.bytes.length, isPic) :: x.window
  let win := window.filter (fun q => decide (u.arr < q.1 + 1000000000) && decide (q.1 ≤ u.arr))
  let vs := if s.vstate n = 3 ∧ isPic ∧ rap then (if 4 ≤ s.shed then 1 else 0) else s.vstate n
  let v := s.judgeAu n u sets info isPic win vs
  let hasMap := (isPic || (codec != 2 && u.missing)) && info.isSome
  let bw := if hasMap then ceilDiv i.w 16 else 0
  let bh := if hasMap then ceilDiv i.h 16 else 0
  let b := s.boundary n u.arr rap leaving
  -- counters and status
  let s1 := ((s.setVstate n vs).bump (Reg.ING_AUS n)).setReg (Reg.ING_LAST_TS n) (BitVec.ofNat 32 u.rtp)
  let s2 := (((s1.bumpIf v.unsupported (Reg.ING_UNSUPPORTED n)).bumpIf v.overLimit (Reg.ING_OVER_LIMIT n)).bumpIf v.refused
    (Reg.ING_REFUSED n)).bumpIf v.noSet (Reg.ING_PS_MISSING n)
  -- the ream that the leaf joins
  let s3 := match b.1 with | some r => s2.closeReam n r | none => s2
  let hs := if b.2 then (let q := s3.newHdr u.arr []; (some q.1, q.2)) else (x.ream, s3)
  let hdr := hs.1
  let s4 := hs.2
  let done := v.reason.isSome || !hasMap
  let leaf : Leaf := { seq := x.leafSeq, arr := u.arr, tq := u.tq, rtp := u.rtp, flags := (if rap then 1 else 0) + (if u.offload then 2 else 0),
                       unit := u.bytes, hash := sha256 u.bytes, tick := u.tick, bw := bw, bh := bh,
                       runs := normRuns [(v.reason.getD 0, bw * bh)], final := done, starts := if b.2 then hdr else none }
  let au : Au := { seq := x.leafSeq, tick := u.tick, arr := u.arr, tq := u.tq, rtp := u.rtp,
                   serial := (hdr.map (·.serial)).getD 0, rap := rap, sets := sets, scan := u.scan, file := u.offload, missing := u.missing,
                   nals := slicesOf codec ((u.nals.filter (fun q => decide (q.1 < 16777216))).map (·.2))
                   beyond := slicesOf codec ((u.nals.filter (fun q => decide (16777216 ≤ q.1))).map (·.2))
                   info := i, afterEos := x.eos }
  let s5 := s4.setCtx n { x with
    sets := store
    info := info
    window := window
    leafSeq := x.leafSeq + 1
    ream := hdr
    queue := if done then x.queue else x.queue ++ [au]
    eos := nals.any (isEos codec) || (x.eos && done) }
  let s6 := if x.info.isNone && info.isSome then s5.assignScalers n else s5
  let s7 := s6.awaitLeaf n leaf
  if done then (s7.chainReady n).chainRenditions else s7.raiseEv 101

/-! ## RTP (R114 to R120) -/

/-- Extend a sequence number beside the highest one held, by the method of RFC 3550 (R116). -/
def extendSeq (high : Option Nat) (q : Nat) : Nat := match high with
  | none => 65536 + q
  | some h =>
    let c := h / 65536 * 65536 + q
    if h + 32768 < c then c - 65536 else if c + 32768 ≤ h then c + 65536 else c

/-- Where the numbers of the open unit begin (R118). -/
def RtpSt.lowest (r : RtpSt) : Nat := match r.base, r.held with
  | some b, _ => b
  | none, p :: _ => p.seq
  | none, [] => 0

/-- Missing numbers after a change: those of closed units that are still missing, and every number from the lowest to the highest that is
neither held nor lost, with its tick. -/
def RtpSt.findGaps (r : RtpSt) (now : Nat) : List (Nat × Nat) := match r.high with
  | none => []
  | some h => r.gaps.filter (fun g => decide (g.1 < r.lowest)) ++ (List.range (h - r.lowest)).filterMap (fun k =>
      let q := r.lowest + k
      if r.held.any (fun p => p.seq == q) || r.lost.contains q then none
      else some (q, ((r.gaps.find? (fun g => g.1 == q)).map (·.2)).getD now))

/-- Insert a packet in sequence order. -/
def insertPkt (p : RtpPkt) (l : List RtpPkt) : List RtpPkt := insertBy (fun a b => decide (a.seq ≤ b.seq)) p l

/-- Every number from the start of the range up to k is held or lost. -/
def RtpSt.resolvedTo (r : RtpSt) (k : Nat) : Bool := !r.gaps.any (fun g => decide (r.lowest ≤ g.1) && decide (g.1 < k))

/-- Split the held packets into the open unit and the rest: a unit's packets carry one timestamp. -/
def splitUnit : List RtpPkt → List RtpPkt × List RtpPkt
  | [] => ([], [])
  | p :: t => (p :: t.takeWhile (fun q => q.ts == p.ts), t.dropWhile (fun q => q.ts == p.ts))

/-- Does the open unit close now (R118)? `force`: its context leaves OPEN, or a discontinuity. -/
def RtpSt.unitCloses (r : RtpSt) (wait now : Nat) (force : Bool) : Bool :=
  let q := splitUnit r.held
  !q.1.isEmpty && (force || (match q.1.find? (·.marker) with | some m => r.resolvedTo m.seq | none => false)
    || (match q.2 with | d :: _ => r.resolvedTo d.seq | [] => false)
    || decide ((q.1.map (·.tick)).foldl max 0 + wait ≤ now))

/-- A record of R120. -/
def rtpRecord (p : RtpPkt) : Bytes := be 2 (p.seq % 65536) ++ be 2 p.payload.length ++ p.payload

/-- The unit that a run of held packets forms; none if every packet of it was refused. The unit's range ends at its last packet: numbers behind it
are in the next unit's (R118). -/
def rtpUnit (codec : Nat) (r : RtpSt) (ps : List RtpPkt) : Option AuIn :=
  let held := ps.filter (fun p => !p.refused)
  match held.getLast? with
  | some last =>
    let top := (ps.getLastD default).seq + 1
    let nm := depay codec ps
    let frags := jpegFrags ps
    some { arr := last.arr, tq := last.tq, tick := last.tick, rtp := last.ts, bytes := (held.map rtpRecord).flatten
           nals := if codec = 2 then [] else nm.1
           scan := if codec = 2 then frags else []
           jhdr := (held.headD default).payload
           missing := if codec = 2 then !jpegComplete 0 frags else decide (held.length < top - r.lowest) || nm.2
           offload := false }
  | none => none

/-- Close the open unit of an RTP flow. -/
def State.closeRtpUnit (s : State) (n : Nat) (leaving : Bool) : State :=
  let x := s.ctx n
  let q := splitUnit x.rtp.held
  let u := rtpUnit (s.codec n) x.rtp q.1
  let base := match q.1.getLast? with | some p => p.seq + 1 | none => x.rtp.lowest
  let r1 : RtpSt := { x.rtp with
    base := some base
    held := q.2
    lost := x.rtp.lost.filter (fun k => decide (base ≤ k)) }
  let s1 := s.setCtx n { x with rtp := r1 }
  match u with
  | some a => s1.closeAu n a leaving
  | none => s1

/-- AU_WAIT_MS in ticks. -/
def State.auWaitT (s : State) (n : Nat) : Nat := msT (s.cfgF (Reg.ING_TIMERS n) 8 10)
/-- REORDER_MS in ticks. -/
def State.reorderT (s : State) (n : Nat) : Nat := msT (s.cfgF (Reg.ING_TIMERS n) 0 8)

/-- Close every unit that closes now, in order. -/
def State.closeUnitsFuel (n : Nat) (force leaving : Bool) : Nat → State → State
  | 0, s => s
  | fuel + 1, s =>
    if (s.ctx n).rtp.unitCloses (s.auWaitT n) s.now force then State.closeUnitsFuel n force leaving fuel (s.closeRtpUnit n leaving) else s

/-- ING_STATUS.AU_OPEN: an access unit of the context is being assembled (R112). -/
def State.showOpen (s : State) (n : Nat) : State :=
  s.setRegBit (Reg.ING_STATUS n) 1 (!(s.ctx n).rtp.held.isEmpty || (s.ctx n).off.isSome)

/-- Close the units of a flow that close now. AU_OPEN follows. -/
def State.closeUnits (s : State) (n : Nat) (force leaving : Bool) : State :=
  (State.closeUnitsFuel n force leaving (s.ctx n).rtp.held.length s).showOpen n

/-- Declare numbers lost that have been missing for REORDER_MS (R117). -/
def State.loseDue (s : State) (n : Nat) : State :=
  let x := s.ctx n
  let due := (x.rtp.gaps.filter (fun g => decide (g.2 + s.reorderT n ≤ s.now))).map (·.1)
  if due.isEmpty then s else
  (s.setCtx n { x with rtp := { x.rtp with gaps := x.rtp.gaps.filter (fun g => !due.contains g.1), lost := x.rtp.lost ++ due.filter (fun k => decide (x.rtp.lowest ≤ k)) } }).bumpN
    (Reg.ING_LOST n) due.length

/-- A packet of a flow takes its place (R116, R117): the state after it, units closed where they close. -/
def State.holdPacket (s : State) (n : Nat) (p : RtpPkt) : State :=
  let x := s.ctx n
  let r := x.rtp
  let jump := match r.high with | some h => decide (h + 3000 < p.seq) | none => false
  if jump then
    let s1 := (s.bumpN (Reg.ING_LOST n) r.gaps.length).bump (Reg.ING_DISCONT n)
    let s2 := s1.closeUnits n true false
    let y := s2.ctx n
    (s2.setCtx n { y with rtp := { high := some p.seq, base := some p.seq, held := [p], gaps := [], lost := [] } }).closeUnits n false false
  else
    let r1 : RtpSt := { r with high := some (max p.seq (r.high.getD 0)), held := insertPkt p r.held }
    let r2 := { r1 with gaps := r1.findGaps s.now }
    ((s.setCtx n { x with rtp := r2 }).loseDue n).closeUnits n false false

/-- ING_STATUS.HIGH_SEQ follows the highest number held. -/
def State.showHigh (s : State) (n : Nat) : State := match (s.ctx n).rtp.high with
  | some h => s.setRegF (Reg.ING_STATUS n) 16 16 (h % 65536)
  | none => s

/-- The checks of R114 on one packet of a flow, in the order of the table, and its place in the unit. IDLE_S restarts at a packet that passes
(R133). -/
def State.rtpIn (s : State) (n : Nat) (b : Bytes) (arr tq tick : Nat) : State :=
  match parseRtp b with
  | none => s.bump (Reg.ING_REFUSED n)
  | some h =>
    if h.payload.isEmpty then s.bump (Reg.ING_REFUSED n)
    else if h.pt ≠ s.cfgF (Reg.ING_RTP n) 0 7 then s.bump (Reg.ING_PT_DROP n)
    else
      let known := s.regBit (Reg.ING_STATUS n) 0
      let s1 := if known then s else (s.setReg (Reg.ING_SSRC n) (BitVec.ofNat 32 h.ssrc)).setRegBit (Reg.ING_STATUS n) 0 true
      if (s1.reg (Reg.ING_SSRC n)).toNat ≠ h.ssrc then s1.bump (Reg.ING_SSRC_DROP n)
      else
        let r := (s1.ctx n).rtp
        let q := extendSeq r.high h.seq
        let refused := !modeAccepted (s1.codec n) h.payload
        let late := r.held.any (fun p => p.seq == q) || r.lost.contains q || (match r.base with | some k => decide (q < k) | none => false)
          || (match r.high with | some k => decide (q + 1000 < k) | none => false)
        let p : RtpPkt := { seq := q, ts := h.ts, marker := h.marker, payload := h.payload, refused := refused, arr := arr, tq := tq, tick := tick }
        if refused then (if late then s1.bump (Reg.ING_REFUSED n) else ((s1.bump (Reg.ING_REFUSED n)).holdPacket n p).showHigh n)
        else if late then s1.bump (Reg.ING_LATE n)
        else
          let s2 := s1.bump (Reg.ING_PKTS n)
          let s3 := s2.setCtx n { s2.ctx n with idleAt := s2.now + sT (s2.cfgF (Reg.ING_TIMERS n) 18 9) }
          (s3.holdPacket n p).showHigh n

/-! ## Offload assembly (R124 to R126) -/

/-- The parts of a file between the offsets at which data is missing (latest first). -/
def splitAtCuts (b : Bytes) : List Nat → List ScanPiece
  | [] => [{ off := 0, head := [], data := b }]
  | k :: ks => splitAtCuts (b.take k) ks ++ [{ off := k, head := [], data := b.drop k }]

/-- Close the open offload unit; one with no bytes forms no leaf. -/
def State.closeOff (s : State) (n : Nat) (missing leaving : Bool) : State :=
  let x := s.ctx n
  match x.off with
  | none => s
  | some o =>
    let s1 := (s.setCtx n { x with off := none }).showOpen n
    if o.bytes.isEmpty then s1
    else
      let jpeg := s.codec n == 2
      s1.closeAu n { arr := o.arr, tq := o.tq, tick := o.tick, rtp := o.ts, bytes := o.bytes, nals := if jpeg then [] else annexB o.bytes
                     scan := if jpeg then splitAtCuts o.bytes o.cuts else [], jhdr := [], missing := o.missing || missing, offload := true } leaving

/-- One record of a chunk that arrived at (arr, tq, tick) (R125). -/
def State.offRecord (arr tq tick n : Nat) (s : State) (q : OffRec) : State :=
  let s1 := match (s.ctx n).off with
    | some o => if o.ts = q.ts then s else s.closeOff n true false
    | none => s
  let x := s1.ctx n
  let o : OffUnit := match x.off with
    | some o => o
    | none => { ts := q.ts, bytes := [], missing := !q.start, arr := arr, tq := tq, tick := tick }
  let o1 : OffUnit := if q.gap then { o with missing := true, cuts := o.bytes.length :: o.cuts }
    else if q.data.isEmpty then o
    else { o with bytes := o.bytes ++ q.data, arr := arr, tq := tq, tick := tick }
  let s2 := (s1.setCtx n { x with off := some o1 }).showOpen n
  if q.stop then s2.closeOff n false false else s2

/-- A held chunk enters assembly; a malformed one is missing data and counts in ING_REFUSED (R124). -/
def State.offChunk (s : State) (n : Nat) (b : Bytes) (arr tq tick : Nat) : State :=
  match offRecs b with
  | some rs => rs.foldl (State.offRecord arr tq tick n) s
  | none =>
    let x := s.ctx n
    (s.setCtx n { x with off := x.off.map (fun o => { o with missing := true, cuts := o.bytes.length :: o.cuts }) }).bump (Reg.ING_REFUSED n)

/-- Chunks are missing from here: the open unit closes where the gap begins (R126). -/
def State.offMissing (s : State) (n k : Nat) : State := (s.closeOff n true false).bumpN (Reg.ING_LOST n) k

/-! ## Leaving OPEN (R86, R118, R125, R133) -/

/-- A context leaves OPEN: its open unit closes into the open ream, which closes with reason 3; renditions follow. The offload session is ended
by the caller. -/
def State.ctxLeaveOpen (s : State) (n : Nat) : State :=
  if s.cstate n ≠ 2 then s else
  let s1 := (s.closeUnits n true true).closeOff n true true
  let s2 := (s1.setCstate n 3).closeReam n 3
  ((s2.setCtx n { s2.ctx n with rtp := {} }).rndsFollow n).settleSlots

/-- Every leaf of the context whose limit has passed is chained, as it stands where its map is not final, with the earlier ones before it (R19,
R20). CTX_PIC_DEFERRED counts the unverified. -/
def State.expireNow (s : State) (n : Nat) : State :=
  let await := (s.slot n).await
  let k := (await.zipIdx.filter (fun q => decide (q.1.tick + s.limitT n ≤ s.now))).foldl (fun m q => max m (q.2 + 1)) 0
  if k = 0 then s else
  ((State.chainForced n k s).bumpN (Reg.CTX_PIC_DEFERRED n) ((await.take k).countP (fun l => !l.final))).chainRenditions.settleSlots

/-- The collector still works in this instant. -/
def State.collecting (s : State) : Bool := s.pending.contains .collectorRound

/-- The limit of a context's leaves has passed. An acceptance of this instant comes first (R180; log entry 96). -/
def State.expireLeaves (s : State) (n : Nat) : State :=
  if s.collecting && (s.ctx n).busy.isSome then s.setCtx n { s.ctx n with expiring := true } else s.expireNow n

end Sys2Proof.Machine
end

