-- ==== Sys2Proof/Machine/Kt.lean ====
section
/-!
DEFINITION. OFFLOAD and MASK sessions (R45 to R52, R123 to R126, R255 to R257, R261, R516): their commands.
-/
namespace Sys2Proof.Machine

/-! ## Receiving -/

/-- An event that ends night retention (R359). -/
def State.nightExit (s : State) : State :=
  if s.regF Reg.GLB_MEM_NIGHT 16 2 = 1 ∨ s.regF Reg.GLB_MEM_NIGHT 16 2 = 2 then
    let s1 := s.setRegF Reg.GLB_MEM_NIGHT 16 2 3
    { s1 with mem := { s1.mem with nightAt := s1.now } }
  else s

/-- A frame that ends or meets night retention: the state, and whether a buffer holds the frame (R359). -/
def State.nightFrame (s : State) : State × Bool :=
  if s.regF Reg.GLB_MEM_NIGHT 16 2 = 0 then (s, true)
  else if s.freeRx = 0 then (s.nightExit.bump32 Reg.GLB_MEM_NIGHT_DROP 1, false)
  else (s.nightExit, true)

/-- A KT datagram of OFFLOAD or MASK as the headbox passes it on (R36, R43, R318, R319, R449): the state, and the message with its partner. A frame of
another kind than the command's changes nothing. -/
def State.ktRx (s : State) (f : RxFrame) (cls type : Nat) : State × Option (KtMsg × Nat) :=
  let p := f.port.val
  if !s.rxOpen p then (s, none) else
  match s.frameCheck f with
  | some c => (s.discard c, none)
  | none =>
    if !s.isKt f then (s, none) else
    match s.ktCheck f, parseKt f.payload with
    | some c, _ => (s.discard c, none)
    | none, none => (s, none)
    | none, some m =>
      if m.cls ≠ cls ∨ m.type ≠ type then (s, none)
      else if s.power.safe && m.type != 1 then (s.bump Reg.FLT_SAFE_DROP, none)
      else
        let q := (s.bump (Reg.PRT_RX_FRAMES p)).nightFrame
        if q.2 then (q.1, (s.partnerOf f).map (fun n => (m, n))) else (q.1, none)

/-- The session of a context whose idle timer runs out in the instant of a message: the expiry wins (R52, R134). -/
def KtSess.idleTarget (x : KtSess) : Option Nat := if x.cls = clsOffload ∧ !x.awaiting then some x.target else none

/-! ## Content of sessions -/

/-- Records of a MASK DATA payload (R256): context, leaf and the record's bytes; none if the chunk is malformed. -/
def maskRecsFuel : Nat → Bytes → Option (List (Nat × Nat × Bytes))
  | _, [] => some []
  | 0, _ => none
  | fuel + 1, b =>
    let n := 12 + 8 * fieldAt 8 1 b
    if b.length < 12 ∨ 64 < fieldAt 8 1 b ∨ b.length < n then none
    else (maskRecsFuel fuel (b.drop n)).map (fun l => (fieldAt 0 2 b, fieldAt 4 4 b, b.take n) :: l)

/-- A candidate of a leaf whose wait for its record ended in this very instant, and whose composition is not done. -/
def State.blankedNow (s : State) (seq : Nat) (c : Cand) : Bool :=
  c.blankAt == some s.now && c.done.isNone && (match c.pics.head? with | some (some p) => p.leafSeq == seq | _ => false)

/-- A record that arrives in the instant of the expiry wins (R259): the picture is not blanked, and its expiry does not count. -/
def State.unblank (s : State) (n seq : Nat) (b : Bytes) : State :=
  let r := s.rnd n
  let a := Reg.CMP_MASK_MISSING n
  (s.setRnd n { r with
    wait := r.wait.map (fun c => if s.blankedNow seq c then { c with blank := false, blankAt := none, mask := if c.begun then some b else none } else c)
    masks := if r.wait.any (fun c => c.begun && s.blankedNow seq c) then r.masks else r.masks ++ [(seq, b)] }).setPair a (s.pair a - 1)

/-- One mask record (R257, R259). -/
def State.maskRecord (n : Nat) (s : State) (q : Nat × Nat × Bytes) : State :=
  let r := s.rnd n
  if q.1 ≠ s.src0 n then s.bump (Reg.CMP_MASK_BAD n)
  else if r.wait.any (s.blankedNow q.2.1) then s.unblank n q.2.1 q.2.2
  else if (match r.composedTo with | some k => decide (q.2.1 ≤ k) | none => false) then s.bump (Reg.CMP_MASK_LATE n)
  else if r.masks.any (fun m => m.1 == q.2.1) then s.bump (Reg.CMP_MASK_UNUSED n)
  else s.setRnd n { r with masks := r.masks ++ [(q.2.1, q.2.2)] }

/-- A held MASK chunk gives its records; a malformed one counts once (R256). -/
def State.maskChunk (s : State) (n : Nat) (b : Bytes) : State :=
  match maskRecsFuel b.length b with
  | some rs => rs.foldl (State.maskRecord n) s
  | none => s.bump (Reg.CMP_MASK_BAD n)

/-- A held chunk is used; one that reads as poison is missing data (R453). -/
def State.useChunk (s : State) (x : KtSess) (c : Chunk) : State :=
  if x.cls = clsOffload ∧ c.bad = true then s.offMissing x.target 1
  else if x.cls = clsOffload then s.offChunk x.target c.data c.arr c.tq c.tick else s.maskChunk x.target c.data

/-- Chunks that never arrived, where they are missing. -/
def State.missChunks (s : State) (x : KtSess) (k : Nat) : State := if x.cls = clsOffload ∧ 0 < k then s.offMissing x.target k else s

/-- Use the chunks held at NEXT and after it without a gap (R125). -/
def State.advanceFuel : Nat → KtSess → State → KtSess × State
  | 0, x, s => (x, s)
  | fuel + 1, x, s => match x.held.find? (fun c => c.seq == x.next) with
    | none => (x, s)
    | some c => State.advanceFuel fuel { x with held := x.held.filter (fun d => d.seq != c.seq), next := x.next + 1 } (s.useChunk x c)

/-- Use what is held, gaps included, up to the last chunk or FINAL (R52, R126). Answers the number of chunks missing. -/
def State.flushSess (s : State) (x : KtSess) : Nat × State :=
  let upto := x.final.getD ((x.held.map (·.seq)).foldl max (x.next - 1))
  let hs := sortBy (fun (a b : Chunk) => decide (a.seq ≤ b.seq)) (x.held.filter (fun c => decide (c.seq ≤ upto)))
  let r := hs.foldl (fun (acc : Nat × Nat × State) c =>
    let gap := c.seq - acc.1
    (c.seq + 1, acc.2.1 + gap, (acc.2.2.missChunks x gap).useChunk x c)) (x.next, 0, s)
  let tail := upto + 1 - r.1
  (r.2.1 + tail, r.2.2.missChunks x tail)

/-- IDLE_S restarts for an offload context (R133, R134). -/
def State.touchOffload (s : State) (x : KtSess) : State :=
  if x.cls ≠ clsOffload then s else
  let y := s.ctx x.target
  s.setCtx x.target { y with idleAt := s.now + sT (s.cfgF (Reg.ING_TIMERS x.target) 18 9) }

/-! ## Ends of sessions -/

/-- What the end of a session does to its context or mask track (R51, R52, R86, R261). -/
def State.sessGone (s : State) (x : KtSess) : State := if x.cls = clsOffload then s.ctxLeaveOpen x.target else s.maskGone x.target

/-- An OPEN that still waits for its evaluation is withdrawn: its context returns to FREE. -/
def State.withdraw (s : State) (x : KtSess) : State :=
  let keep := s.adm.reqs.filter (fun q => match q.2 with
    | .offload c _ _ _ _ => c != x.target
    | _ => true)
  let t := s.freeCtx x.target
  { t with adm := { t.adm with reqs := keep } }

/-- A session ends by ABORT, with a reason to send or as received (R52). -/
def State.abortSess (s : State) (x : KtSess) (reason : Option Nat) : State :=
  let s1 := s.dropSess x.cls x.partner x.id
  let s2 := match reason with | some r => s1.sendAbort x.partner x.cls x.id r | none => s1
  if x.awaiting then s2.withdraw x else ((s2.flushSess x).2).sessGone x

/-- CLOSE_ACK: every SEQ to FINAL is held, or the close timeout has passed (R51). Its header SEQ is not in the manual: 0. DESIGN CHOICE (log entry 92). -/
def State.closeSess (s : State) (x : KtSess) : State :=
  let fin := x.final.getD 0
  let f := s.flushSess x
  let missing := f.1
  let body := be 1 (if missing = 0 then 0 else 1) ++ zeros 3 ++ be 4 (fin - missing) ++ be 4 missing
  let s1 := (f.2.dropSess x.cls x.partner x.id).ktReply x.partner x.cls 6 x.id 0 body
  let c : KtClosed := { cls := x.cls, partner := x.partner, id := x.id, closeAck := body, final := fin, expires := s.now + sT 60 }
  let s2 := { s1 with net := { s1.net with closed := s1.net.closed ++ [c] } }
  s2.sessGone x

/-- CLOSE_ACK where it is due. -/
def State.closeIfDone (s : State) (x : KtSess) : State := match x.final with
  | some k => if k < x.next then s.closeSess x else s
  | none => s

/-- End the session of a context that left OPEN for another reason (R52, R86): its idle timeout, or a close by management, with ABORT. -/
def State.abortOffload (s : State) (n reason : Nat) : State := match s.sessOf clsOffload n with
  | some x => s.abortSess x (some reason)
  | none => s

/-- Has the idle timer of an OPEN context run out (R133)? It is stopped while the session is paused (R104). -/
def State.idleDue (s : State) (n : Nat) : Bool :=
  s.cstate n == 2 && decide ((s.ctx n).idleAt ≤ s.now) && (match s.sessOf clsOffload n with | some x => x.pausedAt.isNone | none => true)

/-- The idle timeout of a context (R86, R133): an offload session receives ABORT reason 2. -/
def State.idleExpire (s : State) (n : Nat) : State :=
  if !s.idleDue n then s
  else if (s.sessOf clsOffload n).isSome then s.abortOffload n 2 else s.ctxLeaveOpen n

/-- OPENs that wait for their evaluation are refused with STATUS 4 (R449). -/
def State.refuseWaiting (s : State) : State :=
  (s.net.sess.filter (·.awaiting)).foldl (fun t x =>
    ((t.dropSess x.cls x.partner x.id).ktReply x.partner x.cls 2 x.id 0 (be 1 4 ++ zeros 1 ++ be 2 0 ++ be 4 0xFFFFFFFF ++ be 4 0)).withdraw x) s

/-- Every session ends with ABORT reason 4 (R449). -/
def State.abortAll (s : State) (reason : Nat) : State := s.net.sess.foldl (fun t x => t.abortSess x (some reason)) s

/-- Before a message of a session: the idle expiry of the same instant (R52, R134). -/
def State.idleFirst (s : State) (cls partner id : Nat) : State := match (s.sess cls partner id).bind KtSess.idleTarget with
  | some n => s.idleExpire n
  | none => s

/-! ## OPEN (R45, R46, R123, R255) -/

/-- Answer OPEN_ACK. Its header SEQ is not in the manual: 0. DESIGN CHOICE (log entry 92). -/
def State.openAck (s : State) (partner cls id : Nat) (body : Bytes) : State := s.ktReply partner cls 2 id 0 body

/-- OPEN_ACK's payload. -/
def openAckBody (status window target retry : Nat) : Bytes := be 1 status ++ zeros 1 ++ be 2 window ++ be 4 target ++ be 4 retry

/-- A refusal (R46). -/
def refuseBody (status retry : Nat) : Bytes := openAckBody status 0 0xFFFFFFFF retry

/-- The lowest-numbered FREE context whose source is offload pool (R85). -/
def State.poolCtx (s : State) : Option Nat := (List.range 1024).find? (fun n => s.cstate n == 0 && s.cfgF (Reg.CTX_CFG n) 0 2 == 2)

/-- The OPEN writes CODEC, DEPTH10, geometry, rate and label, clamped (R90, R123); the policer's derived values follow the rate (R322). -/
def State.writeOpen (s : State) (n : Nat) (b : Bytes) : State :=
  let cfg := setFld (setFld (s.reg (Reg.CTX_CFG n)) 2 2 (fieldAt 0 1 b)) 4 1 (fieldAt 1 1 b % 2)
  let big := fun (v lim : Nat) => if lim ≤ v then lim - 1 else v
  let geom := big (fieldAt 2 2 b) 8192 + big (fieldAt 4 2 b) 8192 * 65536
  let rate := big (fieldAt 6 2 b) 8192 + big (fieldAt 8 2 b) 512 * 65536
  let put := fun (t : State) (q : Nat × Nat) => t.setReg q.1 (clampReg q.1 (BitVec.ofNat 32 q.2))
  let s1 := (s.setReg (Reg.CTX_CFG n) (clampReg (Reg.CTX_CFG n) cfg))
  let s2 := put (put s1 (Reg.CTX_GEOM n, geom)) (Reg.CTX_RATE n, rate)
  ((List.range 6).map (fun k => (Reg.CTX_LABEL n k, fieldAt (16 + 4 * k) 4 b))).foldl put (s2.settlePol n)

/-- A context leaves FREE for ADMITTING (R84, R85, R90, R321). -/
def State.admitCtx (s : State) (n : Nat) (req : AdmReq) : State :=
  let s1 := (s.clearCtxCounters n).setCstate n 1
  let full : Bucket := { tok := ((s1.cfgF (Reg.HBX_POL_CBS n) 0 32 * 2000000 : Nat) : Int), last := s1.now }
  let pol := tput (fun _ => {}) s1.net.pol n full
  let s2 := s1.setCtx n { s1.ctx n with lastArr := s1.taiNs }
  { s2 with adm := { s2.adm with reqs := s2.adm.reqs ++ [(s2.now, req)] }, net := { s2.net with pol := pol } }

/-- An OFFLOAD OPEN with no session open for it. -/
def State.offloadOpen (s : State) (port partner : Nat) (m : KtMsg) : State :=
  if s.power.safe || s.maintenance then s.openAck partner m.cls m.session (refuseBody 4 0)
  else if m.body.length ≠ 40 ∨ 3 ≤ fieldAt 0 1 m.body then s.openAck partner m.cls m.session (refuseBody 2 0)
  else match s.poolCtx with
    | none => (s.bump32 Reg.GLB_ADM_REFUSED 1).openAck partner m.cls m.session (refuseBody 3 0)
    | some n =>
      let rate := fieldAt 12 4 m.body
      let s1 := ((s.admitCtx n (.offload n port partner m.session rate)).writeOpen n m.body)
      s1.addSess { cls := m.cls, partner, id := m.session, target := n, awaiting := true, asked := rate }

/-- A MASK OPEN with no session open for it (R255): accepted at once. -/
def State.maskOpen (s : State) (partner : Nat) (m : KtMsg) : State :=
  let n := fieldAt 0 2 m.body
  if s.power.safe || s.maintenance then s.openAck partner m.cls m.session (refuseBody 4 0)
  else if m.body.length ≠ 8 ∨ 1024 ≤ n then s.openAck partner m.cls m.session (refuseBody 2 0)
  else if s.rtype n ≠ 2 ∨ s.rstate n = 3 ∨ (s.sessOf clsMask n).isSome then s.openAck partner m.cls m.session (refuseBody 2 0)
  else
    let x : KtSess := { cls := m.cls, partner := partner, id := m.session, target := n, activity := s.now }
    let w := s.window x
    let body := openAckBody 0 w n 0
    let zero : Option Nat := if w = 0 then some (s.now + msT 50) else none
    let y : KtSess := { x with openAck := body, edge := 1 + w, zeroAt := zero }
    let s1 := s.addSess y
    (((s1.setRegBit (Reg.CMP_STATUS n) 0 true).setReg (Reg.CMP_TRACK_ID n) (BitVec.ofNat 32 (fieldAt 4 4 m.body))).openAck partner m.cls m.session body)

/-- A message of a session that is ADMITTING is held (R85). -/
def State.holdMsg (s : State) (x : KtSess) (port : Nat) (m : KtMsg) : State :=
  s.setSess { x with early := x.early ++ [{ port, msg := m, arr := s.taiNs, tq := s.quality, tick := s.now }] }

/-- OPEN of either class (R45, R46, R51). -/
def State.openMsg (s : State) (p partner cls : Nat) (m : KtMsg) : State :=
  match s.sess cls partner m.session, s.closedSess cls partner m.session with
  | some x, _ => if x.awaiting then s.holdMsg x p m else (s.openAck partner cls m.session x.openAck).touchOffload x
  | none, some c => s.ktReply partner cls 6 m.session 0 c.closeAck
  | none, none => if cls = clsOffload then s.offloadOpen p partner m else s.maskOpen partner m

/-- A received OPEN frame. -/
def State.ktOpen (s : State) (f : RxFrame) (cls : Nat) : State :=
  match s.ktRx f cls 1 with
  | (t, none) => t
  | (t0, some (m, partner)) =>
    if m.session = 0 then t0.bump (Reg.PRT_KT_BAD f.port)
    else ((t0.idleFirst cls partner m.session).raiseEv 102).openMsg f.port.val partner cls m

/-! ## DATA (R50) -/

/-- A chunk that R50 stores, received at `arr` with quality `tq` and at `tick` (R81): kept, its bytes spent (R99), records used as NEXT
advances, acknowledged under R49. -/
def State.storeChunkAt (s : State) (x : KtSess) (m : KtMsg) (arr tq tick : Nat) : State :=
  let gap := m.seq ≠ x.next ∨ !x.held.isEmpty
  let tok := x.tokens s.now - ((m.length * 250000000 : Nat) : Int)
  let x1 : KtSess := { x with
    held := x.held ++ [{ seq := m.seq, data := m.body, arr, tq, tick }]
    received := x.received + 1
    bucket := { tok := tok, last := s.now }
    maxLen := max x.maxLen m.length
    activity := s.now }
  let q := State.advanceFuel x1.held.length x1 (s.touchOffload x)
  let x2 := { q.1 with unacked := q.1.unacked + 1, unackedAt := if q.1.unacked = 0 then s.now else q.1.unackedAt }
  let s1 := q.2.setSess x2
  let s2 := if gap ∨ 8 ≤ x2.unacked then s1.ackNow x2 else s1
  match s2.sess x.cls x.partner x.id with
  | some y => s2.closeIfDone y
  | none => s2

/-- The same for a chunk received now. -/
def State.storeChunk (s : State) (x : KtSess) (m : KtMsg) : State := s.storeChunkAt x m s.taiNs s.quality s.now

/-- A repeated chunk: the ACK is repeated, at most once per 100 µs. -/
def State.dupChunk (s : State) (x : KtSess) (port : Nat) : State :=
  let s1 := s.bump (Reg.PRT_KT_DUP port)
  let due := match x.dupAckAt with | some t => decide (t + usT 100 ≤ s.now) | none => true
  if due then s1.ackNow { x with dupAckAt := some s.now } else s1

/-- DATA of either class, by the rows of R50 in order. -/
def State.dataMsg (s : State) (p partner cls : Nat) (m : KtMsg) (arr tq tick : Nat) : State :=
  match s.sess cls partner m.session, s.closedSess cls partner m.session with
  | none, none => (s.bump (Reg.PRT_KT_UNKNOWN p)).sendAbort partner cls m.session 6
  | none, some c => if m.seq ≤ c.final then s.bump (Reg.PRT_KT_DUP p) else s.bump (Reg.PRT_KT_WIN_DROP p)
  | some x, _ =>
    if x.awaiting then s.holdMsg x p m
    else if m.seq < x.next ∨ x.held.any (fun c => c.seq == m.seq) then s.dupChunk x p
    else if decide (x.edge ≤ m.seq) || (match x.final with | some k => decide (k < m.seq) | none => false) then s.bump (Reg.PRT_KT_WIN_DROP p)
    else s.storeChunkAt x m arr tq tick

/-- A received DATA frame. -/
def State.ktData (s : State) (f : RxFrame) (cls : Nat) : State :=
  match s.ktRx f cls 3 with
  | (t, none) => t
  | (t0, some (m, partner)) =>
    let t := t0.idleFirst cls partner m.session
    t.dataMsg f.port.val partner cls m t.taiNs t.quality t.now

/-! ## CLOSE and ABORT (R51, R52, R516) -/

/-- CLOSE of either class. -/
def State.closeMsg (s : State) (p partner cls : Nat) (m : KtMsg) : State :=
  match s.sess cls partner m.session, s.closedSess cls partner m.session with
  | some x, _ =>
    if x.awaiting then s.holdMsg x p m
    else
      let fin := fieldAt 0 4 m.body
      let x1 := match x.final with
        | some _ => x
        | none => { x with final := some fin, held := x.held.filter (fun c => decide (c.seq ≤ fin))
                           closeAt := s.now + sT (s.cfgF Reg.GLB_KT_CFG 16 6) }
      let t1 := ((s.setSess x1).touchOffload x1).ackNow x1
      match t1.sess cls partner m.session with
      | some y => t1.closeIfDone y
      | none => t1
  | none, some c => s.ktReply partner cls 6 m.session 0 c.closeAck
  | none, none => (s.bump (Reg.PRT_KT_UNKNOWN p)).sendAbort partner cls m.session 6

/-- A received CLOSE frame. -/
def State.ktClose (s : State) (f : RxFrame) (cls : Nat) : State :=
  match s.ktRx f cls 5 with
  | (t, none) => t
  | (t0, some (m, partner)) =>
    if m.body.length ≠ 8 then t0.bump (Reg.PRT_KT_BAD f.port)
    else ((t0.idleFirst cls partner m.session).raiseEv 102).closeMsg f.port.val partner cls m

/-- ABORT of either class. -/
def State.abortMsg (s : State) (p partner cls : Nat) (m : KtMsg) : State :=
  match s.sess cls partner m.session with
  | some x => if x.awaiting then s.holdMsg x p m else s.abortSess x none
  | none => s.bump (Reg.PRT_KT_UNKNOWN p)

/-- A received ABORT frame. -/
def State.ktAbort (s : State) (f : RxFrame) (cls : Nat) : State :=
  match s.ktRx f cls 7 with
  | (t, none) => t
  | (t0, some (m, partner)) =>
    if m.body.length ≠ 4 then t0.bump (Reg.PRT_KT_BAD f.port)
    else ((t0.idleFirst cls partner m.session).raiseEv 102).abortMsg f.port.val partner cls m

/-! ## Messages held while an OPEN is ADMITTING (R85) -/

/-- A held message takes its effect: as a first message of the OPEN context, or of an unknown session where the OPEN was refused (DEDUCED, log
entry 27). -/
def State.earlyMsg (cls partner : Nat) (s : State) (e : EarlyKt) : State :=
  if e.msg.type = 3 then s.dataMsg e.port partner cls e.msg e.arr e.tq e.tick
  else if e.msg.type = 5 then s.closeMsg e.port partner cls e.msg
  else if e.msg.type = 7 then s.abortMsg e.port partner cls e.msg
  else s.openMsg e.port partner cls e.msg

/-! ## The commands -/

/-- OFFLOAD_OPEN (R45, R46, R85, R123). -/
def execOffloadOpen (f : RxFrame) (s : State) : Host.Outcome State Fault Refusal := .next (s.ktOpen f clsOffload)
/-- OFFLOAD_DATA (R47 to R50, R99, R124 to R126). -/
def execOffloadData (f : RxFrame) (s : State) : Host.Outcome State Fault Refusal := .next (s.ktData f clsOffload)
/-- OFFLOAD_CLOSE (R51, R126, R516). -/
def execOffloadClose (f : RxFrame) (s : State) : Host.Outcome State Fault Refusal := .next (s.ktClose f clsOffload)
/-- OFFLOAD_ABORT (R52, R126, R516). -/
def execOffloadAbort (f : RxFrame) (s : State) : Host.Outcome State Fault Refusal := .next (s.ktAbort f clsOffload)
/-- MASK_OPEN (R45, R46, R255). -/
def execMaskOpen (f : RxFrame) (s : State) : Host.Outcome State Fault Refusal := .next (s.ktOpen f clsMask)
/-- MASK_DATA (R47 to R50, R256, R257, R259). -/
def execMaskData (f : RxFrame) (s : State) : Host.Outcome State Fault Refusal := .next (s.ktData f clsMask)
/-- MASK_CLOSE (R51, R257, R516). -/
def execMaskClose (f : RxFrame) (s : State) : Host.Outcome State Fault Refusal := .next (s.ktClose f clsMask)
/-- MASK_ABORT (R52, R516). -/
def execMaskAbort (f : RxFrame) (s : State) : Host.Outcome State Fault Refusal := .next (s.ktAbort f clsMask)

/-- Class of a session's name. -/
def SessRef.cls (r : SessRef) : Nat := if r.mask then clsMask else clsOffload

/-- Apply to the named session if it is open and decided. -/
def State.onSess (s : State) (r : SessRef) (f : KtSess → State) : State := match s.sess r.cls r.partner r.id with
  | some x => if x.awaiting then s else f x
  | none => s

/-- ACK_DELAY_EXPIRY: 200 µs after the first unacknowledged in-order chunk (R49). -/
def execAckDelayExpiry (r : SessRef) (s : State) : Host.Outcome State Fault Refusal :=
  .next (s.onSess r (fun x => if 0 < x.unacked ∧ x.unackedAt + usT 200 ≤ s.now then s.ackNow x else s))

/-- ZERO_WINDOW_REPEAT: while WINDOW is 0 the ACK repeats every 50 ms (R49). -/
def execZeroWindowRepeat (r : SessRef) (s : State) : Host.Outcome State Fault Refusal :=
  .next (s.onSess r (fun x => match x.zeroAt with | some t => if t ≤ s.now then s.ackNow x else s | none => s))

/-- WINDOW_RISES_FROM_ZERO: an ACK at once (R49). -/
def execWindowRisesFromZero (r : SessRef) (s : State) : Host.Outcome State Fault Refusal :=
  .next (s.onSess r (fun x => if x.zeroAt.isSome ∧ 0 < s.window x then s.ackNow x else s))

/-- CLOSE_TIMEOUT: chunks are still missing CLOSE_S after CLOSE (R51). -/
def execCloseTimeout (r : SessRef) (s : State) : Host.Outcome State Fault Refusal :=
  .next (s.onSess r (fun x => if x.final.isSome ∧ x.closeAt ≤ s.now then s.closeSess x else s))

/-- CLOSED_SESSION_EXPIRY: 60 s after CLOSE_ACK the SESSION value is free again (R51). -/
def execClosedSessionExpiry (r : SessRef) (s : State) : Host.Outcome State Fault Refusal :=
  .next { s with net := { s.net with closed := s.net.closed.filter (fun c =>
    !(c.cls == r.cls && c.partner == r.partner && c.id == r.id && decide (c.expires ≤ s.now))) } }

/-- PAUSED_SESSION_ABORT: paused for 60 s, ABORT reason 5 (R104). -/
def execPausedSessionAbort (r : SessRef) (s : State) : Host.Outcome State Fault Refusal :=
  .next (s.onSess r (fun x => match x.pausedAt with
    | some t => if t + sT 60 ≤ s.now then s.abortSess x (some 5) else s
    | none => s))

/-- MASK_SESSION_IDLE: no DATA accepted for 60 s, ABORT reason 2 (R261). -/
def execMaskSessionIdle (r : SessRef) (s : State) : Host.Outcome State Fault Refusal :=
  .next (s.onSess r (fun x => if x.cls = clsMask ∧ x.activity + sT 60 ≤ s.now then s.abortSess x (some 2) else s))

end Sys2Proof.Machine
end

