-- ==== Sys2Proof/Machine/IngestRows.lean ====
section
/-!
DEFINITION. The commands of live ingest: the headbox's classification and policing of a live context's frame (R113, R318 to R322), the timers of
assembly (R117, R118), the idle timeout (R133, R134) and the close of a context (R86).
-/
namespace Sys2Proof.Machine

/-- The policer of a live context (R320 to R322). A change that this instant's announcement makes comes first (R321). -/
def State.policeLive (s : State) (n len : Nat) : State × Bool :=
  if s.soonF (Reg.HBX_POL_CFG n) 0 1 = 0 then (s, true) else
  let cbs := s.soonF (Reg.HBX_POL_CBS n) 0 27
  let x := tget (fun _ => {}) s.net.pol n
  let b := if s.soonDiffers (Reg.HBX_POL_CFG n) 0 1 || s.soonDiffers (Reg.HBX_POL_CIR n) 0 23 || s.soonDiffers (Reg.HBX_POL_CBS n) 0 27 then
    x.restart cbs s.now else x
  let r := police b (s.soonF (Reg.HBX_POL_CIR n) 0 23) cbs len s.now
  let s1 := { s with net := { s.net with pol := tput (fun _ => {}) s.net.pol n r.1 } }
  if r.2 then (s1, true)
  else ((s1.bump (Reg.HBX_POL_DROP_FRAMES n)).bumpN (Reg.HBX_POL_DROP_BYTES n) len, false)

/-- A frame of live context n (R85, R87, R134, R319 steps 4 to 6). -/
def State.liveFrame (s0 : State) (n : Nat) (f : RxFrame) : State :=
  if s0.idleDue n then (s0.idleExpire n).bump (Reg.CTX_DROP_CLOSING n)
  else if s0.cstate n = 3 then s0.bump (Reg.CTX_DROP_CLOSING n)
  else
    let s := if s0.cstate n = 0 then (s0.admitCtx n (.live n f.port)).raiseEv 100 else s0
    let q := s.policeLive n f.len
    if !q.2 then q.1 else
    let u := q.1.bump (Reg.PRT_RX_FRAMES f.port)
    if u.cstate n = 2 then u.rtpIn n f.payload s.taiNs s.quality s.now
    else
      let x := u.ctx n
      u.setCtx n { x with early := x.early ++ [(f.payload, s.taiNs, s.quality, s.now)] }

/-- RTP_PACKET: a UDP datagram that is not KT reaches the headbox (R36, R85, R87, R113, R114, R319, R359, R449). -/
def execRtpPacket (f : RxFrame) (s : State) : Host.Outcome State Fault Refusal :=
  let p := f.port.val
  if !s.rxOpen p || f.proto != some 17 || s.isKt f || s.isPtp f then .next s else
  match s.frameCheck f with
  | some c => .next (s.discard c)
  | none =>
    match (if s.role p 0 then s.flowOf f else none) with
    | none => .next (s.discard (Reg.PRT_RX_ROLE_DROP p))
    | some n =>
      if s.power.safe then .next (s.bump Reg.FLT_SAFE_DROP) else
      let q := s.nightFrame
      .next (if q.2 then q.1.liveFrame n f else q.1)

/-- DISCARDED_FRAME: counted once, under the first step of R319 that discards it: the checks of R36 and R43, the roles, CLOSING, the class policer. A
live frame that passes them all meets the checks of R114, as RTP_PACKET. -/
def execDiscardedFrame (f : RxFrame) (s : State) : Host.Outcome State Fault Refusal :=
  if !s.rxOpen f.port then .next s else
  match s.firstFailure f with
  | some c => .next (s.discard c)
  | none => if f.proto = some 17 ∧ s.isKt f = false ∧ s.isPtp f = false then execRtpPacket f s else .next (s.controlFrame f)

/-- REORDER_EXPIRY: numbers of a context missing for REORDER_MS are lost (R117). -/
def execReorderExpiry (n : Fin 1024) (s : State) : Host.Outcome State Fault Refusal :=
  .next (if s.cstate n = 2 then (s.loseDue n).closeUnits n false false else s)

/-- AU_WAIT_EXPIRY: the open live unit closes AU_WAIT_MS after its last held packet (R118). -/
def execAuWaitExpiry (n : Fin 1024) (s : State) : Host.Outcome State Fault Refusal :=
  .next (if s.cstate n = 2 then s.closeUnits n false false else s)

/-- CONTEXT_IDLE_TIMEOUT (R86, R133). -/
def execContextIdleTimeout (n : Fin 1024) (s : State) : Host.Outcome State Fault Refusal := .next (s.idleExpire n)

/-- CTX_CTRL.CLOSE: ignored unless the context is OPEN (R86, R90). The session of an offload context ends with ABORT reason 6. -/
def State.closeCtx (s : State) (n : Nat) : State :=
  if s.cstate n ≠ 2 then s
  else if (s.sessOf clsOffload n).isSome then s.abortOffload n 6 else s.ctxLeaveOpen n

/-- CTX_CLOSE (R86, R90). -/
def execCtxClose (n : Fin 1024) (s : State) : Host.Outcome State Fault Refusal := .next (s.closeCtx n)

end Sys2Proof.Machine
end

