-- ==== Sys2Proof/Machine/Units.lean ====
section
/-!
DEFINITION. Coding units in general (R92, R94, R108, R160, R191, R213, R262, R268): service, jobs, status, choice.
-/
namespace Sys2Proof.Machine

/-- The OOS bit of a unit, announced or as written: it acts at once (R160, R213, R268). -/
def State.oos (s : State) (agent : Nat) : Bool :=
  s.regBit (if agent < 0x80 then Reg.DEC_CFG (agent - 0x40) else if agent < 0x98 then Reg.ENC_CFG (agent - 0x80) else Reg.CU_CFG (agent - 0x98)) 0

/-- The status register of a unit. -/
def unitStatus (agent : Nat) : Nat :=
  if agent < 0x80 then Reg.DEC_STATUS (agent - 0x40) else if agent < 0x98 then Reg.ENC_STATUS (agent - 0x80) else Reg.CU_STATUS (agent - 0x98)

/-- Can work of the coding array run at all: not in a power-fail sequence, safe state, maintenance mode or night retention (R300, R449, R415, R357)? -/
def State.codingOn (s : State) : Bool :=
  !s.power.failing && !s.power.safe && !s.maintenance && s.regF Reg.GLB_MEM_NIGHT 16 2 == 0

/-- Can a unit take work now (R94, R108): idle, in service, past its hold, with no record held (R404)? An OOS that is written in this instant comes
after the dispatch (R160, R194, R268). -/
def State.unitFree (s : State) (agent : Nat) : Bool :=
  let u := s.unit agent
  u.job.isNone && decide (u.holdUntil ≤ s.now) && !(s.oos agent && u.oosAt != some s.now) && !u.oos && !u.failed && u.test.isNone && !s.frozen agent && (s.heldRec agent).isNone

/-- STATE, slot and valid bit of a unit's status register (R160, R213, R268). -/
def State.showUnit (s : State) (agent : Nat) : State :=
  let u := s.unit agent
  let slot := match u.job with
    | some (.decode n) => n
    | some (.compose n) => n
    | some (.flatten n) => n
    | some (.encode n) => n
    | _ => 0
  let busy := u.job.isSome
  let st := if s.frozen agent then 3
    else if u.test.isSome then (if busy then 2 else 5)
    else if busy then (if s.oos agent || u.oos then 2 else match u.job with
      | some (.still _) => 6
      | some (.flatten _) => 6
      | _ => 1)
    else if s.oos agent || u.oos || u.failed then 4 else 0
  let valid := busy && agent < 0x98 && (st == 1 || st == 2)
  s.setReg (unitStatus agent) (BitVec.ofNat 32 (st + slot * 256 + (if valid then 2 ^ 18 else 0)))

/-- Give a unit a job of a slot. -/
def State.startJob (s : State) (agent : Nat) (j : Job) (slot : Nat) (restarted : Bool) : State :=
  (s.setUnit agent { s.unit agent with job := some j, since := s.now, restarted, last := some slot }).showUnit agent

/-- A unit's job ends: it is held until 100 / L of its busy time has passed (R94), with the LIMIT_PCT of the last evaluation (R100). -/
def State.endJob (s : State) (agent : Nat) : State :=
  let u := s.unit agent
  let l := max 1 s.adm.limitPct
  (s.setUnit agent { u with job := none, restarted := false, holdUntil := u.since + ceilDiv (100 * (s.now - u.since)) l }).showUnit agent

/-- The idle unit for a slot: the one that ran it last if idle, else the lowest-numbered idle one of the kind (R108, R191, R262). -/
def State.chooseUnit (s : State) (base count : Nat) (last : Option Nat) : Option Nat :=
  match last with
  | some a => if decide (base ≤ a) && decide (a < base + count) && s.unitFree a then some a
      else ((List.range count).map (base + ·)).find? s.unitFree
  | none => ((List.range count).map (base + ·)).find? s.unitFree

/-! ## Mutability (R91, R431), and the OOS bit -/

/-- Does a lock entry cover some bit of a mask at an address? -/
def lockCovers (a m : Nat) (l : Nat × Nat × Nat × Nat) : Bool :=
  decide (l.1 ≤ a) && (l.2.1 &&& m) != 0 &&
    (if l.2.2.1 = 0 then a == l.1 else (a - l.1) % l.2.2.1 == 0 && decide ((a - l.1) / l.2.2.1 < l.2.2.2))

/-- May the field change now (R431)? RND_CFG to RND_RATE are mutable only while the rendition is FREE (R91). -/
def State.fieldMutable (s : State) (a : Nat) (f : Field) : Bool :=
  f.mutable && !s.boot.frozenImg && !s.boot.locks.any (lockCovers a f.mask)
    && !(decide (0xA00000 ≤ a ∧ a < 0xA40000) && decide (4 ≤ a % 256 ∧ a % 256 ≤ 0x14) && s.rstate ((a - 0xA00000) / 256) != 0)

/-- The OOS field of DEC_CFG, ENC_CFG and CU_CFG. -/
def oosField : Field := ⟨0, 1, .rw, 0, .any, true⟩

/-- The register that holds a unit's OOS bit. -/
def oosReg (agent : Nat) : Nat :=
  if agent < 0x80 then Reg.DEC_CFG (agent - 0x40) else if agent < 0x98 then Reg.ENC_CFG (agent - 0x80) else Reg.CU_CFG (agent - 0x98)

/-- A coding unit publishes capability 0 (R92). -/
def State.noCap (s : State) (agent : Nat) : State :=
  s.setReg (if agent < 0x80 then Reg.DEC_CAP (agent - 0x40) else if agent < 0x98 then Reg.ENC_CAP (agent - 0x80) else Reg.CU_CAP (agent - 0x98)) 0#32

/-- A write of OOS (R92, R160, R213, R268, R432): the unit leaves service at its next picture boundary and publishes 0, or returns at once. -/
def State.writeOos (s : State) (agent : Nat) (out : Bool) : State :=
  if s.fieldMutable (oosReg agent) oosField then
    let at_ := if out then (if s.oos agent then (s.unit agent).oosAt else some s.now) else none
    let s1 := (s.setRegBit (oosReg agent) 0 out).setUnit agent { s.unit agent with oosAt := at_ }
    (if out then s1.noCap agent else s1).showUnit agent
  else if s.regBit (oosReg agent) 0 = out then s else s.bump32 Reg.GLB_CFG_IMMUT 1

end Sys2Proof.Machine
end

