-- ==== Sys2Proof/Machine/Fault.lean ====
section
/-!
DEFINITION. The fault collector (18_faults.md): raising sources (R440 to R446), freezes and their takeovers (R445), entry to safe state (R449), the
log (R455), and the commands of its family (R447, R451, R452, R456).
-/
namespace Sys2Proof.Machine

/-! ## Sources (R443, R455) -/

/-- Reserved sources are never raised. -/
def srcReserved (n : Nat) : Bool := decide (174 ≤ n ∧ n ≤ 253) || decide (256 ≤ n)

/-- The agent that a source names by itself (R443). -/
def srcAgent (n : Nat) : Nat :=
  if n < 96 then 0x40 + n else if n < 112 then agGs ((n - 96) % 8) else if 144 ≤ n ∧ n ≤ 147 then agHe (n - 144)
  else if n = 148 ∨ n = 149 then agSe (n - 148) else if 150 ≤ n ∧ n ≤ 153 then agPort (n - 150) else if n = 164 then agIsaim else 0xFF

/-- The agent of a raise. -/
def Raise.who (r : Raise) : Nat := if r.agent = 0xFF then srcAgent r.src else r.agent

/-- Can severity 2 freeze an agent for this source? -/
def srcFreezes (n : Nat) : Bool := decide (n < 112) || decide (148 ≤ n ∧ n ≤ 153) || decide (155 ≤ n ∧ n ≤ 157)

/-- A latched status bit. -/
def State.latched (s : State) (n : Nat) : Bool := s.regBit (Reg.FLT_STATUS (n / 32)) (n % 32)
/-- A cause bit. -/
def State.cause (s : State) (n : Nat) : Bool := s.regBit (Reg.FLT_CAUSE (n / 32)) (n % 32)
/-- Set or clear a cause bit. -/
def State.setCause (s : State) (n : Nat) (b : Bool) : State := s.setRegBit (Reg.FLT_CAUSE (n / 32)) (n % 32) b

/-- The details of a raise that the collector fills in itself: the work of a coding unit, the place of a sequencer (R455). -/
def State.details (s : State) (r : Raise) : Nat × Nat :=
  if r.src < 96 then
    match (s.unit (0x40 + r.src)).job with
    | some (.decode n) => (n, match (s.ctx n).busy with | some j => j.au.seq | none => 0xFFFFFFFF)
    | some (.encode n) => (n + 1024 + 1 * 65536, (s.rnd n).leafSeq)
    | some (.compose n) => (n + 1024 + 2 * 65536, 0xFFFFFFFF)
    | some (.still _) => (3 * 65536, 0xFFFFFFFF)
    | some (.flatten n) => (n + 1024 + 4 * 65536, 0xFFFFFFFF)
    | none => (0, 0xFFFFFFFF)
  else if r.src < 112 then
    let q := s.seq ((r.src - 96) % 8)
    (q.pc, q.opcode)
  else (r.d0, r.d1)

/-! ## The log (R455) -/

/-- Write an entry: the ring slot, its eight words, and what it overwrites. -/
def State.fltLog (s : State) (r : Raise) (sev : Nat) (down rep : Bool) : State :=
  let k := s.faults.logSeq % 64
  let d := s.details r
  let t := s.taiNs
  let w0 := r.src % 256 + sev * 2 ^ 8 + (if r.forced then 2 ^ 10 else 0) + (if down then 2 ^ 11 else 0) + (if rep then 2 ^ 12 else 0)
    + r.who * 2 ^ 16
  let ws := [w0, d.1, d.2, t % 1000000000, t / 1000000000 % 2 ^ 32, t / 1000000000 / 2 ^ 32 % 2 ^ 16, s.epoch, s.faults.logSeq + 1]
  let s1 := s.setRegs (Reg.FLT_LOG (8 * k)) (ws.map (BitVec.ofNat 32))
  let s2 := (s1.setRegF Reg.FLT_LOG_HEAD 0 6 ((k + 1) % 64)).bumpIf (decide (64 ≤ s.faults.logSeq)) Reg.FLT_LOG_LOST
  { s2 with faults := { s2.faults with logSeq := s.faults.logSeq + 1 } }

/-! ## Freeze and takeover (R445, R446) -/

/-- A decode goes back to the head of its context's queue; its buffers are free (R140). -/
def State.requeueDecode (s : State) (n : Nat) : State :=
  let x := s.ctx n
  match x.busy with
  | some j =>
    let hs := j.handle :: j.copies.map (fun c => c.2.2)
    hs.foldl State.freeOwn (s.setCtx n { x with busy := none, queue := { j.au with restarted := true } :: x.queue })
  | none => s

/-- A composition goes back to the head of its rendition's candidates (R263). -/
def State.requeueCompose (s : State) (n : Nat) : State :=
  let r := s.rnd n
  match r.wait with
  | c :: t => (s.setRnd n { r with cmpUnit := none, wait := { c with handle := 0, restarted := true, done := none } :: t }).freeOwn c.handle
  | [] => s

/-- An encode goes back to the head of the composed pictures (R193). -/
def State.requeueEncode (s : State) (n : Nat) : State :=
  let r := s.rnd n
  match r.encUnit with
  | some j => (s.setRnd n { r with encUnit := none, ready := { j.cand with restarted := true, starts := j.starts } :: r.ready }).freeOwn j.handle
  | none => s

/-- The work of a coding unit is dispatched again, by the kind of its record and the slot (R140, R193, R263). -/
def State.requeue (s : State) (kind slot : Nat) : State := match kind with
  | 0 => s.requeueDecode slot
  | 1 => s.requeueEncode slot
  | 2 => s.requeueCompose slot
  | _ => s

/-- The record that a frozen unit holds is discarded, and the work it reports is restarted (R404, R445). -/
def State.discardRecord (s : State) (agent : Nat) : State :=
  match s.heldRec agent with
  | none => s
  | some h => { s with ctl := { s.ctl with held := tput (fun _ => none) s.ctl.held agent none } }.requeue h.rcd.kind h.rcd.slot

/-- A coding unit is frozen: its picture restarts elsewhere, its pipeline is reset (R445). -/
def State.freezeUnit (s : State) (agent : Nat) : State :=
  let u := s.unit agent
  let s1 := match u.job with
    | some (.decode n) => s.requeue 0 n
    | some (.compose n) => s.requeue 2 n
    | some (.encode n) => s.requeue 1 n
    | _ => s.discardRecord agent
  ((s1.setUnit agent { u with job := none, restarted := false }).noCap agent).showUnit agent

/-- Release the buffers that an agent owns. -/
def State.releaseOwned (s : State) (agent : Nat) : State :=
  (s.pools.flatMap (fun q => q.2.owner.filterMap (fun e => if e.2 = agent + 1 then some (handleOf q.1 e.1) else none))).foldl State.freeOwn s

/-- Merge two completion queues in GSEQ order. -/
def mergeRecs (a b : List CRec) : List CRec := sortBy (fun (x y : CRec) => decide (x.gseq ≤ y.gseq)) (a ++ b)

/-- A sequencer is frozen: the lowest-numbered one in service takes over (R445). -/
def State.freezeSeq (s : State) (k : Nat) : State :=
  let q := s.seq k
  let s1 := s.setSeq k { q with state := .frozen, queue := [], item := none, fastItem := none }
  match (List.range 8).find? (fun i => (s1.seq i).inService) with
  | none => s1
  | some t =>
    let w := s1.seq t
    let s2 := (s1.setSeq t { w with queue := mergeRecs w.queue q.queue }).rehome (agGs k) (agGs t)
    let held := s2.ctl.held.map (fun h => (h.1, h.2.map (fun r => if r.dest = k then { r with dest := t } else r)))
    { s2 with ctl := { s2.ctl with held := held } }.raiseEvs (q.item.toList ++ q.fastItem.toList)

/-- DMA channel n. -/
def State.dmaCh (s : State) (n : Nat) : DmaCh := tget (fun _ => {}) s.dma n
/-- Replace DMA channel n. -/
def State.setDmaCh (s : State) (n : Nat) (x : DmaCh) : State := { s with dma := tput (fun _ => {}) s.dma n x }

/-- A signature engine is frozen: what it signed goes to the other one (R285, R445). -/
def State.freezeSe (s : State) (k : Nat) : State :=
  let w := if k = 0 then s.seals.se0 else s.seals.se1
  let s1 := s.setSe k none
  let s2 := match w with
    | some (.seal j) => { s1 with seals := { s1.seals with queue := j :: s1.seals.queue } }
    | some (.attest t) => { s1 with seals := { s1.seals with attests := t :: s1.seals.attests } }
    | _ => s1
  s2.startSign

/-- A port is frozen: it stops, reports link down, and the buffers it owns are free. -/
def State.freezePort (s : State) (p : Nat) : State :=
  let s1 := s.declareDown p
  (s1.setPort p { s1.port p with stopped := true }).releaseOwned (agPort p)

/-- A self-test in progress ends with RESULT 2 as its agent is frozen (R470). -/
def State.endTest (s : State) (agent : Nat) : State :=
  let s1 := (s.mgmt.tickets.filter (fun t => t.kind == 1 && t.running && !t.ready && t.param 0 1 == agent)).foldl
    (fun u t => u.readyTicket t.num 2 []) s
  if 0x40 ≤ agent ∧ agent < 0xA0 then s1.setUnit agent { s1.unit agent with test := none }
  else if 0xA0 ≤ agent ∧ agent < 0xA8 then s1.setSeq (agent - 0xA0) { s1.seq (agent - 0xA0) with out := false }
  else s1

/-- Freeze an agent for a source (R445). -/
def State.freezeAgent (s : State) (agent src : Nat) : State :=
  let s1 := s.setRegBit (Reg.FLT_FROZEN (agent / 32)) (agent % 32) true
  let s2 := ({ s1 with faults := { s1.faults with frozenBy := tput (fun _ => 0) s1.faults.frozenBy agent (src + 1) } }).endTest agent
  if 0x40 ≤ agent ∧ agent < 0xA0 then s2.freezeUnit agent
  else if agent < 0x40 then
    let by_ := (s2.dmaCh agent).armedBy
    ((s2.rehome agent (agGs by_)).setRegF (Reg.DMA_STATUS agent) 0 3 5).directEvent (256 + src) by_
  else if 0xA0 ≤ agent ∧ agent < 0xA8 then s2.freezeSeq (agent - 0xA0)
  else if 0xA8 ≤ agent ∧ agent < 0xAC then s2.freezePort (agent - 0xA8)
  else if 0xB0 ≤ agent ∧ agent < 0xB2 then s2.freezeSe (agent - 0xB0)
  else s2

/-- Is the agent the last one in service of a kind on which sealing or control depends (R446)? `gone` are agents that freeze in the same instant. -/
def State.lastOfKind (s : State) (agent : Nat) (gone : List Nat) : Bool :=
  if 0xB0 ≤ agent ∧ agent < 0xB2 then
    let o := 0xB0 + (0xB1 - agent)
    s.frozen o || gone.contains o || s.inTest o || s.failedTest o
  else if 0xA0 ≤ agent ∧ agent < 0xA8 then
    !(List.range 8).any (fun i => agGs i != agent && (s.seq i).inService && !gone.contains (agGs i))
  else false

/-! ## Safe state (R449) -/

/-- Work of the coding array is abandoned: leaves keep their places in the chains, pictures not encoded are discarded (R300, R301, R314). -/
def State.abandonCoding (s : State) : State :=
  let s1 := s.ctxs.foldl (fun t q => match q.2.busy with
    | some j =>
      let hs := j.handle :: j.copies.map (fun c => c.2.2)
      hs.foldl State.freeOwn (t.setCtx q.1 { q.2 with busy := none, queue := [] })
    | none => if q.2.queue.isEmpty then t else t.setCtx q.1 { q.2 with queue := [] }) s
  let s2 := s1.rnds.foldl (fun t q =>
    let r := q.2
    let hs := r.wait.map (·.handle) ++ r.ready.map (·.handle) ++ (match r.encUnit with | some e => [e.cand.handle, e.handle] | none => [])
    let kept := hs.filter (fun h => !t.stills.any (fun x => x.handle == h && x.rnd.isSome))
    let t1 := kept.foldl State.freeOwn (t.setRnd q.1 { r with wait := [], ready := [], encUnit := none, cmpUnit := none, ending := none })
    match r.ending with
    | some e => t1.closeReam (rndSlot q.1) e
    | none => t1) s1
  s2.units.foldl (fun t q => match q.2.job with
    | none => t
    | some (.still _) => t
    | some _ => (t.setUnit q.1 { q.2 with job := none, restarted := false }).showUnit q.1) s2

/-- Every session, context and rendition leaves OPEN (R86, R88, R449). Requests that wait for an evaluation are withdrawn. -/
def State.leaveAll (s : State) : State :=
  let s1 := s.refuseWaiting.abortAll 4
  let s2 := (s1.contexts (· == 1)).foldl State.freeCtx s1
  let s3 := (s2.contexts (· == 2)).foldl State.ctxLeaveOpen s2
  let s4 := (s3.renditions (· == 1)).foldl State.freeRnd s3
  let s5 := (s4.renditions (· == 2)).foldl State.rndLeaveOpen s4
  { s5 with adm := { s5.adm with reqs := [] } }

/-- The slots with an entry take it as their link; the reams with entries end where the manifest leaves them (R302, R314). -/
def State.endEntries (s : State) : State :=
  let link := fun (t : Tab (Option (Nat × Bytes))) (e : Nat × Nat × Bytes) => match tget (fun _ => none) t e.1 with
    | some q => if q.1 < e.2.1 then tput (fun _ => none) t e.1 (some e.2) else t
    | none => tput (fun _ => none) t e.1 (some e.2)
  let links := s.power.entries.foldl link s.seals.links
  let slots := s.seals.slots.map (fun q => (q.1, { q.2 with ream := none, await := [] }))
  { s with seals := { s.seals with links := links, slots := slots.filter (fun q => q.2 != {}) } }

/-- The commit of R314: steps 2 to 6 of R299 with CAUSE 3; complete at once where no manifest can be made (R312). -/
def State.safeCommit (s : State) : State :=
  if s.canCommit then
    let s1 := (s.commitChains 3).endEntries
    ((s1.setRegF Reg.ISA_STATUS 0 3 1).setRegF Reg.ISA_STATUS 3 2 3)
  else
    let s1 := { s with power := { s.power with entries := [] } }.endEntries
    let s2 := { s1 with power := { s1.power with phase := .done } }
    (s2.setRegF Reg.ISA_STATUS 0 3 3).setRegF Reg.ISA_STATUS 3 2 3

/-- Entry to safe state for sources (R448, R449). `src`: the source that first caused it. -/
def State.enterSafe (s : State) (src : Nat) (srcs : List Nat) : State :=
  let s1 := { s with power := { s.power with safe := true }, faults := { s.faults with safeSrcs := s.faults.safeSrcs ++ srcs } }
  let s2 := ((s1.setRegF Reg.FLT_GLOBAL 8 8 src).setRegBit Reg.FLT_GLOBAL 16 true).nightExit
  (s2.leaveAll.abandonCoding.safeCommit).settleSlots

/-! ## Raising (R440 to R442, R450) -/

/-- What a raise will do: the severity of the reaction taken, DOWNGRADED, REPEAT, and the agent that freezes. -/
structure React where
  r : Raise
  sev : Nat
  down : Bool := false
  rep : Bool := false
  deriving DecidableEq, Repr

/-- The reaction of one raise, with the agents that this instant freezes so far. -/
def State.plan1 (s : State) (gone : List Nat) (r : Raise) : React × List Nat :=
  let sev := s.sevSoon r.src
  let a := r.who
  if s.latched r.src then ({ r, sev := min sev 1, rep := true }, gone)
  else if s.power.safe || s.power.failing then ({ r, sev := min sev 1 }, gone)
  else if sev ≠ 2 then ({ r, sev }, gone)
  else if !srcFreezes r.src || a == 0xFF || s.frozen a || gone.contains a then ({ r, sev := 1 }, gone)
  else if s.lastOfKind a gone then ({ r, sev := if a < 0xA8 then 3 else 1, down := true }, gone)
  else ({ r, sev := 2 }, gone ++ [a])

/-- The reactions of the raises of one instant, in ascending source number. -/
def State.planAll (s : State) : List Nat → List Raise → List React
  | _, [] => []
  | gone, r :: rs => let q := s.plan1 gone r; q.1 :: s.planAll q.2 rs

/-- Raises of one source in one instant are one raise; a force among them sets FORCED (R442). -/
def mergeRaises : List Raise → List Raise
  | [] => []
  | r :: rs =>
    let t := mergeRaises rs
    if t.any (fun q => q.src == r.src) then t.map (fun q => if q.src = r.src then { (if q.forced then r else q) with forced := q.forced || r.forced } else q)
    else r :: t

/-- Does a real raise of the source hold its cause after its log entry is written (R444)? `frozen`: the reaction was a freeze. -/
def holdsCause (n : Nat) (frozen : Bool) : Bool :=
  if n < 112 ∨ (148 ≤ n ∧ n ≤ 153) then frozen
  else decide (128 ≤ n ∧ n ≤ 147) || n == 154 || decide (161 ≤ n ∧ n ≤ 167) || decide (254 ≤ n)

/-- The sources that this instant raised so far. -/
def State.rose (s : State) : List Nat := if s.faults.rose.1 = s.now then s.faults.rose.2 else []

/-- Latch, count, log and cause of one raise. -/
def State.noteRaise (s : State) (x : React) : State :=
  let n := x.r.src
  let s0 := { s with faults := { s.faults with rose := (s.now, n :: s.rose) } }
  let s1 := ((s0.setRegBit (Reg.FLT_STATUS (n / 32)) (n % 32) true).bump32 (Reg.FLT_COUNT n) 1).fltLog x.r x.sev x.down x.rep
  let s2 := s1.bumpIf x.down Reg.FLT_DOWNGRADED
  let s3 := if holdsCause n (x.sev == 2) && !x.r.forced then s2.setCause n true else s2
  if 254 ≤ n then s3.setRegBit Reg.FLT_GLOBAL 5 true else s3

/-- Raise the sources of one instant (R440 to R442, R445, R446, R449, R450). -/
def State.raiseFaults (s : State) (rs : List Raise) : State :=
  let rs' := sortBy (fun (a b : Raise) => decide (a.src ≤ b.src)) (mergeRaises (rs.filter (fun r => !srcReserved r.src)))
  let ps0 := s.planAll [] rs'
  let safe := ps0.any (fun x => x.sev == 3)
  let ps := if safe then ps0.map (fun x => if x.sev = 2 then { x with sev := 1 } else x) else ps0
  let s1 := ps.foldl State.noteRaise s
  let s2 := s1.raiseEvs ((ps.filter (fun x => decide (1 ≤ x.sev))).map (fun x => 256 + x.r.src))
  let s3 := match (ps.filter (fun x => x.sev == 3)).map (fun x => x.r.src) with
    | [] => s2
    | src :: t => s2.enterSafe src (src :: t)
  let s4 := (ps.filter (fun x => x.sev == 2)).foldl (fun t x => t.freezeAgent x.r.who x.r.src) s3
  s4.syncState

/-- Raise a source. -/
def State.raiseFault (s : State) (r : Raise) : State := s.raiseFaults [r]

/-- Is a command the raise of a source? -/
def isRaise : Instr → Bool
  | .fltForce _ => true
  | .internalCheckFailure .. => true
  | .unitProgressTimeout _ => true
  | .xopTimeout _ => true
  | .regulatorOutOfRange => true
  | _ => false

/-- What a command that raises sources comes to: the raises of one instant are taken together once its last one has come (R442). `r` is none where the
condition of the raise does not hold. -/
def State.raiseTogether (s : State) (r : Option Raise) : State :=
  let l := s.faults.arrived ++ r.toList
  if s.pending.any isRaise then { s with faults := { s.faults with arrived := l } }
  else if l.isEmpty then s else ({ s with faults := { s.faults with arrived := [] } }).raiseFaults l

end Sys2Proof.Machine
end

