-- ==== Sys2Proof/Machine/Memory.lean ====
section
/-!
DEFINITION. The memory ports (14_memory.md): the address map, the symbol code, line reads and writes, the log, the patrol, the probe, refresh,
the fill and night retention.
-/
namespace Sys2Proof.Machine

/-! ## The address map (R335 to R337) -/

/-- A mask of GLB_MEM_MAP: 0 to 6 are PORT0, PORT1, PORT2, BG0, BG1, BA0, BA1. -/
def State.memMask (s : State) (k : Nat) : Nat :=
  (s.cfg (Reg.GLB_MEM_MAP_PORT0_LO + 8 * k)).toNat + (s.cfg (Reg.GLB_MEM_MAP_PORT0_HI + 8 * k)).toNat * 2 ^ 32

/-- XOR of the bits of a number. -/
def parity : Nat → Nat → Bool
  | 0, _ => false
  | n + 1, v => xor (v % 2 == 1) (parity n (v / 2))

/-- A select bit of an address. -/
def State.memSel (s : State) (k a : Nat) : Bool := parity 37 (a &&& s.memMask k)

/-- Four ports in use. -/
def State.ports4 (s : State) : Bool := s.cfgBit Reg.GLB_MEM_CFG 2

/-- The port of an address. -/
def State.memPortOf (s : State) (a : Nat) : Nat :=
  (if s.memSel 0 a then 1 else 0) + (if s.memSel 1 a then 2 else 0) + (if !s.ports4 && s.memSel 2 a then 4 else 0)

/-- Bank group and bank of an address. -/
def State.memBank (s : State) (a : Nat) : Nat × Nat :=
  ((if s.memSel 3 a then 1 else 0) + (if s.memSel 4 a then 2 else 0), (if s.memSel 5 a then 1 else 0) + (if s.memSel 6 a then 2 else 0))

/-- The home bit of a mask: its lowest bit. -/
def homeBit (m : Nat) : Nat := ((List.range 37).find? (fun i => m / 2 ^ i % 2 == 1)).getD 37

/-- Column and row of an address: the bits of A[36:7] that are not home bits, the lowest 6 first. -/
def State.memColRow (s : State) (a : Nat) : Nat × Nat :=
  let homes := ((List.range 7).filter (fun k => !(s.ports4 && k == 2))).map (fun k => homeBit (s.memMask k))
  let bits := ((List.range 30).map (· + 7)).filter (fun i => !homes.contains i)
  let v := bits.foldr (fun i acc => a / 2 ^ i % 2 + 2 * acc) 0
  (v % 64, v / 64)

/-- Is the address in the installed devices (R333)? -/
def State.memPresent (s : State) (a : Nat) : Bool := decide (a < s.memMib * 2 ^ 20)

/-! ## The symbol code (R338 to R341) -/

/-- Multiply by α. -/
def gfx2 (b : Byte) : Byte := (b <<< 1) ^^^ (if b.getLsbD 7 then 0x1D#8 else 0#8)

/-- Multiply in GF(2^8). -/
def gfMul : Nat → Byte → Byte → Byte
  | 0, _, _ => 0#8
  | n + 1, a, b => (if b.getLsbD 0 then a else 0#8) ^^^ gfMul n (gfx2 a) (b >>> 1)

/-- Σ v_i over symbols. -/
def gfSum (v : Bytes) : Byte := v.foldl (· ^^^ ·) 0#8

/-- Σ v_i · α^i, the first symbol at position 0. -/
def gfEval (v : Bytes) : Byte := v.foldr (fun x acc => x ^^^ gfx2 acc) 0#8

/-- The ten symbols of a beat: c0, c1, d0 to d7 (R339). 0xF4 is 1 / 0x03. -/
def rsEncode (d : Bytes) : Bytes :=
  let p := gfSum d
  let q := gfx2 (gfx2 (gfEval d))
  let c1 := gfMul 8 (p ^^^ q) 0xF4#8
  (p ^^^ c1) :: c1 :: d

/-- What the port decides of a beat (R339): its data with the number of symbols corrected, or its syndromes. -/
inductive Beat
  | good (data : Bytes) (fixed : Nat)
  | bad (s0 s1 : Byte)
  deriving DecidableEq, Repr

/-- S0 · α^i for the first i below n that gives S1. -/
def errPos : Nat → Nat → Byte → Byte → Option Nat
  | 0, _, _, _ => none
  | n + 1, i, x, s1 => if x = s1 then some i else errPos n (i + 1) (gfx2 x) s1

/-- Decode a beat's ten symbols. -/
def rsDecode (v : Bytes) : Beat :=
  let s0 := gfSum v
  let s1 := gfEval v
  if s0 = 0#8 ∧ s1 = 0#8 then .good (v.drop 2) 0
  else if s0 = 0#8 ∨ s1 = 0#8 then .bad s0 s1
  else match errPos 10 0 s0 s1 with
    | some i => .good ((v.modify i (· ^^^ s0)).drop 2) 1
    | none => .bad s0 s1

/-- The symbols that the port reads of beat b: data, checks, the poison mark of R342, and the errors of this read. -/
def beatSyms (line : Bytes) (mark : Bool) (errs : List SymErr) (b : Nat) : Bytes :=
  let v := rsEncode (slice (8 * b) 8 line)
  let w := if mark then (v.modify 0 (· ^^^ 0xFF#8)).modify 1 (· ^^^ 0xFF#8) else v
  (errs.filter (fun e => e.beat == b)).foldl (fun u e => u.modify e.pos (· ^^^ e.xor)) w

/-- A line as the port reads it. -/
def readBeats (line : Bytes) (mark : Bool) (errs : List SymErr) : List Beat := (List.range 16).map (fun b => rsDecode (beatSyms line mark errs b))

/-- Is the beat uncorrectable? -/
def Beat.isBad : Beat → Bool
  | .bad _ _ => true
  | .good _ _ => false

/-- A beat's data, and the symbols corrected in it. -/
def Beat.data : Beat → Bytes
  | .good d _ => d
  | .bad _ _ => []
def Beat.fixed : Beat → Nat
  | .good _ n => n
  | .bad _ _ => 0

/-- Does the beat read as the poison mark does (R342)? -/
def Beat.isMark : Beat → Bool
  | .bad s0 s1 => s0 == 0x00#8 && s1 == 0x1C#8
  | .good _ _ => false

/-! ## Ports and their log (R347, R350) -/

/-- Memory port p. -/
def State.memPort (s : State) (p : Nat) : MemPort := tget (fun _ => {}) s.mem.ports p
/-- Replace memory port p. -/
def State.setMemPort (s : State) (p : Nat) (x : MemPort) : State :=
  { s with mem := { s.mem with ports := tput (fun _ => {}) s.mem.ports p x } }

/-- MEM_STATUS.STATE of a port. -/
def State.memState (s : State) (p : Nat) : Nat := s.regF (Reg.MEM_STATUS p) 0 3

/-- The ports in use. -/
def State.memPortList (s : State) : List Nat := List.range (if s.ports4 then 4 else 8)

/-- WQ_FILL follows the queue. -/
def State.showWq (s : State) (p : Nat) : State := s.setRegF (Reg.MEM_STATUS p) 4 7 (s.memPort p).wq.length

/-- What a log entry records of a line. -/
structure MemErr where
  kind : Nat
  self : Bool
  s0 : Nat := 0
  s1 : Nat := 0
  beats : Nat := 0
  first : Nat := 0
  deriving DecidableEq, Repr

/-- The record of an uncorrectable line. -/
def memErrOf (kind : Nat) (self : Bool) (bs : List Beat) : MemErr :=
  let bad := (List.range 16).filter (fun b => (bs.getD b (.good [] 0)).isBad)
  let f := bad.headD 0
  match bs.getD f (.good [] 0) with
  | .bad s0 s1 => { kind, self, s0 := s0.toNat, s1 := s1.toNat, beats := sumNat (bad.map (2 ^ ·)), first := f }
  | .good _ _ => { kind, self }

/-- Write a log entry and raise the port's event of UE_EVT; kinds 1, 2, 3 and 5 raise its uncorrectable-memory source (R347, R350, R403). -/
def State.memLog (s : State) (p a agent : Nat) (e : MemErr) : State :=
  let x := s.memPort p
  let k := x.logSeq % 16
  let t := s.taiNs
  let line := a / 128 * 128
  let ws := [line % 2 ^ 32, line / 2 ^ 32 % 32,
    (if e.self then 0 else agent % 256) + e.kind * 2 ^ 8 + (if e.self then 2 ^ 12 else 0) + e.s0 * 2 ^ 16 + e.s1 * 2 ^ 24,
    e.beats + e.first * 2 ^ 16, t % 1000000000, t / 1000000000 % 2 ^ 32, t / 1000000000 / 2 ^ 32 % 2 ^ 16, x.logSeq + 1]
  let s1 := (s.setRegs (Reg.MEM_LOG p (8 * k)) (ws.map (BitVec.ofNat 32))).setRegF (Reg.MEM_LOG_HEAD p) 0 4 ((k + 1) % 16)
  let s2 := (s1.bumpIf (decide (16 ≤ x.logSeq)) (Reg.MEM_LOG_LOST p)).setRegBit (Reg.MEM_STATUS p) 16 true
  let s3 := (s2.setMemPort p { s2.memPort p with logSeq := x.logSeq + 1 }).raiseEv (84 + p)
  if e.kind = 4 then s3 else s3.raiseFault { src := 112 + p, d0 := x.logSeq + 1 }

/-- Answer a requester; the answers of one instant stand in a row. -/
def State.respond (s : State) (agent addr : Nat) (data : Option Bytes) : State :=
  { s with mem := { s.mem with resp := s.mem.resp.filter (fun r => r.at_ == s.now) ++ [{ at_ := s.now, agent, addr, data }] } }

/-! ## Line reads -/

/-- The write-back of a corrected line (R348). -/
def State.writeBack (s : State) (p line : Nat) (d : Bytes) : State :=
  let cells := putBytes s.mem.cells (line * 128) d
  ({ s with mem := { s.mem with cells := cells } }).bump (Reg.MEM_SCRUB_FIX p)

/-- A read of a DRAM line by its port: data, or none where the line is uncorrectable. `kind` is the kind that an uncorrectable line
without the poison mark has; `keep` writes a corrected line back (R339, R347, R348). -/
def State.readLine (s : State) (p a agent kind : Nat) (self keep : Bool) (errs : List SymErr) : Option Bytes × State :=
  let line := a / 128
  let bs := readBeats (s.getMem (line * 128) 128) (s.lineMarked a) errs
  let s1 := s.bump (Reg.MEM_RD_LINES p)
  if bs.any Beat.isBad then
    let k := if bs.all Beat.isMark && kind == 1 then 5 else kind
    (none, (s1.bump (Reg.MEM_UE_LINES p)).memLog p a agent (memErrOf k self bs))
  else
    let d := bs.flatMap Beat.data
    let n := sumNat (bs.map Beat.fixed)
    if n = 0 then (some d, s1) else
    let s2 := s1.bumpN (Reg.MEM_CE_SYMBOLS p) n
    let s3 := if keep then s2.writeBack p line d else s2
    (some d, s3.raiseFault { src := 120 + p })

/-- A unit's read of the line that holds A is uncorrectable (R342, R347): the port counts and logs it. On a line without the poison mark the log's
syndromes and beats are free values (log entry 100). -/
def State.poisonedRead (s : State) (agent a : Nat) : State :=
  let p := s.memPortOf a
  let s1 := s.bump (Reg.MEM_UE_LINES p)
  if s.lineMarked a then s1.memLog p a agent { kind := 5, self := false, s1 := 0x1C, beats := 0xFFFF }
  else
    let x := s1.fresh 8
    let y := x.2.fresh 8
    let z := y.2.fresh 16
    let f := z.2.fresh 4
    f.2.memLog p a agent { kind := 1, self := false, s0 := x.1, s1 := y.1, beats := z.1, first := f.1 }

/-- Is a write of the line queued? -/
def State.queuedWrite (s : State) (p line : Nat) : Bool := (s.memPort p).wq.any (fun e => e.line == line)

/-- Does a queued write of the line hold every one of `n` bytes from an offset (R345)? -/
def State.forwards (s : State) (p line off n : Nat) : Bool :=
  (s.memPort p).wq.any (fun e => e.line == line && (List.range n).all (fun i => e.mask.getLsbD (off + i)))

/-- Issue the queued write of a line ahead of the others (R345). -/
def State.issueLine (s : State) (p line : Nat) : State :=
  let x := s.memPort p
  if !s.queuedWrite p line then s else
  ((s.setMemPort p { x with wq := x.wq.filter (fun e => e.line != line) }).bump (Reg.MEM_WR_LINES p)).showWq p

/-- A read of `n` bytes of one line at A: the data, or none for poison (R337, R343, R345, R347, R352). A queued write that holds all of them forwards
them; one that holds the line in part is issued first. -/
def State.memRead (s : State) (agent a n : Nat) (errs : List SymErr) : Option Bytes × State :=
  let p := s.memPortOf a
  let off := a % 128
  let part := fun (d : Bytes) => slice off (min n (128 - off)) d
  if a < 2 ^ 20 then (none, s.memLog p a agent { kind := 4, self := false })
  else
    let s1 := s.fillChunk (a / 2 ^ 20)
    if s1.forwards p (a / 128) off (min n (128 - off)) then
      (if s1.lineMarked a then none else some (part (s1.getMem (a / 128 * 128) 128)), s1)
    else
      let r := (s1.issueLine p (a / 128)).readLine p a agent 1 false true errs
      (r.1.map part, r.2)

/-! ## Line writes (R342 to R346) -/

/-- Issue the oldest queued writes until `n` remain. -/
def State.issueTo (s : State) (p n : Nat) : State :=
  let x := s.memPort p
  let k := x.wq.length - n
  if k = 0 then s else
  ((s.setMemPort p { x with wq := x.wq.drop k }).bumpN (Reg.MEM_WR_LINES p) k).showWq p

/-- A drain: from the start until LOW entries remain, within the instant; DRAINING shows it until the tick ends (R346, R360; log entry 56). -/
def State.drain (s : State) (p : Nat) : State :=
  ((s.bump (Reg.MEM_DRAINS p)).setRegBit (Reg.MEM_STATUS p) 3 true).issueTo p (s.cfgF (Reg.MEM_WQ_LOW p) 0 7)

/-- A queue that holds HIGH entries drains: a lower HIGH was announced (R346). -/
def State.drainDue (s : State) (p : Nat) : State :=
  if s.memState p = 2 ∧ s.cfgF (Reg.MEM_WQ_HIGH p) 0 7 ≤ (s.memPort p).wq.length then s.drain p else s

/-- Accept a write of some bytes of a line into the write queue, merging with a queued write of the same line; a full queue drains (R345, R346). `d` is
the whole line as it then is. -/
def State.acceptLine (s : State) (p agent line : Nat) (mask : BitVec 128) (d : Bytes) (mark : Bool) : State :=
  let x := s.memPort p
  let ent : WqEnt := { line := line, at_ := s.now, agent := agent, mask := mask }
  let wq := if x.wq.any (fun e => e.line == line) then x.wq.map (fun e => if e.line = line then { e with mask := e.mask ||| mask } else e)
    else x.wq ++ [ent]
  let s1 := (s.setMemPort p { x with wq := wq }).showWq p
  let cells := putBytes s1.mem.cells (line * 128) d
  let s2 := ({ s1 with mem := { s1.mem with cells := cells } }).markLine line mark
  if s.cfgF (Reg.MEM_WQ_HIGH p) 0 7 ≤ wq.length then s2.drain p else s2

/-- The bytes of a line with the enabled bytes replaced. -/
def mergeBytes (mask : BitVec 128) (new old : Bytes) : Bytes :=
  (List.range 128).map (fun i => if mask.getLsbD i then new.getD i 0#8 else old.getD i 0#8)

/-- A write of a line or part of one: whether it completed without poison, and the state (R337, R342, R344, R347). -/
def State.memWrite (s : State) (agent a : Nat) (mask : BitVec 128) (data : Bytes) (poison : Bool) (errs : List SymErr) : Bool × State :=
  let p := s.memPortOf a
  let line := a / 128
  if a < 2 ^ 20 then (true, s.memLog p a agent { kind := 4, self := false })
  else
    let s1 := s.fillChunk (a / 2 ^ 20)
    if mask = BitVec.allOnes 128 then (true, s1.acceptLine p agent line mask (mergeBytes mask data []) poison)
    else
      let s2 := s1.bump (Reg.MEM_RMW p)
      let old := s2.getMem (line * 128) 128
      let r := if s2.queuedWrite p line then (if s2.lineMarked a then none else some old, s2)
        else s2.readLine p a agent 3 false false errs
      match r.1 with
      | some o => (true, r.2.acceptLine p agent line mask (mergeBytes mask data o) poison)
      | none => (false, r.2.acceptLine p agent line mask (mergeBytes mask data old) true)

/-- A unit's write of a buffer: a line written in part is read, merged and written back, and one that cannot be read keeps the poison mark (R344). -/
def State.unitWrite (s : State) (agent a : Nat) (b : Bytes) : State :=
  if !isDram a then s.putMem a b else
  ((partLines a b.length).foldl (fun t l =>
    let p := t.memPortOf (128 * l)
    let t1 := t.bump (Reg.MEM_RMW p)
    if !t1.lineMarked (128 * l) then t1
    else (t1.bump (Reg.MEM_UE_LINES p)).memLog p (128 * l) agent { kind := 3, self := false, s1 := 0x1C, beats := 0xFFFF })
    (s.touch a b.length)).putMem a b

/-! ## The order of requests (R343) -/

/-- Who sends a request, and where to. -/
def MemReq.agent : MemReq → Nat
  | .read g _ _ _ => g
  | .write g _ _ _ _ _ => g
def MemReq.addr : MemReq → Nat
  | .read _ a _ _ => a
  | .write _ a _ _ _ _ => a

/-- Perform and answer one request. -/
def State.serveReq (s : State) : MemReq → State
  | .read agent a n errs => let r := s.memRead agent a n errs; r.2.respond agent a r.1
  | .write agent a mask data poison errs =>
    let r := s.memWrite agent a mask data poison errs
    r.2.respond agent a (if r.1 then some [] else none)

/-- Accept requests in order while the read queue has room; the reads that find it full wait at their agents. The write queue drains before it is full. -/
def State.acceptReqs : Nat → List MemReq → State → State × List MemReq
  | _, [], s => (s, [])
  | room, q :: t, s => match q, room with
    | .read .., 0 => (let r := State.acceptReqs 0 t s; (r.1, q :: r.2))
    | .read .., k + 1 => State.acceptReqs k t (s.serveReq q)
    | .write .., k => State.acceptReqs k t (s.serveReq q)

/-- Serve the requests of an instant: 128 reads fill the read queue, and those that wait follow once it is served. -/
def State.serveAll : Nat → List MemReq → State → State
  | 0, _, s => s
  | fuel + 1, l, s => match l with
    | [] => s
    | _ => (let r := s.acceptReqs 128 l; State.serveAll fuel r.2 r.1)

/-- Is a command a request to the port? -/
def State.isReqTo (s : State) (p : Nat) : Instr → Bool
  | .memReadRequest _ a _ _ => s.memPresent a && s.memPortOf a == p
  | .memWriteRequest _ a _ _ _ _ => s.memPresent a && s.memPortOf a == p
  | _ => false

/-- A request reaches its port. One alone in its instant is served at once; those of one
instant are accepted in ascending agent ID once the last has come. -/
def State.memRequest (s : State) (p : Nat) (q : MemReq) : State :=
  let l := (s.memPort p).arrivals ++ [q]
  if s.pending.any (s.isReqTo p) then s.setMemPort p { s.memPort p with arrivals := l }
  else if l.length = 1 then s.serveReq q
  else State.serveAll l.length (sortBy (fun x y => decide (x.agent ≤ y.agent)) l) (s.setMemPort p { s.memPort p with arrivals := [] })

/-! ## The commands -/

/-- MEM_READ_REQUEST: a read of part of one line (R343, R347). A port that is not running takes no
request, and a frozen agent's requests stall (R445). -/
def execMemReadRequest (agent a n : Nat) (errs : List SymErr) (s : State) : Host.Outcome State Fault Refusal :=
  if !s.memPresent a then .fault (.absentMemory a)
  else if s.memState (s.memPortOf a) ≠ 2 ∨ s.frozen agent = true then .next s
  else .next (s.memRequest (s.memPortOf a) (.read agent a n errs))

/-- MEM_WRITE_REQUEST: a write of the enabled bytes of one line; `poison` is an error that arrives with the data (R342 to R345). -/
def execMemWriteRequest (agent a : Nat) (mask : BitVec 128) (data : Bytes) (poison : Bool) (errs : List SymErr) (s : State) :
    Host.Outcome State Fault Refusal :=
  if !s.memPresent a then .fault (.absentMemory a)
  else if s.memState (s.memPortOf a) ≠ 2 ∨ s.frozen agent = true then .next s
  else .next (s.memRequest (s.memPortOf a) (.write agent a mask data poison errs))

/-- WRITE_AGE_DRAIN: the oldest queued write has waited 20 µs (R346). -/
def execWriteAgeDrain (p : Fin 8) (s : State) : Host.Outcome State Fault Refusal :=
  match (s.memPort p).wq with
  | e :: _ => if e.at_ + usT 20 ≤ s.now then .next (s.drain p) else .next s
  | [] => .next s

/-- MEM_READ_TIMEOUT: the devices give no data for a read (R347). -/
def execMemReadTimeout (agent a : Nat) (s : State) : Host.Outcome State Fault Refusal :=
  let p := s.memPortOf a
  if !s.memPresent a || decide (a < 2 ^ 20) || s.memState p != 2 || s.queuedWrite p (a / 128) then .next s
  else
    let s1 := (s.fillChunk (a / 2 ^ 20)).bump (Reg.MEM_TIMEOUTS p)
    .next ((s1.memLog p a agent { kind := 2, self := false }).respond agent a none)

/-- The next usable line of a port from a line on, in ascending address order. -/
def State.nextLine (s : State) (p : Nat) : Nat → Nat → Option Nat
  | 0, _ => none
  | fuel + 1, l => if s.memPortOf (l * 128) = p then some l else s.nextLine p fuel (l + 1)

/-- Ticks between two patrol reads of a port: PASS_H hours over its usable lines (R349). -/
def State.patrolGap (s : State) : Nat :=
  sT (3600 * s.cfgF Reg.GLB_MEM_SCRUB 0 8) / (max 1 ((s.memMib - 1) * 8192 / (if s.ports4 then 4 else 8)))

/-- The line that the patrol of a port reads next: from its place in ascending order, and after the last usable line from the first one again
(R349). -/
def State.patrolLine (s : State) (p : Nat) : Option Nat :=
  let last := s.memMib * 8192
  let x := s.memPort p
  let from_ := if x.scrub < 8192 ∨ last ≤ x.scrub then 8192 else x.scrub
  match s.nextLine p 8192 from_ with
  | some l => if l < last then some l else s.nextLine p 8192 8192
  | none => s.nextLine p 8192 8192

/-- Is night retention entered, kept or left (R357)? -/
def State.nightOn (s : State) : Bool := s.regF Reg.GLB_MEM_NIGHT 16 2 != 0

/-- PATROL_SCRUB_READ: the patrol's next line (R349); night retention stops the patrol (R357). -/
def execPatrolScrubRead (p : Fin 8) (errs : List SymErr) (s : State) : Host.Outcome State Fault Refusal :=
  let x := s.memPort p
  if s.memState p ≠ 2 ∨ s.nightOn = true ∨ s.cfgF Reg.GLB_MEM_SCRUB 0 8 = 0 ∨ s.now < x.lastScrub + s.patrolGap then .next s else
  match s.patrolLine p with
  | none => .next s
  | some l =>
    let a := l * 128
    let s1 := (s.setMemPort p { x with scrub := l + 1, lastScrub := s.now }).fillChunk (a / 2 ^ 20)
    if s1.queuedWrite p l then .next s1 else .next (s1.readLine p a 0 1 true true errs).2

/-- The lower margin of a slice's two lanes, in each direction. -/
def Margin.lower (a b : Margin) : Nat × Nat × Nat × Nat :=
  (min 32 (min a.rdL b.rdL), min 32 (min a.rdR b.rdR), min 32 (min a.wrL b.wrL), min 32 (min a.wrR b.wrR))

/-- A port's probe; the margins of the ten lanes come from the board, lanes 0 and 1 of slice 0 first (R354, R355). -/
def State.probe (s : State) (p : Nat) (ms : List Margin) : State :=
  let s1 := s.setMemPort p { s.memPort p with lastProbe := s.now }
  let zero : Margin := { rdL := 0, rdR := 0, wrL := 0, wrR := 0 }
  let r := (List.range 5).map (fun k => Margin.lower (ms.getD (2 * k) zero) (ms.getD (2 * k + 1) zero))
  let ws := r.map (fun (m : Nat × Nat × Nat × Nat) => BitVec.ofNat 32 (m.1 + m.2.1 * 2 ^ 8 + m.2.2.1 * 2 ^ 16 + m.2.2.2 * 2 ^ 24))
  let s2 := s1.setRegs (Reg.MEM_MARGIN p 0) ws
  let warn := s.cfgF Reg.GLB_MEM_PROBE 16 6
  let low := (List.range 5).filter (fun k => match r.getD k (0, 0, 0, 0) with
    | (a, b, c, d) => decide (a < warn) || decide (b < warn) || decide (c < warn) || decide (d < warn))
  match low with
  | [] => s2.setCause (128 + p) false
  | _ :: _ => (s2.setRegBit (Reg.MEM_STATUS p) 17 true).raiseFault { src := 128 + p }

/-- MARGIN_PROBE: due every PERIOD_S seconds (R354); a port in self-refresh skips it (R355), and one that enters it too (R357). -/
def execMarginProbe (p : Fin 8) (ms : List Margin) (s : State) : Host.Outcome State Fault Refusal :=
  let x := s.memPort p
  if s.now < x.lastProbe + sT (s.cfgF Reg.GLB_MEM_PROBE 0 12) ∨ (s.memState p ≠ 2 ∧ s.memState p ≠ 3) then .next s
  else if s.memState p = 3 ∨ s.nightOn = true then .next (s.setMemPort p { x with lastProbe := s.now })
  else .next (s.probe p ms)

/-- REFRESH: the per-bank refresh that the interval in force asks for (R356). -/
def execRefresh (p : Fin 8) (s : State) : Host.Outcome State Fault Refusal :=
  let x := s.memPort p
  if s.memState p = 2 ∧ x.lastRefresh + x.refresh ≤ s.now then .next (s.setMemPort p { x with lastRefresh := s.now }) else .next s

/-- REFRESH_RATE_READ: every 16 ms the port reads from each channel the interval it asks for, in ticks, and whether it is above its
operating limit (R356). The shortest interval that a channel asks for is in force (PRESUMED, log entry 17). -/
def execRefreshRateRead (p : Fin 8) (rs : List (Nat × Bool)) (s : State) : Host.Outcome State Fault Refusal :=
  let x := s.memPort p
  if s.memState p ≠ 2 ∨ s.now < x.lastReport + msT 16 then .next s else
  let s1 := s.setMemPort p { x with lastReport := s.now, refresh := (minNat? (rs.map (·.1))).getD x.refresh }
  match (List.range rs.length).filter (fun k => (rs.getD k (0, false)).2) with
  | [] => .next (s1.setCause (136 + p) false)
  | _ :: _ => .next ((s1.setRegBit (Reg.MEM_STATUS p) 18 true).raiseFault { src := 136 + p })

/-- BACKGROUND_FILL: the next unfilled chunk in ascending order (R352). -/
def execBackgroundFill (s : State) : Host.Outcome State Fault Refusal :=
  if s.memPortList.any (fun p => s.memState p != 2) then .next s else
  match ((List.range s.memChunks).map (· + 1)).find? (fun c => !tget (fun _ => false) s.mem.filled c) with
  | some c => .next (s.fillChunk c)
  | none => .next s

/-! ## Night retention (R357 to R359) -/

/-- Is no work of the coding array running or queued? -/
def State.codingIdle (s : State) : Bool :=
  s.units.all (fun q => q.2.job.isNone) && s.stills.isEmpty
    && s.ctxs.all (fun q => q.2.busy.isNone && q.2.queue.isEmpty)
    && s.rnds.all (fun q => q.2.wait.isEmpty && q.2.ready.isEmpty && q.2.cmpUnit.isNone && q.2.encUnit.isNone)

/-- Does an active DMA transfer read or write DRAM? A pattern that begins in DRAM counts. -/
def State.dmaInDram (s : State) : Bool :=
  s.dma.any (fun q => q.2.active && (s.regF (Reg.DMA_ACT_SRC_HI q.1) 0 8 < 32 || s.regF (Reg.DMA_ACT_DST_HI q.1) 0 8 < 32))

/-- A write of 1 to GLB_MEM_NIGHT.ENTER (R357). A write outside normal operation does nothing. -/
def State.nightEnter (s : State) : State :=
  if s.regF Reg.GLB_MEM_NIGHT 16 2 ≠ 0 then s
  else if !s.codingIdle || !s.net.sess.isEmpty || s.dmaInDram then s.bump32 Reg.GLB_MEM_NIGHT_REFUSED 1
  else
    let s1 := s.memPortList.foldl (fun t p => t.issueTo p 0) s
    let s2 := { s1 with mem := { s1.mem with nightAt := s1.now, keep := s1.cfgF Reg.GLB_MEM_NIGHT 4 8 } }
    s2.setRegF Reg.GLB_MEM_NIGHT 16 2 1

/-- NIGHT_ENTER; `exit`: an exit event falls in the same instant, and wins (R359). -/
def execNightEnter (exit : Bool) (s : State) : Host.Outcome State Fault Refusal :=
  .next (if exit then s.nightExit else s.nightEnter)

/-- NIGHT_EXIT: a write of 1 to GLB_MEM_NIGHT.EXIT (R359). -/
def execNightExit (s : State) : Host.Outcome State Fault Refusal := .next s.nightExit

/-- NIGHT_ENTRY_DONE: every channel is in self-refresh (R357). -/
def execNightEntryDone (s : State) : Host.Outcome State Fault Refusal :=
  if s.regF Reg.GLB_MEM_NIGHT 16 2 ≠ 1 then .next s
  else .next ((s.memPortList.foldl (fun t p => if t.memState p = 2 then t.setRegF (Reg.MEM_STATUS p) 0 3 3 else t) s).setRegF Reg.GLB_MEM_NIGHT 16 2 2)

/-- Is the chunk in a segment that was not kept (R358)? -/
def State.chunkLost (s : State) (c : Nat) : Bool := s.mem.keep / 2 ^ (c * 8 / max 1 s.memMib) % 2 == 0

/-- The chunks of the segments that were not kept become unfilled; their contents are gone. -/
def State.dropSegments (s : State) : State :=
  ({ s with mem := { s.mem with
      cells := s.mem.cells.filter (fun q => !(isDram q.1 && s.chunkLost (q.1 / 2 ^ 20)))
      poison := s.mem.poison.filter (fun q => !s.chunkLost (q.1 / 8192))
      filled := s.mem.filled.filter (fun q => !s.chunkLost q.1) } }).showFill

/-- NIGHT_EXIT_DONE: the ports have left self-refresh, and work resumes (R359). -/
def execNightExitDone (s : State) : Host.Outcome State Fault Refusal :=
  if s.regF Reg.GLB_MEM_NIGHT 16 2 ≠ 3 then .next s
  else .next ((s.memPortList.foldl (fun t p => if t.memState p = 3 then t.setRegF (Reg.MEM_STATUS p) 0 3 2 else t) s).dropSegments.setRegF
    Reg.GLB_MEM_NIGHT 16 2 0)

/-- Writes are issued while no read waits (R346): one line a port in a tick. A drain of the tick that ends is over. -/
def State.idleIssue (s : State) : State :=
  s.mem.ports.foldl (fun t q =>
    let u := t.setRegBit (Reg.MEM_STATUS q.1) 3 false
    if q.2.wq.isEmpty || u.memState q.1 != 2 then u else u.issueTo q.1 (q.2.wq.length - 1)) s

end Sys2Proof.Machine
end

