-- ==== Sys2Proof/Machine/Cache.lean ====
section
/-!
DEFINITION. The context cache and its backing store (R109, R110, R437).
-/
namespace Sys2Proof.Machine

/-- Address of a record in the backing store: the first 16 MiB of the system region hold contexts, then renditions (R109, R437; log entry 102). -/
def State.recordAddr (s : State) (slot : Nat) : Nat := s.sysBase * 2 ^ 20 + 8192 * slot

/-- The slot that a job runs. -/
def Job.slot : Job → Option Nat
  | .decode n => some n
  | .compose n => some (1024 + n)
  | .encode n => some (1024 + n)
  | .flatten n => some (1024 + n)
  | .still _ => none

/-- Is a slot's record pinned: a unit runs the slot (R109)? -/
def State.pinned (s : State) (slot : Nat) : Bool := s.units.any (fun u => (u.2.job.bind Job.slot) == some slot)

/-- Is a slot's record in the cache? -/
def State.cached (s : State) (slot : Nat) : Bool := s.mem.records.any (fun r => r.slot == slot)

/-- Put the cached records in an order. -/
def State.setRecords (s : State) (l : List CacheRec) : State := { s with mem := { s.mem with records := l } }

/-- The least recently used record that is not pinned leaves a full cache; a modified one is written back, in whole lines. The manual gives a record's
bytes no layout, so what is written is free. -/
def State.evictRecord (s : State) : State :=
  if s.mem.records.length < 1024 then s else
  match s.mem.records.reverse.find? (fun r => !s.pinned r.slot) with
  | none => s
  | some r =>
    let s1 := s.setRecords (s.mem.records.filter (fun x => x.slot != r.slot))
    if r.modified then
      let k := s1.freeCtr
      ({ s1 with freeCtr := k + 8192 }).putMem (s1.recordAddr r.slot) ((List.range 8192).map (fun i => BitVec.ofNat 8 (Config.freeValue (k + i))))
    else s1

/-- A slot's record becomes the most recently used, modified by the work of the unit that takes it up. -/
def State.frontRecord (s : State) (slot : Nat) : State :=
  s.setRecords ({ slot, modified := true } :: s.mem.records.filter (fun x => x.slot != slot))

/-- The first line of a slot's record in memory that a poison mark covers. -/
def State.recordMarked (s : State) (slot : Nat) : Option Nat :=
  ((List.range 64).map (fun i => s.recordAddr slot + 128 * i)).find? s.lineMarked

/-- What reading a record from memory finds, from its first marked line: whether the read returned poison, logged as R352 logs it (R110). -/
def State.recordRead (s : State) (agent : Nat) : Option Nat → Bool × State
  | some l => (true, s.poisonedRead agent l)
  | none => (false, s)

/-- A unit takes up a slot. A record that is not cached is read, which counts in GLB_CACHE_MISS; answers whether the read returned poison
(R109, R110). -/
def State.touchRecord (s : State) (agent slot : Nat) : Bool × State :=
  if s.cached slot then (false, s.frontRecord slot)
  else
    let s1 := s.evictRecord.bump32 Reg.GLB_CACHE_MISS 1
    let r := s1.recordRead agent (s1.recordMarked slot)
    (r.1, r.2.frontRecord slot)

end Sys2Proof.Machine
end

