-- ==== Sys2Proof/Machine/Jpeg.lean ====
section
/-!
DEFINITION. JPEG pictures (R119, R125, R166): the restart intervals that arrived whole, the MCUs that a gap removes, the blocks that carry
reason 1 or 4.
-/
namespace Sys2Proof.Machine

/-- A run of entropy-coded data without a gap: the restart interval that it starts with if that is known, whether it ends at the end of an
interval, and its bytes. -/
structure ScanRun where
  first : Option Nat
  ends : Bool
  data : Bytes
  deriving DecidableEq, Repr

/-- The runs of an RFC 2435 frame: pieces whose offsets follow on. After a gap the restart header of a fragment that starts a chunk names its
first restart interval; its L bit says that a chunk ends (types 64 and 65). -/
def rtpRuns (restarts : Bool) : Nat → List ScanPiece → List ScanRun
  | _, [] => []
  | off, x :: t =>
    let w := fieldAt 10 2 x.head
    let count := w % 16384
    let first := if x.off = 0 then some 0 else if restarts && decide (2 ^ 15 ≤ w) && decide (count ≠ 0x3FFF) then some count else none
    let run : ScanRun := { first, ends := x.last || (restarts && w / 2 ^ 14 % 2 == 1), data := x.data }
    match rtpRuns restarts (x.off + x.data.length) t with
    | r :: rs => match t with
      | y :: _ => if y.off = x.off + x.data.length then { run with ends := r.ends, data := run.data ++ r.data } :: rs else run :: r :: rs
      | [] => run :: r :: rs
    | [] => [run]

/-- The runs of a file's scan: its parts from the start of the entropy-coded data on. -/
def fileRuns (start : Nat) : List ScanPiece → List ScanRun
  | [] => []
  | x :: t =>
    let d := x.data.drop (start - x.off)
    let run : ScanRun := { first := if x.off ≤ start then some 0 else none, ends := t.isEmpty, data := d }
    if start ≤ x.off + x.data.length then run :: fileRuns start t else fileRuns start t

/-- Entropy-coded data split at its RSTm markers, each part with the m before it; EOI ends it. -/
def splitRst : Option Nat → Bytes → Bytes → List (Option Nat × Bytes)
  | m, cur, 0xFF#8 :: c :: t =>
    if 0xD0 ≤ c.toNat ∧ c.toNat ≤ 0xD7 then (m, cur.reverse) :: splitRst (some (c.toNat - 0xD0)) [] t
    else if c = 0xD9#8 then [(m, cur.reverse)]
    else splitRst m (c :: 0xFF#8 :: cur) t
  | m, cur, b :: t => splitRst m (b :: cur) t
  | m, cur, [] => [(m, cur.reverse)]

/-- A restart interval as it arrived: its number, its data, whether all of it is held, whether the marker that ends it is out of sequence. -/
structure Interval where
  idx : Nat
  data : Bytes
  whole : Bool
  bad : Bool
  deriving DecidableEq, Repr

/-- Number the parts of a run. `cur`: the interval of the part at hand, if it is known; `low`: the least number that the next interval can have.
After a gap without a known place, the interval behind RSTm is the first one from there on that RSTm can precede. -/
def numberParts (ends : Bool) : Option Nat → Nat → List (Option Nat × Bytes) → List Interval × Nat
  | _, low, [] => ([], low)
  | cur, low, (_, d) :: t =>
    let next := match t with | (some m, _) :: _ => some m | _ => none
    let here := match cur with
      | some k => [{ idx := k, data := d, whole := next.isSome || ends, bad := match next with | some m => m != k % 8 | none => false : Interval }]
      | none => []
    let low' := match cur with | some k => max low (k + 1) | none => low
    let cur' := match cur, next with
      | some k, some _ => some (k + 1)
      | none, some m => some (low + (m + 1 + 8 - low % 8) % 8)
      | _, none => none
    let r := numberParts ends cur' low' t
    (here ++ r.1, r.2)

/-- The restart intervals of a scan that arrived. -/
def intervals : Nat → List ScanRun → List Interval
  | _, [] => []
  | low, r :: rs =>
    let q := numberParts r.ends r.first low (splitRst none [] r.data)
    q.1 ++ intervals q.2 rs

/-- What becomes of a JPEG picture's MCUs: the samples of those decoded; of the others the broke reason, 1 or 4 (R119, R166). -/
structure McuMap where
  /-- MCUs per restart interval, 0: one interval -/
  per : Nat
  got : List (Interval × Config.JpegMcus)

/-- MCU m: its samples, or its reason. With restart markers an interval stands or falls as a whole; without them the MCUs before the gap or the
error stand. -/
def McuMap.mcu (x : McuMap) (m : Nat) : List (List Nat) × Nat :=
  let k := if x.per = 0 then 0 else m / x.per
  let i := if x.per = 0 then m else m % x.per
  match x.got.find? (fun q => q.1.idx == k) with
  | none => ([], 1)
  | some (v, o) =>
    if x.per ≠ 0 ∧ v.whole = false then ([], 1)
    else if x.per ≠ 0 ∧ (v.bad || o.error) = true then ([], 4)
    else match o.mcus[i]? with
      | some p => (p, 0)
      | none => ([], if v.whole then 4 else 1)

/-- The MCUs of a JPEG unit of W × H samples: `across` MCUs in a row, `mcus` in all. Types 64 and 65 of RFC 2435, and files with restart
intervals, lose the intervals that a gap touches; the others lose everything from the gap on. Two points are readings of R119 and R166
(log entry 94): a file is treated as the RTP type with the same restart markers, and an RSTm out of sequence falls in the interval it ends. -/
def mcuMap (file : Bool) (scan : List ScanPiece) (mcus : Nat) : McuMap :=
  let whole := (scan.map (·.data)).flatten
  let fs := Config.jpegScan whole
  let head := if file then whole.take fs.1 else (scan.map (·.head)).flatten
  let h0 := (scan.headD default).head
  let per := if file then fs.2 else if 64 ≤ fieldAt 4 1 h0 then fieldAt 8 2 h0 else 0
  let runs := if file then fileRuns fs.1 scan else rtpRuns (per != 0) 0 scan
  let got := if per = 0 then
      match runs with
      | r :: _ => if r.first = some 0 then [{ idx := 0, data := r.data, whole := r.ends, bad := false : Interval }] else []
      | [] => []
    else intervals 0 runs
  { per, got := got.map (fun v => (v, Config.jpegMcus head v.data (if per = 0 then mcus else min per (mcus - per * v.idx)))) }

end Sys2Proof.Machine
end

