-- ==== Sys2Proof/Machine/Press.lean ====
section
/-!
DEFINITION. Pressed frames, bit by bit (R148 to R153): the lossless coding of 16×16 blocks into 512-byte slots, the frame buffer's
layout, and its reader.
-/
namespace Sys2Proof.Machine

/-- A plane of samples, by column and row. -/
abbrev Plane := Nat → Nat → Nat

/-- A picture: coded size, sample depth (8 or 10), chroma (1 = 4:2:0, 2 = 4:2:2), and its planes. A passing value, never state. -/
structure Pic where
  w : Nat
  h : Nat
  d : Nat
  chroma : Nat
  y : Plane
  cb : Plane
  cr : Plane

/-- Blocks across and down. -/
def Pic.bw (p : Pic) : Nat := ceilDiv p.w 16
def Pic.bh (p : Pic) : Nat := ceilDiv p.h 16
/-- NB. -/
def Pic.nb (p : Pic) : Nat := p.bw * p.bh
/-- Chroma plane size. -/
def Pic.cw (p : Pic) : Nat := ceilDiv p.w 2
def Pic.ch (p : Pic) : Nat := if p.chroma = 1 then ceilDiv p.h 2 else p.h

/-- up128() of R142. -/
def up128 (n : Nat) : Nat := ceilDiv n 128 * 128

/-- Buffer size for a declared geometry (R142). -/
def fbSize (maxW maxH : Nat) : Nat :=
  let nb := ceilDiv maxW 16 * ceilDiv maxH 16
  256 + up128 nb + up128 (16 * nb) + 512 * nb

/-- A plane extended by replicating the last column, then the last row (R151). -/
def extend (p : Plane) (w h x y : Nat) : Nat := p (min x (w - 1)) (min y (h - 1))

/-- Samples of a `bw` × `bh` block at (x0, y0), in raster order. -/
def blockSamples (p : Plane) (w h x0 y0 bw bh : Nat) : List Nat :=
  (List.range (bw * bh)).map (fun i => extend p w h (x0 + i % bw) (y0 + i / bw))

/-- Rows of a chroma block: 8 for 4:2:0, 16 for 4:2:2. -/
def chromaRows (chroma : Nat) : Nat := if chroma = 1 then 8 else 16

/-- The three planes' samples of block i. -/
def Pic.block (p : Pic) (i : Nat) : List (List Nat) :=
  let bx := i % p.bw
  let by_ := i / p.bw
  let cr := chromaRows p.chroma
  [blockSamples p.y p.w p.h (16 * bx) (16 * by_) 16 16,
   blockSamples p.cb p.cw p.ch (8 * bx) (cr * by_) 8 cr,
   blockSamples p.cr p.cw p.ch (8 * bx) (cr * by_) 8 cr]

/-- The bits of a number, most significant first. -/
def bitsOf : Nat → Nat → List Bool
  | 0, _ => []
  | n + 1, v => bitsOf n (v / 2) ++ [v % 2 == 1]

/-- The number that bits spell, most significant first. -/
def bitsVal (b : List Bool) : Nat := b.foldl (fun a x => 2 * a + (if x then 1 else 0)) 0

/-- Bits packed into bytes, most significant first, zero-filled at the end. -/
def packBits (b : List Bool) : Bytes :=
  (chunks 8 b).map (fun c => BitVec.ofNat 8 (bitsVal (c ++ List.replicate (8 - c.length) false)))

/-- The bits of bytes, most significant first. -/
def unpackBits (b : Bytes) : List Bool := b.flatMap (fun x => bitsOf 8 x.toNat)

/-- The predictor of R153 for sample i of a plane that is `bw` wide, from the samples before it. -/
def pressPred (bw d : Nat) (ps : List Nat) (i : Nat) : Nat :=
  let x := i % bw
  let y := i / bw
  let at_ := fun (xx yy : Nat) => ps.getD (yy * bw + xx) 0
  if x = 0 ∧ y = 0 then 2 ^ (d - 1)
  else if y = 0 then at_ (x - 1) y
  else if x = 0 then at_ x (y - 1)
  else
    let a := at_ (x - 1) y
    let b := at_ x (y - 1)
    let c := at_ (x - 1) (y - 1)
    if max a b ≤ c then min a b else if c ≤ min a b then max a b else a + b - c

/-- map() of R153. -/
def pressMap (r : Int) : Nat := if 0 ≤ r then (2 * r).toNat else (-2 * r - 1).toNat
/-- Its inverse. -/
def pressUnmap (u : Nat) : Int := if u % 2 = 0 then (u / 2 : Nat) else -(((u + 1) / 2 : Nat) : Int)

/-- code_len() of R153. -/
def codeLen (u k d : Nat) : Nat :=
  let q := u / 2 ^ k
  if q < 16 then q + 1 + k else 16 + d + 1

/-- best_k(): the k in 0..d with least sum of lengths, ties to the smaller. -/
def bestK (us : List Nat) (d : Nat) : Nat :=
  (argMin? (fun k => sumNat (us.map (fun u => codeLen u k d))) (List.range (d + 1))).getD 0

/-- put_group() of R153. -/
def putGroup (d : Nat) (us : List Nat) : List Bool :=
  let k := bestK us d
  bitsOf 4 k ++ us.flatMap (fun u =>
    let q := u / 2 ^ k
    if q < 16 then List.replicate q true ++ [false] ++ bitsOf k (u % 2 ^ k)
    else List.replicate 16 true ++ bitsOf (d + 1) u)

/-- The coded bits of one plane of a block. -/
def planeBits (bw d : Nat) (ps : List Nat) : List Bool :=
  let us := ps.zipIdx.map (fun q => pressMap ((q.1 : Int) - pressPred bw d ps q.2))
  (chunks 16 us).flatMap (putGroup d)

/-- U_raw of R151. -/
def uRaw (chroma d : Nat) : Nat := (256 + 2 * (8 * chromaRows chroma)) * d / 256

/-- A pressed block: its index byte's MODE and LEN, and the LEN units of its slot (R150, R152). -/
def pressBlock (chroma d : Nat) (planes : List (List Nat)) : Nat × Nat × Bytes :=
  let flat := planes.all (fun p => p.all (fun v => v == p.headD 0))
  if flat then
    let b := packBits (planes.flatMap (fun p => bitsOf d (p.headD 0)))
    (0, 1, b ++ zeros (32 - b.length))
  else
    let bits := planeBits 16 d (planes.getD 0 []) ++ planeBits 8 d (planes.getD 1 []) ++ planeBits 8 d (planes.getD 2 [])
    let u := ceilDiv bits.length 256
    if u < uRaw chroma d then
      let b := packBits bits
      (1, u, b ++ zeros (32 * u - b.length))
    else (2, uRaw chroma d, packBits (planes.flatMap (fun p => p.flatMap (bitsOf d))))

/-- FB_INDEX byte. -/
def indexByte (mode len : Nat) : Byte := BitVec.ofNat 8 (mode * 32 + len)

/-- Offsets in a frame buffer of the coded grid (R148). -/
def fbMotionOff (nb : Nat) : Nat := 0x100 + up128 nb
def fbSlotBase (nb : Nat) : Nat := 0x100 + up128 nb + up128 (16 * nb)

/-- FB_HDR (R149). -/
def fbHeader (p : Pic) (ctx leafSeq : Nat) (poc : Int) (pressed raw : Nat) : Bytes :=
  [0x4B#8, 0x4A#8, 0x50#8, 0x46#8] ++ le 2 p.w ++ le 2 p.h ++ le 2 p.bw ++ le 2 p.bh ++ le 1 p.d ++ le 1 p.chroma ++ le 2 ctx
    ++ le 4 leafSeq ++ le 4 ((poc % (2 ^ 32 : Nat)).toNat) ++ le 4 pressed ++ le 4 (p.nb * raw) ++ zeros 224

/-- The bytes of a pressed frame, by offset in its buffer: header, index, motion entries, and each slot's LEN units. -/
def fbBytes (p : Pic) (ctx leafSeq : Nat) (poc : Int) (raw : Nat) (motion : List Bytes) : List (Nat × Bytes) :=
  let bs := (List.range p.nb).map (fun i => pressBlock p.chroma p.d (p.block i))
  [(0, fbHeader p ctx leafSeq poc (sumNat (bs.map (fun b => 32 * b.2.1))) raw), (0x100, bs.map (fun b => indexByte b.1 b.2.1)),
   (fbMotionOff p.nb, motion.flatten)]
    ++ bs.zipIdx.map (fun q => (fbSlotBase p.nb + 512 * q.2, q.1.2.2))

/-- Pressed bytes of a picture. -/
def pressedBytes (p : Pic) : Nat :=
  sumNat ((List.range p.nb).map (fun i => 32 * (pressBlock p.chroma p.d (p.block i)).2.1))

/-- Read one code: ones up to 16, then the rest. Answers u and the bits left. -/
def getCode (k d : Nat) (b : List Bool) : Nat × List Bool :=
  let q := (b.take 16).takeWhile id |>.length
  if q < 16 then (q * 2 ^ k + bitsVal ((b.drop (q + 1)).take k), b.drop (q + 1 + k))
  else (bitsVal ((b.drop 16).take (d + 1)), b.drop (16 + d + 1))

/-- Read n samples of a plane, with k read at the start of every group of 16. -/
def getPlane (bw d : Nat) : Nat → List Nat → Nat → List Bool → List Nat × List Bool
  | 0, ps, _, b => (ps, b)
  | n + 1, ps, k, b =>
    let g := ps.length % 16 == 0
    let k' := if g then bitsVal (b.take 4) else k
    let b' := if g then b.drop 4 else b
    let r := getCode k' d b'
    let v := (pressUnmap r.1 + pressPred bw d ps ps.length).toNat
    getPlane bw d n (ps ++ [v]) k' r.2

/-- The planes of a block from its index byte and slot; none for MODE 3 or LEN 0 (R150). -/
def unpressBlock (chroma d : Nat) (ix : Byte) (slot : Bytes) : Option (List (List Nat)) :=
  let len := ix.toNat % 32
  let mode := ix.toNat / 32 % 4
  let nc := 8 * chromaRows chroma
  let b := unpackBits (slot.take (32 * len))
  if len = 0 ∨ mode = 3 then none
  else if mode = 0 then
    let v := fun i => bitsVal ((b.drop (i * d)).take d)
    some [List.replicate 256 (v 0), List.replicate nc (v 1), List.replicate nc (v 2)]
  else if mode = 2 then
    let v := fun i => bitsVal ((b.drop (i * d)).take d)
    some [(List.range 256).map v, (List.range nc).map (fun i => v (256 + i)), (List.range nc).map (fun i => v (256 + nc + i))]
  else
    let y := getPlane 16 d 256 [] 0 b
    let cb := getPlane 8 d nc [] 0 y.2
    let cr := getPlane 8 d nc [] 0 cb.2
    some [y.1, cb.1, cr.1]

end Sys2Proof.Machine
end

