-- ==== Sys2Proof/Machine/Scale.lean ====
section
/-!
DEFINITION. Scaling of video layers and side-scaled copies (R156, R238 to R240) and the unpressed layout of R157.
-/
namespace Sys2Proof.Machine

/-- The raw kernel value n of R239 for a distance a and width m. -/
def kernel (m a : Int) : Int :=
  if a ≤ m then 3 * a * a * a - 5 * a * a * m + 2 * m * m * m
  else if a < 2 * m then -(a * a * a) + 5 * a * a * m - 8 * a * m * m + 4 * m * m * m
  else 0

/-- coefs() of R239: the coefficients of phase p. -/
def coefs (taps s16 p : Nat) : List Int :=
  let m : Int := 4 * s16
  let n : List Int := (List.range taps).map (fun (k : Nat) => kernel m (((((k : Int) - (taps / 2 : Nat) + 1) * 64 - p).natAbs : Nat) : Int))
  let sum := n.foldl (· + ·) 0
  let c := n.map (fun v => (512 * v + sum).fdiv (2 * sum))
  let tot := c.foldl (· + ·) 0
  let top := c.foldl max (c.headD 0)
  let big := (c.findIdx? (· == top)).getD 0
  c.zipIdx.map (fun q => if q.2 = big then q.1 + (256 - tot) else q.1)

/-- S16 of R239: for luma by the lengths, for chroma 16. -/
def s16Of (luma : Bool) (ls ld : Nat) : Nat := if luma then clampNat 16 32 (ceilDiv (16 * ls) ld) else 16

/-- Integer position and phase of output sample i (R156). -/
def scalePos (ls ld i : Nat) : Int × Nat :=
  let step := ls * 65536 / ld
  let pos : Int := (i * step + step / 2 : Nat) - (32768 : Int)
  (pos.fdiv 65536, ((pos.fdiv 1024) % 64).toNat)

/-- Taps of one output position: (source index, coefficient), clamped into 0..ls−1. -/
def tapsAt (luma : Bool) (ls ld i : Nat) : List (Nat × Int) :=
  let n := if luma then 8 else 4
  let pp := scalePos ls ld i
  (coefs n (s16Of luma ls ld) pp.2).zipIdx.map (fun q =>
    ((clampInt 0 ((ls : Int) - 1) (pp.1 + (q.2 : Int) - (n / 2 : Nat) + 1)).toNat, q.1))

/-- One sample of a plane scaled from the rectangle (x0, y0, sw, sh) to dw × dh, at source depth d (R238, R240). -/
def scaleSample (luma : Bool) (d : Nat) (src : Plane) (x0 y0 sw sh dw dh i j : Nat) : Nat :=
  let hs := tapsAt luma sw dw i
  let vs := tapsAt luma sh dh j
  let row := fun (y : Nat) => hs.foldl (fun (acc : Int) t => acc + t.2 * (src (x0 + t.1) (y0 + y) : Nat)) 0
  let v := vs.foldl (fun (acc : Int) t => acc + t.2 * row t.1) 0
  (clampInt 0 (2 ^ d - 1) ((v + 32768) / 65536)).toNat

/-- The source samples that an output sample's taps touch: columns and rows. -/
def scaleReach (luma : Bool) (sw sh dw dh i j : Nat) : List Nat × List Nat :=
  ((tapsAt luma sw dw i).map (·.1), (tapsAt luma sh dh j).map (·.1))

/-- Row and plane pitch of the unpressed layout (R157): rows and planes start at multiples of 128 bytes. -/
def rowPitch (w d : Nat) : Nat := up128 (w * (if d = 8 then 1 else 2))

/-- Byte offset of a sample in the unpressed 4:2:0 layout. -/
def flatOffset (w h d p x y : Nat) : Nat :=
  let k := if d = 8 then 1 else 2
  let yb := rowPitch w d * h
  let cb := rowPitch (w / 2) d * (h / 2)
  if p = 0 then y * rowPitch w d + x * k
  else yb + (p - 1) * cb + y * rowPitch (w / 2) d + x * k

/-- Size of an unpressed 4:2:0 picture. -/
def flatSize (w h d : Nat) : Nat := rowPitch w d * h + 2 * (rowPitch (w / 2) d * (h / 2))

/-- A sample's bytes: one, or two little-endian at 10 bits. -/
def sampleBytes (d v : Nat) : Bytes := if d = 8 then le 1 v else le 2 v

/-- Rows of an unpressed picture as (offset, bytes). -/
def flatRows (w h d : Nat) (f : Nat → Nat → Nat → Nat) : List (Nat × Bytes) :=
  let plane := fun (p pw ph : Nat) => (List.range ph).map (fun y =>
    (flatOffset w h d p 0 y, (List.range pw).flatMap (fun x => sampleBytes d (f p x y))))
  plane 0 w h ++ plane 1 (w / 2) (h / 2) ++ plane 2 (w / 2) (h / 2)

end Sys2Proof.Machine
end

