-- ==== Sys2Proof/Machine/Pictures.lean ====
section
/-!
DEFINITION. Decode of one picture: which blocks lose their data (R164 to R166), filling (R167 to R172), stand-ins (R173, R174), reasons
(R161, R162, R170, R176, R177), the pressed output and its motion field (R148 to R154), and frame buffers read back from memory.
-/
namespace Sys2Proof.Machine

/-! ## Frame buffers in memory -/

/-- Planes of a picture from its blocks, each with its luma, Cb and Cr samples in raster order. -/
def planeOf (blocks : List (List (List Nat))) (bw pw ph : Nat) (p x y : Nat) : Nat :=
  ((blocks.getD (y / ph * bw + x / pw) []).getD p []).getD (y % ph * pw + x % pw) 0

/-- A picture from its blocks. -/
def picOf (i : SeqInfo) (blocks : List (List (List Nat))) : Pic :=
  let bw := ceilDiv i.w 16
  let cr := chromaRows i.chroma
  { w := i.w, h := i.h, d := i.depth, chroma := i.chroma, y := planeOf blocks bw 16 16 0, cb := planeOf blocks bw 8 cr 1,
    cr := planeOf blocks bw 8 cr 2 }

/-- Sample access of a picture by plane. -/
def Pic.at_ (p : Pic) (plane x y : Nat) : Nat := if plane = 0 then p.y x y else if plane = 1 then p.cb x y else p.cr x y

/-- A mid-grey block (R167). -/
def greyBlock (i : SeqInfo) : List (List Nat) :=
  let v := 2 ^ (i.depth - 1)
  [List.replicate 256 v, List.replicate (8 * chromaRows i.chroma) v, List.replicate (8 * chromaRows i.chroma) v]

/-- Does a read of block k of a frame buffer return poison: its index byte or its slot lies on a marked line, or the index byte is one that is
never written (R150, R158)? -/
def State.blockPoisoned (s : State) (addr nb k : Nat) : Bool :=
  let ix := s.byteAt (addr + 0x100 + k)
  s.rangeMarked (addr + 0x100 + k) 1 || s.rangeMarked (addr + fbSlotBase nb + 512 * k) (32 * (ix.toNat % 32))
    || ix.toNat % 32 == 0 || ix.toNat / 32 % 4 == 3

/-- The line of a reference block that returned poison: its index byte's where that carries the mark, else the first of its slot with a mark, else the
slot's first. -/
def State.blockLine (s : State) (addr nb k : Nat) : Nat :=
  let ix := addr + 0x100 + k
  let slot := addr + fbSlotBase nb + 512 * k
  if s.lineMarked ix then ix else (((List.range 8).map (fun i => slot + 128 * i)).find? s.lineMarked).getD slot

/-- The samples of block k of a frame buffer; mid-grey where they cannot be read. -/
def State.readBlock (s : State) (i : SeqInfo) (addr k : Nat) : List (List Nat) :=
  let nb := ceilDiv i.w 16 * ceilDiv i.h 16
  let ix := s.byteAt (addr + 0x100 + k)
  (unpressBlock i.chroma i.depth ix (s.getMem (addr + fbSlotBase nb + 512 * k) (32 * (ix.toNat % 32)))).getD (greyBlock i)

/-- Every block of a frame buffer. -/
def State.readBlocks (s : State) (i : SeqInfo) (handle : Nat) : List (List (List Nat)) :=
  (List.range (ceilDiv i.w 16 * ceilDiv i.h 16)).map (s.readBlock i (s.bufAddr handle))

/-- The motion entry of block k (R154). -/
def State.readMotion (s : State) (i : SeqInfo) (handle k : Nat) : Bytes :=
  s.getMem (s.bufAddr handle + fbMotionOff (ceilDiv i.w 16 * ceilDiv i.h 16) + 16 * k) 16

/-- A motion entry: vectors, DPOC fields, FLAGS (R154). -/
def motionEntry (mv0x mv0y mv1x mv1y dpoc0 dpoc1 : Int) (flags : Nat) : Bytes :=
  let h := fun (v : Int) => le 2 ((v % 65536).toNat)
  h mv0x ++ h mv0y ++ h mv1x ++ h mv1y ++ h (clampInt (-32767) 32767 dpoc0) ++ h (clampInt (-32767) 32767 dpoc1) ++ le 1 flags ++ zeros 3

/-- FLAGS of a motion entry. -/
def motionFlags (m : Bytes) : Nat := (m.getD 12 0#8).toNat
/-- A signed 16-bit field of a motion entry. -/
def motionField (m : Bytes) (off : Nat) : Int := signedOf 16 (leNat (slice off 2 m))

/-- A unit writes a picture as a pressed frame (R148 to R153). -/
def State.writeFrame (s : State) (agent handle : Nat) (p : Pic) (num leafSeq : Nat) (poc : Int) (raw : Nat) (motion : List Bytes) : State :=
  let a := s.bufAddr handle
  (fbBytes p num leafSeq poc raw motion).foldl (fun t q => t.unitWrite agent (a + q.1) q.2) s

/-- Raw block bytes of R151, with b of R95: 2 for a 10-bit context. -/
def rawBlock (chroma : Nat) (ten : Bool) : Nat := if chroma = 2 then 512 else if ten then 768 else 384

/-- Is b of R95 equal to 2: DEPTH10 set, and the context not JPEG? -/
def State.ten (s : State) (n : Nat) : Bool := s.regBit (Reg.CTX_CFG n) 4 && s.codec n != 2

/-- Press ratio in 64ths, rounded up (R96). -/
def pressRatio (pressed raw : Nat) : Nat := min 64 (ceilDiv (64 * pressed) (max raw 1))

/-! ## Lost data -/

/-- What has been found while walking the slices of a picture. -/
structure Walk where
  /-- reason per block: none = not covered -/
  reasons : Tab Nat := []
  good : List Bytes := []
  /-- blocks with decoded syntax, in decoding order -/
  order : List Nat := []
  /-- last address of the previous held segment, and whether it was in error -/
  prev : Option (Nat × Bool) := none
  top : Option Nat := none

/-- One slice segment of a picture (R164, R165). A header that does not parse is a syntax error like any other. `far`: the segment starts beyond
16 MiB and is not decoded (R132). -/
def walkSlice (codec : Nat) (sets : List Bytes) (far : Bool) (w : Walk) (x : Bytes) : Walk :=
  let q := Config.slice codec sets x
  let follows := match w.prev with | some (a, _) => a + 1 == q.first | none => false
  if q.dependent && !follows then w
  else
    let behind := match w.top with | some t => decide (q.first ≤ t) | none => false
    let bad := far || !q.parsed || q.bad || q.noSet || nalForbidden x || behind || (q.dependent && (match w.prev with | some (_, b) => b | none => false))
    let new := q.blocks.filter (fun b => (tget (fun _ => (none : Option Nat)) (w.reasons.map (fun e => (e.1, some e.2))) b).isNone)
    { reasons := new.foldl (fun t b => tput (fun _ => 99) t b (if bad then 4 else 0)) w.reasons
      good := if bad then w.good else w.good ++ [x]
      order := if bad then w.order else w.order ++ new
      prev := some (q.last, bad)
      top := some (max q.last (w.top.getD 0)) }

/-- Walk every slice of a unit. -/
def walkSlices (codec : Nat) (a : Au) : Walk := a.beyond.foldl (walkSlice codec a.sets true) (a.nals.foldl (walkSlice codec a.sets false) {})

/-- Reason 0, 1 or 4 of block k after the walk. -/
def Walk.reason (w : Walk) (k : Nat) : Nat := let r := tget (fun _ => 99) w.reasons k; if r = 99 then 1 else r

/-! ## References -/

/-- The buffers marked as references. -/
def CtxSt.marked (x : CtxSt) : List FrameBuf := x.dpb.filter (fun b => b.mark != .unused)

/-- The frame buffer with a number. -/
def CtxSt.fb? (x : CtxSt) (buf : Nat) : Option FrameBuf := x.dpb.find? (fun b => b.pic.buf == buf)

/-- The blocks of a buffer, by buffer and block number, that a test of the buffer's address, its number of blocks and the block picks. -/
def CtxSt.blocksWhere (x : CtxSt) (p : FrameBuf → Nat → Nat → Bool) : List (Nat × Nat) :=
  x.dpb.flatMap (fun b =>
    let nb := ceilDiv b.pic.info.w 16 * ceilDiv b.pic.info.h 16
    (List.range nb).filterMap (fun k => if p b nb k then some (b.pic.buf, k) else none))

/-- The collocated motion entries that memory itself withholds: those on lines with the poison mark (R158). -/
def State.markedMotion (s : State) (x : CtxSt) : List (Nat × Nat) :=
  if s.mem.poison.isEmpty then [] else
  x.blocksWhere (fun b nb k => s.rangeMarked (s.bufAddr b.pic.handle + fbMotionOff nb + 16 * k) 16)

/-- The reference blocks that memory itself withholds: those on lines with the poison mark, and those whose index byte is never written (R150,
R158). -/
def State.markedRefs (s : State) (x : CtxSt) : List (Nat × Nat) := x.blocksWhere (fun b nb k => s.blockPoisoned (s.bufAddr b.pic.handle) nb k)

/-- Where the poisoned read of a block of a buffer, or of its motion entry, takes place. -/
def State.refLine (s : State) (x : CtxSt) (q : Nat × Nat) : Nat := match x.fb? q.1 with
  | some b => s.blockLine (s.bufAddr b.pic.handle) (ceilDiv b.pic.info.w 16 * ceilDiv b.pic.info.h 16) q.2
  | none => 0
def State.motionLine (s : State) (x : CtxSt) (q : Nat × Nat) : Nat := match x.fb? q.1 with
  | some b => s.bufAddr b.pic.handle + fbMotionOff (ceilDiv b.pic.info.w 16 * ceilDiv b.pic.info.h 16) + 16 * q.2
  | none => 0

/-- A buffer as the decoding process sees it; `full` adds samples and motion. A block withheld from the picture gives 1 << (d − 1) for each of
its samples (R170). -/
def State.refOf (s : State) (full : Bool) (withheld : List (Nat × Nat)) (b : FrameBuf) : Config.Ref :=
  let i := b.pic.info
  { buf := b.pic.buf, poc := b.pic.poc, mark := b.mark, frameNum := b.frameNum, ltIdx := b.ltIdx, standIn := b.standIn
    blocks := if full then (s.readBlocks i b.pic.handle).zipIdx.map (fun q => if withheld.contains (b.pic.buf, q.2) then greyBlock i else q.1)
      else []
    motion := if full then (List.range (ceilDiv i.w 16 * ceilDiv i.h 16)).map (s.readMotion i b.pic.handle) else [] }

/-- Does decoding start or restart at a unit (R144, R175)? -/
def CtxSt.freshAt (x : CtxSt) (a : Au) : Bool := x.restart || a.afterEos

/-- What the standard's process is given for a unit before its blocks are decoded. -/
def State.headIn (s : State) (n : Nat) (a : Au) : Config.DecIn :=
  let x := s.ctx n
  { codec := s.codec n, sets := a.sets, nals := a.nals ++ a.beyond, refs := x.marked.map (s.refOf false []), restart := x.freshAt a, carry := x.carry
    filled := [] }

/-- What a picture's slice headers say. A JPEG picture has none. -/
def State.startOf (s : State) (n : Nat) (a : Au) : Config.Start := if s.codec n = 2 then {} else Config.start (s.headIn n a)

/-- Does a picture start a coded video sequence: a JPEG picture, an H.264 IDR, an H.265 IRAP picture with NoRaslOutputFlag 1? -/
def State.clearsAt (s : State) (n : Nat) (a : Au) (fresh : Bool) : Bool :=
  if s.codec n = 2 then true
  else if s.codec n = 0 then a.rap
  else a.rap && (fresh || (a.nals ++ a.beyond).any (fun x => isRapSlice 1 x && nalType 1 x != 21))

/-- A RASL picture of the CRA or BLA picture at which decoding started or restarted (R175): it is absent. -/
def State.raslAt (s : State) (n : Nat) (a : Au) : Bool :=
  s.codec n == 1 && (s.ctx n).noRasl && (a.nals ++ a.beyond).any (fun x => nalType 1 x == 8 || nalType 1 x == 9)

/-- Is a buffer the picture that an entry of a reference picture set names? -/
def hits (e : Config.RpsEntry) (b : FrameBuf) : Bool :=
  if e.long then b.mark != .unused && (match e.lsb with
    | some k => b.pic.poc % (2 ^ k : Nat) == e.poc % (2 ^ k : Nat)
    | none => b.pic.poc == e.poc)
  else b.mark == .shortTerm && b.pic.poc == e.poc

/-- Marks after an H.265 reference picture set: pictures that no entry names are unused. -/
def rpsMarks (rps : List Config.RpsEntry) (l : List FrameBuf) : List FrameBuf :=
  l.map (fun b => match rps.find? (fun e => hits e b) with
    | some e => { b with mark := if e.long then .longTerm else .shortTerm }
    | none => { b with mark := .unused })

/-- FrameNumWrap of a frame_num beside the current one. -/
def wrapNum (cur : Int) (maxNum : Nat) (f : Int) : Int := if cur < f then f - maxNum else f

/-- The frames that the gap process creates: the numbers from PrevRefFrameNum + 1 to the frame_num before the picture's, whatever
gaps_in_frame_num_value_allowed_flag says (R173). Of a gap wider than max_num_ref_frames only the last frames stay, so only they are made. -/
def gapNums (st : Config.Start) : List Int :=
  let m := max st.maxFrameNum 1
  let f := (st.frameNum % (m : Int)).toNat
  if f = st.prevRef % m then [] else
  let n := (f + 2 * m - st.prevRef % m - 1) % m
  let keep := min n (max st.numRef 1)
  (List.range keep).map (fun k => (((st.prevRef + 1 + (n - keep) + k) % m : Nat) : Int))

/-- The stand-ins that a picture needs, in the order the standard creates the missing pictures (R173). -/
def State.missingOf (s : State) (n : Nat) (a : Au) (st : Config.Start) (clears : Bool) : List Config.Missing :=
  let codec := s.codec n
  if codec = 2 then []
  else if codec = 0 then
    (if clears then [] else (gapNums st).map (fun f =>
      { poc := Config.gapPoc (s.headIn n a) f, frameNum := f, mark := .shortTerm, ltIdx := 0, gap := true })) ++ st.unfilled
  else
    (if clears then [] else (st.rps.filter (fun e => e.curr && !(s.ctx n).dpb.any (hits e))).map (fun e =>
      { poc := e.poc, frameNum := 0, mark := if e.long then .longTerm else .shortTerm, ltIdx := 0 })) ++ st.unfilled

/-- Is a buffer a candidate for R_c (R168)? H.264: marked, and no stand-in of the gap process. H.265: an entry of the three sets, stand-ins
included. -/
def concealFrom (codec : Nat) (st : Config.Start) (b : FrameBuf) : Bool :=
  if codec = 0 then b.mark != .unused && !b.gap else st.rps.any (fun e => e.curr && hits e b)

/-- R_c: the buffer among the candidates whose picture order count lies nearest; a tie goes to the lower count (R168). -/
def concealRef (codec : Nat) (x : CtxSt) (st : Config.Start) (clears : Bool) : Option FrameBuf :=
  if clears then none else
  (x.dpb.filter (concealFrom codec st)).foldl (fun (m : Option FrameBuf) b => match m with
    | none => some b
    | some c =>
      let db := (b.pic.poc - st.poc).natAbs
      let dc := (c.pic.poc - st.poc).natAbs
      if db < dc ∨ (db = dc ∧ b.pic.poc < c.pic.poc) then some b else m) none

/-! ## The read set (R176) -/

/-- Offsets of the luma samples that the standard's interpolation takes for a phase, as rectangles (columns from and to, rows from and to). H.265:
8 taps in a dimension whose phase is not 0, of which phases 1 and 3 have one coefficient 0. H.264: quarter positions average two of the full,
half and centre positions, each with 6 taps per dimension it lies between. -/
def lumaTaps (codec fx fy : Nat) : List (Int × Int × Int × Int) :=
  if codec = 1 then
    let span := fun (f : Nat) => ([(0, 0), (-3, 3), (-3, 4), (-2, 4)] : List (Int × Int)).getD f (0, 0)
    [((span fx).1, (span fx).2, (span fy).1, (span fy).2)]
  else
    let full := fun (x y : Int) => (x, x, y, y)
    let across := fun (y : Int) => ((-2 : Int), (3 : Int), y, y)
    let along := fun (x : Int) => (x, x, (-2 : Int), (3 : Int))
    let centre := ((-2 : Int), (3 : Int), (-2 : Int), (3 : Int))
    let nx : Int := (fx / 2 : Nat)
    let ny : Int := (fy / 2 : Nat)
    if fx = 0 ∧ fy = 0 then [full 0 0]
    else if fy = 0 then across 0 :: (if fx = 2 then [] else [full nx 0])
    else if fx = 0 then along 0 :: (if fy = 2 then [] else [full 0 ny])
    else if fx = 2 ∧ fy = 2 then [centre]
    else if fx = 2 then [across ny, centre]
    else if fy = 2 then [along nx, centre]
    else [across ny, along nx]

/-- The same of chroma, by the phase in eighths: H.265 has 4 taps, H.264 two. -/
def chromaTaps (codec fx fy : Nat) : List (Int × Int × Int × Int) :=
  let span := fun (f : Nat) => if f = 0 then ((0 : Int), (0 : Int)) else if codec = 1 then (-1, 2) else (0, 1)
  [((span fx).1, (span fx).2, (span fy).1, (span fy).2)]

/-- 16-sample units from the one that holds column or row `a` to the one that holds `b`, clamped into a length; `u` samples make a unit. -/
def unitsOf (len u : Nat) (a b : Int) : List Nat :=
  let c := fun (v : Int) => (clampInt 0 ((len : Int) - 1) v).toNat / u
  (List.range (c b + 1 - c a)).map (c a + ·)

/-- The reference blocks that hold the read set of one prediction block in one list (4:2:0): positions clamped into the picture, taps with
coefficient 0 left out. -/
def vecReads (codec : Nat) (i : SeqInfo) (p : Config.Pred) (v : Int × Int × Nat) : List (Nat × Nat) :=
  let bw := ceilDiv i.w 16
  let rect := fun (len hgt u : Nat) (x y : Int) (w h : Nat) (t : Int × Int × Int × Int) =>
    (unitsOf hgt u (y + t.2.2.1) (y + h - 1 + t.2.2.2)).flatMap (fun by_ =>
      (unitsOf len u (x + t.1) (x + w - 1 + t.2.1)).map (fun bx => (v.2.2, by_ * bw + bx)))
  let luma := (lumaTaps codec (v.1 % 4).toNat (v.2.1 % 4).toNat).flatMap
    (rect i.w i.h 16 ((p.x : Int) + v.1 / 4) ((p.y : Int) + v.2.1 / 4) p.w p.h)
  let chroma := (chromaTaps codec (v.1 % 8).toNat (v.2.1 % 8).toNat).flatMap
    (rect (i.w / 2) (i.h / 2) 8 (((p.x / 2 : Nat) : Int) + v.1 / 8) (((p.y / 2 : Nat) : Int) + v.2.1 / 8) (p.w / 2) (p.h / 2))
  luma ++ chroma

/-- The read set of a block as reference blocks: both lists of every prediction block in it. -/
def readSet (codec : Nat) (i : SeqInfo) (b : Config.Block) : List (Nat × Nat) :=
  b.preds.flatMap (fun p => (p.l0.toList ++ p.l1.toList).flatMap (vecReads codec i p))

/-- The prediction block that covers the luma sample at (8, 8) of block k, clamped into the coded picture (R154). -/
def predAt (i : SeqInfo) (b : Config.Block) (k : Nat) : Config.Pred :=
  let bw := ceilDiv i.w 16
  let x := min (16 * (k % bw) + 8) (i.w - 1)
  let y := min (16 * (k / bw) + 8) (i.h - 1)
  (b.preds.find? (fun p => decide (p.x ≤ x ∧ x < p.x + p.w ∧ p.y ≤ y ∧ y < p.y + p.h))).getD {}

/-! ## Filling -/

/-- seed_vector() of R169: from the nearest block of the column with decoded syntax, above and then below. -/
def seedVector (i : SeqInfo) (syn : Nat → Option Config.Block) (rc k : Nat) : Int × Int :=
  let bw := ceilDiv i.w 16
  let bh := ceilDiv i.h 16
  let bx := k % bw
  let by_ := k / bw
  let up := (List.range by_).map (fun j => by_ - 1 - j)
  let down := (List.range (bh - 1 - by_)).map (fun j => by_ + 1 + j)
  match (up ++ down).findSome? (fun y => (syn (y * bw + bx)).map (fun b => (b, y * bw + bx))) with
  | some (b, j) => match b.intra, (predAt i b j).l0 with
    | false, some (vx, vy, r) => if r = rc then (2 * vx.tdiv 8, 2 * vy.tdiv 8) else (0, 0)
    | _, _ => (0, 0)
  | none => (0, 0)

/-- fill_block() of R167: the samples of block k copied from R_c with a vector. -/
def fillFrom (i : SeqInfo) (rc : Pic) (bw k : Nat) (vx vy : Int) : List (List Nat) :=
  let bx := k % bw
  let by_ := k / bw
  (List.range 3).map (fun p =>
    let sx := if p = 0 then 1 else 2
    let sy := if p = 0 then 1 else if i.chroma = 1 then 2 else 1
    let wp := if p = 0 then i.w else rc.cw
    let hp := if p = 0 then i.h else rc.ch
    let pw := 16 / sx
    let ph := 16 / sy
    (List.range (pw * ph)).map (fun q =>
      let x : Int := ((pw * bx + q % pw : Nat) : Int) + vx / (sx : Nat)
      let y : Int := ((ph * by_ + q / pw : Nat) : Int) + vy / (sy : Nat)
      rc.at_ p (clampInt 0 ((wp : Int) - 1) x).toNat (clampInt 0 ((hp : Int) - 1) y).toNat))

/-- The blocks of R_c that the fill of block k reads: the block's samples inside the plane, displaced and clamped. -/
def fillReads (i : SeqInfo) (bw k : Nat) (vx vy : Int) : List Nat :=
  let at_ := fun (b : Nat) (v : Int) (lim e : Nat) => (clampInt 0 ((lim : Int) - 1) ((min (16 * b + e) (lim - 1) : Nat) + v)).toNat / 16
  let xs := [at_ (k % bw) vx i.w 0, at_ (k % bw) vx i.w 15]
  let ys := [at_ (k / bw) vy i.h 0, at_ (k / bw) vy i.h 15]
  ys.flatMap (fun y => xs.map (fun x => y * bw + x))

/-! ## A picture's result -/

/-- A decoded picture before it is written. -/
structure DecPic where
  blocks : List (List (List Nat))
  reasons : List Nat
  motion : List Bytes
  /-- reads that memory turned away, by address -/
  turned : List Nat := []
  deriving Inhabited

/-- Reasons 8, 2, 3 or 0 of a block with decoded syntax and its read set, given the reasons of the blocks before it (R162, R170, R176, R177). -/
def synReason (x : CtxSt) (tainted withheld : Nat × Nat → Bool) (before : Tab Nat) (b : Config.Block) (reads : List (Nat × Nat)) : Nat :=
  if reads.any withheld then 8
  else if reads.any (fun q => match x.fb? q.1 with | some f => f.standIn | none => false) then 2
  else if reads.any tainted || b.near.any (fun j => tget (fun _ => 0) before j != 0) || b.temporal.any tainted then 3
  else 0

/-- The edges between neighbouring blocks that deblocking runs on: both blocks have decoded syntax (R171). -/
def edgesOf (bw bh : Nat) (filled : Nat → Bool) : List (Nat × Nat) :=
  (List.range (bw * bh)).flatMap (fun k =>
    (if k % bw + 1 < bw ∧ filled k = false ∧ filled (k + 1) = false then [(k, k + 1)] else [])
      ++ (if k / bw + 1 < bh ∧ filled k = false ∧ filled (k + bw) = false then [(k, k + bw)] else []))

/-- The picture of an H.264 or H.265 access unit (R161 to R177): `x` holds the references, stand-ins included. -/
def State.decodeAvc (s : State) (n : Nat) (x : CtxSt) (a : Au) (st : Config.Start) (po : DecPoison) : DecPic × Config.DecOut :=
  let codec := s.codec n
  let i := a.info
  let bw := ceilDiv i.w 16
  let bh := ceilDiv i.h 16
  let nb := bw * bh
  let w := walkSlices codec a
  let lost := fun (k : Nat) => w.reason k != 0
  let memRefs := s.markedRefs x
  let withheld := po.refs ++ memRefs
  let input := fun (filled : Nat → Bool) => ({ codec, sets := a.sets, nals := w.good, refs := x.marked.map (s.refOf true withheld)
                                               restart := a.fresh, carry := x.carry, filled := (List.range nb).filter filled } : Config.DecIn)
  -- blocks that need a motion entry on a marked line
  let memMotion := s.markedMotion x
  let needs : List (Nat × Nat × Nat) := if memMotion.isEmpty then [] else
    let o := Config.decode (input lost)
    (List.range nb).filterMap (fun k => (o.blocks[k]?.bind (fun b => b.temporal.find? memMotion.contains)).map (fun q => (k, q)))
  let soft := fun (k : Nat) => po.bits.contains k || po.motion.contains k || needs.any (fun q => q.1 == k)
  let filled := fun (k : Nat) => lost k || soft k
  let rc := concealRef codec x st (s.clearsAt n a a.fresh)
  let o := Config.decode (input filled)
  let syn := fun (k : Nat) => if filled k then none else o.blocks[k]?
  let vec := fun (k : Nat) => match rc with
    | some f => seedVector i syn f.pic.buf k
    | none => (0, 0)
  -- filled blocks whose read of R_c returns poison (R167)
  let memFill : List (Nat × Nat × Nat) := match rc with
    | some f => if memRefs.isEmpty then [] else ((List.range nb).filter filled).filterMap (fun k =>
        ((fillReads i bw k (vec k).1 (vec k).2).find? (fun q => memRefs.contains (f.pic.buf, q))).map (fun q => (k, f.pic.buf, q)))
    | none => []
  let grey := fun (k : Nat) => po.conceal.contains k || memFill.any (fun q => q.1 == k)
  let tainted := fun (q : Nat × Nat) => match x.fb? q.1 with
    | some f => motionFlags (s.readMotion f.pic.info f.pic.handle q.2) / 8 % 2 == 1
    | none => true
  -- reasons: filled blocks first, then the others in decoding order
  let base : Tab Nat := (List.range nb).foldl (fun t k =>
    if soft k || grey k then tput (fun _ => 0) t k 8
    else if lost k then tput (fun _ => 0) t k (w.reason k) else t) []
  let reasons : Tab Nat := w.order.foldl (fun t k => match syn k with
    | some b => tput (fun _ => 0) t k (synReason x tainted (fun q => withheld.contains q) t b (readSet codec i b))
    | none => t) base
  let rcPic := rc.map (fun f => picOf f.pic.info (s.readBlocks f.pic.info f.pic.handle))
  let filtered := Config.loopFilter (input filled) (o.blocks.map (·.planes)) (edgesOf bw bh filled) ((List.range nb).filter filled)
  let blocks := (List.range nb).map (fun k => match syn k with
    | some _ => filtered.getD k (greyBlock i)
    | none => match rcPic with
      | some p => if grey k then greyBlock i else fillFrom i p bw k (vec k).1 (vec k).2
      | none => greyBlock i)
  let dpoc := fun (buf : Nat) => match x.fb? buf with | some f => f.pic.poc - st.poc | none => 0
  let motion := (List.range nb).map (fun k =>
    let c := if tget (fun _ => 0) reasons k = 0 then 0 else 8
    match syn k with
    | some b =>
      if b.intra then motionEntry 0 0 0 0 0 0 (1 + c)
      else
        let p := predAt i b k
        let v0 := p.l0.getD (0, 0, 0)
        let v1 := p.l1.getD (0, 0, 0)
        motionEntry v0.1 v0.2.1 v1.1 v1.2.1 (if p.l0.isSome then dpoc v0.2.2 else 0) (if p.l1.isSome then dpoc v1.2.2 else 0)
          ((if p.l0.isSome then 2 else 0) + (if p.l1.isSome then 4 else 0) + c)
    | none => match rc with
      | some f => motionEntry (4 * (vec k).1) (4 * (vec k).2) 0 0 (f.pic.poc - st.poc) 0 0x0A
      | none => motionEntry 0 0 0 0 0 0 9)
  let refReads := memRefs.filter (fun q => (List.range nb).any (fun k => match syn k with | some b => (readSet codec i b).contains q | none => false))
  ({ blocks, reasons := (List.range nb).map (tget (fun _ => 0) reasons), motion
     turned := (refReads ++ memFill.map (·.2)).map (s.refLine x) ++ needs.map (fun q => s.motionLine x q.2) }, o)

/-- The MCUs of a 16×16 block: one at 4:2:0, two at 4:2:2. -/
def mcusOf (chroma bw rows k : Nat) : List Nat :=
  if chroma = 2 then ([2 * (k / bw), 2 * (k / bw) + 1].filter (fun r => decide (r < rows))).map (fun r => r * bw + k % bw) else [k]

/-- The picture of a JPEG access unit (R166): a block with a removed MCU carries 1, one with an MCU of an interval in error carries 4, and every
sample of either, in every plane, is mid-grey. -/
def State.decodeJpeg (_ : State) (a : Au) (po : DecPoison) : DecPic :=
  let i := a.info
  let bw := ceilDiv i.w 16
  let nb := bw * ceilDiv i.h 16
  let rows := ceilDiv i.h (if i.chroma = 2 then 8 else 16)
  let map := mcuMap a.file a.scan (bw * rows)
  let got := fun (k : Nat) => (mcusOf i.chroma bw rows k).map map.mcu
  let reason := fun (k : Nat) =>
    let rs := (got k).map (·.2)
    if po.bits.contains k then 8 else if rs.contains 4 then 4 else if rs.contains 1 then 1 else 0
  let plane := fun (k p : Nat) => (got k).flatMap (fun q => q.1.getD p [])
  { blocks := (List.range nb).map (fun k => if reason k = 0 then (List.range 3).map (plane k) else greyBlock i)
    reasons := (List.range nb).map reason
    motion := (List.range nb).map (fun k => motionEntry 0 0 0 0 0 0 (if reason k = 0 then 1 else 9)) }

/-- Runs of a reason list. -/
def runsOf (rs : List Nat) : List (Nat × Nat) := normRuns (rs.map (fun r => (r, 1)))

/-! ## Stand-ins (R173, R174) -/

/-- The nearest available reference of a missing picture. `cur` and `maxNum`: the frame_num that FrameNumWrap is taken beside, and MaxFrameNum. -/
def nearestRef (codec : Nat) (x : CtxSt) (cur : Int) (maxNum : Nat) (m : Config.Missing) : Option FrameBuf :=
  let pick := fun (l : List FrameBuf) (key : FrameBuf → Nat) (low : FrameBuf → Int) => l.foldl (fun (r : Option FrameBuf) b => match r with
    | none => some b
    | some c => if key b < key c ∨ (key b = key c ∧ low b < low c) then some b else r) none
  let w := fun (f : Int) => wrapNum cur maxNum f
  if codec = 1 then pick (x.dpb.filter (fun b => b.mark != .unused)) (fun b => (b.pic.poc - m.poc).natAbs) (fun b => b.pic.poc)
  else match pick (x.dpb.filter (fun b => b.mark == .shortTerm)) (fun b => (w b.frameNum - w m.frameNum).natAbs) (fun b => w b.frameNum) with
    | some b => some b
    | none => (x.dpb.filter (fun b => b.mark == .longTerm)).foldl (fun (r : Option FrameBuf) b => match r with
      | none => some b
      | some c => if c.ltIdx < b.ltIdx then some b else r) none

/-- Create one stand-in in a buffer. -/
def State.standIn (n : Nat) (a : Au) (st : Config.Start) (s : State) (m : Config.Missing) (handle : Nat) : State :=
  let x := s.ctx n
  let i := a.info
  let nb := ceilDiv i.w 16 * ceilDiv i.h 16
  let blocks := match nearestRef (s.codec n) x (if m.gap then m.frameNum else st.frameNum) st.maxFrameNum m with
    | some f => s.readBlocks f.pic.info f.pic.handle
    | none => (List.range nb).map (fun _ => greyBlock i)
  let pic : PicInfo := { ctx := n, gen := s.generation n, leafSeq := 0xFFFFFFFF, info := i, poc := m.poc, cvs := x.cvs, buf := x.bufCount, handle }
  let s1 := s.writeFrame (s.seqFor n) handle (picOf i blocks) n 0xFFFFFFFF m.poc (rawBlock i.chroma (s.ten n))
    ((List.range nb).map (fun _ => motionEntry 0 0 0 0 0 0 9))
  s1.setCtx n { x with
    dpb := x.dpb ++ [{ pic := pic, mark := m.mark, frameNum := m.frameNum, ltIdx := m.ltIdx, concealed := true, standIn := true, gap := m.gap }]
    bufCount := x.bufCount + 1 }

end Sys2Proof.Machine
end

