-- ==== Sys2Proof/Machine/Decode.lean ====
section
/-!
DEFINITION. Decode cores (06_decode_and_references.md): dispatch (R108, R137, R143, R144), completion (R137, R145, R147, R156 to R159) and
the commands of their family.
-/
namespace Sys2Proof.Machine

/-- The core that last decoded a context, by CTX_CORE (R90); 0xFF if none. -/
def State.lastCore (s : State) (n : Nat) : Option Nat := let c := s.regF (Reg.CTX_CORE n) 0 8; if c = 0xFF then none else some c

/-! ## Dispatch -/

/-- A picture that is not decoded: every block carries a reason; the leaf's map is final unless the leaf has been chained (R110, R144, R163). -/
def State.absentPic (s : State) (n : Nat) (a : Au) (r : Nat) : State :=
  let bw := ceilDiv a.info.w 16
  let bh := ceilDiv a.info.h 16
  let s1 := if r = 7 then s.bump (Reg.CTX_PIC_SHED n) else s
  (s1.finalLeaf n a.seq bw bh [(r, bw * bh)]).settleSlots

/-- Contexts whose next picture is ready (R108, R137): the predecessor's record has been accepted, and the context is verifying. A CLOSING
context whose last leaf is chained decodes no more (R141). -/
def State.readyCtx (s : State) (n : Nat) : Bool :=
  let x := s.ctx n
  !x.queue.isEmpty && x.busy.isNone && decide (s.vstate n ≤ 1) && !(s.cstate n == 3 && (s.slot n).await.isEmpty)

/-- Take the pictures at the head of a queue that are skipped up to the next random access point (R110, R144); at it decoding restarts. A
RASL picture of the CRA or BLA at which decoding started is absent with reason 2 when its turn comes (R175). -/
def State.skipFuel (n : Nat) : Nat → State → State
  | 0, s => s
  | fuel + 1, s =>
    let x := s.ctx n
    match x.skip, x.queue with
    | some r, a :: t =>
      if a.rap then s.setCtx n { x with skip := none, restart := true }
      else State.skipFuel n fuel ((s.setCtx n { x with queue := t }).absentPic n a r)
    | none, a :: t =>
      if s.readyCtx n && s.raslAt n a then State.skipFuel n fuel ((s.setCtx n { x with queue := t }).absentPic n a 2) else s
    | _, [] => s

/-- Skip what is to be skipped. -/
def State.skipPics (s : State) (n : Nat) : State := State.skipFuel n (s.ctx n).queue.length s

/-- Discard a context's reference marks (R110, R144). -/
def State.dropMarks (s : State) (n : Nat) : State :=
  let x := s.ctx n
  (s.setCtx n { x with dpb := x.dpb.map (fun b => { b with mark := .unused }) }).sweepBufs n

/-- Deadline of a context's next picture: arrival plus the effective limit (R108). -/
def State.deadline (s : State) (n : Nat) : Nat := ((s.ctx n).queue.headD default).tick + s.limitT n

/-- Contexts with ready pictures in the order of R108: earliest deadline, ties to the lower number. -/
def State.readyList (s : State) : List Nat :=
  sortBy (fun a b => decide (s.deadline a ≤ s.deadline b)) ((s.contexts (fun st => st == 2 || st == 3)).filter s.readyCtx)

/-- Allocate several buffers; none if one is missing. The buffers taken so far go back. -/
def State.allocAll (agent : Nat) : List Nat → State → Option (List Nat × State)
  | [], s => some ([], s)
  | p :: ps, s =>
    let r := s.alloc agent p
    if r.1 = 0 then none
    else (State.allocAll agent ps r.2).map (fun q => (r.1 :: q.1, q.2))

/-- The output process asks for a bump: too many pictures wait, one has waited too long, or the buffer is full (R147). -/
def mustBump (i : SeqInfo) (full : Bool) (x : CtxSt) : Bool :=
  decide (i.reorder < (x.dpb.filter (·.outPending)).length)
    || (i.latency != 0 && x.dpb.any (fun b => b.outPending && decide (i.latency ≤ b.latency)))
    || (full && decide (max 1 i.dpb ≤ (x.dpb.filter (fun b => b.mark != .unused || b.outPending)).length))

/-- No frame buffer of the DPB is empty (H.264 clause C.4.5). -/
def dpbFull (i : SeqInfo) (x : CtxSt) : Bool := decide (max 1 i.dpb ≤ (x.dpb.filter (fun b => b.mark != .unused || b.outPending)).length)

/-- What precedes a picture's decoding: a picture that starts a coded video sequence empties the buffer, with or without output; the reference
picture set of H.265 applies, and H.265 makes room (R147, R178). -/
def State.beforePic (s : State) (n : Nat) (a : Au) (st : Config.Start) (clears : Bool) : State :=
  let x := s.ctx n
  let s1 := if clears then
      let s0 := if st.noOutput then s.setCtx n { x with dpb := x.dpb.map (fun b => { b with outPending := false }) } else s.outputAll n
      let y := s0.ctx n
      s0.setCtx n { y with dpb := y.dpb.map (fun b => { b with mark := .unused }), cvs := y.cvs + 1 }
    else if s.codec n = 1 then s.setCtx n { x with dpb := rpsMarks st.rps x.dpb }
    else s
  (if s.codec n = 1 then State.bumpWhile (mustBump a.info true) n 32 s1 else s1).sweepBufs n

/-- Room for one more frame of the gap process: the sliding window releases the short-term frame with the lowest FrameNumWrap, and frames are
output until a frame buffer is empty (R147, R173). -/
def State.slideFor (s : State) (n : Nat) (a : Au) (st : Config.Start) (m : Config.Missing) : State :=
  if !m.gap then s else
  let x := s.ctx n
  let w := fun (b : FrameBuf) => wrapNum m.frameNum st.maxFrameNum b.frameNum
  let old := (x.dpb.filter (fun b => b.mark == .shortTerm)).foldl (fun (r : Option FrameBuf) b => match r with
    | none => some b
    | some c => if w b < w c then some b else r) none
  let s1 := match old with
    | some b => if x.marked.length < max st.numRef 1 then s else
      s.setCtx n { x with dpb := x.dpb.map (fun c => if c.pic.buf = b.pic.buf then { c with mark := .unused } else c) }
    | none => s
  (State.bumpWhile (dpbFull a.info) n 32 s1).sweepBufs n

/-- May the context take one more buffer: at most its DPB size plus 1 (R144)? A JPEG context needs none beside its current picture's. -/
def State.roomFor (s : State) (n : Nat) (a : Au) : Bool := s.codec n == 2 || decide ((s.ctx n).dpb.length ≤ a.info.dpb)

/-- Make the stand-ins of a picture, one after another; none where one finds no buffer (R173). -/
def State.makeStandIns (n : Nat) (a : Au) (st : Config.Start) : List Config.Missing → State → Option State
  | [], s => some s
  | m :: ms, s =>
    let s1 := s.slideFor n a st m
    if !s1.roomFor n a then none else
    let q := s1.alloc (s1.seqFor n) (poolFor 5 (fbSize (s1.maxW n) (s1.maxH n)))
    if q.1 = 0 then none else State.makeStandIns n a st ms (State.standIn n a st q.2 m q.1)

/-- The sizes of a context's side scalers in use. -/
def CtxSt.scalers (x : CtxSt) : List (Nat × Nat) := x.sc0.toList ++ x.sc1.toList

/-- The buffers of a context's next picture: output and scaled copies (R142, R143, R157). -/
def State.wantPools (s : State) (n : Nat) (a : Au) : List Nat :=
  poolFor 5 (fbSize (s.maxW n) (s.maxH n)) :: (s.ctx n).scalers.map (fun z => poolFor 3 (flatSize z.1 z.2 a.info.depth))

/-- What the decoding process does before a picture's first block, once for every picture: the slice headers, output and marking, stand-ins.
Answers the unit with what its headers say. -/
def State.prepare (s : State) (n : Nat) (a : Au) : Option (Au × State) :=
  if a.start.isSome then some (a, s) else
  let fresh := (s.ctx n).freshAt a
  let st := s.startOf n a
  let clears := s.clearsAt n a fresh
  let s1 := s.beforePic n a st clears
  (State.makeStandIns n a st (s1.missingOf n a st clears) s1).map (fun t =>
    let x := t.ctx n
    ({ a with start := some st, fresh },
     if a.rap then t.setCtx n { x with restart := false, noRasl := clears && (a.nals ++ a.beyond).any (fun u => 16 ≤ nalType 1 u && !isIdr u) } else t))
where
  /-- an H.265 IDR slice -/
  isIdr (u : Bytes) : Bool := nalType 1 u == 19 || nalType 1 u == 20

/-- A picture found no buffer: it waits, and DEC_ALLOC_WAIT of the core that last decoded the context counts once (R144). -/
def State.allocWait (s0 : State) (n : Nat) : State :=
  match (s0.ctx n).queue with
  | a :: t =>
    if a.waited then s0 else
    let q := s0.alloc (s0.seqFor n) (poolFor 5 (fbSize (s0.maxW n) (s0.maxH n)))
    -- the failed ALLOC counts in FP_EMPTY
    let s := if q.1 = 0 then q.2 else s0
    let x := s.ctx n
    let s1 := s.setCtx n { x with queue := { a with waited := true } :: t }
    match s.lastCore n with
    | some c => s1.bump (Reg.DEC_ALLOC_WAIT (c - 0x40))
    | none => s1
  | [] => s0

/-- Dispatch a context's next picture to a core, if its buffers are allocated and it holds no more than its DPB size plus 1 (R143, R144). -/
def State.dispatchCtx (s : State) (n core : Nat) : Option State :=
  match (s.ctx n).queue with
  | [] => none
  | a :: t =>
    match s.prepare n a with
    | none => none
    | some (a1, s0) =>
      if !s0.roomFor n a then none else
      match State.allocAll (s0.seqFor n) (s0.wantPools n a) s0 with
      | none => none
      | some (hs, s1) =>
        let job : DecJob := { unit := core, au := a1, handle := hs.headD 0
                              copies := ((s0.ctx n).scalers.zip (hs.drop 1)).map (fun q => (q.1.1, q.1.2, q.2)) }
        let switched := (s.unit core).last != some n
        let s2 := s1.setCtx n { s1.ctx n with queue := t, busy := some job }
        let s3 := if switched then (s2.bump (Reg.CTX_SWITCHES n)).bump (Reg.DEC_SWITCHES (core - 0x40)) else s2
        some ((s3.startJob core (.decode n) n a.restarted).setRegF (Reg.CTX_CORE n) 0 8 core)

/-- A context's record read returned poison (R110, R158): F158, DEC_POISON of the core, decode state and reference marks go, this picture and those
up to the next random access point carry reason 8. -/
def State.recordPoison (s : State) (n core : Nat) : State :=
  let s1 := (s.bump (Reg.DEC_POISON (core - 0x40))).raiseFault { src := 158, d0 := n }
  let x := s1.ctx n
  match x.queue with
  | a :: t => ((s1.setCtx n { x with queue := t, skip := some 8, carry := [] }).absentPic n a 8).dropMarks n
  | [] => s1

/-- Try the ready contexts in order. `poison`: the read of the first one's record from memory returns poison for another cause than a poison mark. -/
def State.dispatchFirst : Bool → List Nat → State → State
  | _, [], s => s
  | poison, n :: ns, s =>
    match s.chooseUnit 0x40 64 (s.lastCore n) with
    | none => s
    | some c =>
      let r := s.touchRecord c n
      if r.1 || (poison && !s.cached n) then (r.2.recordPoison n c).skipPics n
      else match r.2.dispatchCtx n c with
        | some s1 => s1
        | none => State.dispatchFirst false ns (r.2.allocWait n)

/-- DECODE_DISPATCH (R108 to R110, R137, R143, R144). `poison`: the read of the incoming context record from memory is uncorrectable. -/
def execDecodeDispatch (poison : Bool) (s : State) : Host.Outcome State Fault Refusal :=
  if !s.codingOn then .next s else
  let s0 := (s.contexts (fun st => st == 2 || st == 3)).foldl State.skipPics s
  .next (State.dispatchFirst poison s0.readyList s0)

/-- DECODE_ALLOC_FAILURE: a picture that still has no buffer at its deadline is not decoded (R144). -/
def execDecodeAllocFailure (n : Fin 1024) (s : State) : Host.Outcome State Fault Refusal :=
  let x := s.ctx n
  match x.queue with
  | a :: t =>
    if a.waited && x.busy.isNone && decide (s.deadline n ≤ s.now) then
      let s1 := s.setCtx n { x with queue := t, skip := some 7 }
      .next (((s1.absentPic n a 7).dropMarks n).skipPics n)
    else .next s
  | [] => .next s

/-! ## Completion -/

/-- Marks of a context's buffers as the standard's process leaves them. -/
def applyMarks (ms : List (Nat × RefMark × Int × Nat)) (l : List FrameBuf) : List FrameBuf :=
  l.map (fun b => match ms.find? (fun q => q.1 == b.pic.buf) with
    | some (_, m, fn, lt) => { b with mark := m, frameNum := fn, ltIdx := lt }
    | none => b)

/-- The scaled copies of a picture (R156, R157): the cropped picture, plane by plane, to 4:2:0. -/
def State.writeCopy (agent : Nat) (s : State) (i : SeqInfo) (p : Pic) (c : Nat × Nat × Nat) : State :=
  let sy := if i.chroma = 1 then 2 else 1
  let f := fun (pl x y : Nat) =>
    if pl = 0 then scaleSample true i.depth p.y i.cropX i.cropY i.cropW i.cropH c.1 c.2.1 x y
    else scaleSample false i.depth (p.at_ pl) (i.cropX / 2) (i.cropY / sy) (i.cropW / 2) (i.cropH / sy) (c.1 / 2) (c.2.1 / 2) x y
  (flatRows c.1 c.2.1 i.depth f).foldl (fun t q => t.unitWrite agent (s.bufAddr c.2.2 + q.1) q.2) s

/-- CTX_PRESS and its last 32 pictures (R96). -/
def pushPress (l : List Nat) (r : Nat) : List Nat := (r :: l).take 32
def pressShown (l : List Nat) : Nat := if l.length < 32 then 64 else l.foldl max 0

/-- The number of poisoned reads. -/
def DecPoison.count (p : DecPoison) : Nat := (if p.bits.isEmpty then 0 else max 1 p.reads) + p.refs.length + p.motion.length + p.conceal.length

/-- The core has decoded the picture that it holds for context n: output buffer, motion field and scaled copies are written, and the result waits
for the collector (R137, R180). Answers how many blocks have a reason other than 0, and the addresses of the reads that memory turned away. -/
def State.finishDecode (s : State) (n : Nat) (j : DecJob) (po : DecPoison) : State × Nat × List Nat :=
  let a := j.au
  let i := a.info
  let st := a.start.getD {}
  let x := s.ctx n
  let r := if s.codec n = 2 then (s.decodeJpeg a po, {}) else s.decodeAvc n x a st po
  let d := r.1
  let p := picOf i d.blocks
  let raw := rawBlock i.chroma (s.ten n)
  let s1 := s.writeFrame j.unit j.handle p n a.seq st.poc raw d.motion
  let s2 := j.copies.foldl (fun t c => t.writeCopy j.unit i p c) s1
  let o := r.2
  let res : DecResult := { bw := ceilDiv i.w 16, bh := ceilDiv i.h 16, runs := runsOf d.reasons, marks := o.marks, own := o.own, ownLt := o.ownLt
                           flush := o.flush, carry := o.carry, ratio := pressRatio (pressedBytes p) (p.nb * raw) }
  (s2.setCtx n { x with busy := some { j with result := some res } }, d.reasons.countP (· != 0), d.turned)

/-- Room for a decoded H.264 picture (clause C.4.5): frames are output until a frame buffer is empty, unless the picture is no reference and comes
first in output order. -/
def State.storeRoom (s : State) (n : Nat) (i : SeqInfo) (ref out : Bool) (poc : Int) : State :=
  State.bumpWhile (fun x => dpbFull i x && (ref || (out && x.dpb.any (fun b => b.outPending && decide (b.pic.poc < poc))))) n 32 s

/-- The collector accepts the record of a decoded picture: the picture enters the DPB and the output process, and the leaf's broke map is final
(R137, R145, R147, R180). -/
def State.acceptPicture (s : State) (n : Nat) : State :=
  match (s.ctx n).busy with
  | none => s
  | some j => match j.result with
    | none => s
    | some r =>
      let a := j.au
      let i := a.info
      let st := a.start.getD {}
      let x0 := s.ctx n
      let s0 := s.setCtx n { x0 with busy := none, dpb := applyMarks r.marks x0.dpb, carry := r.carry }
      let s1 := match r.flush with
        | some _ => s0.outputAll n
        | none => if s.codec n = 0 then s0.storeRoom n i (r.own != RefMark.unused) st.output st.poc else s0
      let x := s1.ctx n
      let poc := r.flush.getD st.poc
      let pic : PicInfo := { ctx := n, gen := s.generation n, leafSeq := a.seq, arr := a.arr, tq := a.tq, rtp := a.rtp, serial := a.serial, info := i
                             poc, cvs := x.cvs, buf := x.bufCount, handle := j.handle, copies := j.copies }
      let fb : FrameBuf := { pic := pic, mark := r.own, frameNum := if r.flush.isSome then 0 else st.frameNum, ltIdx := r.ownLt
                             outPending := st.output, concealed := r.runs.any (fun q => q.1 != 0) }
      let press := pushPress x.press r.ratio
      let s2 := (s1.setCtx n { x with
        dpb := x.dpb.map (fun (b : FrameBuf) => if st.output && b.outPending && decide (poc < b.pic.poc) then { b with latency := b.latency + 1 } else b) ++ [fb]
        bufCount := x.bufCount + 1
        press := press }).setRegF (Reg.CTX_PRESS n) 0 7 (pressShown press)
      let direct := s.codec n == 0 && r.own == RefMark.unused && st.output && dpbFull i x
      let s3 := if s.codec n = 2 then s2.outputAll n
        else State.bumpWhile (mustBump i false) n 32 (if direct then s2.outputPic n pic.buf else s2)
      let s4 := s3.bumpIf ((s3.slot n).await.any (fun l => l.seq == a.seq && !l.final)) (Reg.CTX_PIC_VERIFIED n)
      (s4.sweepBufs n).finalLeaf n a.seq r.bw r.bh r.runs

/-- DECODE_PICTURE_DONE (R137, R140, R158). -/
def execDecodePictureDone (c : Fin 64) (po : DecPoison) (s : State) : Host.Outcome State Fault Refusal :=
  let agent := agDc c
  let u := s.unit agent
  match u.job with
  | some (.decode n) =>
    match (s.ctx n).busy with
    | some j =>
      if j.unit ≠ agent ∨ s.frozen agent ∨ (s.heldRec agent).isSome then .next s else
      let bits := 8 * sumNat ((if s.codec n = 2 then j.au.scan.map (·.data) else j.au.nals).map (·.length))
      let s1 := ((s.bump (Reg.DEC_PICTURES c)).bumpN (Reg.DEC_PIXELS c) (j.au.info.w * j.au.info.h)).bumpN (Reg.DEC_BITS c) bits
      let s2 := if u.restarted then s1.bump (Reg.DEC_RESTARTS c) else s1
      let r := s2.finishDecode n j po
      let poison := po.count + r.2.2.length
      let log := (r.2.2.filter s.lineMarked ++ po.refs.map (s.refLine (s.ctx n))).foldl (fun t a => t.poisonedRead agent a) r.1
      let status := (if poison = 0 then 0 else 1) + (if u.restarted then 2 else 0) + (if j.au.waited then 4 else 0)
      .next (((log.bumpN (Reg.DEC_POISON c) poison).endJob agent).sendRecord agent (s.seqFor n - 0xA0) 0 n j.au.seq status r.2.1 u.since)
    | none => .next s
  | _ => .next s

/-- VERIFICATION_LIMIT_EXPIRY: leaves of a context whose effective limit has passed are chained as they stand (R19, R20, R180). -/
def execVerificationLimitExpiry (n : Fin 1024) (s : State) : Host.Outcome State Fault Refusal := .next (s.expireLeaves n)

/-- DEC_OOS: the core leaves service at its next picture boundary and publishes 0, or returns at once (R92, R160). -/
def execDecOos (c : Fin 64) (out : Bool) (s : State) : Host.Outcome State Fault Refusal :=
  .next (s.writeOos (agDc c) out)

end Sys2Proof.Machine
end

