-- ==== Sys2Proof/Machine/Layers.lean ====
section
/-!
DEFINITION. The samples of a composed picture (10_composition.md): placing (R232, R233), colour (R242 to R245), blending (R246, R247), graphics
(R248, R249), caption (R251 to R254), masks (R258).
-/
namespace Sys2Proof.Machine

/-! ## Configuration in force -/

/-- A word of the composition fields in force: offset 0x80 + 4·k of the rendition entry. -/
def RndSt.word (r : RndSt) (k : Nat) : Word := r.cmp.getD k 0#32

/-- Output depth d_o (R231). -/
def State.outDepth (s : State) (n : Nat) : Nat := if s.cfgF (Reg.RND_CFG n) 2 2 = 2 then 10 else 8

/-! ## Placing -/

/-- Source rectangle in the coded picture (R232): x, y, w, h. -/
def sourceRect (r : RndSt) (k : Nat) (i : SeqInfo) : Nat × Nat × Nat × Nat := cropRect (r.word (4 + 2 * k)) (r.word (5 + 2 * k)) i

/-- A video layer: source number, picture, source and destination rectangles. -/
structure Layer where
  k : Nat
  pic : PicInfo
  src : Nat × Nat × Nat × Nat
  dst : Nat × Nat × Nat × Nat
  deriving DecidableEq, Repr, Inhabited

/-- The video layers of a picture (R233). -/
def State.layers (s : State) (n : Nat) (r : RndSt) (pics : List (Option PicInfo)) : List Layer :=
  let vs := s.validSources n
  ((vs.zip pics).zip (tilesOf (s.outW n) (s.outH n) vs.length)).filterMap (fun q => match q.1.2 with
    | none => none
    | some p =>
      let sr := sourceRect r q.1.1.1 p.info
      let t := q.2
      some { k := q.1.1.1, pic := p, src := sr, dst := fitTile t.1 t.2.1 t.2.2.1 t.2.2.2 sr.2.2.1 sr.2.2.2 })

/-- Is (x, y) in a rectangle? -/
def inRect (q : Nat × Nat × Nat × Nat) (x y : Nat) : Bool :=
  decide (q.1 ≤ x ∧ x < q.1 + q.2.2.1 ∧ q.2.1 ≤ y ∧ y < q.2.1 + q.2.2.2)

/-! ## Colour -/

/-- Does a layer show a JPEG source? -/
def State.jpegLayer (s : State) (l : Layer) : Bool := s.codec l.pic.ctx == 2

/-- A layer's class (R242): 1 SDR, 2 HLG, 3 PQ. -/
def State.layerClass (s : State) (r : RndSt) (l : Layer) : Nat :=
  let x := fld (r.word 3) (2 * l.k) 2
  if s.jpegLayer l then 1 else if x ≠ 0 then x else if l.pic.info.xfer = 18 then 2 else if l.pic.info.xfer = 16 then 3 else 1

/-- Full range to limited range at depth d (R243). -/
def limitRange (d p v : Nat) : Nat :=
  let m : Int := 2 ^ d - 1
  let sh : Int := 2 ^ (d - 8)
  if p = 0 then (16 * sh + (219 * sh * v + m / 2) / m).toNat
  else (128 * sh + (224 * sh * ((v : Int) - 128 * sh) + m / 2) / m).toNat

/-- Depth conversion (R243). -/
def toDepth (d dO v : Nat) : Nat := if d = dO then v else if dO = 10 then v * 4 else min ((v + 2) / 4) 255

/-- rgb_to_ycc() of R245, at output depth d. -/
def rgbToYcc (r g b : Int) (d : Nat) : Nat × Nat × Nat :=
  let k := if d = 10 then 4 else 1
  ((16 + (11919 * r + 40097 * g + 4048 * b + 8388608) / 16777216).toNat * k,
   (128 + (-6570 * r - 22102 * g + 28672 * b + 8388608) / 16777216).toNat * k,
   (128 + (28672 * r - 26043 * g - 2629 * b + 8388608) / 16777216).toNat * k)

/-- tone() of R244, then rgb_to_ycc(): an HLG or PQ pixel at 10 bits. `lut` is 0x4000 or 0x5000. -/
def State.tone (s : State) (lut : Nat) (y cb cr d : Nat) : Nat × Nat × Nat :=
  let yy : Int := (y : Int) - 64
  let u : Int := (cb : Int) - 512
  let v : Int := (cr : Int) - 512
  let p := [clampInt 0 65472 ((19133 * yy + 27584 * v + 128) / 256), clampInt 0 65472 ((19133 * yy - 3078 * u - 10688 * v + 128) / 256),
            clampInt 0 65472 ((19133 * yy + 35194 * u + 128) / 256)]
  let entry := fun (i : Nat) => ((s.cfgF (lut + 4 * i) 0 16 : Nat) : Int)
  let o := p.map (fun q =>
    let i := (q / 64).toNat
    let f := q % 64
    (entry i * (64 - f) + entry (min (i + 1) 1023) * f + 32) / 64)
  let m := fun (r c : Nat) => signedOf 16 (s.cfgF (Reg.GLB_TM_MTX (3 * r + c)) 0 16)
  let o2 := fun (r : Nat) => clampInt 0 65535 ((m r 0 * o.getD 0 0 + m r 1 * o.getD 1 0 + m r 2 * o.getD 2 0 + 8192) / 16384)
  rgbToYcc (o2 0) (o2 1) (o2 2) d

/-! ## Video samples -/

/-- A source sample of plane p of a layer's picture. -/
def State.srcSample (s : State) (l : Layer) (p x y : Nat) : Nat :=
  let i := l.pic.info
  let bw := ceilDiv i.w 16
  let ph := if p = 0 then 16 else chromaRows i.chroma
  let pw := if p = 0 then 16 else 8
  ((s.readBlock i (s.bufAddr l.pic.handle) (y / ph * bw + x / pw)).getD p []).getD (y % ph * pw + x % pw) 0

/-- The lengths and origin of a layer's plane p: source x, y, w, h and destination w, h (R238). -/
def planeRects (l : Layer) (p : Nat) : Nat × Nat × Nat × Nat × Nat × Nat :=
  let c := if p = 0 then 1 else 2
  let v := if p = 0 then 1 else if l.pic.info.chroma = 1 then 2 else 1
  (l.src.1 / c, l.src.2.1 / v, l.src.2.2.1 / c, l.src.2.2.2 / v, l.dst.2.2.1 / c, l.dst.2.2.2 / c)

/-- The side-scaled copy that a layer may use (R241). -/
def copyOf (l : Layer) : Option Nat :=
  if l.src = (l.pic.info.cropX, l.pic.info.cropY, l.pic.info.cropW, l.pic.info.cropH) then
    (l.pic.copies.find? (fun c => c.1 == l.dst.2.2.1 && c.2.1 == l.dst.2.2.2)).map (fun c => c.2.2)
  else none

/-- Where a sample of a side-scaled copy stands in memory. -/
def State.copyAddr (s : State) (l : Layer) (h p i j : Nat) : Nat :=
  s.bufAddr h + flatOffset l.dst.2.2.1 l.dst.2.2.2 l.pic.info.depth p i j

/-- Does the scaled sample (i, j) of plane p touch a poisoned source sample? -/
def State.touchesPoison (s : State) (po : SrcPoison) (l : Layer) (p i j : Nat) : Bool :=
  if po.isEmpty && s.mem.poison.isEmpty then false else
  match copyOf l with
  | some h => po.contains (l.k, p, i, j) || s.lineMarked (s.copyAddr l h p i j)
  | none =>
  let q := planeRects l p
  let t := scaleReach (p == 0) q.2.2.1 q.2.2.2.1 q.2.2.2.2.1 q.2.2.2.2.2 i j
  let info := l.pic.info
  let bw := ceilDiv info.w 16
  let ph := if p = 0 then 16 else chromaRows info.chroma
  let pw := if p = 0 then 16 else 8
  t.1.any (fun x => t.2.any (fun y => po.contains (l.k, p, q.1 + x, q.2.1 + y)
    || s.blockPoisoned (s.bufAddr l.pic.handle) (bw * ceilDiv info.h 16) ((q.2.1 + y) / ph * bw + (q.1 + x) / pw)))

/-- A layer's sample after scaling, at source depth (R238 to R241). -/
def State.scaled (s : State) (l : Layer) (p i j : Nat) : Nat :=
  let info := l.pic.info
  match copyOf l with
  | some h =>
    let a := s.copyAddr l h p i j
    if info.depth = 8 then (s.byteAt a).toNat else leNat (s.getMem a 2)
  | none =>
    let q := planeRects l p
    scaleSample (p == 0) info.depth (s.srcSample l p) q.1 q.2.1 q.2.2.1 q.2.2.2.1 q.2.2.2.2.1 q.2.2.2.2.2 i j

/-- A tone-mapped pixel of a layer. -/
def State.tonedPix (s : State) (cls : Nat) (l : Layer) (d i j : Nat) : Nat × Nat × Nat :=
  let k := if l.pic.info.depth = 8 then 4 else 1
  s.tone (if cls = 2 then Reg.GLB_TM_HLG 0 else Reg.GLB_TM_PQ 0) (s.scaled l 0 i j * k) (s.scaled l 1 (i / 2) (j / 2) * k)
    (s.scaled l 2 (i / 2) (j / 2) * k) d

/-- A layer's sample at output depth (R243, R244, R264), at plane position (i, j) within its destination. -/
def State.layerSample (s : State) (r : RndSt) (d : Nat) (po : SrcPoison) (l : Layer) (p i j : Nat) : Nat :=
  let cls := s.layerClass r l
  let quad := [(2 * i, 2 * j), (2 * i + 1, 2 * j), (2 * i, 2 * j + 1), (2 * i + 1, 2 * j + 1)]
  let t := s.touchesPoison po l
  -- a tone-mapped sample is worked out from luma and chroma
  if t p i j || (cls != 1 && (if p = 0 then t 1 (i / 2) (j / 2) || t 2 (i / 2) (j / 2) else t (3 - p) i j || quad.any (fun z => t 0 z.1 z.2))) then
    2 ^ (d - 1)
  else if cls = 1 then
    let v := s.scaled l p i j
    let v1 := if l.pic.info.fullRange || s.jpegLayer l then limitRange l.pic.info.depth p v else v
    toDepth l.pic.info.depth d v1
  else if p = 0 then (s.tonedPix cls l d i j).1
  else
    let q := quad.map (fun z => s.tonedPix cls l d z.1 z.2)
    (sumNat (q.map (fun z => if p = 1 then z.2.1 else z.2.2)) + 2) / 4

/-- Where the layers of a picture read poison in memory: blocks of a picture's source rectangle, or lines of a side-scaled copy (R264), by address. -/
def State.markedSources (s : State) (n : Nat) (r : RndSt) (pics : List (Option PicInfo)) : List Nat :=
  if s.mem.poison.isEmpty then [] else
  (s.layers n r pics).flatMap (fun l => match copyOf l with
    | some h => ((List.range (ceilDiv (flatSize l.dst.2.2.1 l.dst.2.2.2 l.pic.info.depth) 128)).map (fun q => s.bufAddr h + 128 * q)).filter s.lineMarked
    | none =>
      let bw := ceilDiv l.pic.info.w 16
      let nb := bw * ceilDiv l.pic.info.h 16
      ((List.range nb).filter (fun k => decide (l.src.1 / 16 ≤ k % bw ∧ 16 * (k % bw) < l.src.1 + l.src.2.2.1 ∧ l.src.2.1 / 16 ≤ k / bw
        ∧ 16 * (k / bw) < l.src.2.1 + l.src.2.2.2) && s.blockPoisoned (s.bufAddr l.pic.handle) nb k)).map
          (s.blockLine (s.bufAddr l.pic.handle) nb))

/-- Where the source samples that a command reports as poisoned stand in memory (R264). -/
def State.srcLines (s : State) (n : Nat) (r : RndSt) (pics : List (Option PicInfo)) (po : SrcPoison) : List Nat :=
  po.filterMap (fun q => ((s.layers n r pics).find? (fun l => l.k == q.1)).map (fun l => match copyOf l with
    | some h => s.copyAddr l h q.2.1 q.2.2.1 q.2.2.2
    | none =>
      let bw := ceilDiv l.pic.info.w 16
      let ph := if q.2.1 = 0 then 16 else chromaRows l.pic.info.chroma
      let pw := if q.2.1 = 0 then 16 else 8
      s.blockLine (s.bufAddr l.pic.handle) (bw * ceilDiv l.pic.info.h 16) (q.2.2.2 / ph * bw + q.2.2.1 / pw)))

/-! ## Graphics (R246 to R249) -/

/-- A pixel (A, R, G, B) of a surface. -/
def Surface.pixel (f : Surface) (x y : Nat) : Nat × Nat × Nat × Nat :=
  let o := if f.indexed then 4 * (f.data.getD (1024 + y * f.w + x) 0#8).toNat else 4 * (y * f.w + x)
  let b := fun (k : Nat) => (f.data.getD (o + k) 0#8).toNat
  (b 0, b 1, b 2, b 3)

/-- Pixel of an enabled graphic layer at an output position; transparent outside it. -/
def State.gfxPixel (s : State) (r : RndSt) (j x y : Nat) : Nat × Nat × Nat × Nat :=
  let c := r.word (12 + 2 * j)
  let pos := r.word (13 + 2 * j)
  let x0 := fld pos 0 13
  let y0 := fld pos 16 13
  match fld c 8 1, tget (fun _ => none) s.surfs (fld c 0 6) with
  | 1, some f => if inRect (x0, y0, f.w, f.h) x y then f.pixel (x - x0) (y - y0) else (0, 0, 0, 0)
  | _, _ => (0, 0, 0, 0)

/-- The flattened surface: layer 1 where its alpha is not 0, else layer 0 (R249). -/
def State.flatPixel (s : State) (r : RndSt) (x y : Nat) : Nat × Nat × Nat × Nat :=
  let p := s.gfxPixel r 1 x y
  if p.1 ≠ 0 then p else s.gfxPixel r 0 x y

/-- out of R246. -/
def blend (a f b : Nat) : Nat := (a * f + (255 - a) * b + 127) / 255

/-- The caption box: left, top (R251). -/
def captionAt (r : RndSt) (w h : Nat) : Nat × Nat :=
  let corner := fld (r.word 0) 0 2
  let inset := fld (r.word 0) 2 6 * 2
  (if corner % 2 = 0 then inset else w - 512 - inset, if corner < 2 then inset else h - 104 - inset)

/-- Is an output position in the caption box? -/
def inCaption (r : RndSt) (w h x y : Nat) : Bool := let c := captionAt r w h; inRect (c.1, c.2, 512, 104) x y

/-- A sample with the graphics placed over it (R246, R247); what falls into the caption box is cut away (R254). -/
def State.withGfx (s : State) (r : RndSt) (w h d p x y below : Nat) : Nat :=
  let px := fun (x y : Nat) => if inCaption r w h x y then (0, 0, 0, 0) else s.flatPixel r x y
  let ycc := fun (q : Nat × Nat × Nat × Nat) => rgbToYcc (q.2.1 * 257 : Nat) (q.2.2.1 * 257 : Nat) (q.2.2.2 * 257 : Nat) d
  if p = 0 then
    let q := px x y
    if q.1 = 0 then below else blend q.1 (ycc q).1 below
  else
    let qs := [px (2 * x) (2 * y), px (2 * x + 1) (2 * y), px (2 * x) (2 * y + 1), px (2 * x + 1) (2 * y + 1)]
    let sa := sumNat (qs.map (·.1))
    if sa = 0 then below
    else
      let c := (sumNat (qs.map (fun q => q.1 * (if p = 1 then (ycc q).2.1 else (ycc q).2.2))) + sa / 2) / sa
      blend ((sa + 2) / 4) c below

/-! ## Masks (R256, R258) -/

/-- Rectangles of a mask record. -/
def maskRects (b : Bytes) : List (Nat × Nat × Nat × Nat) :=
  (List.range (fieldAt 8 1 b)).map (fun k =>
    let o := 12 + 8 * k
    (fieldAt o 2 b, fieldAt (o + 2) 2 b, fieldAt (o + 4) 2 b, fieldAt (o + 6) 2 b))

/-- One dimension of R258: cut, widen by 4, cut again, map outward, cut to the destination. -/
def maskSpan (x w s0 sw d0 dw : Nat) : Option (Nat × Nat) :=
  let a := max x s0
  let b := min (x + w) (s0 + sw)
  if w = 0 ∨ b ≤ a then none else
  let a1 := max (a - 4) s0
  let b1 := min (b + 4) (s0 + sw)
  let x0 := (d0 + (a1 - s0) * dw / sw) / 2 * 2
  let x1 := (d0 + ceilDiv ((b1 - s0) * dw) sw + 1) / 2 * 2
  some (max x0 d0, min x1 (d0 + dw))

/-- A mask rectangle in the output: x, y, w, h. -/
def maskOut (l : Layer) (q : Nat × Nat × Nat × Nat) : Option (Nat × Nat × Nat × Nat) :=
  match maskSpan q.1 q.2.2.1 l.src.1 l.src.2.2.1 l.dst.1 l.dst.2.2.1, maskSpan q.2.1 q.2.2.2 l.src.2.1 l.src.2.2.2 l.dst.2.1 l.dst.2.2.2 with
  | some x, some y => some (x.1, y.1, x.2 - x.1, y.2 - y.1)
  | _, _ => none

/-! ## Caption (R252, R253) -/

/-- n as k decimal digits. -/
def digits : Nat → Nat → Bytes
  | 0, _ => []
  | k + 1, n => digits k (n / 10) ++ [BitVec.ofNat 8 (0x30 + n % 10)]

/-- Year, month, day of a day count from 1970-01-01 (proleptic Gregorian). -/
def civil (days : Nat) : Nat × Nat × Nat :=
  let z := days + 719468
  let era := z / 146097
  let doe := z % 146097
  let yoe := (doe - doe / 1460 + doe / 36524 - doe / 146096) / 365
  let doy := doe - (365 * yoe + yoe / 4 - yoe / 100)
  let mp := (5 * doy + 2) / 153
  let d := doy - (153 * mp + 2) / 5 + 1
  let m := if mp < 10 then mp + 3 else mp - 9
  (yoe + era * 400 + (if m ≤ 2 then 1 else 0), m, d)

/-- A line of 31 characters. -/
def padLine (b : Bytes) : Bytes := (b ++ List.replicate 31 0x20#8).take 31

/-- The three lines of the caption. -/
def captionLines (p : PicInfo) (label : Bytes) : List Bytes :=
  let sec := p.arr / 1000000000
  let c := civil (sec / 86400)
  let t := sec % 86400
  let dash := [0x2D#8]
  let colon := [0x3A#8]
  let letter := (ascii "LSHXF").getD p.tq 0x46#8
  [padLine (digits 4 c.1 ++ dash ++ digits 2 c.2.1 ++ dash ++ digits 2 c.2.2 ++ [0x20#8] ++ digits 2 (t / 3600) ++ colon
      ++ digits 2 (t / 60 % 60) ++ colon ++ digits 2 (t % 60) ++ [0x2E#8] ++ digits 3 (p.arr % 1000000000 / 1000000) ++ ascii " TAI " ++ [letter]),
   padLine label,
   padLine (ascii "REAM " ++ digits 10 (p.serial % 2 ^ 32) ++ ascii " LEAF " ++ digits 10 p.leafSeq)]

/-- A sample of the caption box at (x, y) within it, plane p (R253). -/
def State.captionSample (s : State) (lines : List Bytes) (d p x y : Nat) : Nat :=
  if p ≠ 0 then 128 * 2 ^ (d - 8)
  else
    let bg := 16 * 2 ^ (d - 8)
    if x < 8 ∨ y < 4 ∨ 8 + 31 * 16 ≤ x ∨ 4 + 96 ≤ y then bg
    else
      let c := ((lines.getD ((y - 4) / 32) []).getD ((x - 8) / 16) 0x20#8).toNat
      let row := s.reg (Reg.GLB_FONT (32 * (c - 0x20) + (y - 4) % 32))
      if row.getLsbD (15 - (x - 8) % 16) then 235 * 2 ^ (d - 8) else bg

/-! ## A composed picture -/

/-- A colour register's component at output depth. -/
def colourOf (w : Word) (d p : Nat) : Nat := fld w (8 * p) 8 * 2 ^ (d - 8)

/-- A sample of a composed picture: the stack of R230, bottom to top. -/
def State.composeSample (s : State) (n : Nat) (r : RndSt) (c : Cand) (po : SrcPoison) (p x y : Nat) : Nat :=
  let w := s.outW n
  let h := s.outH n
  let d := s.outDepth n
  let k := if p = 0 then 1 else 2
  let lx := x * k
  let ly := y * k
  let cap := captionAt r w h
  if inCaption r w h lx ly then
    let lines := match c.pics.head? with
      | some (some q) => captionLines q (s.label q.ctx)
      | _ => []
    s.captionSample lines d p (x - cap.1 / k) (y - cap.2 / k)
  else
    let ls := s.layers n r c.pics
    let release := s.rtype n == 2
    let masked := release && (match c.mask, ls.head? with
      | some m, some l => (maskRects m).any (fun q => match maskOut l q with | some z => inRect z lx ly | none => false)
      | _, _ => false)
    if masked then colourOf (r.word 2) d p
    else
      let video := match ls.find? (fun l => inRect l.dst lx ly) with
        | some l => if c.blank then colourOf (r.word 2) d p
            else s.layerSample r d po l p (x - l.dst.1 / k) (y - l.dst.2.1 / k)
        | none => colourOf (r.word 1) d p
      s.withGfx r w h d p x y video

end Sys2Proof.Machine
end

