-- ==== Sys2Proof/Machine/Compose.lean ====
section
/-!
DEFINITION. Composition units (10_composition.md): which pictures are composed and when (R235 to R237, R257, R259, R262), flattening (R249,
R250), completion (R230, R231, R260, R263, R264, R268) and the commands of their family; opening and closing of renditions (R88, R234).
-/
namespace Sys2Proof.Machine

/-! ## What a picture is composed of -/

/-- Words 0x80 to 0xBC of a rendition entry as announced. -/
def State.cmpWords (s : State) (n : Nat) : List Word := (List.range 16).map (fun k => s.cfg (Reg.CMP_CFG n + 4 * k))

/-- SRC0's picture of a candidate. -/
def Cand.src0 (c : Cand) : PicInfo := match c.pics.head? with
  | some (some p) => p
  | _ => default

/-- Does a picture open a rendition ream, given the arrival time and span of the ream in progress (R279)? -/
def startsReam (ream : Option (Nat × Nat)) (arr : Nat) : Bool := match ream with
  | none => true
  | some (a, span) => decide (a + span * 1000000 ≤ arr)

/-- Rendition n with the fields that a picture is composed with. -/
def RndSt.under (r : RndSt) (ws : List Word) : RndSt := { r with cmp := ws }

/-- The ream that the pictures before a candidate lead to, as far as it is decided, with its fields: composed pictures take their places in it in
order. -/
def State.reamAhead (s : State) (n : Nat) (c : Cand) : Option (Nat × Nat) × List Word :=
  let r := s.rnd n
  (r.ready ++ r.begun.takeWhile (fun d => d != c)).foldl (fun q d =>
    if d.opens || startsReam q.1 d.src0.arr then (some (d.src0.arr, s.cfgF Reg.SEAL_CFG 0 14), d.cmp) else q) (r.ream, r.cmp)

/-- The composition fields that apply to a candidate: those announced where it opens a ream, else its ream's (R266). -/
def State.candWords (s : State) (n : Nat) (c : Cand) : List Word :=
  if !c.cmp.isEmpty then c.cmp else
  let q := s.reamAhead n c
  if c.opens || (!c.begun && (s.rnd n).ending.isSome) || startsReam q.1 c.src0.arr then s.cmpWords n else q.2

/-- MASK_REQ and MASK_WAIT_MS for a candidate. -/
def maskReq (ws : List Word) : Bool := (ws.getD 0 0#32).getLsbD 8
def maskWaitT (ws : List Word) : Nat := msT (fld (ws.getD 0 0#32) 16 10)

/-- The picture that a tile shows for a candidate whose SRC0 picture arrived at `t0` (R233, R237), whether that is decided, and whether it is
late. -/
def State.tileChoice (s : State) (c t0 : Nat) (force : Bool) : Option PicInfo × Bool × Bool :=
  let x := s.ctx c
  if s.cstate c ≠ 2 then (none, true, false)
  else
    let ps := x.shown.filter (fun p => decide (p.arr ≤ t0))
    let best := ps.foldl (fun (m : Option PicInfo) p => match m with
      | none => some p
      | some q => if q.arr < p.arr then some p else m) none
    if t0 < x.topArr then (best, true, false) else (best, force, force)

/-- Decide the tiles of a candidate; the candidate, whether all are decided, and how many were late. -/
def State.decideTiles (s : State) (n : Nat) (c : Cand) (force : Bool) : Cand × Bool × Nat :=
  if c.tilesDone then (c, true, 0) else
  let ts := ((s.validSources n).drop 1).map (fun q => s.tileChoice q.2 c.src0.arr force)
  if ts.all (fun t => t.2.1) then
    ({ c with pics := c.pics.take 1 ++ ts.map (·.1), tilesDone := true }, true, ts.countP (fun t => t.2.2))
  else (c, false, 0)

/-- The held mask record of a leaf. -/
def RndSt.maskOf (r : RndSt) (seq : Nat) : Option Bytes := (r.masks.find? (fun m => m.1 == seq)).map (·.2)

/-- The record that a blanked picture contributes to the mask track (R260). -/
def blankRecord (ctx seq : Nat) : Bytes := be 2 ctx ++ be 2 0 ++ be 4 seq ++ be 1 0xFF ++ zeros 3

/-- Is the mask of a candidate settled (R259)? -/
def State.maskReady (s : State) (n : Nat) (c : Cand) : Bool :=
  s.rtype n != 2 || c.begun || c.blank || !maskReq (s.candWords n c) || ((s.rnd n).maskOf c.src0.leafSeq).isSome

/-- What the flattened surface is built from (R249, R250). -/
def State.surfKey (s : State) (n : Nat) (ws : List Word) : List Word := (ws.drop 12).take 4 ++ [s.cfg (Reg.RND_GEOM n)]

/-- Has the surface to be built before a candidate is composed? The first picture needs one where a graphic layer is enabled and present, a later
one where a field has changed. -/
def State.needsFlatten (s : State) (n : Nat) (c : Cand) : Bool :=
  let ws := s.candWords n c
  let on := fun (j : Nat) => (ws.getD (12 + 2 * j) 0#32).getLsbD 8
    && (tget (fun _ => none) s.surfs (fld (ws.getD (12 + 2 * j) 0#32) 0 6)).isSome
  match (s.rnd n).surf with
  | some q => q.1 != s.surfKey n ws
  | none => on 0 || on 1

/-! ## Dispatch -/

/-- Does a unit hold a record of a rendition that the collector has not accepted? -/
def State.recordHeld (s : State) (n : Nat) (kinds : List Nat) : Bool :=
  s.ctl.held.any (fun h => match h.2 with | some r => kinds.contains r.rcd.kind && r.rcd.slot == n | none => false)

/-- The candidate of a rendition that is ready to compose: tiles and mask settled, its predecessor accepted (R237, R259, R262). A pause or stop
does not hold back a picture whose composition has begun (R263). -/
def State.readyCand (s : State) (n : Nat) : Option Cand :=
  let r := s.rnd n
  match r.wait with
  | [] => none
  | c :: _ =>
    if r.cmpUnit.isSome || s.recordHeld n [4] || ((s.paused n || r.stopped) && !c.begun)
      || s.units.any (fun u => u.2.job == some (Job.flatten n)) then none
    else
      let d := s.decideTiles n c false
      if d.2.1 && s.maskReady n c then some d.1 else none

/-- Renditions with ready pictures, by SRC0's arrival time, ties to the lower number (R262). -/
def State.readyRnds (s : State) : List (Nat × Cand) :=
  sortBy (fun a b => decide (a.2.src0.arr ≤ b.2.src0.arr)) (((s.renditions (fun st => st == 2 || st == 3)).map (fun n =>
    (s.readyCand n).map (fun c => (n, c)))).filterMap id)

/-- Records of leaves before the one composed are unused (R257). -/
def State.useMasks (s : State) (n seq : Nat) : State :=
  let r := s.rnd n
  let unused := r.masks.countP (fun m => decide (m.1 < seq))
  let s1 := s.setRnd n { r with masks := r.masks.filter (fun m => decide (seq < m.1)), composedTo := some (max seq (r.composedTo.getD 0)) }
  if unused = 0 then s1 else s1.bumpN (Reg.CMP_MASK_UNUSED n) unused

/-- Begin a flattening (R250) or the composition of a candidate on a unit. None where no buffer holds the picture (R231). -/
def State.startCompose (s : State) (n unit : Nat) (c : Cand) : Option State :=
  if s.needsFlatten n c then some (s.startJob unit (.flatten n) n false)
  else
    let r := s.rnd n
    let q := s.alloc (s.seqFor n) (poolFor 3 (flatSize (s.outW n) (s.outH n) (s.outDepth n)))
    if q.1 = 0 then none
    else
      let ws := s.candWords n c
      let surf := match r.surf with | some x => some x | none => some (s.surfKey n ws, 0)
      if c.begun then
        some ((q.2.setRnd n { r with wait := { c with handle := q.1, cmp := ws } :: r.wait.drop 1, cmpUnit := some unit, surf }).startJob unit
          (.compose n) n c.restarted)
      else
        let opens := r.ending.isSome || (s.reamAhead n c).1.isNone
        let mask := if s.rtype n = 2 && !c.blank then r.maskOf c.src0.leafSeq else none
        let c1 := { c with opens, closes := r.ending.getD 1, cmp := ws, mask, begun := true, handle := q.1 }
        let r1 := { r with wait := c1 :: r.wait.drop 1, cmpUnit := some unit, surf, ending := if opens then none else r.ending }
        some (((q.2.setRnd n r1).useMasks n c.src0.leafSeq).startJob unit (.compose n) n c.restarted)

/-- A picture found no buffer for its composition: it waits, and the failed ALLOC counts once in FP_EMPTY (R366, R368). -/
def State.cmpWait (s0 : State) (n : Nat) : State :=
  match (s0.rnd n).wait with
  | c :: t =>
    if c.denied then s0 else
    let q := s0.alloc (s0.seqFor n) (poolFor 3 (flatSize (s0.outW n) (s0.outH n) (s0.outDepth n)))
    let s := if q.1 = 0 then q.2 else s0
    s.setRnd n { s.rnd n with wait := { c with denied := true } :: t }
  | [] => s0

/-- Close the open ream of a rendition now; its next picture is the IDR of a new one (R110, R207, R208). -/
def State.breakRndReam (s : State) (n reason : Nat) : State := (s.setRnd n { s.rnd n with ream := none }).closeReam (rndSlot n) reason

/-- The record of a rendition returned poison (R110): F158; its open ream closes with reason 5, after a picture that a core encodes, and the next one
begins with an IDR. -/
def State.loseRecord (s : State) (n : Nat) : State :=
  let s1 := s.raiseFault { src := 158, d0 := n + 1024 }
  let r := s1.rnd n
  let end_ := fun (c : Cand) => { c with opens := true, closes := max 5 (if c.opens then c.closes else 0) }
  if r.encUnit.isNone then s1.breakRndReam n 5
  else match r.ready, r.begun with
    | c :: t, _ => s1.setRnd n { r with ready := end_ c :: t }
    | [], c :: _ => s1.setRnd n { r with wait := end_ c :: r.wait.drop 1 }
    | [], [] => s1.setRnd n { r with ending := some (max 5 (r.ending.getD 0)) }

/-- Try the ready pictures in order. `poison`: the read of the first one's record from memory returns poison for another cause than a poison mark. -/
def State.composeFirst : Bool → List (Nat × Cand) → State → State
  | _, [], s => s
  | poison, (n, c) :: qs, s =>
    match s.chooseUnit 0x98 8 (s.rnd n).lastCu with
    | none => s
    | some u =>
      let r := s.touchRecord u (rndSlot n)
      if r.1 || (poison && !s.cached (rndSlot n)) then r.2.loseRecord n
      else match r.2.startCompose n u c with
        | some s1 => s1
        | none => State.composeFirst false qs (r.2.cmpWait n)

/-- COMPOSE_DISPATCH (R109, R110, R235 to R237, R250, R257, R259, R262, R263, R266). `poison`: the read of the context record from memory is
uncorrectable. -/
def execComposeDispatch (poison : Bool) (s : State) : Host.Outcome State Fault Refusal :=
  if !s.codingOn then .next s else .next (State.composeFirst poison s.readyRnds s)

/-! ## Completion -/

/-- The number of poisoned reads. -/
def ComposePoison.count (p : ComposePoison) : Nat := p.src.length + (if p.mask then 1 else 0) + (if p.surf then 1 else 0)

/-- CMP_STATUS after a picture: TONED, BLANKED, TILES (R267). -/
def State.cmpStatus (s : State) (n : Nat) (r : RndSt) (c : Cand) : Nat :=
  let ls := if c.blank then [] else s.layers n r c.pics
  let toned := ls.any (fun l => s.layerClass r l != 1)
  let tiles := if c.blank then 0 else sumNat (c.pics.zipIdx.map (fun q => if q.1.isSome then 2 ^ q.2 else 0))
  (if toned then 2 else 0) + (if c.blank then 4 else 0) + tiles * 8

/-- A picture is composed and written (R230, R231); it waits for the collector. The motion fields of the pictures it shows are kept for the seeds
of its encode (R201). -/
def State.composeDone (s : State) (n agent : Nat) (c0 : Cand) (po : ComposePoison) : State :=
  let blank := c0.blank || (po.mask && c0.mask.isSome)
  let c := { c0 with blank, mask := if blank then none else c0.mask }
  let r := (s.rnd n).under c.cmp
  let w := s.outW n
  let h := s.outH n
  let s0 := s.bumpIf (blank && !c0.blank) (Reg.CMP_MASK_MISSING n)
  let s1 := (flatRows w h (s.outDepth n) (s.composeSample n r c po.src)).foldl (fun t q => t.unitWrite agent (s.bufAddr c.handle + q.1) q.2) s0
  let st := s.cmpStatus n r c
  let field := fun (p : PicInfo) => (List.range (ceilDiv p.info.w 16 * ceilDiv p.info.h 16)).map (s.readMotion p.info p.handle)
  let motion := c.pics.map (fun q => match q with | some p => field p | none => [])
  s1.setRnd n { s.rnd n with
    wait := { c with done := some s.now, motion, tiles := st / 8, toned := st / 2 % 2 == 1, restarted := false } :: (s.rnd n).wait.drop 1 }

/-- The collector accepts the record of a composed picture: it waits for its encode, and stills of the rendition take it (R209, R262). -/
def State.acceptComposed (s : State) (n : Nat) : State :=
  let r := s.rnd n
  match r.wait with
  | [] => s
  | c :: t =>
    if c.done.isNone then s else
    let st := (if c.toned then 2 else 0) + (if c.blank then 4 else 0) + c.tiles * 8
    let s1 := (s.setRnd n { r with wait := t, cmpUnit := none, lastCu := r.cmpUnit, ready := r.ready ++ [c] }).bump (Reg.CMP_PICTURES n)
    let s2 := s1.setReg (Reg.CMP_STATUS n) (BitVec.ofNat 32 ((s1.reg (Reg.CMP_STATUS n)).toNat % 2 + st))
    let p := c.src0
    let s3 := s2.giveStills 1 n (fun k => { ticket := k, pic := p, rnd := some n, handle := c.handle, leafSeq := p.leafSeq, arr := p.arr, tq := p.tq })
    (s.rndSources n).foldl State.sweepBufs s3

/-- A poisoned read of the flattened surface: the unit rebuilds it, and the picture is composed again (R250, R264). -/
def State.reflatten (s : State) (n agent : Nat) (c : Cand) : State :=
  let r := s.rnd n
  let s1 := (s.setRnd n { r with wait := { c with handle := 0 } :: r.wait.drop 1, cmpUnit := none, surf := none }).freeOwn c.handle
  (s1.setUnit agent { s1.unit agent with job := some (.flatten n) }).showUnit agent

/-- COMPOSE_PICTURE_DONE (R230 to R233, R238 to R254, R258, R260, R262 to R264, R267, R268). -/
def execComposePictureDone (u : Fin 8) (po : ComposePoison) (s : State) : Host.Outcome State Fault Refusal :=
  let agent := agCu u
  let x := s.unit agent
  match x.job with
  | some (.compose n) =>
    match (s.rnd n).wait with
    | c :: _ =>
      if (s.rnd n).cmpUnit ≠ some agent ∨ c.done.isSome ∨ s.frozen agent ∨ (s.heldRec agent).isSome then .next s else
      let r := (s.rnd n).under c.cmp
      let marked := if c.blank then [] else s.markedSources n r c.pics
      let poison := po.count + marked.length
      let log := marked.filter s.lineMarked ++ s.srcLines n r c.pics po.src
      let s1 := log.foldl (fun t a => t.poisonedRead agent a) (s.bumpN (Reg.CU_POISON u) poison)
      if po.surf && (s.rnd n).surf.isSome then .next (s1.reflatten n agent c)
      else
        let s2 := ((s1.bumpIf x.restarted (Reg.CU_RESTARTS u)).bump (Reg.CU_PICTURES u)).bumpN (Reg.CU_PIXELS u) (s.outW n * s.outH n)
        let status := (if poison = 0 then 0 else 1) + (if x.restarted then 2 else 0)
        .next (((s2.composeDone n agent c po).endJob agent).sendRecord agent (s.seqFor n - 0xA0) 2 n 0xFFFFFFFF status 0 x.since)
    | [] => .next s
  | _ => .next s

/-- FLATTEN_DONE (R247 to R250): the surface is built; where it is kept is not in the manual, so only what it was built from is held. -/
def execFlattenDone (u : Fin 8) (s : State) : Host.Outcome State Fault Refusal :=
  let agent := agCu u
  match (s.unit agent).job with
  | some (.flatten n) =>
    if s.frozen agent ∨ (s.heldRec agent).isSome then .next s else
    let r := s.rnd n
    let key := match r.wait with
      | c :: _ => s.surfKey n (s.candWords n c)
      | [] => s.surfKey n r.cmp
    let s1 := ((s.setRnd n { r with surf := some (key, 0), lastCu := some agent }).bump (Reg.CMP_FLATTEN n)).bump (Reg.CU_FLATTENS u)
    .next ((s1.endJob agent).sendRecord agent (s.seqFor n - 0xA0) 4 n 0xFFFFFFFF 0 0 (s.unit agent).since)
  | _ => .next s

/-! ## Waits -/

/-- TILE_WAIT_EXPIRY (R237): 100 ms after the SRC0 candidate was output its tiles are decided as they stand. -/
def execTileWaitExpiry (n : Fin 1024) (s : State) : Host.Outcome State Fault Refusal :=
  let r := s.rnd n
  let ds := r.wait.map (fun c => if c.at_ + msT 100 ≤ s.now then s.decideTiles n c true else (c, false, 0))
  let late := sumNat (ds.map (fun d => d.2.2))
  let s1 := s.setRnd n { r with wait := ds.map (·.1) }
  let s2 := if late = 0 then s1 else s1.bumpN (Reg.CMP_TILE_LATE n) late
  .next ((s.rndSources n).foldl State.sweepBufs s2)

/-- MASK_WAIT_EXPIRY (R259): a picture whose record has not come is blanked. A record held at that instant wins, and so does one that arrives later
in it (`State.unblank`). -/
def execMaskWaitExpiry (n : Fin 1024) (s : State) : Host.Outcome State Fault Refusal :=
  if s.rtype n ≠ 2 then .next s else
  let r := s.rnd n
  let due := fun (c : Cand) => !(c.handle != 0) && !s.maskReady n c && decide (c.at_ + maskWaitT (s.candWords n c) ≤ s.now)
  let k := r.wait.countP due
  let s1 := s.setRnd n { r with wait := r.wait.map (fun c => if due c then { c with blank := true, blankAt := some s.now } else c) }
  .next (if k = 0 then s1 else s1.bumpN (Reg.CMP_MASK_MISSING n) k)

/-- CU_OOS: the unit leaves service at its next picture boundary and publishes 0, or returns at once (R92, R268). -/
def execCuOos (u : Fin 8) (out : Bool) (s : State) : Host.Outcome State Fault Refusal :=
  .next (s.writeOos (agCu u) out)

end Sys2Proof.Machine
end

