-- ==== Sys2Proof/Machine/Bitstream.lean ====
section
/-!
DEFINITION. What the encoder writes before its slice data (R185, R187 to R189, R219, R231): access unit delimiter, parameter sets, slice header,
in the syntax of ITU-T H.264 and H.265 (log entry 99). The slice data itself is CABAC's (Std.lean).
-/
namespace Sys2Proof.Machine
open Sys2Proof.Config (EncIn)

/-! ## Bits -/

/-- The low k bits of a number, most significant first. -/
def uBits (k v : Nat) : List Bool := (List.range k).map (fun i => v.testBit (k - 1 - i))

/-- Unsigned Exp-Golomb code. -/
def ueBits (v : Nat) : List Bool := List.replicate (Nat.log2 (v + 1)) false ++ uBits (Nat.log2 (v + 1) + 1) (v + 1)

/-- Signed Exp-Golomb code. -/
def seBits (v : Int) : List Bool := ueBits (if 0 < v then 2 * v - 1 else -2 * v).toNat

/-- Bytes of a bit string; the last is filled with zeros. -/
def bitBytes : List Bool → Bytes
  | a :: b :: c :: d :: e :: f :: g :: h :: t => BitVec.ofBoolListBE [a, b, c, d, e, f, g, h] :: bitBytes t
  | [] => []
  | l => [BitVec.ofNat 8 (l.zipIdx.foldl (fun m q => if q.1 then m + 2 ^ (7 - q.2) else m) 0)]

/-- Emulation prevention: 3 goes before a byte below 4 that follows two zero bytes; `z` zero bytes stand before. -/
def escapeFrom : Nat → Bytes → Bytes
  | _, [] => []
  | z, b :: t =>
    if z = 2 ∧ b.toNat < 4 then 3#8 :: b :: escapeFrom (if b = 0#8 then 1 else 0) t
    else b :: escapeFrom (if b = 0#8 then z + 1 else 0) t

/-- A NAL unit whose payload ends in the trailing bits, behind its 4-byte start code (R189). -/
def nalUnit (head : Bytes) (rbsp : List Bool) : Bytes := [0#8, 0#8, 0#8, 1#8] ++ head ++ escapeFrom 0 (bitBytes (rbsp ++ [true]))

/-- NAL unit header: H.264 with nal_ref_idc 3 where others refer to it; H.265 in layer 0. -/
def nalHead (avc : Bool) (ty : Nat) : Bytes :=
  if avc then [BitVec.ofNat 8 ((if ty = 9 then 0 else 0x60) + ty)] else [BitVec.ofNat 8 (2 * ty), 1#8]

/-! ## Levels (R188) -/

/-- Level code, largest picture, largest rate of samples a second, bit rate and buffer in units of 1,000 bits before the NAL factor. H.264 (table
A-1) counts macroblocks. -/
structure LevelRow where
  code : Nat
  size : Nat
  rate : Nat
  bits : Nat
  buf : Nat

def avcLevels : List LevelRow :=
  [⟨10, 99, 1485, 64, 175⟩, ⟨9, 99, 1485, 128, 350⟩, ⟨11, 396, 3000, 192, 500⟩, ⟨12, 396, 6000, 384, 1000⟩, ⟨13, 396, 11880, 768, 2000⟩,
   ⟨20, 396, 11880, 2000, 2000⟩, ⟨21, 792, 19800, 4000, 4000⟩, ⟨22, 1620, 20250, 4000, 4000⟩, ⟨30, 1620, 40500, 10000, 10000⟩,
   ⟨31, 3600, 108000, 14000, 14000⟩, ⟨32, 5120, 216000, 20000, 20000⟩, ⟨40, 8192, 245760, 20000, 25000⟩, ⟨41, 8192, 245760, 50000, 62500⟩,
   ⟨42, 8704, 522240, 50000, 62500⟩, ⟨50, 22080, 589824, 135000, 135000⟩, ⟨51, 36864, 983040, 240000, 240000⟩,
   ⟨52, 36864, 2073600, 240000, 240000⟩, ⟨60, 139264, 4177920, 240000, 240000⟩, ⟨61, 139264, 8355840, 480000, 480000⟩]

/-- H.265, Main tier (tables A.8 and A.9), in luma samples. -/
def hevcLevels : List LevelRow :=
  [⟨30, 36864, 552960, 128, 350⟩, ⟨60, 122880, 3686400, 1500, 1500⟩, ⟨63, 245760, 7372800, 3000, 3000⟩, ⟨90, 552960, 16588800, 6000, 6000⟩,
   ⟨93, 983040, 33177600, 10000, 10000⟩, ⟨120, 2228224, 66846720, 12000, 12000⟩, ⟨123, 2228224, 133693440, 20000, 20000⟩,
   ⟨150, 8912896, 267386880, 25000, 25000⟩, ⟨153, 8912896, 534773760, 40000, 40000⟩, ⟨156, 8912896, 1069547520, 60000, 60000⟩,
   ⟨180, 35651584, 1069547520, 60000, 60000⟩, ⟨183, 35651584, 2139095040, 120000, 120000⟩]

/-- Does a level hold a picture of `w` by `h` units, `fps` hundredths of a picture a second, R_p kbit/s and B bits? -/
def LevelRow.holds (l : LevelRow) (factor w h fps rp buf : Nat) : Bool :=
  decide (w * h ≤ l.size) && decide (w * w ≤ 8 * l.size) && decide (h * h ≤ 8 * l.size) && decide (w * h * fps ≤ 100 * l.rate)
    && decide (rp * 1000 ≤ factor * l.bits) && decide (buf ≤ factor * l.buf)

/-- The lowest level that holds the coded size, the sample rate, and the HRD's bit rate and buffer (R188); the highest of the table where none does. -/
def levelOf (e : EncIn) : Nat :=
  let u := if e.codec = 0 then 16 else 1
  let ls := if e.codec = 0 then avcLevels else hevcLevels
  ((ls.find? (fun l => l.holds (if e.codec = 0 then 1500 else 1100) (e.w / u) (e.h / u) e.fps e.rp e.bufBits)).map (·.code)).getD
    ((ls.getLast?.map (·.code)).getD 0)

/-! ## Parameter sets (R187, R188, R219, R231) -/

/-- Bit rate and buffer size of the one CPB, each rounded up to the units of its syntax element at scale 0, and cbr_flag 0 (R219). -/
def cpbBits (e : EncIn) : List Bool := ueBits (ceilDiv (e.rp * 1000) 64 - 1) ++ ueBits (ceilDiv e.bufBits 16 - 1) ++ [false]

/-- video_signal_type: unspecified format, video_full_range_flag 0, and the colour description 1, 1, 1 (R231). -/
def colourBits : List Bool := [true] ++ uBits 3 5 ++ [false, true] ++ uBits 8 1 ++ uBits 8 1 ++ uBits 8 1

/-- H.264 VUI: colour, timing, NAL HRD, bitstream_restriction (R188, R219). The delay lengths of the HRD and the restriction's other fields hold the
values that the standard infers for them. -/
def avcVui (e : EncIn) : List Bool :=
  [false, false] ++ colourBits ++ [false]
    ++ [true] ++ uBits 32 100 ++ uBits 32 (2 * e.fps) ++ [false]
    ++ [true] ++ ueBits 0 ++ uBits 4 0 ++ uBits 4 0 ++ cpbBits e ++ uBits 5 23 ++ uBits 5 23 ++ uBits 5 23 ++ uBits 5 24
    ++ [false, false, false]
    ++ [true, true] ++ ueBits 2 ++ ueBits 1 ++ ueBits 15 ++ ueBits 15 ++ ueBits 0 ++ ueBits e.numRef

/-- H.265 VUI: colour, timing, NAL HRD (R188, R219). -/
def hevcVui (e : EncIn) : List Bool :=
  [false, false] ++ colourBits ++ [false, false, false, false, false]
    ++ [true] ++ uBits 32 100 ++ uBits 32 e.fps ++ [false]
    ++ [true, true, false, false] ++ uBits 4 0 ++ uBits 4 0 ++ uBits 5 23 ++ uBits 5 23 ++ uBits 5 23
    ++ [false, false, false] ++ ueBits 0 ++ cpbBits e
    ++ [false]

/-- Cropping that removes the rounding of the coded size, at the right and bottom edges, in 4:2:0 units (R188). -/
def cropBits (e : EncIn) : List Bool :=
  if e.w = e.outW ∧ e.h = e.outH then [false]
  else [true] ++ ueBits 0 ++ ueBits ((e.w - e.outW) / 2) ++ ueBits 0 ++ ueBits ((e.h - e.outH) / 2)

/-- H.264 SPS: High, log2_max_frame_num 16, pic_order_cnt_type 2, frames only. -/
def avcSps (e : EncIn) : List Bool :=
  uBits 8 100 ++ uBits 8 0 ++ uBits 8 (levelOf e) ++ ueBits 0 ++ ueBits 1 ++ ueBits 0 ++ ueBits 0 ++ [false, false]
    ++ ueBits 12 ++ ueBits 2 ++ ueBits e.numRef ++ [false] ++ ueBits (e.w / 16 - 1) ++ ueBits (e.h / 16 - 1) ++ [true, false]
    ++ cropBits e ++ [true] ++ avcVui e

/-- H.264 PPS: CABAC, no weighted prediction, deblocking with offsets 0, 8×8 transform. -/
def avcPps : List Bool :=
  ueBits 0 ++ ueBits 0 ++ [true, false] ++ ueBits 0 ++ ueBits 0 ++ ueBits 0 ++ [false] ++ uBits 2 0 ++ seBits 0 ++ seBits 0 ++ seBits 0
    ++ [false, false, false] ++ [true, false] ++ seBits 0

/-- H.265 profile_tier_level: Main or Main 10, Main tier. -/
def hevcPtl (e : EncIn) : List Bool :=
  uBits 2 0 ++ [false] ++ uBits 5 (if e.codec = 2 then 2 else 1) ++ (List.range 32).map (fun j => j == 2 || (j == 1 && e.codec != 2))
    ++ List.replicate 48 false ++ uBits 8 (levelOf e)

/-- Sub-layer ordering: NUM_REF reference pictures beside the current one, no reordering. -/
def hevcOrder (e : EncIn) : List Bool := [true] ++ ueBits e.numRef ++ ueBits 0 ++ ueBits 0

/-- H.265 VPS. -/
def hevcVps (e : EncIn) : List Bool :=
  uBits 4 0 ++ [true, true] ++ uBits 6 0 ++ uBits 3 0 ++ [true] ++ uBits 16 0xFFFF ++ hevcPtl e ++ hevcOrder e ++ uBits 6 0 ++ ueBits 0
    ++ [false, false]

/-- H.265 SPS: coding blocks 8 to 32, transform blocks 4 to 32 with hierarchy depth 0, log2_max_pic_order_cnt_lsb 16; scaling lists, AMP, SAO, PCM,
long-term pictures, TMVP and strong intra smoothing off. -/
def hevcSps (e : EncIn) : List Bool :=
  let d := if e.codec = 2 then 2 else 0
  uBits 4 0 ++ uBits 3 0 ++ [true] ++ hevcPtl e ++ ueBits 0 ++ ueBits 1 ++ ueBits e.w ++ ueBits e.h ++ cropBits e ++ ueBits d ++ ueBits d
    ++ ueBits 12 ++ hevcOrder e ++ ueBits 0 ++ ueBits 2 ++ ueBits 0 ++ ueBits 3 ++ ueBits 0 ++ ueBits 0
    ++ [false, false, false, false] ++ ueBits 0 ++ [false, false, false] ++ [true] ++ hevcVui e ++ [false]

/-- H.265 PPS: cu_qp_delta with diff_cu_qp_delta_depth 0; everything else off, deblocking on with offsets 0. -/
def hevcPps : List Bool :=
  ueBits 0 ++ ueBits 0 ++ [false, false] ++ uBits 3 0 ++ [false, false] ++ ueBits 0 ++ ueBits 0 ++ seBits 0 ++ [false, false, true] ++ ueBits 0
    ++ seBits 0 ++ seBits 0 ++ [false, false, false, false, false, false, false, false, false, false] ++ ueBits 0 ++ [false, false]

/-! ## The access unit up to its slice data (R185, R189) -/

/-- H.264 slice header, filled with ones to a byte boundary as CABAC needs (cabac_init_idc 0). -/
def avcSlice (e : EncIn) (qp : Nat) : List Bool :=
  let b := ueBits 0 ++ ueBits (if e.idr then 7 else 5) ++ ueBits 0 ++ uBits 16 e.index ++ (if e.idr then ueBits 0 else [])
    ++ (if e.idr then [] else (if e.refs.length = 1 then [false] else [true] ++ ueBits (e.refs.length - 1)) ++ [false])
    ++ (if e.idr then [false, false] else [false]) ++ (if e.idr then [] else ueBits 0) ++ seBits ((qp : Int) - 26)
  b ++ List.replicate ((8 - b.length % 8) % 8) true

/-- H.265 slice segment header; its short-term reference picture set names the previous pictures that list 0 holds. -/
def hevcSlice (e : EncIn) (qp : Nat) : List Bool :=
  let k := e.refs.length
  let b := [true] ++ (if e.idr then [false] else []) ++ ueBits 0 ++ ueBits (if e.idr then 2 else 1)
    ++ (if e.idr then [] else uBits 16 e.index ++ [false] ++ ueBits k ++ ueBits 0 ++ (List.replicate k (ueBits 0 ++ [true])).flatten
        ++ (if k = 1 then [false] else [true] ++ ueBits (k - 1)) ++ ueBits 0)
    ++ seBits ((qp : Int) - 26) ++ [true]
  b ++ List.replicate ((8 - b.length % 8) % 8) false

/-- Bits of whole bytes. -/
def byteBits (b : Bytes) : List Bool := b.flatMap (fun x => uBits 8 x.toNat)

/-- The bits before the first CTU (R189, R222): delimiter, on an IDR the parameter sets, and the slice's start code and headers. `qp` is the picture
QP, from which the slice's rows depart. -/
def headBits (e : EncIn) (qp : Nat) : List Bool :=
  if e.codec = 0 then
    byteBits (nalUnit (nalHead true 9) (uBits 3 (if e.idr then 0 else 1))
      ++ (if e.idr then nalUnit (nalHead true 7) (avcSps e) ++ nalUnit (nalHead true 8) avcPps else [])
      ++ [0#8, 0#8, 0#8, 1#8] ++ nalHead true (if e.idr then 5 else 1)) ++ avcSlice e qp
  else
    byteBits (nalUnit (nalHead false 35) (uBits 3 (if e.idr then 0 else 1))
      ++ (if e.idr then nalUnit (nalHead false 32) (hevcVps e) ++ nalUnit (nalHead false 33) (hevcSps e) ++ nalUnit (nalHead false 34) hevcPps else [])
      ++ [0#8, 0#8, 0#8, 1#8] ++ nalHead false (if e.idr then 19 else 1)) ++ hevcSlice e qp

end Sys2Proof.Machine
end

