-- ==== Sys2Proof/Machine/Search.lean ====
section
/-!
DEFINITION. The encoder's choices (08_encode.md): vector costs (R199), the search (R200, R202, R203), mode decision (R204, R205), row and
picture control while coding (R222 to R227), quantisation (R206), motion entries (R195). The standard's prediction, transform and entropy coding are
in Std.lean.
-/
namespace Sys2Proof.Machine
open Sys2Proof.Config (EncIn Cu CuMode)

/-! ## Costs (R199, R204) -/

/-- lam4() of R199. -/
def lam4 (qp : Nat) : Nat := ([29, 33, 37, 41, 46, 52].getD (qp % 6) 0 * 2 ^ (qp / 6)) / 32

/-- se_len() of R199. -/
def seLen (d : Int) : Nat := 2 * Nat.log2 ((if 0 < d then 2 * d - 1 else -2 * d).toNat + 1) + 1

/-- A quarter-pel vector. -/
abbrev Mv := Int × Int

/-- The vector bits of R199. -/
def mvBits (v p : Mv) (numRef : Nat) : Nat := seLen (v.1 - p.1) + seLen (v.2 - p.2) + (if numRef = 2 then 1 else 0)

/-- mv_cost() of R199. -/
def mvCost (sad : Nat) (v p : Mv) (qp numRef : Nat) : Nat := 4 * sad + lam4 qp * mvBits v p numRef

/-- The median of three. -/
def median3 (a b c : Int) : Int := max (min a b) (min (max a b) c)

/-- M of R204. -/
def modeM (qp : Nat) : Nat := lam4 qp * lam4 qp / 4

/-- Sum of the absolute values of the 4×4 Hadamard transform of 16 differences in raster order. -/
def hadamard4 (d : List Int) : Nat :=
  let h := fun (l : List Int) =>
    let a := l.getD 0 0
    let b := l.getD 1 0
    let c := l.getD 2 0
    let e := l.getD 3 0
    [a + b + c + e, a - b + c - e, a + b - c - e, a - b - c + e]
  let rows := (List.range 4).map (fun y => h ((List.range 4).map (fun x => d.getD (4 * y + x) 0)))
  let cols := (List.range 4).map (fun x => h (rows.map (fun r => r.getD x 0)))
  sumNat (cols.map (fun c => sumNat (c.map Int.natAbs)))

/-- SATD of an n × n block: source and prediction in raster order (R204). -/
def satd (n : Nat) (src pred : List Nat) : Nat :=
  let diff := fun (x y : Nat) => ((src.getD (y * n + x) 0 : Nat) : Int) - (pred.getD (y * n + x) 0 : Nat)
  sumNat ((List.range ((n / 4) * (n / 4))).map (fun b =>
    hadamard4 ((List.range 16).map (fun i => diff (4 * (b % (n / 4)) + i % 4) (4 * (b / (n / 4)) + i / 4))))) / 2

/-- The n × n source block at (x, y), padded as R188 says. -/
def srcBlock (e : EncIn) (x y n : Nat) : List Nat :=
  (List.range (n * n)).map (fun i => e.source 0 (min (x + i % n) (e.w - 1)) (min (y + i / n) (e.h - 1)))

/-! ## The interpolated reference (R196, R198, R199) -/

/-- The weighted sum of samples from offset `o` on. -/
def tapSum (f : Int → Int) (o : Int) (ks : List Int) : Int := ks.zipIdx.foldl (fun m q => m + q.1 * f (o + (q.2 : Nat))) 0

/-- H.264 luma interpolation of 8-bit samples (clause 8.4.2.2.1) at an integer place and a quarter-pel phase. -/
def lumaAvc (g : Int → Int → Int) (x y : Int) (fx fy : Nat) : Int :=
  let ks : List Int := [1, -5, 20, 20, -5, 1]
  let clip := fun (v : Int) => clampInt 0 255 v
  let row := fun (u v : Int) => tapSum (fun i => g i v) (u - 2) ks
  let b := fun (v : Int) => clip ((row x v + 16) / 32)
  let h := fun (u : Int) => clip ((tapSum (fun j => g u j) (y - 2) ks + 16) / 32)
  let j := clip ((tapSum (fun v => row x v) (y - 2) ks + 512) / 1024)
  let avg := fun (u v : Int) => (u + v + 1) / 2
  let nx : Int := (fx / 2 : Nat)
  let ny : Int := (fy / 2 : Nat)
  if fx = 0 ∧ fy = 0 then g x y
  else if fy = 0 then (if fx = 2 then b y else avg (g (x + nx) y) (b y))
  else if fx = 0 then (if fy = 2 then h x else avg (g x (y + ny)) (h x))
  else if fx = 2 then (if fy = 2 then j else avg j (b (y + ny)))
  else if fy = 2 then avg j (h (x + nx))
  else avg (b (y + ny)) (h (x + nx))

/-- The 8-tap luma filter of H.265 by phase. -/
def hevcTaps (f : Nat) : List Int :=
  [[0, 0, 0, 64, 0, 0, 0, 0], [-1, 4, -10, 58, 17, -5, 1, 0], [-1, 4, -11, 40, 40, -11, 4, -1], [0, 1, -5, 17, 58, -10, 4, -1]].getD f []

/-- H.265 luma interpolation with one list (clauses 8.5.3.3.3.2 and 8.5.3.3.4.2). -/
def lumaHevc (depth : Nat) (g : Int → Int → Int) (x y : Int) (fx fy : Nat) : Int :=
  let k : Int := 2 ^ (depth - 8)
  let row := fun (v : Int) => tapSum (fun i => g i v) (x - 3) (hevcTaps fx) / k
  let s : Int :=
    if fx = 0 ∧ fy = 0 then g x y * 2 ^ (14 - depth)
    else if fy = 0 then row y
    else if fx = 0 then tapSum (fun j => g x j) (y - 3) (hevcTaps fy) / k
    else tapSum row (y - 3) (hevcTaps fy) / 64
  clampInt 0 (2 ^ depth - 1) ((s + 2 ^ (13 - depth)) / 2 ^ (14 - depth))

/-- The reference's luma at a quarter-pel position; samples outside it repeat its edge (R196). -/
def lumaAt (codec depth : Nat) (f : Config.Samples) (w h : Nat) (x y : Int) : Nat :=
  let g := fun (i j : Int) => ((f 0 (clampInt 0 ((w : Int) - 1) i).toNat (clampInt 0 ((h : Int) - 1) j).toNat : Nat) : Int)
  let fx := (x % 4).toNat
  let fy := (y % 4).toNat
  (if codec = 0 then lumaAvc g (x / 4) (y / 4) fx fy else lumaHevc depth g (x / 4) (y / 4) fx fy).toNat

/-- Luma columns and rows of the reference that the window covers while the block at column c of row r is encoded: the first and the last of each
(R196). -/
def windowAt (codec c r : Nat) : (Int × Int) × (Int × Int) :=
  if codec = 0 then ((16 * c - 312, 16 * c + 327), (16 * r - 184, 16 * r + 199))
  else ((32 * c - 304, 32 * c + 335), (32 * r - 176, 32 * r + 207))

/-- Does some window of a picture of `cols` by `rows` coding blocks hold samples of the 16×16 block (bx, by) of the reference? The core fetches those
blocks and no others (R196). -/
def windowReads (codec cols rows bx by_ : Nat) : Bool :=
  let meets := fun (q : Int × Int) (k : Nat) => decide (q.1 ≤ 16 * (k : Int) + 15 ∧ 16 * (k : Int) ≤ q.2)
  (List.range rows).any (fun r => meets (windowAt codec 0 r).2 by_ && (List.range cols).any (fun c => meets (windowAt codec c r).1 bx))

/-! ## Search (R200, R202, R203) -/

/-- Positions that a vector may take (R198). -/
def mvLegal (v : Mv) : Bool := decide (-1024 ≤ v.1 ∧ v.1 ≤ 1024 ∧ -512 ≤ v.2 ∧ v.2 ≤ 512)

/-- A quarter-resolution sample of a plane, by its position (R197). -/
def quarterAt (ten : Bool) (f : Config.Samples) (w h : Nat) (x y : Int) : Nat :=
  let px := fun (i : Nat) =>
    f 0 (clampInt 0 ((w : Int) - 1) (4 * x + (i % 4 : Nat))).toNat (clampInt 0 ((h : Int) - 1) (4 * y + (i / 4 : Nat))).toNat
  let v := (sumNat ((List.range 16).map px) + 8) / 16
  if ten then v / 4 else v

/-- SAD of the 4×4 quarter-resolution block (R202). -/
def quarterSad (ten : Bool) (e : EncIn) (ref : Config.Samples) (bx by_ : Nat) (q : Int × Int) : Nat :=
  sumNat ((List.range 16).map (fun i =>
    let x : Int := (4 * bx + i % 4 : Nat)
    let y : Int := (4 * by_ + i / 4 : Nat)
    (((quarterAt ten e.source e.w e.h x y : Nat) : Int) - (quarterAt ten ref e.w e.h (x + q.1) (y + q.2) : Nat)).natAbs))

/-- SAD of the 16×16 block against the interpolated reference (R199). -/
def fullSad (depth : Nat) (e : EncIn) (ref : Config.Samples) (bx by_ : Nat) (v : Mv) : Nat :=
  sumNat ((srcBlock e (16 * bx) (16 * by_) 16).zipIdx.map (fun q =>
    let x : Int := (16 * bx + q.2 % 16 : Nat)
    let y : Int := (16 * by_ + q.2 / 16 : Nat)
    (((q.1 : Nat) : Int) - (lumaAt e.codec depth ref e.w e.h (4 * x + v.1) (4 * y + v.2) : Nat)).natAbs))

/-- The first position with the least cost. -/
def firstBest {α : Type} (cost : α → Nat) (m : Option (α × Nat)) (l : List α) : Option (α × Nat) :=
  l.foldl (fun m p => match m with
    | none => some (p, cost p)
    | some (q, c) => if cost p < c then some (p, cost p) else some (q, c)) m

/-- Offsets −4 to 4 in scan order. -/
def scan9 : List (Int × Int) :=
  (List.range 81).map (fun i => (((i % 9 : Nat) : Int) - 4, ((i / 9 : Nat) : Int) - 4))

/-- The 8 positions around a centre in the order of R203. -/
def around8 : List (Int × Int) := [(-1, -1), (0, -1), (1, -1), (-1, 0), (1, 0), (-1, 1), (0, 1), (1, 1)]

/-- The quarter-resolution pass (R202): the winning position. -/
def quarterPass (ten : Bool) (e : EncIn) (ref : Config.Samples) (bx by_ : Nat) (cands : List Mv) : Int × Int :=
  let all := cands.flatMap (fun v => scan9.map (fun d => ((v.1 + 8).fdiv 16 + d.1, (v.2 + 8).fdiv 16 + d.2)))
  let ok := all.filter (fun q => decide (q.1.natAbs ≤ 64 ∧ q.2.natAbs ≤ 32))
  ((firstBest (quarterSad ten e ref bx by_) none ok).map (·.1)).getD (0, 0)

/-- The refinement (R203): the searched vector and its cost. -/
def refine (depth : Nat) (e : EncIn) (ref : Config.Samples) (bx by_ : Nat) (centre pred : Mv) (qp : Nat) : Mv × Nat :=
  let cost := fun (v : Mv) => mvCost (fullSad depth e ref bx by_ v) v pred qp e.numRef
  let ok := fun (v : Mv) => mvLegal v && decide ((v.1 - centre.1).natAbs ≤ 16 ∧ (v.2 - centre.2).natAbs ≤ 16)
  let at_ := fun (c : Mv) (k : Int) (l : List (Int × Int)) => (l.map (fun d => (c.1 + k * d.1, c.2 + k * d.2))).filter ok
  let m1 := firstBest cost none (at_ centre 4 scan9)
  let b1 := (m1.map (·.1)).getD centre
  let m2 := firstBest cost m1 (at_ b1 2 around8)
  let b2 := (m2.map (·.1)).getD centre
  let m3 := firstBest cost m2 (at_ b2 1 around8)
  m3.getD (centre, cost centre)

/-- What the search takes from outside the encode: per reference, the guided seed and the coded vector of a block (R200, R201). -/
structure Hints where
  seed : Nat → Nat → Option Mv
  coded : Nat → Nat → Option Mv

/-- Searched vectors so far: per block (row by row), per reference; and the chosen reference with its vector and vector bits. -/
structure SearchSt where
  vecs : List (Nat × List Mv) := []
  best : List (Nat × Nat × Mv × Nat) := []
  seeds : Nat := 0

/-- The searched vector of a block for a reference. -/
def SearchSt.vec (t : SearchSt) (ref k : Nat) : Option Mv := (t.vecs.find? (fun q => q.1 == k)).bind (fun q => q.2[ref]?)

/-- Search one 16×16 block against every reference (R199 to R203). -/
def searchBlock (depth : Nat) (e : EncIn) (hi : Hints) (qp bx by_ : Nat) (t : SearchSt) : SearchSt :=
  let bw := ceilDiv e.w 16
  let k := by_ * bw + bx
  let left := fun (r : Nat) => if bx = 0 then none else t.vec r (k - 1)
  let up := fun (r : Nat) => if by_ = 0 then none else t.vec r (k - bw)
  let ur := fun (r : Nat) => if by_ = 0 ∨ bw ≤ bx + 1 then none else t.vec r (k - bw + 1)
  let rs := e.refs.zipIdx.map (fun q =>
    let r := q.2
    let z : Mv := (0, 0)
    let nb := [(left r).getD z, (up r).getD z, (ur r).getD z]
    let pred : Mv := (median3 (nb.getD 0 z).1 (nb.getD 1 z).1 (nb.getD 2 z).1, median3 (nb.getD 0 z).2 (nb.getD 1 z).2 (nb.getD 2 z).2)
    let cands := [hi.seed r k, some z, left r, up r, ur r, hi.coded r k].filterMap id
    let c := quarterPass (depth == 10) e q.1 bx by_ cands
    (refine depth e q.1 bx by_ (16 * c.1, 16 * c.2) pred qp, pred))
  let win := (rs.zipIdx.foldl (fun (m : Option ((((Mv × Nat) × Mv)) × Nat)) q => match m with
    | none => some q
    | some w => if q.1.1.2 < w.1.1.2 then some q else some w) none)
  { vecs := (k, rs.map (fun r => r.1.1)) :: t.vecs
    best := match win with
      | some (w, r) => (k, r, w.1.1, mvBits w.1.1 w.2 e.numRef) :: t.best
      | none => t.best
    seeds := t.seeds + (if (List.range e.refs.length).any (fun r => (hi.seed r k).isSome) then 1 else 0) }

/-! ## Quantisation (R187, R206) -/

/-- Is the unit coded intra? A forced one is in an IDR (R226). -/
def isIntra (idr : Bool) : CuMode → Bool
  | .intra _ => true
  | .forced => idr
  | _ => false

/-- Is the unit coded without any residual: skip, or forced (R226)? -/
def noResidual : CuMode → Bool
  | .skip _ => true
  | .forced => true
  | _ => false

/-- Width of a unit's transform blocks: H.264 has 8×8 for inter and 4×4 for Intra 16×16, H.265 one as large as the unit (R187). -/
def transformSize (e : EncIn) (u : Cu) : Nat := if e.codec = 0 then (if isIntra e.idr u.mode then 4 else 8) else u.n

/-- The level of a coefficient: rounding offset 2^qbits / 3 for intra blocks, 2^qbits / 6 for inter blocks (R206). -/
def quantLevel (intra : Bool) (c : Config.Coeff) : Int :=
  let m := (c.value.natAbs * c.scale + 2 ^ c.shift / (if intra then 3 else 6)) / 2 ^ c.shift
  if c.value < 0 then -(m : Int) else m

/-- A decided unit with its levels. One whose levels are all 0 keeps its mode (R206). -/
def withLevels (e : EncIn) (hist : List Cu) (u : Cu) : Cu :=
  if noResidual u.mode then u
  else { u with levels := (Config.coeffs e hist u (transformSize e u)).map (quantLevel (isIntra e.idr u.mode)) }

/-! ## Mode decision (R204, R205) -/

/-- Cost of one mode; none where the standard offers no such prediction. -/
def modeCost (e : EncIn) (hist : List Cu) (m bits : Nat) (u : Cu) : Option Nat :=
  (Config.encPred e hist u).map (fun p => 4 * satd u.n (srcBlock e u.x u.y u.n) p + m * bits)

/-- Intra modes in the table's order, with bits. -/
def intraModes (codec : Nat) : List (CuMode × Nat) :=
  if codec = 0 then [(.intra 0, 5), (.intra 1, 5), (.intra 2, 5), (.intra 3, 6)]
  else [(.intra 0, 5), (.intra 1, 6), (.intra 10, 7), (.intra 26, 7)]

/-- 16×16 blocks whose searched vectors a coding unit evaluates, in z-order. -/
def blocksOf (e : EncIn) (x y n : Nat) : List Nat :=
  let bw := ceilDiv e.w 16
  if n = 32 then [y / 16 * bw + x / 16, y / 16 * bw + x / 16 + 1, (y / 16 + 1) * bw + x / 16, (y / 16 + 1) * bw + x / 16 + 1]
  else [y / 16 * bw + x / 16]

/-- The best way to code one n × n unit without a split: skip first, then the table in order. An 8×8 unit of H.265 evaluates no vector of its own
(R205). -/
def bestMode (e : EncIn) (t : SearchSt) (hist : List Cu) (qp : Nat) (floor : Bool) (x y n : Nat) : Cu × Nat :=
  let m := modeM qp
  let mk := fun (md : CuMode) => ({ x, y, n, mode := md, qp } : Cu)
  let skips := if e.idr then [] else (if e.codec = 0 then [CuMode.skip 0] else (List.range 5).map CuMode.skip)
  let sk := skips.foldl (fun (b : Option (Cu × Nat)) md => match modeCost e hist 0 0 (mk md), b with
    | some c, none => some (mk md, c)
    | some c, some (u, d) => if c < d then some (mk md, c) else some (u, d)
    | none, b => b) none
  let limit := (if floor && !e.idr then 4 else 1) * m * n * n / 64
  match sk with
  | some (u, c) => if c ≤ limit then (u, c) else go m mk
  | none => go m mk
where
  go (m : Nat) (mk : CuMode → Cu) : Cu × Nat :=
    let vecs := (blocksOf e x y n).filterMap (fun k => (t.best.find? (fun b => b.1 == k)).map (·.2))
    let inter := if e.idr then [] else
      (if e.codec = 0 then [] else (List.range 5).map (fun i => (CuMode.merge i, 2 + min (i + 1) 4)))
        ++ vecs.map (fun v => (CuMode.inter v.1 v.2.1.1 v.2.1.2, (if e.codec = 0 then 1 else 3) + v.2.2))
    let all := inter ++ intraModes e.codec
    (all.foldl (fun (b : Option (Cu × Nat)) q => match modeCost e hist m q.2 (mk q.1), b with
      | some c, none => some (mk q.1, c)
      | some c, some (u, d) => if c < d then some (mk q.1, c) else some (u, d)
      | none, b => b) none).getD (mk (.intra (if e.codec = 0 then 2 else 1)), 0)

/-- Decide an H.265 unit bottom-up (R205): its coding units and cost. -/
def decideCu (e : EncIn) (t : SearchSt) (qp : Nat) (floor : Bool) : Nat → List Cu → Nat → Nat → Nat → List Cu × Nat
  | 0, hist, x, y, n => let b := bestMode e t hist qp floor x y n; ([withLevels e hist b.1], b.2)
  | fuel + 1, hist, x, y, n =>
    if n ≤ 8 then (let b := bestMode e t hist qp floor x y n; ([withLevels e hist b.1], b.2))
    else
      let h := n / 2
      let parts := ([(x, y), (x + h, y), (x, y + h), (x + h, y + h)]).filter (fun p => decide (p.1 < e.w ∧ p.2 < e.h))
      let sub := parts.foldl (fun (acc : List Cu × Nat) p =>
        let r := decideCu e t qp floor fuel (hist ++ acc.1) p.1 p.2 h
        (acc.1 ++ r.1, acc.2 + r.2)) ([], 0)
      if e.w < x + n ∨ e.h < y + n then sub
      else
        let b := bestMode e t hist qp floor x y n
        if sub.2 + modeM qp < b.2 + modeM qp then (sub.1, sub.2 + modeM qp) else ([withLevels e hist b.1], b.2 + modeM qp)

/-- Code one CTU or macroblock by the normal rules: the searched vectors and the units. -/
def codeCtu (depth : Nat) (e : EncIn) (hi : Hints) (t : SearchSt) (hist : List Cu) (qp : Nat) (floor : Bool) (cx cy : Nat) :
    SearchSt × List Cu :=
  if e.codec = 0 then
    let t1 := if e.idr then t else searchBlock depth e hi qp cx cy t
    (t1, [withLevels e hist (bestMode e t1 hist qp floor (16 * cx) (16 * cy) 16).1])
  else
    let bw := ceilDiv e.w 16
    let bh := ceilDiv e.h 16
    let bs := ([(2 * cx, 2 * cy), (2 * cx + 1, 2 * cy), (2 * cx, 2 * cy + 1), (2 * cx + 1, 2 * cy + 1)]).filter (fun b =>
      decide (b.1 < bw ∧ b.2 < bh))
    let t1 := if e.idr then t else bs.foldl (fun u b => searchBlock depth e hi qp b.1 b.2 u) t
    (t1, (decideCu e t1 qp floor 2 hist (32 * cx) (32 * cy) 32).1)

/-! ## Coding a picture (R222 to R227) -/

/-- What the picture layer gives: mode (0 CBR), picture QP, QP limits, budget b_n, cap C_n, row weights of the previous picture. -/
structure PicPlan where
  cbr : Bool
  qp : Nat
  qpMin : Nat
  qpMax : Nat
  budget : Int
  cap : Nat
  weights : List Nat

/-- The picture while it is coded: its units, and the bits written so far, headers included. -/
structure EncRun where
  cus : List Cu := []
  bits : List Bool := []
  search : SearchSt := {}
  floor : Bool := false
  forced : Bool := false
  rowQps : List Nat := []
  rowBits : List Nat := []

/-- The skip reserve Z(k) (R220). -/
def skipReserve (idr : Bool) (k : Nat) : Nat := (if idr then 16 else 8) * k + 64

/-- δ of R223. -/
def rowDelta (e d : Int) : Int :=
  if 4 * d < 16 * e then 3 else if 2 * d < 16 * e then 2 else if d < 16 * e then 1
  else if -d ≤ 16 * e then 0 else if -2 * d ≤ 16 * e then -1 else if -4 * d ≤ 16 * e then -2 else -3

/-- QP of row r (R223, R225). -/
def rowQp (p : PicPlan) (run : EncRun) (header used : Nat) (r : Nat) : Nat :=
  if run.floor then p.qpMax
  else if r = 0 ∨ !p.cbr then p.qp
  else
    let d : Int := p.budget - header
    let w := sumNat p.weights
    let plan : Int := (header : Int) + (d * sumNat (p.weights.take r)).fdiv (max w 1 : Nat)
    let prev : Int := ((run.rowQps.getLastD p.qp : Nat) : Int)
    let q := clampInt (prev - 2) (prev + 2) ((p.qp : Int) + rowDelta ((used : Int) - plan) d)
    (clampInt p.qpMin p.qpMax q).toNat

/-- Bits of units that follow those coded. -/
def EncRun.put (run : EncRun) (e : EncIn) (us : List Cu) (most : Option Nat) : EncRun :=
  let b := Config.cuBits e run.cus us
  { run with cus := run.cus ++ us, bits := run.bits ++ (match most with | some k => b.take k | none => b) }

/-- Code one CTU as forced: skip, or intra DC without residual in an IDR, in at most σ bits (R226). -/
def EncRun.force (run : EncRun) (e : EncIn) (qp cx cy : Nat) : EncRun :=
  let n := if e.codec = 0 then 16 else 32
  let t := run.put e [{ x := n * cx, y := n * cy, n, mode := .forced, qp }] (some (if e.idr then 16 else 8))
  { t with forced := true }

/-- Code one CTU of a row under the cap (R227): `left` CTUs remain, this one included. -/
def stepCtu (depth : Nat) (e : EncIn) (hi : Hints) (p : PicPlan) (qp cy left : Nat) (run : EncRun) (cx : Nat) : EncRun :=
  if run.forced then run.force e qp cx cy
  else
    let c := codeCtu depth e hi run.search run.cus qp run.floor cx cy
    let t := run.put e c.2 none
    if p.cap < t.bits.length + skipReserve e.idr (left - 1) then
      ({ run with search := { run.search with seeds := c.1.seeds } }).force e qp cx cy
    else { t with search := c.1 }

/-- Code one row. -/
def stepRow (depth : Nat) (e : EncIn) (hi : Hints) (p : PicPlan) (header cols rows : Nat) (run : EncRun) (r : Nat) : EncRun :=
  let used := run.bits.length
  let d : Int := p.budget - header
  let run1 := { run with floor := run.floor || decide (d ≤ 0) || (decide (1 ≤ r) && decide (p.budget ≤ (used : Int))) }
  let qp := rowQp p run1 header used r
  let run2 := (List.range cols).foldl (fun t cx => stepCtu depth e hi p qp r ((rows - r) * cols - cx) t cx) run1
  { run2 with rowQps := run2.rowQps ++ [qp], rowBits := run2.rowBits ++ [run2.bits.length - used] }

/-- Code a whole picture, after its headers. -/
def codePicture (depth : Nat) (e : EncIn) (hi : Hints) (p : PicPlan) : EncRun :=
  let n := if e.codec = 0 then 16 else 32
  let cols := ceilDiv e.w n
  let rows := ceilDiv e.h n
  let head := headBits e p.qp
  (List.range rows).foldl (stepRow depth e hi p head.length cols rows) { bits := head }

/-- The unit bytes of a coded picture: the slice's end and its trailing bits take at most 64 bits (R189, R226). -/
def unitOf (e : EncIn) (run : EncRun) : Bytes := bitBytes (run.bits ++ (Config.endBits e run.cus).take 57)

/-- The coded motion of a 16×16 block, from the unit that covers its luma sample (8, 8), clamped into the coded picture: vector and reference index,
none for intra (R195). -/
def codedMotion (e : EncIn) (cus : List Cu) (k : Nat) : Option (Int × Int × Nat) :=
  let bw := ceilDiv e.w 16
  let x := min (16 * (k % bw) + 8) (e.w - 1)
  let y := min (16 * (k / bw) + 8) (e.h - 1)
  match cus.findIdx? (fun u => decide (u.x ≤ x ∧ x < u.x + u.n ∧ u.y ≤ y ∧ y < u.y + u.n)) with
  | none => none
  | some i =>
    let u := cus.getD i default
    match u.mode with
    | .inter ref mvx mvy => some (mvx, mvy, ref)
    | .intra _ => none
    | .forced => if e.idr then none else some (Config.mergeMotion e (cus.take i) u)
    | _ => some (Config.mergeMotion e (cus.take i) u)

end Sys2Proof.Machine
end

