-- ==== Sys2Proof/Machine/Rate.lean ====
section
/-!
DEFINITION. Rate control's picture layer and buffer model (R214 to R221, R228, R229).
-/
namespace Sys2Proof.Machine

/-- Fields of RC_CFG, RC_RATE, RC_BUF and RC_QP in force (R229). -/
def rcMode (rc : List Word) : Nat := fld (rc.getD 0 0#32) 0 2
def rcStart (rc : List Word) : Nat := fld (rc.getD 0 0#32) 8 6
def rcMult (rc : List Word) : Nat := fld (rc.getD 0 0#32) 16 3
def rcTarget (rc : List Word) : Nat := fld (rc.getD 1 0#32) 0 16
def rcPeak (rc : List Word) : Nat := fld (rc.getD 1 0#32) 16 16
def rcBufMs (rc : List Word) : Nat := fld (rc.getD 2 0#32) 0 13
def rcInit (rc : List Word) : Nat := fld (rc.getD 2 0#32) 16 7
def rcMin (rc : List Word) : Nat := fld (rc.getD 3 0#32) 0 6
def rcMax (rc : List Word) : Nat := fld (rc.getD 3 0#32) 8 6
def rcConst (rc : List Word) : Nat := fld (rc.getD 3 0#32) 16 6

/-- CTUs of a coded picture. -/
def ctus (codec w h : Nat) : Nat := let n := if codec = 0 then 16 else 32; ceilDiv w n * ceilDiv h n

/-- m_pic of R217. -/
def mPic (nctu : Nat) : Nat := 2048 + 16 * nctu

/-- The model at the IDR of a ream (R215, R217). -/
def RateSt.init (rc : List Word) (f nctu : Nat) : RateSt :=
  let m := mPic nctu
  let want := if rcMode rc = 0 then rcTarget rc else rcPeak rc
  let rMin := ceilDiv (m * f) 100000
  let rp := max want rMin
  let b := min (max (rp * rcBufMs rc) m) 40000000
  { full := max (b * rcInit rc / 100) m, carry := 0, fps := f, raised := decide (want < rMin), peak := rp, gain := rp * 100000 / max f 1, size := b }

/-- t of R220. -/
def rcNominal (rc : List Word) (f : Nat) : Nat := rcTarget rc * 100000 / max f 1

/-- b_n of R220. -/
def RateSt.budgetFor (x : RateSt) (rc : List Word) (nctu : Nat) : Int :=
  let t : Int := rcNominal rc x.fps
  let top : Int := (x.full : Int) - (skipReserve (x.n == 0) nctu : Nat)
  if rcMode rc ≠ 0 then top
  else if x.n = 0 then min (rcMult rc * t) top
  else min (max (t + x.carry.fdiv 8) (t.fdiv 4)) top

/-- Δ(r) of R221. -/
def ratioStep (r : Nat) : Int :=
  if 1448 ≤ r then 3 else if 1290 ≤ r then 2 else if 1149 ≤ r then 1 else if 912 ≤ r then 0
  else if 813 ≤ r then -1 else if 724 ≤ r then -2 else -3

/-- Δ_v of R221. -/
def carryStep (k t : Int) : Int := if k < -8 * t then 2 else if k < -2 * t then 1 else if k ≤ 2 * t then 0 else -1

/-- q_n of R221. -/
def RateSt.qpFor (x : RateSt) (rc : List Word) : Nat :=
  let q : Int :=
    if rcMode rc = 2 then rcConst rc
    else if x.n ≤ 1 then rcStart rc
    else if rcMode rc = 0 then (x.meanQp : Int) + ratioStep (x.bits * 1024 / max x.budget.toNat 1)
    else (x.qp : Int) + carryStep x.carry (rcNominal rc x.fps)
  (clampInt (rcMin rc) (rcMax rc) q).toNat

/-- The plan of picture n (R220 to R222). -/
def RateSt.plan (x : RateSt) (rc : List Word) (nctu rows : Nat) : PicPlan :=
  { cbr := rcMode rc == 0, qp := x.qpFor rc, qpMin := rcMin rc, qpMax := rcMax rc, budget := x.budgetFor rc nctu, cap := x.full
    weights := if x.n ≤ 1 then List.replicate rows 1 else x.rows.map (· + 64) }

/-- The mean row QP Q̄ (R221). -/
def meanRowQp (qs : List Nat) : Nat := (sumNat qs + qs.length / 2) / max qs.length 1

/-- The state after picture n of s_n bits (R217, R220, R228). -/
def RateSt.after (x : RateSt) (rc : List Word) (p : PicPlan) (run : EncRun) (bits : Nat) : RateSt :=
  let t : Int := rcNominal rc x.fps
  { x with
    full := min x.size (x.full - bits + x.gain)
    carry := clampInt (-(x.size : Int)) x.size (x.carry + t - bits)
    n := x.n + 1
    qp := p.qp
    budget := p.budget
    bits := bits
    meanQp := meanRowQp run.rowQps
    rows := run.rowBits }

end Sys2Proof.Machine
end

