-- ==== Sys2Proof/Machine/Still.lean ====
section
/-!
DEFINITION. The baseline JPEG image of a still (R210): quantisation tables, Huffman tables of ITU-T T.81 Annex K, segments, and the one interleaved
scan. The transform is the standard's (Std.lean).
-/
namespace Sys2Proof.Machine

/-! ## Tables -/

/-- The example quantisation tables of ITU-T T.81 Annex K, in raster order. -/
def jpegLuma : List Nat :=
  [16, 11, 10, 16, 24, 40, 51, 61, 12, 12, 14, 19, 26, 58, 60, 55, 14, 13, 16, 24, 40, 57, 69, 56, 14, 17, 22, 29, 51, 87, 80, 62,
   18, 22, 37, 56, 68, 109, 103, 77, 24, 35, 55, 64, 81, 104, 113, 92, 49, 64, 78, 87, 103, 121, 120, 101, 72, 92, 95, 98, 112, 100, 103, 99]
def jpegChroma : List Nat :=
  [17, 18, 24, 47, 99, 99, 99, 99, 18, 21, 26, 66, 99, 99, 99, 99, 24, 26, 56, 99, 99, 99, 99, 99, 47, 66, 99, 99, 99, 99, 99, 99]
    ++ List.replicate 32 99

/-- A quantisation table at quality Q (R210). -/
def quantOf (q : Nat) (base : List Nat) : List Nat :=
  let s := if q < 50 then 5000 / max q 1 else 200 - 2 * q
  base.map (fun b => clampNat 1 255 ((b * s + 50) / 100))

/-- Raster index of each place in zigzag order. -/
def zigzag : List Nat :=
  [0, 1, 8, 16, 9, 2, 3, 10, 17, 24, 32, 25, 18, 11, 4, 5, 12, 19, 26, 33, 40, 48, 41, 34, 27, 20, 13, 6, 7, 14, 21, 28,
   35, 42, 49, 56, 57, 50, 43, 36, 29, 22, 15, 23, 30, 37, 44, 51, 58, 59, 52, 45, 38, 31, 39, 46, 53, 60, 61, 54, 47, 55, 62, 63]

/-- A Huffman table: how many codes of 1 to 16 bits, and their values. -/
structure HuffTable where
  counts : List Nat
  values : List Nat

/-- Run and size codes of AC coefficients that a table lists, then all the others in ascending order. -/
def acValues (first : List Nat) : List Nat :=
  first ++ ((List.range 256).filter (fun v => (v == 0 || v == 0xF0 || decide (1 ≤ v % 16 ∧ v % 16 ≤ 10)) && !first.contains v))

/-- The example Huffman tables of Annex K. -/
def dcLuma : HuffTable := ⟨[0, 1, 5, 1, 1, 1, 1, 1, 1, 0, 0, 0, 0, 0, 0, 0], List.range 12⟩
def dcChroma : HuffTable := ⟨[0, 3, 1, 1, 1, 1, 1, 1, 1, 1, 1, 0, 0, 0, 0, 0], List.range 12⟩
def acLuma : HuffTable := ⟨[0, 2, 1, 3, 3, 2, 4, 3, 5, 5, 4, 4, 0, 0, 1, 125],
  acValues [0x01, 0x02, 0x03, 0x00, 0x04, 0x11, 0x05, 0x12, 0x21, 0x31, 0x41, 0x06, 0x13, 0x51, 0x61, 0x07, 0x22, 0x71, 0x14, 0x32, 0x81, 0x91, 0xA1,
    0x08, 0x23, 0x42, 0xB1, 0xC1, 0x15, 0x52, 0xD1, 0xF0, 0x24, 0x33, 0x62, 0x72, 0x82]⟩
def acChroma : HuffTable := ⟨[0, 2, 1, 2, 4, 4, 3, 4, 7, 5, 4, 4, 0, 1, 2, 119],
  acValues [0x00, 0x01, 0x02, 0x03, 0x11, 0x04, 0x05, 0x21, 0x31, 0x06, 0x12, 0x41, 0x51, 0x07, 0x61, 0x71, 0x13, 0x22, 0x32, 0x81, 0x08, 0x14, 0x42,
    0x91, 0xA1, 0xB1, 0xC1, 0x09, 0x23, 0x33, 0x52, 0xF0, 0x15, 0x62, 0x72, 0xD1, 0x0A, 0x16, 0x24, 0x34, 0xE1, 0x25, 0xF1]⟩

/-- The length and first code of the codes of each length, and where their values begin. -/
def huffRows (counts : List Nat) : List (Nat × Nat × Nat × Nat) :=
  (counts.zipIdx.foldl (fun (q : Nat × Nat × List (Nat × Nat × Nat × Nat)) c =>
    (2 * (q.1 + c.1), q.2.1 + c.1, q.2.2 ++ [(c.2 + 1, q.1, q.2.1, c.1)])) (0, 0, [])).2.2

/-- The code of a value. -/
def HuffTable.code (t : HuffTable) (v : Nat) : List Bool :=
  let k := t.values.findIdx (· == v)
  match (huffRows t.counts).find? (fun r => decide (r.2.2.1 ≤ k ∧ k < r.2.2.1 + r.2.2.2)) with
  | some r => uBits r.1 (r.2.1 + (k - r.2.2.1))
  | none => []

/-! ## Coefficients -/

/-- Bits of a coefficient's magnitude. -/
def sizeOf (v : Int) : Nat := if v = 0 then 0 else Nat.log2 v.natAbs + 1

/-- A coefficient's appended bits. -/
def magBits (v : Int) : List Bool := let k := sizeOf v; uBits k (if 0 ≤ v then v else v + 2 ^ k - 1).toNat

/-- The AC coefficients of a block: runs of zeros, ZRL, EOB. -/
def acBits (t : HuffTable) (vs : List Int) : List Bool :=
  let r := vs.foldl (fun (q : Nat × List Bool) v =>
    if v = 0 then (q.1 + 1, q.2)
    else (0, q.2 ++ (List.replicate (q.1 / 16) (t.code 0xF0)).flatten ++ t.code (q.1 % 16 * 16 + sizeOf v) ++ magBits v)) (0, [])
  r.2 ++ (if r.1 = 0 then [] else t.code 0)

/-- A block's levels within the range of baseline coding, DC first. -/
def blockLevels (f : Config.Samples) (w h p bx by_ : Nat) (quant : List Nat) : List Int :=
  let l := Config.dctLevels f w h p bx by_ quant
  (List.range 64).map (fun i => clampInt (-1023) 1023 (l.getD i 0))

/-- Blocks of an MCU (4:2:0): plane and place. -/
def mcuBlocks (mx my : Nat) : List (Nat × Nat × Nat) :=
  [(0, 2 * mx, 2 * my), (0, 2 * mx + 1, 2 * my), (0, 2 * mx, 2 * my + 1), (0, 2 * mx + 1, 2 * my + 1), (1, mx, my), (2, mx, my)]

/-- Code one block: DC predictors by plane, and the bits so far. -/
def blockBits (f : Config.Samples) (w h : Nat) (qy qc : List Nat) (q : List Int × List Bool) (b : Nat × Nat × Nat) : List Int × List Bool :=
  let l := blockLevels f w h b.1 b.2.1 b.2.2 (if b.1 = 0 then qy else qc)
  let d := l.getD 0 0 - q.1.getD b.1 0
  let dc := if b.1 = 0 then dcLuma else dcChroma
  let ac := if b.1 = 0 then acLuma else acChroma
  (q.1.set b.1 (l.getD 0 0), q.2 ++ dc.code (sizeOf d) ++ magBits d ++ acBits ac (l.drop 1))

/-- The entropy-coded data of the scan, filled with ones, with a zero after each 0xFF. -/
def scanBytes (f : Config.Samples) (w h : Nat) (qy qc : List Nat) : Bytes :=
  let cols := ceilDiv w 16
  let mcus := (List.range (cols * ceilDiv h 16)).flatMap (fun k => mcuBlocks (k % cols) (k / cols))
  let b := (mcus.foldl (blockBits f w h qy qc) ([0, 0, 0], [])).2
  (bitBytes (b ++ List.replicate ((8 - b.length % 8) % 8) true)).flatMap (fun x => if x = 0xFF#8 then [x, 0#8] else [x])

/-! ## The image -/

/-- A marker segment. -/
def segment (marker : Byte) (body : Bytes) : Bytes := [0xFF#8, marker] ++ be 2 (body.length + 2) ++ body

/-- A Huffman table as DHT holds it. -/
def HuffTable.bytes (t : HuffTable) (cls : Byte) : Bytes := cls :: (t.counts ++ t.values).map (BitVec.ofNat 8)

/-- SOI, DQT, SOF0, DHT, SOS, the scan, EOI (R210): one DQT and one DHT segment; component 1 is luma. -/
def jpegImage (f : Config.Samples) (w h : Nat) (qy qc : List Nat) : Bytes :=
  let quant := fun (q : List Nat) => zigzag.map (fun i => BitVec.ofNat 8 (q.getD i 1))
  [0xFF#8, 0xD8#8]
    ++ segment 0xDB#8 ([0#8] ++ quant qy ++ [1#8] ++ quant qc)
    ++ segment 0xC0#8 ([8#8] ++ be 2 h ++ be 2 w ++ [3#8, 1#8, 0x22#8, 0#8, 2#8, 0x11#8, 1#8, 3#8, 0x11#8, 1#8])
    ++ segment 0xC4#8 (dcLuma.bytes 0#8 ++ acLuma.bytes 0x10#8 ++ dcChroma.bytes 1#8 ++ acChroma.bytes 0x11#8)
    ++ segment 0xDA#8 [3#8, 1#8, 0#8, 2#8, 0x11#8, 3#8, 0x11#8, 0#8, 63#8, 0#8]
    ++ scanBytes f w h qy qc ++ [0xFF#8, 0xD9#8]

end Sys2Proof.Machine
end

