-- ==== Sys2Proof/Machine/Encode.lean ====
section
/-!
DEFINITION. Encode cores (08_encode.md, 09_rate_control.md): dispatch (R190, R191, R194, R195, R208, R215, R266, R276, R279), seeds (R201),
completion (R190, R207, R228, R272), stills (R209 to R211) and the commands of their family.
-/
namespace Sys2Proof.Machine

/-! ## Reams (R186, R207, R208, R266, R280, R289) -/

/-- Does the next picture to encode open a ream (R186, R279, R280)? -/
def RndSt.opensReam (r : RndSt) (c : Cand) : Bool := c.first || c.opens || startsReam r.ream c.src0.arr

/-- Was a picture composed with other fields than those of the ream that it belongs to (R266)? Its encode as IDR may have begun: the ream is open. -/
def State.stale (s : State) (n : Nat) (c : Cand) : Bool :=
  let r := s.rnd n
  !c.first && c.cmp != (if r.opensReam c then s.cmpWords n else r.cmp)

/-- Stills that were to show a composed picture wait for the next one. -/
def State.returnStills (s : State) (n handle : Nat) : State :=
  let ts := s.stills.filter (fun t => t.rnd == some n && t.handle == handle)
  let s1 := ts.foldl (fun t k => t.mapTicket k.ticket (fun x => { x with running := false })) s
  { s1 with stills := s1.stills.filter (fun t => !(t.rnd == some n && t.handle == handle)) }

/-- The composed pictures of a rendition are composed again, with the fields of the ream that opens (R266; log entry 101). -/
def State.recompose (s : State) (n : Nat) : State :=
  let r := s.rnd n
  let s1 := s.setRnd n { r with ready := [], wait := r.ready.map (fun c => { c with cmp := [], handle := 0, done := none }) ++ r.wait }
  r.ready.foldl (fun t c => (t.returnStills n c.handle).freeOwn c.handle) s1

/-- Renditions whose next picture is stale, with no composition or encode in work, compose it again. -/
def State.recomposeStale (s : State) : State :=
  (s.renditions (fun st => st == 2 || st == 3)).foldl (fun t n =>
    let r := t.rnd n
    match r.ready with
    | c :: _ => if r.encUnit.isNone && r.cmpUnit.isNone && t.stale n c then t.recompose n else t
    | [] => t) s

/-- SHA-256 of a surface's image bytes, zeros for a layer that is not enabled (R289). -/
def State.surfHash (s : State) (ws : List Word) (j : Nat) : Bytes :=
  let w := ws.getD (12 + 2 * j) 0#32
  match w.getLsbD 8, tget (fun _ => none) s.surfs (fld w 0 6) with
  | true, some f => sha256 f.data
  | _, _ => zeros 32

/-- Big-endian words of consecutive registers of the announced configuration. -/
def State.cfgWords (s : State) (a n : Nat) : Bytes := (List.range n).flatMap (fun k => be 4 (s.cfg (a + 4 * k)).toNat)

/-- COMP_DIGEST of a rendition's next ream (R289). -/
def State.compDigest (s : State) (n : Nat) (ws rc : List Word) : Bytes :=
  sha256 (s.cfgWords (Reg.RND_CFG n) 5 ++ be 4 (if s.halved n then 1 else 0) ++ rc.flatMap (fun w => be 4 w.toNat)
    ++ s.cfgWords Reg.GLB_ENC_CFG 1 ++ ws.flatMap (fun w => be 4 w.toNat) ++ s.label (s.src0 n)
    ++ s.cfgWords (Reg.GLB_TM_HLG 0) 1024 ++ s.cfgWords (Reg.GLB_TM_PQ 0) 1024 ++ s.cfgWords (Reg.GLB_TM_MTX 0) 9
    ++ (List.range 3040).flatMap (fun k => be 4 (s.reg (Reg.GLB_FONT k)).toNat) ++ s.surfHash ws 0 ++ s.surfHash ws 1)

/-! ## Dispatch -/

/-- CODEC of a rendition, coded size (R188), depth. -/
def State.rndCodec (s : State) (n : Nat) : Nat := s.cfgF (Reg.RND_CFG n) 2 2
def State.codedW (s : State) (n : Nat) : Nat := let k := if s.rndCodec n = 0 then 16 else 8; ceilDiv (s.outW n) k * k
def State.codedH (s : State) (n : Nat) : Nat := let k := if s.rndCodec n = 0 then 16 else 8; ceilDiv (s.outH n) k * k
/-- CTUs of a rendition picture. -/
def State.nctu (s : State) (n : Nat) : Nat := ctus (s.rndCodec n) (s.codedW n) (s.codedH n)

/-- Renditions with a picture ready to encode, in the order in which compositions completed; ties go to the lower number (R190, R191). -/
def State.encReady (s : State) : List (Nat × Cand) :=
  sortBy (fun a b => decide (a.2.done.getD 0 ≤ b.2.done.getD 0)) (((s.renditions (fun st => st == 2 || st == 3)).map (fun n =>
    let r := s.rnd n
    match r.ready with
    | c :: _ => if r.encUnit.isNone && !s.stale n c then some (n, c) else none
    | [] => none)).filterMap id)

/-- What the IDR of a ream fixes (R194, R215, R276, R277): the previous ream is closed, the serial taken, rate control reset. -/
def State.openRndReam (s : State) (n : Nat) (c : Cand) : ReamHdr × State :=
  let s1 := s.closeReam (rndSlot n) (if c.opens then c.closes else 1)
  let rc := (List.range 4).map (fun k => s.cfg (Reg.RC_CFG n + 4 * k))
  let q := s1.newHdr c.src0.arr (s.compDigest n c.cmp rc)
  let r := q.2.rnd n
  let s2 := r.recon.foldl (fun t x => t.freeOwn x.handle) q.2
  (q.1, s2.setRnd n { r with
    ream := some (c.src0.arr, q.1.span)
    cmp := c.cmp
    rc := rc
    numRef := s.cfgF Reg.GLB_ENC_CFG 0 2
    guided := s.cfgBit Reg.GLB_ENC_CFG 2
    recon := []
    rate := RateSt.init rc (s.effFps n) (s.nctu n) })

/-- Dispatch a composed picture to a core. None where no reconstruction buffer is free (R195, R208). -/
def State.startEncode (s : State) (n core : Nat) (c : Cand) : Option State :=
  let q := s.alloc (s.seqFor n) (poolFor 5 (fbSize (s.outW n) (s.outH n)))
  if q.1 = 0 then none
  else
    let first := (s.rnd n).opensReam c
    let o := match first, c.starts with
      | false, _ => (none, q.2)
      | true, some h => (some h, q.2)
      | true, none => (let p := q.2.openRndReam n c; (some p.1, p.2))
    let r := o.2.rnd n
    let job : EncJob := { unit := core, cand := { c with first }, handle := q.1, starts := o.1 }
    let s1 := o.2.setRnd n { r with ready := r.ready.drop 1, encUnit := some job }
    let s2 := if (s.unit core).last != some n then s1.bump (Reg.ENC_SWITCHES (core - 0x80)) else s1
    some (s2.startJob core (.encode n) n c.restarted)

/-- A picture found no reconstruction buffer: it waits, and ENC_ALLOC_WAIT of the core that last encoded the rendition counts once (R208). -/
def State.encWait (s0 : State) (n : Nat) : State :=
  match (s0.rnd n).ready with
  | c :: t =>
    if c.waited.isSome then s0 else
    let q := s0.alloc (s0.seqFor n) (poolFor 5 (fbSize (s0.outW n) (s0.outH n)))
    let s := if q.1 = 0 then q.2 else s0
    let r := s.rnd n
    let s1 := s.setRnd n { r with ready := { c with waited := some s.now } :: t }
    match r.lastEc with
    | some a => s1.bump (Reg.ENC_ALLOC_WAIT (a - 0x80))
    | none => s1
  | [] => s0

/-- Is a still ready? One of a rendition shows a leaf, so it waits until that picture's leaf exists or the picture was discarded (R209, R211). -/
def State.stillReady (s : State) (t : Still) : Bool := match t.rnd with
  | none => true
  | some n =>
    let r := s.rnd n
    !(r.ready.any (fun c => c.handle == t.handle) || (match r.encUnit with | some e => e.cand.handle == t.handle | none => false))

/-- The next still: one at a time, in ticket order, on an idle core (R209). It is no rendition switch (R213). -/
def State.startStill (s : State) : State :=
  let busy := s.units.any (fun u => match u.2.job with | some (.still _) => true | _ => false)
  match busy, argMin? (fun (t : Still) => t.ticket) (s.stills.filter s.stillReady), s.chooseUnit 0x80 24 none with
  | false, some t, some c =>
    let s1 := s.startJob c (.still t.ticket) 0 false
    s1.setUnit c { s1.unit c with last := (s.unit c).last }
  | _, _, _ => s

/-- Try the composed pictures in order; a still only where no picture is ready. `poison`: the read of the first one's record from memory returns poison
for another cause than a poison mark. -/
def State.encodeFirst : Bool → List (Nat × Cand) → State → State
  | _, [], s => s.startStill
  | poison, (n, c) :: qs, s =>
    match s.chooseUnit 0x80 24 (s.rnd n).lastEc with
    | none => s
    | some u =>
      let r := s.touchRecord u (rndSlot n)
      if r.1 || (poison && !s.cached (rndSlot n)) then r.2.loseRecord n
      else match r.2.startEncode n u c with
        | some s1 => s1
        | none => State.encodeFirst false qs (r.2.encWait n)

/-- ENCODE_DISPATCH (R109, R110, R184, R190, R191, R194, R195, R208, R209, R215, R217, R220, R266, R276, R279). `poison`: the read of the context record
from memory is uncorrectable. -/
def execEncodeDispatch (poison : Bool) (s : State) : Host.Outcome State Fault Refusal :=
  if !s.codingOn then .next s else
  let s1 := s.recomposeStale
  .next (State.encodeFirst poison s1.encReady s1)

/-! ## Inputs of an encode (R192, R201) -/

/-- A reconstruction as a sequence description. -/
def State.recInfo (s : State) (n : Nat) : SeqInfo := { w := s.codedW n, h := s.codedH n, depth := s.outDepth n, chroma := 1 }

/-- A sample of the composed picture; mid-grey on a poisoned line (R207). -/
def State.inputSample (s : State) (n handle : Nat) (lines : List Nat) (p x y : Nat) : Nat :=
  let w := s.outW n
  let h := s.outH n
  let d := s.outDepth n
  let k := if p = 0 then 1 else 2
  let o := flatOffset w h d p (min x (w / k - 1)) (min y (h / k - 1))
  let a := s.bufAddr handle + o
  if lines.contains (o / 128) || s.lineMarked a then 2 ^ (d - 1)
  else if d = 8 then (s.byteAt a).toNat else leNat (s.getMem a 2)

/-- Addresses of the lines of the composed picture that cannot be read: those with the poison mark, and those of a list (R207). -/
def State.inputPoisoned (s : State) (n handle : Nat) (lines : List Nat) : List Nat :=
  if s.mem.poison.isEmpty && lines.isEmpty then [] else
  ((List.range (ceilDiv (flatSize (s.outW n) (s.outH n) (s.outDepth n)) 128)).filter (fun q =>
    lines.contains q || s.lineMarked (s.bufAddr handle + 128 * q))).map (fun q => s.bufAddr handle + 128 * q)

/-- The first block of a reconstruction whose load into a deckle window returns poison (R196, R207). -/
def State.recMarked (s : State) (n handle : Nat) : Option Nat :=
  if s.mem.poison.isEmpty then none else
  let bw := ceilDiv (s.codedW n) 16
  let nb := bw * ceilDiv (s.codedH n) 16
  let u := if s.rndCodec n = 0 then 16 else 32
  (List.range nb).find? (fun k => windowReads (s.rndCodec n) (ceilDiv (s.codedW n) u) (ceilDiv (s.codedH n) u) (k % bw) (k / bw)
    && s.blockPoisoned (s.bufAddr handle) nb k)

/-- The reference block where a P picture stops (R207): one that the command reports, or one whose line carries the poison mark; reference index and
block. -/
def State.refPoisoned (s : State) (n : Nat) (j : EncJob) (po : EncPoison) : Option (Nat × Nat) :=
  if j.cand.first then none else match po.ref with
  | some q => some q
  | none => (((s.rnd n).recon.zipIdx.filterMap (fun q => (s.recMarked n q.1.handle).map (fun k => (q.2, k))))).head?

/-- seed() of R201. -/
def seedScale (mv : Int) (dst src : Nat) (t dpoc : Int) : Int :=
  let num := mv * dst * t
  let den := (src : Int) * (-dpoc)
  let n := if den < 0 then -num else num
  let d := den.natAbs
  let q : Int := ((n.natAbs + d / 2) / max d 1 : Nat)
  if n < 0 then -q else q

/-- The guided seed of block k for a reference that showed some pictures (R201). -/
def State.seedOf (s : State) (n : Nat) (c : Cand) (shown : List (Option PicInfo)) (k : Nat) : Option Mv :=
  let bw := ceilDiv (s.codedW n) 16
  let cx := 16 * (k % bw) + 8
  let cy := 16 * (k / bw) + 8
  let ls := if c.blank then [] else s.layers n ((s.rnd n).under c.cmp) c.pics
  match ls.find? (fun l => inRect l.dst cx cy) with
  | none => none
  | some l =>
    let idx := ((s.validSources n).findIdx? (fun q => q.1 == l.k)).getD 0
    match shown.getD idx none with
    | none => none
    | some p0 =>
      let sx := l.src.1 + (cx - l.dst.1) * l.src.2.2.1 / max l.dst.2.2.1 1
      let sy := l.src.2.1 + (cy - l.dst.2.1) * l.src.2.2.2 / max l.dst.2.2.2 1
      let m := (c.motion.getD idx []).getD (sy / 16 * ceilDiv l.pic.info.w 16 + sx / 16) []
      let f := motionFlags m
      let l0 := f / 2 % 2 == 1
      let dpoc := motionField m (if l0 then 8 else 10)
      if f % 2 = 1 ∨ f / 8 % 2 = 1 ∨ (f / 2 % 4 = 0) ∨ dpoc = 0 then none
      else if p0.ctx ≠ l.pic.ctx ∨ p0.gen ≠ l.pic.gen ∨ p0.cvs ≠ l.pic.cvs then none
      else
        let t := l.pic.poc - p0.poc
        let o := if l0 then 0 else 4
        some (clampInt (-1024) 1024 (seedScale (motionField m o) l.dst.2.2.1 l.src.2.2.1 t dpoc),
              clampInt (-512) 512 (seedScale (motionField m (o + 2)) l.dst.2.2.2 l.src.2.2.2 t dpoc))

/-- Seeds and coded vectors for the search (R200, R201). -/
def State.hints (s : State) (n : Nat) (r : RndSt) (c : Cand) : Hints :=
  { seed := fun ref k => match r.guided, r.recon[ref]? with
      | true, some x => s.seedOf n c x.pics k
      | _, _ => none
    coded := fun ref k => match r.recon[ref]? with
      | some x =>
        let m := s.readMotion (s.recInfo n) x.handle k
        if x.idr ∨ motionFlags m % 2 = 1 then none else some (motionField m 0, motionField m 2)
      | none => none }

/-- What a rendition picture is coded from (R192). -/
def State.encIn (s : State) (n : Nat) (r : RndSt) (j : EncJob) (lines : List Nat) : Config.EncIn :=
  { codec := s.rndCodec n, w := s.codedW n, h := s.codedH n, outW := s.outW n, outH := s.outH n, fps := r.rate.fps, idr := j.cand.first
    index := r.rate.n, source := s.inputSample n j.cand.handle lines
    refs := if j.cand.first then [] else r.recon.map (fun x => (picOf (s.recInfo n) (s.readBlocks (s.recInfo n) x.handle)).at_)
    rp := r.rate.peak, bufBits := r.rate.size, numRef := r.numRef }

/-! ## Completion -/

/-- A composed picture's buffer is no longer needed by its encode; a still may still need it (R209, R231). -/
def State.dropComposed (s : State) (handle : Nat) : State :=
  if s.stills.any (fun t => t.handle == handle && t.rnd.isSome) then s else s.freeOwn handle

/-- The stills that show a composed picture name its leaf (R211). -/
def State.stillsShow (s : State) (n handle : Nat) (leaf : Leaf) : State :=
  { s with stills := s.stills.map (fun t => if t.rnd = some n ∧ t.handle = handle then
      { t with leafSeq := leaf.seq, arr := leaf.arr, tq := leaf.tq } else t) }

/-- The picture stops at a poisoned reference block (R207): its ream closes with reason 5, and the same composed picture becomes the IDR of the
next. -/
def State.encodePoisoned (s : State) (n agent : Nat) (j : EncJob) : State :=
  let r := s.rnd n
  let s1 := (s.setRnd n { r with encUnit := none, ready := { j.cand with first := true } :: r.ready }).freeOwn j.handle
  ((s1.breakRndReam n 5).endJob agent).settleSlots

/-- The leaf of a rendition picture (R81, R272, R273). -/
def State.rndLeaf (s : State) (n : Nat) (r : RndSt) (j : EncJob) (run : EncRun) (unit : Bytes) : Leaf :=
  let c := j.cand
  let p := c.src0
  { seq := r.leafSeq, arr := s.taiNs, tq := s.quality, rtp := p.rtp
    flags := (if c.first then 1 else 0) + (if c.blank then 4 else 0) + (if run.floor then 8 else 0) + (if run.forced then 16 else 0)
    unit := unit, hash := sha256 unit, final := true
    mask := if s.rtype n ≠ 2 then [] else if c.blank then blankRecord p.ctx p.leafSeq else c.mask.getD []
    srcs := ((s.validSources n).zip c.pics).map (fun q => match q.2 with
      | some x => (q.1.2, x.leafSeq, x.gen)
      | none => (q.1.2, 0xFFFFFFFF, s.generation q.1.2))
    starts := j.starts }

/-- Close the ream once its last picture is encoded, where its end has been decided (R106, R280): by the picture after it, or with none after it. -/
def State.endIfDrained (s : State) (n : Nat) : State :=
  let r := s.rnd n
  match r.ready ++ r.begun, r.ending with
  | [], some e => (s.setRnd n { r with ending := none, ream := none }).closeReam (rndSlot n) e
  | c :: _, _ => if c.opens && c.closes != 1 then (s.setRnd n { r with ream := none }).closeReam (rndSlot n) c.closes else s
  | [], none => s

/-- What rate control learns of a picture (R228, R229): the state after it, and its registers. -/
def RateSt.result (x : RateSt) (rc : List Word) (p : PicPlan) (run : EncRun) (bits : Nat) (leaf : Leaf) (ratio : Nat) : EncResult :=
  let y := x.after rc p run bits
  let overrun := decide (p.budget < (bits : Int))
  { leaf, rate := y, ratio, full := x.full, carry := y.carry, floor := run.floor, forced := run.forced
    overrun := if overrun then some ((bits : Int) - p.budget).toNat else none
    status := meanRowQp run.rowQps + (if run.floor then 2 ^ 8 else 0) + (if run.forced then 2 ^ 9 else 0) + (if overrun then 2 ^ 10 else 0)
      + (if x.raised then 2 ^ 11 else 0) }

/-- The core has encoded the picture that it holds for rendition n (R190, R195): unit bytes, reconstruction and FB_MOTION are written, and the result
waits for the collector. Answers the bits written and the blocks searched with a seed. -/
def State.finishEncode (s : State) (n : Nat) (j : EncJob) (po : EncPoison) : State × Nat × Nat :=
  let r := s.rnd n
  let e := s.encIn n r j po.input
  let u := if e.codec = 0 then 16 else 32
  let plan := r.rate.plan r.rc (s.nctu n) (ceilDiv e.h u)
  let run := codePicture (s.outDepth n) e (s.hints n r j.cand) plan
  let unit := unitOf e run
  let info := s.recInfo n
  let nb := ceilDiv info.w 16 * ceilDiv info.h 16
  let raw := rawBlock 1 (info.depth == 10)
  let pic := picOf info ((List.range nb).map (Config.encRecon e run.cus))
  let k : Int := if e.codec = 0 then 2 else 1
  let motion := (List.range nb).map (fun b => match codedMotion e run.cus b with
    | some (x, y, ref) => motionEntry x y 0 0 (-(k * ((ref : Int) + 1))) 0 2
    | none => motionEntry 0 0 0 0 0 0 1)
  let leaf := s.rndLeaf n r j run unit
  let res := r.rate.result r.rc plan run (8 * unit.length) leaf (pressRatio (pressedBytes pic) (nb * raw))
  let s1 := s.writeFrame j.unit j.handle pic n leaf.seq (k * r.rate.n) raw motion
  (s1.setRnd n { r with encUnit := some { j with result := some res } }, 8 * unit.length, run.search.seeds)

/-- RC_STATUS, RC_FULL, RC_CARRY in that order, and the counters of R229; what a management read of this instant returns is kept (R228). -/
def State.rateStatus (s : State) (n : Nat) (e : EncResult) : State :=
  let was := [s.reg (Reg.RC_STATUS n), s.reg (Reg.RC_FULL n), s.reg (Reg.RC_CARRY n)]
  let s0 := s.setRnd n { s.rnd n with rcWas := some (s.now, match (s.rnd n).rcWas with | some (t, w) => if t = s.now then w else was | none => was) }
  let s1 := ((s0.setReg (Reg.RC_STATUS n) (BitVec.ofNat 32 e.status)).setReg (Reg.RC_FULL n) (BitVec.ofNat 32 e.full)).setReg (Reg.RC_CARRY n)
    (BitVec.ofInt 32 e.carry)
  let s2 := match e.overrun with
    | some k => (s1.bump (Reg.RC_OVERRUNS n)).bumpN (Reg.RC_OVER_BITS n) k
    | none => s1
  (s2.bumpIf e.floor (Reg.RC_FLOOR_PICS n)).bumpIf e.forced (Reg.RC_FORCED_PICS n)

/-- The collector accepts the record of an encoded picture (R190, R195, R228, R231): the leaf joins its chain, rate control takes the size, and
buffers that nothing needs go back. -/
def State.acceptEncode (s : State) (n : Nat) : State :=
  let r := s.rnd n
  match r.encUnit with
  | none => s
  | some j => match j.result with
    | none => s
    | some e =>
      let all := { handle := j.handle, idr := j.cand.first, pics := j.cand.pics : Recon } :: r.recon
      let press := pushPress r.press e.ratio
      let s1 := s.setRnd n { r with
        encUnit := none
        lastEc := some j.unit
        leafSeq := r.leafSeq + 1
        rate := e.rate
        recon := all.take r.numRef
        press := press }
      let s2 := (all.drop r.numRef).foldl (fun t x => t.freeOwn x.handle) s1
      let s3 := (s2.rateStatus n e).setRegF (Reg.RND_PRESS n) 0 7 (pressShown press)
      let s4 := ((s3.stillsShow n j.cand.handle e.leaf).dropComposed j.cand.handle).awaitLeaf (rndSlot n) e.leaf
      (s4.endIfDrained n).chainReady (rndSlot n)

/-- ENCODE_PICTURE_DONE (R22, R184 to R207, R217 to R228, R272 to R275). -/
def execEncodePictureDone (c : Fin 24) (po : EncPoison) (s : State) : Host.Outcome State Fault Refusal :=
  let agent := agEc c
  let x := s.unit agent
  match x.job with
  | some (.encode n) =>
    match (s.rnd n).encUnit with
    | some j =>
      if j.unit ≠ agent ∨ s.frozen agent ∨ (s.heldRec agent).isSome then .next s else
      let lines := s.inputPoisoned n j.cand.handle po.input
      let s1 := lines.foldl (fun t a => t.poisonedRead agent a) (s.bumpN (Reg.ENC_POISON c) lines.length)
      match s.refPoisoned n j po with
      | some (ref, k) =>
        let h := ((s.rnd n).recon[ref]?.map (·.handle)).getD 0
        let nb := ceilDiv (s.codedW n) 16 * ceilDiv (s.codedH n) 16
        .next (((s1.bump (Reg.ENC_POISON c)).poisonedRead agent (s.blockLine (s.bufAddr h) nb k)).encodePoisoned n agent j)
      | none =>
        let r := s1.finishEncode n j po
        let s2 := ((r.1.bump (Reg.ENC_PICTURES c)).bumpN (Reg.ENC_PIXELS c) (s.codedW n * s.codedH n)).bumpN (Reg.ENC_BITS c) r.2.1
        let s3 := ((s2.bumpN (Reg.ENC_SEEDS c) r.2.2).bumpIf j.cand.first (Reg.ENC_IDR c)).bumpIf x.restarted (Reg.ENC_RESTARTS c)
        let status := (if lines.isEmpty then 0 else 1) + (if x.restarted then 2 else 0) + (if j.cand.waited.isSome then 4 else 0)
        .next ((s3.endJob agent).sendRecord agent (s.seqFor n - 0xA0) 1 n (s.rnd n).leafSeq status r.2.1 x.since)
    | none => .next s
  | _ => .next s

/-- ENC_ALLOC_TIMEOUT (R208): after 100 ms without a buffer the composed picture is discarded, and the open ream closes with reason 4, or with the
higher code where the discarded picture's own ream closed it for another cause. -/
def execEncAllocTimeout (n : Fin 1024) (s : State) : Host.Outcome State Fault Refusal :=
  let r := s.rnd n
  match r.ready with
  | c :: t => match c.waited with
    | some w =>
      if w + msT 100 ≤ s.now then
        let s1 := (s.setRnd n { r with ready := t }).dropComposed c.handle
        .next ((s1.breakRndReam n (max 4 c.closes)).endIfDrained n).settleSlots
      else .next s
    | none => .next s
  | [] => .next s

/-- ENC_OOS: the core leaves service at its next picture boundary and publishes 0, or returns at once (R92, R213). -/
def execEncOos (c : Fin 24) (out : Bool) (s : State) : Host.Outcome State Fault Refusal :=
  .next (s.writeOos (agEc c) out)

/-! ## Stills (R209 to R211) -/

/-- A sample of a still at 8 bits, 4:2:0 (R209, R210): the cropped original, or the composed picture. -/
def State.stillSample (s : State) (t : Still) (p x y : Nat) : Nat :=
  let to8 := fun (d v : Nat) => if d = 10 then min ((v + 2) / 4) 255 else v
  match t.rnd with
  | some n => to8 (s.outDepth n) (s.inputSample n t.handle [] p x y)
  | none =>
    let i := t.pic.info
    let img := picOf i (s.readBlocks i t.handle)
    if p = 0 then to8 i.depth (img.y (i.cropX + x) (i.cropY + y))
    else
      let cx := i.cropX / 2 + x
      if i.chroma = 1 then to8 i.depth (img.at_ p cx (i.cropY / 2 + y))
      else (to8 i.depth (img.at_ p cx (i.cropY + 2 * y)) + to8 i.depth (img.at_ p cx (i.cropY + 2 * y + 1)) + 1) / 2

/-- The STILL result (R211). -/
def State.stillResult (s : State) (t : Still) (q : Nat) : Bytes :=
  let w := match t.rnd with | some n => s.outW n | none => t.pic.info.cropW
  let h := match t.rnd with | some n => s.outH n | none => t.pic.info.cropH
  let j := jpegImage (s.stillSample t) w h (quantOf q jpegLuma) (quantOf q jpegChroma)
  be 1 (if t.rnd.isSome then 1 else 0) ++ be 1 t.tq ++ be 2 (t.rnd.getD t.pic.ctx) ++ be 4 t.leafSeq ++ be 6 (t.arr / 1000000000)
    ++ be 4 (t.arr % 1000000000) ++ be 2 w ++ be 2 h ++ be 1 q ++ zeros 1 ++ be 4 j.length ++ j

/-- A still leaves the list; its buffer is free if nothing else needs it. -/
def State.dropStill (s : State) (t : Still) : State :=
  let s1 := { s with stills := s.stills.filter (fun x => x.ticket != t.ticket) }
  match t.rnd with
  | none => s1.sweepBufs t.pic.ctx
  | some n =>
    let r := s1.rnd n
    let used := r.ready.any (fun c => c.handle == t.handle) || (match r.encUnit with | some e => e.cand.handle == t.handle | none => false)
    if used then s1 else s1.dropComposed t.handle

/-- STILL_DONE (R73, R209 to R211). The image quality is the STILL_Q in force when the ticket started (R212). -/
def execStillDone (c : Fin 24) (s : State) : Host.Outcome State Fault Refusal :=
  let agent := agEc c
  let x := s.unit agent
  match x.job with
  | some (.still num) =>
    if s.frozen agent ∨ (s.heldRec agent).isSome then .next s else
    match s.stills.find? (fun t => t.ticket == num) with
    | some t =>
      let q := ((s.ticket num).map (fun k => k.param 4 1)).getD 1
      let s1 := (((s.readyTicket num 0 (s.stillResult t q)).bump (Reg.ENC_STILLS c)).endJob agent).dropStill t
      .next (s1.sendRecord agent (s.seqFor t.pic.ctx - 0xA0) 3 (t.rnd.getD t.pic.ctx) t.leafSeq 0 0 x.since)
    | none => .next (s.endJob agent)
  | _ => .next s

/-- STILL_TIMEOUT (R209): no picture within 5 s of the start. -/
def execStillTimeout (num : Nat) (s : State) : Host.Outcome State Fault Refusal :=
  match s.ticket num with
  | some t => if t.kind = 5 ∧ !t.ready ∧ !t.running ∧ t.started + sT 5 ≤ s.now then .next (s.readyTicket num 1 []) else .next s
  | none => .next s

end Sys2Proof.Machine
end

