-- ==== Sys2Proof/Machine/Time.lean ====
section
/-!
DEFINITION. Device time: the PTP slave of R76 to R80 and time quality. The message formats and the default best-master comparison
are those of IEEE 1588-2019. PRESUMED (log entry 8).
-/
namespace Sys2Proof.Machine

/-- A quality change applies to what was stamped in its own instant (R81): packets and chunks of this tick, and leaves that are not yet chained. -/
def State.restamp (s : State) (q : Nat) : State :=
  let at_ := fun (tick old : Nat) => if tick = s.now then q else old
  let au := fun (a : Au) => { a with tq := at_ a.tick a.tq }
  let ctx := fun (x : CtxSt) => { x with
    early := x.early.map (fun e => (e.1, e.2.1, at_ e.2.2.2 e.2.2.1, e.2.2.2))
    rtp := { x.rtp with held := x.rtp.held.map (fun k => { k with tq := at_ k.tick k.tq }) }
    off := x.off.map (fun o => { o with tq := at_ o.tick o.tq })
    queue := x.queue.map au
    busy := x.busy.map (fun j => { j with au := au j.au }) }
  let sess := fun (x : KtSess) => { x with
    early := x.early.map (fun e => { e with tq := at_ e.tick e.tq })
    held := x.held.map (fun c => { c with tq := at_ c.tick c.tq }) }
  let leaf := fun (l : Leaf) => if l.arr = s.taiNs then { l with tq := q } else l
  let rnd := fun (x : RndSt) => { x with
    encUnit := x.encUnit.map (fun j => { j with result := j.result.map (fun e => { e with leaf := leaf e.leaf }) }) }
  { s with
    ctxs := s.ctxs.map (fun e => (e.1, ctx e.2))
    rnds := s.rnds.map (fun e => (e.1, rnd e.2))
    net := { s.net with sess := s.net.sess.map sess }
    seals := { s.seals with slots := s.seals.slots.map (fun e => (e.1, { e.2 with await := e.2.await.map leaf })) } }

/-- Set the time quality; a change sets QUAL_CHG and raises EV080 (R80), and applies to this instant's stamps (R81). -/
def State.setQuality (s0 : State) (q : Nat) : State :=
  if s0.quality = q then s0
  else let s := s0.restamp q
    ((s.setRegF Reg.GLB_TIME_STATUS 0 3 q).setRegBit Reg.GLB_TIME_STATUS 8 true).raiseEv 80

/-- GLB_PTP_ASYM in ns, signed (R77). -/
def State.asym (s : State) : Int := signedOf 32 (s.cfg Reg.GLB_PTP_ASYM).toNat

/-- Quality after a measurement of offset `o` (R78, R79). -/
def State.judgeOffset (s : State) (o : Int) : State :=
  let a := o.natAbs
  let good := if a ≤ 1000 then s.time.goodRun + 1 else 0
  let bad := if 2000 < a then s.time.badRun + 1 else 0
  let s1 := { s with time := { s.time with goodRun := good, badRun := bad } }
  if 8 ≤ good then (s1.setRegBit Reg.GLB_TIME_STATUS 3 true).setQuality 0
  else if s.quality = 0 then (if 3 ≤ bad then s1.setQuality 1 else s1)
  else if s.quality = 2 ∨ s.quality = 3 then s1.setQuality 1
  else s1

/-- A complete Sync measurement: master's t1 and own t2, in ns (R77 to R79). The first one steps the time, and later ones while the
quality is FREE_RUN do too (log entry 11); after the first lock every offset is slewed. -/
def State.measureOffset (s : State) (t1 t2 : Int) : State :=
  let o := t2 - t1 - s.time.delay - s.asym
  let sat := clampInt (-2147483647) 2147483647 o
  let s1 := s.setReg Reg.GLB_PTP_OFFSET (BitVec.ofInt 32 sat)
  let step := s.quality = 4
  let fs := (s.time.taiFs : Int) - o * 1000000
  let tm := { s1.time with
    -- a step moves the kept transmit time of the own request with it (R77)
    req := if step then s1.time.req.map (fun r => (r.1, ((r.2 : Int) - o).toNat)) else s1.time.req
    lastSync := s.now
    last12 := if step then some (t1, t2 - o) else some (t1, t2)
    taiFs := if step then fs.toNat else s1.time.taiFs
    slew := if step then 0 else -o * 1000000
    freq := clampInt (-800) 800 (Config.servoFreq o s1.time.freq) }
  ({ s1 with time := tm }).judgeOffset o

/-- Is the message from the selected master, in the configured domain, on the PTP port (R76)? -/
def State.ptpFrom (s : State) (f : RxFrame) (m : PtpMsg) : Bool :=
  s.rxOpen f.port && (s.frameCheck f).isNone && s.isPtp f && m.domain == s.cfgF Reg.GLB_PTP_CFG 8 8 && s.time.master == some m.source

/-- A PTP message on the PTP port in the configured domain, from whatever source. -/
def State.ptpAny (s : State) (f : RxFrame) (m : PtpMsg) : Bool :=
  s.rxOpen f.port && (s.frameCheck f).isNone && s.isPtp f && m.domain == s.cfgF Reg.GLB_PTP_CFG 8 8

/-- A PTP frame that is not kept is discarded under R36; one on another port is ignored (R76). -/
def State.ptpDrop (s : State) (f : RxFrame) : State :=
  if !s.rxOpen f.port then s else match s.frameCheck f with
  | some c => s.discard c
  | none => if s.isPtp f then s.bump (Reg.PRT_RX_FRAMES f.port) else s

/-- PTP_SYNC: one-step messages complete at once, two-step ones wait for the Follow_Up (R76). -/
def execPtpSync (f : RxFrame) (m : PtpMsg) (s : State) : Host.Outcome State Fault Refusal :=
  if !s.ptpFrom f m then .next (s.ptpDrop f) else
  let s0 := s.bump (Reg.PRT_RX_FRAMES f.port)
  if m.twoStep then
    .next { s0 with time := { s0.time with sync := some (m.seqId, s.taiNs, m.correction), lastSync := s.now } }
  else .next (s0.measureOffset ((m.stamp : Int) + m.correction) s.taiNs)

/-- PTP_FOLLOW_UP: completes the two-step Sync with the same sequenceId. -/
def execPtpFollowUp (f : RxFrame) (m : PtpMsg) (s : State) : Host.Outcome State Fault Refusal :=
  if !s.ptpFrom f m then .next (s.ptpDrop f) else
  let s0 := s.bump (Reg.PRT_RX_FRAMES f.port)
  match s.time.sync with
  | some (q, t2, c) =>
    if q = m.seqId then
      .next (({ s0 with time := { s0.time with sync := none } }).measureOffset ((m.stamp : Int) + c + m.correction) t2)
    else .next s0
  | none => .next s0

/-- Lexicographic order of keys. -/
def keyLt : List Nat → List Nat → Bool
  | x :: xs, y :: ys => decide (x < y) || (x == y && keyLt xs ys)
  | [], _ :: _ => true
  | _, [] => false

/-- Is the first data set better than the second (IEEE 1588-2019, the data set comparison)? Of one grandmaster the fewer steps win, then the
lower sender; else priority1, class, accuracy, variance, priority2 and identity decide. -/
def Announce.better (a b : Announce) : Bool :=
  if a.grandmaster = b.grandmaster then keyLt [a.steps, a.source] [b.steps, b.source]
  else keyLt [a.priority1, a.clockClass, a.accuracy, a.variance, a.priority2, a.grandmaster]
    [b.priority1, b.clockClass, b.accuracy, b.variance, b.priority2, b.grandmaster]

/-- The best of the announced clocks. -/
def bestClock : List Announce → Option Announce
  | [] => none
  | a :: l => match bestClock l with
    | none => some a
    | some b => if b.better a then some b else some a

/-- Ticks of an announce interval. -/
def Announce.interval (a : Announce) : Nat :=
  if 0 ≤ a.logInterval then sT (2 ^ a.logInterval.toNat) else sT 1 / 2 ^ (-a.logInterval).toNat

/-- Has the clock announced itself within the receipt timeout of 3 announce intervals (the default profile)? -/
def ForeignClock.live (c : ForeignClock) (now : Nat) : Bool := decide (now < c.last + 3 * c.ds.interval)

/-- Does the default BMCA consider the clock: two Announce messages within 4 announce intervals, unless it is the selected master, and fewer than 255 steps? -/
def ForeignClock.qualified (c : ForeignClock) (master : Option Nat) : Bool :=
  decide (c.ds.steps < 255) && (master == some c.ds.source || (match c.prev with
    | some t => decide (c.last ≤ t + 4 * c.ds.interval)
    | none => false))

/-- The BMCA over a set of clocks: GLB_PTP_MASTER; another selected master makes LOCKED into SLEWING (R76, R79). -/
def State.runBmca (s : State) (cs : List ForeignClock) : State :=
  let best := (bestClock ((cs.filter (fun c => c.qualified s.time.master)).map (·.ds))).map (·.source)
  let s1 := { s with time := { s.time with clocks := cs, master := best } }
  if best = s.time.master then s1 else
  let s2 := s1.setPair (Reg.GLB_PTP_MASTER 0) (best.getD 0 / 65536)
  let s3 := { s2 with time := { s2.time with goodRun := 0, badRun := 0, sync := none, last12 := none } }
  if s.quality = 0 ∧ best.isSome = true then s3.setQuality 1 else s3

/-- The clocks known after an Announce message: those still heard of, and the sender with its newest data set. -/
def State.heardClocks (s : State) (a : Announce) : List ForeignClock :=
  s.time.clocks.filter (fun c => c.ds.source != a.source && c.live s.now)
    ++ [{ ds := a, last := s.now, prev := (s.time.clocks.find? (fun c => c.ds.source == a.source)).map (·.last) }]

/-- PTP_ANNOUNCE: fed to the BMCA (R76). -/
def execPtpAnnounce (f : RxFrame) (m : PtpMsg) (a : Announce) (s : State) : Host.Outcome State Fault Refusal :=
  if !s.ptpAny f m then .next (s.ptpDrop f) else
  .next ((s.bump (Reg.PRT_RX_FRAMES f.port)).runBmca (s.heardClocks a))

/-- The announce receipt timeout, at a tick: clocks that are no longer heard of leave the BMCA. -/
def State.announceTimeout (s : State) : State :=
  if s.time.clocks.all (fun c => c.live s.now) then s else s.runBmca (s.time.clocks.filter (fun c => c.live s.now))

/-- The own port identity: the clockIdentity from the port MAC, and port number 1. -/
def State.portIdentity (s : State) (p : Nat) : Bytes :=
  let m := s.mac p
  be 3 (m / 2 ^ 24) ++ be 2 0xFFFE ++ be 3 m ++ be 2 1

/-- Does a response name the device's own request: its requestingPortIdentity is the port's? -/
def State.ptpMine (s : State) (f : RxFrame) (m : PtpMsg) : Bool := m.requesting == beNat (s.portIdentity f.port)

/-- PTP_DELAY_RESP: t4 of the master completes the E2E measurement of the last Delay_Req (R76). -/
def execPtpDelayResp (f : RxFrame) (m : PtpMsg) (s : State) : Host.Outcome State Fault Refusal :=
  if !s.ptpFrom f m || s.cfgBit Reg.GLB_PTP_CFG 3 || !s.ptpMine f m then .next (s.ptpDrop f) else
  let s0 := s.bump (Reg.PRT_RX_FRAMES f.port)
  match s.time.req, s.time.last12 with
  | some (q, t3), some (t1, t2) =>
    if q = m.seqId then
      let d := ((t2 - t1) + ((m.stamp : Int) - m.correction - t3)) / 2
      .next { s0 with time := { s0.time with delay := d, req := none } }
    else .next s0
  | _, _ => .next s0

/-- A PTP message: common header and body. -/
def State.ptpBytes (s : State) (p type seqId flags : Nat) (corr : Int) (body : Bytes) : Bytes :=
  be 1 type ++ be 1 2 ++ be 2 (34 + body.length) ++ be 1 (s.cfgF Reg.GLB_PTP_CFG 8 8) ++ be 1 0 ++ be 2 flags
    ++ be 8 ((corr * 65536) % (2 ^ 64 : Nat)).toNat ++ be 4 0 ++ s.portIdentity p ++ be 2 seqId
    ++ be 1 (if type = 1 then 1 else 5) ++ be 1 0x7F ++ body

/-- A timestamp field: 48-bit seconds and 32-bit nanoseconds. -/
def ptpStamp (ns : Nat) : Bytes := be 6 (ns / 1000000000) ++ be 4 (ns % 1000000000)

/-- A PTP frame on the configured transport; event messages use port 319, general ones 320, peer-delay ones their own group. -/
def State.ptpFrame (s : State) (event pdelay : Bool) (body : Bytes) : OutFrame :=
  if s.ptpTransport = 0 then rawFrame .ptp (if pdelay then 0x0180C200000E else 0x011B19000000) body
  else
    let g := (if s.ptpTransport = 1 then ptpGroups4 else ptpGroups6).getD (if pdelay then 1 else 0) 0
    let udp := if event then 319 else 320
    { kind := .ptp, proto := 17, dstIp := g, mac := some (groupMac g), srcPort := udp, dstPort := udp, routerAlert := false,
      payload := body }

/-- PTP_PDELAY_REQ: answered with a two-step Pdelay_Resp, whose follow-up comes when its transmit time is known (R76, R77). -/
def execPtpPdelayReq (f : RxFrame) (m : PtpMsg) (s : State) : Host.Outcome State Fault Refusal :=
  if !s.ptpAny f m then .next (s.ptpDrop f) else
  let p := f.port.val
  let s0 := s.bump (Reg.PRT_RX_FRAMES p)
  let r1 := s.ptpBytes p 3 m.seqId 0x0200 0 (ptpStamp s.taiNs ++ be 10 m.source)
  .next (s0.send p { s.ptpFrame true true r1 with ptp := .resp m.seqId m.source m.correction })

/-- PTP_PDELAY_RESP: the response's t2 and the follow-up's t3 complete the P2P measurement (R76). -/
def execPtpPdelayResp (f : RxFrame) (resp follow : PtpMsg) (s : State) : Host.Outcome State Fault Refusal :=
  if !s.ptpAny f resp || !s.cfgBit Reg.GLB_PTP_CFG 3 || !s.ptpMine f resp || follow.source != resp.source || follow.seqId != resp.seqId then
    .next (s.ptpDrop f) else
  let s0 := s.bump (Reg.PRT_RX_FRAMES f.port)
  match s.time.req with
  | some (q, t1) =>
    if q = resp.seqId then
      let d := (((s.taiNs : Int) - t1) - ((follow.stamp : Int) - resp.stamp) - resp.correction - follow.correction) / 2
      .next { s0 with time := { s0.time with delay := d, req := none } }
    else .next s0
  | none => .next s0

/-- PTP_DELAY_REQ_TIMER: the device sends its own Delay_Req, or Pdelay_Req with DELAY 1 (R76). A Delay_Req needs a selected master. Its transmit time is
kept when the port starts it (R77). -/
def execPtpDelayReqTimer (s : State) : Host.Outcome State Fault Refusal :=
  let p2p := s.cfgBit Reg.GLB_PTP_CFG 3
  let p := s.cfgF Reg.GLB_PTP_CFG 1 2
  if !s.ptpPort p || !s.linkUp p || (!p2p && s.time.master.isNone) then .next s else
  let q := s.time.reqSeq
  let body := ptpStamp 0 ++ (if p2p then zeros 10 else [])
  let s1 := s.send p { s.ptpFrame true p2p (s.ptpBytes p (if p2p then 2 else 1) q 0 0 body) with ptp := .req q }
  .next { s1 with time := { s1.time with reqSeq := (q + 1) % 65536, req := none } }

/-- A frame of the system queue starts on a port: its transmit time is taken (R77). -/
def State.ptpStarted (s : State) (p : Nat) (f : OutFrame) : State := match f.ptp with
  | .none => s
  | .req q => { s with time := { s.time with req := some (q, s.taiNs) } }
  | .resp q who corr => s.send p (s.ptpFrame false true (s.ptpBytes p 10 q 0 corr (ptpStamp s.taiNs ++ be 10 who)))

/-- SYNC_LOSS_TIMEOUT: LOSS_S without Sync from the selected master begins holdover (R78, R80). -/
def execSyncLossTimeout (s : State) : Host.Outcome State Fault Refusal :=
  if (s.quality = 0 ∨ s.quality = 1) ∧ s.time.lastSync + sT (s.cfgF Reg.GLB_PTP_TIMERS 0 8) ≤ s.now then
    let s1 := { s with time := { s.time with holdoverAt := s.now, goodRun := 0, badRun := 0, sync := none, slew := 0 } }
    .next ((s1.bump32 Reg.GLB_PTP_LOSS 1).setQuality 2)
  else .next s

/-- HOLDOVER_EXPIRY: HOLD_MIN minutes of holdover (R78). -/
def execHoldoverExpiry (s : State) : Host.Outcome State Fault Refusal :=
  if s.quality = 2 ∧ s.time.holdoverAt + sT (60 * s.cfgF Reg.GLB_PTP_TIMERS 16 16) ≤ s.now then .next (s.setQuality 3)
  else .next s

/-- One 4 ns tick of the time bases: the monotonic one never steps; device time runs with its frequency correction and slews what is
left of an offset, together at most 200 ppm (800 fs in 4 ns) away (R79). While NPOR_N is low device time stands. -/
def State.tick (s : State) : State :=
  if s.boot.nporLow then { s with now := s.now + 1 } else
  let f := s.time.freq
  let room := clampInt (-800 - f) (800 - f) s.time.slew
  { s with now := s.now + 1, time := { s.time with
      taiFs := ((s.time.taiFs : Int) + 4000000 + f + room).toNat
      slew := s.time.slew - room } }

end Sys2Proof.Machine
end

