-- ==== Sys2Proof/Machine/Admission.lean ====
section
/-!
DEFINITION. Admission and shedding (04_contexts_and_admission.md): capacity and charges (R92 to R96), admission (R97 to R101), shedding (R102 to
R106), the evaluation (R100) and the commands of the family.
-/
namespace Sys2Proof.Machine

/-! ## Capacity and charges, exact -/

/-- The four resources: credits (Mpixel/s) of decode, encode and composition, MB/s of memory. -/
structure Load where
  dec : Rat := 0
  enc : Rat := 0
  cmp : Rat := 0
  mem : Rat := 0

/-- Sum of two charge vectors. -/
def Load.add (a b : Load) : Load := ⟨a.dec + b.dec, a.enc + b.enc, a.cmp + b.cmp, a.mem + b.mem⟩
/-- Scale. -/
def Load.scale (k : Rat) (a : Load) : Load := ⟨k * a.dec, k * a.enc, k * a.cmp, k * a.mem⟩
/-- Does a charge vector lie within a limit in every resource? -/
def Load.within (a b : Load) : Bool := decide (a.dec ≤ b.dec) && decide (a.enc ≤ b.enc) && decide (a.cmp ≤ b.cmp) && decide (a.mem ≤ b.mem)

/-- Published capability of a unit by agent ID: its first field (R92). -/
def State.cap (s : State) (agent : Nat) : Nat :=
  if agent < 0x80 then s.regF (Reg.DEC_CAP (agent - 0x40)) 0 16
  else if agent < 0x98 then s.regF (Reg.ENC_CAP (agent - 0x80)) 0 16 else s.regF (Reg.CU_CAP (agent - 0x98)) 0 16

/-- Sum of published capabilities of a kind, without one unit. -/
def State.capSum (s : State) (base count : Nat) (drop : Option Nat) : Nat :=
  sumNat ((List.range count).map (fun i => if drop = some (base + i) then 0 else s.cap (base + i)))

/-- Sum of the entropy capabilities E_i. -/
def State.entSum (s : State) (drop : Option Nat) : Nat :=
  sumNat ((List.range 64).map (fun i => if drop = some (0x40 + i) then 0 else s.regF (Reg.DEC_CAP i) 16 16))

/-- The smallest D_i in service; 0 if none is. -/
def State.minD (s : State) : Nat := (minNat? (((List.range 64).map (fun i => s.cap (0x40 + i))).filter (· != 0))).getD 0

/-- Transfer rate in MT/s (R361) and memory ports in use. -/
def State.memRate (s : State) : Nat := [3200, 4267, 5500, 6400].getD (s.cfgF Reg.GLB_MEM_CFG 0 2) 0
def State.memPorts (s : State) : Nat := if s.cfgBit Reg.GLB_MEM_CFG 2 then 4 else 8

/-- Capacity A (R93), without one unit (R107). -/
def State.capacity (s : State) (drop : Option Nat) : Load :=
  let l : Rat := (s.cfgF Reg.GLB_ADM_CFG 8 7 : Rat) / 100
  { dec := l * s.capSum 0x40 64 drop, enc := l * s.capSum 0x80 24 drop, cmp := l * s.capSum 0x98 8 drop
    mem := 56 * (s.memRate * s.memPorts : Nat) / 10 - 1000 * (s.cfgF Reg.GLB_ADM_CFG 16 7 : Nat) }

/-- m, percent. -/
def State.marginM (s : State) : Rat := (s.cfgF Reg.GLB_ADM_CFG 0 5 : Nat)
/-- What charges fit under (R97), and above which a resource is overloaded (R102). -/
def State.fitLimit (s : State) (drop : Option Nat) : Load := (s.capacity drop).scale (1 - s.marginM / 100)
def State.overLimit (s : State) : Load := (s.capacity none).scale (1 - s.marginM / 200)

/-- P of a context's declared values (R95). -/
def State.declaredP (s : State) (n : Nat) : Rat := (s.maxW n * s.maxH n * s.maxFps n : Nat) / 100000000

/-- Charges of a context at pixel rate p (R95, R96). -/
def State.ctxCharge (s : State) (n : Nat) (p : Rat) : Load :=
  let e := s.entSum none
  let ent : Rat := if e = 0 then 0 else (s.maxMbps n * s.capSum 0x40 64 none : Nat) / (e : Rat)
  let b : Rat := if s.regBit (Reg.CTX_CFG n) 4 && s.codec n != 2 then 2 else 1
  { dec := if p < ent then ent else p, mem := 33 / 10 * b * ((pressShown (s.ctx n).press : Nat) / 64) * p }

/-- Pixel rate that a context is charged for: G of an offload session (R98), else P. -/
def State.chargedP (s : State) (n : Nat) : Rat := match (s.ctx n).grant with
  | some g => (g : Rat) / 100
  | none => s.declaredP n

/-- The charges that a context holds: none with VSTATE 2. -/
def State.ctxHolds (s : State) (n : Nat) : Load := if s.vstate n = 2 then {} else s.ctxCharge n (s.chargedP n)

/-- Charges of a rendition, at half rate or not (R95). -/
def State.rndCharge (s : State) (n : Nat) (half : Bool) : Load :=
  let q : Rat := (s.outW n * s.outH n * s.outFps n : Nat) / (if half then 200000000 else 100000000)
  let w : Rat := if s.rndCodec n = 0 then 13 / 16 else 1
  let b : Rat := if s.rndCodec n = 2 then 2 else 1
  { enc := w * q, cmp := q, mem := b * (3 / 2 + 298 / 100 * ((pressShown (s.rnd n).press : Nat) / 64)) * q }

/-- The charges that a rendition holds, as if a shed step were lifted (0: none). -/
def State.rndHolds (s : State) (lift n : Nat) : Load :=
  if (s.rnd n).stopped && lift != 1 then {}
  else if s.paused n && !(lift == 3 && s.rtype n == 2) then {}
  else s.rndCharge n (s.halved n && lift != 2)

/-- Σc: every slot that is OPEN or CLOSING (R89). -/
def State.held (s : State) (lift : Nat) : Load :=
  let st := fun (x : Nat) => x == 2 || x == 3
  ((s.renditions st).map (s.rndHolds lift)).foldl Load.add (((s.contexts st).map s.ctxHolds).foldl Load.add {})

/-- Does a charge vector fit (R97)? -/
def State.fits (s : State) (x : Load) : Bool := ((s.held 0).add x).within (s.fitLimit none)

/-! ## Shedding (R102, R103, R106) -/

/-- Production of a rendition halts: what is not yet in composition is dropped, and its ream closes with reason 4 (R106). -/
def State.haltRnd (s : State) (n : Nat) : State :=
  let r := s.rnd n
  (s.setRnd n { r with wait := r.begun, anchor := none }).endRndReam n 4

/-- Open renditions of a type. -/
def State.openOf (s : State) (type : Nat) : List Nat := (s.renditions (· == 2)).filter (fun r => s.rtype r == type)

/-- The effect of a step as it is taken or lifted (R102, R105). -/
def State.stepEffect (s : State) (step : Nat) (up : Bool) : State :=
  if step = 1 then (s.openOf 3).foldl (fun t r =>
      if up then ((t.setRnd r { t.rnd r with stopped := true }).haltRnd r) else t.setRnd r { t.rnd r with stopped := false }) s
  else if step = 2 then (s.openOf 1).foldl (fun t r => (t.setRegBit (Reg.RND_STATUS r) 4 up).endRndReam r 4) s
  else if step = 3 then (s.openOf 2).foldl (fun t r =>
      if up then (t.setRegBit (Reg.RND_STATUS r) 5 true).haltRnd r else t.setRegBit (Reg.RND_STATUS r) 5 false) s
  else (s.contexts (fun st => st == 2 || st == 3)).foldl (fun t n =>
      if t.vstate n = (if up then 0 else 1) then (t.setVstate n (if up then 1 else 0)).expireLeaves n else t) s

/-- Change the step in force by one: SHED_CHG, the counters, and the effect. -/
def State.setShed (s : State) (new : Nat) : State :=
  let old := s.shed
  let s1 := (((s.setRegF Reg.GLB_ADM_STATE 0 3 new).setRegBit Reg.GLB_ADM_STATE 8 true).bump32 Reg.GLB_SHED_COUNT 1).stepEffect
    (max old new) (decide (old < new))
  { s1 with adm := { s1.adm with lastChange := s.now, after3 := 0, after4 := 0, fitSince := none } }

/-- Pause the fewest proxies that end an encode or composition overload (R103). -/
def State.pauseProxies (s : State) : State :=
  let order := sortBy (fun a b => decide (s.cfgF (Reg.RND_CFG a) 5 3 < s.cfgF (Reg.RND_CFG b) 5 3)
      || (s.cfgF (Reg.RND_CFG a) 5 3 == s.cfgF (Reg.RND_CFG b) 5 3 && decide (b ≤ a)))
    ((s.openOf 1).filter (fun r => !s.paused r))
  order.foldl (fun t r =>
    let c := t.held 0
    let l := t.overLimit
    if c.enc ≤ l.enc ∧ c.cmp ≤ l.cmp then t else (t.setRegBit (Reg.RND_STATUS r) 5 true).haltRnd r) s

/-- Set VSTATE 2 on a context (R101, R103, R104): its pictures that wait for decode carry reason 7; an offload session pauses. -/
def State.suspend (s : State) (n : Nat) : State :=
  let s1 := (s.setVstate n 2).bump32 Reg.GLB_SUSPEND_COUNT 1
  let q := (s1.ctx n).queue
  let s2 := s1.setCtx n { s1.ctx n with queue := [], restart := true }
  let s3 := q.foldl (fun t a => t.absentPic n a 7) s2
  match s3.sessOf clsOffload n with
  | some x => s3.setSess { x with pausedAt := some s.now }
  | none => s3

/-- Contexts in the order of R103: PRIO ascending, then number descending. -/
def State.shedOrder (s : State) (l : List Nat) : List Nat :=
  let p := fun (n : Nat) => s.cfgF (Reg.CTX_CFG n) 5 3
  sortBy (fun a b => decide (p a < p b) || (p a == p b && decide (b ≤ a))) l

/-- Pause offload sessions, then suspend live contexts, the fewest that bring decode and memory down (R103). -/
def State.suspendSome (s : State) : State :=
  let open_ := (s.contexts (· == 2)).filter (fun n => s.vstate n != 2)
  let isOff := fun (n : Nat) => (s.sessOf clsOffload n).isSome
  (s.shedOrder (open_.filter isOff) ++ s.shedOrder (open_.filter (fun n => !isOff n))).foldl (fun t n =>
    let c := t.held 0
    let l := t.overLimit
    if c.dec ≤ l.dec ∧ c.mem ≤ l.mem then t else t.suspend n) s

/-- Shedding of one evaluation (R102, R103). -/
def State.shedding (s : State) : State :=
  let c := s.held 0
  let l := s.overLimit
  let od := decide (l.dec < c.dec)
  let oe := decide (l.enc < c.enc)
  let oc := decide (l.cmp < c.cmp)
  let om := decide (l.mem < c.mem)
  let a := s.adm
  let run := fun (b : Bool) (k : Nat) => if b then k + 1 else 0
  let step := s.shed
  let a1 : Adm := { a with
    ovDec := run od a.ovDec
    ovEnc := run oe a.ovEnc
    ovCmp := run oc a.ovCmp
    ovMem := run om a.ovMem
    after3 := run (decide (3 ≤ step) && (oe || oc)) a.after3
    after4 := run (decide (4 ≤ step) && (od || om)) a.after4 }
  let bits := (if od then 1 else 0) + (if oe then 2 else 0) + (if oc then 4 else 0) + (if om then 8 else 0)
  let s1 := { s with adm := a1 }.setRegF Reg.GLB_ADM_STATE 3 4 bits
  let due := decide (5 ≤ a1.ovDec) || decide (5 ≤ a1.ovMem) || (step != 3 && (decide (5 ≤ a1.ovEnc) || decide (5 ≤ a1.ovCmp)))
  if step < 4 ∧ due = true ∧ (a.lastChange = 0 ∨ a.lastChange + msT 20 ≤ s.now) then s1.setShed (step + 1)
  else
    let s2 := if 5 ≤ a1.after3 then { s1 with adm := { s1.adm with after3 := 0 } }.pauseProxies else s1
    if 5 ≤ a1.after4 then { s2 with adm := { s2.adm with after4 := 0 } }.suspendSome else s2

/-! ## Resumption (R101, R104, R105) -/

/-- A suspended context is offered verification: VSTATE 3; a paused session's window opens again. -/
def State.resume (s : State) (n : Nat) : State :=
  let s1 := s.setVstate n 3
  match s1.sessOf clsOffload n with
  | some x =>
    let s2 := s1.setSess { x with pausedAt := none }
    s2.setCtx n { s2.ctx n with idleAt := s.now + sT (s.cfgF (Reg.ING_TIMERS n) 18 9) }
  | none => s1

/-- The resume order: PRIO descending, then number ascending. -/
def resumeOrder (p : Nat → Nat) (l : List Nat) : List Nat := sortBy (fun a b => decide (p b < p a) || (p a == p b && decide (a ≤ b))) l

/-- Resumption of one evaluation. -/
def State.resumption (s : State) : State :=
  let sus := fun (t : State) => (t.contexts (· == 2)).filter (fun n => t.vstate n == 2)
  let s1 := (resumeOrder (fun n => s.cfgF (Reg.CTX_CFG n) 5 3) (sus s)).foldl (fun t n =>
    let x := t.ctxCharge n (t.chargedP n)
    if t.fits x && decide (x.dec ≤ (t.minD : Rat)) then t.resume n else t) s
  let none1 := (sus s1).isEmpty
  let pp := fun (t : State) => (t.openOf 1).filter t.paused
  let s2 := if !none1 then s1 else
    (resumeOrder (fun n => s.cfgF (Reg.RND_CFG n) 5 3) (pp s1)).foldl (fun t r =>
      if t.fits (t.rndCharge r (t.halved r)) then (t.setRegBit (Reg.RND_STATUS r) 5 false).setRegF (Reg.RND_STATUS r) 2 2 0 else t) s1
  let ok := fun (t : State) => (t.held t.shed).within (t.fitLimit none)
  let setFit := fun (t : State) (v : Option Nat) => { t with adm := { t.adm with fitSince := v } }
  if !none1 || !(pp s2).isEmpty || s2.shed == 0 || !ok s2 then setFit s2 none
  else match s2.adm.fitSince with
    | none => setFit s2 (some s.now)
    | some t0 =>
      if t0 + sT 10 ≤ s.now then
        let s3 := s2.setShed (s2.shed - 1)
        setFit s3 (if s3.shed != 0 && ok s3 then some s.now else none)
      else s2

/-! ## Admission (R97 to R100) -/

/-- A context reaches OPEN: the idle timer starts (R133), held frames are its first frames (R85). -/
def State.openCtx (s : State) (n vs : Nat) : State :=
  let x := s.ctx n
  let s1 := ((s.setCstate n 2).setVstate n vs).setCtx n { x with early := [], idleAt := s.now + sT (s.cfgF (Reg.ING_TIMERS n) 18 9) }
  x.early.foldl (fun t e => t.rtpIn n e.1 e.2.1 e.2.2.1 e.2.2.2) s1

/-- VSTATE of a context that starts to verify: 1 while step 4 is in force (R101, R102). -/
def State.verifying (s : State) : Nat := if 4 ≤ s.shed then 1 else 0

/-- A rendition is refused (R97, R234): FREE again, with ADMIT. -/
def State.refuseRnd (s : State) (n code : Nat) : State := ((s.bump32 Reg.GLB_ADM_REFUSED 1).freeRnd n).setRegF (Reg.RND_STATUS n) 2 2 code

/-- Decide a rendition in ADMITTING (R88, R97, R234). -/
def State.admitRnd (s : State) (n : Nat) : State :=
  if s.rstate n ≠ 1 then s else
  let type := s.rtype n
  let inset := s.cfgF (Reg.CMP_CFG n) 2 6
  let bad := type == 0 || decide (s.outW n < 512 + 2 * inset) || decide (s.outH n < 104 + 2 * inset)
    || (type != 1 && !s.cfgBit (Reg.RND_SRC_A n) 15)
  let half := type == 1 && decide (2 ≤ s.shed)
  let fit := s.fits (s.rndCharge n half)
  if bad || (type != 1 && s.cstate (s.src0 n) != 2) then s.refuseRnd n 3
  else if type != 1 && decide ((if type = 2 then 3 else 1) ≤ s.shed) then s.refuseRnd n 2
  else if type != 1 && !fit then s.refuseRnd n 1
  else
    let s1 := (((s.setRstate n 2).setRegF (Reg.RND_STATUS n) 2 2 (if fit then 0 else 1)).setRegBit (Reg.RND_STATUS n) 4 half).setRegBit
      (Reg.RND_STATUS n) 5 (!fit)
    let s2 := if fit then s1 else s1.bump32 Reg.GLB_ADM_REFUSED 1
    (s.rndSources n).foldl (State.assignRnd n) s2

/-- A rendition leaves FREE (R84, R229, R267). -/
def State.rndToAdmitting (s : State) (n : Nat) : State := (s.clearRndCounters n).setRstate n 1

/-- The PROXY renditions of a context open right after it (R88, R100). -/
def State.openProxies (s : State) (n : Nat) : State :=
  ((List.range 1024).filter (fun r => s.rtype r == 1 && s.src0 r == n && s.rstate r == 0)).foldl
    (fun t r => (t.rndToAdmitting r).admitRnd r) s

/-- Decide a live context (R97). -/
def State.admitLive (s : State) (n : Nat) : State :=
  if s.cstate n ≠ 1 then s else
  let x := s.ctxCharge n (s.declaredP n)
  let ok := s.fits x && decide (x.dec ≤ (s.minD : Rat))
  let s1 := if ok then s else s.bump32 Reg.GLB_ADM_REFUSED 1
  (s1.openCtx n (if ok then s.verifying else 2)).openProxies n

/-- G of R98 in hundredths of a credit, rounded down. -/
def State.grantFor (s : State) (asked : Nat) : Nat :=
  let free := (s.fitLimit none).dec - (s.held 0).dec
  let g := (min (free * 100) ((s.minD * 100 : Nat) : Rat)).floor.toNat
  if asked = 0 then g else min asked g

/-- r_b of R99 in bytes per second, rounded down. -/
def State.byteRate (s : State) (n g : Nat) : Nat := g * 1000000 * 250000 * s.maxMbps n / max 1 (s.maxW n * s.maxH n * s.maxFps n)

/-- Decide an offload OPEN (R97 to R99); messages held meanwhile take their effect (R85). -/
def State.admitOffload (s : State) (n partner session rate : Nat) : State :=
  match s.sess clsOffload partner session with
  | none => s
  | some x =>
    if s.cstate n ≠ 1 then s
    else if !s.fits (s.ctxCharge n (s.declaredP n)) then
      let s1 := ((s.bump32 Reg.GLB_ADM_REFUSED 1).dropSess x.cls x.partner x.id).freeCtx n
      x.early.foldl (State.earlyMsg clsOffload partner) (s1.openAck partner clsOffload session (refuseBody 1 1000))
    else
      let g := s.grantFor rate
      let s1 := (s.setCtx n { s.ctx n with grant := some g }).openCtx n s.verifying
      let y0 : KtSess := { x with awaiting := false, early := [], rate := s.byteRate n g, activity := s.now }
      let y : KtSess := { y0 with bucket := { tok := ((y0.burst * 250000000 : Nat) : Int), last := s.now } }
      let w := s1.window y
      let body := openAckBody 0 w n 0
      let zero : Option Nat := if w = 0 then some (s.now + msT 50) else none
      let z : KtSess := { y with openAck := body, edge := 1 + w, zeroAt := zero }
      let s2 := ((s1.setSess z).openAck partner clsOffload session body).openProxies n
      x.early.foldl (State.earlyMsg clsOffload partner) s2

/-- Order of requests: arrival, port, kind, and within the kind context number or SESSION (R100). -/
def reqKey (q : Nat × AdmReq) : List Nat := match q.2 with
  | .live n p => [q.1, p, 0, n]
  | .offload _ p _ session _ => [q.1, p, 1, session]
  | .rnd _ p => [q.1, p, 2, 0]

/-- Decide the pending requests in their order. -/
def State.admission (s : State) : State :=
  let qs := sortBy (fun a b => !keyLt (reqKey b) (reqKey a)) s.adm.reqs
  qs.foldl (fun t q => match q.2 with
    | .live n _ => t.admitLive n
    | .offload n _ partner session rate => t.admitOffload n partner session rate
    | .rnd n _ => t.admitRnd n) { s with adm := { s.adm with reqs := [] } }

/-! ## The evaluation (R100) -/

/-- A quantity in hundredths, or whole, rounded down. -/
def shown (k : Nat) (x : Rat) : Word := BitVec.ofNat 32 (x * k).floor.toNat

/-- Capacity, loads and charges as the registers show them after an evaluation (R90, R91, R111). -/
def State.showCharges (s : State) : State :=
  let a := s.capacity none
  let c := s.held 0
  let s1 := s.setRegs (Reg.GLB_CAP 0) [shown 100 a.dec, shown 100 a.enc, shown 100 a.cmp, shown 1 a.mem]
  let s2 := s1.setRegs (Reg.GLB_LOAD 0) [shown 100 c.dec, shown 100 c.enc, shown 100 c.cmp, shown 1 c.mem]
  let st := fun (x : Nat) => x == 2 || x == 3
  let s3 := (s.contexts st).foldl (fun t n =>
    let x := s.ctxHolds n
    t.setRegs (Reg.CTX_CHARGE_DEC n) [shown 100 x.dec, shown 1 x.mem]) s2
  (s.renditions st).foldl (fun t n =>
    let x := s.rndHolds 0 n
    t.setRegs (Reg.RND_CHARGE_ENC n) [shown 100 x.enc, shown 100 x.cmp, shown 1 x.mem]) s3

/-! ## Self-tests (R107, R470) -/

/-- Can a self-test of the agent begin: for a coding unit, the charges fit without it, or it has OOS 1? -/
def State.testFits (s : State) (agent : Nat) : Bool :=
  !(decide (0x40 ≤ agent ∧ agent < 0xA0)) || s.oos agent || (s.held 0).within (s.fitLimit (some agent))

/-- The only sequencer in service. -/
def State.lastSeq (s : State) (agent : Nat) : Bool :=
  decide (0xA0 ≤ agent ∧ agent < 0xA8) && !(List.range 8).any (fun i => agGs i != agent && (s.seq i).inService)

/-- A coding unit that a self-test ticket drains sends the record of its drain once it has no work and holds no record (R107, R404, R407). -/
def State.sendDrained (s : State) (agent : Nat) : State :=
  if ((s.unit agent).test.getD 0 != 0) && (s.unit agent).job.isNone && (s.heldRec agent).isNone && !s.frozen agent then
    s.sendRecord agent (s.seqFor 0 - 0xA0) 6 0 0xFFFFFFFF 0 0 s.now
  else s

/-- A self-test begins with the drain of its unit. -/
def State.beginTest (s : State) (num agent : Nat) : State :=
  if 0x40 ≤ agent ∧ agent < 0xA0 then
    (((s.setUnit agent { s.unit agent with test := some num }).noCap agent).showUnit agent).sendDrained agent
  else if 0xA0 ≤ agent ∧ agent < 0xA8 then (s.setSeq (agent - 0xA0) { s.seq (agent - 0xA0) with out := true }).settleEvents
  else s

/-- One waiting SELF_TEST ticket. Tickets of one agent run one after another. -/
def State.startTest (s : State) (t : Ticket) : State :=
  let a := t.param 0 1
  if s.inTest a then s
  else if s.frozen a || s.lastSeq a then s.readyTicket t.num 2 []
  else if s.testFits a then (s.mapTicket t.num (fun x => { x with running := true })).beginTest t.num a
  else s

/-- The waiting SELF_TEST tickets, in ticket order. -/
def State.startTests (s : State) : State :=
  (s.mgmt.tickets.filter (fun t => t.kind == 1 && !t.ready && !t.running)).foldl State.startTest s

/-- ADMISSION_EVALUATION: once per millisecond (R85, R88, R97 to R106). EV083 is the tick. -/
def execAdmissionEvaluation (s : State) : Host.Outcome State Fault Refusal :=
  if s.now < (s.adm.lastEval.getD 0) + msT 1 ∨ s.power.failing = true then .next s else
  let s1 := s.raiseEv 83
  let s2 := (s1.shedding.resumption.admission).showCharges.startTests
  .next { s2 with adm := { s2.adm with lastEval := some s.now, limitPct := s.cfgF Reg.GLB_ADM_CFG 8 7 } }

/-! ## Capabilities (R92, R461) -/

/-- floor(f × w × (100 − RED) / 100). -/
def State.published (s : State) (f w : Nat) : Nat := min 65535 (f * w * (100 - s.regF Reg.CAL_RED 0 5) / 100)

/-- Is the unit in service: not frozen, drained for self-test, or out of service (R92, R466)? -/
def State.inService (s : State) (agent : Nat) : Bool := !s.frozen agent && !s.oos agent && (s.unit agent).test.isNone && !(s.unit agent).oos && !(s.unit agent).failed

/-- Publish a unit's capability; 0 while it is not in service. `f` in MHz of its pixel ring, `e` of a decode core's entropy ring. -/
def State.publish (s : State) (agent f e : Nat) : State :=
  if !s.inService agent then s.noCap agent
  else if agent < 0x80 then s.setReg (Reg.DEC_CAP (agent - 0x40)) (BitVec.ofNat 32 (s.published f 2 + s.published e 1 * 65536))
  else if agent < 0x98 then
    let n := s.published f 2
    s.setReg (Reg.ENC_CAP (agent - 0x80)) (BitVec.ofNat 32 (n + min 65535 (n * 16 / 13) * 65536))
  else s.setReg (Reg.CU_CAP (agent - 0x98)) (BitVec.ofNat 32 (s.published f 4))

/-- CAPABILITY_PUBLISH: the end of a 100 µs pace-ring window of coding unit k, 0 to 95 (R92, R160, R213, R268, R461). `f` and `e` are the
counted ring frequencies in MHz. -/
def execCapabilityPublish (k : Fin 96) (f e : Nat) (s : State) : Host.Outcome State Fault Refusal := .next (s.publish (0x40 + k) f e)

/-! ## Renditions (R88, R91) -/

/-- RND_CTRL.OPEN: only a FREE rendition that is no PROXY. `port` 0 to 3 bore the write, or 4 for microcode. In maintenance mode and in safe
state no evaluation admits it. -/
def State.rndOpen (s : State) (n port : Nat) : State :=
  if s.rstate n ≠ 0 ∨ s.rtype n = 1 ∨ s.power.safe = true then s else
  let s1 := s.rndToAdmitting n
  { s1 with adm := { s1.adm with reqs := s1.adm.reqs ++ [(s.now, .rnd n port)] } }

/-- RND_OPEN (R84, R88, R91, R97, R234). -/
def execRndOpen (n : Fin 1024) (port : Fin 5) (s : State) : Host.Outcome State Fault Refusal := .next (s.rndOpen n port)

/-- RND_CLOSE: ignored unless OPEN (R88, R91). -/
def execRndClose (n : Fin 1024) (s : State) : Host.Outcome State Fault Refusal := .next (s.rndLeaveOpen n)

end Sys2Proof.Machine
end

