-- ==== Sys2Proof/Machine/Dma.lean ====
section
/-!
DEFINITION. The DMA channels (R372 to R386) and the felt manager's commands (R366 to R370).
-/
namespace Sys2Proof.Machine

/-! ## Addresses (R372) -/

/-- Addresses are 40 bits and wrap (R373). -/
def wrap40 (a : Int) : Nat := (a % (2 ^ 40 : Nat)).toNat

/-- Packet memory. -/
def isPm (a : Nat) : Bool := decide (pmBase ≤ a ∧ a < pmBase + 2 ^ 24)

/-- SRAM of a decode or an encode core. -/
def isSram (a : Nat) : Bool :=
  decide (0x8010000000 ≤ a ∧ a < 0x8010000000 + 64 * 0x40000) || decide (0x8020000000 ≤ a ∧ a < 0x8020000000 + 24 * 0x100000)

/-- The hash engine whose input FIFO window holds the address. -/
def heOf (a : Nat) : Option Nat :=
  if 0x8030000000 ≤ a ∧ a < 0x8030000000 + 4 * 0x10000 then some ((a - 0x8030000000) / 0x10000) else none

/-- May the address be read, or written? -/
def State.addrOk (s : State) (write : Bool) (a : Nat) : Bool :=
  if isDram a then s.memPresent a else isPm a || isSram a || (write && (heOf a).isSome)

/-- Read `n` bytes that lie on one line; none is poison. -/
def State.busRead (s : State) (agent a n : Nat) (errs : List (Nat × List SymErr)) : Option Bytes × State :=
  if isDram a then s.memRead agent a n ((errs.find? (fun q => q.1 == a / 128)).elim [] (·.2))
  else if (List.range n).any (fun i => tget (fun _ => false) s.mem.badBytes (a + i)) then (none, s)
  else (some (s.getMem a n), s)

/-- The byte enables of `n` bytes from an offset of a line. -/
def maskFrom (off n : Nat) : BitVec 128 := BitVec.ofNat 128 ((2 ^ n - 1) * 2 ^ off)

/-- Write bytes that lie on one line; none is a poisoned byte. -/
def State.busWrite (s : State) (agent a : Nat) (d : List (Option Byte)) (errs : List (Nat × List SymErr)) : State :=
  let bytes := d.map (·.getD 0#8)
  if isDram a then
    let off := a % 128
    (s.memWrite agent a (maskFrom off d.length) (zeros off ++ bytes) (d.any Option.isNone)
      ((errs.find? (fun q => q.1 == a / 128)).elim [] (·.2))).2
  else match heOf a with
    | some h => { s with mem := { s.mem with heFifo := tput (fun _ => []) s.mem.heFifo h (tget (fun _ => []) s.mem.heFifo h ++ d) } }
    | none =>
      let bad := (List.range d.length).foldl (fun t i => tput (fun _ => false) t (a + i) (d.getD i none).isNone) s.mem.badBytes
      { s with mem := { s.mem with cells := putBytes s.mem.cells a bytes, badBytes := bad } }

/-! ## Register sets (R373, R376, R379) -/

/-- A transfer as a register set gives it: addresses, counts, steps. -/
structure Xfer where
  src : Nat
  dst : Nat
  x : Nat
  y : Nat
  z : Nat
  sx : Int
  sy : Int
  sz : Int
  dx : Int
  dy : Int
  dz : Int
  deriving DecidableEq, Repr

/-- The transfer in the registers from an address on. -/
def State.xferAt (s : State) (a : Nat) : Xfer :=
  let st := fun k => signedOf 32 (s.reg (a + 0x18 + 4 * k)).toNat
  { src := (s.reg a).toNat + s.regF (a + 4) 0 8 * 2 ^ 32
    dst := (s.reg (a + 8)).toNat + s.regF (a + 12) 0 8 * 2 ^ 32
    x := s.regF (a + 0x10) 0 16 + 1
    y := s.regF (a + 0x10) 16 16 + 1
    z := s.regF (a + 0x14) 0 16 + 1
    sx := st 0, sy := st 1, sz := st 2, dx := st 3, dy := st 4, dz := st 5 }

/-- Lowest and highest offset of a pattern. -/
def patSpan (x y z : Nat) (sx sy sz : Int) : Int × Int :=
  let e := fun (n : Nat) (st : Int) => ((n : Int) - 1) * st
  (min 0 (e x sx) + min 0 (e y sy) + min 0 (e z sz), max 0 (e x sx) + max 0 (e y sy) + max 0 (e z sz))

/-- Do the address ranges of source and destination intersect (R376)? -/
def Xfer.overlaps (t : Xfer) : Bool :=
  let a := patSpan t.x t.y t.z t.sx t.sy t.sz
  let b := patSpan t.x t.y t.z t.dx t.dy t.dz
  decide ((t.src : Int) + a.1 ≤ t.dst + b.2 ∧ (t.dst : Int) + b.1 ≤ t.src + a.2)

/-- Does rule 3 of R376 run the row descending? -/
def Xfer.descends (t : Xfer) : Bool :=
  t.overlaps && t.y == 1 && t.z == 1 && t.sx == 1 && t.dx == 1 && decide (t.src < t.dst ∧ t.dst < t.src + t.x)

/-- The transfer in the order in which it runs: rule 3 starts at the last byte with X steps −1. -/
def Xfer.run (t : Xfer) : Xfer :=
  if t.descends then { t with src := t.src + (t.x - 1), dst := t.dst + (t.x - 1), sx := -1, dx := -1 } else t

/-- Source and destination address of byte i in loop order. -/
def Xfer.at (t : Xfer) (i : Nat) : Nat × Nat :=
  let x : Int := ((i % t.x : Nat) : Int)
  let y : Int := ((i / t.x % t.y : Nat) : Int)
  let z : Int := ((i / t.x / t.y : Nat) : Int)
  (wrap40 ((t.src : Int) + x * t.sx + y * t.sy + z * t.sz), wrap40 ((t.dst : Int) + x * t.dx + y * t.dy + z * t.dz))

/-- Bytes of the burst that starts at byte i (R374). -/
def Xfer.burst (t : Xfer) (i : Nat) : Nat :=
  let row := t.x - i % t.x
  let d := (t.at i).2
  if t.sx = 1 ∧ t.dx = 1 then min (min row 256) (256 - d % 256)
  else if t.sx = -1 ∧ t.dx = -1 then min (min row 256) (d % 256 + 1)
  else min row 256

/-- Are the bytes of a burst separate accesses? -/
def Xfer.single (t : Xfer) : Bool := !((t.sx == 1 && t.dx == 1) || (t.sx == -1 && t.dx == -1))

/-- DMA_STATUS follows the channel (R386). -/
def State.showDma (s : State) (n : Nat) : State :=
  let c := s.dmaCh n
  let st := if s.frozen (agDma n) then 5 else if c.stopped then 4 else match c.prog with
    | some p => if p.waitFrom.isSome then 3 else 2
    | none => if c.active then 1 else 0
  let x := s.xferAt (Reg.DMA_ACT_SRC_LO n)
  let s1 := (s.setRegF (Reg.DMA_STATUS n) 0 3 st).setRegBit (Reg.DMA_STATUS n) 3 c.shadow
  let s2 := (s1.setRegBit (Reg.DMA_STATUS n) 4 (c.active && x.descends)).setRegBit (Reg.DMA_STATUS n) 5 (c.active && x.overlaps)
  match c.prog with
  | some p => s2.setPair (Reg.DMA_PC n 0) p.pc
  | none => s2

/-- An armed shadow set loads into an idle active set; not in the error state, nor frozen (R379, R382, R383). -/
def State.loadShadow (s : State) (n : Nat) : State :=
  let c := s.dmaCh n
  if !c.shadow || c.active || c.stopped || s.frozen (agDma n) then s.showDma n else
  let ws := (List.range 16).map (fun k => s.reg (Reg.DMA_SRC_LO n + 4 * k))
  ((s.setRegs (Reg.DMA_ACT_SRC_LO n) ws).setDmaCh n { c with active := true, moved := 0, shadow := false }).showDma n

/-- The channel stops with STATE 4 (R382). -/
def State.dmaError (s : State) (n kind : Nat) (addr : Option Nat) : State :=
  let c := s.dmaCh n
  let prog : Option DmaProg := c.prog.map (fun p => { p with waitFrom := none })
  let s1 := s.setDmaCh n { c with active := false, stopped := true, prog := prog }
  let s2 := ((s1.setRegF (Reg.DMA_STATUS n) 8 3 kind).setRegBit (Reg.DMA_STATUS n) 18 true).bump (Reg.DMA_ERRORS n)
  let s3 := match addr with
    | some a => s2.setPair (Reg.DMA_ERR_ADDR n 0) a
    | none => s2
  (s3.showDma n).raiseFault { src := 157, agent := agDma n, d0 := n, d1 := kind }

/-! ## Transfers -/

/-- Consecutive bytes of a burst that one access covers: those of one line, or single bytes. Pairs are (index in the burst, address). -/
def groupAcc (single : Bool) : List (Nat × Nat) → List (List (Nat × Nat))
  | [] => []
  | q :: l => match groupAcc single l with
    | (r :: g) :: gs => if !single && q.2 / 128 == r.2 / 128 && ((heOf q.2).isNone) then (q :: r :: g) :: gs else [q] :: (r :: g) :: gs
    | gs => [q] :: gs

/-- Read the accesses of a burst: (index, byte) pairs, with the first poisoned address. -/
def State.burstRead (errs : List (Nat × List SymErr)) (agent : Nat) :
    List (List (Nat × Nat)) → State → List (Nat × Option Byte) × Option Nat × State
  | [], s => ([], none, s)
  | g :: gs, s =>
    let lo := (minNat? (g.map (·.2))).getD 0
    let hi := (g.map (·.2)).foldl max 0
    let r := s.busRead agent lo (hi + 1 - lo) errs
    let here := g.map (fun q => (q.1, r.1.bind (fun d => d[q.2 - lo]?)))
    let t := State.burstRead errs agent gs r.2
    (here ++ t.1, if r.1.isNone then some lo else t.2.1, t.2.2)

/-- Write the accesses of a burst. -/
def State.burstWrite (errs : List (Nat × List SymErr)) (agent : Nat) (bytes : List (Nat × Option Byte)) :
    List (List (Nat × Nat)) → State → State
  | [], s => s
  | g :: gs, s =>
    let lo := (minNat? (g.map (·.2))).getD 0
    let sorted := sortBy (fun (a b : Nat × Nat) => decide (a.2 ≤ b.2)) g
    let d := sorted.map (fun q => ((bytes.find? (fun b => b.1 == q.1)).bind (·.2)))
    State.burstWrite errs agent bytes gs (s.busWrite agent lo d errs)

/-- A transfer completes (R379, R381). -/
def State.dmaComplete (s : State) (n : Nat) : State :=
  let irq := s.regBit (Reg.DMA_ACT_CNT_Z n) 16
  let s1 := (s.setDmaCh n { s.dmaCh n with active := false, moved := 0 }).bump (Reg.DMA_XFERS n)
  let s2 := s1.setRegBit (Reg.DMA_STATUS n) 16 true
  (if irq then s2.raiseEv n else s2).loadShadow n

/-- One burst (R373 to R376, R382). -/
def State.dmaBurst (s : State) (n : Nat) (errs : List (Nat × List SymErr)) : State :=
  let c := s.dmaCh n
  let t := (s.xferAt (Reg.DMA_ACT_SRC_LO n)).run
  let len := t.burst c.moved
  let ix := List.range len
  let srcs := ix.map (fun k => (k, (t.at (c.moved + k)).1))
  let dsts := ix.map (fun k => (k, (t.at (c.moved + k)).2))
  match (srcs.find? (fun q => !s.addrOk false q.2)).orElse (fun _ => dsts.find? (fun q => !s.addrOk true q.2)) with
  | some q => s.dmaError n 1 (some q.2)
  | none =>
    let r := State.burstRead errs n (groupAcc t.single srcs) s
    let s1 := State.burstWrite errs n r.1 (groupAcc t.single dsts) r.2.2
    let s2 := (s1.bumpN (Reg.DMA_BYTES n) len).bump (Reg.DMA_BURSTS n)
    let done := c.moved + len
    match r.2.1 with
    | some a => s2.dmaError n 2 (some a)
    | none =>
      let s3 := s2.setDmaCh n { s2.dmaCh n with moved := done }
      if t.x * t.y * t.z ≤ done then s3.dmaComplete n else s3

/-- Is a request line asserted (R377)? The lines of sequencers are register bits; those of units are sampled. -/
def State.lineUp (s : State) (line : Nat) (sampled : Bool) : Bool :=
  if 116 ≤ line then false else if 108 ≤ line then s.regBit Reg.DMA_SWREQ (line - 108) else sampled

/-- DMA_BURST; `line`: the state of a unit's request line at the sample, `errs`: symbol errors of the lines that it reads (R377, R378). -/
def execDmaBurst (n : Fin 64) (line : Bool) (errs : List (Nat × List SymErr)) (s : State) : Host.Outcome State Fault Refusal :=
  let c := s.dmaCh n
  if !c.active || c.stopped || s.frozen (agDma n) then .next s else
  if s.regBit (Reg.DMA_ACT_CNT_Z n) 17 && !s.lineUp (s.regF (Reg.DMA_ACT_CNT_Z n) 18 7) line then .next s
  else .next (s.dmaBurst n errs)

/-! ## Control (R379, R380, R384) -/

/-- DMA_CTRL.ARM by a sequencer. After t = 0 of a power-fail sequence the channels stay stopped (R300). -/
def State.dmaArm (s : State) (n seq : Nat) : State := if s.power.failing then s else (s.setDmaCh n { s.dmaCh n with shadow := true, armedBy := seq }).loadShadow n

/-- DMA_CTRL.ABORT; in STATE 4 and 5 it has nothing to stop. -/
def State.dmaAbort (s : State) (n : Nat) : State :=
  let c := s.dmaCh n
  if c.stopped || s.frozen (agDma n) then s else
  ((s.setDmaCh n { c with active := false, moved := 0, shadow := false, prog := none }).setRegBit (Reg.DMA_STATUS n) 17 true).showDma n

/-- DMA_CTRL.CLEAR: only in the error state. -/
def State.dmaClear (s : State) (n : Nat) : State :=
  let c := s.dmaCh n
  if !c.stopped || s.frozen (agDma n) then s else
  let x : DmaCh := { c with active := false, moved := 0, shadow := false, prog := none, stopped := false }
  ((s.setDmaCh n x).setRegF (Reg.DMA_STATUS n) 8 3 0).showDma n

/-- Fetch the instruction at an address: DRAM or packet memory (R384). -/
def State.dmaFetch (s : State) (n a : Nat) : DmaWord × State :=
  if !(isPm a || (isDram a && s.memPresent a)) then (.err 1, s) else
  let r := s.busRead n a 8 []
  match r.1 with
  | some d => (.word (leNat d), r.2)
  | none => (.err 2, r.2)

/-- Fetch until five instructions are held: the one that executes and four ahead (R385). -/
def State.dmaFetchFuel (n : Nat) : Nat → DmaProg → State → DmaProg × State
  | 0, p, s => (p, s)
  | fuel + 1, p, s =>
    if 5 ≤ p.fetched.length then (p, s) else
    let r := s.dmaFetch n (wrap40 (p.pc + 8 * p.fetched.length))
    State.dmaFetchFuel n fuel { p with fetched := p.fetched ++ [r.1] } r.2

/-- The program goes on at an address, keeping the copies that it has fetched when it goes on to the next instruction. -/
def State.dmaGoTo (s : State) (n : Nat) (p : DmaProg) : State :=
  let r := State.dmaFetchFuel n 5 p s
  (r.2.setDmaCh n { r.2.dmaCh n with prog := some r.1 }).showDma n

/-- The next instruction. -/
def DmaProg.next (p : DmaProg) : DmaProg := { p with pc := wrap40 (p.pc + 8), fetched := p.fetched.drop 1, waitFrom := none }

/-- A jump. -/
def DmaProg.jump (p : DmaProg) (a : Nat) : DmaProg := { p with pc := a, fetched := [], waitFrom := none }

/-- DMA_CTRL.PROG_START: ignored unless STATE is 0, and after t = 0 of a power-fail sequence (R300). -/
def State.dmaProgStart (s : State) (n : Nat) : State :=
  let c := s.dmaCh n
  if c.stopped || c.active || c.prog.isSome || s.frozen (agDma n) || s.power.failing then s else
  s.dmaGoTo n { pc := (s.reg (Reg.DMA_PROG_LO n)).toNat / 8 * 8 + s.regF (Reg.DMA_PROG_HI n) 0 8 * 2 ^ 32 }

/-- DMA_ARM, by the sequencer that writes DMA_CTRL.ARM (R379). -/
def execDmaArm (n : Fin 64) (seq : Fin 8) (s : State) : Host.Outcome State Fault Refusal := .next (s.dmaArm n seq)

/-- DMA_ABORT (R380). -/
def execDmaAbort (n : Fin 64) (s : State) : Host.Outcome State Fault Refusal := .next (s.dmaAbort n)

/-- DMA_CLEAR (R380). -/
def execDmaClear (n : Fin 64) (s : State) : Host.Outcome State Fault Refusal := .next (s.dmaClear n)

/-- DMA_PROG_START (R384). -/
def execDmaProgStart (n : Fin 64) (s : State) : Host.Outcome State Fault Refusal := .next (s.dmaProgStart n)

/-- DMA_GO_SET: a write of 0 to DMA_GO sets the flag (R384). -/
def execDmaGoSet (n : Fin 64) (s : State) : Host.Outcome State Fault Refusal := .next (s.setRegBit (Reg.DMA_GO n) 0 true)

/-- DMA_SWREQ_WRITE: the eight sequencer lines (R377). -/
def execDmaSwreqWrite (v : BitVec 8) (s : State) : Host.Outcome State Fault Refusal := .next (s.setRegF Reg.DMA_SWREQ 0 8 v.toNat)

/-! ## Program mode (R384, R385) -/

/-- Is the instruction well formed: its opcode, and 0 in every reserved bit? -/
def dmaWordOk (w : Nat) : Bool :=
  match w / 2 ^ 60 with
  | 1 => w / 2 ^ 40 % 2 ^ 20 == 0 && w % 64 == 0
  | 2 => w / 2 ^ 57 % 8 == 0 && w / 2 ^ 48 % 256 == 0
  | 3 => w / 2 ^ 36 % 2 ^ 24 == 0 && w / 2 ^ 7 % 512 == 0 && decide (w / 2 ^ 32 % 16 ≤ 2) && w / 2 ^ 16 % 2 ^ 16 != 0 && decide (w % 128 < 116)
  | 4 => w / 2 ^ 17 % 2 ^ 43 == 0
  | 5 => w % 2 ^ 60 == 0
  | 6 => w % 2 ^ 60 == 0
  | _ => false

/-- What a command for one of the six instructions finds on a channel. -/
inductive DmaInstr
  /-- the channel runs no program, or another instruction -/
  | idle
  /-- the fetched copy is an error or a bad instruction -/
  | err (kind : Nat)
  /-- the instruction -/
  | run (p : DmaProg) (w : Nat)
  deriving DecidableEq, Repr

/-- The instruction that a channel executes, where its opcode is `op`. -/
def State.dmaInstr (s : State) (n op : Nat) : DmaInstr :=
  let c := s.dmaCh n
  if c.stopped || s.frozen (agDma n) then .idle else
  match c.prog with
  | none => .idle
  | some p => match p.fetched with
    | [] => .idle
    | .err k :: _ => .err k
    | .word w :: _ => if !dmaWordOk w then .err 3 else if w / 2 ^ 60 = op then .run p w else .idle

/-- The instruction waits. -/
def State.dmaWait (s : State) (n : Nat) (p : DmaProg) : State :=
  let q : DmaProg := { p with waitFrom := some (p.waitFrom.getD s.now) }
  (s.setDmaCh n { s.dmaCh n with prog := some q }).showDma n

/-- Both register sets are idle. -/
def State.dmaIdle (s : State) (n : Nat) : Bool := !(s.dmaCh n).active && !(s.dmaCh n).shadow

/-- An error of the instruction at the program's address, once every transfer armed before it has moved; a bad instruction records no
address (R382). -/
def State.dmaInstrErr (s : State) (n kind : Nat) : State :=
  if s.dmaIdle n then s.dmaError n kind (if kind = 1 ∨ kind = 2 then (s.dmaCh n).prog.map (·.pc) else none)
  else match (s.dmaCh n).prog with
    | some p => s.dmaWait n { p with fetched := .err kind :: p.fetched.drop 1 }
    | none => s

/-- A descriptor's words in the shadow set: reserved bits read 0, REQ_EN is clamped (R384, R386). -/
def descWords (d : Bytes) : List Word × Bool :=
  let ws := (chunks 4 d).map (fun c => BitVec.ofNat 32 (leNat c))
  let z := ws.getD 5 0#32
  let bad := z.getLsbD 17 && decide (116 ≤ fld z 18 7)
  let z1 := (setFld z 25 7 0)
  let z2 := if bad then setFld z1 17 1 0 else z1
  let fix := fun (k : Nat) (w : Word) => if k = 1 ∨ k = 3 then w &&& 0xFF#32 else if k = 5 then z2 else if 12 ≤ k then 0#32 else w
  ((List.range 16).map (fun k => fix k (ws.getD k 0#32)), bad)

/-- MOVE: once SHADOW_VALID is 0, the descriptor is read and armed. -/
def execMove (n : Fin 64) (s : State) : Host.Outcome State Fault Refusal :=
  match s.dmaInstr n 1 with
  | .idle => .next s
  | .err k => .next (s.dmaInstrErr n k)
  | .run p w =>
    if (s.dmaCh n).shadow then .next (s.dmaWait n p) else
    let a := w % 2 ^ 40
    if !(s.addrOk false a) then .next (s.dmaError n 1 (some a)) else
    let r := s.busRead n a 64 []
    match r.1 with
    | none => .next (r.2.dmaError n 2 (some a))
    | some d =>
      let q := descWords d
      let s1 := (r.2.setRegs (Reg.DMA_SRC_LO n) q.1).setRegBit (Reg.DMA_STATUS n) 6 q.2
      .next ((s1.dmaArm n (s1.dmaCh n).armedBy).dmaGoTo n p.next)

/-- LOOP: counter 0 in `loops` is an inactive one. -/
def execLoop (n : Fin 64) (s : State) : Host.Outcome State Fault Refusal :=
  match s.dmaInstr n 2 with
  | .idle => .next s
  | .err k => .next (s.dmaInstrErr n k)
  | .run p w =>
    let l := w / 2 ^ 56 % 2
    let held := tget (fun _ => 0) p.loops l
    let c := (if held = 0 then w / 2 ^ 32 % 2 ^ 16 + 1 else held) - 1
    let q : DmaProg := { p with loops := tput (fun _ => 0) p.loops l c }
    if 0 < c then .next (s.dmaGoTo n (q.jump (wrap40 ((p.pc : Int) + 8 * signedOf 32 w)))) else .next (s.dmaGoTo n q.next)

/-- Does the condition of a WAIT hold? -/
def State.waitHolds (s : State) (n w : Nat) (line : Bool) : Bool :=
  match w / 2 ^ 32 % 16 with
  | 0 => s.dmaIdle n
  | 1 => s.lineUp (w % 128) line
  | _ => s.regBit (Reg.DMA_GO n) 0

/-- WAIT; `line`: the state of a unit's request line now. DMA_GO is cleared on use. -/
def execWait (n : Fin 64) (line : Bool) (s : State) : Host.Outcome State Fault Refusal :=
  match s.dmaInstr n 3 with
  | .idle => .next s
  | .err k => .next (s.dmaInstrErr n k)
  | .run p w =>
    if s.waitHolds n w line then
      let s1 := if w / 2 ^ 32 % 16 = 2 then s.setRegBit (Reg.DMA_GO n) 0 false else s
      .next (s1.dmaGoTo n p.next)
    else .next (s.dmaWait n p)

/-- WAIT_TIMEOUT: the condition has not held within the timeout (R382 kind 4). A WAIT for idle stops the channel as it stands. -/
def execWaitTimeout (n : Fin 64) (s : State) : Host.Outcome State Fault Refusal :=
  match s.dmaInstr n 3 with
  | .run p w => match p.waitFrom with
    | some t0 =>
      if t0 + usT (100 * (w / 2 ^ 16 % 2 ^ 16)) ≤ s.now ∧ s.waitHolds n w false = false then
        .next (if w / 2 ^ 32 % 16 = 0 then s.dmaError n 4 none else s.dmaInstrErr n 4) else .next s
    | none => .next s
  | _ => .next s

/-- SIGNAL. -/
def execSignal (n : Fin 64) (s : State) : Host.Outcome State Fault Refusal :=
  match s.dmaInstr n 4 with
  | .idle => .next s
  | .err k => .next (s.dmaInstrErr n k)
  | .run p w =>
    if w / 2 ^ 16 % 2 = 1 ∧ s.dmaIdle n = false then .next (s.dmaWait n p)
    else .next (((s.setReg (Reg.DMA_SIGNAL n) (BitVec.ofNat 32 (w % 2 ^ 16))).raiseEv n).dmaGoTo n p.next)

/-- END. -/
def execEnd (n : Fin 64) (s : State) : Host.Outcome State Fault Refusal :=
  match s.dmaInstr n 5 with
  | .idle => .next s
  | .err k => .next (s.dmaInstrErr n k)
  | .run p _ =>
    if s.dmaIdle n then
      .next ((((s.setDmaCh n { s.dmaCh n with prog := none }).setRegBit (Reg.DMA_STATUS n) 16 true).raiseEv n).showDma n)
    else .next (s.dmaWait n p)

/-- NOP. -/
def execNop (n : Fin 64) (s : State) : Host.Outcome State Fault Refusal :=
  match s.dmaInstr n 6 with
  | .idle => .next s
  | .err k => .next (s.dmaInstrErr n k)
  | .run p _ => .next (s.dmaGoTo n p.next)

/-! ## Felt manager (R366 to R370) -/

/-- A FREE or GIVE with the faults of a refused one (R369, R370). -/
def State.feltOp (s : State) (agent h : Nat) (give : Option Nat) : Bool × State :=
  match s.freeOrGive agent h give with
  | (.done, s1) => (true, s1)
  | (.bad kind _, s1) =>
    (false, s1.raiseFault { src := if kind = 1 then 155 else 156, agent := agent, d0 := h, d1 := (s1.reg Reg.FP_LAST_INFO).toNat })

end Sys2Proof.Machine
end

