-- ==== Sys2Proof/Machine/Sequencer.lean ====
section
/-!
DEFINITION. The Gulsar sequencers (R387 to R402): microwords, the ALU, external operations and events.
Register access by XOP is in RegWrite.lean.
-/
namespace Sys2Proof.Machine

/-! ## Microwords (R389) -/

/-- Bits [lo + w − 1 : lo] of a microword. -/
def uf (u : BitVec 128) (lo w : Nat) : Nat := u.toNat / 2 ^ lo % 2 ^ w

/-- The fields of a microword. -/
structure MicroWord where
  next : Nat
  disp : Bool
  cc : Nat
  cond : Nat
  cpol : Bool
  alt : Nat
  ra : Nat
  rb : Nat
  rd : Nat
  we : Bool
  alu : Nat
  xop : Nat
  immB : Bool
  /-- IMM as it stands, and sign-extended to 64 bits -/
  imm : Nat
  immX : DWord
  deriving DecidableEq, Repr

/-- Read the fields (R389). -/
def microWord (u : BitVec 128) : MicroWord :=
  { next := uf u 0 14, disp := u.getLsbD 14, cc := uf u 15 3, cond := uf u 18 5, cpol := u.getLsbD 23, alt := uf u 24 14, ra := uf u 38 5
    rb := uf u 43 5, rd := uf u 48 5, we := u.getLsbD 53, alu := uf u 54 5, xop := uf u 59 4, immB := u.getLsbD 63, imm := uf u 64 32
    immX := (BitVec.ofNat 32 (uf u 64 32)).signExtend 64 }

/-- The microword at a sequencer's address; words beyond LENGTH hold 0 (R395). -/
def State.uword (s : State) (i : Nat) : MicroWord := microWord (tget (fun _ => 0#128) s.ctl.store.words (s.seq i).pc)

/-- Is the sequencer in its fast bank? -/
def SeqSt.inFast (q : SeqSt) : Bool := q.state == .fast

/-- A register of the bank in use; r0 reads 0 (R390). -/
def SeqSt.r (q : SeqSt) (k : Nat) : DWord := if k = 0 then 0#64 else tget (fun _ => 0#64) (if q.inFast then q.bankF else q.bankN) k

/-- Write a register of the bank in use; writes to r0 are ignored. -/
def SeqSt.w (q : SeqSt) (k : Nat) (v : DWord) : SeqSt :=
  if k = 0 then q
  else if q.inFast then { q with bankF := tput (fun _ => 0#64) q.bankF k v }
  else { q with bankN := tput (fun _ => 0#64) q.bankN k v }

/-- Operand B (R389). -/
def SeqSt.opB (q : SeqSt) (m : MicroWord) : DWord := if m.immB then m.immX else q.r m.rb

/-- An agent or register address: RA + IMM (R393). -/
def SeqSt.addr (q : SeqSt) (m : MicroWord) : Nat := (q.r m.ra + m.immX).toNat

/-! ## The ALU (R392) -/

/-- A result with its flags; none where the manual does not state the value. -/
structure AluOut where
  val : Option DWord
  carry : Option Bool := none
  ovf : Option Bool := none
  deriving DecidableEq, Repr

/-- Number of ones. -/
def popc (a : DWord) : Nat := sumNat ((List.range 64).map (fun i => if a.getLsbD i then 1 else 0))

/-- Leading zeros. -/
def clz (a : DWord) : Nat := ((List.range 64).find? (fun i => a.getLsbD (63 - i))).getD 64

/-- The result of an operation on A and B. A shift by 64 or more, the operand layout of BFX, BFI and DIVSTEP, the signedness of the
multiplications where it matters, and flags other than those of an addition or the overflow of a subtraction are not stated. -/
def alu (op : Nat) (a b : DWord) : AluOut :=
  let sh := fun (v : DWord) => if b.toNat < 64 then some v else none
  match op with
  | 0x01 => { val := some a }
  | 0x02 => { val := some (a + b), carry := some (decide (2 ^ 64 ≤ a.toNat + b.toNat)),
              ovf := some (decide ((a + b).toInt ≠ a.toInt + b.toInt)) }
  | 0x03 => { val := some (a - b), ovf := some (decide ((a - b).toInt ≠ a.toInt - b.toInt)) }
  | 0x04 => { val := some (a &&& b) }
  | 0x05 => { val := some (a ||| b) }
  | 0x06 => { val := some (a ^^^ b) }
  | 0x07 => { val := some (~~~a) }
  | 0x08 => { val := some (a - b), ovf := some (decide ((a - b).toInt ≠ a.toInt - b.toInt)) }
  | 0x09 => { val := sh (a <<< b.toNat) }
  | 0x0A => { val := sh (a >>> b.toNat) }
  | 0x0B => { val := sh (a.sshiftRight b.toNat) }
  | 0x0C => { val := some (a.rotateLeft (b.toNat % 64)) }
  | 0x0D => { val := some (if a.toInt ≤ b.toInt then a else b) }
  | 0x0E => { val := some (if a.toInt ≤ b.toInt then b else a) }
  | 0x11 => { val := some (BitVec.ofNat 64 (popc a)) }
  | 0x12 => { val := some (BitVec.ofNat 64 (clz a)) }
  | 0x14 =>
    let u := BitVec.ofNat 64 (a.toNat % 2 ^ 32 * (b.toNat % 2 ^ 32))
    let i := BitVec.ofInt 64 (signedOf 32 a.toNat * signedOf 32 b.toNat)
    { val := if u = i then some u else none }
  | 0x15 => { val := some (a * b) }
  | 0x16 =>
    let u := BitVec.ofNat 64 (a.toNat * b.toNat / 2 ^ 64)
    let i := BitVec.ofInt 64 (a.toInt * b.toInt / (2 ^ 64 : Nat))
    { val := if u = i then some u else none }
  | _ => { val := none }

/-! ## Next address (R391) -/

/-- The condition of a microword. -/
def State.useqCond (s : State) (i : Nat) (c : Nat) : Bool :=
  let q := s.seq i
  match c with
  | 1 => q.zf
  | 2 => q.nf
  | 3 => q.cf
  | 4 => q.vf
  | 5 => q.err
  | 6 => !q.queue.isEmpty
  | 7 => s.ctl.events.any (fun e => e.offered == some i)
  | _ => false

/-- The address that runs next. -/
def State.nextAddr (s : State) (i : Nat) (m : MicroWord) : Nat :=
  if m.disp then tget (fun _ => 0) s.ctl.store.disp (s.seq i).opcode
  else if xor (s.useqCond i m.cond) m.cpol then m.alt else m.next

/-- The step of a microword ends: the sequencer goes on at the next address. -/
def State.advance (s : State) (i : Nat) (m : MicroWord) : State :=
  let a := s.nextAddr i m
  s.setSeq i { s.seq i with pc := a }

/-- An XOP completes with its error flag. -/
def State.xopDone (s : State) (i : Nat) (m : MicroWord) (err : Bool) : State := (s.setSeq i { s.seq i with err := err }).advance i m

/-! ## Events at a sequencer (R397 to R401) -/

/-- The order in which a sequencer takes events: fast first, then higher PRIO, then the lower number (R399). -/
def State.firstEvent (s : State) (es : List PendEv) : Option PendEv :=
  argMin? (fun e => (if s.evFast e.ev then 0 else 1) * 2 ^ 16 + (15 - s.evPrio e.ev) * 2 ^ 10 + e.ev) es

/-- The fast event that a sequencer accepts at its next microword boundary. -/
def State.fastDue (s : State) (i : Nat) : Option PendEv :=
  let q := s.seq i
  if (q.state == .running || q.state == .idle) then
    s.firstEvent (s.ctl.events.filter (fun e => e.offered == some i && s.evFast e.ev && decide (q.cp < s.evPrio e.ev)))
  else none

/-- An event leaves the pending ones. -/
def State.takeEvent (s : State) (ev : Nat) : State :=
  ({ s with ctl := { s.ctl with events := s.ctl.events.filter (fun e => e.ev != ev) } }).bump Reg.INT_DELIVERED

/-- Acceptance of a normal event at the microword `m` (R393, R397). -/
def State.acceptNormal (s : State) (i : Nat) (m : MicroWord) (ev : Nat) : State :=
  let s1 := (s.takeEvent ev).bump (Reg.SEQ_ITEMS i)
  let q : SeqSt := { s1.seq i with state := .running, cp := s.evPrio ev, opcode := s.evOpcode ev, event := ev, item := some ev, err := false }
  ((s1.setSeq i ((q.w 1 (BitVec.ofNat 64 ev)).w 2 (BitVec.ofNat 64 (s.evOpcode ev)))).advance i m).settleEvents

/-- Acceptance of a fast event (R398). -/
def State.acceptFast (s : State) (i : Nat) (ev : Nat) : State :=
  let s1 := (s.takeEvent ev).bump (Reg.SEQ_FAST i)
  let q := s1.seq i
  let q1 : SeqSt := { q with
    state := .fast, fastRet := q.pc, fastCp := q.cp, fastOpcode := q.opcode, fastState := q.state, fastItem := some ev
    cp := s.evPrio ev, opcode := s.evOpcode ev, event := ev, pc := tget (fun _ => 0) s.ctl.store.disp (s.evOpcode ev) }
  (s1.setSeq i q1).settleEvents

/-- A sequencer halts on a bad microword or an uncorrectable store read (R388, R393). -/
def State.haltSeq (s : State) (i : Nat) : State :=
  ((s.setSeq i { s.seq i with state := .halted }).settleEvents).raiseFault { src := 96 + i }

/-- The microword that a sequencer can run now: it runs, no fast event waits at this boundary, and its XOP is `x`. -/
def State.ready (s : State) (i x : Nat) : Option MicroWord :=
  let q := s.seq i
  let m := s.uword i
  if (q.state == .running || q.state == .fast) && (s.fastDue i).isNone && m.xop == x then some m else none

/-- MICROWORD_STEP: the reads of a microword, from the store, a register bank or the dispatch table (R388), and the rest of it where its XOP is 0
(R391, R392); a microword with another XOP goes on by that XOP's row. -/
def execMicrowordStep (i : Fin 8) (rd : StoreRead) (s : State) : Host.Outcome State Fault Refusal :=
  match s.ready i (s.uword i).xop with
  | none => .next s
  | some m =>
    if rd = .bad then .next (s.haltSeq i) else
    let s0 := if rd = .corrected then s.bump (Reg.SEQ_CS_CORR i) else s
    if m.xop ≠ 0 then .next s0 else
    if m.alu = 0 then .next (s0.advance i m) else
    let q := s0.seq i
    let o := alu m.alu (q.r m.ra) (q.opB m)
    let v := match o.val with
      | some v => (v, s0)
      | none => let f := s0.fresh 64; (BitVec.ofNat 64 f.1, f.2)
    let c := match o.carry with
      | some c => (c, v.2)
      | none => let f := v.2.fresh 1; (f.1 == 1, f.2)
    let w := match o.ovf with
      | some b => (b, c.2)
      | none => let f := c.2.fresh 1; (f.1 == 1, f.2)
    let moves := m.alu = 1
    let s1 := if moves then v.2 else w.2
    let q1 := s1.seq i
    let q2 : SeqSt := if moves then q1 else { q1 with zf := v.1 == 0#64, nf := v.1.msb, cf := c.1, vf := w.1 }
    let q3 := if m.we && m.alu != 8 then q2.w m.rd v.1 else q2
    .next ((s1.setSeq i q3).advance i m)

/-- FAST_EVENT_ACCEPT (R398). -/
def execFastEventAccept (i : Fin 8) (s : State) : Host.Outcome State Fault Refusal :=
  match s.fastDue i with
  | some e => .next (s.acceptFast i e.ev)
  | none => .next s

/-- SEQ_WAKE: a sleeping sequencer that an event was offered to goes on after its SLEEP (R399). -/
def execSeqWake (i : Fin 8) (s : State) : Host.Outcome State Fault Refusal :=
  if (s.seq i).state = .sleeping ∧ s.ctl.events.any (fun e => e.offered == some i.val) = true then
    let s1 := (s.setSeq i { s.seq i with state := .running, err := false }).bump (Reg.SEQ_WAKES i)
    .next ((s1.advance i (s.uword i)).settleEvents)
  else .next s

/-- The normal event that a FETCH of a sequencer accepts. -/
def State.fetchable (s : State) (i : Nat) : Option PendEv :=
  s.firstEvent (s.ctl.events.filter (fun e => e.offered == some i && !s.evFast e.ev))

/-- FETCH: at its microword, or while the sequencer waits in it (R393, R397). -/
def execFetch (i : Fin 8) (s : State) : Host.Outcome State Fault Refusal :=
  let q := s.seq i
  if q.state = .idle then
    if (s.fastDue i).isSome then .next s else
    match s.fetchable i with
    | some e => .next (s.acceptNormal i (s.uword i) e.ev)
    | none => .next s
  else match s.ready i 1 with
  | none => .next s
  | some m =>
    if q.inFast then .next (s.haltSeq i) else
    match s.fetchable i with
    | some e => .next (s.acceptNormal i m e.ev)
    | none => .next (s.setSeq i { q with state := .idle, item := none }).settleEvents

/-- SLEEP (R401). A refused SLEEP takes a fast event as a waiting FETCH would, and goes on waiting after it. -/
def execSleep (i : Fin 8) (s : State) : Host.Outcome State Fault Refusal :=
  match s.ready i 2 with
  | none => .next s
  | some m =>
    let q := s.seq i
    if q.inFast then .next (s.haltSeq i) else
    let idle := s.setSeq i { q with state := .idle, item := none }
    match s.ctl.events.filter (fun e => idle.eligible i e.ev) with
    | [] => .next ((s.setSeq i { q with state := .sleeping, item := none }).bump (Reg.SEQ_SLEEPS i)).settleEvents
    | e :: es =>
      let s1 := (idle.bump (Reg.SEQ_SLEEP_REFUSED i))
      let s2 := (e :: es).foldl (fun t x => if x.held then t.releaseGroup (t.evGroup x.ev) else t) s1
      match s2.firstEvent (s2.ctl.events.filter (fun x => s2.eligible i x.ev)) with
      | some x => if s2.evFast x.ev then .next (s2.acceptFast i x.ev) else .next (s2.acceptNormal i m x.ev)
      | none => .next s2.settleEvents

/-- RETF (R398). In the normal bank it fails. -/
def execRetf (i : Fin 8) (s : State) : Host.Outcome State Fault Refusal :=
  match s.ready i 3 with
  | none => .next s
  | some m =>
    let q := s.seq i
    if q.inFast then
      .next (s.setSeq i { q with state := q.fastState, cp := q.fastCp, pc := q.fastRet, opcode := q.fastOpcode, fastItem := none }).settleEvents
    else .next (s.xopDone i m true)

/-! ## External operations (R393) -/

/-- The 8 bytes of an access, as runs that lie on one line each. -/
def splitLine (a : Nat) : List (Nat × Nat) :=
  let n := min 8 (128 - a % 128)
  if n = 8 then [(a, 8)] else [(a, n), (a + n, 8 - n)]

/-- A port of DRAM that the access needs does not run: the XOP gets no handshake. -/
def State.portStalls (s : State) (a : Nat) : Bool :=
  (splitLine a).any (fun q => isDram q.1 && s.memPresent q.1 && s.memState (s.memPortOf q.1) != 2)

/-- LOAD: 64 bits at an agent address; bytes rise with significance (R6). An address error or poison fails (R372, R347). -/
def execLoad (i : Fin 8) (errs : List (Nat × List SymErr)) (s : State) : Host.Outcome State Fault Refusal :=
  match s.ready i 4 with
  | none => .next s
  | some m =>
    let a := (s.seq i).addr m
    if (List.range 8).any (fun k => !s.addrOk false (a + k)) then .next (s.xopDone i m true)
    else if s.portStalls a then .next s
    else
      let r := (splitLine a).foldl (fun (t : Option Bytes × State) q =>
        let x := t.2.busRead (agGs i) q.1 q.2 errs
        (match t.1, x.1 with
          | some d, some e => some (d ++ e)
          | _, _ => none, x.2)) (some [], s)
      match r.1 with
      | none => .next (r.2.xopDone i m true)
      | some d =>
        let s1 := r.2.setSeq i ((r.2.seq i).w m.rd (BitVec.ofNat 64 (leNat d)))
        .next (s1.xopDone i m false)

/-- STORE. -/
def execStore (i : Fin 8) (errs : List (Nat × List SymErr)) (s : State) : Host.Outcome State Fault Refusal :=
  match s.ready i 5 with
  | none => .next s
  | some m =>
    let q := s.seq i
    let a := q.addr m
    if (List.range 8).any (fun k => !s.addrOk true (a + k)) then .next (s.xopDone i m true)
    else if s.portStalls a then .next s
    else
      let d := (le 8 (q.r m.rd).toNat).map some
      let s1 := (splitLine a).foldl (fun t x => t.busWrite (agGs i) x.1 (slice' (x.1 - a) x.2 d) errs) s
      .next (s1.xopDone i m false)
where
  /-- part of a list -/
  slice' (off n : Nat) (l : List (Option Byte)) : List (Option Byte) := (l.drop off).take n

/-- POP: four registers from RD on, 8 little-endian bytes each (R393, R407). -/
def CRec.words (c : CRec) : List Nat :=
  [c.gseq % 2 ^ 64, c.unit % 256 + c.kind % 256 * 2 ^ 8 + c.slot % 2 ^ 16 * 2 ^ 16 + c.leafSeq % 2 ^ 32 * 2 ^ 32,
   c.status % 2 ^ 32 + c.value % 2 ^ 32 * 2 ^ 32, c.busy % 2 ^ 32]

/-- POP. -/
def execPop (i : Fin 8) (s : State) : Host.Outcome State Fault Refusal :=
  match s.ready i 9 with
  | none => .next s
  | some m =>
    let q := s.seq i
    match q.queue with
    | [] => .next (s.xopDone i m true)
    | c :: t =>
      let q1 := (c.words.foldl (fun (acc : SeqSt × Nat) w => (acc.1.w acc.2 (BitVec.ofNat 64 w), acc.2 + 1)) ({ q with queue := t }, m.rd)).1
      .next ((s.setSeq i q1).xopDone i m false)

/-- SETPRIO. -/
def execSetprio (i : Fin 8) (s : State) : Host.Outcome State Fault Refusal :=
  match s.ready i 10 with
  | none => .next s
  | some m => .next ((s.setSeq i { s.seq i with cp := m.imm % 16 }).xopDone i m false).settleEvents

/-- DOORBELL. -/
def execDoorbell (i : Fin 8) (s : State) : Host.Outcome State Fault Refusal :=
  match s.ready i 11 with
  | none => .next s
  | some m => .next ((s.xopDone i m false).raiseEv (92 + m.imm % 8))

/-- UNIT: the command block at RA is sent to an agent; the manual does not give the block's format, so what the unit does with it is the
rows that the unit's work has (log entry 18). -/
def execUnit (i : Fin 8) (s : State) : Host.Outcome State Fault Refusal :=
  match s.ready i 12 with
  | none => .next s
  | some m =>
    let a := (s.seq i).r m.ra
    let cmds := s.ctl.unitCmds ++ [(i.val, m.imm % 256, a.toNat)]
    .next (({ s with ctl := { s.ctl with unitCmds := cmds } }).xopDone i m false)

/-- SEAL: a request to the sealing block; its format is not in the manual (log entry 18). -/
def execSeal (i : Fin 8) (s : State) : Host.Outcome State Fault Refusal :=
  match s.ready i 13 with
  | none => .next s
  | some m =>
    let a := (s.seq i).r m.ra
    let reqs := s.ctl.sealReqs ++ [(i.val, a.toNat)]
    .next (({ s with ctl := { s.ctl with sealReqs := reqs } }).xopDone i m false)

/-! ## Felt operations (R366, R393) -/

/-- The XOP FELT of a sequencer whose selection is `sel`. -/
def State.feltReady (s : State) (i sel : Nat) : Option MicroWord := match s.ready i 8 with
  | some m => if m.imm % 4 = sel then some m else none
  | none => none

/-- Record the handle that an ALLOC gave. -/
def State.gaveHandle (s : State) (agent h : Nat) : State :=
  { s with mem := { s.mem with handles := s.mem.handles.filter (fun q => q.1 == s.now) ++ [(s.now, agent, h)] } }

/-- ALLOC; a pool above 7 is none, and the allocation fails, as does an XOP FELT whose selection is none of the three. -/
def State.serveAlloc (s : State) : FeltBy → State
  | .agent a p _ =>
    if 8 ≤ p then s else
    let r := s.alloc a p
    r.2.gaveHandle a r.1
  | .xop i => match s.feltReady i 0 with
    | none => match s.feltReady i 3 with
      | some m => s.xopDone i m true
      | none => s
    | some m =>
      let p := ((s.seq i).r m.ra).toNat
      if 8 ≤ p then s.xopDone i m true else
      let r := s.alloc (agGs i) p
      let s1 := r.2.setSeq i ((r.2.seq i).w m.rd (BitVec.ofNat 64 r.1))
      (s1.gaveHandle (agGs i) r.1).xopDone i m false

/-- A FREE or GIVE by a sequencer: the XOP completes, then a refused operation raises its source. -/
def State.feltXop (s : State) (i : Nat) (m : MicroWord) (give : Option Nat) : State :=
  let h := ((s.seq i).r m.ra).toNat
  match s.freeOrGive (agGs i) (h % 2 ^ 32) give with
  | (.done, s1) => s1.xopDone i m false
  | (.bad kind _, s1) =>
    (s1.xopDone i m true).raiseFault
      { src := if kind = 1 then 155 else 156, agent := agGs i, d0 := h % 2 ^ 32, d1 := (s1.reg Reg.FP_LAST_INFO).toNat }

/-- FREE. -/
def State.serveFree (s : State) : FeltBy → State
  | .agent a h _ => (s.feltOp a h none).2
  | .xop i => match s.feltReady i 1 with
    | none => s
    | some m => s.feltXop i m none

/-- GIVE. -/
def State.serveGive (s : State) : FeltBy → State
  | .agent a h dst => (s.feltOp a h (some dst)).2
  | .xop i => match s.feltReady i 2 with
    | none => s
    | some m => s.feltXop i m (some (((s.seq i).r m.rb).toNat % 256))

/-- The agent that sends a felt operation. -/
def feltAgent : FeltBy → Nat
  | .agent a _ _ => a
  | .xop i => agGs i

/-- The place of a felt operation among those of its instant (R367): FREE and GIVE before ALLOC, by agent ID. -/
def FeltReq.rank : FeltReq → Nat
  | .alloc b => 256 + feltAgent b
  | .free b => feltAgent b
  | .give b => feltAgent b

/-- Perform a felt operation; those of a frozen agent stall (R445). -/
def State.serveFelt (s : State) : FeltReq → State
  | .alloc b => if s.frozen (feltAgent b) then s else s.serveAlloc b
  | .free b => if s.frozen (feltAgent b) then s else s.serveFree b
  | .give b => if s.frozen (feltAgent b) then s else s.serveGive b

/-- Is a command a felt operation? -/
def isFelt : Instr → Bool
  | .alloc _ => true
  | .free _ => true
  | .give _ => true
  | _ => false

/-- A felt operation reaches the manager. One alone in its instant is performed at once; those of one instant are performed in the order of R367 once
the last has come. -/
def State.feltRequest (s : State) (q : FeltReq) : State :=
  let l := s.mem.felts ++ [q]
  if s.pending.any isFelt then { s with mem := { s.mem with felts := l } }
  else if l.length = 1 then s.serveFelt q
  else (sortBy (fun x y => decide (x.rank ≤ y.rank)) l).foldl State.serveFelt { s with mem := { s.mem with felts := [] } }

/-- ALLOC. -/
def execAlloc (by_ : FeltBy) (s : State) : Host.Outcome State Fault Refusal := .next (s.feltRequest (.alloc by_))

/-- FREE. -/
def execFree (by_ : FeltBy) (s : State) : Host.Outcome State Fault Refusal := .next (s.feltRequest (.free by_))

/-- GIVE. -/
def execGive (by_ : FeltBy) (s : State) : Host.Outcome State Fault Refusal := .next (s.feltRequest (.give by_))

/-! ## Moderation (R400) -/

/-- HOLDOFF_EXPIRY (R400). -/
def execHoldoffExpiry (g : Fin 64) (s : State) : Host.Outcome State Fault Refusal :=
  match minNat? ((s.heldOf g).map (·.raised)) with
  | some t => if t + usT (s.cfgF (Reg.INT_GRP_CFG g) 0 10) ≤ s.now then .next (s.releaseGroup g).settleEvents else .next s
  | none => .next s

end Sys2Proof.Machine
end

