-- ==== Sys2Proof/Machine/Collector.lean ====
section
/-!
DEFINITION. The completion collector (R404 to R407), and what the acceptance of a unit's record brings about.
-/
namespace Sys2Proof.Machine

/-- The records held at units, oldest first, then by unit index. -/
def State.heldRecords (s : State) : List (Nat × HeldRec) :=
  let hs := s.ctl.held.filterMap (fun q => q.2.map (fun h => (q.1, h)))
  sortBy (fun (a b : Nat × HeldRec) => decide (a.2.raised < b.2.raised) || (a.2.raised == b.2.raised && decide (a.1 ≤ b.1))) hs

/-- What follows from the acceptance of a record, by its kind: a decoded, encoded or composed picture; and a unit that is drained for a self-test may
now report that. -/
def State.onAccept (s : State) (c : CRec) : State := match c.kind with
  | 0 => (s.acceptPicture c.slot).sendDrained (0x40 + c.unit)
  | 1 => (s.acceptEncode c.slot).sendDrained (0x40 + c.unit)
  | 2 => (s.acceptComposed c.slot).sendDrained (0x40 + c.unit)
  | 3 => s.sendDrained (0x40 + c.unit)
  | 4 => s.sendDrained (0x40 + c.unit)
  | _ => s

/-- Accept one record: number, queue, counters (R406); the event of a queue that becomes non-empty is raised once the round ends. -/
def State.acceptRec (s : State) (u : Nat) (h : HeldRec) : State :=
  let q := s.seq h.dest
  let c : CRec := { h.rcd with gseq := s.ctl.gseq }
  let s1 := s.setSeq h.dest { q with queue := q.queue ++ [c] }
  let held := tput (fun _ => none) s1.ctl.held u none
  let s2 := { s1 with ctl := { s1.ctl with gseq := s1.ctl.gseq + 1, held := held } }
  let worst := min 15 (h.rounds + 1)
  let s3 := if s2.regF Reg.COL_WORST 0 4 < worst then s2.setRegF Reg.COL_WORST 0 4 worst else s2
  s3.bump Reg.COL_RECORDS

/-- The records of a round in order: `room` more can be accepted. Answers the state, the queues that became non-empty, and what was accepted. -/
def State.roundRecs (s : State) : Nat → List (Nat × HeldRec) → State × List Nat × List CRec
  | _, [] => (s, [], [])
  | 0, (u, h) :: t =>
    let held := tput (fun _ => none) s.ctl.held u (some { h with rounds := h.rounds + 1 })
    State.roundRecs { s with ctl := { s.ctl with held := held } } 0 t
  | room + 1, (u, h) :: t =>
    if 256 ≤ (s.seq h.dest).queue.length then
      let held := tput (fun _ => none) s.ctl.held u (some { h with rounds := h.rounds + 1 })
      State.roundRecs (({ s with ctl := { s.ctl with held := held } }).bump Reg.COL_FULL_WAITS) (room + 1) t
    else
      let was := (s.seq h.dest).queue.isEmpty
      let r := State.roundRecs (s.acceptRec u h) room t
      (r.1, if was then h.dest :: r.2.1 else r.2.1, h.rcd :: r.2.2)

/-- The collector's own part of a round: what it numbers, queues and counts (R405, R406). -/
def State.round (s : State) : State × List CRec :=
  let r := s.roundRecs 8 s.heldRecords
  ((r.1.bump Reg.COL_ROUNDS).raiseEvs (r.2.1.map (64 + ·)), r.2.2)

/-- Limits that expired in this instant act once no acceptance of the instant is to come (R180; log entry 96). -/
def State.expireWaiting (s : State) : State :=
  if s.collecting then s else
  s.ctxs.foldl (fun t q => if q.2.expiring then (t.setCtx q.1 { t.ctx q.1 with expiring := false }).expireNow q.1 else t) s

/-- COLLECTOR_ROUND (R405, R406), with what acceptance brings about (R137, R180, R190, R228, R231, R262). -/
def execCollectorRound (s : State) : Host.Outcome State Fault Refusal :=
  match s.heldRecords with
  | [] => .next s.expireWaiting
  | _ =>
    let r := s.round
    .next (r.2.foldl (fun t c => t.onAccept c) r.1).settleSlots.expireWaiting

end Sys2Proof.Machine
end

