-- ==== Sys2Proof/Machine/Calibration.lean ====
section
/-!
DEFINITION. Calibration and ageing (19_clockless_calibration_ageing.md): the matched lines and their margins, references, the current limit, the re-plan, and the
results of SELF_TEST and CALIBRATE. What the chip's own sensors and converters read are operands of the commands.
-/
namespace Sys2Proof.Machine

/-! ## Groups (R458, R459) -/

/-- First group and number of groups of an agent; 0xB8 stands for the fabric. -/
def groupsOf (agent : Nat) : Nat × Nat :=
  if 0x40 ≤ agent ∧ agent < 0x80 then (24 * (agent - 0x40), 24)
  else if 0x80 ≤ agent ∧ agent < 0x98 then (1536 + 32 * (agent - 0x80), 32)
  else if 0x98 ≤ agent ∧ agent < 0xA0 then (2304 + 12 * (agent - 0x98), 12)
  else if 0xA0 ≤ agent ∧ agent < 0xA8 then (2400 + 9 * (agent - 0xA0), 9)
  else if agent = 0xB8 then (2472, 96) else (0, 0)

/-- The groups of an agent. -/
def groupList (agent : Nat) : List Nat := (List.range (groupsOf agent).2).map ((groupsOf agent).1 + ·)

/-- The agents that measure groups. -/
def groupAgents : List Nat := (List.range 104).map (0x40 + ·) ++ [0xB8]

/-- Target margin of the grade in force, in 0.1 % (R467). -/
def State.target (s : State) : Int := match s.regF Reg.CAL_GRADE 0 2 with
  | 0 => 50
  | 1 => 60
  | 2 => 80
  | _ => 100

/-- The hard margin in 0.1 % (R459). -/
def hardMargin : Int := 30

/-- Margins of a group at its last measurement. -/
def State.margins (s : State) (g : Nat) : List Int := tget (fun _ => []) s.cal.lines g

/-- The shortest line that meets the target margin. -/
def State.shortest (s : State) (g : Nat) : Option Nat := (List.range 4).find? (fun k => match (s.margins g)[k]? with
  | some m => decide (s.target ≤ m)
  | none => false)

/-- The active line. -/
def State.line (s : State) (g : Nat) : Nat := s.regF (Reg.CAL_GRP g) 0 2

/-- Set a group's line and what CAL_GRP shows of it. -/
def State.setLine (s : State) (g k : Nat) : State :=
  let ms := s.margins g
  let m := clampInt 0 1023 (ms.getD k 0)
  let s1 := (s.setRegF (Reg.CAL_GRP g) 0 2 k).setRegF (Reg.CAL_GRP g) 8 10 m.toNat
  (s1.setRegBit (Reg.CAL_GRP g) 20 (!ms.isEmpty && (s.shortest g).isNone)).setRegBit (Reg.CAL_GRP g) 21
    (!ms.isEmpty && decide (ms.getD 3 0 < hardMargin))

/-- Is L3 of some group of the agent below the hard margin? -/
def State.belowHard (s : State) (agent : Nat) : Bool :=
  (groupList agent).any (fun g => !(s.margins g).isEmpty && decide ((s.margins g).getD 3 0 < hardMargin))

/-- CAL_STATUS.UNITS_OOS follows the units that left service under R466. -/
def State.showOos (s : State) : State :=
  let n := (groupAgents.filter (fun a => (s.unit a).oos)).length
  s.setRegF Reg.CAL_STATUS 16 8 n

/-- A unit leaves service, or returns, under R466. The fabric stays. -/
def State.lineService (s : State) (agent : Nat) (out : Bool) : State :=
  if (s.unit agent).oos = out ∨ agent = 0xB8 then s else
  let s1 := s.setUnit agent { s.unit agent with oos := out }
  let s2 := if 0xA0 ≤ agent then (s1.setSeq (agent - 0xA0) { s1.seq (agent - 0xA0) with out := out }).settleEvents
    else (if out then s1.noCap agent else s1).showUnit agent
  s2.showOos

/-- A unit with a group below the hard margin on L3 leaves service; the last sequencer cannot, and the device enters safe state (R466). -/
def State.leaveService (s : State) (agent : Nat) : State :=
  if 0xA0 ≤ agent && decide (agent < 0xA8) && s.lastSeq agent && !(s.unit agent).oos then
    if s.power.safe || s.power.failing then s else (s.enterSafe 170 [170]).syncState
  else s.lineService agent true

/-! ## Measurement (R465, R466) -/

/-- Store a group's margins, and the line that a seed holds for its first measurement (R474). -/
def State.storeMargins (s : State) (g : Nat) (ms : List Int) : State :=
  let first := (s.margins g).isEmpty
  let s1 := { s with cal := { s.cal with lines := tput (fun _ => []) s.cal.lines g (ms.take 4) } }
  let seed := tget (fun _ => 0) s.cal.seed g
  if first && seed != 0 then
    let k := max (seed - 1) ((s1.shortest g).getD 3)
    ({ s1 with cal := { s1.cal with seed := tput (fun _ => 0) s1.cal.seed g 0 } }).setLine g k
  else s1.setLine g (s1.line g)

/-- What R466 does with one measured group: the state, and whether a line was lengthened. -/
def State.lengthen (s : State) (g : Nat) : State × Bool :=
  let k := s.line g
  if s.target ≤ (s.margins g).getD k 0 then (s, false) else
  let k' := max k ((s.shortest g).getD 3)
  if k' = k then (s, false) else ((s.setLine g k').bump Reg.CAL_LENGTHEN, true)

/-- A measurement of every group of an agent: margins, lengthening, F169, F170, service. A missing group keeps its last margins. -/
def State.measure (s : State) (agent : Nat) (ms : List (List Int)) : State :=
  let gs := groupList agent
  let s1 := (List.range gs.length).foldl (fun t i => match ms[i]? with
    | some m => if 4 ≤ m.length then t.storeMargins (gs.getD i 0) m else t
    | none => t) s
  let r := gs.foldl (fun (t : State × Bool) g => let q := t.1.lengthen g; (q.1, t.2 || q.2)) (s1, false)
  let s2 := r.1.bump Reg.CAL_MEAS
  let s3 := { s2 with cal := { s2.cal with measAt := tput (fun _ => 0) s2.cal.measAt agent s2.now } }
  let hard := s3.belowHard agent
  let s4 := s3.raiseFaults ((if r.2 then [{ src := 169 }] else []) ++ (if hard then [{ src := 170 }] else []))
  if hard then s4.leaveService agent else s4

/-- GROUP_MEASUREMENT: an agent's periodic measurement; `ms` gives the margins of L0 to L3 in 0.1 %, group by group (R465, R466). -/
def execGroupMeasurement (agent : Fin 256) (ms : List (List Int)) (s : State) : Host.Outcome State Fault Refusal :=
  let a := agent.val
  if (groupsOf a).2 = 0 ∨ s.frozen a = true ∨ s.inTest a = true
      ∨ s.now < tget (fun _ => 0) s.cal.measAt a + sT (s.cfgF Reg.CAL_CFG 8 6) then .next s
  else .next (s.measure a ms)

/-! ## References and temperature (R463, R464, R475) -/

/-- The hottest sensor that agrees with its neighbours, and its index. -/
def RefReading.hottest (r : RefReading) : Option (Int × Nat) :=
  (List.range r.temps.length).foldl (fun (m : Option (Int × Nat)) i => match r.temps.getD i (0, false), m with
    | (t, true), some (b, j) => if b < t then some (t, i) else some (b, j)
    | (t, true), none => some (t, i)
    | _, m => m) none

/-- CAL_TEMP.MAX and SENSOR. -/
def State.showTemp (s : State) (t : Int) (i : Nat) : State :=
  (s.setRegF Reg.CAL_TEMP 0 8 ((clampInt (-128) 127 t) % 256).toNat).setRegF Reg.CAL_TEMP 8 4 i

/-- The reference calibration. -/
def State.refCal (s : State) (r : RefReading) : State :=
  let ok := decide (9000 ≤ r.precres ∧ r.precres ≤ 11000)
  let odd := r.temps.any (fun t => !t.2)
  let s1 := (s.setRegF Reg.CAL_REF 0 16 (min 65535 r.precres)).setRegBit Reg.CAL_REF 16 ok
  let s2 := match r.hottest with
    | some q => s1.showTemp q.1 q.2
    | none => s1
  let s3 := { s2 with cal := { s2.cal with refAt := some s2.now } }
  let s4 := if ok then s3.setCause 167 false else s3
  let s5 := if r.oscOk then s4.setCause 166 false else s4
  s5.raiseFaults ((if r.oscOk then [] else [{ src := 166 }]) ++ (if ok then [] else [{ src := 167 }]) ++ (if odd then [{ src := 168 }] else []))

/-- REF_CALIBRATION: every 10 s (R463, R464). -/
def execRefCalibration (r : RefReading) (s : State) : Host.Outcome State Fault Refusal :=
  match s.cal.refAt with
  | some t => if s.now < t + sT 10 then .next s else .next (s.refCal r)
  | none => .next (s.refCal r)

/-! ## The current limit (R462) -/

/-- CAL_SETPOINT.ACTUAL. -/
def State.showActual (s : State) : State := s.setRegF Reg.CAL_SETPOINT 16 10 (s.regF Reg.CAL_SETPOINT 0 10 - s.cal.lowered)

/-- CURRENT_LIMIT_STEP: the VIN current would exceed 43 A. -/
def execCurrentLimitStep (s : State) : Host.Outcome State Fault Refusal :=
  let c := s.cal
  if s.now < c.limitAt + usT 10 ∨ 30 < c.lowered + 5 ∨ s.regF Reg.CAL_SETPOINT 0 10 < 720 + c.lowered + 5 then .next s
  else .next (({ s with cal := { c with lowered := c.lowered + 5, limitAt := s.now, lowerAt := s.now } }).showActual.bump Reg.CAL_VLIMIT)

/-- CURRENT_RESTORE_STEP: the current has stayed below 40 A for 100 ms. -/
def execCurrentRestoreStep (s : State) : Host.Outcome State Fault Refusal :=
  let c := s.cal
  if c.lowered = 0 ∨ s.now < c.limitAt + usT 10 ∨ s.now < c.lowerAt + msT 100 then .next s
  else .next ({ s with cal := { c with lowered := c.lowered - 5, limitAt := s.now } }).showActual

/-! ## Ageing and the re-plan (R467 to R469) -/

/-- d_k in 0.01 %, 0 where the stressed ring is not slower. -/
def RingPair.d (p : RingPair) : Nat := (p.unstressed - p.stressed) * 10000 / max 1 p.unstressed

/-- Is the pair's reading valid? -/
def RingPair.ok (p : RingPair) : Bool := decide (p.stressed * 1000 ≤ 1005 * p.unstressed)

/-- Grade of the largest degradation. -/
def gradeOf (d : Nat) : Nat := if d < 200 then 0 else if d < 400 then 1 else if d < 600 then 2 else 3

/-- Read the monitors: CAL_AGE, MEASURED, GRADE, F171 (R467). -/
def State.readMonitors (s : State) (ps : List RingPair) : State :=
  let bad := (List.range 8).filter (fun k => match ps[k]? with
    | some p => !p.ok
    | none => true)
  let now_ := bad.filter (fun k => !s.cal.badPairs.contains k)
  let out := s.cal.badPairs ++ now_
  let good := (List.range 8).filter (fun k => !out.contains k)
  let dOf := fun (k : Nat) => match ps[k]? with
    | some p => p.d
    | none => 0
  let s1 := (List.range 8).foldl (fun t k =>
    t.setReg (Reg.CAL_AGE k) (BitVec.ofNat 32 (min 65535 (dOf k) + (if good.contains k then 65536 else 0)))) s
  let m := if good.length < 4 then 3 else gradeOf ((good.map dOf).foldl max 0)
  let s2 := (s1.setRegF Reg.CAL_GRADE 8 2 m).setRegF Reg.CAL_GRADE 0 2 (max m (s.regF Reg.CAL_GRADE 0 2))
  let s3 := { s2 with cal := { s2.cal with badPairs := out } }
  if now_.isEmpty then s3 else s3.raiseFault { src := 171 }

/-- Is the agent's re-plan skipped: frozen, drained or in self-test (R469)? -/
def State.replanSkips (s : State) (agent : Nat) : Bool := s.frozen agent || s.inTest agent || (s.unit agent).test.isSome

/-- The measured groups that a re-plan works on. -/
def State.replanGroups (s : State) : List Nat :=
  (groupAgents.filter (fun a => !s.replanSkips a)).flatMap (fun a => (groupList a).filter (fun g => !(s.margins g).isEmpty))

/-- Is the agent in service, so that its groups decide how far a re-plan goes (R468)? -/
def State.serves (s : State) (agent : Nat) : Bool :=
  if agent < 0xA0 then s.inService agent else if agent < 0xA8 then (s.seq (agent - 0xA0)).inService else true

/-- The measured groups of the agents in service. -/
def State.servingGroups (s : State) : List Nat :=
  (groupAgents.filter (fun a => !s.replanSkips a && s.serves a)).flatMap (fun a => (groupList a).filter (fun g => !(s.margins g).isEmpty))

/-- Step 1 of R468: each group takes its shortest line that meets the target; one without stays. -/
def State.selectLines (s : State) (gs : List Nat) : State := gs.foldl (fun t g => match t.shortest g with
  | some k => t.setLine g k
  | none => t) s

/-- Groups without a line that meets the target. -/
def State.shortGroups (s : State) (gs : List Nat) : List Nat := gs.filter (fun g => (s.shortest g).isNone)

/-- The ceiling of CAL_CFG.VMAX (R476). -/
def State.mvCeiling (s : State) : Nat := s.cfgF Reg.CAL_CFG 16 10 / 5 * 5

/-- Steps 1 and 2: `again` gives the measurements that follow each step of 5 mV; `gs` are the groups, `live` those in service. Answers the state and the
highest step reached. -/
def State.raiseMv (gs live : List Nat) : Nat → List (List (Nat × List Int)) → State → State × Nat
  | 0, _, s => (s, 2)
  | fuel + 1, again, s =>
    let s1 := s.selectLines gs
    let mv := s1.regF Reg.CAL_SETPOINT 0 10
    if (s1.shortGroups live).isEmpty || decide (s1.mvCeiling < mv + 5) then (s1, 2) else
    let s2 := (s1.setRegF Reg.CAL_SETPOINT 0 10 (mv + 5)).showActual
    let s3 := (again.headD []).foldl (fun t q => if gs.contains q.1 && decide (4 ≤ q.2.length) then t.storeMargins q.1 q.2 else t) s2
    State.raiseMv gs live fuel again.tail s3

/-- A re-plan (R468). -/
def State.replan (s : State) (ps : List RingPair) (again : List (List (Nat × List Int))) : State :=
  let s0 := s.readMonitors ps
  let gs := s0.replanGroups
  let live := s0.servingGroups
  let s1 := s0.selectLines gs
  let r := if (s1.shortGroups live).isEmpty then (s1, 1) else State.raiseMv gs live 32 again s1
  let short := r.1.shortGroups live
  let red := r.1.regF Reg.CAL_RED 0 5
  let three := !short.isEmpty
  let s2 := if three then (short.foldl (fun t g => t.setLine g 3) r.1).setRegF Reg.CAL_RED 0 5 (min 30 (red + 5))
    else r.1.setRegF Reg.CAL_RED 0 5 (red - 5)
  let hard := groupAgents.filter (fun a => !s2.replanSkips a && !(s2.unit a).oos && s2.belowHard a)
  let s3 := s2.raiseFaults ((if three && !hard.isEmpty then [{ src := 170 }] else []) ++ (if three then [{ src := 172 }] else []))
  let s4 := if three then hard.foldl State.leaveService s3 else s3
  let s5 := (groupAgents.filter (fun a => (s4.unit a).oos && !s4.replanSkips a && !s4.belowHard a)).foldl
    (fun t a => t.lineService a false) s4
  let s6 := (((s5.setRegF Reg.CAL_STATUS 2 2 (if three then 3 else r.2)).setRegBit Reg.CAL_STATUS 4 false).setRegBit Reg.CAL_STATUS 8 true).bump
    Reg.CAL_REPLANS
  let mv := s6.regF Reg.CAL_SETPOINT 0 10
  let rd := s6.regF Reg.CAL_RED 0 5
  { s6 with cal := { s6.cal with planMv := mv, planRed := rd } }

/-- Is a re-plan due by time (R468)? -/
def State.replanDue (s : State) : Bool := match s.cal.replanAt with
  | some t => decide (t ≤ s.now)
  | none => false

/-- REPLAN: due by time (EV103), or started by CAL_CTRL. `ps` are the monitor readings, `again` the measurements after each step of 5 mV. -/
def execReplan (ps : List RingPair) (again : List (List (Nat × List Int))) (s : State) : Host.Outcome State Fault Refusal :=
  if s.power.failing = true ∨ (s.replanDue = false ∧ s.regBit Reg.CAL_STATUS 4 = false) then .next s else
  let s1 := if s.replanDue then
      { s with cal := { s.cal with replanAt := some (s.now + sT (3600 * s.cfgF Reg.CAL_CFG 0 8)) } }.raiseEv 103
    else s
  .next (s1.replan ps again)

/-- CAL_REPLAN: a write of 1 to CAL_CTRL.REPLAN; one that runs takes it in (R469). -/
def State.calReplan (s : State) : State := if s.power.failing then s else s.setRegBit Reg.CAL_STATUS 4 true

/-- CAL_REPLAN. -/
def execCalReplan (s : State) : Host.Outcome State Fault Refusal := .next s.calReplan

/-! ## Results of SELF_TEST and CALIBRATE (R470 to R472) -/

/-- A GROUP record (R472). -/
def State.groupRecord (s : State) (g : Nat) : Bytes :=
  let f := (if s.regBit (Reg.CAL_GRP g) 20 then 1 else 0) + (if s.regBit (Reg.CAL_GRP g) 21 then 2 else 0)
  be 2 g ++ be 1 (s.line g) ++ be 1 f ++ (List.range 4).flatMap (fun k => be 2 (((s.margins g).getD k 0) % 65536).toNat)

/-- The result of a test or measurement. -/
def State.testResult (s : State) (agent verdict dur : Nat) (ref : Bytes) : Bytes :=
  let gs := if agent = 0xB8 then [] else groupList agent
  be 1 agent ++ be 1 verdict ++ be 2 gs.length ++ be 4 dur ++ gs.flatMap s.groupRecord ++ ref

/-- Has the drain before a self-test ended (R107, R470)? -/
def State.drained (s : State) (agent : Nat) : Bool :=
  if 0x40 ≤ agent ∧ agent < 0xA0 then (s.unit agent).job.isNone && (s.heldRec agent).isNone
  else if 0xA0 ≤ agent ∧ agent < 0xA8 then (match (s.seq (agent - 0xA0)).state with
    | .idle | .sleeping | .notLoaded | .halted => true
    | _ => false)
  else if agent = 0xB0 then s.seals.se0.isNone
  else if agent = 0xB1 then s.seals.se1.isNone
  else true

/-- A tested unit returns to service, re-planned first (R469, R470). A passing test ends an F170 leave and a failed test before it;
an abandoned one, `pass` none, leaves both as they were. -/
def State.returnTested (s : State) (agent : Nat) (pass : Option Bool) : State :=
  let s1 := if (groupsOf agent).2 = 0 then s else s.selectLines ((groupList agent).filter (fun g => !(s.margins g).isEmpty))
  if 0x40 ≤ agent ∧ agent < 0xA0 then
    let u := s1.unit agent
    ((s1.setUnit agent { u with
      test := none
      failed := (pass.map (!·)).getD u.failed
      oos := if pass = some true then s1.belowHard agent else u.oos }).showUnit agent).showOos
  else if 0xA0 ≤ agent ∧ agent < 0xA8 then
    let u := s1.unit agent
    let s2 := s1.setUnit agent { u with
      failed := (pass.map (!·)).getD u.failed
      oos := if pass = some true then s1.belowHard agent else u.oos }
    let out := (s2.unit agent).failed || (s2.unit agent).oos
    ((s2.setSeq (agent - 0xA0) { s2.seq (agent - 0xA0) with out := out }).settleEvents).showOos
  else (if 0xB0 ≤ agent ∧ agent < 0xB2 then s1.setUnit agent { s1.unit agent with failed := (pass.map (!·)).getD (s1.unit agent).failed } else s1).startSign

/-- Was the running test of an agent abandoned: its ticket released (R470, R74)? -/
def State.testAbandoned (s : State) (agent : Nat) : Bool :=
  s.mgmt.tickets.any (fun t => t.kind == 1 && t.running && !t.ready && t.param 0 1 == agent && s.mgmt.cancelled.contains t.num)

/-- What a finished test leaves beside its ticket: an engine's cause (R443), or the source that froze the agent again, or F173. -/
def State.testFaults (s : State) (agent : Nat) (pass unfreeze : Bool) : State :=
  if pass then (if 0xAC ≤ agent ∧ agent < 0xB0 then s.setCause (144 + (agent - 0xAC)) false else s)
  else
    let src := tget (fun _ => 0) s.faults.frozenBy agent
    if unfreeze && src != 0 then s.raiseFault { src := src - 1, agent := agent } else s.raiseFault { src := 173 }

/-- SELF_TEST_DONE: the test of an agent ends with a verdict, 0 to 3; a test of an unfreeze has no ticket (R447, R470). Where the ticket was
released, the test was abandoned and the unit has measured its groups. A coding unit sends the record of a result (R404, R407). -/
def execSelfTestDone (agent : Fin 256) (verdict : Fin 4) (dur : Nat) (ms : List (List Int)) (s : State) : Host.Outcome State Fault Refusal :=
  let a := agent.val
  let unfreeze := (s.unit a).test == some 0
  if !(s.inTest a || unfreeze) || !s.drained a then .next s else
  let gone := s.testAbandoned a
  let pass := verdict == 0
  let gs := groupList a
  let s1 := (List.range gs.length).foldl (fun t i => match ms[i]? with
    | some m => if 4 ≤ m.length then t.storeMargins (gs.getD i 0) m else t
    | none => t) s
  let s2 := s1.returnTested a (if gone then none else some pass)
  let data := s2.testResult a verdict dur []
  let s3 := (s2.mgmt.tickets.filter (fun t => t.kind == 1 && t.running && !t.ready && t.param 0 1 == a)).foldl
    (fun u t => u.readyTicket t.num 0 data) s2
  let s4 := if gone then s3 else s3.testFaults a pass unfreeze
  let s5 := if !gone && decide (0x40 ≤ a ∧ a < 0xA0) then s4.sendRecord a (s4.seqFor 0 - 0xA0) 5 0 0xFFFFFFFF 0 0 (s4.now - usT dur) else s4
  .next (s5.startSign.startTests)

/-- SELF_TEST_FIT_TIMEOUT: the charges have not fitted for 60 s (R107). -/
def execSelfTestFitTimeout (num : Nat) (s : State) : Host.Outcome State Fault Refusal :=
  match s.ticket num with
  | some t => if t.kind = 1 ∧ t.ready = false ∧ t.running = false ∧ t.started + sT 60 ≤ s.now then .next (s.readyTicket num 2 []) else .next s
  | none => .next s

/-- CALIBRATE_DONE: a CALIBRATE ticket's measurement ends (R471). -/
def execCalibrateDone (num dur : Nat) (ms : List (List Int)) (r : RefReading) (s : State) : Host.Outcome State Fault Refusal :=
  match s.ticket num with
  | some t =>
    let a := t.param 0 1
    if t.kind ≠ 2 ∨ t.ready = true ∨ s.inTest a = true then .next s
    else if a = 0xB8 then
      let s1 := s.refCal r
      let ref := be 4 r.precres ++ be 2 ((signedOf 8 (s1.regF Reg.CAL_TEMP 0 8)) % 65536).toNat ++ be 2 (s1.regF Reg.CAL_REF 16 1) ++ zeros 8
      .next (s1.readyTicket num 0 (s1.testResult a 0 dur ref))
    else
      let s1 := s.measure a ms
      .next (s1.readyTicket num 0 (s1.testResult a 0 dur []))
  | none => .next s

/-! ## Temperature (R443, R444) -/

/-- The operating limit in °C (R476). -/
def tempLimit : Int := if Config.tgradeFuse then 105 else 100

/-- TEMPERATURE_LIMIT_CROSSING: the hottest valid sensor reads `t`; above the limit HOT and THERM_N are set, 3 °C below it they clear. -/
def execTemperatureLimitCrossing (t : Int) (sensor : Fin 16) (s : State) : Host.Outcome State Fault Refusal :=
  let s1 := s.showTemp t sensor
  let hot := s.regBit Reg.CAL_TEMP 12
  if !hot && decide (tempLimit < t) then
    let s2 := s1.setRegBit Reg.CAL_TEMP 12 true
    .next (({ s2 with faults := { s2.faults with thermPin := true } }).raiseFault { src := 165 })
  else if hot && decide (t ≤ tempLimit - 3) then
    let s2 := s1.setRegBit Reg.CAL_TEMP 12 false
    .next (({ s2 with faults := { s2.faults with thermPin := false } }).setCause 165 false)
  else .next s1

end Sys2Proof.Machine
end

