-- ==== Sys2Proof/Machine/Settle.lean ====
section
/-!
DEFINITION. The stored configuration (R429 to R432): the clamps that tie fields together, the settle pass, placement (R437), mutability,
and the digest (R436).
-/
namespace Sys2Proof.Machine

/-! ## Which registers (R431, R436) -/

/-- A configuration register (R436): an RW field, outside the DMA block, FP_QUERY_HANDLE and what the calibration block writes itself. -/
def isConfig (a : Nat) : Bool :=
  a % 4 == 0 && assigned a && rwMask a != 0 && !decide (0x180000 ≤ a ∧ a < 0x184000) && a != Reg.FP_QUERY_HANDLE
    && !decide (Reg.CAL_SETPOINT ≤ a ∧ a ≤ Reg.CAL_HOURS) && !decide (0x701000 ≤ a ∧ a < 0x704000)

/-- An OPEN-written field of R90 in a context's window: CTX_CFG, CTX_GEOM, CTX_RATE, CTX_LABEL. -/
def openWritten (a : Nat) : Bool :=
  decide (0x800000 ≤ a ∧ a < 0x840000) && (a % 256 == 4 || a % 256 == 8 || a % 256 == 12 || decide (0x14 ≤ a % 256 ∧ a % 256 < 0x2C))

/-- Is the register a policer value of a context with SOURCE 2 that follows an OPEN's rate (R322)? -/
def State.polFollows (s : State) (a : Nat) : Bool :=
  decide (0x100000 ≤ a ∧ a < 0x104000) && (a % 16 == 4 || a % 16 == 8)
    && s.regF (Reg.CTX_CFG ((a - 0x100000) / 16)) 0 2 == 2 && s.regBit (Reg.HBX_POL_CFG ((a - 0x100000) / 16)) 1

/-- The value of a register that enters the configuration: for a context with SOURCE 2 the OPEN-written fields, and what is derived from them, stand
at their image values, so that an OPEN never forms an epoch (R436). -/
def State.configValue (s : State) (a : Nat) (v : Word) : Word :=
  if s.polFollows a then tget cfgReset s.img a else
  if openWritten a && s.regF (Reg.CTX_CFG ((a - 0x800000) / 256)) 0 2 == 2 then
    let i := tget cfgReset s.img a
    if a % 256 = 4 then (v &&& ~~~0x1C#32) ||| (i &&& 0x1C#32) else i
  else v &&& BitVec.ofNat 32 (rwMask a)

/-- The stored configuration. -/
def State.configTab (s : State) : Tab Word :=
  s.regs.filterMap (fun q => if isConfig q.1 then
    (let v := s.configValue q.1 q.2
     if v = cfgReset q.1 then none else some (q.1, v)) else none)

/-! ## Clamps across fields -/

/-- Severity that a written one becomes (R443). -/
def legalSev (n v : Nat) : Nat :=
  if (144 ≤ n ∧ n ≤ 147) ∨ n = 154 ∨ (161 ≤ n ∧ n ≤ 164) ∨ 254 ≤ n then 3
  else if 174 ≤ n ∧ n ≤ 253 then 0
  else if ((112 ≤ n ∧ n ≤ 143) ∨ (158 ≤ n ∧ n ≤ 160) ∨ (165 ≤ n ∧ n ≤ 173)) ∧ v = 2 then 1 else v

/-- Distinct indexes of the stored registers of a window of `size` slots of `stride` bytes at `base`, rising. -/
def State.slotsIn (s : State) (base stride size : Nat) : List Nat :=
  (s.regs.foldr (fun q acc =>
    if base ≤ q.1 ∧ q.1 < base + stride * size then
      (let k := (q.1 - base) / stride
       if acc.head? = some k then acc else k :: acc)
    else acc) [])

/-- FEC modes that a RATE allows. -/
def State.settlePort (s : State) (p : Nat) : State :=
  let fec := s.regF (Reg.PRT_CFG p) 4 2
  let v := if s.regF (Reg.PRT_CFG p) 0 2 = 0 then min fec 1 else min fec 2
  s.setRegF (Reg.PRT_CFG p) 4 2 v

/-- Source valid bits by TYPE, and the rate-control pairs (R91, R220). -/
def State.settleRnd (s : State) (n : Nat) : State :=
  let s1 := if s.regF (Reg.RND_CFG n) 0 2 = 3 then s
    else ((s.setRegBit (Reg.RND_SRC_A n) 31 false).setRegBit (Reg.RND_SRC_B n) 15 false).setRegBit (Reg.RND_SRC_B n) 31 false
  let s2 := s1.setRegF (Reg.RC_RATE n) 16 16 (max (s1.regF (Reg.RC_RATE n) 16 16) (s1.regF (Reg.RC_RATE n) 0 16))
  s2.setRegF (Reg.RC_QP n) 0 6 (min (s2.regF (Reg.RC_QP n) 0 6) (s2.regF (Reg.RC_QP n) 8 6))

/-- ING_SRC_ADDR and SRC_CHECK together (R112). -/
def State.settleSrc (s : State) (n : Nat) : State :=
  let ip := beNat (s.regBytes (Reg.ING_SRC_ADDR n 0) 4)
  let s1 := if isMulticast ip then s.clearRegs (Reg.ING_SRC_ADDR n 0) 4 else s
  if isMulticast ip || ip == 0 then s1.setRegBit (Reg.ING_FLOW n) 18 false else s1

/-- Collisions of flow bindings: the lower-numbered context of SOURCE 1 keeps a binding; PRT_KT_UDP is never one (R113). `seen` are the
bindings kept so far. -/
def State.settleFlows (s : State) : List Nat → List (Nat × Nat) → State
  | [], _ => s
  | n :: t, seen =>
    let u := s.regF (Reg.ING_FLOW n) 0 16
    let p := s.regF (Reg.ING_FLOW n) 16 2
    let kt := u == s.regF (Reg.PRT_KT_UDP p) 0 16
    let live := s.regF (Reg.CTX_CFG n) 0 2 == 1
    if u ≠ 0 ∧ (kt || (live && seen.contains (p, u))) then State.settleFlows (s.setRegF (Reg.ING_FLOW n) 0 16 0) t seen
    else State.settleFlows s t (if live && u != 0 then (p, u) :: seen else seen)

/-- System queues have no weight and no shaper (R331). -/
def State.settleQueue (s : State) (q : Nat) : State :=
  if q % 256 = 0 then (s.setRegF (Reg.EGQ_CFG q) 0 16 0).setRegF (Reg.EGQ_RATE q) 0 25 0 else s

/-- A channel paced by a line that does not exist is not paced (R386). -/
def State.settleDma (s : State) (n : Nat) : State :=
  if 116 ≤ s.regF (Reg.DMA_CNT_Z n) 18 7 then s.setRegBit (Reg.DMA_CNT_Z n) 17 false else s

/-- Write queue watermarks (R360). -/
def State.settleWq (s : State) (p : Nat) : State :=
  s.setRegF (Reg.MEM_WQ_LOW p) 0 7 (min (s.regF (Reg.MEM_WQ_LOW p) 0 7) (s.regF (Reg.MEM_WQ_HIGH p) 0 7 - 2))

/-- Data capacity in MiB of the stored GLB_MEM_CFG. -/
def State.storedMib (s : State) : Nat :=
  (if s.regBit Reg.GLB_MEM_CFG 2 then 4 else 8) * 4 * (1024 * 2 ^ s.regF Reg.GLB_MEM_CFG 3 2)

/-- Number of ones. -/
def onesBelow : Nat → Nat → Nat
  | 0, _ => 0
  | n + 1, v => v % 2 + onesBelow n (v / 2)

/-- The seven masks as one set (R336): bits above the installed capacity are cleared; a set that still breaks a rule becomes the reset
masks. -/
def State.settleMap (s : State) : State :=
  let four := s.regBit Reg.GLB_MEM_CFG 2
  let top := 20 + Nat.log2 s.storedMib
  let cut := fun (k : Nat) => ((s.reg (Reg.GLB_MEM_MAP_PORT0_LO + 8 * k)).toNat / 128 * 128
    + s.regF (Reg.GLB_MEM_MAP_PORT0_HI + 8 * k) 0 5 * 2 ^ 32) % 2 ^ top
  let used := (List.range 7).filter (fun k => !(four && k == 2))
  let homes := used.map (fun k => homeBit (cut k))
  let ok := used.all (fun k => decide (1 ≤ onesBelow 37 (cut k) ∧ onesBelow 37 (cut k) ≤ 8))
    && homes.all (fun h => decide (7 ≤ h ∧ h ≤ if four then 18 else 19)) && homes.eraseDups.length == homes.length
  (List.range 7).foldl (fun t k =>
    let lo := Reg.GLB_MEM_MAP_PORT0_LO + 8 * k
    if ok then (t.setReg lo (BitVec.ofNat 32 (cut k))).setReg (lo + 4) (BitVec.ofNat 32 (cut k / 2 ^ 32))
    else (t.setReg lo (regReset lo)).setReg (lo + 4) (regReset (lo + 4))) s

/-- Event targets and enables (R409). -/
def State.settleEv (s : State) (n : Nat) : State :=
  let t := s.regF (Reg.INT_SRC_CFG n) 0 8
  let s1 := if 64 ≤ n ∧ n ≤ 71 then s.setRegF (Reg.INT_SRC_CFG n) 0 8 (2 ^ (n - 64))
    else if t = 0 then s.setRegF (Reg.INT_SRC_CFG n) 0 8 255 else s
  if evReserved n then s1.setRegBit (Reg.INT_SRC_CFG n) 13 false else s1

/-- FP_CFG (R371). -/
def State.settlePool (s : State) (n : Nat) : State :=
  if n = 7 then (s.setRegF (Reg.FP_CFG 7) 0 3 7).setRegBit (Reg.FP_CFG 7) 3 false
  else s.setRegF (Reg.FP_CFG n) 0 3 (max (n + 1) (s.regF (Reg.FP_CFG n) 0 3))

/-! ## Partners and regions (R363, R364, R437, R438) -/

/-- Address of a partner as stored. -/
def State.storedPtnIp (s : State) (n : Nat) : Nat := beNat (s.regBytes (Reg.GLB_PTN_ADDR n 0) 4)

/-- Is a partner's stored address a unicast one? -/
def State.ptnValid (s : State) (n : Nat) : Bool := !isMulticast (s.storedPtnIp n) && !isUnspecified (s.storedPtnIp n)

/-- Backlogs in MiB, by partner: those of valid partners fit above the system region, reduced toward 64 MiB from the highest number
downward. Answers (partner, MiB) in ascending order. -/
def reduceBacklogs (excess : Nat) : List (Nat × Nat) → List (Nat × Nat) × Nat
  | [] => ([], excess)
  | (n, m) :: t =>
    let r := reduceBacklogs excess t
    let cut := min r.2 (m - 64)
    ((n, m - cut) :: r.1, r.2 - cut)

/-- The valid partners with their stored backlogs. -/
def State.backlogs (s : State) : List (Nat × Nat) :=
  ((List.range 32).filter s.ptnValid).map (fun n => (n, s.regF (Reg.GLB_PTN_BACKLOG n) 0 14))

/-- MiB above the system region. -/
def State.roomAbove (s : State) : Nat := s.storedMib - (s.sysBase + 32)

/-- Partners whose backlog does not fit above the region, in ascending order of placement (R437). -/
def misfits (room : Nat) : List (Nat × Nat) → List Nat
  | [] => []
  | (n, m) :: t => if m ≤ room then misfits (room - m) t else n :: misfits 0 t

/-- Roles that the port lacks, EN under ADDR and R437 (R438). -/
def State.settlePartner (s : State) (bad : List Nat) (n : Nat) : State :=
  let p := s.regF (Reg.GLB_PTN_CFG n) 16 2
  let roles := s.regF (Reg.GLB_PTN_CFG n) 18 4 &&& s.regF (Reg.PRT_CFG p) 8 4
  let s1 := s.setRegF (Reg.GLB_PTN_CFG n) 18 4 roles
  if s1.ptnValid n && !bad.contains n then s1 else s1.setRegBit (Reg.GLB_PTN_CFG n) 23 false

/-- The settle pass of R429: every clamp, against the complete set of stored values. A register at its reset value beside others at
theirs passes unchanged, so the pass visits the slots with a stored value. -/
def State.settle (s : State) : State :=
  let s1 := (List.range 4).foldl State.settlePort s
  let s2 := (s1.slotsIn 0xA00000 256 1024).foldl State.settleRnd s1
  let s3 := (s2.slotsIn 0x100000 16 1024 ++ s2.slotsIn 0x800000 256 1024).foldl State.settlePol s2
  let cs := s3.slotsIn 0x800000 256 1024
  let s4 := (cs.foldl State.settleSrc s3).settleFlows cs []
  let s5 := (s4.slotsIn 0x110000 16 1024).foldl State.settleQueue s4
  let s6 := (List.range 8).foldl State.settleWq ((s5.slotsIn 0x180000 0x100 64).foldl State.settleDma s5)
  let s7 := s6.setRegF Reg.SEAL_CFG 16 16 (max (s6.regF Reg.SEAL_CFG 16 16) (s6.regF Reg.SEAL_CFG 0 16))
  let s8 := if s7.regBit Reg.GLB_MEM_CFG 2 && s7.regF Reg.GLB_MEM_CFG 3 2 == 0 then s7.setRegF Reg.GLB_MEM_CFG 3 2 1 else s7
  let s9 := (s8.settleMap.slotsIn 0x30000 4 512).foldl State.settleEv s8.settleMap
  let s10 := (s9.slotsIn 0x20000 4 256).foldl (fun t n => t.setRegF (Reg.FLT_SRC_CFG n) 0 2 (legalSev n (t.regF (Reg.FLT_SRC_CFG n) 0 2))) s9
  let s11 := (List.range 8).foldl State.settlePool s10
  (List.range 32).foldl (fun t n => t.settlePartner (misfits s11.roomAbove s11.backlogs) n) s11

/-- Reduce packet-memory pools to 15 MiB: FP2 first, then FP1, then FP0 (R363). -/
def State.placePm (s : State) : State :=
  [2, 1, 0].foldl (fun t p =>
    let used := sumNat ((List.range 3).map (fun q => t.regF (Reg.FP_COUNT q) 0 22 * poolSize q))
    let excess := used - 15 * 2 ^ 20
    let c := t.regF (Reg.FP_COUNT p) 0 22
    t.setRegF (Reg.FP_COUNT p) 0 22 (c - min c (ceilDiv excess (poolSize p)))) s

/-- How many buffers fit in a region that starts at `b`, below `cap`, and clear of the regions taken (start, end). -/
def fitCount (size cap b c : Nat) (taken : List (Nat × Nat)) : Nat :=
  let stop := taken.foldl (fun (m : Nat) r => if r.2 ≤ b then m else if r.1 ≤ b then min m b else min m r.1) cap
  min c ((stop - b) / size)

/-- The placement that follows the settle pass at boot: system region, backlogs, pools (R363, R364, R437). -/
def State.place437 (s : State) : State :=
  let cap := s.storedMib
  let b0 := max 1 s.sysBase
  let b := if cap < b0 + 32 then cap - 32 else b0
  let s1 := (s.setRegF Reg.GLB_SYS_BASE_LO 20 12 (b % 4096)).setRegF Reg.GLB_SYS_BASE_HI 0 5 (b / 4096)
  let bl := s1.backlogs
  let excess := sumNat (bl.map (·.2)) - s1.roomAbove
  let r := (reduceBacklogs excess bl).1
  let s2 := r.foldl (fun t q => t.setRegF (Reg.GLB_PTN_BACKLOG q.1) 0 14 q.2) s1
  let bad := misfits s2.roomAbove r
  let s3 := bad.foldl (fun t n => t.setRegBit (Reg.GLB_PTN_CFG n) 23 false) s2
  let used := sumNat ((r.filter (fun q => !bad.contains q.1)).map (·.2))
  let sys := (b * 2 ^ 20, (b + 32 + used) * 2 ^ 20)
  let s4 := s3.placePm
  let s5 := (List.range 3).foldl (fun t p =>
    (t.setReg (Reg.FP_BASE_LO p) (BitVec.ofNat 32 (sumNat ((List.range p).map (fun q => t.regF (Reg.FP_COUNT q) 0 22 * poolSize q))))).setReg
      (Reg.FP_BASE_HI p) 0#32) s4
  (((List.range 5).map (3 + ·)).foldl (fun (x : State × List (Nat × Nat)) p =>
    let t := x.1
    let a0 := (t.reg (Reg.FP_BASE_LO p)).toNat / 128 * 128 + t.regF (Reg.FP_BASE_HI p) 0 5 * 2 ^ 32
    let a := max (2 ^ 20) a0
    let c := fitCount (poolSize p) (cap * 2 ^ 20) a (t.regF (Reg.FP_COUNT p) 0 22) x.2
    let t1 := ((t.setReg (Reg.FP_BASE_LO p) (BitVec.ofNat 32 a)).setReg (Reg.FP_BASE_HI p) (BitVec.ofNat 32 (a / 2 ^ 32))).setRegF
      (Reg.FP_COUNT p) 0 22 c
    (t1, if c = 0 then x.2 else (a, a + c * poolSize p) :: x.2)) (s5, [sys])).1

/-! ## Mutability (R91, R422, R431) -/

/-- May microcode change the field though it is not mutable: the DMA block, the calibration values, and the OPEN-written fields of a
context with SOURCE 2 (R494)? -/
def State.microOwns (s : State) (a : Nat) : Bool :=
  decide (0x180000 ≤ a ∧ a < 0x184000) || decide (Reg.CAL_SETPOINT ≤ a ∧ a ≤ Reg.CAL_HOURS) || decide (0x701000 ≤ a ∧ a < 0x704000)
    || (openWritten a && s.regF (Reg.CTX_CFG ((a - 0x800000) / 256)) 0 2 == 2)

/-- A register's value after a write of `v` that may change the RW fields that `can` accepts, each through its own clamp. -/
def writeFields (fs : List Field) (can : Field → Bool) (old v : Word) : Word :=
  fs.foldl (fun w f => if f.acc == .rw && can f then setFld w f.lo f.w (f.clamp.apply (fld v f.lo f.w)) else w) old

/-- Does a write differ from the stored value in an RW field that may not change (R432)? -/
def immutHit (fs : List Field) (can : Field → Bool) (old v : Word) : Bool :=
  fs.any (fun f => f.acc == .rw && !can f && fld v f.lo f.w != fld old f.lo f.w)

/-! ## Calibration values (R476): their clamps depend on what was measured -/

/-- CAL_SETPOINT.MV: rounded up to 5 mV, not below what the last re-plan chose, never above the ceiling. -/
def State.clampMv (s : State) (v : Nat) : Nat := min s.mvCeiling (max (max 720 s.cal.planMv) (ceilDiv v 5 * 5))

/-- Is the register one that the calibration block writes itself: CAL_SETPOINT to CAL_HOURS, CAL_GRP? -/
def isCal (a : Nat) : Bool := decide (Reg.CAL_SETPOINT ≤ a ∧ a ≤ Reg.CAL_HOURS) || decide (Reg.CAL_GRP 0 ≤ a ∧ a ≤ Reg.CAL_GRP 2567)

/-- A write of a calibration register, through its clamp; it applies at once. -/
def State.writeCal (s : State) (a : Nat) (v : Word) : State :=
  if a = Reg.CAL_SETPOINT then (s.setRegF a 0 10 (s.clampMv (fld v 0 10))).showActual
  else if a = Reg.CAL_RED then s.setRegF a 0 5 (max s.cal.planRed (min 30 (ceilDiv (fld v 0 5) 5 * 5)))
  else if a = Reg.CAL_GRADE then s.setRegF a 0 2 (max (s.regF a 8 2) (fld v 0 2))
  else if a = Reg.CAL_HOURS then s.setReg a v
  else
    let g := (a - Reg.CAL_GRP 0) / 4
    let k := fld v 0 2
    s.setLine g (match s.shortest g with
      | some m => max k m
      | none => if (s.margins g).isEmpty then k else 3)

/-! ## Digest (R436) -/

/-- Every configuration register, in ascending address. -/
def configAddrs : List Nat := ((List.range 0x300000).map (4 * ·)).filter isConfig

/-- The canonical stream of a configuration. -/
def State.configStream (s : State) (t : Tab Word) : Bytes :=
  be 4 0x4B4A4344 ++ be 1 1 ++ zeros 11
    ++ configAddrs.flatMap (fun a => be 4 a ++ be 4 (tget cfgReset t a).toNat)
    ++ ((s.boot.image.map (·.sections)).getD []).flatMap (fun q => be 2 q.1 ++ be 2 0 ++ q.2)

end Sys2Proof.Machine
end

