-- ==== Sys2Proof/Machine/Image.lean ====
section
/-!
DEFINITION. The configuration image (17_boot_and_configuration.md R417 to R423): blocks, header, sections, and the checks of a slot.
-/
namespace Sys2Proof.Machine

/-! ## Blocks (R411, R417) -/

/-- A byte of the flash; an erased one reads 0xFF. -/
def State.flashByte (s : State) (a : Nat) : Byte := tget (fun _ => 0xFF#8) s.boot.flash a

/-- Bytes of a slot. -/
def State.flashRead (s : State) (slot off n : Nat) : Bytes := (List.range n).map (fun i => s.flashByte (slot * 2 ^ 24 + off + i))

/-- The stream bytes of a block whose CRC is right. -/
def State.flashBlock (s : State) (slot k : Nat) : Option Bytes :=
  let b := s.flashRead slot (4096 * k) 4096
  let d := b.take 4092
  if crc32 d = BitVec.ofNat 32 (fieldAt 4092 4 b) then some d else none

/-- The first n blocks of a slot, if every CRC is right. -/
def State.flashBlocks (s : State) (slot n : Nat) : Option Bytes :=
  (List.range n).foldl (fun (acc : Option Bytes) k => match acc, s.flashBlock slot k with
    | some a, some b => some (a ++ b)
    | _, _ => none) (some [])

/-! ## Sections (R418 to R422) -/

/-- A section of the table: TYPE, its payload, and whether the entry is in its place with reserved fields 0. -/
structure Section where
  type : Nat
  off : Nat
  len : Nat
  clean : Bool
  deriving DecidableEq, Repr

/-- Entry i of the section table. -/
def sectionAt (st : Bytes) (i : Nat) : Section :=
  let e := slice (64 + 16 * i) 16 st
  { type := fieldAt 0 2 e, off := fieldAt 4 4 e, len := fieldAt 8 4 e, clean := fieldAt 2 2 e == 0 && fieldAt 12 4 e == 0 }

/-- The sections of a stream. -/
def sections (st : Bytes) : List Section := (List.range (fieldAt 12 2 st)).map (sectionAt st)

/-- The payloads of a type, in table order. -/
def payloads (st : Bytes) (type : Nat) : List Bytes := ((sections st).filter (fun x => x.type == type)).map (fun x => slice x.off x.len st)

/-- Register records: ADDR and values (R420); none if they are not well formed. -/
def recordsFuel : Nat → Bytes → Option (List (Nat × List Word))
  | 0, b => if b.isEmpty then some [] else none
  | fuel + 1, b =>
    if b.isEmpty then some [] else
    let n := fieldAt 4 2 b
    if b.length < 8 + 4 * n ∨ n = 0 ∨ 256 < n ∨ fieldAt 6 2 b ≠ 0 then none
    else (recordsFuel fuel (b.drop (8 + 4 * n))).map (fun t => (fieldAt 0 4 b, (wordsOf (slice 8 (4 * n) b))) :: t)

/-- The records of a REGS payload. -/
def records (b : Bytes) : Option (List (Nat × List Word)) := recordsFuel b.length b

/-- Entry i of a SURFACES payload: well formed, and the surface if there is one (R421). -/
def surfaceAt (b : Bytes) (i : Nat) : Bool × Option Surface :=
  let e := slice (16 * i) 16 b
  let fmt := fieldAt 0 1 e
  let w := fieldAt 2 2 e
  let h := fieldAt 4 2 e
  let off := fieldAt 8 4 e
  let len := fieldAt 12 4 e
  let res := fieldAt 1 1 e == 0 && fieldAt 6 2 e == 0
  if fmt = 0 then (res, none) else
  let size := if fmt = 1 then 4 * w * h else 1024 + w * h
  (res && decide (fmt ≤ 2) && decide (1 ≤ w ∧ w ≤ 4096) && decide (1 ≤ h ∧ h ≤ 2304) && len == size && decide (off + len ≤ b.length),
    some { indexed := fmt == 2, w := w, h := h, data := slice off len b })

/-- Is a SURFACES payload well formed? -/
def surfacesOk (b : Bytes) : Bool := decide (1024 ≤ b.length) && (List.range 64).all (fun i => (surfaceAt b i).1)

/-- Lock entries: ADDR, MASK, STRIDE, COUNT (R422). -/
def lockEntries (b : Bytes) : List (Nat × Nat × Nat × Nat) :=
  (chunks 16 b).map (fun e => (fieldAt 0 4 e, fieldAt 4 4 e, fieldAt 8 4 e, fieldAt 12 2 e))

/-- Is a LOCKS payload well formed? -/
def locksOk (b : Bytes) : Bool :=
  b.length % 16 == 0 && (chunks 16 b).all (fun e => decide (1 ≤ fieldAt 12 2 e ∧ fieldAt 12 2 e ≤ 1024) && fieldAt 14 2 e == 0)

/-- Do the sections of a list lie apart? -/
def apart : List Section → Bool
  | [] => true
  | x :: t => t.all (fun y => decide (x.off + x.len ≤ y.off) || decide (y.off + y.len ≤ x.off)) && apart t

/-- Check 8: the section table and the payloads of R419 to R422 are well formed and reserved fields are 0. A seed never fails (R474). -/
def sectionsOk (st : Bytes) (len : Nat) : Bool :=
  let ss := sections st
  let count := fun (t : Nat) => (ss.filter (fun x => x.type == t)).length
  allZero (slice 38 26 st) && decide (fieldAt 14 2 st ≤ 1)
    && decide (64 + 16 * ss.length ≤ len - 129)
    && ss.all (fun x => x.clean && decide (1 ≤ x.type ∧ x.type ≤ 5) && decide (64 + 16 * ss.length ≤ x.off) && decide (x.off + x.len ≤ len - 129))
    && apart ss && decide (1 ≤ count 1 ∧ count 1 ≤ 8) && count 2 == 1 && decide (count 3 ≤ 1) && decide (count 4 ≤ 1) && decide (count 5 ≤ 1)
    && (payloads st 1).all (fun b => (records b).isSome) && (payloads st 3).all surfacesOk && (payloads st 4).all locksOk

/-! ## Microcode (R394, R395) -/

/-- The minimum cycle class of an ALU operation (R392). -/
def minCc (op : Nat) : Nat :=
  if op ≤ 1 then 0 else if op ≤ 8 then 1 else if op ≤ 14 then 2 else if op ≤ 18 then 3 else if op = 19 then 4 else if op = 20 then 5 else 6

/-- Does the loader accept a microword of a program of `len` words (R395)? -/
def microOk (len : Nat) (u : BitVec 128) : Bool :=
  let m := microWord u
  uf u 96 32 == 0 && decide (m.next < len) && decide (m.alt < len) && decide (m.alu ≤ 0x16) && decide (m.xop ≤ 13) && decide (m.cond ≤ 7)
    && decide (minCc m.alu ≤ m.cc) && (m.xop == 0 || m.alu == 0) && (m.xop != 9 || decide (m.rd ≤ 28))

/-- Microword i of a payload. -/
def payloadWord (b : Bytes) (i : Nat) : BitVec 128 := BitVec.ofNat 128 (beNat (slice (520 + 16 * i) 16 b))

/-- Dispatch entry i of a payload. -/
def payloadDisp (b : Bytes) (i : Nat) : Nat := fieldAt (8 + 2 * i) 2 b

/-- Does the loader accept a microcode payload? -/
def microcodeOk (b : Bytes) : Bool :=
  let len := fieldAt 4 2 b
  fieldAt 3 1 b == 0 && fieldAt 6 2 b == 0 && decide (1 ≤ len ∧ len ≤ 16384) && b.length == 520 + 16 * len
    && (List.range 256).all (fun i => decide (payloadDisp b i < len)) && (List.range len).all (fun i => microOk len (payloadWord b i))

/-- A control store from its words and dispatch entries. -/
def storeOf (len : Nat) (word : Nat → BitVec 128) (disp : Nat → Nat) : Store :=
  { words := (List.range len).foldr (fun i t => if word i = 0#128 then t else (i, word i) :: t) []
    disp := (List.range 256).foldr (fun i t => if disp i = 0 then t else (i, disp i) :: t) []
    length := len }

/-! ## The checks of a slot (R423) -/

/-- What a slot check found: the reason, and the stream as far as IMAGE_LEN once every CRC is right. -/
structure SlotCheck where
  reason : Nat
  stream : Bytes := []
  deriving DecidableEq, Repr

/-- Check 2 on the header. -/
def headerOk (h : Bytes) : Bool :=
  fieldAt 0 4 h == 0x4B4A494D && fieldAt 4 1 h == 1 && decide (fieldAt 5 1 h ≤ 3) && decide (fieldAt 6 1 h ≤ 128)
    && decide (256 ≤ fieldAt 8 4 h ∧ fieldAt 8 4 h ≤ 16760832) && decide (1 ≤ fieldAt 12 2 h ∧ fieldAt 12 2 h ≤ 16)

/-- Is an operator key slot programmed and not revoked (R484)? -/
def State.keyUsable (s : State) (k : Nat) : Bool :=
  (tget (fun _ => none) s.boot.otp.keys k).isSome && s.boot.otp.revoked / 2 ^ k % 2 == 0

/-- Does an operator public key hash to a usable slot's hash? -/
def State.opKeyOk (s : State) (k : Nat) (pub : Bytes) : Bool :=
  s.keyUsable k && tget (fun _ => none) s.boot.otp.keys k == some (sha256 pub)

/-- The first check from the fourth on that a stream fails, or 0. -/
def State.streamReason (s : State) (st : Bytes) : Nat :=
  let len := st.length
  let pub := slice (len - 129) 65 st
  if !s.opKeyOk (fieldAt 5 1 st) pub then 4
  else if !ecdsaVerify pub (sha256 (st.take (len - 64))) (slice (len - 64) 64 st) then 5
  else if fieldAt 6 1 st < s.boot.otp.rollback then 6
  else if fieldAt 7 1 st ≠ 0xB0 then 7
  else if !sectionsOk st len then 8
  else if !(payloads st 2).all microcodeOk then 9 else 0

/-- The check of a slot, the flash answering every read. -/
def State.checkSlot (s : State) (slot : Nat) : SlotCheck := match s.flashBlock slot 0 with
  | none => { reason := 3 }
  | some h =>
    if !headerOk h then { reason := 2 } else
    let len := fieldAt 8 4 h
    match s.flashBlocks slot (ceilDiv len 4092) with
    | none => { reason := 3 }
    | some b => let st := b.take len; { reason := s.streamReason st, stream := st }

/-- What the device keeps of an image. -/
def imageInfo (st : Bytes) : ImageInfo :=
  let mc := (payloads st 2).headD []
  { keySlot := fieldAt 5 1 st, rollback := fieldAt 6 1 st, hash := sha256 (st.take (st.length - 64)), mcBase := fieldAt 0 2 mc, mcPatch := fieldAt 2 1 mc
    sections := [2, 3, 4].flatMap (fun t => (payloads st t).map (fun b => (t, sha256 b))) }

end Sys2Proof.Machine
end

