-- ==== Sys2Proof/Machine/Boot.lean ====
section
/-!
DEFINITION. Boot (17_boot_and_configuration.md R410 to R425; 12_power_fail.md R313; 20_security.md R480 to R483): reset, the boot steps, maintenance mode, and the
flash (R412, R426 to R428).
-/
namespace Sys2Proof.Machine

/-! ## Reset -/

/-- Any reset: every register and block takes its reset value; the journal memory, the flash, the fuses, the test port and the pins stay, and so
do the commands that wait. -/
def State.fullReset (s : State) : State :=
  let b := s.boot
  let p := s.power
  { State.reset with
    pending := s.pending
    freeCtr := s.freeCtr
    wire := s.wire
    power := { journal := p.journal, vin := p.vin, pfail := p.pfail, goodSince := p.goodSince.map (fun _ => 0) }
    boot := { flash := b.flash, otp := { keys := b.otp.keys, revoked := b.otp.revoked, rollback := b.otp.rollback }, trng := b.trng
              trngFails := b.trngFails, straps := b.straps, refA := b.refA, refB := b.refB, jtag := b.jtag, nporLow := b.nporLow } }

/-- Replace the boot state. -/
def State.setBoot (s : State) (b : BootSt) : State := { s with boot := b }

/-- Set the boot phase. -/
def State.setPhase (s : State) (p : BootPhase) : State := { s with boot := { s.boot with phase := p, tries := 0 } }

/-- Steps 1 and 2: straps, references, monitors (R410, R413, R463, R467); EXTEST, CLAMP and HIGHZ end (R513). -/
def State.bootStart (s : State) (e : BootEnv) : State :=
  let b := s.boot
  let jtag := if b.jtag = 0 ∨ b.jtag = 4 ∨ b.jtag = 5 then 0xFF else b.jtag
  let s1 := { s with
    boot := { b with phase := .journal, straps := e.straps.val, refA := e.refA, refB := e.refB, unwrapOk := e.unwrapOk, nporLow := false, jtag := jtag, tries := 0 }
    power := { s.power with vin := e.mv, pfail := false }
    cal := { s.cal with hoursAt := s.now } }
  ((s1.setRegF Reg.GLB_BOOT_STATUS 16 3 e.straps.val).refCal e.refs).readMonitors e.rings

/-! ## The boot record (R416) -/

/-- A boot-record copy. -/
def State.bootCopy (s : State) (k : Nat) : Bytes := readJournal s.power.journal (128 * k) 128

/-- Is a copy valid? -/
def copyOk (b : Bytes) : Bool := fieldAt 0 4 b == 0x4B4A4252 && crc32 (b.take 124) == BitVec.ofNat 32 (fieldAt 124 4 b)

/-- The current copy: the valid one with the higher count; copy 0 wins a tie. -/
def State.currentCopy (s : State) : Option Nat :=
  let a := s.bootCopy 0
  let b := s.bootCopy 1
  if copyOk a then (if copyOk b && decide (fieldAt 4 4 a < fieldAt 4 4 b) then some 1 else some 0)
  else if copyOk b then some 1 else none

/-- A copy's bytes from its PORTS and MACS. -/
def copyBytes (count slot : Nat) (ports : Bytes) : Bytes :=
  let d := be 4 0x4B4A4252 ++ be 4 count ++ be 1 slot ++ zeros 3 ++ ports ++ zeros 8
  d ++ be 4 (crc32 d).toNat

/-- PORTS and MACS as the ports hold them. -/
def State.portFields (s : State) : Bytes :=
  (List.range 4).flatMap (fun p => be 4 (s.reg (Reg.PRT_CFG p)).toNat ++ be 4 (s.reg (Reg.PRT_VLAN p)).toNat ++ be 4 (s.reg (Reg.PRT_IP4_ADDR p)).toNat
    ++ be 1 (s.regF (Reg.PRT_IP4_PFX p) 0 6) ++ be 1 0 ++ be 2 (s.regF (Reg.PRT_KT_UDP p) 0 16) ++ be 4 (s.reg (Reg.PRT_IP4_GW p)).toNat)
  ++ (List.range 4).flatMap (fun p => be 2 (s.regF (Reg.PRT_MAC_HI p) 0 16) ++ be 4 (s.reg (Reg.PRT_MAC_LO p)).toNat)

/-- Step 8: the copy that is not current is written. -/
def State.writeBootCopy (s : State) (slot : Nat) (ports : Bytes) : State :=
  let k := match s.boot.copy with
    | some 0 => 1
    | _ => 0
  let b := copyBytes (s.reg Reg.GLB_BOOT_COUNT).toNat slot ports
  { s with power := { s.power with journal := writeJournal s.power.journal (128 * k) b } }

/-- The committed manifest that the journal holds: JRN_LAST and the manifest (R307, R313). -/
def State.journalManifest (s : State) : Nat × Bytes :=
  let j := s.power.journal
  let r := readJournal j 0x100 64
  let st := fieldAt 4 1 r
  let len := fieldAt 12 4 r
  if fieldAt 0 4 r ≠ 0x4B4A4352 then (0, [])
  else if st = 0xA5 then (2, [])
  else if st ≠ 0x5A then (0, [])
  else if 2 ^ 23 < len then (2, [])
  else
    let m := readJournal j 0x200 len
    if sha256 m = slice 16 32 r then (1, m) else (2, [])

/-- Step 3: boot-record copies and commit record. -/
def State.bootJournal (s : State) : State :=
  let cur := s.currentCopy
  let count := match cur with
    | some k => fieldAt 4 4 (s.bootCopy k) + 1
    | none => 1
  let s1 := (s.setReg Reg.GLB_BOOT_COUNT (BitVec.ofNat 32 count)).setRegBit Reg.GLB_BOOT_STATUS 15 cur.isNone
  let s2 := { s1 with boot := { s1.boot with copy := cur } }
  let m := s.journalManifest
  let s3 := s2.setRegF Reg.ISA_STATUS 8 2 m.1
  if m.1 = 1 then { s3 with power := { s3.power with resend := m.2 } }
  else if m.1 = 2 then (s3.setRegBit Reg.ISA_STATUS 16 true).raiseEv 82
  else s3

/-! ## Loading (R395, R421, R422, R429, R430, R437) -/

/-- One register of a REGS record: the field's own clamp alone; an unaligned or unassigned address, or a register without an RW field, is skipped
and counted. -/
def State.loadReg (s : State) (a : Nat) (v : Word) : State :=
  if a % 4 ≠ 0 ∨ assigned a = false then s.bump32 Reg.GLB_BOOT_SKIPPED 1
  else match findRow a with
    | none => s.bump32 Reg.GLB_BOOT_SKIPPED 1
    | some r =>
      if !r.fields.any (fun f => f.acc == .rw) then s.bump32 Reg.GLB_BOOT_SKIPPED 1
      else if isCal a then s.writeCal a v
      else s.setReg a (writeFields r.fields (fun _ => true) (s.reg a) v)

/-- The registers of a record, ascending. -/
def State.loadRecord (s : State) (a : Nat) : List Word → State
  | [] => s
  | v :: t => (s.loadReg a v).loadRecord (a + 4) t

/-- The microcode goes into the eight stores (R387, R396). -/
def State.loadMicrocode (s : State) (b : Bytes) : State :=
  let st := storeOf (fieldAt 4 2 b) (payloadWord b) (payloadDisp b)
  let v := BitVec.ofNat 32 (fieldAt 0 2 b + fieldAt 2 1 b * 65536)
  let d := BitVec.ofNat 32 (beNat ((sha256 b).take 4))
  (List.range 8).foldl (fun t i => (t.setReg (Reg.SEQ_MC_VERSION i) v).setReg (Reg.SEQ_MC_DIGEST i) d) { s with ctl := { s.ctl with store := st } }

/-- FP_FREE and FP_LOW follow COUNT, and the buckets of the policers are full (R321, R371). -/
def State.freshPools (s : State) : State :=
  let s1 := (List.range 8).foldl (fun t p => let n := t.regF (Reg.FP_COUNT p) 0 22
    (t.setReg (Reg.FP_FREE p) (BitVec.ofNat 32 n)).setReg (Reg.FP_LOW p) (BitVec.ofNat 32 n)) s
  (List.range 4).foldl (fun t p =>
    let full : Bucket := { tok := ((t.regF (Reg.HBX_CTL_CBS p) 0 27 * 2000000 : Nat) : Int), last := t.now }
    t.setPort p { t.port p with ctl := full }) s1

/-- Step 6: an accepted image is applied. -/
def State.loadImage (s : State) (slot : Nat) (st : Bytes) : State :=
  let mc := (payloads st 2).headD []
  let s1 := (s.setRegF Reg.GLB_BOOT_STATUS 0 2 slot).loadMicrocode mc
  let rs := (payloads st 1).flatMap (fun b => (records b).getD [])
  let s2 := rs.foldl (fun t r => t.loadRecord r.1 r.2) s1
  let s3 := s2.settle.place437.freshPools
  let surfs := match payloads st 3 with
    | b :: _ => (List.range 64).foldr (fun i t => match (surfaceAt b i).2 with
        | some f => (i, some f) :: t
        | none => t) []
    | [] => []
  let s4 := { s3 with
    surfs := surfs
    boot := { s3.boot with image := some (imageInfo st), frozenImg := fieldAt 14 2 st == 1, locks := (payloads st 4).flatMap lockEntries
                           seed := (payloads st 5).headD [] } }
  let t := s4.configTab
  { s4 with eff := t, img := t }.setReg Reg.GLB_MEM_CAP (BitVec.ofNat 32 (s4.storedMib - 1))

/-- Step 7 begins: the ports in use come up. -/
def State.startMemory (s : State) : State :=
  (s.memPortList.foldl (fun t p => t.setRegF (Reg.MEM_STATUS p) 0 3 1) s).setPhase .memory

/-! ## Maintenance mode (R414, R415, R424, R425) -/

/-- The RW bits of every register return to reset; what the device reports of itself stays (log entry 19). -/
def State.resetConfig (s : State) : State :=
  let back := fun (a : Nat) (v : Word) => let m := BitVec.ofNat 32 (rwMask a); (v &&& ~~~m) ||| (regReset a &&& m)
  let regs := s.regs.filterMap (fun q => let w := back q.1 q.2; if w = regReset q.1 then none else some (q.1, w))
  { s with regs := regs, eff := [], pend := [], img := [], surfs := [], dma := [], pools := []
           boot := { s.boot with image := none, frozenImg := false, locks := [], seed := [] } }

/-- The ROM program's bytes, in the layout of the WORDS of R394. -/
def romBytes : Bytes := (List.range Config.romLength).flatMap (fun i => be 16 (Config.romWord i).toNat)

/-- Port n's settings in maintenance mode from PORTS and MACS of a copy: CONTROL role only (R425). -/
def State.portFromCopy (s : State) (b : Bytes) (p : Nat) : State :=
  let e := slice (12 + 20 * p) 20 b
  let w := fun (off : Nat) => BitVec.ofNat 32 (fieldAt off 4 e)
  let mac := fieldAt (92 + 6 * p) 6 b
  let set := fun (t : State) (a : Nat) (v : Word) => t.setReg a (clampReg a (v &&& BitVec.ofNat 32 (rwMask a)))
  let s1 := set (set (set (set s (Reg.PRT_CFG p) (w 0)) (Reg.PRT_VLAN p) (w 4)) (Reg.PRT_IP4_ADDR p) (w 8)) (Reg.PRT_IP4_GW p) (w 16)
  let s2 := set (set s1 (Reg.PRT_IP4_PFX p) (BitVec.ofNat 32 (fieldAt 12 1 e))) (Reg.PRT_KT_UDP p) (BitVec.ofNat 32 (fieldAt 14 2 e))
  let s3 := set (set s2 (Reg.PRT_MAC_LO p) (BitVec.ofNat 32 mac)) (Reg.PRT_MAC_HI p) (BitVec.ofNat 32 (mac / 2 ^ 32))
  s3.setRegF (Reg.PRT_CFG p) 8 4 4

/-- Port n's settings where no copy is valid: reset values, and the MAC formed from DEVICE_ID. -/
def State.portDefault (s : State) (p : Nat) : State :=
  let mac := (2 + 4 * p) * 2 ^ 40 + beNat (slice 3 5 deviceIdBytes)
  ((s.setReg (Reg.PRT_MAC_LO p) (BitVec.ofNat 32 mac)).setReg (Reg.PRT_MAC_HI p) (BitVec.ofNat 32 (mac / 2 ^ 32))).setRegF (Reg.PRT_CFG p) 8 4 4

/-- The bytes 12 to 115 that the boot record takes in maintenance mode: those of the current copy, else those of R425. -/
def State.maintPorts (s : State) : Bytes := match s.boot.copy with
  | some k => slice 12 104 (s.bootCopy k)
  | none => s.portFields

/-- Steps 6M and 7M. -/
def State.enterMaint (s : State) (cause : Nat) : State :=
  let s0 := s.resetConfig
  -- GRADE never falls below the measured grade (R467)
  let s1 := s0.setRegF Reg.CAL_GRADE 0 2 (s0.regF Reg.CAL_GRADE 8 2)
  let s2 := (s1.setRegF Reg.GLB_BOOT_STATUS 0 2 3).setRegF Reg.GLB_BOOT_STATUS 12 3 cause
  let s3 := (List.range 8).foldl (fun t p => let u := if t.memState p = 4 then t else t.setRegF (Reg.MEM_STATUS p) 0 3 0
    (u.setReg (Reg.SEQ_MC_VERSION p) 0#32).setReg (Reg.SEQ_MC_DIGEST p) 0#32) s2
  let s4 := { s3 with ctl := { s3.ctl with store := storeOf Config.romLength Config.romWord (fun i => (Config.romDispatch i).toNat), seqs := [] } }
  let s5 := s4.setReg (Reg.SEQ_MC_DIGEST 0) (BitVec.ofNat 32 (beNat ((sha256 romBytes).take 4)))
  let s6 := (List.range 4).foldl (fun t p => match t.boot.copy with
    | some k => t.portFromCopy (s.bootCopy k) p
    | none => t.portDefault p) s5.freshPools
  let s7 := (s6.setReg Reg.GLB_MEM_CAP 0#32).setPhase .maintRecord
  { s7 with eff := s7.configTab, img := s7.configTab }.syncState

/-! ## Keys (R480 to R483, R474) -/

/-- Bytes of the TRNG. -/
def State.trngBytes (s : State) (n : Nat) : Bytes × State :=
  ((List.range n).map (fun i => Config.trngByte (s.boot.trng + i)), { s with boot := { s.boot with trng := s.boot.trng + n } })

/-- A private scalar from the TRNG, 1 to n − 1. -/
def State.newScalar (s : State) : Nat × State := let r := s.trngBytes 40; (beNat r.1 % (p256N - 1) + 1, r.2)

/-- The CERT object for a per-boot public key (R283). -/
def State.makeCert (s : State) (pub : Bytes) : Bytes :=
  let t := s.taiNs
  let d := be 4 0x4B4A4B43 ++ deviceIdBytes ++ be 4 (s.reg Reg.GLB_BOOT_COUNT).toNat ++ be 6 (t / 1000000000) ++ be 4 (t % 1000000000)
    ++ be 1 s.quality ++ be 1 0 ++ pub
  d ++ ecdsaSign Config.identityKey (sha256 d)

/-- The per-boot key, its CERT and SEAL_KEY_ID. -/
def State.makeBootKey (s : State) : State :=
  let r := s.newScalar
  let pub := pubOf r.1
  let s1 := { r.2 with seals := { r.2.seals with bootKey := some r.1, cert := r.2.makeCert pub } }
  s1.setRegs (Reg.SEAL_KEY_ID 0) (wordsOf (sha256 pub))

/-- Apply a register of the seed: CAL_SETPOINT to CAL_HOURS at once, LINE at its group's first measurement; anything else is skipped. Answers whether
it was one of these. -/
def State.seedReg (s : State) (a : Nat) (v : Word) : Bool × State :=
  if a % 4 ≠ 0 ∨ isCal a = false then (false, s)
  else if a ≤ Reg.CAL_HOURS then (true, s.writeCal a v)
  else
    let g := (a - Reg.CAL_GRP 0) / 4
    let seed := tput (fun _ => 0) s.cal.seed g (fld v 0 2 + 1)
    (true, { s with cal := { s.cal with seed := seed } })

/-- The calibration seed (R473, R474). -/
def State.applySeed (s : State) : State :=
  let b := s.boot.seed
  if b.isEmpty then s else
  match (if fieldAt 0 4 b = 0x4B4A4353 ∧ fieldAt 4 1 b = 1 ∧ slice 8 8 b = deviceIdBytes ∧ 32 ≤ b.length then records (b.drop 32) else none) with
  | none => s.setRegF Reg.CAL_STATUS 0 2 2
  | some rs =>
    let regs := rs.flatMap (fun r => r.2.zipIdx.map (fun q => (r.1 + 4 * q.2, q.1)))
    let x := regs.foldl (fun (t : Bool × State) q => let u := t.2.seedReg q.1 q.2; (t.1 && u.1, u.2)) (true, s)
    x.2.setRegF Reg.CAL_STATUS 0 2 (if x.1 then 1 else 3)

/-- Boot stops at step 9: FAULT_N is asserted and no port is enabled (R480, R483). -/
def State.bootStop (s : State) : State := (s.setPhase .stopped).syncState

/-! ## Epochs (R433, R434) -/

/-- The registers whose announced value differs. -/
def cfgDiff (old new : Tab Word) : List Nat :=
  ((tkeys old ++ tkeys new).filter (fun a => tget cfgReset old a != tget cfgReset new a)).eraseDups

/-- A full bucket of a policer (R321). -/
def State.fullBucket (s : State) (b : Bucket) (cbs : Nat) : Bucket := b.restart cbs s.now

/-- The change of one register takes effect: a policer's bucket is filled (R321), a shaper's is emptied (R326). `old` is the former configuration. -/
def State.applyCfg (old : Tab Word) (s : State) (a : Nat) : State :=
  let same := fun (mask : Word) => tget cfgReset old a &&& mask == s.cfg a &&& mask
  if 0x100000 ≤ a ∧ a < 0x104000 then
    if a % 16 = 0 && same 1#32 then s else
    let n := (a - 0x100000) / 16
    let b := s.fullBucket (tget (fun _ => {}) s.net.pol n) (s.cfgF (Reg.HBX_POL_CBS n) 0 27)
    { s with net := { s.net with pol := tput (fun _ => {}) s.net.pol n b } }
  else if 0x108000 ≤ a ∧ a < 0x108080 then
    if a % 32 = 0 && same 1#32 then s else
    let p := (a - 0x108000) / 32
    s.setPort p { s.port p with ctl := s.fullBucket (s.port p).ctl (s.cfgF (Reg.HBX_CTL_CBS p) 0 27) }
  else if 0x110000 ≤ a ∧ a < 0x114000 then
    if a % 16 = 0 then s else
    let q := (a - 0x110000) / 16
    s.setEgq q { s.egq q with shaper := (s.egq q).shaper.restart 0 s.now }
  else if 0x118000 ≤ a ∧ a < 0x118040 then
    let p := (a - 0x118000) / 16
    s.setPort p { s.port p with shaper := (s.port p).shaper.restart 0 s.now }
  else s

/-- The announcement of an epoch: GLB_EPOCH and GLB_DIGEST change in one instant (R434). -/
def State.announceEpoch (s : State) (n : Nat) (t : Tab Word) : State :=
  let e := BitVec.ofNat 32 n
  let s1 := (s.setReg Reg.GLB_EPOCH e).setReg Reg.GLB_EPOCH_PEND e
  let s2 := s1.setRegs (Reg.GLB_DIGEST 0) (wordsOf (sha256 (s1.configStream t)))
  { (s2.setRegBit Reg.GLB_CFG_STATUS 24 true).setRegBit Reg.GLB_CFG_STATUS 0 false with eff := t }

/-- A sequencer starts at address 0 of its normal bank (R390). -/
def State.startSeq (s : State) (i : Nat) : State := s.setSeq i { state := .running, queue := (s.seq i).queue }

/-- Steps 8 to 11 of a normal boot. -/
def State.finishBoot (s : State) : State :=
  let s1 := s.writeBootCopy (s.regF Reg.GLB_BOOT_STATUS 0 2) s.portFields
  if !s1.boot.unwrapOk || decide (16 ≤ s1.boot.trngFails) then s1.bootStop else
  let s0 := s1.applySeed.makeBootKey.announceEpoch 1 s1.eff
  let s2 := (cfgDiff [] s0.eff).foldl (State.applyCfg []) s0
  let s3 := (List.range 8).foldl State.startSeq s2
  let s4 := (List.range 4).foldl State.enablePort s3
  let s5 := { s4 with cal := { s4.cal with replanAt := some (s4.now + sT 1) } }
  ((s5.setPhase .running).settleEvents).syncState

/-- Steps 8M to 11M; `jrn`: the journal works. -/
def State.finishMaint (s : State) (jrn : Bool) : State :=
  let s1 := if jrn && s.regF Reg.GLB_BOOT_STATUS 12 3 != 3 then s.writeBootCopy 0xFF s.maintPorts else s
  if !s1.boot.unwrapOk then s1.bootStop else
  let s2 := (s1.startSeq 0)
  let s3 := (List.range 4).foldl State.enablePort s2
  ((s3.setPhase .running).settleEvents).syncState

/-! ## The boot sequence (R413, R414) -/

/-- A slot's check came out: the next slot, the load, or maintenance mode. -/
def State.slotDone (s : State) (k : Nat) (c : SlotCheck) : State :=
  let s1 := s.setRegF Reg.GLB_BOOT_STATUS (4 + 4 * k) 4 c.reason
  if c.reason = 0 then (s1.loadImage k c.stream).startMemory
  else if k = 0 then s1.setPhase (.slot 1) else s1.enterMaint 1

/-- Boot goes one step further, where nothing outside must happen first. A power-fail sequence stops it. -/
def State.bootContinue (s : State) : State :=
  if s.power.failing then s else
  match s.boot.phase with
  | .journal =>
    let s1 := s.bootJournal
    if s1.boot.straps / 4 % 2 = 1 then s1.enterMaint 2 else s1.setPhase (.slot 0)
  | .slot k => s.slotDone k (s.checkSlot k)
  | .memory => if s.memPortList.all (fun p => s.memState p == 2) then s.setPhase .record else s
  | .record => s.finishBoot
  | .maintRecord => s.finishMaint true
  | _ => s

/-- VIN_THR in mV. -/
def State.vinThr (s : State) : Nat := 10 * s.cfgF Reg.ISA_PF_CFG 0 10

/-- The cause that the inputs give, 0 for none; PFAIL_N goes first (R297). -/
def State.failCause (s : State) (pf : Bool) (mv : Nat) : Nat :=
  if pf && s.cfgBit Reg.ISA_PF_CFG 16 then 1 else if mv < s.vinThr then 2 else 0

/-- NPOR_N is released with the device in reset: the time bases run from 0 (R79, R317). -/
def State.nporRelease (s : State) : State :=
  { s with
    boot := { s.boot with nporLow := false }
    now := if s.boot.nporLow then 0 else s.now
    power := { s.power with goodSince := if s.boot.nporLow then s.power.goodSince.map (fun _ => 0) else s.power.goodSince } }

/-- BOOT_START: NPOR_N is released (R413, R511). Where the condition of VIN_THR or PFAIL_N is present, boot waits for that of R311 (R312); VIN below
2.30 V holds the chip in reset (R298). A release while a reset is deferred does not cancel it (R510). -/
def execBootStart (e : BootEnv) (s : State) : Host.Outcome State Fault Refusal :=
  if s.boot.phase = .off ∧ s.power.failing = false then
    let s1 := s.nporRelease
    if s1.failCause s1.power.pfail e.mv = 0 then .next (s1.bootStart e)
    else .next { s1 with power := { s1.power with vin := e.mv, goodSince := none } }
  else .next { s with boot := { s.boot with nporLow := false } }

/-- The pending IMAGE_INSTALL that reads a slot: the oldest ticket whose slot's queue is programmed (R428). -/
def State.installOf (s : State) (slot : Nat) : Option Ticket :=
  if s.boot.queue.any (fun q => q.slot == slot) then none
  else s.mgmt.tickets.find? (fun t => t.kind == 6 && !t.ready && t.param 0 1 == slot)

/-- The 44-byte result of an IMAGE_INSTALL (R428). What the check did not come to read is open. -/
def State.installResult (s : State) (slot verdict : Nat) (st : Bytes) : Bytes × State :=
  let i := imageInfo st
  let head := be 1 slot ++ be 1 verdict
  if st.isEmpty then
    let r := s.fresh 328
    let f := be 41 r.1
    (head ++ f.take 4 ++ zeros 2 ++ f.drop 5, r.2)
  else
    let tail := be 1 i.rollback ++ zeros 2 ++ be 4 st.length ++ i.hash
    if verdict = 0 ∨ verdict = 9 then (head ++ be 2 i.mcBase ++ be 1 i.mcPatch ++ tail, s)
    else let r := s.fresh 24; (head ++ be 3 r.1 ++ tail, r.2)

/-- An IMAGE_INSTALL ends with a verdict (R427, R428). -/
def State.installDone (s : State) (t : Ticket) (slot verdict : Nat) (st : Bytes) : State :=
  let r := s.installResult slot verdict st
  let s1 := r.2.readyTicket t.num (if verdict = 0 then 0 else 1) r.1
  let s2 := if verdict = 0 then { s1 with boot := { s1.boot with verified := some slot } } else s1
  if verdict = 0 && s2.maintenance then { s2 with power := { s2.power with resetAt := some (s2.now + sT 1) } } else s2

/-- FLASH_READ_TIMEOUT: a flash read gives no data within 1 ms; a third failure is reason 1 (R412). -/
def execFlashReadTimeout (slot : Fin 2) (s : State) : Host.Outcome State Fault Refusal :=
  let k := slot.val
  let n := s.boot.tries + 1
  let s1 := { s with boot := { s.boot with tries := n } }
  let s2 := { s with boot := { s.boot with tries := 0 } }
  if s.boot.phase = .slot k then .next (if n < 3 then s1 else s2.slotDone k { reason := 1 })
  else match s.installOf k with
    | some t => .next (if n < 3 then s1 else s2.installDone t k 1 [])
    | none => .next s

/-- JOURNAL_READ_TIMEOUT: a journal read or write of boot does not complete within 10 ms (R413, R424). -/
def execJournalReadTimeout (s : State) : Host.Outcome State Fault Refusal :=
  match s.boot.phase with
  | .journal =>
    let s1 := (s.setReg Reg.GLB_BOOT_COUNT 1#32).setRegBit Reg.GLB_BOOT_STATUS 15 true
    .next (s1.enterMaint 3)
  | .record => .next (s.enterMaint 3)
  | .maintRecord => .next (s.finishMaint false)
  | _ => .next s

/-- MEM_PORT_INIT_DONE: a port's bring-up ends, with its first probe; or a channel does not match (R351, R424). -/
def execMemPortInitDone (p : Fin 8) (ok : Bool) (ms : List Margin) (s : State) : Host.Outcome State Fault Refusal :=
  if s.boot.phase ≠ .memory ∨ s.memState p ≠ 1 then .next s
  else if ok then
    let s1 := s.setMemPort p { s.memPort p with upAt := s.now, lastReport := s.now, lastScrub := s.now, lastRefresh := s.now }
    .next ((s1.probe p ms).setRegF (Reg.MEM_STATUS p) 0 3 2)
  else
    let s1 := ((s.setRegF (Reg.MEM_STATUS p) 0 3 4).raiseFault { src := 112 + p.val }).setCause (112 + p.val) true
    .next (s1.enterMaint 4)

/-! ## Installing an image (R426 to R428) -/

/-- Is a slot protected against IMAGE_BLOCK? -/
def State.slotProtected (s : State) (slot : Nat) : Bool :=
  s.mgmt.tickets.any (fun t => t.kind == 6 && !t.ready && t.param 0 1 == slot)
    || (!s.maintenance && s.regF Reg.GLB_BOOT_STATUS 0 2 == slot && s.boot.verified != some (1 - slot))

/-- IMAGE_BLOCK's response BODY, or none for BAD_REQUEST. -/
def State.imageBlock (s : State) (body : Bytes) : Option Bytes × State :=
  let slot := fieldAt 0 1 body
  let off := fieldAt 4 4 body
  let n := s.boot.queue.length
  if body.length ≠ 1032 ∨ 1 < slot ∨ off % 1024 ≠ 0 ∨ 16776192 < off then (none, s)
  else if s.slotProtected slot then (some (be 1 2 ++ zeros 1 ++ be 2 n), s)
  else if 64 ≤ n then (some (be 1 1 ++ zeros 1 ++ be 2 n), s)
  else
    let v := if s.boot.verified = some slot then none else s.boot.verified
    (some (be 1 0 ++ zeros 1 ++ be 2 (n + 1)),
      { s with boot := { s.boot with verified := v, queue := s.boot.queue ++ [{ slot := slot, off := off, data := body.drop 8 }] } })

/-- Program bytes: a cell takes the AND of what it holds and what is written (PRESUMED, log entry 20). -/
def programFlash (t : Tab Byte) (a : Nat) : Bytes → Tab Byte
  | [] => t
  | b :: r => programFlash (tput (fun _ => 0xFF#8) t a (tget (fun _ => 0xFF#8) t a &&& b)) (a + 1) r

/-- FLASH_PROGRAM_DONE: the oldest kilobyte is programmed, after its sector's erase where due; `ok` false: the flash reports a failure (R426, R428). -/
def execFlashProgramDone (ok : Bool) (s : State) : Host.Outcome State Fault Refusal :=
  match s.boot.queue with
  | [] => .next s
  | w :: t =>
    let a := w.slot * 2 ^ 24 + w.off
    let erased := if w.off % 4096 = 0 then s.boot.flash.filter (fun q => q.1 / 4096 != a / 4096) else s.boot.flash
    let old := if w.off = 0 then s.boot.failed.filter (· != w.slot) else s.boot.failed
    let b := s.boot
    if ok then .next (s.setBoot { b with queue := t, flash := programFlash erased a w.data, failed := old })
    else .next (s.setBoot { b with queue := t, failed := if old.contains w.slot then old else old ++ [w.slot] })

/-- IMAGE_INSTALL_DONE: the slot has been read and checked (R428). -/
def execImageInstallDone (num : Nat) (s : State) : Host.Outcome State Fault Refusal :=
  match s.ticket num with
  | none => .next s
  | some t =>
    let slot := t.param 0 1
    if t.kind ≠ 6 ∨ t.ready = true ∨ s.boot.queue.any (fun q => q.slot == slot) = true then .next s
    else
      let s1 := { s with boot := { s.boot with tries := 0 } }
      if s.boot.failed.contains slot then .next (s1.installDone t slot 3 [])
      else let c := s1.checkSlot slot; .next (s1.installDone t slot c.reason c.stream)

/-- MAINTENANCE_INSTALL_RESET: 1 s after a ticket with VERDICT 0 became READY (R428). -/
def execMaintenanceInstallReset (s : State) : Host.Outcome State Fault Refusal :=
  match s.power.resetAt with
  | some t => if t ≤ s.now ∧ s.maintenance = true then .next s.fullReset else .next s
  | none => .next s

/-- A commit that is complete is followed by the reset that waits for it. -/
def State.resetIfDone (s : State) : State := if s.power.phase = .done then s.fullReset else s

/-- The commit that a reset orders: safe state under R314 without a source (R428, R510). -/
def State.commitForReset (s : State) : State :=
  let p := s.power
  ((({ s with power := { p with quiet := true, resetAfter := true } }).enterSafe (s.regF Reg.FLT_GLOBAL 8 8) []).syncState).resetIfDone

/-- A write of the key to GLB_RESET (R428). -/
def State.glbReset (s : State) : State :=
  if s.power.failing || s.boot.phase == .off then s
  else if s.maintenance then s.fullReset
  else if s.power.safe then
    (if s.power.phase = .done then s.fullReset else { s with power := { s.power with resetAfter := true } })
  else s.commitForReset

/-- GLB_RESET: a write of KEY; every value but 0x0B0B is ignored. -/
def execGlbReset (key : BitVec 16) (s : State) : Host.Outcome State Fault Refusal := .next (if key = 0x0B0B#16 then s.glbReset else s)

end Sys2Proof.Machine
end

