-- ==== Sys2Proof/Machine/Epoch.lean ====
section
/-!
DEFINITION. Configuration epochs after boot (R433 to R435, R438): the sweep, its announcement, and what the announced values change at once.
-/
namespace Sys2Proof.Machine

/-! ## The 150 units (R434, R435) -/

/-- Is an agent that holds configuration out of service: frozen, out of service, in self-test or halted? -/
def State.agentOut (s : State) (a : Nat) : Bool :=
  if 0x40 ≤ a ∧ a < 0xA0 then let u := s.unit a; s.frozen a || s.oos a || u.oos || u.failed || u.test.isSome
  else if 0xA0 ≤ a ∧ a < 0xA8 then s.frozen a || !(s.seq (a - 0xA0)).inService
  else s.frozen a || s.inTest a || s.failedTest a

/-- The agents among the 150 units; the other 36 are always in service. -/
def cfgAgents : List Nat :=
  (List.range 104).map (0x40 + ·) ++ (List.range 4).map (0xA8 + ·) ++ (List.range 4).map (0xAC + ·) ++ (List.range 2).map (0xB0 + ·)

/-- The agents that are out of service now. -/
def State.outAgents (s : State) : List Nat := cfgAgents.filter s.agentOut

/-- Does the stored configuration differ from the announced one? -/
def State.configChanged (s : State) : Bool := s.configTab != s.eff

/-- SWEEP_START: the stored configuration becomes the next epoch (R433). -/
def execSweepStart (s : State) : Host.Outcome State Fault Refusal :=
  if s.sweeping || !s.configChanged || s.power.failing || s.maintenance || s.boot.phase != .running then .next s
  else
    let s1 := { s with pend := s.configTab }
    .next ((s1.setRegBit Reg.GLB_CFG_STATUS 0 true).setReg Reg.GLB_EPOCH_PEND (s.reg Reg.GLB_EPOCH + 1#32))

/-! ## What an announcement changes at once -/

/-- The backlog of a partner is discarded, each sheet counted (R438). -/
def State.dropBacklog (s : State) (n : Nat) : State :=
  s.net.egq.foldl (fun t q =>
    let keep := q.2.sheets.filter (fun x => x.partner != n)
    let lost := q.2.sheets.length - keep.length
    if lost = 0 then t else
    let headGone := q.2.sheets.head? != keep.head?
    let e := { q.2 with sheets := keep, tag := if headGone then none else q.2.tag }
    ((t.setEgq q.1 e).tagQueue q.1).bumpN (Reg.PRT_SHEETS_LOST (q.1 / 256)) lost) s

/-- A partner's EN was cleared: ABORT reason 7 on its sessions, its backlog goes (R438). -/
def State.partnerOff (s : State) (n : Nat) : State :=
  let s1 := (s.net.sess.filter (fun x => x.partner == n)).foldl (fun t x => t.abortSess x (some 7)) s
  s1.dropBacklog n

/-- The effects of an announcement of `new` in place of `old`. -/
def State.announceEffects (s : State) (old new : Tab Word) : State :=
  let d := cfgDiff old new
  let s1 := d.foldl (State.applyCfg old) s
  let off := (List.range 32).filter (fun n => (tget cfgReset old (Reg.GLB_PTN_CFG n)).getLsbD 23 && !s.ptnEn n)
  let s2 := off.foldl State.partnerOff s1
  let mv := s2.regF Reg.CAL_SETPOINT 0 10
  let s3 := if s2.mvCeiling < mv then (s2.setRegF Reg.CAL_SETPOINT 0 10 s2.mvCeiling).showActual else s2
  let s4 := (s3.contexts (fun v => decide (2 ≤ v))).foldl State.expireLeaves s3
  ((s4.memPortList.foldl State.drainDue s4).settleEvents).syncState

/-- The announcement of the running sweep (R434, R435). -/
def State.announceSweep (s : State) : State :=
  let old := s.eff
  let out := s.outAgents
  let s1 := s.announceEpoch (s.reg Reg.GLB_EPOCH_PEND).toNat s.pend
  let s2 := { s1 with boot := { s1.boot with deferred := out, announced := some (s.now, s.epoch, s.digest) } }
  s2.announceEffects old s.pend

/-- EPOCH_ANNOUNCE: every unit in service has acknowledged, and the digest is computed. -/
def execEpochAnnounce (s : State) : Host.Outcome State Fault Refusal :=
  .next (if s.sweeping && !s.power.failing then s.announceSweep else s)

end Sys2Proof.Machine
end

