-- ==== Sys2Proof/Machine/PowerRows.lean ====
section
/-!
DEFINITION. The power-fail sequence (12_power_fail.md R297 to R312, R517), the commit to the journal, and the resets of power and NPOR_N (R311, R510).
-/
namespace Sys2Proof.Machine

/-! ## Step 1 (R300) -/

/-- What contexts and reams lose: units still being assembled, and sheets being filled. -/
def State.dropPartial (s : State) : State :=
  let ctxs := s.ctxs.map (fun q => (q.1, { q.2 with early := [], rtp := { q.2.rtp with held := [], gaps := [], lost := [] }, off := none }))
  let slots := s.seals.slots.map (fun q => (q.1, match q.2.ream with
    | some r => { q.2 with ream := some { r with buf := [] } }
    | none => q.2))
  { s with ctxs := ctxs, seals := { s.seals with slots := slots } }

/-- Sessions are dropped without ABORT, queued frames are not sent, and no record is accepted any more. -/
def State.dropTraffic (s : State) : State :=
  let s1 := { s with net := { s.net with sess := [] }, ctl := { s.ctl with held := [] }, adm := { s.adm with reqs := [] } }
  (List.range 4).foldl (fun t p => t.setPort p { t.port p with sysq := [], waiting := [] }) s1

/-- The memory ports stop, and DRAM keeps nothing. -/
def State.dropMemory (s : State) : State :=
  let s1 := (List.range 8).foldl (fun t p => if t.memState p = 4 then t else
    (t.setMemPort p { t.memPort p with wq := [] }).setRegF (Reg.MEM_STATUS p) 0 3 0) s
  ({ s1 with mem := { s1.mem with cells := s1.mem.cells.filter (fun q => !isDram q.1), poison := [], filled := [] } }).showFill

/-- Stills that are being encoded, or wait for a core, are abandoned too. -/
def State.dropStills (s : State) : State :=
  let s1 := s.units.foldl (fun t q => match q.2.job with
    | some (.still _) => (t.setUnit q.1 { q.2 with job := none, restarted := false }).showUnit q.1
    | _ => t) s
  { s1 with stills := [] }

/-- Shedding: coding work, records, sessions, DMA, memory; the coding array is idle at once, so the core setpoint goes to 0.60 V;
a re-plan that runs is abandoned (R469). -/
def State.powerShed (s : State) : State :=
  let s1 := s.abandonCoding.dropStills.dropPartial.dropTraffic
  let s2 := (tkeys s1.dma).foldl State.dmaAbort s1
  (s2.dropMemory.setRegF Reg.CAL_SETPOINT 16 10 600).setRegBit Reg.CAL_STATUS 4 false

/-! ## The sequence (R299, R312, R517) -/

/-- A sweep at t = 0: announced if its acknowledgements are all in, else abandoned (R312, R435). -/
def State.sweepAtFail (s : State) (acked : Bool) : State :=
  if !s.sweeping then s else if acked then s.announceSweep
  else (s.setRegBit Reg.GLB_CFG_STATUS 0 false).setReg Reg.GLB_EPOCH_PEND (s.reg Reg.GLB_EPOCH)

/-- ISA_STATUS.STATE and CAUSE. -/
def State.showIsa (s : State) (st cause : Nat) : State := (s.setRegF Reg.ISA_STATUS 0 3 st).setRegF Reg.ISA_STATUS 3 2 cause

/-- POWER_LOST in the header of a manifest that is not yet signed (R306). -/
def powerLost (body : Bytes) : Bytes := body.take 6 ++ be 2 1 ++ body.drop 8

/-- Steps 2 to 7, as the state at t = 0 requires. -/
def State.failCommit (s : State) (cause : Nat) : State :=
  let p := s.power
  if !s.canCommit || (p.safe && p.phase == .done) then ({ s with power := { p with phase := .done } }).showIsa 2 cause
  else if p.safe && p.phase == .signing then ({ s with power := { p with body := powerLost p.body } }).showIsa 1 3
  else if p.safe && p.phase == .writing then s.showIsa 1 3
  else (s.commitChains cause).showIsa 1 cause

/-- The sequence starts. -/
def State.powerFail (s : State) (cause : Nat) (acked : Bool) : State :=
  let s1 := s.sweepAtFail acked
  let p := s1.power
  let s2 := { s1 with power := { p with failing := true, resetSend := p.resetAfter } }
  ((s2.powerShed).failCommit cause).syncState

/-- The Isaim's inputs: VIN in mV, and PFAIL_N low. The wait of R311 restarts where its condition no longer holds. -/
def State.senseVin (s : State) (pf : Bool) (mv : Nat) : State :=
  let bad := pf || decide (mv ≤ s.vinThr + 100)
  { s with power := { s.power with vin := mv, pfail := pf, goodSince := if bad then none else s.power.goodSince } }

/-- POWER_FAIL_DETECT: after the 2 µs filter PFAIL_N is low (`pf`) or VIN is `mv`; `acked`: a running sweep has all its acknowledgements. -/
def execPowerFailDetect (pf : Bool) (mv : Nat) (acked : Bool) (s : State) : Host.Outcome State Fault Refusal :=
  let cause := s.failCause pf mv
  let s1 := s.senseVin pf mv
  if cause = 0 ∨ s.power.failing = true ∨ s.boot.phase = .off then .next s1 else .next (s1.powerFail cause acked)

/-! ## The end of a commit -/

/-- The blocks of F154 and F161 to F163 are checked again as a commit completes; `bad` are those that fail (R444). -/
def State.recheck (s : State) (bad : List (Fin 256)) : State :=
  [154, 161, 162, 163].foldl (fun t n => if bad.any (fun b => b.val == n) then t else t.setCause n false) s

/-- A reset that waits takes effect: after the commit, and where R510 says so after the sending. -/
def State.deferredReset (s : State) : State :=
  if s.power.resetAfter && s.power.phase == .done && (!s.power.resetSend || (List.range 4).all (fun p => (s.port p).segs.isEmpty)) then s.fullReset
  else s

/-- JOURNAL_COMMIT_DONE: the commit record reads VALID (R299, R314, R428, R444, R510). Where a safe state had nothing to commit with, the blocks are
checked again. -/
def execJournalCommitDone (bad : List (Fin 256)) (s : State) : Host.Outcome State Fault Refusal :=
  if s.power.phase = .writing then
    let s1 := s.commitDone
    .next ((if s1.power.failing then s1 else s1.recheck bad).deferredReset)
  else if s.power.phase = .done ∧ s.power.safe = true ∧ s.power.failing = false ∧ s.canCommit = false then .next (s.recheck bad)
  else .next s

/-- Of the part in progress, each byte is stored or not: bit i of `choice`. -/
def tearBytes (choice : Nat) (j : Tab Byte) (off : Nat) : Bytes → Tab Byte
  | [] => j
  | b :: t => tearBytes (choice / 2) (if choice % 2 = 1 then tput (fun _ => 0#8) j off b else j) (off + 1) t

/-- VIN_COLLAPSE: VIN stays below 2.30 V for 2 µs; `done` parts of the journal write were complete, the next one is in progress and its bytes are open
(R298). The chip is held in reset until VIN rises again. -/
def execVinCollapse (mv done : Nat) (s : State) : Host.Outcome State Fault Refusal :=
  if 2300 ≤ mv then .next s else
  let parts := if s.power.phase = .writing then s.power.parts else []
  let j := (parts.take done).foldl (fun j q => writeJournal j q.1 q.2) s.power.journal
  let r := match parts.drop done with
    | q :: _ => let f := s.fresh q.2.length; (tearBytes f.1 j q.1 q.2, f.2)
    | [] => (j, s)
  let s1 := { r.2 with power := { r.2.power with journal := r.1, vin := mv, goodSince := none } }
  .next s1.fullReset

/-! ## Return and reset -/

/-- POWER_RETURN: PFAIL_N is high and VIN reads `mv`; above VIN_THR + 100 mV the wait of 100 ms starts (R311). -/
def execPowerReturn (mv : Nat) (s : State) : Host.Outcome State Fault Refusal :=
  let good := if s.vinThr + 100 < mv then some (s.power.goodSince.getD s.now) else none
  .next { s with power := { s.power with vin := mv, pfail := false, goodSince := good } }

/-- Have VIN and PFAIL_N been good for 100 ms? -/
def State.powerGood (s : State) : Bool := match s.power.goodSince with
  | some t => decide (t + msT 100 ≤ s.now)
  | none => false

/-- POWER_RETURN_RESET: after a sequence the Isaim resets and boots; a boot that waited starts (R311, R312). With NPOR_N low the device stays in reset. -/
def execPowerReturnReset (e : BootEnv) (s : State) : Host.Outcome State Fault Refusal :=
  if !s.powerGood then .next s
  else if s.power.failing && s.power.phase == .done then
    .next (if s.boot.nporLow then s.fullReset else s.fullReset.bootStart e)
  else if s.boot.phase == .off && !s.boot.nporLow && !s.power.failing then .next (s.bootStart e)
  else .next s

/-- Does a recognition of power failure fall in this instant: does a POWER_FAIL_DETECT with a cause stand in the queue (log entry 83)? -/
def State.failsNow (s : State) : Bool := s.pending.any (fun c => match c with
  | .powerFailDetect pf mv _ => s.failCause pf mv != 0
  | _ => false)

/-- NPOR_FALL: a recognised fall of NPOR_N (R510). -/
def execNporFall (s : State) : Host.Outcome State Fault Refusal :=
  let s1 := { s with boot := { s.boot with nporLow := true } }
  let p := s.power
  if s.boot.phase = .off then .next s1
  else if p.failing = true ∨ (p.safe = true ∧ p.phase ≠ .done) ∨ s.failsNow = true then
    .next ({ s1 with power := { p with resetAfter := true, resetSend := true } }).deferredReset
  else if p.safe = true ∨ s.maintenance = true ∨ s.epoch = 0 then .next s1.fullReset
  else .next s1.commitForReset

/-! ## Time -/

/-- What happens at a tick with no command: time runs, boot goes on, the memory ports issue queued writes, and a reset that waits takes effect
(log entry 1). -/
def State.idle (s : State) : State := s.tick.announceTimeout.bootContinue.idleIssue.deferredReset

/-- Status pins ST0 to ST7 (R503, R508): low until boot has ended. ST7 changes with every heartbeat interval sent. -/
def State.statusPins (s : State) : List Bool :=
  if s.boot.phase = .running then
    (List.range 4).map s.linkUp ++ [s.quality == 0, s.regF Reg.GLB_STATE 0 3 == 0, s.shed != 0, s.net.hbSeq % 2 == 1]
  else List.replicate 8 false

end Sys2Proof.Machine
end

