-- ==== Sys2Proof/Machine/Security.lean ====
section
/-!
DEFINITION. Keys, fuses and attestation (20_security.md R477 to R489) and the test port (R484, R513).
-/
namespace Sys2Proof.Machine

/-! ## OTP commands (R484, R485) -/

/-- Replace the OTP state. -/
def State.setOtp (s : State) (o : Otp) : State := { s with boot := { s.boot with otp := o } }

/-- An operator key slot is programmed. -/
def State.programmed (s : State) (k : Nat) : Bool := (tget (fun _ => none) s.boot.otp.keys k).isSome

/-- No slot is programmed (R484). -/
def State.unclaimed (s : State) : Bool := !(List.range 4).any s.programmed

/-- Programmed slots, revoked slots, as bits. -/
def State.otpProg (s : State) : Nat := sumNat ((List.range 4).map (fun k => if s.programmed k then 2 ^ k else 0))

/-- The 32 bytes of GLB_SEC_STAGE. -/
def State.stageBytes (s : State) : Bytes := (List.range 8).flatMap (fun k => be 4 (tget (fun _ => 0#32) s.boot.otp.stage k).toNat)

/-- ROLLBACK of the running image. -/
def State.imageRollback (s : State) : Nat := (s.boot.image.map (·.rollback)).getD 0

/-- The RESULT with which a command is refused, 0 if it runs (R485). `keySlot`: the slot of the session's key. -/
def State.otpRefusal (s : State) (keySlot cmd slot : Nat) : Nat :=
  let o := s.boot.otp
  if o.busy.isSome then 5
  else if cmd = 1 then (if s.programmed slot then 1 else 0)
  else if cmd = 2 then
    (if slot = keySlot || !(List.range 4).any (fun k => k != slot && s.keyUsable k) then 2 else 0)
  else if o.rollback < s.imageRollback then 0 else 3

/-- A command of GLB_SEC_OTP_CTRL: 1 PROGRAM, 2 REVOKE, 3 ADVANCE; 0 does nothing (R485). GLB_SEC_STAGE is cleared after every PROGRAM. -/
def State.otpCommand (s : State) (keySlot cmd slot : Nat) : State :=
  if cmd = 0 ∨ 3 < cmd then s else
  let o := s.boot.otp
  let r := s.otpRefusal keySlot cmd slot
  let hash := if cmd = 1 ∧ r = 0 then s.stageBytes else o.hash
  let stage := if cmd = 1 then [] else o.stage
  if r = 0 then s.setOtp { o with busy := some (cmd, slot), hash := hash, stage := stage }
  else s.setOtp { o with result := r, stage := stage }

/-- The key slot of a management session. -/
def State.sessionKey (s : State) (num : Nat) : Option Nat := (s.mgmt.sess.find? (fun x => x.num == num)).map (·.keySlot)

/-- A command of a session; a session that is not open commands nothing. -/
def State.otpOf (s : State) (num cmd slot : Nat) : State := match s.sessionKey num with
  | some k => s.otpCommand k cmd slot
  | none => s

/-- OTP_PROGRAM: session `num` writes the staged hash into a slot. -/
def execOtpProgram (num : Nat) (slot : Fin 4) (s : State) : Host.Outcome State Fault Refusal := .next (s.otpOf num 1 slot)

/-- OTP_REVOKE: session `num` revokes a slot. -/
def execOtpRevoke (num : Nat) (slot : Fin 4) (s : State) : Host.Outcome State Fault Refusal := .next (s.otpOf num 2 slot)

/-- OTP_ADVANCE: session `num` raises the anti-rollback counter. -/
def execOtpAdvance (num : Nat) (s : State) : Host.Outcome State Fault Refusal := .next (s.otpOf num 3 0)

/-- A slot takes a hash. -/
def State.programKey (s : State) (k : Nat) (hash : Bytes) : State :=
  s.setOtp { s.boot.otp with keys := tput (fun _ => none) s.boot.otp.keys k (some hash) }

/-- A slot's revoke fuse is blown: its sessions end at once, with no BYE; their tickets stay. -/
def State.revokeKey (s : State) (k : Nat) : State :=
  let s1 := s.setOtp { s.boot.otp with revoked := s.boot.otp.revoked ||| 2 ^ k }
  { s1 with mgmt := { s1.mgmt with sess := s1.mgmt.sess.filter (fun x => x.keySlot != k) } }

/-- What a fuse failure leaves programmed is open (R485): the hash that a PROGRAM left, and the counter between its value and its target. -/
def State.otpFailed (s : State) (cmd slot : Nat) : State :=
  let o := s.boot.otp
  if cmd = 1 then
    let r := s.fresh 257
    if r.1 % 2 = 1 then r.2.programKey slot (be 32 (r.1 / 2)) else r.2
  else if cmd = 3 then
    let r := s.fresh 32
    r.2.setOtp { o with rollback := o.rollback + r.1 % (s.imageRollback - o.rollback) }
  else s

/-- OTP_COMMAND_DONE: the command ends; `ok` false: a fuse failed to program (RESULT 4). -/
def execOtpCommandDone (ok : Bool) (s : State) : Host.Outcome State Fault Refusal :=
  match s.boot.otp.busy with
  | none => .next s
  | some (cmd, slot) =>
    let o := s.boot.otp
    let s1 := if !ok then s.otpFailed cmd slot
      else if cmd = 1 then s.programKey slot o.hash
      else if cmd = 2 then s.revokeKey slot
      else s.setOtp { o with rollback := s.imageRollback }
    .next (s1.setOtp { s1.boot.otp with busy := none, hash := [], result := if ok then 0 else 4 })

/-! ## The test port (R484, R513) -/

/-- What an instruction code acts as. -/
def State.jtagActs (s : State) (code : Nat) : Nat :=
  if code = 0 ∨ code = 4 ∨ code = 5 ∨ code = 8 ∨ code = 9 then (if s.boot.nporLow then code else 0xFF)
  else if code = 1 ∨ code = 2 then code
  else if code = 0x30 then (if s.unclaimed && !s.boot.nporLow then code else 0xFF)
  else 0xFF

/-- JTAG_INSTRUCTION: Update-IR of a code. -/
def execJtagInstruction (code : BitVec 8) (s : State) : Host.Outcome State Fault Refusal :=
  .next { s with boot := { s.boot with jtag := s.jtagActs code.toNat } }

/-- KEYLOAD: Update-DR of the 258-bit register while KEYLOAD acts. Bits [1:0] name the slot, bits [257:2] hold the hash. -/
def execKeyload (dr : BitVec 258) (s : State) : Host.Outcome State Fault Refusal :=
  if s.boot.jtag = 0x30 ∧ s.unclaimed = true ∧ s.boot.nporLow = false then .next (s.programKey (dr.toNat % 4) (be 32 (dr.toNat / 4)))
  else .next s

/-! ## TRNG (R483) -/

/-- TRNG_TEST_WINDOW: a test window passes or fails. -/
def execTrngTestWindow (pass : Bool) (s : State) : Host.Outcome State Fault Refusal :=
  .next { s with boot := { s.boot with trngFails := if pass then 0 else s.boot.trngFails + 1 } }

/-- Are device nonces available? -/
def State.noncesOn (s : State) : Bool := decide (s.boot.trngFails < 16)

/-! ## Attestation (R486) -/

/-- Bytes 0 to 239 of a report, captured now; the epoch announced before this instant applies. -/
def State.reportBody (s : State) (nonce : Bytes) : Bytes :=
  let t := s.taiNs
  let i := s.boot.image.getD {}
  let hash := if i.hash.isEmpty then zeros 32 else i.hash
  be 4 0x4B4A4154 ++ be 1 1 ++ be 1 (s.regF Reg.GLB_ID 0 8) ++ be 1 s.deviceState ++ be 1 (s.regF Reg.GLB_BOOT_STATUS 0 2) ++ deviceIdBytes
    ++ be 4 (s.reg Reg.GLB_BOOT_COUNT).toNat ++ be 6 (t / 1000000000) ++ be 4 (t % 1000000000) ++ be 1 s.quality
    ++ be 1 (s.otpProg + 16 * (s.boot.otp.revoked % 16)) ++ nonce ++ be 4 s.sealEpoch.1 ++ s.sealEpoch.2 ++ hash ++ be 1 i.keySlot ++ be 1 i.rollback
    ++ be 1 s.boot.otp.rollback ++ be 1 (s.regF Reg.CAL_GRADE 0 2) ++ be 2 i.mcBase ++ be 1 i.mcPatch ++ zeros 1 ++ s.keyId
    ++ pubOf Config.identityKey ++ zeros 3

/-- The report of a ticket joins the signing queue with the fields of this instant. -/
def State.queueAttest (s : State) (num : Nat) (nonce : Bytes) : State :=
  let body := s.reportBody nonce
  let s1 := s.mapTicket num (fun t => { t with data := body, running := true })
  { s1 with seals := { s1.seals with attests := s1.seals.attests ++ [num] } }.startSign

/-- ATTEST_SIGNED: signature engine k has signed a report with the identity key. -/
def execAttestSigned (k : Fin 2) (s : State) : Host.Outcome State Fault Refusal :=
  match (if k.val = 0 then s.seals.se0 else s.seals.se1) with
  | some (.attest num) =>
    if s.frozen (agSe k) then .next s else
    let s1 := s.setSe k none
    match s1.ticket num with
    | some t => .next ((s1.readyTicket num 0 (t.data ++ ecdsaSign Config.identityKey (sha256 t.data))).startSign)
    | none => .next s1.startSign
  | _ => .next s

end Sys2Proof.Machine
end

