-- ==== Sys2Proof/Machine/FaultRows.lean ====
section
/-!
DEFINITION. The commands of the fault collector (18_faults.md R443 to R456).
-/
namespace Sys2Proof.Machine

/-! ## Detections (R443) -/

/-- UNIT_PROGRESS_TIMEOUT: a coding unit's picture makes no handshake progress for 20 µs. -/
def execUnitProgressTimeout (agent : Fin 256) (s : State) : Host.Outcome State Fault Refusal :=
  let a := agent.val
  let u := s.unit a
  let due := decide (0x40 ≤ a ∧ a < 0xA0) && u.job.isSome && decide (u.since + usT 20 ≤ s.now) && !s.frozen a
  .next (s.raiseTogether (if due then some { src := a - 0x40 } else none))

/-- XOP_TIMEOUT: a running sequencer's XOP has no handshake for 10 µs. -/
def execXopTimeout (i : Fin 8) (s : State) : Host.Outcome State Fault Refusal :=
  let runs := (s.seq i).state == .running || (s.seq i).state == .fast
  .next (s.raiseTogether (if runs then some { src := 104 + i.val } else none))

/-- REGULATOR_OUT_OF_RANGE: F164, with its cause held while the regulator is out of range (R444). -/
def execRegulatorOutOfRange (s : State) : Host.Outcome State Fault Refusal := .next (s.raiseTogether (some { src := 164 }))

/-- REGULATOR_BACK_IN_RANGE: the cause of F164 ends (R444). -/
def execRegulatorBackInRange (s : State) : Host.Outcome State Fault Refusal := .next (s.setCause 164 false)

/-- Sources that a check of the device raises and that no other command raises. -/
def checkSource (n : Nat) : Bool :=
  decide (n < 104) || decide (144 ≤ n ∧ n ≤ 154) || decide (159 ≤ n ∧ n ≤ 163) || decide (254 ≤ n)

/-- A record in packet memory reads as poison (R453): a held RTP packet leaves no record and counts as lost; a held offload chunk is missing data. -/
def State.poisonRecord (s : State) (n q : Nat) : State :=
  let x := s.ctx n
  if x.rtp.held.any (fun p => p.seq == q && !p.refused) then
    (s.setCtx n { x with rtp := { x.rtp with held := x.rtp.held.map (fun p => if p.seq = q then { p with refused := true } else p) } }).bump
      (Reg.ING_LOST n)
  else match s.sessOf clsOffload n with
    | some y => s.setSess { y with held := y.held.map (fun c => if c.seq = q then { c with bad := true } else c) }
    | none => s

/-- INTERNAL_CHECK_FAILURE: a check fails and its source is raised (R443). For F159 `record` names the packet record that was read: context and sequence
number (R453). -/
def execInternalCheckFailure (src : Fin 256) (record : Option (Fin 1024 × Nat)) (s : State) : Host.Outcome State Fault Refusal :=
  if !checkSource src.val then .next (s.raiseTogether none) else
  let s1 := if src.val = 159 then (match record with
    | some r => s.poisonRecord r.1 r.2
    | none => s) else s
  .next (s1.raiseTogether (some { src := src.val }))

/-! ## Ends of causes (R444, R445) -/

/-- The sources that name an agent by themselves. -/
def sourcesOf (a : Nat) : List Nat :=
  if 0x40 ≤ a ∧ a < 0xA0 then [a - 0x40]
  else if 0xA0 ≤ a ∧ a < 0xA8 then [96 + (a - 0xA0), 104 + (a - 0xA0)]
  else if 0xA8 ≤ a ∧ a < 0xAC then [150 + (a - 0xA8)]
  else if 0xB0 ≤ a ∧ a < 0xB2 then [148 + (a - 0xB0)]
  else []

/-- UNIT_RESET_DONE: the pipeline reset or the takeover of a frozen agent is complete (R444, R445). -/
def execUnitResetDone (agent : Fin 256) (s : State) : Host.Outcome State Fault Refusal :=
  if s.frozen agent then .next ((sourcesOf agent).foldl (fun t n => t.setCause n false) s) else .next s

/-! ## FLT_STATUS, FLT_SRC_CFG.FORCE, FLT_UNFREEZE (R447, R451, R456) -/

/-- The bits of FLT_STATUS k that a W1C write leaves set: those whose cause is present, and those raised in the same instant (R442, R451). -/
def State.faultsKept (s : State) (k : Nat) : Word :=
  s.rose.foldl (fun w n => if n / 32 = k then w ||| BitVec.ofNat 32 (2 ^ (n % 32)) else w) (s.reg (Reg.FLT_CAUSE k))

/-- A W1C write to FLT_STATUS k. -/
def State.clearFaults (s : State) (k : Nat) (bits : Word) : State :=
  let v := s.reg (Reg.FLT_STATUS k)
  (s.setReg (Reg.FLT_STATUS k) (v &&& ~~~(bits &&& ~~~(s.faultsKept k)))).syncState

/-- FLT_STATUS_CLEAR. -/
def execFltStatusClear (k : Fin 8) (bits : BitVec 32) (s : State) : Host.Outcome State Fault Refusal := .next (s.clearFaults k bits)

/-- A write of 1 to FORCE: the source is raised once, with no cause held; ignored for reserved sources. -/
def State.forceFault (s : State) (n : Nat) : State := s.raiseFault { src := n, forced := true }

/-- FLT_FORCE. -/
def execFltForce (n : Fin 256) (s : State) : Host.Outcome State Fault Refusal := .next (s.raiseTogether (some { src := n, forced := true }))

/-- An agent that is no longer frozen returns (R447). -/
def State.thaw (s : State) (a : Nat) : State :=
  let s1 := s.setRegBit (Reg.FLT_FROZEN (a / 32)) (a % 32) false
  if 0x40 ≤ a ∧ a < 0xA0 then (s1.setUnit a { s1.unit a with test := some 0 }).showUnit a
  else if 0xA0 ≤ a ∧ a < 0xA8 then (s1.setSeq (a - 0xA0) { state := .running, out := (s1.seq (a - 0xA0)).out }).settleEvents
  else if a < 0x40 then
    let c := s1.dmaCh a
    let prog : Option DmaProg := c.prog.map (fun p => { p with waitFrom := none })
    ((s1.setDmaCh a { c with stopped := true, active := false, prog := prog }).setRegF (Reg.DMA_STATUS a) 8 3 0).showDma a
  else if 0xA8 ≤ a ∧ a < 0xAC then
    s1.setPort (a - 0xA8) { s1.port (a - 0xA8) with stopped := false, lockTick := s1.now }
  else s1.startSign

/-- A write of FLT_UNFREEZE: refused and counted, or the agent returns (R447). -/
def State.unfreeze (s : State) (agent key : Nat) : State :=
  let src := tget (fun _ => 0) s.faults.frozenBy agent
  if key ≠ 0x0F0F ∨ s.frozen agent = false ∨ (src ≠ 0 ∧ s.latched (src - 1) = true) then s.bump Reg.FLT_UNFREEZE_REFUSED
  else (s.thaw agent).syncState

/-- FLT_UNFREEZE. -/
def execFltUnfreeze (agent : BitVec 8) (key : BitVec 16) (s : State) : Host.Outcome State Fault Refusal := .next (s.unfreeze agent.toNat key.toNat)

/-! ## Leaving safe state (R451) -/

/-- Do the conditions of R451 hold? -/
def State.safeExitDue (s : State) : Bool :=
  s.power.safe && !s.power.failing && s.power.phase == .done && s.regF Reg.ISA_STATUS 0 3 == 3
    && s.faults.safeSrcs.all (fun n => !s.latched n) && !s.regBit Reg.FLT_GLOBAL 5 && !s.power.resetAfter

/-- Leave safe state: every slot is FREE. -/
def State.leaveSafe (s : State) : State :=
  let s1 := (s.contexts (fun _ => true)).foldl State.freeCtx s
  let s2 := (s1.renditions (fun _ => true)).foldl State.freeRnd s1
  let s3 := { s2 with
    power := { s2.power with safe := false, phase := .none, body := [], root := [], sig := [], entries := [] }
    faults := { s2.faults with safeSrcs := [] } }
  (((s3.showIsa 0 0).setRegBit Reg.FLT_GLOBAL 16 true).syncState).startSign

/-- SAFE_STATE_EXIT. -/
def execSafeStateExit (s : State) : Host.Outcome State Fault Refusal := .next (if s.safeExitDue then s.leaveSafe else s)

end Sys2Proof.Machine
end

