-- ==== Sys2Proof/Machine/CntClr.lean ====
section
/-!
DEFINITION. The counter clears (R11): a write of 1 to bit 0 of a block's CNT_CLR register. Every counter's reset value is 0.
-/
namespace Sys2Proof.Machine

/-- Clear the registers of address ranges (start, bytes) whose reset value is 0. -/
def State.clearRanges (s : State) (rs : List (Nat × Nat)) : State :=
  { s with regs := s.regs.filter (fun q => !rs.any (fun r => decide (r.1 ≤ q.1) && decide (q.1 < r.1 + r.2))) }

/-- Clear every counter of a port (R31). -/
def State.prtClear (s : State) (n : Nat) : State := s.clearRanges [(Reg.PRT_CNT n 0, 0x88)]

/-- PRT_CNT_CLR: a write of `v` to the register; bit 0 clears every counter of a port (R31). -/
def execPrtCntClr (p : Fin 4) (v : BitVec 32) (s : State) : Host.Outcome State Fault Refusal := .next (if v.getLsbD 0 then s.prtClear p else s)

/-- Clear the management and PTP counters (R82). -/
def State.glbClear (s : State) : State := s.clearRanges [(Reg.GLB_MGMT_ADDR_ERR, 12), (Reg.GLB_PTP_LOSS, 4)]

/-- GLB_CNT_CLR: a write of `v` to the register; bit 0 clears the management and PTP counters (R82). -/
def execGlbCntClr (v : BitVec 32) (s : State) : Host.Outcome State Fault Refusal := .next (if v.getLsbD 0 then s.glbClear else s)

/-- Clear the admission counters (R111). -/
def State.admClear (s : State) : State := s.clearRanges [(Reg.GLB_ADM_REFUSED, 16)]

/-- GLB_ADM_CNT_CLR: a write of `v` to the register; bit 0 clears the admission counters (R111). -/
def execGlbAdmCntClr (v : BitVec 32) (s : State) : Host.Outcome State Fault Refusal := .next (if v.getLsbD 0 then s.admClear else s)

/-- Clear a decode core's counters (R160). -/
def State.decClear (s : State) (n : Nat) : State := s.clearRanges [(Reg.DEC_CNT n 0, 56)]

/-- DEC_CNT_CLR: a write of `v` to the register; bit 0 clears a decode core's counters (R160). -/
def execDecCntClr (p : Fin 64) (v : BitVec 32) (s : State) : Host.Outcome State Fault Refusal := .next (if v.getLsbD 0 then s.decClear p else s)

/-- Clear an encode core's counters (R213). -/
def State.encClear (s : State) (n : Nat) : State := s.clearRanges [(Reg.ENC_CNT n 0, 80)]

/-- ENC_CNT_CLR: a write of `v` to the register; bit 0 clears an encode core's counters (R213). -/
def execEncCntClr (p : Fin 24) (v : BitVec 32) (s : State) : Host.Outcome State Fault Refusal := .next (if v.getLsbD 0 then s.encClear p else s)

/-- Clear a composition unit's counters (R268). -/
def State.cuClear (s : State) (n : Nat) : State := s.clearRanges [(Reg.CU_CNT n 0, 40)]

/-- CU_CNT_CLR: a write of `v` to the register; bit 0 clears a composition unit's counters (R268). -/
def execCuCntClr (p : Fin 8) (v : BitVec 32) (s : State) : Host.Outcome State Fault Refusal := .next (if v.getLsbD 0 then s.cuClear p else s)

/-- Clear the sealing counters (R293). -/
def State.sealClear (s : State) : State := s.clearRanges [(Reg.SEAL_CNT 0, 40)]

/-- SEAL_CNT_CLR: a write of `v` to the register; bit 0 clears the sealing counters (R293). -/
def execSealCntClr (v : BitVec 32) (s : State) : Host.Outcome State Fault Refusal := .next (if v.getLsbD 0 then s.sealClear else s)

/-- Clear every headbox counter (R331). -/
def State.hbxClear (s : State) : State := s.clearRanges [(Reg.HBX_POL_DROP 0 0, 0x4000), (Reg.HBX_CTL_DROP 0 0, 16), (Reg.HBX_CTL_DROP 1 0, 16), (Reg.HBX_CTL_DROP 2 0, 16),
    (Reg.HBX_CTL_DROP 3 0, 16)]

/-- HBX_CNT_CLR: a write of `v` to the register; bit 0 clears every headbox counter (R331). -/
def execHbxCntClr (v : BitVec 32) (s : State) : Host.Outcome State Fault Refusal := .next (if v.getLsbD 0 then s.hbxClear else s)

/-- Clear every egress queue counter (R331). -/
def State.egqClear (s : State) : State := s.clearRanges [(Reg.EGQ_TX 0 0, 0x4000)]

/-- EGQ_CNT_CLR: a write of `v` to the register; bit 0 clears every egress queue counter (R331). -/
def execEgqCntClr (v : BitVec 32) (s : State) : Host.Outcome State Fault Refusal := .next (if v.getLsbD 0 then s.egqClear else s)

/-- Clear a memory port's counters (R360). -/
def State.memClear (s : State) (n : Nat) : State := s.clearRanges [(Reg.MEM_CNT n 0, 72)]

/-- MEM_CNT_CLR: a write of `v` to the register; bit 0 clears a memory port's counters (R360). -/
def execMemCntClr (p : Fin 8) (v : BitVec 32) (s : State) : Host.Outcome State Fault Refusal := .next (if v.getLsbD 0 then s.memClear p else s)

/-- Clear the night-retention counters (R361). -/
def State.nightClear (s : State) : State := s.clearRanges [(Reg.GLB_MEM_NIGHT_REFUSED, 8)]

/-- GLB_MEM_CNT_CLR: a write of `v` to the register; bit 0 clears the night-retention counters (R361). -/
def execGlbMemCntClr (v : BitVec 32) (s : State) : Host.Outcome State Fault Refusal := .next (if v.getLsbD 0 then s.nightClear else s)

/-- Clear a pool's counters, and FP_LOW becomes FP_FREE (R371). -/
def State.fpClear (s : State) (n : Nat) : State := (let t := s.clearRanges [(Reg.FP_CNT n 0, 48)]; t.setReg (Reg.FP_LOW n) (t.reg (Reg.FP_FREE n)))

/-- FP_CNT_CLR: a write of `v` to the register; bit 0 clears a pool's counters, and FP_LOW becomes FP_FREE (R371). -/
def execFpCntClr (p : Fin 8) (v : BitVec 32) (s : State) : Host.Outcome State Fault Refusal := .next (if v.getLsbD 0 then s.fpClear p else s)

/-- Clear FP_BAD_HANDLE (R371). -/
def State.fpGlbClear (s : State) : State := s.clearRanges [(Reg.FP_BAD_HANDLE, 8)]

/-- FP_GLB_CNT_CLR: a write of `v` to the register; bit 0 clears FP_BAD_HANDLE (R371). -/
def execFpGlbCntClr (v : BitVec 32) (s : State) : Host.Outcome State Fault Refusal := .next (if v.getLsbD 0 then s.fpGlbClear else s)

/-- Clear a DMA channel's counters (R386). -/
def State.dmaCntClear (s : State) (n : Nat) : State := s.clearRanges [(Reg.DMA_CNT n 0, 40)]

/-- DMA_CNT_CLR: a write of `v` to the register; bit 0 clears a DMA channel's counters (R386). -/
def execDmaCntClr (p : Fin 64) (v : BitVec 32) (s : State) : Host.Outcome State Fault Refusal := .next (if v.getLsbD 0 then s.dmaCntClear p else s)

/-- Clear a sequencer's counters (R408). -/
def State.seqClear (s : State) (n : Nat) : State := s.clearRanges [(Reg.SEQ_CNT n 0, 48)]

/-- SEQ_CNT_CLR: a write of `v` to the register; bit 0 clears a sequencer's counters (R408). -/
def execSeqCntClr (p : Fin 8) (v : BitVec 32) (s : State) : Host.Outcome State Fault Refusal := .next (if v.getLsbD 0 then s.seqClear p else s)

/-- Clear the interrupt controller's counters (R409). -/
def State.intClear (s : State) : State := s.clearRanges [(Reg.INT_CNT 0, 32)]

/-- INT_CNT_CLR: a write of `v` to the register; bit 0 clears the interrupt controller's counters (R409). -/
def execIntCntClr (v : BitVec 32) (s : State) : Host.Outcome State Fault Refusal := .next (if v.getLsbD 0 then s.intClear else s)

/-- Clear the collector's counters and COL_WORST (R405). -/
def State.colClear (s : State) : State := s.clearRanges [(Reg.COL_CNT 0, 24), (Reg.COL_WORST, 4)]

/-- COL_CNT_CLR: a write of `v` to the register; bit 0 clears the collector's counters and COL_WORST (R405). -/
def execColCntClr (v : BitVec 32) (s : State) : Host.Outcome State Fault Refusal := .next (if v.getLsbD 0 then s.colClear else s)

/-- Clear GLB_CFG_IMMUT and GLB_BOOT_SKIPPED (R439). -/
def State.cfgClear (s : State) : State := s.clearRanges [(Reg.GLB_CFG_IMMUT, 8)]

/-- GLB_CFG_CNT_CLR: a write of `v` to the register; bit 0 clears GLB_CFG_IMMUT and GLB_BOOT_SKIPPED (R439). -/
def execGlbCfgCntClr (v : BitVec 32) (s : State) : Host.Outcome State Fault Refusal := .next (if v.getLsbD 0 then s.cfgClear else s)

/-- Clear every fault counter and FLT_COUNT (R456). -/
def State.fltClear (s : State) : State := s.clearRanges [(Reg.FLT_CNT 0, 32), (Reg.FLT_COUNT 0, 1024)]

/-- FLT_CNT_CLR: a write of `v` to the register; bit 0 clears every fault counter and FLT_COUNT (R456). -/
def execFltCntClr (v : BitVec 32) (s : State) : Host.Outcome State Fault Refusal := .next (if v.getLsbD 0 then s.fltClear else s)

/-- Clear the calibration counters (R476). -/
def State.calClear (s : State) : State := s.clearRanges [(Reg.CAL_CNT 0, 32)]

/-- CAL_CNT_CLR: a write of `v` to the register; bit 0 clears the calibration counters (R476). -/
def execCalCntClr (v : BitVec 32) (s : State) : Host.Outcome State Fault Refusal := .next (if v.getLsbD 0 then s.calClear else s)

end Sys2Proof.Machine
end

