-- ==== Sys2Proof/Machine/Egress.lean ====
section
/-!
DEFINITION. Sealing and egress commands: a finished seal (R284 to R286, R292), the sheet timer (R292), and the choice of a port's next frame
(R310, R326 to R330).
-/
namespace Sys2Proof.Machine

/-! ## Seals and sheets -/

/-- SEAL_SIGNED: signature engine k finishes. A seal goes into the ream's last sheet; a signature that a commit discarded goes nowhere
(R284 to R286, R292). -/
def execSealSigned (k : Fin 2) (s : State) : Host.Outcome State Fault Refusal :=
  match (if k.val = 0 then s.seals.se0 else s.seals.se1) with
  | some (.seal j) =>
    if s.frozen (agSe k) then .next s else
    .next ((((s.setSe k none).placeSeal j (ecdsaSign (s.seals.bootKey.getD 0) (sha256 j.sealBytes)))).startSign)
  | some .discarded => .next ((s.setSe k none).startSign)
  | _ => .next s

/-- SHEET_TIMER: the open sheet of a slot closes 1 ms after its first record (R292). Slot 1024 + n is rendition n. -/
def execSheetTimer (slot : Fin 2048) (s : State) : Host.Outcome State Fault Refusal :=
  let x := s.slot slot
  match x.ream with
  | some r =>
    if r.buf.isEmpty ∨ s.now < r.bufAt + msT 1 ∨ s.power.failing = true then .next s else
    let q := s.closeSheet slot r
    .next (q.1.setSlot slot { q.1.slot slot with ream := some q.2 })
  | none => .next s

/-! ## Shapers (R317, R326) -/

/-- A shaper's bucket at a tick. -/
def refill (b : Bucket) (rate burst now : Nat) : Bucket :=
  { tok := min ((burst * 2000000 : Nat) : Int) (b.tok + ((rate * (now - b.last) : Nat) : Int)), last := now, used := b.usedAt now }

/-- A start of a frame of L bytes takes tokens from a shaper that is on. -/
def spend (b : Bucket) (rate burst now l : Nat) : Bucket :=
  if rate = 0 then b else let c := refill b rate burst now; { c with tok := c.tok - ((l * 2000000 : Nat) : Int), used := c.used + l }

/-- Does a shaper permit a start? -/
def permits (b : Bucket) (rate burst now : Nat) : Bool := rate == 0 || decide (0 ≤ (refill b rate burst now).tok)

/-- Rate and burst of a port's shaper and of a queue's; a change that this instant's announcement makes comes first (R326). -/
def State.egpRate (s : State) (p : Nat) : Nat := s.soonF (Reg.EGP_RATE p) 0 25
def State.egpBurst (s : State) (p : Nat) : Nat := s.soonF (Reg.EGP_BURST p) 0 24
def State.egqRate (s : State) (q : Nat) : Nat := s.soonF (Reg.EGQ_RATE q) 0 25
def State.egqBurst (s : State) (q : Nat) : Nat := s.soonF (Reg.EGQ_BURST q) 0 24

/-- The port's shaper, and a queue's: on a zero balance where this instant's announcement changes it (R326). -/
def State.egpShaper (s : State) (p : Nat) : Bucket :=
  if s.soonDiffers (Reg.EGP_RATE p) 0 25 || s.soonDiffers (Reg.EGP_BURST p) 0 24 then (s.port p).shaper.restart 0 s.now else (s.port p).shaper
def State.egqShaper (s : State) (q : Nat) : Bucket :=
  if s.soonDiffers (Reg.EGQ_RATE q) 0 25 || s.soonDiffers (Reg.EGQ_BURST q) 0 24 then (s.egq q).shaper.restart 0 s.now else (s.egq q).shaper

/-- The port's shaper permits. -/
def State.portPermits (s : State) (p : Nat) : Bool := permits (s.egpShaper p) (s.egpRate p) (s.egpBurst p) s.now

/-- The queue's shaper permits. -/
def State.queuePermits (s : State) (q : Nat) : Bool := permits (s.egqShaper q) (s.egqRate q) (s.egqBurst q) s.now

/-- A frame of queue q starts on port p: counters and the port's shaper. -/
def State.startFrame (s : State) (p q : Nat) (f : OutFrame) : State :=
  let n := f.len (s.tagged p)
  let s1 := s.setPort p { s.port p with shaper := spend (s.egpShaper p) (s.egpRate p) (s.egpBurst p) s.now (n + 20) }
  ((s1.transmit p f).bump (Reg.EGQ_TX_FRAMES q)).bumpN (Reg.EGQ_TX_BYTES q) n

/-! ## Fair queues -/

/-- The MAC address of a sheet's destination, once resolved. -/
def State.sheetMac (s : State) (x : Sheet) : Option Nat :=
  let p := s.ptnPort x.partner
  match (s.port p).nbr? (s.nextHop p (s.ptnIp x.partner)) with
  | some { state := .resolved, mac, .. } => some mac
  | _ => none

/-- Heads of a port's fair queues: queue, sheet, tag. -/
def State.heads (s : State) (p : Nat) : List (Nat × Sheet × BitVec 64) :=
  s.net.egq.filterMap (fun q => if q.1 / 256 = p then (match q.2.sheets, q.2.tag with
    | x :: _, some t => some (q.1, x, t)
    | _, _ => none) else none)

/-- Is a head eligible, the port's shaper apart (R325, R328)? -/
def State.headEligible (s : State) (h : Nat × Sheet × BitVec 64) : Bool := (s.sheetMac h.2.1).isSome && s.queuePermits h.1

/-- The eligible head with the smallest tag; a tie goes to the lower index (R327, R328). -/
def State.bestHead (s : State) (p : Nat) : Option (Nat × Sheet × BitVec 64) :=
  ((s.heads p).filter s.headEligible).foldl (fun (m : Option (Nat × Sheet × BitVec 64)) h => match m with
    | none => some h
    | some b => if (h.2.2 - b.2.2).toInt < 0 then some h else some b) none

/-- LAST_SHEET of a ream rises to a sheet that left a port (R303). -/
def laterSheet (seq : Nat) (o : Option Nat) : Option Nat := some (max seq (o.getD 0))

/-- Note a sheet that left a port, on its open or closed ream. -/
def State.noteSent (s : State) (x : Sheet) : State :=
  let hit := fun (slot serial : Nat) => serial == x.serial && decide (1024 ≤ slot) == x.rnd
  let job := fun (j : SealJob) => if hit j.slot j.serial then { j with sent := laterSheet x.seq j.sent } else j
  let work := fun (w : Option SignWork) => match w with
    | some (.seal j) => some (.seal (job j))
    | v => v
  let slots := s.seals.slots.map (fun q => (q.1, match q.2.ream with
    | some r => if hit q.1 r.hdr.serial then { q.2 with ream := some { r with sent := laterSheet x.seq r.sent } } else q.2
    | none => q.2))
  { s with seals := { s.seals with slots := slots, queue := s.seals.queue.map job, se0 := work s.seals.se0, se1 := work s.seals.se1 } }

/-- The head of a fair queue starts (R326 to R328). -/
def State.startSheet (s : State) (p : Nat) (h : Nat × Sheet × BitVec 64) : State :=
  let q := h.1
  let f := s.sheetFrame h.2.1 (s.sheetMac h.2.1)
  let e := s.egq q
  let l := s.sheetL h.2.1
  let s1 := (s.startFrame p q f).bump (Reg.PRT_TX_SHEETS p)
  let s2 := s1.setPort p { s1.port p with vtime := h.2.2 }
  let s3 := s2.setEgq q { e with
    sheets := e.sheets.drop 1
    tag := none
    last := h.2.2
    shaper := spend (s.egqShaper q) (s.egqRate q) (s.egqBurst q) s.now l }
  (s3.tagQueue q).noteSent h.2.1

/-- Heads whose destination is not resolved begin to be resolved (R39, R325). -/
def State.resolveHeads (s : State) (p : Nat) : State :=
  (s.heads p).foldl (fun t h => if (t.sheetMac h.2.1).isNone then t.startResolve p (t.nextHop p (t.ptnIp h.2.1.partner)) else t) s

/-- Is it the port's turn to send a manifest segment: ports go in ascending order, segment by segment (R310)? -/
def State.segTurn (s : State) (p : Nat) : Bool := (List.range 4).all (fun q =>
  q == p || (s.port q).segs.isEmpty || !s.linkUp q || (s.port q).stopped
    || (if q < p then decide ((s.port p).segSent < (s.port q).segSent) else decide ((s.port p).segSent ≤ (s.port q).segSent)))

/-- EGRESS_SELECT: the port can start a frame (R310, R324 to R330). -/
def execEgressSelect (p : Fin 4) (s : State) : Host.Outcome State Fault Refusal :=
  let x := s.port p
  if !s.linkUp p || x.stopped then .next s else
  match x.segs with
  | f :: t => .next (if s.segTurn p then (s.setPort p { x with segs := t, segSent := x.segSent + 1 }).transmit p f else s)
  | [] =>
    if s.power.failing then .next s else
    let s0 := if s.power.safe then s else s.resolveHeads p
    if !s0.portPermits p then .next s0 else
    let y := s0.port p
    match y.sysq with
    | f :: t => .next (((s0.setPort p { y with sysq := t }).startFrame p (256 * p) f).ptpStarted p f)
    | [] =>
      if s.power.safe then .next s0 else
      match s0.bestHead p with
      | some h => .next (s0.startSheet p h)
      | none => .next s0

end Sys2Proof.Machine
end

