-- ==== Sys2Proof/Machine/RegWrite.lean ====
section
/-!
DEFINITION. Reading and writing registers (R6 to R12, R16, R67, R432, R491 to R494): the values that a block computes as it is read, the holding copies of R10, and
the effects of a write by management or by microcode.
-/
namespace Sys2Proof.Machine

/-! ## Values that are computed as they are read -/

/-- A word of n. -/
def word (n : Nat) : Word := BitVec.ofNat 32 n

/-- GLB_CFG_STATUS: PENDING counts the units in service while a sweep runs, DEFERRED those that have not taken the announced configuration (R435, R439). -/
def State.viewCfgStatus (s : State) : Word :=
  let pend := if s.sweeping then 150 - s.outAgents.length else 0
  let late := (s.boot.deferred.filter s.agentOut).length
  setFld (setFld (s.reg Reg.GLB_CFG_STATUS) 8 8 pend) 16 8 late

/-- GLB_SEC_OTP_STATUS (R489). -/
def State.viewOtp (s : State) : Word :=
  let o := s.boot.otp
  word (s.otpProg + o.revoked % 16 * 2 ^ 4 + o.rollback % 256 * 2 ^ 8 + (if o.busy.isSome then 2 ^ 16 else 0) + o.result % 8 * 2 ^ 17)

/-- ISA_STATUS with VIN_OK and PFAIL (R316). -/
def State.viewIsa (s : State) : Word :=
  setFld (setFld (s.reg Reg.ISA_STATUS) 5 1 (if s.vinThr < s.power.vin then 1 else 0)) 6 1 (if s.power.pfail then 1 else 0)

/-- INT_PEND k. -/
def State.viewPend (s : State) (k : Nat) : Word :=
  word (sumNat ((List.range 32).map (fun i => if s.ctl.events.any (fun e => e.ev == 32 * k + i) then 2 ^ i else 0)))

/-- A word of a 64-bit value: the low one at an even place, the high one at an odd place (R10). -/
def halfOf (v k : Nat) : Word := if k % 2 = 0 then word v else word (v / 2 ^ 32)

/-- A register of sequencer i, at an offset (R408). -/
def State.viewSeq (s : State) (i o : Nat) : Option Word :=
  let q := s.seq i
  if o = 0 then some (word (q.state.code + q.cp % 16 * 2 ^ 4 + q.pc % 2 ^ 14 * 2 ^ 16))
  else if o = 0xC then some (word (q.opcode % 256 + q.event % 512 * 2 ^ 8))
  else if o = 0x10 then some (word (q.fastRet % 2 ^ 14))
  else if 0x100 ≤ o ∧ o < 0x200 then some (halfOf (tget (fun _ => 0#64) q.bankN ((o - 0x100) / 8)).toNat (o / 4))
  else if 0x200 ≤ o ∧ o < 0x300 then some (halfOf (tget (fun _ => 0#64) q.bankF ((o - 0x200) / 8)).toNat (o / 4))
  else none

/-- The 32 bytes of a neighbour entry (R32, R39); an unused entry is all zeros. -/
def nbrBytes (now : Nat) : Option Nbr → Bytes
  | none => zeros 32
  | some e => be 16 e.ip ++ be 6 e.mac ++ [Config.nbrState (e.state == .resolved)]
      ++ be 2 (if e.state = .resolved then (e.expires - now) / sT 1 else 0) ++ zeros 7

/-- A register of PRT_NBR. -/
def State.viewNbr (s : State) (p k : Nat) : Word := word (beNat (slice (4 * (k % 8)) 4 (nbrBytes s.now (s.port p).nbrs[k / 8]?)))

/-- EGQ_STATUS of a queue (R331): BACKLOG, WAIT_TOKENS, WAIT_DEST. -/
def State.viewEgq (s : State) (q : Nat) : Word :=
  if q % 256 = 0 then word (if (s.port (q / 256)).sysq.isEmpty then 0 else 1)
  else match (s.egq q).sheets with
    | [] => 0#32
    | x :: _ => word (1 + (if s.queuePermits q then 0 else 2) + (if (s.sheetMac x).isNone || !s.linkUp (q / 256) then 4 else 0))

/-- EGP_STATUS: a frame could start but for the port's shaper. -/
def State.viewEgp (s : State) (p : Nat) : Word :=
  word (if !s.portPermits p && (!(s.port p).sysq.isEmpty || (s.heads p).any s.headEligible) then 1 else 0)

/-- Seals that wait for a signature, those on an engine included (R293). -/
def State.signQueue (s : State) : Nat := s.seals.queue.length + (SignWork.job? s.seals.se0).length + (SignWork.job? s.seals.se1).length

/-- FP_QUERY_RESULT (R371). -/
def State.viewQuery (s : State) : Word :=
  let h := (s.reg Reg.FP_QUERY_HANDLE).toNat
  if s.badHandle h then 0#32 else match s.ownerOf h with
    | some a => word (3 + a % 256 * 256)
    | none => 1#32

/-- A register of the global block that is computed. An announcement of this instant is seen after the sample (R492). -/
def State.viewGlobal (s : State) (a : Nat) : Option Word :=
  let t := s.taiNs
  if a = Reg.GLB_UPTIME then some (word s.uptime)
  else if a = Reg.GLB_OPEN then some (word ((s.contexts (· == 2)).length + (s.renditions (· == 2)).length * 2 ^ 16))
  else if a = Reg.GLB_TIME 0 then some (word (t % 1000000000))
  else if a = Reg.GLB_TIME 1 then some (word (t / 1000000000))
  else if a = Reg.GLB_TIME 2 then some (word (t / 1000000000 / 2 ^ 32 % 2 ^ 16))
  else if a = Reg.GLB_ADM_STATE then some (setFld (s.reg a) 16 11 ((List.range 1024).countP (fun n => s.vstate n == 2)))
  else if a = Reg.GLB_MGMT_SESSIONS then some (word s.mgmt.sess.length)
  else if a = Reg.GLB_CFG_STATUS then some s.viewCfgStatus
  else if a = Reg.GLB_EPOCH then some (word s.sealEpoch.1)
  else if Reg.GLB_DIGEST 0 ≤ a ∧ a < Reg.GLB_DIGEST 8 then some (word (beNat (slice (a - Reg.GLB_DIGEST 0) 4 s.sealEpoch.2)))
  else if Reg.GLB_SEC_IDKEY 0 ≤ a ∧ a < Reg.GLB_SEC_IDKEY 16 then
    some (word (beNat (slice (1 + (a - Reg.GLB_SEC_IDKEY 0)) 4 (pubOf Config.identityKey))))
  else if a = Reg.GLB_SEC_OTP_STATUS then some s.viewOtp
  else none

/-- A register of the Isaim, the interrupt controller, the collector or a sequencer that is computed. -/
def State.viewControl (s : State) (a : Nat) : Option Word :=
  if a = Reg.ISA_STATUS then some s.viewIsa
  else if a = Reg.ISA_VIN then some (word (s.power.vin / 10 * 10 % 2 ^ 13))
  else if a = Reg.ISA_PEND then some (setFld (s.reg a) 0 16 (min 65535 s.pendMax))
  else if Reg.INT_PEND 0 ≤ a ∧ a < Reg.INT_PEND 16 then some (s.viewPend ((a - Reg.INT_PEND 0) / 4))
  else if a = Reg.COL_STATUS then some (word (s.ctl.held.filter (fun q => q.2.isSome)).length)
  else if a = Reg.COL_GSEQ 0 ∨ a = Reg.COL_GSEQ 1 then some (halfOf s.ctl.gseq (a / 4))
  else if Reg.COL_QFILL 0 ≤ a ∧ a < Reg.COL_QFILL 8 then some (word (s.seq ((a - Reg.COL_QFILL 0) / 4)).queue.length)
  else if 0x40000 ≤ a ∧ a < 0x50000 then s.viewSeq ((a - 0x40000) / 0x2000) ((a - 0x40000) % 0x2000)
  else none

/-- A register of the other blocks that is computed. -/
def State.viewUnits (s : State) (a : Nat) : Option Word :=
  if 0x80000 ≤ a ∧ a < 0x90000 then
    let o := (a - 0x80000) % 0x4000
    if 0x400 ≤ o ∧ o < 0xC00 then some (s.viewNbr ((a - 0x80000) / 0x4000) ((o - 0x400) / 4)) else none
  else if Reg.EGQ_CFG 0 ≤ a ∧ a < Reg.EGQ_CFG 1024 ∧ a % 16 = 12 then some (s.viewEgq ((a - Reg.EGQ_CFG 0) / 16))
  else if Reg.EGP_RATE 0 ≤ a ∧ a < Reg.EGP_RATE 4 ∧ a % 16 = 8 then some (s.viewEgp ((a - Reg.EGP_RATE 0) / 16))
  else if a = Reg.FP_QUERY_RESULT then some s.viewQuery
  else if a = Reg.SEAL_STATUS then some (word s.signQueue)
  else if a = Reg.SEAL_SERIAL 0 then some (word s.seals.serialLo)
  else if a = Reg.SEAL_SERIAL 1 then some (s.reg Reg.GLB_BOOT_COUNT)
  else if a = Reg.CAL_HOURS then some (word ((s.reg a).toNat + (s.now - s.cal.hoursAt) / sT 3600))
  else none

/-- What a register reads as now, without the effect of a read on holding copies. -/
def State.viewReg (s : State) (a : Nat) : Word :=
  ((if a < 0x10000 then s.viewGlobal a else if a < 0x80000 then s.viewControl a else s.viewUnits a)).getD (s.reg a)

/-! ## Reads (R10, R67) -/

/-- An aligned address inside a block's range (R6, R16). -/
def addrValid (a : Nat) : Bool := a % 4 == 0 && assigned a

/-- Set the holding copy of a high word. -/
def State.holdWord (s : State) (a : Nat) (v : Option Word) : State := { s with hold := tput (fun _ => none) s.hold a v }

/-- Read a register: the low word of a quantity captures the high one, and a captured word is returned once (R10, R76). R10 does not say whose a
holding copy is: there is one for each high word, shared by every management session and by microcode. DESIGN CHOICE (log entry 90). -/
def State.readReg (s : State) (a : Nat) : Word × State :=
  match tget (fun _ => none) s.hold a with
  | some w => (w, s.holdWord a none)
  | none =>
    let v := s.viewReg a
    if a = Reg.GLB_TIME 0 then
      (v, (s.holdWord (Reg.GLB_TIME 1) (some (s.viewReg (Reg.GLB_TIME 1)))).holdWord (Reg.GLB_TIME 2) (some (s.viewReg (Reg.GLB_TIME 2))))
    else if pairLow a then (v, s.holdWord (a + 4) (some (s.viewReg (a + 4))))
    else (v, s)

/-- Read n registers from an address, ascending. -/
def State.readRegs (s : State) (a : Nat) : Nat → List Word × State
  | 0 => ([], s)
  | n + 1 =>
    let r := s.readReg a
    let t := r.2.readRegs (a + 4) n
    (r.1 :: t.1, t.2)

/-! ## Writes -/

/-- Who writes a register: a management session, by its number, or the microcode of a sequencer (R494). -/
inductive Writer
  | mgmt (session : Nat)
  | micro (seq : Nat)
  deriving DecidableEq, Repr

/-- The port of a writer, 4 for microcode (R100). -/
def State.writerPort (s : State) : Writer → Nat
  | .mgmt n => ((s.mgmt.sess.find? (fun x => x.num == n)).map (·.port)).getD 4
  | .micro _ => 4

/-- May the writer change the RW field (R431, R494)? -/
def State.mayWrite (s : State) (w : Writer) (a : Nat) (f : Field) : Bool :=
  s.fieldMutable a f || (match w with | .micro _ => s.microOwns a | .mgmt _ => false)

/-- The RW fields of a write (R432). A write to an armed shadow set is ignored and counted (R379). -/
def State.writeRw (s : State) (w : Writer) (a : Nat) (v : Word) (fs : List Field) : State :=
  let can := s.mayWrite w a
  let old := s.reg a
  let s1 := if immutHit fs can old v then s.bump32 Reg.GLB_CFG_IMMUT 1 else s
  if !fs.any (fun f => f.acc == .rw && can f) then s1
  else if isCal a then s1.writeCal a v
  else if 0x180000 ≤ a ∧ a < 0x184000 then
    let n := (a - 0x180000) / 0x100
    let o := a % 0x100
    if 0x40 ≤ o ∧ o < 0x80 ∧ (s.dmaCh n).shadow = true then s1.bump (Reg.DMA_SHADOW_BUSY n)
    else
      let x := writeFields fs can old v
      s1.setReg a (if o = 0x54 ∧ 116 ≤ fld x 18 7 then setFld x 17 1 0 else x)
  else s1.setReg a (writeFields fs can old v)

/-- The W1C bits of a write: FLT_STATUS by its causes (R451), DMA_GO in its own way (R384), the others clear (R7). -/
def State.writeW1c (s : State) (a : Nat) (v : Word) (fs : List Field) : State :=
  let m := word (fieldsMask (fun f => f.acc == .w1c) fs)
  if m = 0#32 then s
  else if Reg.FLT_STATUS 0 ≤ a ∧ a < Reg.FLT_STATUS 8 then s.clearFaults ((a - Reg.FLT_STATUS 0) / 4) v
  else if 0x180000 ≤ a ∧ a < 0x184000 ∧ a % 0x100 = 0x9C then s.setReg a (if v.getLsbD 0 then 0#32 else 1#32)
  else s.setReg a (s.reg a &&& ~~~(v &&& m))

/-- Counter clears by address (R11). -/
def State.writeClear (s : State) (a : Nat) : State :=
  if a = Reg.GLB_CNT_CLR then s.glbClear
  else if a = Reg.GLB_ADM_CNT_CLR then s.admClear
  else if a = Reg.GLB_MEM_CNT_CLR then s.nightClear
  else if a = Reg.GLB_CFG_CNT_CLR then s.cfgClear
  else if a = Reg.FLT_CNT_CLR then s.fltClear
  else if a = Reg.INT_CNT_CLR then s.intClear
  else if a = Reg.COL_CNT_CLR then s.colClear
  else if 0x40000 ≤ a ∧ a < 0x50000 then s.seqClear ((a - 0x40000) / 0x2000)
  else if 0x80000 ≤ a ∧ a < 0x90000 then s.prtClear ((a - 0x80000) / 0x4000)
  else if a = Reg.HBX_CNT_CLR then s.hbxClear
  else if a = Reg.EGQ_CNT_CLR then s.egqClear
  else if a = Reg.FP_GLB_CNT_CLR then s.fpGlbClear
  else if 0x140000 ≤ a ∧ a < 0x140800 then s.fpClear ((a - 0x140000) / 0x100)
  else if 0x180000 ≤ a ∧ a < 0x184000 then s.dmaCntClear ((a - 0x180000) / 0x100)
  else if 0x200000 ≤ a ∧ a < 0x208000 then s.memClear ((a - 0x200000) / 0x1000)
  else if 0x300000 ≤ a ∧ a < 0x310000 then s.decClear ((a - 0x300000) / 0x400)
  else if 0x400000 ≤ a ∧ a < 0x40C000 then s.encClear ((a - 0x400000) / 0x800)
  else if 0x500000 ≤ a ∧ a < 0x508000 then s.cuClear ((a - 0x500000) / 0x1000)
  else if a = Reg.SEAL_CNT_CLR then s.sealClear
  else if a = Reg.CAL_CNT_CLR then s.calClear
  else s

/-- DMA_CTRL: CLEAR, ABORT, ARM, PROG_START, in that order (R380). -/
def State.writeDmaCtrl (s : State) (n seq : Nat) (v : Word) : State :=
  let s1 := if v.getLsbD 2 then s.dmaClear n else s
  let s2 := if v.getLsbD 1 then s1.dmaAbort n else s1
  let s3 := if v.getLsbD 0 then s2.dmaArm n seq else s2
  if v.getLsbD 3 then s3.dmaProgStart n else s3

/-- GLB_SEC_OTP_CTRL: only with its key, and only from management (R485, R489). -/
def State.writeOtp (s : State) (w : Writer) (v : Word) : State := match w with
  | .micro _ => s
  | .mgmt n => if fld v 16 16 = 0x07B5 then s.otpOf n (fld v 0 2) (fld v 2 2) else s

/-- The WO bits of a write. -/
def State.writeWo (s : State) (w : Writer) (a : Nat) (v : Word) : State :=
  if a = Reg.GLB_MEM_NIGHT then
    let s1 := if v.getLsbD 0 && !v.getLsbD 1 then s.nightEnter else s
    if v.getLsbD 1 then s1.nightExit else s1
  else if a = Reg.GLB_RESET then (if fld v 0 16 = 0x0B0B then s.glbReset else s)
  else if a = Reg.GLB_SEC_OTP_CTRL then s.writeOtp w v
  else if Reg.GLB_SEC_STAGE 0 ≤ a ∧ a < Reg.GLB_SEC_STAGE 8 then
    s.setOtp { s.boot.otp with stage := tput (fun _ => 0#32) s.boot.otp.stage ((a - Reg.GLB_SEC_STAGE 0) / 4) v }
  else if Reg.FLT_SRC_CFG 0 ≤ a ∧ a < Reg.FLT_SRC_CFG 256 then
    (if v.getLsbD 8 then s.forceFault ((a - Reg.FLT_SRC_CFG 0) / 4) else s)
  else if a = Reg.FLT_UNFREEZE then s.unfreeze (fld v 0 8) (fld v 16 16)
  else if 0x180000 ≤ a ∧ a < 0x184000 ∧ a % 0x100 = 0x80 then
    (match w with
      | .micro i => s.writeDmaCtrl ((a - 0x180000) / 0x100) i v
      | .mgmt _ => s)
  else if a = Reg.CAL_CTRL then (if v.getLsbD 0 then s.calReplan else s)
  else if 0x800000 ≤ a ∧ a < 0x840000 then (if v.getLsbD 0 then s.closeCtx ((a - 0x800000) / 256) else s)
  else if 0xA00000 ≤ a ∧ a < 0xA40000 then
    let n := (a - 0xA00000) / 256
    let s1 := if v.getLsbD 0 then s.rndOpen n (s.writerPort w) else s
    if v.getLsbD 1 then s1.rndLeaveOpen n else s1
  else if v.getLsbD 0 then s.writeClear a
  else s

/-- Is the register one of a coding unit's OOS registers? Its agent ID. -/
def oosAgent (a : Nat) : Option Nat :=
  if 0x300000 ≤ a ∧ a < 0x310000 ∧ a % 0x400 = 0 then some (0x40 + (a - 0x300000) / 0x400)
  else if 0x400000 ≤ a ∧ a < 0x40C000 ∧ a % 0x800 = 0 then some (0x80 + (a - 0x400000) / 0x800)
  else if 0x500000 ≤ a ∧ a < 0x508000 ∧ a % 0x1000 = 0 then some (0x98 + (a - 0x500000) / 0x1000)
  else none

/-- Does the write of a W1C or WO bit of the DMA block reach it: from microcode, or DMA_CNT_CLR (R386)? -/
def woReaches (w : Writer) (a : Nat) : Bool := match w with
  | .micro _ => true
  | .mgmt _ => !decide (0x180000 ≤ a ∧ a < 0x184000) || a % 0x100 == 0xFC

/-- A write of one register at a valid address, without the settle pass: RW fields, then W1C bits, then WO bits. A reserved register ignores it (R8). -/
def State.writeReg (s : State) (w : Writer) (a : Nat) (v : Word) : State :=
  match findRow a with
  | none => s
  | some r =>
    match oosAgent a with
    | some u => s.writeOos u (v.getLsbD 0)
    | none =>
      let s1 := if r.fields.any (fun f => f.acc == .rw) then s.writeRw w a v r.fields else s
      let s2 := if woReaches w a then s1.writeW1c a v r.fields else s1
      if r.fields.any (fun f => f.acc == .wo) && woReaches w a then s2.writeWo w a v else s2

/-- The settle pass runs once, after the last register of a request that changed a stored value of the configuration (R432, R493). -/
def State.settleIf (s : State) (changed : Bool) : State := if changed then s.settle else s

/-- Write registers from an address, ascending; a reset ends the request. -/
def State.writeList (s : State) (w : Writer) (a : Nat) : List Word → State
  | [] => s
  | v :: t =>
    let s1 := s.writeReg w a v
    if s1.boot.phase = .off then s1 else s1.writeList w (a + 4) t

/-- Does the request address a configuration register? -/
def touchesConfig (a n : Nat) : Bool := (List.range n).any (fun k => isConfig (a + 4 * k))

/-- One request's write. -/
def State.writeRegs (s : State) (w : Writer) (a : Nat) (vs : List Word) : State :=
  let t := s.writeList w a vs
  t.settleIf (touchesConfig a vs.length && t.boot.phase != .off && t.regs != s.regs)

/-- REGISTER_WRITE: management session `num` writes a register that has no row of its own (R432). An address that is unaligned or unassigned changes
nothing and counts (R67). -/
def execRegisterWrite (num a : Nat) (v : BitVec 32) (s : State) : Host.Outcome State Fault Refusal :=
  .next (if s.power.failing then s else if addrValid a then s.writeRegs (.mgmt num) a [v] else s.bump32 Reg.GLB_MGMT_ADDR_ERR 1)


/-! ## Microcode access (R393, R494) -/

/-- REGRD: a management register into RD[31:0], RD[63:32] unchanged; an unaligned or unassigned address sets the error flag. -/
def execRegrd (i : Fin 8) (s : State) : Host.Outcome State Fault Refusal :=
  match s.ready i 6 with
  | none => .next s
  | some m =>
    let a := (s.seq i).addr m
    if !addrValid a then .next (s.xopDone i m true)
    else
      let r := s.readReg a
      let q := r.2.seq i
      let high := q.r m.rd / 0x100000000#64 * 0x100000000#64
      let s1 := r.2.setSeq i (q.w m.rd (high + r.1.setWidth 64))
      .next (s1.xopDone i m false)

/-- REGWR: a register's low word into a management register, under the rules for microcode. A reset that it causes ends the sequencer's work. -/
def execRegwr (i : Fin 8) (s : State) : Host.Outcome State Fault Refusal :=
  match s.ready i 7 with
  | none => .next s
  | some m =>
    let q := s.seq i
    let a := q.addr m
    if !addrValid a then .next (s.xopDone i m true)
    else
      let s1 := s.writeRegs (.micro i) a [(q.r m.rd).setWidth 32]
      match (s1.seq i).state with
      | .running => .next (s1.xopDone i m false)
      | .fast => .next (s1.xopDone i m false)
      | _ => .next s1

end Sys2Proof.Machine
end

