-- ==== Sys2Proof/Machine/Mgmt.lean ====
section
/-!
DEFINITION. Management sessions, requests and tickets (03_management_and_time.md R59 to R75), and what IMAGE_BLOCK answers (R426).
-/
namespace Sys2Proof.Machine

/-! ## Frames of the class -/

/-- A MGMT frame that a command is for, as the headbox passes it on (R36, R63, R318): the state and its KT message. A frame of another kind changes
nothing. A frame of the class ends night retention (R359). -/
def State.mgmtRx (s : State) (f : RxFrame) (mine : KtMsg → Bool) : State × Option KtMsg :=
  if !s.isKt f then (s, none) else
  match parseKt f.payload with
  | none => (s, none)
  | some m =>
    if m.cls ≠ clsMgmt ∨ mine m = false then (s, none) else
    let r := s.acceptCtl f true
    if !r.2 then (r.1, none) else
    let q := r.1.nightFrame
    (q.1, if q.2 then some m else none)

/-- Count in GLB_MGMT_AUTH_FAIL. -/
def State.authFail (s : State) : State := s.bump32 Reg.GLB_MGMT_AUTH_FAIL 1

/-- Send a MGMT datagram to where a frame came from. -/
def State.mgmtSend (s : State) (f : RxFrame) (kind : FrameKind) (datagram : Bytes) : State :=
  s.send f.port.val (s.ktFrame f.port.val kind f.srcIp f.srcPort datagram)

/-- A session by number. -/
def State.mgmtSess (s : State) (num : Nat) : Option MgmtSess := s.mgmt.sess.find? (fun x => x.num == num)

/-- Replace a session. -/
def State.setMgmtSess (s : State) (x : MgmtSess) : State :=
  { s with mgmt := { s.mgmt with sess := s.mgmt.sess.map (fun y => if y.num = x.num then x else y) } }

/-- Forget a session. -/
def State.dropMgmtSess (s : State) (num : Nat) : State :=
  { s with mgmt := { s.mgmt with sess := s.mgmt.sess.filter (fun y => y.num != num) } }

/-- A datagram with its TAG (R63): HMAC-SHA-256 over the KT header, whose LENGTH counts the TAG, and the payload up to the TAG. -/
def withTag (key : Bytes) (type session seq : Nat) (body : Bytes) : Bytes :=
  let d := (ktBytes clsMgmt type 0 session seq (body ++ zeros 32)).take (16 + body.length)
  d ++ hmac key d

/-- Is the TAG of a datagram right? -/
def tagOk (key d : Bytes) : Bool := decide (48 ≤ d.length) && hmac key (d.take (d.length - 32)) == d.drop (d.length - 32)

/-! ## Sessions (R60 to R64) -/

/-- STATUS of a HELLO (R61), in the order device, key, signature and point, session, nonce (DEDUCED, log entry 23). -/
def State.helloStatus (s : State) (b : Bytes) : Nat :=
  if b.take 8 ≠ deviceIdBytes then 3
  else if 3 < fieldAt 8 1 b || !s.opKeyOk (fieldAt 8 1 b) (slice 93 65 b) then 1
  else if !ecdsaVerify (slice 93 65 b) (sha256 (b.take 158)) (slice 158 64 b) || (parsePub (slice 28 65 b)).isNone then 2
  else if 4 ≤ s.mgmt.sess.length then 4
  else if !s.noncesOn then 5 else 0

/-- The first number from n on that is a session number and is not in use. -/
def freeNum (used : List Nat) : Nat → Nat → Nat
  | 0, n => n
  | fuel + 1, n => if n = 0 ∨ used.contains n = true then freeNum used fuel ((n + 1) % 2 ^ 32) else n

/-- A refusal: STATUS, and bytes 1 to 152 zero. -/
def helloRefusal (status : Nat) : Bytes := be 1 status ++ zeros 152

/-- An accepted HELLO: nonce, ephemeral key, the two session keys, the signature, and the session. -/
def State.openMgmt (s : State) (f : RxFrame) (b : Bytes) : State :=
  let nonceP := slice 12 16 b
  let r1 := s.trngBytes 16
  let r2 := r1.2.newScalar
  let x := (ecdh r2.1 (slice 28 65 b)).getD (zeros 32)
  let salt := nonceP ++ r1.1
  let head := zeros 8 ++ r1.1 ++ pubOf r2.1
  let sig := ecdsaSign Config.identityKey (sha256 (nonceP ++ head))
  let r3 := r2.2.fresh 32
  let num := freeNum (s.mgmt.sess.map (·.num)) 6 r3.1
  let e : MgmtSess := { num := num, port := f.port.val, ip := f.srcIp, udp := f.srcPort, kPD := hkdf32 salt x (ascii "KT-MGMT-P2D")
                        kDP := hkdf32 salt x (ascii "KT-MGMT-D2P"), keySlot := fieldAt 8 1 b, lastReq := s.now }
  let s1 := { r3.2 with mgmt := { r3.2.mgmt with sess := r3.2.mgmt.sess ++ [e], opened := r3.2.mgmt.opened + 1 } }
  s1.mgmtSend f .mgmt (ktBytes clsMgmt 2 0 num 0 (head ++ sig))

/-- HELLO (R60 to R62). -/
def execHello (f : RxFrame) (s : State) : Host.Outcome State Fault Refusal :=
  let p := f.port.val
  let r := s.mgmtRx f (fun m => m.type == 1)
  match r.2 with
  | none => .next r.1
  | some m =>
    let s1 := r.1
    if m.body.length ≠ 222 then .next (s1.discard (Reg.PRT_KT_BAD p))
    else if 10 ≤ (s1.port p).hellos then .next s1.authFail
    else
      let s2 := s1.setPort p { s1.port p with hellos := (s1.port p).hellos + 1 }
      let st := s2.helloStatus m.body
      if st = 0 then .next (s2.openMgmt f m.body)
      else .next (s2.authFail.mgmtSend f .mgmt (ktBytes clsMgmt 2 0 0 0 (helloRefusal st)))

/-- BYE (R64): a valid one ends the session after the device's own BYE. -/
def execBye (f : RxFrame) (s : State) : Host.Outcome State Fault Refusal :=
  let r := s.mgmtRx f (fun m => m.type == 5)
  match r.2 with
  | none => .next r.1
  | some m => match r.1.mgmtSess m.session with
    | none => .next r.1.authFail
    | some x =>
      if tagOk x.kPD f.payload then .next ((r.1.mgmtSend f .bye (withTag x.kDP 5 x.num 0 [])).dropMgmtSess x.num)
      else .next r.1.authFail

/-- MGMT_SESSION_IDLE (R64): no valid REQUEST for IDLE_S. -/
def execMgmtSessionIdle (num : Nat) (s : State) : Host.Outcome State Fault Refusal :=
  match s.mgmtSess num with
  | none => .next s
  | some x => if x.lastReq + sT (s.cfgF Reg.GLB_KT_TIMERS 16 12) ≤ s.now then .next (s.dropMgmtSess num) else .next s

/-! ## Requests (R65 to R70) -/

/-- The kinds of REQUEST: OP and, for TICKET_START, KIND. -/
inductive ReqKind
  | read | write | selfTest | calibrate | attest | digest | still | install | ticketRead | ticketRelease | imageBlock | unknown
  deriving DecidableEq, Repr

/-- The part of a REQUEST's payload before its TAG. -/
def reqPart (payload : Bytes) : Bytes := payload.take (payload.length - 32)

/-- The BODY of a REQUEST. -/
def reqBody (payload : Bytes) : Bytes := (reqPart payload).drop 4

/-- TICKET_START by KIND and BODY_LEN (R66, R71). -/
def startKind (kind len : Nat) : ReqKind :=
  if kind = 1 ∧ len = 8 then .selfTest
  else if kind = 2 ∧ len = 8 then .calibrate
  else if kind = 3 ∧ len = 36 then .attest
  else if kind = 4 ∧ len = 4 then .digest
  else if kind = 5 ∧ len = 8 then .still
  else if kind = 6 ∧ len = 8 then .install
  else .unknown

/-- The kind of a REQUEST: `unknown` where OP is unknown, or BODY_LEN wrong for it (R65, R66). -/
def reqKind (payload : Bytes) : ReqKind :=
  let q := reqPart payload
  let len := fieldAt 2 2 q
  let b := q.drop 4
  if q.length ≠ 4 + len then .unknown else
  match fieldAt 0 1 q with
  | 1 => if len = 8 then .read else .unknown
  | 2 => if 8 ≤ len ∧ len = 8 + 4 * fieldAt 4 2 b then .write else .unknown
  | 3 => if 4 ≤ len then startKind (fieldAt 0 1 b) len else .unknown
  | 4 => if len = 8 then .ticketRead else .unknown
  | 5 => if len = 4 then .ticketRelease else .unknown
  | 6 => if len = 1032 then .imageBlock else .unknown
  | _ => .unknown

/-- A RESPONSE: STATUS and BODY. -/
structure Answer where
  status : Nat
  body : Bytes := []
  deriving DecidableEq, Repr

/-- An operation: from the request's session number, its frame and its BODY. -/
abbrev Perform := State → Nat → RxFrame → Bytes → Answer × State

/-- The requests of a session that this instant has taken: a response leaves its instant with the next tick (log entry 25). -/
def MgmtSess.unanswered (x : MgmtSess) (now : Nat) : Nat := if x.busyAt = now then x.busy else 0

/-- A new REQUEST: performed, answered, and its RESPONSE kept (R65, R69). After a reset nothing is answered. -/
def State.performReq (s : State) (x : MgmtSess) (f : RxFrame) (m : KtMsg) (op : Perform) : State :=
  let r := op (s.setMgmtSess { x with lastSeq := m.seq, lastReq := s.now, busyAt := s.now, busy := x.unanswered s.now + 1 }) x.num f
    (reqBody m.body)
  let a := r.1
  let body := if a.status = 0 then a.body else []
  let d := withTag x.kDP 4 x.num m.seq (be 1 (fieldAt 0 1 m.body) ++ be 1 a.status ++ be 2 body.length ++ body)
  match r.2.mgmtSess x.num with
  | none => r.2
  | some y => (r.2.setMgmtSess { y with answers := ((m.seq, d) :: y.answers).take 8 }).mgmtSend f .mgmt d

/-- A REQUEST of a kind (R63, R64, R68, R69). -/
def State.request (s : State) (f : RxFrame) (kind : ReqKind) (op : Perform) : State :=
  let r := s.mgmtRx f (fun m => m.type == 3 && reqKind m.body == kind)
  match r.2 with
  | none => r.1
  | some m => match r.1.mgmtSess m.session with
    | none => r.1.authFail
    | some x =>
      if !tagOk x.kPD f.payload then r.1.authFail
      else if x.lastSeq < m.seq then
        -- a ninth request beside eight that are not yet answered (R68)
        if 8 ≤ x.unanswered r.1.now then r.1.bump32 Reg.GLB_MGMT_REPLAY 1 else r.1.performReq x f m op
      else
        let s1 := r.1.setMgmtSess { x with lastReq := r.1.now }
        match x.answers.find? (fun a => a.1 == m.seq) with
        | some a => s1.mgmtSend f .mgmt a.2
        | none => s1.bump32 Reg.GLB_MGMT_REPLAY 1

/-- An operation that maintenance mode does not permit (R70). -/
def notInMaintenance (op : Perform) : Perform := fun s n f b => if s.maintenance then ({ status := 4 }, s) else op s n f b

/-- Are all COUNT addresses aligned and assigned (R6, R16, R67)? -/
def rangeValid (a n : Nat) : Bool := (List.range n).all (fun k => addrValid (a + 4 * k))

/-- What a management read returns of a register with a value: RC_STATUS, RC_FULL and RC_CARRY updated in this instant read as before (R228). -/
def State.rcShown (s : State) (a : Nat) (v : Word) : Word :=
  let o := (a - 0xA00000) % 256
  if 0xA00000 ≤ a ∧ a < 0xA40000 ∧ 0x50 ≤ o ∧ o ≤ 0x58 then
    match (s.rnd ((a - 0xA00000) / 256)).rcWas with
    | some (t, w) => if t = s.now then w.getD ((o - 0x50) / 4) v else v
    | none => v
  else v

/-- READ (R66, R67, R70). -/
def State.opRead : Perform := fun s _ _ b =>
  let a := fieldAt 0 4 b
  let n := fieldAt 4 2 b
  if n = 0 ∨ 256 < n then ({ status := 2 }, s)
  else if s.maintenance ∧ 0x10000 < a + 4 * n then ({ status := 4 }, s)
  else if !rangeValid a n then ({ status := 1 }, s.bump32 Reg.GLB_MGMT_ADDR_ERR 1)
  else let r := s.readRegs a n; ({ status := 0, body := (r.1.zipIdx.map (fun q => s.rcShown (a + 4 * q.2) q.1)).flatMap (fun w => be 4 w.toNat) }, r.2)

/-- WRITE (R66, R67, R432). -/
def State.opWrite : Perform := fun s num _ b =>
  let a := fieldAt 0 4 b
  let n := fieldAt 4 2 b
  if n = 0 ∨ 256 < n then ({ status := 2 }, s)
  else if !rangeValid a n then ({ status := 1 }, s.bump32 Reg.GLB_MGMT_ADDR_ERR 1)
  else ({ status := 0 }, s.writeRegs (.mgmt num) a (wordsOf (b.drop 8)))

/-! ## Tickets (R71 to R75) -/

/-- Room for a ticket: with 64 held the oldest READY one is displaced (R74). -/
def State.ticketRoom (s : State) : Option State :=
  if s.mgmt.tickets.length < 64 then some s
  else match s.mgmt.tickets.find? (·.ready) with
    | some t => some (s.dropTicket t.num)
    | none => none

/-- The number of the next ticket (R72): 32 bits, up from 1. What follows 0xFFFF_FFFF is not in the manual: the count goes on from 1, past numbers of
tickets still held. DESIGN CHOICE (log entry 91). -/
def State.nextTicket (s : State) : Nat := freeNum (s.mgmt.tickets.map (·.num)) 66 ((s.mgmt.issued + 1) % 2 ^ 32)

/-- TICKET_START: `ok` says whether the parameters are in range, `start` begins the operation (R66, R71, R74). -/
def State.opStart (kind : Nat) (ok : Bytes → Bool) (extra : State → Bytes) (start : State → Nat → Bytes → State) : Perform := fun s _ _ b =>
  let ps := b.drop 4
  if !ok ps then ({ status := 2 }, s) else
  match s.ticketRoom with
  | none => ({ status := 3 }, s)
  | some s1 =>
    let num := s1.nextTicket
    let t : Ticket := { num := num, kind := kind, params := ps ++ extra s, started := s1.now }
    let s2 := { s1 with mgmt := { s1.mgmt with issued := num, tickets := s1.mgmt.tickets ++ [t] } }
    ({ status := 0, body := be 4 num }, start s2 num ps)

/-- Agents that a SELF_TEST accepts (R470). -/
def selfTestAgent (a : Nat) : Bool :=
  decide (0x40 ≤ a ∧ a < 0xA8) || decide (0xAC ≤ a ∧ a < 0xB2)

/-- Agents that a CALIBRATE accepts (R471). -/
def calibrateAgent (a : Nat) : Bool := decide (0x40 ≤ a ∧ a < 0xA8) || a == 0xB8

/-- SELF_TEST. -/
def State.opSelfTest : Perform := notInMaintenance
  (State.opStart 1 (fun ps => selfTestAgent (fieldAt 0 1 ps)) (fun _ => []) (fun s _ _ => s.startTests))

/-- CALIBRATE: the measurement ends at CALIBRATE_DONE. -/
def State.opCalibrate : Perform := notInMaintenance
  (State.opStart 2 (fun ps => calibrateAgent (fieldAt 0 1 ps)) (fun _ => []) (fun s _ _ => s))

/-- ATTEST: the report joins the signing queue (R486). -/
def State.opAttest : Perform := notInMaintenance
  (State.opStart 3 (fun _ => true) (fun _ => []) (fun s num ps => s.queueAttest num ps))

/-- DIGEST: READY at once with the announced epoch and its digest (R71). -/
def State.opDigest : Perform := notInMaintenance
  (State.opStart 4 (fun _ => true) (fun _ => []) (fun s num _ => s.readyTicket num 0 (be 4 s.epoch ++ s.digest)))

/-- Is a still's source OPEN? -/
def State.stillOpen (s : State) (kind n : Nat) : Bool := if kind = 0 then s.cstate n == 2 else s.rstate n == 2

/-- STILL: READY at once with RESULT 2 if the source is not OPEN (R209). The announced STILL_Q is kept behind the parameters (R212). -/
def State.opStill : Perform := notInMaintenance
  (State.opStart 5 (fun ps => decide (fieldAt 0 1 ps ≤ 1 ∧ fieldAt 2 2 ps < 1024)) (fun s => be 1 (s.cfgF Reg.GLB_ENC_CFG 8 7))
    (fun s num ps => if s.stillOpen (fieldAt 0 1 ps) (fieldAt 2 2 ps) then s else s.readyTicket num 2 []))

/-- IMAGE_INSTALL: the check ends at IMAGE_INSTALL_DONE (R428). -/
def State.opInstall : Perform :=
  State.opStart 6 (fun ps => decide (fieldAt 0 1 ps ≤ 1)) (fun _ => []) (fun s _ _ => s)

/-- The largest KT payload toward the sender of a frame: its partner's, or in maintenance mode that of PMTU 1,280 (DEDUCED, log entry 24). -/
def State.maxToward (s : State) (f : RxFrame) : Nat := match s.partnerOf f with
  | some n => s.ptnMaxPayload n
  | none => s.maxPayload f.port.val f.srcIp 1280

/-- The response of a TICKET_READ (R72, R73). PROGRESS of a pending ticket is a free value up to 100. -/
def State.opTicketRead : Perform := fun s _ f b =>
  let num := fieldAt 0 4 b
  let off := fieldAt 4 4 b
  match (if s.mgmt.cancelled.contains num then none else s.ticket num) with
  | none => ({ status := 5 }, s)
  | some t =>
    if !t.ready then
      let r := s.fresh 16
      ({ status := 0, body := be 1 0 ++ be 1 0 ++ be 1 (r.1 % 101) ++ zeros 1 ++ be 4 0 ++ be 4 0 ++ be 4 off }, r.2)
    else
      let reads := if off = 0 then t.reads + 1 else t.reads
      let data := slice off (s.maxToward f - 52) t.data
      ({ status := 0, body := be 1 1 ++ be 1 t.result ++ be 1 100 ++ zeros 1 ++ be 4 reads ++ be 4 t.data.length ++ be 4 off ++ data },
        s.mapTicket num (fun y => { y with reads := reads }))

/-- Is the still of a ticket on an encode core? -/
def State.stillRuns (s : State) (num : Nat) : Bool := s.units.any (fun u => u.2.job == some (.still num))

/-- A pending ticket is released (R74): the unit stops where it can, and the place is free then. A self-test that runs, a report that is
being signed and a still that is being encoded end later. -/
def State.cancelTicket (s : State) (t : Ticket) : State :=
  let later := { s with mgmt := { s.mgmt with cancelled := s.mgmt.cancelled ++ [t.num] } }
  if t.kind = 1 ∧ t.running = true then later
  else if t.kind = 3 then
    (if s.seals.attests.contains t.num then
      { s with seals := { s.seals with attests := s.seals.attests.filter (· != t.num) } }.dropTicket t.num
    else later)
  else if t.kind = 5 then
    (if s.stillRuns t.num then later
    else match s.stills.find? (fun x => x.ticket == t.num) with
      | some x => (s.dropStill x).dropTicket t.num
      | none => s.dropTicket t.num)
  else s.dropTicket t.num

/-- TICKET_RELEASE (R74). -/
def State.opTicketRelease : Perform := fun s _ _ b =>
  let num := fieldAt 0 4 b
  match (if s.mgmt.cancelled.contains num then none else s.ticket num) with
  | none => ({ status := 5 }, s)
  | some t => ({ status := 0 }, if t.ready then s.dropTicket num else s.cancelTicket t)

/-- IMAGE_BLOCK (R426). -/
def State.opImageBlock : Perform := fun s _ _ b =>
  let r := s.imageBlock b
  match r.1 with
  | some body => ({ status := 0, body := body }, r.2)
  | none => ({ status := 2 }, r.2)

/-- An unknown OP, or a BODY_LEN that is wrong for it (R65). -/
def opUnknown : Perform := fun s _ _ _ => ({ status := 2 }, s)

/-! ## The commands -/

/-- READ. -/
def execRead (f : RxFrame) (s : State) : Host.Outcome State Fault Refusal := .next (s.request f .read State.opRead)
/-- WRITE. -/
def execWrite (f : RxFrame) (s : State) : Host.Outcome State Fault Refusal := .next (s.request f .write (notInMaintenance State.opWrite))
/-- TICKET_START_SELF_TEST. -/
def execTicketStartSelfTest (f : RxFrame) (s : State) : Host.Outcome State Fault Refusal := .next (s.request f .selfTest State.opSelfTest)
/-- TICKET_START_CALIBRATE. -/
def execTicketStartCalibrate (f : RxFrame) (s : State) : Host.Outcome State Fault Refusal := .next (s.request f .calibrate State.opCalibrate)
/-- TICKET_START_ATTEST. -/
def execTicketStartAttest (f : RxFrame) (s : State) : Host.Outcome State Fault Refusal := .next (s.request f .attest State.opAttest)
/-- TICKET_START_DIGEST. -/
def execTicketStartDigest (f : RxFrame) (s : State) : Host.Outcome State Fault Refusal := .next (s.request f .digest State.opDigest)
/-- TICKET_START_STILL. -/
def execTicketStartStill (f : RxFrame) (s : State) : Host.Outcome State Fault Refusal := .next (s.request f .still State.opStill)
/-- TICKET_START_IMAGE_INSTALL. -/
def execTicketStartImageInstall (f : RxFrame) (s : State) : Host.Outcome State Fault Refusal := .next (s.request f .install State.opInstall)
/-- TICKET_READ. -/
def execTicketRead (f : RxFrame) (s : State) : Host.Outcome State Fault Refusal := .next (s.request f .ticketRead State.opTicketRead)
/-- TICKET_RELEASE. -/
def execTicketRelease (f : RxFrame) (s : State) : Host.Outcome State Fault Refusal := .next (s.request f .ticketRelease State.opTicketRelease)
/-- IMAGE_BLOCK. -/
def execImageBlock (f : RxFrame) (s : State) : Host.Outcome State Fault Refusal := .next (s.request f .imageBlock State.opImageBlock)
/-- UNKNOWN_OP_REQUEST. -/
def execUnknownOpRequest (f : RxFrame) (s : State) : Host.Outcome State Fault Refusal := .next (s.request f .unknown opUnknown)

end Sys2Proof.Machine
end

