-- ==== Sys2Proof/Machine/Dispatch.lean ====
section
/-!
DEFINITION. What each command does to everything but the queue.
-/
namespace Sys2Proof.Machine

def exec (i : Instr) (s : State) : Host.Outcome State Fault Refusal :=
  match i with
  | .linkUp p => Sys2Proof.Machine.execLinkUp p s
  | .linkDown p => Sys2Proof.Machine.execLinkDown p s
  | .hiBer p => Sys2Proof.Machine.execHiBer p s
  | .trainingDone p fec => Sys2Proof.Machine.execTrainingDone p fec s
  | .pauseFrame f => Sys2Proof.Machine.execPauseFrame f s
  | .arpRequest f => Sys2Proof.Machine.execArpRequest f s
  | .arpReply f => Sys2Proof.Machine.execArpReply f s
  | .neighborSolicitation f => Sys2Proof.Machine.execNeighborSolicitation f s
  | .neighborAdvertisement f => Sys2Proof.Machine.execNeighborAdvertisement f s
  | .mldQuery f => Sys2Proof.Machine.execMldQuery f s
  | .igmpQuery f => Sys2Proof.Machine.execIgmpQuery f s
  | .icmpEchoRequest f => Sys2Proof.Machine.execIcmpEchoRequest f s
  | .rateWindowRollover => Sys2Proof.Machine.execRateWindowRollover s
  | .neighbourRefresh p ip => Sys2Proof.Machine.execNeighbourRefresh p ip s
  | .neighbourRetryTimeout p ip => Sys2Proof.Machine.execNeighbourRetryTimeout p ip s
  | .resolutionWaitExpiry p => Sys2Proof.Machine.execResolutionWaitExpiry p s
  | .ptpSync f m => Sys2Proof.Machine.execPtpSync f m s
  | .ptpFollowUp f m => Sys2Proof.Machine.execPtpFollowUp f m s
  | .ptpAnnounce f m a => Sys2Proof.Machine.execPtpAnnounce f m a s
  | .ptpDelayResp f m => Sys2Proof.Machine.execPtpDelayResp f m s
  | .ptpPdelayReq f m => Sys2Proof.Machine.execPtpPdelayReq f m s
  | .ptpPdelayResp f resp follow => Sys2Proof.Machine.execPtpPdelayResp f resp follow s
  | .ptpDelayReqTimer => Sys2Proof.Machine.execPtpDelayReqTimer s
  | .syncLossTimeout => Sys2Proof.Machine.execSyncLossTimeout s
  | .holdoverExpiry => Sys2Proof.Machine.execHoldoverExpiry s
  | .rtpPacket f => Sys2Proof.Machine.execRtpPacket f s
  | .reorderExpiry n => Sys2Proof.Machine.execReorderExpiry n s
  | .auWaitExpiry n => Sys2Proof.Machine.execAuWaitExpiry n s
  | .contextIdleTimeout n => Sys2Proof.Machine.execContextIdleTimeout n s
  | .offloadOpen f => Sys2Proof.Machine.execOffloadOpen f s
  | .offloadData f => Sys2Proof.Machine.execOffloadData f s
  | .offloadClose f => Sys2Proof.Machine.execOffloadClose f s
  | .offloadAbort f => Sys2Proof.Machine.execOffloadAbort f s
  | .maskOpen f => Sys2Proof.Machine.execMaskOpen f s
  | .maskData f => Sys2Proof.Machine.execMaskData f s
  | .maskClose f => Sys2Proof.Machine.execMaskClose f s
  | .maskAbort f => Sys2Proof.Machine.execMaskAbort f s
  | .ackDelayExpiry r => Sys2Proof.Machine.execAckDelayExpiry r s
  | .zeroWindowRepeat r => Sys2Proof.Machine.execZeroWindowRepeat r s
  | .closeTimeout r => Sys2Proof.Machine.execCloseTimeout r s
  | .closedSessionExpiry r => Sys2Proof.Machine.execClosedSessionExpiry r s
  | .pausedSessionAbort r => Sys2Proof.Machine.execPausedSessionAbort r s
  | .maskSessionIdle r => Sys2Proof.Machine.execMaskSessionIdle r s
  | .partnerHeartbeat f => Sys2Proof.Machine.execPartnerHeartbeat f s
  | .partnerSilenceTimeout n => Sys2Proof.Machine.execPartnerSilenceTimeout n s
  | .deviceHeartbeatTimer => Sys2Proof.Machine.execDeviceHeartbeatTimer s
  | .hello f => Sys2Proof.Machine.execHello f s
  | .bye f => Sys2Proof.Machine.execBye f s
  | .mgmtSessionIdle num => Sys2Proof.Machine.execMgmtSessionIdle num s
  | .read f => Sys2Proof.Machine.execRead f s
  | .write f => Sys2Proof.Machine.execWrite f s
  | .ticketStartSelfTest f => Sys2Proof.Machine.execTicketStartSelfTest f s
  | .ticketStartCalibrate f => Sys2Proof.Machine.execTicketStartCalibrate f s
  | .ticketStartAttest f => Sys2Proof.Machine.execTicketStartAttest f s
  | .ticketStartDigest f => Sys2Proof.Machine.execTicketStartDigest f s
  | .ticketStartStill f => Sys2Proof.Machine.execTicketStartStill f s
  | .ticketStartImageInstall f => Sys2Proof.Machine.execTicketStartImageInstall f s
  | .ticketRead f => Sys2Proof.Machine.execTicketRead f s
  | .ticketRelease f => Sys2Proof.Machine.execTicketRelease f s
  | .imageBlock f => Sys2Proof.Machine.execImageBlock f s
  | .flashProgramDone ok => Sys2Proof.Machine.execFlashProgramDone ok s
  | .selfTestDone agent verdict dur ms => Sys2Proof.Machine.execSelfTestDone agent verdict dur ms s
  | .selfTestFitTimeout num => Sys2Proof.Machine.execSelfTestFitTimeout num s
  | .calibrateDone num dur ms r => Sys2Proof.Machine.execCalibrateDone num dur ms r s
  | .attestSigned k => Sys2Proof.Machine.execAttestSigned k s
  | .stillDone c => Sys2Proof.Machine.execStillDone c s
  | .stillTimeout num => Sys2Proof.Machine.execStillTimeout num s
  | .imageInstallDone num => Sys2Proof.Machine.execImageInstallDone num s
  | .maintenanceInstallReset => Sys2Proof.Machine.execMaintenanceInstallReset s
  | .admissionEvaluation => Sys2Proof.Machine.execAdmissionEvaluation s
  | .capabilityPublish k f e => Sys2Proof.Machine.execCapabilityPublish k f e s
  | .verificationLimitExpiry n => Sys2Proof.Machine.execVerificationLimitExpiry n s
  | .decodeDispatch poison => Sys2Proof.Machine.execDecodeDispatch poison s
  | .decodeAllocFailure n => Sys2Proof.Machine.execDecodeAllocFailure n s
  | .decodePictureDone c po => Sys2Proof.Machine.execDecodePictureDone c po s
  | .sealSigned k => Sys2Proof.Machine.execSealSigned k s
  | .sheetTimer slot => Sys2Proof.Machine.execSheetTimer slot s
  | .composeDispatch poison => Sys2Proof.Machine.execComposeDispatch poison s
  | .composePictureDone u po => Sys2Proof.Machine.execComposePictureDone u po s
  | .flattenDone u => Sys2Proof.Machine.execFlattenDone u s
  | .tileWaitExpiry n => Sys2Proof.Machine.execTileWaitExpiry n s
  | .maskWaitExpiry n => Sys2Proof.Machine.execMaskWaitExpiry n s
  | .encodeDispatch poison => Sys2Proof.Machine.execEncodeDispatch poison s
  | .encodePictureDone c po => Sys2Proof.Machine.execEncodePictureDone c po s
  | .encAllocTimeout n => Sys2Proof.Machine.execEncAllocTimeout n s
  | .ctxClose n => Sys2Proof.Machine.execCtxClose n s
  | .rndOpen n port => Sys2Proof.Machine.execRndOpen n port s
  | .rndClose n => Sys2Proof.Machine.execRndClose n s
  | .decOos c out => Sys2Proof.Machine.execDecOos c out s
  | .encOos c out => Sys2Proof.Machine.execEncOos c out s
  | .cuOos u out => Sys2Proof.Machine.execCuOos u out s
  | .egressSelect p => Sys2Proof.Machine.execEgressSelect p s
  | .collectorRound => Sys2Proof.Machine.execCollectorRound s
  | .holdoffExpiry g => Sys2Proof.Machine.execHoldoffExpiry g s
  | .fastEventAccept j => Sys2Proof.Machine.execFastEventAccept j s
  | .seqWake j => Sys2Proof.Machine.execSeqWake j s
  | .microwordStep j rd => Sys2Proof.Machine.execMicrowordStep j rd s
  | .fetch j => Sys2Proof.Machine.execFetch j s
  | .sleep j => Sys2Proof.Machine.execSleep j s
  | .retf j => Sys2Proof.Machine.execRetf j s
  | .load j errs => Sys2Proof.Machine.execLoad j errs s
  | .store j errs => Sys2Proof.Machine.execStore j errs s
  | .regrd j => Sys2Proof.Machine.execRegrd j s
  | .regwr j => Sys2Proof.Machine.execRegwr j s
  | .pop j => Sys2Proof.Machine.execPop j s
  | .setprio j => Sys2Proof.Machine.execSetprio j s
  | .doorbell j => Sys2Proof.Machine.execDoorbell j s
  | .unit j => Sys2Proof.Machine.execUnit j s
  | .seal j => Sys2Proof.Machine.execSeal j s
  | .alloc by_ => Sys2Proof.Machine.execAlloc by_ s
  | .free by_ => Sys2Proof.Machine.execFree by_ s
  | .give by_ => Sys2Proof.Machine.execGive by_ s
  | .dmaArm n seq => Sys2Proof.Machine.execDmaArm n seq s
  | .dmaAbort n => Sys2Proof.Machine.execDmaAbort n s
  | .dmaClear n => Sys2Proof.Machine.execDmaClear n s
  | .dmaProgStart n => Sys2Proof.Machine.execDmaProgStart n s
  | .dmaGoSet n => Sys2Proof.Machine.execDmaGoSet n s
  | .dmaSwreqWrite v => Sys2Proof.Machine.execDmaSwreqWrite v s
  | .dmaBurst n line errs => Sys2Proof.Machine.execDmaBurst n line errs s
  | .move n => Sys2Proof.Machine.execMove n s
  | .loop n => Sys2Proof.Machine.execLoop n s
  | .wait n line => Sys2Proof.Machine.execWait n line s
  | .waitTimeout n => Sys2Proof.Machine.execWaitTimeout n s
  | .signal n => Sys2Proof.Machine.execSignal n s
  | .end_ n => Sys2Proof.Machine.execEnd n s
  | .nop n => Sys2Proof.Machine.execNop n s
  | .memReadRequest agent a n errs => Sys2Proof.Machine.execMemReadRequest agent a n errs s
  | .memWriteRequest agent a mask data poison errs => Sys2Proof.Machine.execMemWriteRequest agent a mask data poison errs s
  | .writeAgeDrain p => Sys2Proof.Machine.execWriteAgeDrain p s
  | .memReadTimeout agent a => Sys2Proof.Machine.execMemReadTimeout agent a s
  | .patrolScrubRead p errs => Sys2Proof.Machine.execPatrolScrubRead p errs s
  | .marginProbe p ms => Sys2Proof.Machine.execMarginProbe p ms s
  | .refresh p => Sys2Proof.Machine.execRefresh p s
  | .refreshRateRead p rs => Sys2Proof.Machine.execRefreshRateRead p rs s
  | .backgroundFill => Sys2Proof.Machine.execBackgroundFill s
  | .nightEnter exit => Sys2Proof.Machine.execNightEnter exit s
  | .nightExit => Sys2Proof.Machine.execNightExit s
  | .nightEntryDone => Sys2Proof.Machine.execNightEntryDone s
  | .nightExitDone => Sys2Proof.Machine.execNightExitDone s
  | .powerFailDetect pf mv acked => Sys2Proof.Machine.execPowerFailDetect pf mv acked s
  | .manifestSigned => Sys2Proof.Machine.execManifestSigned s
  | .journalCommitDone bad => Sys2Proof.Machine.execJournalCommitDone bad s
  | .vinCollapse mv done => Sys2Proof.Machine.execVinCollapse mv done s
  | .powerReturnReset e => Sys2Proof.Machine.execPowerReturnReset e s
  | .nporFall => Sys2Proof.Machine.execNporFall s
  | .bootStart e => Sys2Proof.Machine.execBootStart e s
  | .flashReadTimeout slot => Sys2Proof.Machine.execFlashReadTimeout slot s
  | .journalReadTimeout => Sys2Proof.Machine.execJournalReadTimeout s
  | .memPortInitDone p ok ms => Sys2Proof.Machine.execMemPortInitDone p ok ms s
  | .sweepStart => Sys2Proof.Machine.execSweepStart s
  | .epochAnnounce => Sys2Proof.Machine.execEpochAnnounce s
  | .glbReset key => Sys2Proof.Machine.execGlbReset key s
  | .unitProgressTimeout agent => Sys2Proof.Machine.execUnitProgressTimeout agent s
  | .xopTimeout j => Sys2Proof.Machine.execXopTimeout j s
  | .regulatorOutOfRange => Sys2Proof.Machine.execRegulatorOutOfRange s
  | .unitResetDone agent => Sys2Proof.Machine.execUnitResetDone agent s
  | .safeStateExit => Sys2Proof.Machine.execSafeStateExit s
  | .fltForce n => Sys2Proof.Machine.execFltForce n s
  | .fltUnfreeze agent key => Sys2Proof.Machine.execFltUnfreeze agent key s
  | .fltStatusClear k bits => Sys2Proof.Machine.execFltStatusClear k bits s
  | .refCalibration r => Sys2Proof.Machine.execRefCalibration r s
  | .groupMeasurement agent ms => Sys2Proof.Machine.execGroupMeasurement agent ms s
  | .currentLimitStep => Sys2Proof.Machine.execCurrentLimitStep s
  | .currentRestoreStep => Sys2Proof.Machine.execCurrentRestoreStep s
  | .replan ps again => Sys2Proof.Machine.execReplan ps again s
  | .calReplan => Sys2Proof.Machine.execCalReplan s
  | .otpProgram num slot => Sys2Proof.Machine.execOtpProgram num slot s
  | .otpRevoke num slot => Sys2Proof.Machine.execOtpRevoke num slot s
  | .otpAdvance num => Sys2Proof.Machine.execOtpAdvance num s
  | .otpCommandDone ok => Sys2Proof.Machine.execOtpCommandDone ok s
  | .keyload dr => Sys2Proof.Machine.execKeyload dr s
  | .jtagInstruction code => Sys2Proof.Machine.execJtagInstruction code s
  | .prtCntClr p v => Sys2Proof.Machine.execPrtCntClr p v s
  | .glbCntClr v => Sys2Proof.Machine.execGlbCntClr v s
  | .glbAdmCntClr v => Sys2Proof.Machine.execGlbAdmCntClr v s
  | .decCntClr p v => Sys2Proof.Machine.execDecCntClr p v s
  | .encCntClr p v => Sys2Proof.Machine.execEncCntClr p v s
  | .cuCntClr p v => Sys2Proof.Machine.execCuCntClr p v s
  | .sealCntClr v => Sys2Proof.Machine.execSealCntClr v s
  | .hbxCntClr v => Sys2Proof.Machine.execHbxCntClr v s
  | .egqCntClr v => Sys2Proof.Machine.execEgqCntClr v s
  | .memCntClr p v => Sys2Proof.Machine.execMemCntClr p v s
  | .glbMemCntClr v => Sys2Proof.Machine.execGlbMemCntClr v s
  | .fpCntClr p v => Sys2Proof.Machine.execFpCntClr p v s
  | .fpGlbCntClr v => Sys2Proof.Machine.execFpGlbCntClr v s
  | .dmaCntClr p v => Sys2Proof.Machine.execDmaCntClr p v s
  | .seqCntClr p v => Sys2Proof.Machine.execSeqCntClr p v s
  | .intCntClr v => Sys2Proof.Machine.execIntCntClr v s
  | .colCntClr v => Sys2Proof.Machine.execColCntClr v s
  | .glbCfgCntClr v => Sys2Proof.Machine.execGlbCfgCntClr v s
  | .fltCntClr v => Sys2Proof.Machine.execFltCntClr v s
  | .calCntClr v => Sys2Proof.Machine.execCalCntClr v s
  | .registerWrite num a v => Sys2Proof.Machine.execRegisterWrite num a v s
  | .blockLockAcquired p => Sys2Proof.Machine.execBlockLockAcquired p s
  | .blockLockLost p => Sys2Proof.Machine.execBlockLockLost p s
  | .discardedFrame f => Sys2Proof.Machine.execDiscardedFrame f s
  | .unknownOpRequest f => Sys2Proof.Machine.execUnknownOpRequest f s
  | .windowRisesFromZero r => Sys2Proof.Machine.execWindowRisesFromZero r s
  | .powerReturn mv => Sys2Proof.Machine.execPowerReturn mv s
  | .internalCheckFailure src record => Sys2Proof.Machine.execInternalCheckFailure src record s
  | .temperatureLimitCrossing t sensor => Sys2Proof.Machine.execTemperatureLimitCrossing t sensor s
  | .regulatorBackInRange => Sys2Proof.Machine.execRegulatorBackInRange s
  | .trngTestWindow pass => Sys2Proof.Machine.execTrngTestWindow pass s

end Sys2Proof.Machine
end

