-- ==== Sys2Proof/Machine/Step.lean ====
section
/-!
DEFINITION. One step: the command at the front of the queue, or one tick of the monotonic base where none waits (log entry 1).
-/
namespace Sys2Proof.Machine

/-- The command at the front of the queue is taken out and performed; on an empty queue the block runs on for one tick. -/
def step (s : State) : Host.Outcome State Fault Refusal := match s.pending with
  | [] => .next s.idle
  | c :: rest => exec c { s with pending := rest }

/-- The command that a word spells, put at the front of the queue. The opcode table gives no command a word, so the state is unchanged. -/
def State.withFetchWord (s : State) (nbits w : Nat) : State := match decodeTableWord nbits w with
  | some c => { s with pending := c :: s.pending }
  | none => s

end Sys2Proof.Machine
end

