-- ==== Sys2Proof/Machine/Pins.lean ====
section
/-!
DEFINITION. The balls of the package (22_pins_and_electrical.md R496 to R502) and the states of the pins (R503, R508): what a board sees of the state. No command reads
any of it.
-/
namespace Sys2Proof.Machine

/-! ## Ball names (R496) -/

/-- The row letters in order, without I, O, Q, R, S, X and Z. -/
def rowLetters : List String := ["A", "B", "C", "D", "E", "F", "G", "H", "J", "K", "L", "M", "N", "P", "T", "U", "V", "W", "Y"]

/-- The letters of a row, 1 to 64. -/
def rowName (r : Nat) : String :=
  let k := r - 1
  ((["", "A", "B", "C"]).getD (k / 19) "") ++ rowLetters.getD (k % 19) ""

/-- A ball by row and column. -/
def ballName (r c : Nat) : String := rowName r ++ toString c

/-- Is the position without a ball: rows 28 to 37 in columns 28 to 37, except the four VSS positions? -/
def depopulated (r c : Nat) : Bool :=
  decide (28 ≤ r ∧ r ≤ 37 ∧ 28 ≤ c ∧ c ≤ 37) && !(decide (32 ≤ r ∧ r ≤ 33 ∧ 32 ≤ c ∧ c ≤ 33))

/-! ## Memory balls (R498) -/

/-- Row and column of position (d, l) in the field of channel Mp.Sk. -/
def memPosition (p k d l : Nat) : Nat × Nat :=
  let w := 25 * (p % 2) + 5 * k + l
  match p / 2 with
  | 0 => (d, w)
  | 1 => (w, 65 - d)
  | 2 => (65 - d, 65 - w)
  | _ => (65 - w, d)

/-- The signal at each position of a field, depth 1 first. -/
def memField : List (List String) := [
  ["DQ0", "DQ1", "DQ2", "DQ3", "VDDQ_M"],
  ["DQ4", "DQ5", "DQ6", "DQ7", "VDDQ_M"],
  ["WCK0_T", "WCK0_C", "RDQS0_T", "RDQS0_C", "CS"],
  ["CK_T", "CK_C", "CA0", "CA1", "CA2"],
  ["CA3", "CA4", "CA5", "CA6", "VDDQ_M"],
  ["WCK1_T", "WCK1_C", "RDQS1_T", "RDQS1_C", "RESET_N"],
  ["DQ8", "DQ9", "DQ10", "DQ11", "VDDQ_M"],
  ["DQ12", "DQ13", "DQ14", "DQ15", "VDDQ_M"]]

/-- The signal at position (d, l). -/
def memSignal (d l : Nat) : String := (memField.getD (d - 1) []).getD (l - 1) ""

/-- The ball of a channel's signal. -/
def memBall (p k : Nat) (name : String) : Option String :=
  let at_ := (List.range 40).find? (fun i => memSignal (i / 5 + 1) (i % 5 + 1) == name)
  at_.map (fun i => let q := memPosition p k (i / 5 + 1) (i % 5 + 1); ballName q.1 q.2)

/-! ## Other balls (R500 to R502) -/

/-- The named balls outside the memory fields: row, first column, and the names from there on. Every other position of the SerDes, flash and journal
areas is VSS. -/
def namedRows : List (String × Nat × List String) := [
  ("A", 51, ["VSS", "P0_TXP", "P0_TXN", "VSS", "P1_TXP", "P1_TXN"]),
  ("C", 51, ["VSS", "P0_RXP", "P0_RXN", "VSS", "P1_RXP", "P1_RXN"]),
  ("D", 51, ["VSS", "REFCLKA_P", "REFCLKA_N", "VSS", "REFCLKB_P", "REFCLKB_N"]),
  ("E", 51, ["VSS", "P2_TXP", "P2_TXN", "VSS", "P3_TXP", "P3_TXN"]),
  ("G", 51, ["VSS", "P2_RXP", "P2_RXN", "VSS", "P3_RXP", "P3_RXN"]),
  ("J", 1, ["CFG_DQ0", "CFG_DQ1", "CFG_DQ2", "CFG_DQ3", "CFG_DQ4", "CFG_DQ5", "CFG_DQ6", "CFG_DQ7"]),
  ("K", 1, ["CFG_CS_N", "CFG_SCK", "CFG_DQS", "CFG_RESET_N", "VSS", "VSS", "VSS", "VSS"]),
  ("M", 1, ["JRN_DQ0", "JRN_DQ1", "JRN_DQ2", "JRN_DQ3", "JRN_DQ4", "JRN_DQ5", "JRN_DQ6", "JRN_DQ7"]),
  ("N", 1, ["JRN_CS_N", "JRN_SCK", "JRN_DQS", "JRN_RESET_N", "VSS", "VSS", "VSS", "VSS"]),
  ("BN", 57, ["ST0", "ST1", "ST2", "ST3", "ST4", "ST5", "ST6", "ST7"]),
  ("BP", 57, ["FAULT_N", "THERM_N", "NPOR_N", "PFAIL_N", "BOOT0", "BOOT1", "BOOT2", "VSS"]),
  ("BT", 57, ["TCK", "TMS", "TDI", "TDO", "TRST_N", "VSS", "REFCLK", "VSS"]),
  ("BU", 57, ["PRECRES", "PRECRES_RTN", "VSS", "VIN_SNS_P", "VIN_SNS_N", "VSS", "TDIODE_P", "TDIODE_N"]),
  ("BV", 57, ["VCORE_SNS", "VCORE_SNS_RTN", "VSS", "DNU", "DNU", "DNU", "DNU", "DNU"]),
  ("BW", 57, ["VSS", "DNU", "VSS", "DNU", "VSS", "DNU", "VSS", "DNU"]),
  ("BY", 9, ["TMODE0", "TMODE1", "TMODE2", "TMODE3", "SCAN_EN", "DNU"]),
  ("CA", 9, ["SCAN_IN0", "SCAN_IN1", "SCAN_IN2", "SCAN_IN3", "SCAN_IN4", "SCAN_IN5"]),
  ("CB", 9, ["SCAN_IN6", "SCAN_IN7", "SCAN_IN8", "SCAN_IN9", "SCAN_IN10", "SCAN_IN11"]),
  ("CC", 9, ["SCAN_OUT0", "SCAN_OUT1", "SCAN_OUT2", "SCAN_OUT3", "SCAN_OUT4", "SCAN_OUT5"]),
  ("CD", 9, ["SCAN_OUT6", "SCAN_OUT7", "SCAN_OUT8", "SCAN_OUT9", "SCAN_OUT10", "SCAN_OUT11"]),
  ("CE", 9, ["DNU", "DNU", "DNU", "DNU", "DNU", "DNU"]),
  ("CF", 9, ["DNU", "DNU", "DNU", "DNU", "DNU", "DNU"]),
  ("CG", 9, ["DNU", "DNU", "DNU", "DNU", "DNU", "DNU"])]

/-- Is the centre position VIN (R502)? -/
def isVin (r c : Nat) : Bool :=
  decide (19 ≤ r ∧ r ≤ 46) && (decide (12 ≤ c ∧ c ≤ 26) || decide (39 ≤ c ∧ c ≤ 53)) && (r + c) % 2 == 0

/-- Does channel Mp.Sk's field hold the position? Its signal. -/
def memAt (r c : Nat) : Option (Nat × Nat × String) :=
  (List.range 1600).findSome? (fun i =>
    let p := i / 200
    let k := i / 40 % 5
    let d := i / 5 % 8 + 1
    let l := i % 5 + 1
    if memPosition p k d l = (r, c) then some (p, k, memSignal d l) else none)

/-- What a position carries; none where there is no ball. -/
def ballSignal (r c : Nat) : Option String :=
  if depopulated r c then none
  else if 9 ≤ r ∧ r ≤ 56 ∧ 9 ≤ c ∧ c ≤ 56 then
    (match namedRows.find? (fun x => x.1 == rowName r && decide (x.2.1 ≤ c) && decide (c < x.2.1 + x.2.2.length)) with
      | some x => x.2.2[c - x.2.1]?
      | none => some (if isVin r c then "VIN" else "VSS"))
  else match memAt r c with
    | some (p, k, n) => some (if n = "VDDQ_M" then n else "M" ++ toString p ++ ".S" ++ toString k ++ "_" ++ n)
    | none => (match namedRows.find? (fun x => x.1 == rowName r && decide (x.2.1 ≤ c) && decide (c < x.2.1 + x.2.2.length)) with
        | some x => x.2.2[c - x.2.1]?
        | none => some "VSS")

/-! ## Pin states (R448, R503, R508) -/

/-- What a ball shows. -/
inductive PinLevel
  | highZ | low | high | released | active | electricalIdle
  deriving DecidableEq, Repr

/-- The columns of R508. -/
inductive PinTime
  | noSupply | held | booting | running
  deriving DecidableEq, Repr

/-- The column that applies: VIN below 2.30 V, reset held, boot, or after step 10. -/
def State.pinTime (s : State) : PinTime :=
  if s.power.vin < 2300 then .noSupply
  else if s.boot.phase = .off then .held
  else if s.boot.phase = .running then .running else .booting

/-- ST0 to ST7. -/
def State.stPins (s : State) : List PinLevel := match s.pinTime with
  | .noSupply => List.replicate 8 .highZ
  | _ => s.statusPins.map (fun b => if b then .high else .low)

/-- FAULT_N. -/
def State.faultN (s : State) : PinLevel := match s.pinTime with
  | .noSupply => .highZ
  | .held => .released
  | _ => if s.faults.faultPin then .low else .released

/-- THERM_N: low while CAL_TEMP.HOT is 1, from boot step 2 on. -/
def State.thermN (s : State) : PinLevel := match s.pinTime with
  | .noSupply => .highZ
  | .held => .released
  | _ => if s.regBit Reg.CAL_TEMP 12 then .low else .released

/-- CFG_CS_N and JRN_CS_N between commands. -/
def State.csN (s : State) : PinLevel := match s.pinTime with
  | .noSupply => .highZ
  | .booting => .active
  | _ => .high

/-- CFG_RESET_N and JRN_RESET_N. -/
def State.flashResetN (s : State) : PinLevel := match s.pinTime with
  | .noSupply => .highZ
  | .held => .low
  | _ => .high

/-- The memory signals of port p: driven from step 7 on; high impedance on an unused port (R499). -/
def State.memPins (s : State) (p : Nat) : PinLevel := match s.pinTime with
  | .noSupply => .highZ
  | .held => .highZ
  | _ => if s.memState p = 0 then .highZ else .active

/-- The SerDes transmitters. -/
def State.serdesTx (s : State) : PinLevel := if s.pinTime = .running then .active else .electricalIdle

end Sys2Proof.Machine
end

