-- ==== Sys2Proof/WellFormed.lean ====
section
/-!
DEFINITION. Which commands are well formed: the operands are ones that the wires, the registers and the memory devices can bring. The machine runs every command;
statements that need one of these bounds name it.
-/
namespace Sys2Proof
open Sys2Proof.Machine

/-- An IP address of either family. -/
def ipOk (ip : Nat) : Bool := decide (ip < 2 ^ 128)

/-- A frame as a MAC can present it: 48-bit MAC addresses, a 12-bit VID, 16-bit type and ports, and a payload within the frame (R28, R36). -/
def frameOk (f : RxFrame) : Bool :=
  decide (f.dstMac < 2 ^ 48) && decide (f.srcMac < 2 ^ 48) && decide (f.etherType < 2 ^ 16) && ipOk f.srcIp && ipOk f.dstIp
    && decide (f.srcPort < 2 ^ 16) && decide (f.dstPort < 2 ^ 16) && decide (f.payload.length ≤ f.len)
    && (match f.vid with
      | some v => decide (v < 4096)
      | none => true)

/-- Wrong symbols of a line: 16 beats of ten symbols (R338, R339). -/
def errsOk (es : List SymErr) : Bool := es.all (fun e => decide (e.beat < 16) && decide (e.pos < 10))

/-- A PTP message's fields. -/
def ptpOk (m : PtpMsg) : Bool := decide (m.source < 2 ^ 80) && decide (m.domain < 256) && decide (m.seqId < 65536) && decide (m.requesting < 2 ^ 80)

/-- An Announce message's data set. -/
def announceOk (a : Announce) : Bool :=
  decide (a.source < 2 ^ 80) && decide (a.priority1 < 256) && decide (a.clockClass < 256) && decide (a.accuracy < 256)
    && decide (a.variance < 65536) && decide (a.priority2 < 256) && decide (a.grandmaster < 2 ^ 64) && decide (a.steps < 65536)
    && decide (-128 ≤ a.logInterval ∧ a.logInterval < 128)

/-- A 32-bit number: a session or a ticket (R59, R72), or an address. -/
def numOk (n : Nat) : Bool := decide (n < 2 ^ 32)

/-- An 8-bit agent ID (R343). -/
def agentOk (n : Nat) : Bool := decide (n < 256)

/-- Margins of the ten lanes of a port, in 64ths of a UI up to 32 (R354). -/
def marginsOk (ms : List Margin) : Bool :=
  ms.length == 10 && ms.all (fun m => decide (m.rdL ≤ 32) && decide (m.rdR ≤ 32) && decide (m.wrL ≤ 32) && decide (m.wrR ≤ 32))

/-- A part of one 128-byte line (R343). -/
def partOk (a n : Nat) : Bool := decide (1 ≤ n) && decide (a % 128 + n ≤ 128)

/-- Margins of the four lines of a group (R458). -/
def lineOk (ms : List Int) : Bool := ms.length == 4

/-- Margins of the groups of a unit. -/
def linesOk (ms : List (List Int)) : Bool := ms.all lineOk

/-- Readings of the references: sixteen sensors at most (R463). -/
def refOk (r : RefReading) : Bool := decide (r.temps.length ≤ 16)

/-- Readings of the eight monitor pairs (R467). -/
def ringsOk (ps : List RingPair) : Bool := ps.length == 8

/-- Who sends a felt operation (R364). -/
def feltOk : FeltBy → Bool
  | .xop _ => true
  | .agent _ arg dst => numOk arg && agentOk dst

/-- Well-formed commands. -/
def Instr.wellFormed : Instr → Bool
  | .linkUp _ => true
  | .linkDown _ => true
  | .hiBer _ => true
  | .trainingDone _ fec => decide (fec ≤ 2)
  | .pauseFrame f => frameOk f
  | .arpRequest f => frameOk f
  | .arpReply f => frameOk f
  | .neighborSolicitation f => frameOk f
  | .neighborAdvertisement f => frameOk f
  | .mldQuery f => frameOk f
  | .igmpQuery f => frameOk f
  | .icmpEchoRequest f => frameOk f
  | .rateWindowRollover => true
  | .neighbourRefresh _ ip => ipOk ip
  | .neighbourRetryTimeout _ ip => ipOk ip
  | .resolutionWaitExpiry _ => true
  | .ptpSync f m => frameOk f && ptpOk m
  | .ptpFollowUp f m => frameOk f && ptpOk m
  | .ptpAnnounce f m a => frameOk f && ptpOk m && announceOk a
  | .ptpDelayResp f m => frameOk f && ptpOk m
  | .ptpPdelayReq f m => frameOk f && ptpOk m
  | .ptpPdelayResp f resp follow => frameOk f && ptpOk resp && ptpOk follow
  | .ptpDelayReqTimer => true
  | .syncLossTimeout => true
  | .holdoverExpiry => true
  | .rtpPacket f => frameOk f
  | .reorderExpiry _ => true
  | .auWaitExpiry _ => true
  | .contextIdleTimeout _ => true
  | .offloadOpen f => frameOk f
  | .offloadData f => frameOk f
  | .offloadClose f => frameOk f
  | .offloadAbort f => frameOk f
  | .maskOpen f => frameOk f
  | .maskData f => frameOk f
  | .maskClose f => frameOk f
  | .maskAbort f => frameOk f
  | .ackDelayExpiry r => numOk r.id
  | .zeroWindowRepeat r => numOk r.id
  | .closeTimeout r => numOk r.id
  | .closedSessionExpiry r => numOk r.id
  | .pausedSessionAbort r => numOk r.id
  | .maskSessionIdle r => numOk r.id
  | .partnerHeartbeat f => frameOk f
  | .partnerSilenceTimeout _ => true
  | .deviceHeartbeatTimer => true
  | .hello f => frameOk f
  | .bye f => frameOk f
  | .mgmtSessionIdle num => numOk num
  | .read f => frameOk f
  | .write f => frameOk f
  | .ticketStartSelfTest f => frameOk f
  | .ticketStartCalibrate f => frameOk f
  | .ticketStartAttest f => frameOk f
  | .ticketStartDigest f => frameOk f
  | .ticketStartStill f => frameOk f
  | .ticketStartImageInstall f => frameOk f
  | .ticketRead f => frameOk f
  | .ticketRelease f => frameOk f
  | .imageBlock f => frameOk f
  | .flashProgramDone _ => true
  | .selfTestDone _ _ _ ms => linesOk ms
  | .selfTestFitTimeout num => numOk num
  | .calibrateDone num _ ms r => numOk num && linesOk ms && refOk r
  | .attestSigned _ => true
  | .stillDone _ => true
  | .stillTimeout num => numOk num
  | .imageInstallDone num => numOk num
  | .maintenanceInstallReset => true
  | .admissionEvaluation => true
  | .capabilityPublish _ _ _ => true
  | .verificationLimitExpiry _ => true
  | .decodeDispatch _ => true
  | .decodeAllocFailure _ => true
  | .decodePictureDone _ _ => true
  | .sealSigned _ => true
  | .sheetTimer _ => true
  | .composeDispatch _ => true
  | .composePictureDone _ _ => true
  | .flattenDone _ => true
  | .tileWaitExpiry _ => true
  | .maskWaitExpiry _ => true
  | .encodeDispatch _ => true
  | .encodePictureDone _ _ => true
  | .encAllocTimeout _ => true
  | .ctxClose _ => true
  | .rndOpen _ _ => true
  | .rndClose _ => true
  | .decOos _ _ => true
  | .encOos _ _ => true
  | .cuOos _ _ => true
  | .egressSelect _ => true
  | .collectorRound => true
  | .holdoffExpiry _ => true
  | .fastEventAccept _ => true
  | .seqWake _ => true
  | .microwordStep _ _ => true
  | .fetch _ => true
  | .sleep _ => true
  | .retf _ => true
  | .load _ errs => errs.all (fun e => errsOk e.2)
  | .store _ errs => errs.all (fun e => errsOk e.2)
  | .regrd _ => true
  | .regwr _ => true
  | .pop _ => true
  | .setprio _ => true
  | .doorbell _ => true
  | .unit _ => true
  | .seal _ => true
  | .alloc by_ => feltOk by_
  | .free by_ => feltOk by_
  | .give by_ => feltOk by_
  | .dmaArm _ _ => true
  | .dmaAbort _ => true
  | .dmaClear _ => true
  | .dmaProgStart _ => true
  | .dmaGoSet _ => true
  | .dmaSwreqWrite _ => true
  | .dmaBurst _ _ errs => errs.all (fun e => errsOk e.2)
  | .move _ => true
  | .loop _ => true
  | .wait _ _ => true
  | .waitTimeout _ => true
  | .signal _ => true
  | .end_ _ => true
  | .nop _ => true
  | .memReadRequest agent a n errs => agentOk agent && partOk a n && errsOk errs
  | .memWriteRequest agent _ _ data _ errs => agentOk agent && decide (data.length = 128) && errsOk errs
  | .writeAgeDrain _ => true
  | .memReadTimeout agent _ => agentOk agent
  | .patrolScrubRead _ errs => errsOk errs
  | .marginProbe _ ms => marginsOk ms
  | .refresh _ => true
  | .refreshRateRead _ _ => true
  | .backgroundFill => true
  | .nightEnter _ => true
  | .nightExit => true
  | .nightEntryDone => true
  | .nightExitDone => true
  | .powerFailDetect _ _ _ => true
  | .manifestSigned => true
  | .journalCommitDone _ => true
  | .vinCollapse _ _ => true
  | .powerReturnReset e => refOk e.refs && ringsOk e.rings
  | .nporFall => true
  | .bootStart e => refOk e.refs && ringsOk e.rings
  | .flashReadTimeout _ => true
  | .journalReadTimeout => true
  | .memPortInitDone _ _ ms => marginsOk ms
  | .sweepStart => true
  | .epochAnnounce => true
  | .glbReset _ => true
  | .unitProgressTimeout _ => true
  | .xopTimeout _ => true
  | .regulatorOutOfRange => true
  | .unitResetDone _ => true
  | .safeStateExit => true
  | .fltForce _ => true
  | .fltUnfreeze _ _ => true
  | .fltStatusClear _ _ => true
  | .refCalibration r => refOk r
  | .groupMeasurement _ ms => linesOk ms
  | .currentLimitStep => true
  | .currentRestoreStep => true
  | .replan ps again => ringsOk ps && again.all (fun q => q.all (fun g => decide (g.1 < 2568) && lineOk g.2))
  | .calReplan => true
  | .otpProgram num _ => numOk num
  | .otpRevoke num _ => numOk num
  | .otpAdvance num => numOk num
  | .otpCommandDone _ => true
  | .keyload _ => true
  | .jtagInstruction _ => true
  | .prtCntClr _ _ => true
  | .glbCntClr _ => true
  | .glbAdmCntClr _ => true
  | .decCntClr _ _ => true
  | .encCntClr _ _ => true
  | .cuCntClr _ _ => true
  | .sealCntClr _ => true
  | .hbxCntClr _ => true
  | .egqCntClr _ => true
  | .memCntClr _ _ => true
  | .glbMemCntClr _ => true
  | .fpCntClr _ _ => true
  | .fpGlbCntClr _ => true
  | .dmaCntClr _ _ => true
  | .seqCntClr _ _ => true
  | .intCntClr _ => true
  | .colCntClr _ => true
  | .glbCfgCntClr _ => true
  | .fltCntClr _ => true
  | .calCntClr _ => true
  | .registerWrite num _ _ => numOk num
  | .blockLockAcquired _ => true
  | .blockLockLost _ => true
  | .discardedFrame f => frameOk f
  | .unknownOpRequest f => frameOk f
  | .windowRisesFromZero r => numOk r.id
  | .powerReturn _ => true
  | .internalCheckFailure _ _ => true
  | .temperatureLimitCrossing _ _ => true
  | .regulatorBackInRange => true
  | .trngTestWindow _ => true

end Sys2Proof
end

