-- ==== Sys2Proof/Safety.lean ====
section
/-!
DEFINITION. What counts as a safe run: no step stops, and every table of the state stays in its canonical form, so that equal contents are equal data.
-/
namespace Sys2Proof.Machine

/-- The command of a step completes: it answers a next state. -/
def Completes (o : Host.Outcome State Fault Refusal) : Prop := ∃ t, o = .next t

/-- A table of bytes in the journal memory is in canonical form. -/
abbrev Journal.wf (j : Tab Byte) : Prop := twf (fun _ => 0#8) j = true

/-- The register file, the byte memory, the marks of R342 and R352 and the journal memory are in canonical form. -/
def State.Canon (s : State) : Prop :=
  twf regReset s.regs = true ∧ Memory.wf s.mem.cells ∧ twf (fun _ => false) s.mem.poison = true
    ∧ twf (fun _ => false) s.mem.filled = true ∧ Journal.wf s.power.journal

/-- A safe state: canonical, and its next step completes. -/
def State.Safe (s : State) : Prop := s.Canon ∧ Completes (step s)

/-! ## What statements name -/

/-- The headbox passes a frame of the control class: the checks of R36 and R43, the roles and the policer (R319, R323). -/
abbrev State.ctlPass (s : State) (f : RxFrame) : Bool := (s.acceptCtl f (s.isKt f || s.otherPermitted f)).2

/-- What the memory ports have answered in this instant. -/
abbrev State.answers (s : State) : List MemResp := s.mem.resp.filter (fun r => r.at_ == s.now)

/-- A felt operation of now is alone in its instant (R367). -/
abbrev State.feltAlone (s : State) : Bool := s.mem.felts.isEmpty && !s.pending.any isFelt

/-- The handles that ALLOCs of this instant have given. -/
abbrev State.handlesNow (s : State) : List (Nat × Nat × Nat) := s.mem.handles.filter (fun q => q.1 == s.now)

/-- A raise of now is alone in its instant (R442). -/
abbrev State.raisesAlone (s : State) : Bool := s.faults.arrived.isEmpty && !s.pending.any isRaise

/-! ## Frames -/

/-- The parts of the state, for frames: what a command leaves alone. -/
inductive Part
  /-- the counter of free values -/
  | freeCtr
  /-- the monotonic base -/
  | now
  /-- the register file -/
  | regs
  /-- the announced, pending and image configuration -/
  | config
  /-- the holding copies of R10 -/
  | hold
  /-- the frames started so far -/
  | wire
  /-- device time -/
  | time
  /-- management sessions and tickets -/
  | mgmt
  /-- ports, partners, queues and KT sessions -/
  | net
  /-- the control stores -/
  | store
  /-- sequencers, events and completion records -/
  | control
  /-- the sealing block -/
  | seals
  /-- the journal memory -/
  | journal
  /-- the power-fail sequence -/
  | power
  /-- the fault collector -/
  | faults
  /-- coding units -/
  | units
  /-- contexts -/
  | ctxs
  /-- renditions -/
  | rnds
  /-- admission -/
  | adm
  /-- stills -/
  | stills
  /-- surfaces of the image -/
  | surfs
  /-- the bytes of packet memory, DRAM and unit SRAM -/
  | cells
  /-- the rest of the memory ports -/
  | memory
  /-- felt pools -/
  | pools
  /-- DMA channels -/
  | dma
  /-- calibration -/
  | cal
  /-- the configuration flash -/
  | flash
  /-- OTP -/
  | otp
  /-- the rest of boot, TRNG and test port -/
  | boot
  deriving DecidableEq, Repr

/-- A part of the state is the same in two states. -/
def Part.same : Part → State → State → Prop
  | .freeCtr, s, t => t.freeCtr = s.freeCtr
  | .now, s, t => t.now = s.now
  | .regs, s, t => t.regs = s.regs
  | .config, s, t => t.eff = s.eff ∧ t.pend = s.pend ∧ t.img = s.img
  | .hold, s, t => t.hold = s.hold
  | .wire, s, t => t.wire = s.wire
  | .time, s, t => t.time = s.time
  | .mgmt, s, t => t.mgmt = s.mgmt
  | .net, s, t => t.net = s.net
  | .store, s, t => t.ctl.store = s.ctl.store
  | .control, s, t => { t.ctl with store := {} } = { s.ctl with store := {} }
  | .seals, s, t => t.seals = s.seals
  | .journal, s, t => t.power.journal = s.power.journal
  | .power, s, t => { t.power with journal := [] } = { s.power with journal := [] }
  | .faults, s, t => t.faults = s.faults
  | .units, s, t => t.units = s.units
  | .ctxs, s, t => t.ctxs = s.ctxs
  | .rnds, s, t => t.rnds = s.rnds
  | .adm, s, t => t.adm = s.adm
  | .stills, s, t => t.stills = s.stills
  | .surfs, s, t => t.surfs = s.surfs
  | .cells, s, t => t.mem.cells = s.mem.cells
  | .memory, s, t => { t.mem with cells := [] } = { s.mem with cells := [] }
  | .pools, s, t => t.pools = s.pools
  | .dma, s, t => t.dma = s.dma
  | .cal, s, t => t.cal = s.cal
  | .flash, s, t => t.boot.flash = s.boot.flash
  | .otp, s, t => t.boot.otp = s.boot.otp
  | .boot, s, t => { t.boot with flash := [], otp := {} } = { s.boot with flash := [], otp := {} }

/-- The registers of the counters INT_MERGED, INT_BYPASS and INT_REROUTED, which raising an event may count in (R409). -/
def evRegs : List Nat :=
  [Reg.INT_MERGED, Reg.INT_MERGED + 4, Reg.INT_BYPASS, Reg.INT_BYPASS + 4, Reg.INT_REROUTED, Reg.INT_REROUTED + 4]

/-- The two registers of a 64-bit counter. -/
def ctr (a : Nat) : List Nat := [a, a + 4]

/-- No register changes but those of a list. -/
def RegsBut (s t : State) (l : List Nat) : Prop := ∀ a, a ∉ l → t.reg a = s.reg a

/-- A 64-bit counter counts n, and saturates (R10, R11). -/
def Counted (s t : State) (a n : Nat) : Prop := t.pair a = min 0xFFFFFFFFFFFFFFFF (s.pair a + n)

/-- What a command may change; every other part of the state is as before. -/
def footprint : Instr → List Part
  | .linkUp .. =>
    [.regs, .wire, .net, .control]
  | .linkDown .. | .hiBer .. | .arpRequest .. | .arpReply .. | .neighborSolicitation .. | .neighborAdvertisement .. |
    .mldQuery .. | .igmpQuery .. | .icmpEchoRequest .. | .partnerHeartbeat .. | .partnerSilenceTimeout .. =>
    [.regs, .net, .control]
  | .trainingDone .. | .ptpPdelayReq .. | .blockLockAcquired .. | .blockLockLost .. =>
    [.regs, .net]
  | .pauseFrame .. | .capabilityPublish .. | .dmaGoSet .. | .dmaSwreqWrite .. | .nightEntryDone .. | .unitResetDone ..
    | .calReplan .. | .prtCntClr .. | .glbCntClr .. | .glbAdmCntClr .. | .decCntClr .. | .encCntClr .. | .cuCntClr ..
    | .sealCntClr .. | .hbxCntClr .. | .egqCntClr .. | .memCntClr .. | .glbMemCntClr .. | .fpCntClr .. | .fpGlbCntClr
    .. | .dmaCntClr .. | .seqCntClr .. | .intCntClr .. | .colCntClr .. | .glbCfgCntClr .. | .fltCntClr .. | .calCntClr
    .. | .regulatorBackInRange .. =>
    [.regs]
  | .rateWindowRollover .. | .neighbourRefresh .. | .neighbourRetryTimeout .. | .resolutionWaitExpiry .. |
    .ackDelayExpiry .. | .zeroWindowRepeat .. | .closedSessionExpiry .. | .windowRisesFromZero .. =>
    [.net]
  | .ptpSync .. | .ptpFollowUp .. | .ptpAnnounce .. | .syncLossTimeout .. =>
    [.regs, .time, .net, .control, .seals, .ctxs, .rnds]
  | .ptpDelayResp .. | .ptpPdelayResp .. =>
    [.regs, .time]
  | .ptpDelayReqTimer .. =>
    [.time, .net]
  | .holdoverExpiry .. =>
    [.regs, .net, .control, .seals, .ctxs, .rnds]
  | .rtpPacket .. | .offloadOpen .. | .offloadData .. | .offloadClose .. | .offloadAbort .. | .maskOpen .. | .maskData
    .. | .maskClose .. | .maskAbort .. | .discardedFrame .. =>
    [.regs, .mgmt, .net, .control, .seals, .ctxs, .rnds, .adm, .stills, .memory, .pools]
  | .reorderExpiry .. | .auWaitExpiry .. =>
    [.regs, .net, .control, .seals, .ctxs]
  | .contextIdleTimeout .. | .pausedSessionAbort .. | .maskSessionIdle .. | .ctxClose .. =>
    [.regs, .mgmt, .net, .control, .seals, .ctxs, .rnds, .adm, .stills, .pools]
  | .closeTimeout .. | .collectorRound .. =>
    [.regs, .mgmt, .net, .control, .seals, .ctxs, .rnds, .stills, .pools]
  | .deviceHeartbeatTimer .. =>
    [.regs, .wire, .net]
  | .hello .. =>
    [.freeCtr, .regs, .mgmt, .net, .control, .memory, .boot]
  | .bye .. | .ticketStartCalibrate .. | .ticketStartDigest .. | .ticketStartStill .. | .ticketStartImageInstall .. |
    .unknownOpRequest .. =>
    [.regs, .mgmt, .net, .control, .memory]
  | .mgmtSessionIdle .. | .selfTestFitTimeout .. | .stillTimeout .. =>
    [.mgmt]
  | .read .. =>
    [.regs, .hold, .mgmt, .net, .control, .memory]
  | .write .. | .maintenanceInstallReset .. | .regwr .. | .powerReturnReset .. | .nporFall .. | .glbReset .. |
    .registerWrite .. =>
    [.now, .regs, .config, .hold, .time, .mgmt, .net, .store, .control, .seals, .power, .faults, .units,
     .ctxs, .rnds, .adm, .stills, .surfs, .cells, .memory, .pools, .dma, .cal, .otp, .boot]
  | .ticketStartSelfTest .. =>
    [.regs, .mgmt, .net, .control, .units, .memory]
  | .ticketStartAttest .. =>
    [.regs, .mgmt, .net, .control, .seals, .memory]
  | .ticketRead .. =>
    [.freeCtr, .regs, .mgmt, .net, .control, .memory]
  | .ticketRelease .. =>
    [.regs, .mgmt, .net, .control, .seals, .ctxs, .stills, .memory, .pools]
  | .imageBlock .. =>
    [.regs, .mgmt, .net, .control, .memory, .boot]
  | .flashProgramDone .. =>
    [.flash, .boot]
  | .selfTestDone .. | .calibrateDone .. | .refCalibration .. | .groupMeasurement .. | .replan .. =>
    [.regs, .mgmt, .net, .control, .seals, .power, .faults, .units, .ctxs, .rnds, .adm, .stills, .memory,
     .pools, .cal]
  | .attestSigned .. =>
    [.mgmt, .seals]
  | .stillDone .. =>
    [.regs, .mgmt, .control, .units, .ctxs, .stills, .pools]
  | .imageInstallDone .. =>
    [.freeCtr, .mgmt, .power, .boot]
  | .admissionEvaluation .. =>
    [.regs, .mgmt, .net, .control, .seals, .units, .ctxs, .rnds, .adm, .stills, .pools]
  | .verificationLimitExpiry .. | .decodeAllocFailure .. | .encAllocTimeout .. =>
    [.regs, .mgmt, .net, .seals, .ctxs, .rnds, .stills, .pools]
  | .decodeDispatch .. | .decodePictureDone .. | .composeDispatch .. | .composePictureDone .. | .encodeDispatch .. |
    .encodePictureDone .. =>
    [.freeCtr, .regs, .mgmt, .net, .control, .seals, .power, .faults, .units, .ctxs, .rnds, .adm, .stills,
     .cells, .memory, .pools]
  | .sealSigned .. | .sheetTimer .. =>
    [.regs, .net, .seals]
  | .flattenDone .. =>
    [.regs, .control, .units, .rnds]
  | .tileWaitExpiry .. =>
    [.regs, .ctxs, .rnds, .pools]
  | .maskWaitExpiry .. =>
    [.regs, .rnds]
  | .rndOpen .. =>
    [.regs, .adm]
  | .rndClose .. =>
    [.regs, .net, .seals, .ctxs, .rnds, .pools]
  | .decOos .. | .encOos .. | .cuOos .. =>
    [.regs, .units]
  | .egressSelect .. =>
    [.regs, .wire, .time, .net, .seals]
  | .holdoffExpiry .. | .fastEventAccept .. | .seqWake .. | .retf .. | .setprio .. | .doorbell .. =>
    [.regs, .control]
  | .microwordStep .. =>
    [.freeCtr, .regs, .mgmt, .net, .control, .seals, .power, .faults, .units, .ctxs, .rnds, .adm, .stills,
     .memory, .pools]
  | .fetch .. | .sleep .. | .alloc .. | .free .. | .give .. | .marginProbe .. | .refreshRateRead .. |
    .unitProgressTimeout .. | .xopTimeout .. | .regulatorOutOfRange .. | .fltForce .. | .internalCheckFailure .. |
    .temperatureLimitCrossing .. =>
    [.regs, .mgmt, .net, .control, .seals, .power, .faults, .units, .ctxs, .rnds, .adm, .stills, .memory,
     .pools]
  | .load .. | .store .. | .memReadRequest .. | .memWriteRequest .. | .memReadTimeout .. | .patrolScrubRead .. =>
    [.regs, .mgmt, .net, .control, .seals, .power, .faults, .units, .ctxs, .rnds, .adm, .stills, .cells,
     .memory, .pools]
  | .regrd .. =>
    [.hold, .control]
  | .pop .. | .unit .. | .seal .. =>
    [.control]
  | .dmaArm .. | .dmaAbort .. | .dmaClear .. =>
    [.regs, .dma]
  | .dmaProgStart .. | .dmaBurst .. | .move .. | .loop .. | .wait .. | .signal .. | .nop .. =>
    [.regs, .mgmt, .net, .control, .seals, .power, .faults, .units, .ctxs, .rnds, .adm, .stills, .cells,
     .memory, .pools, .dma]
  | .waitTimeout .. | .end_ .. =>
    [.regs, .mgmt, .net, .control, .seals, .power, .faults, .units, .ctxs, .rnds, .adm, .stills, .memory,
     .pools, .dma]
  | .writeAgeDrain .. | .nightEnter .. | .nightExit .. =>
    [.regs, .memory]
  | .refresh .. =>
    [.memory]
  | .backgroundFill .. | .nightExitDone .. =>
    [.regs, .cells, .memory]
  | .powerFailDetect .. =>
    [.regs, .config, .mgmt, .net, .control, .seals, .power, .faults, .units, .ctxs, .rnds, .adm, .stills,
     .cells, .memory, .pools, .dma, .boot]
  | .manifestSigned .. =>
    [.net, .seals, .power]
  | .journalCommitDone .. =>
    [.now, .regs, .config, .hold, .time, .mgmt, .net, .store, .control, .seals, .journal, .power, .faults,
     .units, .ctxs, .rnds, .adm, .stills, .surfs, .cells, .memory, .pools, .dma, .cal, .otp, .boot]
  | .vinCollapse .. =>
    [.freeCtr, .now, .regs, .config, .hold, .time, .mgmt, .net, .store, .control, .seals, .journal, .power,
     .faults, .units, .ctxs, .rnds, .adm, .stills, .surfs, .cells, .memory, .pools, .dma, .cal, .otp, .boot]
  | .bootStart .. =>
    [.now, .regs, .mgmt, .net, .control, .seals, .power, .faults, .units, .ctxs, .rnds, .adm, .stills,
     .memory, .pools, .cal, .boot]
  | .flashReadTimeout .. =>
    [.freeCtr, .regs, .config, .mgmt, .net, .store, .control, .power, .faults, .surfs, .pools, .dma, .boot]
  | .journalReadTimeout .. =>
    [.regs, .config, .net, .store, .control, .journal, .faults, .surfs, .pools, .dma, .boot]
  | .memPortInitDone .. =>
    [.regs, .config, .mgmt, .net, .store, .control, .seals, .power, .faults, .units, .ctxs, .rnds, .adm,
     .stills, .surfs, .memory, .pools, .dma, .boot]
  | .sweepStart .. =>
    [.regs, .config]
  | .epochAnnounce .. =>
    [.regs, .config, .mgmt, .net, .control, .seals, .faults, .ctxs, .rnds, .adm, .stills, .memory, .pools,
     .boot]
  | .safeStateExit .. =>
    [.regs, .net, .seals, .power, .faults, .ctxs, .rnds, .pools]
  | .fltUnfreeze .. =>
    [.regs, .net, .control, .seals, .faults, .units, .dma]
  | .fltStatusClear .. =>
    [.regs, .faults]
  | .currentLimitStep .. | .currentRestoreStep .. =>
    [.regs, .cal]
  | .otpProgram .. | .otpRevoke .. | .otpAdvance .. | .keyload .. =>
    [.otp]
  | .otpCommandDone .. =>
    [.freeCtr, .mgmt, .otp]
  | .jtagInstruction .. | .trngTestWindow .. =>
    [.boot]
  | .powerReturn .. =>
    [.power]

/-- What one idle tick may change (log entry 1). -/
def idleFootprint : List Part := [.now, .regs, .config, .hold, .time, .mgmt, .net, .store, .control, .seals, .journal, .power, .faults, .units, .ctxs, .rnds, .adm, .stills, .surfs, .cells, .memory, .pools, .dma, .cal, .otp, .boot]

end Sys2Proof.Machine
end

