-- ==== Sys2Proof/Certificates/Slice0/Obligations.lean ====
section
/-!
DEFINITION. The statements for the provers.
-/
section
open Sys2Proof Sys2Proof.Machine

/-! ## Ports, neighbours, partners -/

/-- Link state (R30, R31, R34): what each command does to the port when its condition holds; no other register changes. -/
def Obligations.LinkCommandsSetPortStatus : Prop :=
  ∀ (p : Fin 4) (s : State),
    (s.linkUpDue p = true → ∃ t, exec (.linkUp p) s = .next t ∧ t.linkUp p = true ∧ t.regBit (Reg.PRT_STATUS p) 8 = true
      ∧ (t.port p).firstUp = true ∧ RegsBut s t (Reg.PRT_STATUS p :: ctr (Reg.PRT_TX_FRAMES p) ++ evRegs))
    ∧ (s.regBit (Reg.PRT_STATUS p) 1 = false → (s.port p).lockTick + msT 1 ≤ s.now → s.linkUp p = true →
      ∃ t, exec (.linkDown p) s = .next t ∧ t.linkUp p = false ∧ t.regBit (Reg.PRT_STATUS p) 8 = true
      ∧ Counted s t (Reg.PRT_LINK_DOWNS p) 1 ∧ (t.port p).sysq = [] ∧ (t.port p).waiting = [] ∧ (t.port p).segs = []
      ∧ RegsBut s t (Reg.PRT_STATUS p :: ctr (Reg.PRT_LINK_DOWNS p) ++ evRegs))
    ∧ (∃ t, exec (.hiBer p) s = .next t ∧ t.linkUp p = false ∧ t.regBit (Reg.PRT_STATUS p) 9 = true
      ∧ RegsBut s t (Reg.PRT_STATUS p :: ctr (Reg.PRT_LINK_DOWNS p) ++ evRegs))
    ∧ (∀ fec, s.cfgF (Reg.PRT_CFG p) 2 2 ≠ 0 → ∃ t, exec (.trainingDone p fec) s = .next t ∧ (t.port p).trained = true
      ∧ t.regBit (Reg.PRT_STATUS p) 2 = true ∧ RegsBut s t [Reg.PRT_STATUS p])
    ∧ (∃ t, exec (.blockLockAcquired p) s = .next t ∧ (t.port p).lockTick = s.now ∧ t.regBit (Reg.PRT_STATUS p) 1 = true
      ∧ RegsBut s t [Reg.PRT_STATUS p])
    ∧ (∃ t, exec (.blockLockLost p) s = .next t ∧ (t.port p).lockTick = s.now ∧ t.regBit (Reg.PRT_STATUS p) 1 = false
      ∧ RegsBut s t [Reg.PRT_STATUS p])

/-- A frame that a check discards counts once, in the counter of the first check that it fails, and changes no other register (R36, R43). -/
def Obligations.DiscardedFramesCountOnce : Prop :=
  ∀ (f : RxFrame) (s : State) (c : Nat), s.rxOpen f.port = true →
    (s.frameCheck f = some c → ∃ t, exec (.pauseFrame f) s = .next t ∧ Counted s t c 1 ∧ RegsBut s t (ctr c))
    ∧ (s.firstFailure f = some c → ∃ t, exec (.discardedFrame f) s = .next t ∧ Counted s t c 1 ∧ RegsBut s t (ctr c))

/-- The responders of R38 and R515: a query that the headbox passes is answered by one frame at the end of the receiving port's system queue; an echo
reply also counts against the window's 100. That a passed frame counts in PRT_RX_FRAMES is log entry 10. -/
def Obligations.RespondersAnswerOnTheReceivingPort : Prop :=
  ∀ (f : RxFrame) (s : State),
    (s.ctlPass f = true → f.isArp = true → fieldAt 6 2 f.payload = 1 → s.ip4On f.port = true → mapped4 (fieldAt 24 4 f.payload) = s.ip4 f.port →
      ∃ t, exec (.arpRequest f) s = .next t ∧ (t.port f.port).sysq = (s.port f.port).sysq ++
          [arpFrame 2 (s.mac f.port) (s.ip4 f.port % 2 ^ 32) (fieldAt 8 6 f.payload) (fieldAt 14 4 f.payload) f.srcMac]
        ∧ Counted s t (Reg.PRT_RX_FRAMES f.port) 1 ∧ RegsBut s t (ctr (Reg.PRT_RX_FRAMES f.port) ++ evRegs))
    ∧ (s.ctlPass f = true → f.isIcmp6 135 = true →
        (fieldAt 8 16 f.payload = s.linkLocal f.port ∨ (s.ip6 f.port ≠ 0 ∧ fieldAt 8 16 f.payload = s.ip6 f.port)) →
      ∃ t, exec (.neighborSolicitation f) s = .next t ∧ (t.port f.port).sysq = (s.port f.port).sysq ++
          [if isUnspecified f.srcIp then naFrame (fieldAt 8 16 f.payload) (s.mac f.port) allNodes 0x20000000 (some (groupMac allNodes))
            else naFrame (fieldAt 8 16 f.payload) (s.mac f.port) f.srcIp 0x60000000 (some f.srcMac)]
        ∧ Counted s t (Reg.PRT_RX_FRAMES f.port) 1 ∧ RegsBut s t (ctr (Reg.PRT_RX_FRAMES f.port) ++ evRegs))
    ∧ (s.ctlPass f = true → f.isIcmp6 130 = true →
      ∃ t, exec (.mldQuery f) s = .next t ∧ (t.port f.port).sysq = (s.port f.port).sysq ++
          [mldReport (s.linkLocal f.port) 2
            (s.solicited f.port ++ (if s.ptpPort f.port && s.ptpTransport == 2 then ptpGroups6 else []))]
        ∧ Counted s t (Reg.PRT_RX_FRAMES f.port) 1 ∧ RegsBut s t (ctr (Reg.PRT_RX_FRAMES f.port) ++ evRegs))
    ∧ (s.ctlPass f = true → f.proto = some 2 → fieldAt 0 1 f.payload = 0x11 → s.ptpPort f.port = true → s.ptpTransport = 1 →
      ∃ t, exec (.igmpQuery f) s = .next t ∧ (t.port f.port).sysq = (s.port f.port).sysq ++ [igmpReport 2 ptpGroups4]
        ∧ Counted s t (Reg.PRT_RX_FRAMES f.port) 1 ∧ RegsBut s t (ctr (Reg.PRT_RX_FRAMES f.port) ++ evRegs))
    ∧ ((s.acceptCtl f (s.otherPermitted f)).2 = true → f.isEchoRequest = true → (s.port f.port).echoes < 100 →
      ∃ t, exec (.icmpEchoRequest f) s = .next t ∧ (t.port f.port).echoes = (s.port f.port).echoes + 1
        ∧ (t.port f.port).sysq = (s.port f.port).sysq ++
          [if f.proto = some 1 then ipFrame .icmpReply 1 f.srcIp (some f.srcMac) false (icmp4 0 (f.payload.drop 4))
            else ipFrame .icmpReply 58 f.srcIp (some f.srcMac) false (icmp6 (s.srcFor f.port f.srcIp) f.srcIp 129 (f.payload.drop 4))]
        ∧ Counted s t (Reg.PRT_RX_FRAMES f.port) 1 ∧ RegsBut s t (ctr (Reg.PRT_RX_FRAMES f.port) ++ evRegs))

/-- Neighbour resolution (R39): a reply resolves an entry for 300 s and sends the frames that wait for it; a refresh asks once, 30 s before the end; a
retry asks again at 1 s, and after the second the entry goes (also a refreshed one: log entry 88); frames wait 3 s; each window of 1 s starts the limits of
R515 again. -/
def Obligations.NeighbourTableFollowsResolution : Prop :=
  ∀ (p : Fin 4) (s : State),
    (∀ (f : RxFrame) (e : Nbr), f.port = p → s.ctlPass f = true →
      (f.isArp = true → fieldAt 6 2 f.payload = 2 → (s.port p).nbr? (mapped4 (fieldAt 14 4 f.payload)) = some e →
        ∃ t, exec (.arpReply f) s = .next t
          ∧ (t.port p).nbrs = (s.port p).nbrs.map (fun n => if n.ip = mapped4 (fieldAt 14 4 f.payload) then
              { e with mac := fieldAt 8 6 f.payload, state := .resolved, expires := s.now + sT 300, tries := 0, refreshed := false } else n)
          ∧ (t.port p).sysq = (s.port p).sysq ++ ((s.port p).waiting.filter
              (fun w => s.nextHop p w.1.dstIp == mapped4 (fieldAt 14 4 f.payload))).map (fun w => { w.1 with mac := some (fieldAt 8 6 f.payload) })
          ∧ RegsBut s t (ctr (Reg.PRT_RX_FRAMES p) ++ evRegs))
      ∧ (f.isIcmp6 136 = true → fieldAt 24 1 f.payload = 2 → (s.port p).nbr? (fieldAt 8 16 f.payload) = some e →
        ∃ t, exec (.neighborAdvertisement f) s = .next t
          ∧ (t.port p).nbrs = (s.port p).nbrs.map (fun n => if n.ip = fieldAt 8 16 f.payload then
              { e with mac := fieldAt 26 6 f.payload, state := .resolved, expires := s.now + sT 300, tries := 0, refreshed := false } else n)
          ∧ (t.port p).sysq = (s.port p).sysq ++ ((s.port p).waiting.filter
              (fun w => s.nextHop p w.1.dstIp == fieldAt 8 16 f.payload)).map (fun w => { w.1 with mac := some (fieldAt 26 6 f.payload) })
          ∧ RegsBut s t (ctr (Reg.PRT_RX_FRAMES p) ++ evRegs)))
    ∧ (∀ (ip : Nat) (e : Nbr), (s.port p).nbr? ip = some e → s.linkUp p = true → s.power.failing = false →
      (e.state = .resolved → e.refreshed = false → e.expires ≤ s.now + sT 30 →
        ∃ t, exec (.neighbourRefresh p ip) s = .next t
          ∧ (t.port p).nbrs = (s.port p).nbrs.map (fun n => if n.ip = ip then
              { n with refreshed := true, tries := 1, retryAt := s.now + sT 1 } else n)
          ∧ (t.port p).sysq = (s.port p).sysq ++ [s.resolveFrame p ip (some e.mac)] ∧ t.regs = s.regs)
      ∧ (0 < e.tries → e.tries < 3 → e.retryAt ≤ s.now →
        ∃ t, exec (.neighbourRetryTimeout p ip) s = .next t
          ∧ (t.port p).nbrs = (s.port p).nbrs.map (fun n => if n.ip = ip then { n with tries := e.tries + 1, retryAt := s.now + sT 1 } else n)
          ∧ (t.port p).sysq = (s.port p).sysq ++ [s.resolveFrame p ip (if e.state = .resolved then some e.mac else none)] ∧ t.regs = s.regs)
      ∧ (3 ≤ e.tries → e.retryAt ≤ s.now →
        ∃ t, exec (.neighbourRetryTimeout p ip) s = .next t ∧ (t.port p).nbr? ip = none
          ∧ (∀ n, n ∈ s.partnersOn → s.ptnPort n = p.val → s.nextHop p (s.ptnIp n) = ip → (t.partner n).unreachable = true) ∧ t.regs = s.regs))
    ∧ (∃ t, exec (.resolutionWaitExpiry p) s = .next t
      ∧ (t.port p).waiting = (s.port p).waiting.filter (fun w => decide (s.now < w.2 + sT 3)) ∧ (t.port p).sysq = (s.port p).sysq ∧ t.regs = s.regs)
    ∧ (s.net.winAt + sT 1 ≤ s.now → ∃ t, exec .rateWindowRollover s = .next t ∧ (t.port p).echoes = 0 ∧ (t.port p).hellos = 0
      ∧ t.net.winAt = s.now / sT 1 * sT 1 ∧ t.regs = s.regs)

/-- Heartbeats (R56, R57): once boot has ended the device's timer advances HB_SEQ and sets the next instant (the first SEQ and its count are log entry 89); a
monitored partner's heartbeat, KT CLASS 5 TYPE 2 with its 8 bytes, marks it up; three silent intervals mark it down. -/
def Obligations.HeartbeatsDrivePartnerState : Prop :=
  ∀ (s : State),
    (s.net.hbAt ≤ s.now → s.power.failing = false → s.boot.phase = .running → ∃ t, exec .deviceHeartbeatTimer s = .next t ∧ t.net.hbSeq = s.net.hbSeq + 1
      ∧ t.net.hbAt = s.now + s.hbInterval ∧ t.regs = s.regs ∧ t.wire = s.wire)
    ∧ (∀ (f : RxFrame) (n : Nat), s.ctlPass f = true → s.isKt f = true → isPartnerHeartbeat f = true → s.partnerOf f = some n → s.ptnMonitored n = true →
      ∃ t, exec (.partnerHeartbeat f) s = .next t ∧ (t.partner n).up = true ∧ (t.partner n).lastHb = s.now
        ∧ RegsBut s t (ctr (Reg.PRT_RX_FRAMES f.port) ++ evRegs))
    ∧ (∀ (n : Fin 32), s.ptnMonitored n = true → (s.partner n).up = true → (s.partner n).lastHb + 3 * s.hbInterval ≤ s.now →
      ∃ t, exec (.partnerSilenceTimeout n) s = .next t ∧ (t.partner n).up = false ∧ RegsBut s t evRegs)

/-! ## Device time -/

/-- PTP messages of the selected master (R76, R77): a two-step Sync waits for its Follow_Up; a completed measurement writes the offset, saturated to
32 bits, to GLB_PTP_OFFSET; the delay mechanisms measure the mean path delay from the responses that name the port's own request; an Announce is fed to the
BMCA (its details are log entry 103). That a passed frame counts in PRT_RX_FRAMES is log entry 10. -/
def Obligations.PtpMessagesMeasureOffsetAndDelay : Prop :=
  ∀ (f : RxFrame) (m : PtpMsg) (s : State),
    (s.ptpFrom f m = true →
      (m.twoStep = true → ∃ t, exec (.ptpSync f m) s = .next t ∧ t.time.sync = some (m.seqId, s.taiNs, m.correction) ∧ t.time.lastSync = s.now
        ∧ Counted s t (Reg.PRT_RX_FRAMES f.port) 1 ∧ RegsBut s t (ctr (Reg.PRT_RX_FRAMES f.port)))
      ∧ (m.twoStep = false → ∃ t, exec (.ptpSync f m) s = .next t ∧ t.time.lastSync = s.now
        ∧ t.reg Reg.GLB_PTP_OFFSET = BitVec.ofInt 32 (clampInt (-2147483647) 2147483647
            ((s.taiNs : Int) - ((m.stamp : Int) + m.correction) - s.time.delay - s.asym))
        ∧ RegsBut s t (Reg.GLB_PTP_OFFSET :: Reg.GLB_TIME_STATUS :: ctr (Reg.PRT_RX_FRAMES f.port) ++ evRegs))
      ∧ (∀ t2 c, s.time.sync = some (m.seqId, t2, c) → ∃ t, exec (.ptpFollowUp f m) s = .next t ∧ t.time.sync = none ∧ t.time.lastSync = s.now
        ∧ t.reg Reg.GLB_PTP_OFFSET = BitVec.ofInt 32 (clampInt (-2147483647) 2147483647
            (t2 - ((m.stamp : Int) + c + m.correction) - s.time.delay - s.asym))
        ∧ RegsBut s t (Reg.GLB_PTP_OFFSET :: Reg.GLB_TIME_STATUS :: ctr (Reg.PRT_RX_FRAMES f.port) ++ evRegs))
      ∧ (∀ t3 t1 t2, s.cfgBit Reg.GLB_PTP_CFG 3 = false → s.ptpMine f m = true → s.time.req = some (m.seqId, t3) → s.time.last12 = some (t1, t2) →
        ∃ t, exec (.ptpDelayResp f m) s = .next t ∧ t.time.req = none
          ∧ t.time.delay = ((t2 - t1) + ((m.stamp : Int) - m.correction - t3)) / 2 ∧ RegsBut s t (ctr (Reg.PRT_RX_FRAMES f.port))))
    ∧ (s.ptpAny f m = true →
      (∀ a, ∃ t, exec (.ptpAnnounce f m a) s = .next t ∧ t.time.clocks = s.heardClocks a
        ∧ t.time.master = (bestClock (((s.heardClocks a).filter (fun c => c.qualified s.time.master)).map (·.ds))).map (·.source)
        ∧ RegsBut s t (Reg.GLB_TIME_STATUS :: ctr (Reg.GLB_PTP_MASTER 0) ++ ctr (Reg.PRT_RX_FRAMES f.port) ++ evRegs))
      ∧ (s.power.failing = false → ∃ t, exec (.ptpPdelayReq f m) s = .next t
        ∧ (t.port f.port).sysq = (s.port f.port).sysq ++
          [{ s.ptpFrame true true (s.ptpBytes f.port 3 m.seqId 0x0200 0 (ptpStamp s.taiNs ++ be 10 m.source)) with
              ptp := .resp m.seqId m.source m.correction }]
        ∧ RegsBut s t (ctr (Reg.PRT_RX_FRAMES f.port)))
      ∧ (∀ follow t1, s.cfgBit Reg.GLB_PTP_CFG 3 = true → s.ptpMine f m = true → follow.source = m.source → follow.seqId = m.seqId → s.time.req = some (m.seqId, t1) →
        ∃ t, exec (.ptpPdelayResp f m follow) s = .next t ∧ t.time.req = none
          ∧ t.time.delay = (((s.taiNs : Int) - t1) - ((follow.stamp : Int) - m.stamp) - m.correction - follow.correction) / 2
          ∧ RegsBut s t (ctr (Reg.PRT_RX_FRAMES f.port))))

/-- The timers of device time (R76, R78, R80): the device's own delay request, whose transmit time is taken when the port starts it (R77); the loss of Sync; and the
end of holdover. -/
def Obligations.TimeTimersMoveTheQuality : Prop :=
  ∀ (s : State),
    (s.ptpPort (s.cfgF Reg.GLB_PTP_CFG 1 2) = true → s.linkUp (s.cfgF Reg.GLB_PTP_CFG 1 2) = true → s.time.master.isSome = true →
      ∃ t, exec .ptpDelayReqTimer s = .next t ∧ t.time.req = none ∧ t.time.reqSeq = (s.time.reqSeq + 1) % 65536 ∧ t.regs = s.regs
        ∧ (s.power.failing = false → ∃ f, (t.port (s.cfgF Reg.GLB_PTP_CFG 1 2)).sysq = (s.port (s.cfgF Reg.GLB_PTP_CFG 1 2)).sysq ++ [f]
          ∧ f.ptp = .req s.time.reqSeq))
    ∧ (s.quality = 0 ∨ s.quality = 1 → s.time.lastSync + sT (s.cfgF Reg.GLB_PTP_TIMERS 0 8) ≤ s.now →
      ∃ t, exec .syncLossTimeout s = .next t ∧ t.quality = 2 ∧ t.regBit Reg.GLB_TIME_STATUS 8 = true ∧ t.time.holdoverAt = s.now
        ∧ (t.reg Reg.GLB_PTP_LOSS).toNat = min 0xFFFFFFFF ((s.reg Reg.GLB_PTP_LOSS).toNat + 1)
        ∧ RegsBut s t (Reg.GLB_TIME_STATUS :: Reg.GLB_PTP_LOSS :: evRegs))
    ∧ (s.quality = 2 → s.time.holdoverAt + sT (60 * s.cfgF Reg.GLB_PTP_TIMERS 16 16) ≤ s.now →
      ∃ t, exec .holdoverExpiry s = .next t ∧ t.quality = 3 ∧ t.regBit Reg.GLB_TIME_STATUS 8 = true
        ∧ RegsBut s t (Reg.GLB_TIME_STATUS :: evRegs))

/-! ## Ingest and sessions -/

/-- Live ingest (R85, R113 to R118, R133, R86): RTP_PACKET, REORDER_EXPIRY, AU_WAIT_EXPIRY, CONTEXT_IDLE_TIMEOUT and CTX_CLOSE each complete, under
conditions on the state and the operands alone. A packet of a FREE live context's flow starts its admission and waits for it, one of an OPEN context's flow
is checked and held; the reorder and access-unit timers close what is complete; idle expiry and close end an OPEN context; CTX_CLOSE of another context does
nothing. The RTP frame is one that every check of R36 and the role of R40 pass, outside night retention (R358) and safe state (R447), with its policer off
(R320); its count in PRT_RX_FRAMES is log entry 10. -/
def Obligations.IngestCommandsTakeTheirEffect : Prop :=
  ∀ (s : State) (n : Fin 1024),
    (∀ (f : RxFrame), s.rxOpen f.port = true → f.proto = some 17 → s.isKt f = false → s.isPtp f = false → s.frameCheck f = none → s.role f.port 0 = true →
      s.flowOf f = some n.val → s.power.safe = false → s.regF Reg.GLB_MEM_NIGHT 16 2 = 0 → s.soonF (Reg.HBX_POL_CFG n) 0 1 = 0 →
      (s.cstate n = 0 → ∃ t, exec (.rtpPacket f) s = .next t ∧ t.cstate n = 1 ∧ t.adm.reqs = s.adm.reqs ++ [(s.now, .live n f.port)]
        ∧ (t.ctx n).early = (s.ctx n).early ++ [(f.payload, s.taiNs, s.quality, s.now)])
      ∧ (s.cstate n = 2 → s.now < (s.ctx n).idleAt →
        exec (.rtpPacket f) s = .next ((s.bump (Reg.PRT_RX_FRAMES f.port)).rtpIn n f.payload s.taiNs s.quality s.now)))
    ∧ (s.cstate n = 2 → ∃ t, exec (.reorderExpiry n) s = .next t ∧ t = (s.loseDue n).closeUnits n false false
        ∧ t.regBit (Reg.ING_STATUS n) 1 = (!(t.ctx n).rtp.held.isEmpty || (t.ctx n).off.isSome))
    ∧ (s.cstate n = 2 → ∃ t, exec (.auWaitExpiry n) s = .next t ∧ t = s.closeUnits n false false
        ∧ t.regBit (Reg.ING_STATUS n) 1 = (!(t.ctx n).rtp.held.isEmpty || (t.ctx n).off.isSome))
    ∧ (s.cstate n = 2 → (s.ctx n).idleAt ≤ s.now → s.sessOf clsOffload n = none → exec (.contextIdleTimeout n) s = .next (s.ctxLeaveOpen n))
    ∧ (∀ x, s.cstate n = 2 → (s.ctx n).idleAt ≤ s.now → s.sessOf clsOffload n = some x → x.pausedAt = none →
        exec (.contextIdleTimeout n) s = .next (s.abortSess x (some 2)))
    ∧ (s.cstate n = 2 → s.sessOf clsOffload n = none → exec (.ctxClose n) s = .next (s.ctxLeaveOpen n))
    ∧ (∀ x, s.cstate n = 2 → s.sessOf clsOffload n = some x → exec (.ctxClose n) s = .next (s.abortSess x (some 6)))
    ∧ (s.cstate n ≠ 2 → exec (.ctxClose n) s = .next s)

/-- An OPEN with SESSION 0 is discarded and counted in PRT_KT_BAD (R45): it opens no session and changes no context. -/
def Obligations.SessionZeroIsDiscarded : Prop :=
  ∀ (f : RxFrame) (s t0 : State) (m : KtMsg) (partner : Nat), m.session = 0 →
    (s.ktRx f clsOffload 1 = (t0, some (m, partner)) → ∃ t, exec (.offloadOpen f) s = .next t ∧ Counted t0 t (Reg.PRT_KT_BAD f.port) 1
      ∧ RegsBut t0 t (ctr (Reg.PRT_KT_BAD f.port)) ∧ t.net = s.net ∧ t.ctxs = s.ctxs)
    ∧ (s.ktRx f clsMask 1 = (t0, some (m, partner)) → ∃ t, exec (.maskOpen f) s = .next t ∧ Counted t0 t (Reg.PRT_KT_BAD f.port) 1
      ∧ RegsBut t0 t (ctr (Reg.PRT_KT_BAD f.port)) ∧ t.net = s.net ∧ t.ctxs = s.ctxs)

/-- Messages of OFFLOAD and MASK sessions that a partner sends (R45, R46, R50 to R52, R123, R255): OFFLOAD_OPEN, OFFLOAD_DATA, OFFLOAD_CLOSE, OFFLOAD_ABORT,
MASK_OPEN, MASK_DATA, MASK_CLOSE and MASK_ABORT each complete, under conditions on the state and the frame alone. An OPEN with no session yet opens one (an
offload session waits for its admission, a mask session is accepted at once), a chunk inside the window is stored, CLOSE records FINAL and acknowledges,
ABORT ends the session. `ktRx` is the headbox's check of the frame in the state, a function of both: `t0` names the state after it, `m` and `partner` the
message and its sender. -/
def Obligations.SessionMessagesTakeTheirEffect : Prop :=
  ∀ (f : RxFrame) (s t0 : State) (m : KtMsg) (partner : Nat),
    (s.ktRx f clsOffload 1 = (t0, some (m, partner)) → m.session ≠ 0 →
      ∀ t n, t = (t0.idleFirst clsOffload partner m.session).raiseEv 102 → t.sess clsOffload partner m.session = none →
        t.closedSess clsOffload partner m.session = none → t.power.safe = false → t.maintenance = false → m.cls = clsOffload →
        m.body.length = 40 → fieldAt 0 1 m.body < 3 → t.poolCtx = some n →
        ∃ u, exec (.offloadOpen f) s = .next u ∧ u.cstate n = 1
          ∧ u.sess clsOffload partner m.session
            = some { cls := clsOffload, partner, id := m.session, target := n, awaiting := true, asked := fieldAt 12 4 m.body })
    ∧ (s.ktRx f clsMask 1 = (t0, some (m, partner)) → m.session ≠ 0 →
      ∀ t, t = (t0.idleFirst clsMask partner m.session).raiseEv 102 → t.sess clsMask partner m.session = none →
        t.closedSess clsMask partner m.session = none → t.power.safe = false → t.maintenance = false → m.cls = clsMask →
        m.body.length = 8 → fieldAt 0 2 m.body < 1024 → t.rtype (fieldAt 0 2 m.body) = 2 → t.rstate (fieldAt 0 2 m.body) ≠ 3 →
        t.sessOf clsMask (fieldAt 0 2 m.body) = none →
        ∃ u, exec (.maskOpen f) s = .next u ∧ u.regBit (Reg.CMP_STATUS (fieldAt 0 2 m.body)) 0 = true
          ∧ u.reg (Reg.CMP_TRACK_ID (fieldAt 0 2 m.body)) = BitVec.ofNat 32 (fieldAt 4 4 m.body)
          ∧ (∃ x, u.sess clsMask partner m.session = some x ∧ x.target = fieldAt 0 2 m.body ∧ x.awaiting = false))
    ∧ (∀ cls, (cls = clsOffload ∨ cls = clsMask) → ∀ t x, t.sess cls partner m.session = some x → x.awaiting = false →
      (s.ktRx f cls 3 = (t0, some (m, partner)) → t = t0.idleFirst cls partner m.session → x.next ≤ m.seq → m.seq < x.edge →
        x.held.any (fun c => c.seq == m.seq) = false → x.final = none →
        (cls = clsOffload → exec (.offloadData f) s = .next (t.storeChunk x m)) ∧ (cls = clsMask → exec (.maskData f) s = .next (t.storeChunk x m)))
      ∧ (s.ktRx f cls 5 = (t0, some (m, partner)) → t = (t0.idleFirst cls partner m.session).raiseEv 102 → m.body.length = 8 → x.final = none →
        ∀ y u, y = { x with final := some (fieldAt 0 4 m.body), held := x.held.filter (fun c => decide (c.seq ≤ fieldAt 0 4 m.body))
                            closeAt := t.now + sT (t.cfgF Reg.GLB_KT_CFG 16 6) } → u = ((t.setSess y).touchOffload y).ackNow y →
        ∀ z, u.sess cls partner m.session = some z →
        (cls = clsOffload → exec (.offloadClose f) s = .next (u.closeIfDone z)) ∧ (cls = clsMask → exec (.maskClose f) s = .next (u.closeIfDone z)))
      ∧ (s.ktRx f cls 7 = (t0, some (m, partner)) → t = (t0.idleFirst cls partner m.session).raiseEv 102 → m.body.length = 4 →
        (cls = clsOffload → exec (.offloadAbort f) s = .next (t.abortSess x none)) ∧ (cls = clsMask → exec (.maskAbort f) s = .next (t.abortSess x none))))

/-- Session timers that acknowledge (R49): ACK_DELAY_EXPIRY, ZERO_WINDOW_REPEAT and WINDOW_RISES_FROM_ZERO each complete where their condition holds: after 200 µs
with an unacknowledged chunk, every 50 ms while WINDOW is 0, and when it rises from 0, the session sends an ACK: ACK_SEQ rises by one, no chunk stays
unacknowledged, and NEXT + WINDOW is remembered. No register changes. -/
def Obligations.SessionTimersAcknowledge : Prop :=
  ∀ (r : SessRef) (s : State) (x : KtSess), s.sess r.cls r.partner r.id = some x → x.awaiting = false →
    (0 < x.unacked → x.unackedAt + usT 200 ≤ s.now → ∃ t y, exec (.ackDelayExpiry r) s = .next t ∧ t.sess r.cls r.partner r.id = some y
      ∧ y = { x with ackSeq := x.ackSeq + 1, edge := x.next + s.window x, unacked := 0
                     zeroAt := if s.window x = 0 then some (s.now + msT 50) else none } ∧ t.regs = s.regs)
    ∧ (∀ at_, x.zeroAt = some at_ → at_ ≤ s.now → ∃ t y, exec (.zeroWindowRepeat r) s = .next t ∧ t.sess r.cls r.partner r.id = some y
      ∧ y = { x with ackSeq := x.ackSeq + 1, edge := x.next + s.window x, unacked := 0
                     zeroAt := if s.window x = 0 then some (s.now + msT 50) else none } ∧ t.regs = s.regs)
    ∧ (x.zeroAt.isSome = true → 0 < s.window x → ∃ t y, exec (.windowRisesFromZero r) s = .next t ∧ t.sess r.cls r.partner r.id = some y
      ∧ y = { x with ackSeq := x.ackSeq + 1, edge := x.next + s.window x, unacked := 0, zeroAt := none } ∧ t.regs = s.regs)

/-- Session timers that end a session (R51, R52, R104, R261): CLOSE_TIMEOUT, PAUSED_SESSION_ABORT, MASK_SESSION_IDLE and CLOSED_SESSION_EXPIRY each complete where
their condition holds: the close timeout, the 60 s of a pause, the 60 s of a mask session with no DATA, and the 60 s after which a closed session is
forgotten. -/
def Obligations.SessionTimersEndSessions : Prop :=
  ∀ (r : SessRef) (s : State),
    (∀ x, s.sess r.cls r.partner r.id = some x → x.awaiting = false →
      (x.final.isSome = true → x.closeAt ≤ s.now → exec (.closeTimeout r) s = .next (s.closeSess x))
      ∧ (∀ at_, x.pausedAt = some at_ → at_ + sT 60 ≤ s.now → exec (.pausedSessionAbort r) s = .next (s.abortSess x (some 5)))
      ∧ (x.cls = clsMask → x.activity + sT 60 ≤ s.now → exec (.maskSessionIdle r) s = .next (s.abortSess x (some 2))))
    ∧ (∃ t, exec (.closedSessionExpiry r) s = .next t ∧ t.net.sess = s.net.sess ∧ t.regs = s.regs
      ∧ ∀ c, c ∈ t.net.closed ↔ c ∈ s.net.closed ∧ ¬ (c.cls = r.cls ∧ c.partner = r.partner ∧ c.id = r.id ∧ c.expires ≤ s.now))

/-! ## Management -/

/-- Management sessions (R60 to R64): HELLO, BYE and MGMT_SESSION_IDLE each complete, under conditions on the state and the operands alone: an accepted HELLO opens
a session, a valid BYE ends it after the device's own BYE, and one with no valid REQUEST for IDLE_S is forgotten. `mgmtRx` is the headbox's check of the
frame in the state: `t0` names the state after it and `m` the message. The order of the checks in HELLO's STATUS is the model's (log entry 23). -/
def Obligations.ManagementSessionsOpenAndEnd : Prop :=
  ∀ (f : RxFrame) (s t0 : State) (m : KtMsg),
    (s.mgmtRx f (fun m => m.type == 1) = (t0, some m) → m.body.length = 222 → (t0.port f.port).hellos < 10 →
      ∀ u, u = t0.setPort f.port { t0.port f.port with hellos := (t0.port f.port).hellos + 1 } →
        (u.helloStatus m.body = 0 → ∃ t e, exec (.hello f) s = .next t ∧ t.mgmt.sess = t0.mgmt.sess ++ [e] ∧ e.port = f.port.val ∧ e.ip = f.srcIp
          ∧ e.udp = f.srcPort ∧ e.keySlot = fieldAt 8 1 m.body ∧ e.lastReq = t0.now ∧ e.lastSeq = 0 ∧ t.mgmt.opened = t0.mgmt.opened + 1)
        ∧ (u.helloStatus m.body ≠ 0 → ∃ t, exec (.hello f) s = .next t ∧ t.mgmt = t0.mgmt
          ∧ (t.reg Reg.GLB_MGMT_AUTH_FAIL).toNat = min 0xFFFFFFFF ((t0.reg Reg.GLB_MGMT_AUTH_FAIL).toNat + 1)))
    ∧ (∀ x, s.mgmtRx f (fun m => m.type == 5) = (t0, some m) → t0.mgmtSess m.session = some x → tagOk x.kPD f.payload = true →
      ∃ t, exec (.bye f) s = .next t ∧ t.mgmt.sess = t0.mgmt.sess.filter (fun y => y.num != x.num) ∧ t.regs = t0.regs)
    ∧ (∀ num x, s.mgmtSess num = some x → x.lastReq + sT (s.cfgF Reg.GLB_KT_TIMERS 16 12) ≤ s.now →
      ∃ t, exec (.mgmtSessionIdle num) s = .next t ∧ t.mgmt.sess = s.mgmt.sess.filter (fun y => y.num != num) ∧ t.regs = s.regs)

/-- Each of the twelve rows of REQUEST (READ, WRITE, TICKET_START of its six kinds, TICKET_READ, TICKET_RELEASE, IMAGE_BLOCK and an unknown OP) completes for every
valid REQUEST (R65, R66, R68), under conditions on the state and the frame alone: a new SEQ performs the row's operation, a ninth unanswered one and an old
SEQ without a kept answer count in GLB_MGMT_REPLAY, and the last SEQ's answer is sent again. `mgmtRx` is the headbox's check of the frame in the state. That
the unanswered REQUESTs are those of one instant is log entry 25. -/
def Obligations.RequestRowsPerformTheirOperation : Prop :=
  ∀ (f : RxFrame) (s t0 : State) (m : KtMsg) (x : MgmtSess) (c : Instr) (kind : ReqKind) (op : Perform),
    (c, kind, op) ∈ ([(.read f, .read, State.opRead), (.write f, .write, notInMaintenance State.opWrite),
      (.ticketStartSelfTest f, .selfTest, State.opSelfTest), (.ticketStartCalibrate f, .calibrate, State.opCalibrate),
      (.ticketStartAttest f, .attest, State.opAttest), (.ticketStartDigest f, .digest, State.opDigest),
      (.ticketStartStill f, .still, State.opStill), (.ticketStartImageInstall f, .install, State.opInstall),
      (.ticketRead f, .ticketRead, State.opTicketRead), (.ticketRelease f, .ticketRelease, State.opTicketRelease),
      (.imageBlock f, .imageBlock, State.opImageBlock), (.unknownOpRequest f, .unknown, opUnknown)] : List (Instr × ReqKind × Perform)) →
    s.mgmtRx f (fun m => m.type == 3 && reqKind m.body == kind) = (t0, some m) → t0.mgmtSess m.session = some x → tagOk x.kPD f.payload = true →
    (x.lastSeq < m.seq → x.unanswered t0.now < 8 → exec c s = .next (t0.performReq x f m op))
    ∧ (x.lastSeq < m.seq → 8 ≤ x.unanswered t0.now →
      ∃ t, exec c s = .next t ∧ (t.reg Reg.GLB_MGMT_REPLAY).toNat = min 0xFFFFFFFF ((t0.reg Reg.GLB_MGMT_REPLAY).toNat + 1)
        ∧ RegsBut t0 t [Reg.GLB_MGMT_REPLAY] ∧ t.mgmt.tickets = t0.mgmt.tickets)
    ∧ (∀ a, m.seq ≤ x.lastSeq → x.answers.find? (fun a => a.1 == m.seq) = some a →
      ∃ t, exec c s = .next t ∧ t.regs = t0.regs ∧ t.mgmt.tickets = t0.mgmt.tickets ∧ t.ctxs = t0.ctxs)
    ∧ (m.seq ≤ x.lastSeq → x.answers.find? (fun a => a.1 == m.seq) = none →
      ∃ t, exec c s = .next t ∧ (t.reg Reg.GLB_MGMT_REPLAY).toNat = min 0xFFFFFFFF ((t0.reg Reg.GLB_MGMT_REPLAY).toNat + 1)
        ∧ RegsBut t0 t [Reg.GLB_MGMT_REPLAY] ∧ t.mgmt.tickets = t0.mgmt.tickets)

/-- What the operations answer (R66, R67, R70 to R74): a READ of assigned aligned addresses gives their values and changes no stored register; a WRITE is one
request's write; a TICKET_START with parameters in range and room takes the next ticket number (its wrap past 0xFFFFFFFF is log entry 91); a TICKET_READ of a
READY ticket counts READS at offset 0; a release of a READY ticket drops it; an unknown OP changes nothing. -/
def Obligations.RequestOperationsAnswer : Prop :=
  ∀ (s : State) (num : Nat) (f : RxFrame) (b : Bytes),
    (1 ≤ fieldAt 4 2 b → fieldAt 4 2 b ≤ 256 → s.maintenance = false → rangeValid (fieldAt 0 4 b) (fieldAt 4 2 b) = true →
      (s.opRead num f b).1.status = 0 ∧ (s.opRead num f b).1.body.length = 4 * fieldAt 4 2 b ∧ (s.opRead num f b).2.regs = s.regs)
    ∧ (1 ≤ fieldAt 4 2 b → fieldAt 4 2 b ≤ 256 → s.maintenance = false → rangeValid (fieldAt 0 4 b) (fieldAt 4 2 b) = true →
      notInMaintenance State.opWrite s num f b = ({ status := 0 }, s.writeRegs (.mgmt num) (fieldAt 0 4 b) (wordsOf (b.drop 8))))
    ∧ (s.maintenance = false → rangeValid (fieldAt 0 4 b) (fieldAt 4 2 b) = false → 1 ≤ fieldAt 4 2 b → fieldAt 4 2 b ≤ 256 →
      (s.opRead num f b).1.status = 1 ∧ (notInMaintenance State.opWrite s num f b).1.status = 1
      ∧ (((s.opRead num f b).2.reg Reg.GLB_MGMT_ADDR_ERR).toNat = min 0xFFFFFFFF ((s.reg Reg.GLB_MGMT_ADDR_ERR).toNat + 1)))
    ∧ (s.maintenance = true → (notInMaintenance State.opWrite s num f b).1.status = 4 ∧ (notInMaintenance State.opWrite s num f b).2 = s
      ∧ (s.opSelfTest num f b).1.status = 4 ∧ (s.opCalibrate num f b).1.status = 4 ∧ (s.opAttest num f b).1.status = 4
      ∧ (s.opDigest num f b).1.status = 4 ∧ (s.opStill num f b).1.status = 4)
    ∧ (s.maintenance = false → s.mgmt.tickets.length < 64 → calibrateAgent (fieldAt 0 1 (b.drop 4)) = true →
      (s.opCalibrate num f b).1 = { status := 0, body := be 4 s.nextTicket } ∧ (s.opCalibrate num f b).2.mgmt.issued = s.nextTicket
      ∧ (s.opCalibrate num f b).2.mgmt.tickets
        = s.mgmt.tickets ++ [{ num := s.nextTicket, kind := 2, params := b.drop 4, started := s.now }])
    ∧ (s.mgmt.issued + 1 < 2 ^ 32 → (∀ t, t ∈ s.mgmt.tickets → t.num ≠ s.mgmt.issued + 1) → s.nextTicket = s.mgmt.issued + 1)
    ∧ (fieldAt 0 1 (b.drop 4) ≤ 1 → s.mgmt.tickets.length < 64 →
      (s.opInstall num f b).1 = { status := 0, body := be 4 s.nextTicket } ∧ (s.opInstall num f b).2.mgmt.tickets
        = s.mgmt.tickets ++ [{ num := s.nextTicket, kind := 6, params := b.drop 4, started := s.now }])
    ∧ (∀ t, s.mgmt.cancelled.contains (fieldAt 0 4 b) = false → s.ticket (fieldAt 0 4 b) = some t → t.ready = true →
      (s.opTicketRead num f b).1.status = 0
      ∧ (s.opTicketRead num f b).2 = s.mapTicket (fieldAt 0 4 b) (fun y => { y with reads := if fieldAt 4 4 b = 0 then t.reads + 1 else t.reads })
      ∧ s.opTicketRelease num f b = ({ status := 0 }, s.dropTicket (fieldAt 0 4 b)))
    ∧ (s.ticket (fieldAt 0 4 b) = none → s.opTicketRead num f b = ({ status := 5 }, s) ∧ s.opTicketRelease num f b = ({ status := 5 }, s))
    ∧ opUnknown s num f b = ({ status := 2 }, s)

/-- Register access by microcode and by management (R8, R67, R393, R432, R494): a register command at an assigned, aligned address is one request's write, any
other counts in GLB_MGMT_ADDR_ERR and changes nothing else, and after power fail none is taken (R300); REGRD puts the register into RD[31:0], REGWR writes it. That RD[63:32] stays is the model's
reading (log entry 26). -/
def Obligations.RegisterCommandsWriteOrCount : Prop :=
  (∀ (s : State) (num a : Nat) (v : BitVec 32),
    (s.power.failing = true → exec (.registerWrite num a v) s = .next s)
    ∧ (s.power.failing = false → addrValid a = true → exec (.registerWrite num a v) s = .next (s.writeRegs (.mgmt num) a [v]))
    ∧ (s.power.failing = false → addrValid a = false → ∃ t, exec (.registerWrite num a v) s = .next t
      ∧ (t.reg Reg.GLB_MGMT_ADDR_ERR).toNat = min 0xFFFFFFFF ((s.reg Reg.GLB_MGMT_ADDR_ERR).toNat + 1) ∧ RegsBut s t [Reg.GLB_MGMT_ADDR_ERR]))
  ∧ ∀ (s : State) (i : Fin 8) (m : MicroWord),
    (s.ready i 6 = some m → addrValid ((s.seq i).addr m) = true → tget (fun _ => none) s.hold ((s.seq i).addr m) = none →
      ∃ t, exec (.regrd i) s = .next t ∧ t.regs = s.regs ∧ t.mem = s.mem
        ∧ (m.rd ≠ 0 → ((t.seq i).r m.rd).toNat % 2 ^ 32 = (s.viewReg ((s.seq i).addr m)).toNat))
    ∧ (s.ready i 7 = some m → addrValid ((s.seq i).addr m) = true →
      ∀ t, t = s.writeRegs (.micro i) ((s.seq i).addr m) [((s.seq i).r m.rd).setWidth 32] → (t.seq i).state = .running →
        exec (.regwr i) s = .next (t.xopDone i m false))

/-! ## Keys, fuses, test port -/

/-- OTP commands (R485): a command that no check refuses starts, a refused one leaves its RESULT. At the end PROGRAM stores the hash in its slot, REVOKE blows
the slot's fuse and ends its sessions, ADVANCE raises the counter to the running image's; RESULT is 0 where every fuse is programmed, else 4. -/
def Obligations.OtpCommandsRun : Prop :=
  (∀ (s : State) (num k : Nat) (slot : Fin 4), s.sessionKey num = some k →
    (s.otpRefusal k 1 slot = 0 → ∃ t, exec (.otpProgram num slot) s = .next t ∧ t.boot.otp.busy = some (1, slot.val) ∧ t.boot.otp.hash = s.stageBytes
      ∧ t.boot.otp.stage = [] ∧ t.boot.otp.keys = s.boot.otp.keys)
    ∧ (s.otpRefusal k 2 slot = 0 → ∃ t, exec (.otpRevoke num slot) s = .next t ∧ t.boot.otp.busy = some (2, slot.val)
      ∧ t.boot.otp.revoked = s.boot.otp.revoked)
    ∧ (s.otpRefusal k 3 0 = 0 → ∃ t, exec (.otpAdvance num) s = .next t ∧ t.boot.otp.busy = some (3, 0) ∧ t.boot.otp.rollback = s.boot.otp.rollback)
    ∧ (∀ r, r ≠ 0 → s.otpRefusal k 1 slot = r → ∃ t, exec (.otpProgram num slot) s = .next t ∧ t.boot.otp.result = r ∧ t.boot.otp.busy = s.boot.otp.busy
      ∧ t.boot.otp.stage = [])
    ∧ (s.boot.otp.busy = none → s.programmed slot = true → s.otpRefusal k 1 slot = 1)
    ∧ (s.boot.otp.busy = none → k = slot.val → s.otpRefusal k 2 slot = 2)
    ∧ (s.boot.otp.busy = none → s.imageRollback ≤ s.boot.otp.rollback → s.otpRefusal k 3 slot = 3)
    ∧ (s.boot.otp.busy.isSome = true → s.otpRefusal k 1 slot = 5 ∧ s.otpRefusal k 2 slot = 5 ∧ s.otpRefusal k 3 slot = 5))
  ∧ ∀ (s : State) (slot : Nat),
    (s.boot.otp.busy = some (1, slot) → ∃ t, exec (.otpCommandDone true) s = .next t ∧ t.boot.otp.busy = none ∧ t.boot.otp.result = 0
      ∧ tget (fun _ => none) t.boot.otp.keys slot = some s.boot.otp.hash ∧ ∀ j, j ≠ slot → tget (fun _ => none) t.boot.otp.keys j = tget (fun _ => none) s.boot.otp.keys j)
    ∧ (s.boot.otp.busy = some (2, slot) → ∃ t, exec (.otpCommandDone true) s = .next t ∧ t.boot.otp.busy = none ∧ t.boot.otp.result = 0
      ∧ t.boot.otp.revoked = s.boot.otp.revoked ||| 2 ^ slot ∧ t.boot.otp.keys = s.boot.otp.keys ∧ (∀ x, x ∈ t.mgmt.sess → x.keySlot ≠ slot))
    ∧ (s.boot.otp.busy = some (3, slot) → ∃ t, exec (.otpCommandDone true) s = .next t ∧ t.boot.otp.busy = none ∧ t.boot.otp.result = 0
      ∧ t.boot.otp.rollback = s.imageRollback ∧ t.boot.otp.keys = s.boot.otp.keys)
    ∧ (∀ cmd, s.boot.otp.busy = some (cmd, slot) → ∃ t, exec (.otpCommandDone false) s = .next t ∧ t.boot.otp.busy = none ∧ t.boot.otp.result = 4)

/-- The test port and the TRNG test (R483, R484, R513): an instruction that is not permitted acts as BYPASS; KEYLOAD programs a slot of an unclaimed device;
a failed window counts, a good one starts the count again. -/
def Obligations.TestPortAndTrngTestAct : Prop :=
  ∀ (s : State) (code : BitVec 8) (dr : BitVec 258),
    (∃ t, exec (.jtagInstruction code) s = .next t ∧ t.boot.jtag = s.jtagActs code.toNat ∧ t.boot.otp = s.boot.otp ∧ t.regs = s.regs)
    ∧ (code.toNat = 0x30 → s.unclaimed = false → s.jtagActs code.toNat = 0xFF)
    ∧ (s.boot.jtag = 0x30 → s.unclaimed = true → s.boot.nporLow = false → ∃ t, exec (.keyload dr) s = .next t
      ∧ tget (fun _ => none) t.boot.otp.keys (dr.toNat % 4) = some (be 32 (dr.toNat / 4)) ∧ t.regs = s.regs)
    ∧ (∃ t, exec (.trngTestWindow true) s = .next t ∧ t.boot.trngFails = 0 ∧ t.regs = s.regs)
    ∧ (∃ t, exec (.trngTestWindow false) s = .next t ∧ t.boot.trngFails = s.boot.trngFails + 1 ∧ t.regs = s.regs)

/-! ## Steps, reset, frames -/

/-- A step performs the command at the front of the queue on the state with the rest of the queue. -/
def Obligations.StepRunsFrontCommand : Prop :=
  ∀ (c : Instr) (rest : List Instr) (s : State), s.pending = c :: rest → step s = exec c { s with pending := rest }

/-- With no command waiting the block runs on for one tick of its base; the tick is the model's (log entry 1), and it changes no more than the parts of
`idleFootprint`. -/
def Obligations.EmptyQueueRunsOn : Prop :=
  ∀ (s : State), s.pending = [] → step s = .next s.idle ∧ (s.idle).pending = [] ∧ ∀ p, p ∉ idleFootprint → p.same s s.idle

/-- The state after reset: nothing waits and nothing is stored beyond the reset values, in canonical form; every slot is FREE, time runs free, and the registers
whose reset value a chapter gives hold it. -/
def Obligations.ResetHoldsTheGivenValues : Prop :=
  State.reset.Canon ∧ State.reset.pending = [] ∧ (∀ n : Fin 16, State.reset.cstate n = 0 ∧ State.reset.rstate n = 0)
  ∧ (∀ n : Fin 256, State.reset.reg (Reg.FLT_SRC_CFG n) = BitVec.ofNat 32 (sevReset n))
  ∧ State.reset.epoch = 0
  ∧ (State.reset.reg (Reg.FP_COUNT 0)).toNat = 8192 ∧ (State.reset.reg (Reg.FP_COUNT 1)).toNat = 4096 ∧ (State.reset.reg (Reg.FP_COUNT 2)).toNat = 512
  ∧ (∀ a, Memory.wf State.reset.mem.cells ∧ State.reset.byteAt a = 0)

/-- Whatever the state, a step keeps the tables in canonical form: the register file, memory, the marks of R342 and R352, the journal. -/
def Obligations.EveryStepKeepsCanonicalForm : Prop :=
  ∀ (s t : State), s.Canon → step s = .next t → t.Canon

/-- Frames: a command changes nothing outside its footprint. -/
def Obligations.EveryCommandKeepsItsFrame : Prop :=
  ∀ (c : Instr) (s t : State) (p : Part), exec c s = .next t → p ∉ footprint c → p.same s t

/-- The queue belongs to the step alone. -/
def Obligations.NoCommandTouchesTheQueue : Prop :=
  ∀ (c : Instr) (s t : State), exec c s = .next t → t.pending = s.pending

/-- Every command completes in every state, but a memory request at an address where no device is (R337), which stops. -/
def Obligations.OnlyAbsentMemoryStops : Prop :=
  ∀ (c : Instr) (s : State),
    (Completes (exec c s) ∨ ∃ a, exec c s = .fault (.absentMemory a))
    ∧ ∀ a, exec c s = .fault (.absentMemory a) ↔ s.memPresent a = false ∧ ∃ agent,
        (∃ n errs, c = .memReadRequest agent a n errs) ∨ ∃ mask data poison errs, c = .memWriteRequest agent a mask data poison errs

/-! ## Counters -/

/-- Counters (R10, R11): a 64-bit counter saturates at its all-ones value and never wraps, and only a clear returns it: a write of 1 to bit 0 returns the counters of the block to their reset value, 0, and no other register changes; a write of 0
does nothing. FP_CNT_CLR also makes FP_LOW FP_FREE (R371). -/
def Obligations.CountersSaturateAndClear : Prop :=
  ∀ (s : State) (v : BitVec 32) (p4 : Fin 4) (p8 : Fin 8) (p24 : Fin 24) (p64 : Fin 64), s.Canon →
    (∀ (c : Instr) (rs : List (Nat × Nat)),
      (c, rs) ∈ ([(.prtCntClr p4 v, [(Reg.PRT_CNT p4 0, 0x88)]), (.glbCntClr v, [(Reg.GLB_MGMT_ADDR_ERR, 12), (Reg.GLB_PTP_LOSS, 4)]),
        (.glbAdmCntClr v, [(Reg.GLB_ADM_REFUSED, 16)]), (.decCntClr p64 v, [(Reg.DEC_CNT p64 0, 56)]), (.encCntClr p24 v, [(Reg.ENC_CNT p24 0, 80)]),
        (.cuCntClr p8 v, [(Reg.CU_CNT p8 0, 40)]), (.sealCntClr v, [(Reg.SEAL_CNT 0, 40)]),
        (.hbxCntClr v, [(Reg.HBX_POL_DROP 0 0, 0x4000), (Reg.HBX_CTL_DROP 0 0, 16), (Reg.HBX_CTL_DROP 1 0, 16), (Reg.HBX_CTL_DROP 2 0, 16),
          (Reg.HBX_CTL_DROP 3 0, 16)]),
        (.egqCntClr v, [(Reg.EGQ_TX 0 0, 0x4000)]), (.memCntClr p8 v, [(Reg.MEM_CNT p8 0, 72)]), (.glbMemCntClr v, [(Reg.GLB_MEM_NIGHT_REFUSED, 8)]),
        (.fpGlbCntClr v, [(Reg.FP_BAD_HANDLE, 8)]), (.dmaCntClr p64 v, [(Reg.DMA_CNT p64 0, 40)]), (.seqCntClr p8 v, [(Reg.SEQ_CNT p8 0, 48)]),
        (.intCntClr v, [(Reg.INT_CNT 0, 32)]), (.colCntClr v, [(Reg.COL_CNT 0, 24), (Reg.COL_WORST, 4)]), (.glbCfgCntClr v, [(Reg.GLB_CFG_IMMUT, 8)]),
        (.fltCntClr v, [(Reg.FLT_CNT 0, 32), (Reg.FLT_COUNT 0, 1024)]), (.calCntClr v, [(Reg.CAL_CNT 0, 32)])] : List (Instr × List (Nat × Nat))) →
      (v.getLsbD 0 = true → ∃ t, exec c s = .next t ∧ (∀ r, r ∈ rs → t.reg r.1 = 0#32)
        ∧ ∀ a, t.reg a = if rs.any (fun r => decide (r.1 ≤ a) && decide (a < r.1 + r.2)) then regReset a else s.reg a)
      ∧ (v.getLsbD 0 = false → exec c s = .next s))
    ∧ (v.getLsbD 0 = true → ∃ t, exec (.fpCntClr p8 v) s = .next t ∧ t.pair (Reg.FP_CNT p8 0) = 0 ∧ t.reg (Reg.FP_LOW p8) = s.reg (Reg.FP_FREE p8)
      ∧ ∀ a, a ≠ Reg.FP_LOW p8 → t.reg a = if Reg.FP_CNT p8 0 ≤ a ∧ a < Reg.FP_CNT p8 0 + 48 then regReset a else s.reg a)
    ∧ (v.getLsbD 0 = false → exec (.fpCntClr p8 v) s = .next s)
    ∧ ∀ a n, Counted s (s.bumpN a n) a n ∧ s.pair a ≤ (s.bumpN a n).pair a
      ∧ (s.pair a = 0xFFFFFFFFFFFFFFFF → (s.bumpN a n).pair a = 0xFFFFFFFFFFFFFFFF) ∧ RegsBut s (s.bumpN a n) (ctr a)

/-! ## Sequencers, events, the collector -/

/-- A microword (R391, R392, R388): an uncorrectable read halts the sequencer, whatever its XOP, and a corrected one counts. With XOP 0, ALU 0 only goes on; another
operation writes RD where WE is set and sets the flags, but MOV leaves the flags and CMP writes nothing; a result that the manual does not state is a free
value (log entry 2). With another XOP the rest is that XOP's row. -/
def Obligations.MicrowordsComputeAndGoOn : Prop :=
  ∀ (i : Fin 8) (rd : StoreRead) (s : State) (m : MicroWord), s.ready i (s.uword i).xop = some m →
    (rd = .bad → exec (.microwordStep i rd) s = .next (s.haltSeq i))
    ∧ (rd = .clean → m.xop ≠ 0 → exec (.microwordStep i rd) s = .next s)
    ∧ (rd = .corrected → m.xop ≠ 0 → exec (.microwordStep i rd) s = .next (s.bump (Reg.SEQ_CS_CORR i)))
    ∧ (rd ≠ .bad → m.xop = 0 → m.alu = 0 → ∃ t, exec (.microwordStep i rd) s = .next t ∧ (t.seq i).pc = s.nextAddr i m
      ∧ (∀ k, (t.seq i).r k = (s.seq i).r k) ∧ (t.seq i).zf = (s.seq i).zf ∧ (t.seq i).nf = (s.seq i).nf ∧ (t.seq i).cf = (s.seq i).cf
      ∧ (t.seq i).vf = (s.seq i).vf ∧ RegsBut s t (ctr (Reg.SEQ_CS_CORR i)))
    ∧ (rd ≠ .bad → m.xop = 0 → m.alu ≠ 0 → ∀ v, ((alu m.alu ((s.seq i).r m.ra) ((s.seq i).opB m)).val = some v
          ∨ ((alu m.alu ((s.seq i).r m.ra) ((s.seq i).opB m)).val = none ∧ v = BitVec.ofNat 64 (Config.freeValue s.freeCtr % 2 ^ 64))) →
      ∃ t, exec (.microwordStep i rd) s = .next t ∧ (t.seq i).pc = t.nextAddr i m
      ∧ (∀ k, (t.seq i).r k = if m.we = true ∧ m.alu ≠ 8 ∧ k = m.rd ∧ k ≠ 0 then v else (s.seq i).r k)
      ∧ (m.alu ≠ 1 → (t.seq i).zf = (v == 0#64) ∧ (t.seq i).nf = v.msb)
      ∧ (m.alu = 1 → (t.seq i).zf = (s.seq i).zf ∧ (t.seq i).nf = (s.seq i).nf ∧ (t.seq i).cf = (s.seq i).cf ∧ (t.seq i).vf = (s.seq i).vf)
      ∧ (∀ c, m.alu ≠ 1 → (alu m.alu ((s.seq i).r m.ra) ((s.seq i).opB m)).carry = some c → (t.seq i).cf = c)
      ∧ (∀ o, m.alu ≠ 1 → (alu m.alu ((s.seq i).r m.ra) ((s.seq i).opB m)).ovf = some o → (t.seq i).vf = o)
      ∧ t.mem = s.mem ∧ RegsBut s t (ctr (Reg.SEQ_CS_CORR i))
      ∧ (rd = .corrected → Counted s t (Reg.SEQ_CS_CORR i) 1))

/-- Register 0 of the bank in use reads 0 and ignores writes; the other bank is never touched by a write (R390). -/
def Obligations.RegisterZeroReadsZero : Prop :=
  ∀ (q : SeqSt) (k j : Nat) (v : BitVec 64),
    q.r 0 = 0#64 ∧ q.w 0 v = q ∧ ((q.w k v).r j = if j = k ∧ k ≠ 0 then v else q.r j)
    ∧ (q.inFast = true → (q.w k v).bankN = q.bankN) ∧ (q.inFast = false → (q.w k v).bankF = q.bankF)

/-- How a sequencer takes its work (R393, R397 to R401): FETCH accepts the first offered event or waits; SLEEP sleeps only when no pending event is one it could take;
an offer wakes it; a fast event switches to the fast bank and RETF goes back. -/
def Obligations.SequencersTakeEvents : Prop :=
  ∀ (i : Fin 8) (s : State) (m : MicroWord) (e : PendEv),
    ((s.ready i 1 = some m ∧ (s.seq i).state = .running) ∨ ((s.seq i).state = .idle ∧ s.fastDue i = none ∧ m = s.uword i) →
      (s.fetchable i = some e → ∃ t, exec (.fetch i) s = .next t ∧ (t.seq i).state = .running ∧ (t.seq i).r 1 = BitVec.ofNat 64 e.ev
        ∧ (t.seq i).r 2 = BitVec.ofNat 64 (s.evOpcode e.ev) ∧ (t.seq i).cp = s.evPrio e.ev ∧ (t.seq i).opcode = s.evOpcode e.ev ∧ (t.seq i).err = false
        ∧ (∀ k, k ≠ 1 → k ≠ 2 → k ≠ 0 → (t.seq i).r k = tget (fun _ => 0#64) (s.seq i).bankN k)
        ∧ (∀ x, x ∈ t.ctl.events → x.ev ≠ e.ev) ∧ Counted s t (Reg.SEQ_ITEMS i) 1 ∧ Counted s t Reg.INT_DELIVERED 1
        ∧ RegsBut s t (ctr (Reg.SEQ_ITEMS i) ++ ctr Reg.INT_DELIVERED ++ evRegs))
      ∧ (s.fetchable i = none → (s.seq i).state = .running → ∃ t, exec (.fetch i) s = .next t ∧ (t.seq i).state = .idle ∧ (t.seq i).pc = (s.seq i).pc
        ∧ RegsBut s t evRegs))
    ∧ (∀ x, (x = 1 ∨ x = 2) → s.ready i x = some m → (s.seq i).state = .fast →
      (x = 1 → exec (.fetch i) s = .next (s.haltSeq i)) ∧ (x = 2 → exec (.sleep i) s = .next (s.haltSeq i)))
    ∧ (s.ready i 2 = some m → (s.seq i).state = .running → ∀ u, u = s.setSeq i { s.seq i with state := .idle, item := none } →
      (s.ctl.events.filter (fun x => u.eligible i x.ev) = [] → ∃ t, exec (.sleep i) s = .next t ∧ (t.seq i).state = .sleeping
        ∧ (t.seq i).pc = (s.seq i).pc ∧ Counted s t (Reg.SEQ_SLEEPS i) 1 ∧ RegsBut s t (ctr (Reg.SEQ_SLEEPS i) ++ evRegs))
      ∧ (s.ctl.events.filter (fun x => u.eligible i x.ev) ≠ [] → ∃ t, exec (.sleep i) s = .next t ∧ (t.seq i).state ≠ .sleeping
        ∧ Counted s t (Reg.SEQ_SLEEP_REFUSED i) 1))
    ∧ ((s.seq i).state = .sleeping → s.ctl.events.any (fun x => x.offered == some i.val) = true →
      ∃ t, exec (.seqWake i) s = .next t ∧ (t.seq i).state = .running ∧ (t.seq i).err = false ∧ Counted s t (Reg.SEQ_WAKES i) 1
        ∧ RegsBut s t (ctr (Reg.SEQ_WAKES i) ++ evRegs))
    ∧ (s.fastDue i = some e → ∃ t, exec (.fastEventAccept i) s = .next t ∧ (t.seq i).state = .fast ∧ (t.seq i).fastRet = (s.seq i).pc
      ∧ (t.seq i).fastCp = (s.seq i).cp ∧ (t.seq i).fastState = (s.seq i).state ∧ (t.seq i).cp = s.evPrio e.ev
      ∧ (t.seq i).pc = tget (fun _ => 0) s.ctl.store.disp (s.evOpcode e.ev) ∧ (t.seq i).bankN = (s.seq i).bankN ∧ (t.seq i).bankF = (s.seq i).bankF
      ∧ Counted s t (Reg.SEQ_FAST i) 1 ∧ RegsBut s t (ctr (Reg.SEQ_FAST i) ++ ctr Reg.INT_DELIVERED ++ evRegs))
    ∧ (s.ready i 3 = some m →
      ((s.seq i).state = .fast → ∃ t, exec (.retf i) s = .next t ∧ (t.seq i).state = (s.seq i).fastState ∧ (t.seq i).pc = (s.seq i).fastRet
        ∧ (t.seq i).cp = (s.seq i).fastCp ∧ (t.seq i).opcode = (s.seq i).fastOpcode ∧ (t.seq i).bankN = (s.seq i).bankN
        ∧ (t.seq i).bankF = (s.seq i).bankF ∧ RegsBut s t evRegs)
      ∧ ((s.seq i).state = .running → ∃ t, exec (.retf i) s = .next t ∧ (t.seq i).err = true ∧ (t.seq i).pc = t.nextAddr i m ∧ t.regs = s.regs))

/-- External operations without a memory access (R393): POP moves the oldest record into four registers or fails on an empty queue; SETPRIO sets the priority;
DOORBELL raises its event; UNIT and SEAL hand on a request, whose format is log entry 18. -/
def Obligations.ExternalOperationsComplete : Prop :=
  ∀ (i : Fin 8) (s : State) (m : MicroWord),
    (s.ready i 9 = some m →
      ((s.seq i).queue = [] → ∃ t, exec (.pop i) s = .next t ∧ (t.seq i).err = true ∧ (∀ k, (t.seq i).r k = (s.seq i).r k) ∧ t.regs = s.regs)
      ∧ (∀ c l, (s.seq i).queue = c :: l → ∃ t, exec (.pop i) s = .next t ∧ (t.seq i).err = false ∧ (t.seq i).queue = l
        ∧ (∀ k, k < 4 → m.rd + k ≠ 0 → (t.seq i).r (m.rd + k) = BitVec.ofNat 64 (c.words.getD k 0))
        ∧ (∀ k, (k < m.rd ∨ m.rd + 4 ≤ k) → (t.seq i).r k = (s.seq i).r k) ∧ t.regs = s.regs ∧ t.mem = s.mem))
    ∧ (s.ready i 10 = some m → ∃ t, exec (.setprio i) s = .next t ∧ (t.seq i).cp = m.imm % 16 ∧ (t.seq i).err = false
      ∧ (∀ k, (t.seq i).r k = (s.seq i).r k) ∧ RegsBut s t evRegs)
    ∧ (s.ready i 11 = some m → ∃ t, exec (.doorbell i) s = .next t ∧ (t.seq i).err = false
      ∧ (s.evEn (92 + m.imm % 8) = true → ∃ x, x ∈ t.ctl.events ∧ x.ev = 92 + m.imm % 8)
      ∧ (∀ k, (t.seq i).r k = (s.seq i).r k) ∧ RegsBut s t evRegs)
    ∧ (s.ready i 12 = some m → ∃ t, exec (.unit i) s = .next t ∧ t.ctl.unitCmds = s.ctl.unitCmds ++ [(i.val, m.imm % 256, ((s.seq i).r m.ra).toNat)]
      ∧ (t.seq i).err = false ∧ (t.seq i).pc = t.nextAddr i m ∧ t.regs = s.regs)
    ∧ (s.ready i 13 = some m → ∃ t, exec (.seal i) s = .next t ∧ t.ctl.sealReqs = s.ctl.sealReqs ++ [(i.val, ((s.seq i).r m.ra).toNat)]
      ∧ (t.seq i).err = false ∧ (t.seq i).pc = t.nextAddr i m ∧ t.regs = s.regs)

/-- LOAD and STORE (R393, R6, R372): an address that no agent may access fails; elsewhere an access is one or, across a line, two accesses of its bytes, least
significant byte first. In packet memory LOAD reads 8 bytes and STORE writes exactly 8 bytes. -/
def Obligations.LoadAndStoreMoveEightBytes : Prop :=
  ∀ (i : Fin 8) (s : State) (m : MicroWord) (errs : List (Nat × List SymErr)) (a : Nat), a = (s.seq i).addr m →
    (s.ready i 4 = some m →
      ((∃ k, k < 8 ∧ s.addrOk false (a + k) = false) → ∃ t, exec (.load i errs) s = .next t ∧ (t.seq i).err = true ∧ t.regs = s.regs ∧ t.mem = s.mem)
      ∧ ((∀ k, k < 8 → s.addrOk false (a + k) = true) → s.portStalls a = false →
        (∀ d u, a % 128 ≤ 120 → s.busRead (agGs i) a 8 errs = (some d, u) →
          exec (.load i errs) s = .next ((u.setSeq i ((u.seq i).w m.rd (BitVec.ofNat 64 (leNat d)))).xopDone i m false))
        ∧ (∀ u, a % 128 ≤ 120 → s.busRead (agGs i) a 8 errs = (none, u) → exec (.load i errs) s = .next (u.xopDone i m true))
        ∧ (∀ d1 d2 u1 u2 n, 120 < a % 128 → n = 128 - a % 128 → s.busRead (agGs i) a n errs = (some d1, u1) →
          u1.busRead (agGs i) (a + n) (8 - n) errs = (some d2, u2) →
          exec (.load i errs) s = .next ((u2.setSeq i ((u2.seq i).w m.rd (BitVec.ofNat 64 (leNat (d1 ++ d2))))).xopDone i m false)))
      ∧ ((∀ k, k < 8 → isPm (a + k) = true ∧ tget (fun _ => false) s.mem.badBytes (a + k) = false) →
        ∃ t, exec (.load i errs) s = .next t ∧ (t.seq i).err = false
          ∧ (∀ k, (t.seq i).r k = if k = m.rd ∧ k ≠ 0 then BitVec.ofNat 64 (leNat (s.getMem a 8)) else (s.seq i).r k) ∧ t.regs = s.regs ∧ t.mem = s.mem))
    ∧ (s.ready i 5 = some m →
      ((∃ k, k < 8 ∧ s.addrOk true (a + k) = false) → ∃ t, exec (.store i errs) s = .next t ∧ (t.seq i).err = true ∧ t.regs = s.regs ∧ t.mem = s.mem)
      ∧ ((∀ k, k < 8 → s.addrOk true (a + k) = true) → s.portStalls a = false → a % 128 ≤ 120 →
        exec (.store i errs) s = .next ((s.busWrite (agGs i) a ((le 8 ((s.seq i).r m.rd).toNat).map some) errs).xopDone i m false))
      ∧ ((∀ k, k < 8 → isPm (a + k) = true) → ∃ t, exec (.store i errs) s = .next t ∧ (t.seq i).err = false ∧ (∀ k, (t.seq i).r k = (s.seq i).r k)
        ∧ t.regs = s.regs ∧ ∀ x, t.byteAt x = if a ≤ x ∧ x < a + 8 then BitVec.ofNat 8 (((s.seq i).r m.rd).toNat / 2 ^ (8 * (x - a))) else s.byteAt x))

/-- Moderation and the completion collector (R400, R405, R406): an expired group releases every event that it holds; a round numbers up to eight records and counts
each, in `u`; what the acceptance of each record brings about follows in the same instant (R137, R180, R190, R231, R262; their order is log entry 104). -/
def Obligations.CollectorAndModerationRelease : Prop :=
  ∀ (s : State),
    (∀ (g : Fin 64) (t0 : Nat), minNat? ((s.heldOf g).map (·.raised)) = some t0 → t0 + usT (s.cfgF (Reg.INT_GRP_CFG g) 0 10) ≤ s.now →
      ∃ t, exec (.holdoffExpiry g) s = .next t ∧ (∀ e, e ∈ t.ctl.events → s.evGroup e.ev = g → e.held = false)
        ∧ t.ctl.events.map (·.ev) = s.ctl.events.map (·.ev) ∧ RegsBut s t evRegs)
    ∧ (s.heldRecords ≠ [] → ∃ (u : State) (rs : List CRec), exec .collectorRound s
        = .next (rs.foldl State.onAccept u).settleSlots.expireWaiting
      ∧ u.ctl.gseq = s.ctl.gseq + rs.length ∧ rs.length ≤ 8 ∧ (∀ c, c ∈ rs → ∃ q, q ∈ s.heldRecords ∧ c = q.2.rcd)
      ∧ Counted s u Reg.COL_ROUNDS 1 ∧ Counted s u Reg.COL_RECORDS rs.length
      ∧ RegsBut s u (Reg.COL_WORST :: ctr Reg.COL_ROUNDS ++ ctr Reg.COL_RECORDS ++ ctr Reg.COL_FULL_WAITS ++ evRegs))
    ∧ (s.heldRecords = [] → exec .collectorRound s = .next s.expireWaiting)

/-! ## Felt pools -/

/-- ALLOC, FREE and GIVE (R366 to R368) by an agent and by microcode: ALLOC hands out the lowest buffer never allocated, then the freed ones in order; an
empty pool with no fallback answers the null handle; FREE of an own buffer frees it; GIVE moves it, to 0xB8 where the receiver is reserved. Operations of one
instant wait for its last one, and FREE and GIVE then come before ALLOC (R367); those of a frozen agent stall (R445). -/
def Obligations.FeltOperationsMoveOwnership : Prop :=
  ∀ (s : State) (a : Fin 256) (i : Fin 8) (m : MicroWord) (p h dst x : Nat),
    (s.feltAlone = true → s.frozen a = false → p < 8 → exec (.alloc (.agent a p x)) s = .next ((s.alloc a p).2.gaveHandle a (s.alloc a p).1))
    ∧ (s.feltAlone = true → s.frozen a = false → p < 8 → s.poolCount p ≤ 2 ^ 21 →
      ((s.pool p).fresh < s.poolCount p → ∃ t, exec (.alloc (.agent a p x)) s = .next t
        ∧ t.mem.handles = s.handlesNow ++ [(s.now, a.val, handleOf p (s.pool p).fresh)]
        ∧ t.ownerOf (handleOf p (s.pool p).fresh) = some a.val ∧ (t.pool p).fresh = (s.pool p).fresh + 1
        ∧ t.reg (Reg.FP_FREE p) = BitVec.ofNat 32 (s.regF (Reg.FP_FREE p) 0 22 - 1) ∧ Counted s t (Reg.FP_ALLOCS p) 1
        ∧ RegsBut s t (Reg.FP_FREE p :: Reg.FP_LOW p :: ctr (Reg.FP_ALLOCS p)))
      ∧ (∀ k l, s.poolCount p ≤ (s.pool p).fresh → (s.pool p).freed = k :: l → k < 2 ^ 21 →
        ∃ t, exec (.alloc (.agent a p x)) s = .next t ∧ t.mem.handles = s.handlesNow ++ [(s.now, a.val, handleOf p k)] ∧ t.ownerOf (handleOf p k) = some a.val
          ∧ (t.pool p).freed = l ∧ Counted s t (Reg.FP_ALLOCS p) 1)
      ∧ (s.poolCount p ≤ (s.pool p).fresh → (s.pool p).freed = [] → (s.cfgBit (Reg.FP_CFG p) 3 = false ∨ s.cfgF (Reg.FP_CFG p) 0 3 ≤ p) →
        ∃ t, exec (.alloc (.agent a p x)) s = .next t ∧ t.mem.handles = s.handlesNow ++ [(s.now, a.val, 0)] ∧ t.pools = s.pools
          ∧ Counted s t (Reg.FP_EMPTY p) 1 ∧ RegsBut s t (ctr (Reg.FP_EMPTY p))))
    ∧ (s.feltAlone = true → s.frozen (agGs i) = false → s.feltReady i 0 = some m → ((s.seq i).r m.ra).toNat < 8 →
      ∀ r, r = s.alloc (agGs i) ((s.seq i).r m.ra).toNat →
      ∃ t, exec (.alloc (.xop i)) s = .next t ∧ (m.rd ≠ 0 → (t.seq i).r m.rd = BitVec.ofNat 64 r.1) ∧ (t.seq i).err = false ∧ t.pools = r.2.pools
        ∧ t.regs = r.2.regs)
    ∧ (s.feltAlone = true → s.frozen a = false → s.badHandle h = false →
      (s.ownerOf h = some a.val → ∃ t, exec (.free (.agent a h x)) s = .next t ∧ t.ownerOf h = none
        ∧ (∀ k, handlePool k ≠ handlePool h ∨ handleIndex k ≠ handleIndex h → t.ownerOf k = s.ownerOf k)
        ∧ t.reg (Reg.FP_FREE (handlePool h)) = BitVec.ofNat 32 (s.regF (Reg.FP_FREE (handlePool h)) 0 22 + 1)
        ∧ Counted s t (Reg.FP_FREES (handlePool h)) 1 ∧ RegsBut s t (Reg.FP_FREE (handlePool h) :: ctr (Reg.FP_FREES (handlePool h))))
      ∧ (s.ownerOf h = some a.val → ∃ t, exec (.give (.agent a h dst)) s = .next t ∧ t.ownerOf h = some (if agentReserved dst = true then 0xB8 else dst)
        ∧ (∀ k, handlePool k ≠ handlePool h ∨ handleIndex k ≠ handleIndex h → t.ownerOf k = s.ownerOf k) ∧ t.regs = s.regs))
    ∧ (∀ h', s.feltAlone = true → s.frozen (agGs i) = false → h' = ((s.seq i).r m.ra).toNat % 2 ^ 32 → s.badHandle h' = false → s.ownerOf h' = some (agGs i) →
      (s.feltReady i 1 = some m → exec (.free (.xop i)) s = .next ((s.release h').xopDone i m false))
      ∧ (s.feltReady i 2 = some m → ∃ t, exec (.give (.xop i)) s = .next t ∧ (t.seq i).err = false ∧ t.regs = s.regs
        ∧ t.ownerOf h' = some (if agentReserved (((s.seq i).r m.rb).toNat % 256) = true then 0xB8 else ((s.seq i).r m.rb).toNat % 256)))
    ∧ (∀ b : FeltBy, s.pending.any isFelt = true →
      exec (.alloc b) s = .next { s with mem := { s.mem with felts := s.mem.felts ++ [.alloc b] } }
      ∧ exec (.free b) s = .next { s with mem := { s.mem with felts := s.mem.felts ++ [.free b] } }
      ∧ exec (.give b) s = .next { s with mem := { s.mem with felts := s.mem.felts ++ [.give b] } })
    ∧ (∀ b c : FeltBy, s.pending.any isFelt = false → feltAgent b < 256 → s.mem.felts = [.alloc c] →
      exec (.free b) s = .next ((({ s with mem := { s.mem with felts := [] } }).serveFelt (.free b)).serveFelt (.alloc c))
      ∧ exec (.give b) s = .next ((({ s with mem := { s.mem with felts := [] } }).serveFelt (.give b)).serveFelt (.alloc c)))
    ∧ (s.feltAlone = true → s.frozen a = true → exec (.alloc (.agent a p x)) s = .next s ∧ exec (.free (.agent a h x)) s = .next s
      ∧ exec (.give (.agent a h dst)) s = .next s)

/-- R369. A FREE or GIVE of a free buffer, whoever sends it: the buffers stay as they are, FP_DOUBLE_FREE of the pool counts, the last-event record is written and
the felt double-free source, F155, is raised. One alone in its instant is performed at once, and others in the order of R367; a frozen agent sends none (R445). -/
def Obligations.DoubleFreeIsIgnoredAndRaised : Prop :=
  ∀ (s : State) (a : Fin 256) (i : Fin 8) (m : MicroWord) (h dst x : Nat) (give : Bool) (b : FeltBy) (c : Instr) (q : FeltReq),
    s.badHandle h = false → s.ownerOf h = none → h < 2 ^ 32 → (give = false ∧ c = .free b ∧ q = .free b) ∨ (give = true ∧ c = .give b ∧ q = .give b) →
    s.frozen (feltAgent b) = false →
    (s.feltAlone = true → exec c s = .next (s.serveFelt q))
    ∧ (b = .agent a h (if give = true then dst else x) →
      ∃ u, s.serveFelt q = u.raiseFault { src := 155, agent := a.val, d0 := h, d1 := (u.reg Reg.FP_LAST_INFO).toNat }
        ∧ u.pools = s.pools ∧ Counted s u (Reg.FP_DOUBLE_FREE (handlePool h)) 1 ∧ u.reg Reg.FP_LAST_HANDLE = BitVec.ofNat 32 h
        ∧ u.reg Reg.FP_LAST_INFO = BitVec.ofNat 32 (1 + a.val * 2 ^ 8 + (if give = true then 2 ^ 24 else 0))
        ∧ RegsBut s u (Reg.FP_LAST_HANDLE :: Reg.FP_LAST_INFO :: ctr (Reg.FP_DOUBLE_FREE (handlePool h))))
    ∧ (b = .xop i → s.feltReady i (if give = true then 2 else 1) = some m → ((s.seq i).r m.ra).toNat % 2 ^ 32 = h →
      ∃ u, s.serveFelt q = u.raiseFault { src := 155, agent := agGs i, d0 := h, d1 := (u.reg Reg.FP_LAST_INFO).toNat }
        ∧ u.pools = s.pools ∧ (u.seq i).err = true ∧ Counted s u (Reg.FP_DOUBLE_FREE (handlePool h)) 1 ∧ u.reg Reg.FP_LAST_HANDLE = BitVec.ofNat 32 h
        ∧ u.reg Reg.FP_LAST_INFO = BitVec.ofNat 32 (1 + agGs i * 2 ^ 8 + (if give = true then 2 ^ 24 else 0))
        ∧ RegsBut s u (Reg.FP_LAST_HANDLE :: Reg.FP_LAST_INFO :: ctr (Reg.FP_DOUBLE_FREE (handlePool h))))

/-! ## DMA -/

/-- DMA_CTRL and the request lines (R300, R377, R379, R380, R383, R384): ARM loads an idle channel and waits in a busy one; ABORT stops the channel and discards its
shadow set and program; CLEAR leaves the error state; PROG_START starts the program of an idle channel and is ignored elsewhere; after
t = 0 of a power-fail sequence a channel stays stopped. -/
def Obligations.DmaControlActs : Prop :=
  ∀ (n : Fin 64) (seq : Fin 8) (s : State),
    (s.frozen (agDma n) = false → (s.dmaCh n).stopped = false →
      (s.power.failing = false → (s.dmaCh n).active = false → ∃ t, exec (.dmaArm n seq) s = .next t ∧ (t.dmaCh n).active = true ∧ (t.dmaCh n).moved = 0
        ∧ (t.dmaCh n).shadow = false ∧ (t.dmaCh n).armedBy = seq.val
        ∧ ∀ k, k < 16 → t.reg (Reg.DMA_ACT_SRC_LO n + 4 * k) = s.reg (Reg.DMA_SRC_LO n + 4 * k))
      ∧ (s.power.failing = false → (s.dmaCh n).active = true → ∃ t, exec (.dmaArm n seq) s = .next t ∧ (t.dmaCh n).active = true ∧ (t.dmaCh n).shadow = true
        ∧ t.regBit (Reg.DMA_STATUS n) 3 = true ∧ ∀ k, k < 16 → t.reg (Reg.DMA_ACT_SRC_LO n + 4 * k) = s.reg (Reg.DMA_ACT_SRC_LO n + 4 * k))
      ∧ (∃ t, exec (.dmaAbort n) s = .next t ∧ (t.dmaCh n).active = false ∧ (t.dmaCh n).shadow = false ∧ (t.dmaCh n).prog = none
        ∧ t.regBit (Reg.DMA_STATUS n) 17 = true ∧ t.regF (Reg.DMA_STATUS n) 0 3 = 0 ∧ RegsBut s t [Reg.DMA_STATUS n])
      ∧ exec (.dmaClear n) s = .next s
      ∧ (s.power.failing = false → (s.dmaCh n).active = false → (s.dmaCh n).prog = none → ∃ t q, exec (.dmaProgStart n) s = .next t ∧ (t.dmaCh n).prog = some q
        ∧ q.pc = (s.reg (Reg.DMA_PROG_LO n)).toNat / 8 * 8 + s.regF (Reg.DMA_PROG_HI n) 0 8 * 2 ^ 32 ∧ q.fetched.length = 5)
      ∧ ((s.dmaCh n).active = true ∨ (s.dmaCh n).prog.isSome = true → exec (.dmaProgStart n) s = .next s))
    ∧ (s.frozen (agDma n) = false → (s.dmaCh n).stopped = true → exec (.dmaAbort n) s = .next s ∧ exec (.dmaProgStart n) s = .next s
      ∧ ∃ t, exec (.dmaClear n) s = .next t ∧ (t.dmaCh n).stopped = false ∧ (t.dmaCh n).active = false ∧ (t.dmaCh n).shadow = false
        ∧ (t.dmaCh n).prog = none ∧ t.regF (Reg.DMA_STATUS n) 8 3 = 0 ∧ t.regF (Reg.DMA_STATUS n) 0 3 = 0 ∧ RegsBut s t [Reg.DMA_STATUS n])
    ∧ (s.power.failing = true → exec (.dmaArm n seq) s = .next s ∧ exec (.dmaProgStart n) s = .next s)
    ∧ (∃ t, exec (.dmaGoSet n) s = .next t ∧ t.regBit (Reg.DMA_GO n) 0 = true ∧ RegsBut s t [Reg.DMA_GO n])
    ∧ (∀ v, ∃ t, exec (.dmaSwreqWrite v) s = .next t ∧ (∀ j, j < 8 → t.regBit Reg.DMA_SWREQ j = v.getLsbD j) ∧ RegsBut s t [Reg.DMA_SWREQ])

/-- A burst (R373, R374, R377, R382): a paced channel waits for its line; a byte address that does not decode stops the channel with ERR_KIND 1 and moves
nothing; within packet memory a burst of consecutive bytes moves them and no other byte of memory changes. -/
def Obligations.DmaBurstsMoveBytes : Prop :=
  ∀ (n : Fin 64) (line : Bool) (errs : List (Nat × List SymErr)) (s : State) (t : Xfer) (len : Nat),
    (s.dmaCh n).active = true → (s.dmaCh n).stopped = false → s.frozen (agDma n) = false → t = (s.xferAt (Reg.DMA_ACT_SRC_LO n)).run →
    len = t.burst (s.dmaCh n).moved →
    (s.regBit (Reg.DMA_ACT_CNT_Z n) 17 = true → s.lineUp (s.regF (Reg.DMA_ACT_CNT_Z n) 18 7) line = false → exec (.dmaBurst n line errs) s = .next s)
    ∧ ((s.regBit (Reg.DMA_ACT_CNT_Z n) 17 = false ∨ s.lineUp (s.regF (Reg.DMA_ACT_CNT_Z n) 18 7) line = true) →
      exec (.dmaBurst n line errs) s = .next (s.dmaBurst n errs)
      ∧ ((∃ k, k < len ∧ (s.addrOk false (t.at ((s.dmaCh n).moved + k)).1 = false ∨ s.addrOk true (t.at ((s.dmaCh n).moved + k)).2 = false)) →
        ∃ x, s.dmaBurst n errs = s.dmaError n 1 (some x) ∧ ∃ k, k < len ∧ (x = (t.at ((s.dmaCh n).moved + k)).1 ∨ x = (t.at ((s.dmaCh n).moved + k)).2))
      ∧ (∀ a b, (∀ k, k < len → t.at ((s.dmaCh n).moved + k) = (a + k, b + k) ∧ isPm (a + k) = true ∧ isPm (b + k) = true
          ∧ tget (fun _ => false) s.mem.badBytes (a + k) = false) →
        ∃ u, exec (.dmaBurst n line errs) s = .next u ∧ (∀ x, u.byteAt x = if b ≤ x ∧ x < b + len then s.byteAt (a + (x - b)) else s.byteAt x)
          ∧ Counted s u (Reg.DMA_BYTES n) len ∧ Counted s u (Reg.DMA_BURSTS n) 1))

/-- R381. When the last write of a transfer is accepted the transfer completes: DONE is set whatever IRQ_EN says, and with IRQ_EN 1 the channel's event source
is raised; an event source that is off discards it (R409). -/
def Obligations.TransferCompletionRaisesTheEvent : Prop :=
  ∀ (n : Fin 64) (errs : List (Nat × List SymErr)) (s u : State) (t : Xfer) (bytes : List (Nat × Option Byte)) (srcs dsts : List (Nat × Nat)),
    t = (s.xferAt (Reg.DMA_ACT_SRC_LO n)).run →
    srcs = (List.range (t.burst (s.dmaCh n).moved)).map (fun k => (k, (t.at ((s.dmaCh n).moved + k)).1)) →
    dsts = (List.range (t.burst (s.dmaCh n).moved)).map (fun k => (k, (t.at ((s.dmaCh n).moved + k)).2)) →
    (∀ q, q ∈ srcs → s.addrOk false q.2 = true) → (∀ q, q ∈ dsts → s.addrOk true q.2 = true) →
    t.x * t.y * t.z ≤ (s.dmaCh n).moved + t.burst (s.dmaCh n).moved →
    State.burstRead errs n (groupAcc t.single srcs) s = (bytes, none, u) →
    ∃ w, s.dmaBurst n errs = w.dmaComplete n ∧ (w.dmaComplete n).regBit (Reg.DMA_STATUS n) 16 = true
      ∧ Counted w (w.dmaComplete n) (Reg.DMA_XFERS n) 1
      ∧ (w.regBit (Reg.DMA_ACT_CNT_Z n) 16 = true → w.evEn n = true → ∃ e, e ∈ (w.dmaComplete n).ctl.events ∧ e.ev = n.val)
      ∧ (w.regBit (Reg.DMA_ACT_CNT_Z n) 16 = false → (w.dmaComplete n).ctl.events = w.ctl.events)

/-- Program mode (R384, R382): MOVE waits for the shadow set, then reads and arms its descriptor; LOOP counts down and jumps; WAIT, with its timeout, SIGNAL, END and
NOP; a bad instruction or a failed fetch stops the channel once the transfers armed before it have moved, and so does the timeout of a WAIT for a line or for
DMA_GO; that of a WAIT for idle stops it as it stands (DEDUCED, log entry 54). -/
def Obligations.DmaProgramsRunTheirInstructions : Prop :=
  ∀ (n : Fin 64) (line : Bool) (s : State) (p : DmaProg) (w : Nat),
    (s.dmaInstr n 1 = .run p w →
      ((s.dmaCh n).shadow = true → ∃ t q, exec (.move n) s = .next t ∧ (t.dmaCh n).prog = some q ∧ q.pc = p.pc ∧ q.waitFrom = some (p.waitFrom.getD s.now)
        ∧ t.mem = s.mem)
      ∧ ((s.dmaCh n).shadow = false → s.addrOk false (w % 2 ^ 40) = false → exec (.move n) s = .next (s.dmaError n 1 (some (w % 2 ^ 40))))
      ∧ (∀ d u, (s.dmaCh n).shadow = false → s.addrOk false (w % 2 ^ 40) = true → s.busRead n (w % 2 ^ 40) 64 [] = (some d, u) →
        ∀ v, v = (u.setRegs (Reg.DMA_SRC_LO n) (descWords d).1).setRegBit (Reg.DMA_STATUS n) 6 (descWords d).2 →
          exec (.move n) s = .next ((v.dmaArm n (v.dmaCh n).armedBy).dmaGoTo n p.next)))
    ∧ (s.dmaInstr n 2 = .run p w → ∀ l c, l = w / 2 ^ 56 % 2 → c = (if tget (fun _ => 0) p.loops l = 0 then w / 2 ^ 32 % 2 ^ 16 else tget (fun _ => 0) p.loops l - 1) →
      ∃ t q, exec (.loop n) s = .next t ∧ (t.dmaCh n).prog = some q ∧ tget (fun _ => 0) q.loops l = c
        ∧ (0 < c → q.pc = wrap40 ((p.pc : Int) + 8 * signedOf 32 w)) ∧ (c = 0 → q.pc = wrap40 (p.pc + 8)))
    ∧ (s.dmaInstr n 3 = .run p w →
      (s.waitHolds n w line = true → w / 2 ^ 32 % 16 = 2 → exec (.wait n line) s = .next ((s.setRegBit (Reg.DMA_GO n) 0 false).dmaGoTo n p.next))
      ∧ (s.waitHolds n w line = true → w / 2 ^ 32 % 16 ≠ 2 → exec (.wait n line) s = .next (s.dmaGoTo n p.next))
      ∧ (s.waitHolds n w line = false → ∃ t q, exec (.wait n line) s = .next t ∧ (t.dmaCh n).prog = some q ∧ q.pc = p.pc
        ∧ q.waitFrom = some (p.waitFrom.getD s.now) ∧ t.mem = s.mem)
      ∧ (∀ t0, p.waitFrom = some t0 → t0 + usT (100 * (w / 2 ^ 16 % 2 ^ 16)) ≤ s.now → s.waitHolds n w false = false →
        (w / 2 ^ 32 % 16 = 0 ∨ s.dmaIdle n = true → exec (.waitTimeout n) s = .next (s.dmaError n 4 none))
        ∧ (w / 2 ^ 32 % 16 ≠ 0 → s.dmaIdle n = false → ∃ t q, exec (.waitTimeout n) s = .next t ∧ (t.dmaCh n).prog = some q
          ∧ q.fetched.head? = some (.err 4) ∧ t.mem = s.mem)))
    ∧ (s.dmaInstr n 4 = .run p w →
      (w / 2 ^ 16 % 2 = 1 → s.dmaIdle n = false → ∃ t q, exec (.signal n) s = .next t ∧ (t.dmaCh n).prog = some q ∧ q.pc = p.pc ∧ t.mem = s.mem)
      ∧ (w / 2 ^ 16 % 2 = 0 ∨ s.dmaIdle n = true →
        exec (.signal n) s = .next (((s.setReg (Reg.DMA_SIGNAL n) (BitVec.ofNat 32 (w % 2 ^ 16))).raiseEv n).dmaGoTo n p.next)))
    ∧ (s.dmaInstr n 5 = .run p w →
      (s.dmaIdle n = true → ∃ t, exec (.end_ n) s = .next t ∧ (t.dmaCh n).prog = none ∧ t.regBit (Reg.DMA_STATUS n) 16 = true
        ∧ (s.evEn n = true → ∃ e, e ∈ t.ctl.events ∧ e.ev = n.val) ∧ RegsBut s t (Reg.DMA_STATUS n :: evRegs))
      ∧ (s.dmaIdle n = false → ∃ t q, exec (.end_ n) s = .next t ∧ (t.dmaCh n).prog = some q ∧ q.pc = p.pc ∧ t.mem = s.mem))
    ∧ (s.dmaInstr n 6 = .run p w → ∃ t q, exec (.nop n) s = .next t ∧ (t.dmaCh n).prog = some q ∧ q.pc = wrap40 (p.pc + 8) ∧ q.waitFrom = none)
    ∧ (∀ (c : Instr) (op k : Nat), (c, op) ∈ ([(.move n, 1), (.loop n, 2), (.wait n line, 3), (.signal n, 4), (.end_ n, 5), (.nop n, 6)] : List (Instr × Nat)) →
      s.dmaInstr n op = .err k →
        (s.dmaIdle n = true → exec c s = .next (s.dmaError n k (if k = 1 ∨ k = 2 then (s.dmaCh n).prog.map (·.pc) else none)))
        ∧ (s.dmaIdle n = false → ∃ t q, exec c s = .next t ∧ (t.dmaCh n).prog = some q ∧ q.fetched.head? = some (.err k) ∧ t.mem = s.mem))

/-- A DMA error (R382) stops the channel, sets ERR and ERR_KIND, records the address where there is one, counts, and raises F157 with the channel as its agent. -/
def Obligations.DmaErrorsStopTheChannel : Prop :=
  ∀ (s : State) (n : Fin 64) (kind : Nat) (addr : Option Nat), kind < 8 →
    ∃ u, s.dmaError n kind addr = u.raiseFault { src := 157, agent := agDma n, d0 := n.val, d1 := kind }
      ∧ (u.dmaCh n).stopped = true ∧ (u.dmaCh n).active = false ∧ (u.dmaCh n).shadow = (s.dmaCh n).shadow
      ∧ u.regF (Reg.DMA_STATUS n) 8 3 = kind ∧ u.regBit (Reg.DMA_STATUS n) 18 = true ∧ Counted s u (Reg.DMA_ERRORS n) 1
      ∧ (∀ a, addr = some a → a < 2 ^ 40 → u.pair (Reg.DMA_ERR_ADDR n 0) = a) ∧ u.mem = s.mem
      ∧ RegsBut s u (Reg.DMA_STATUS n :: ctr (Reg.DMA_ERRORS n) ++ ctr (Reg.DMA_ERR_ADDR n 0) ++ ctr (Reg.DMA_PC n 0))

/-! ## Memory ports -/

/-- The symbol code (R339, R340): a beat without errors reads as its data, and any single wrong symbol, with any value and in any of the ten positions, is
corrected and counted as one. -/
def Obligations.SingleSymbolErrorsAreCorrected : Prop :=
  ∀ (d : Bytes) (pos : Nat) (x : BitVec 8), d.length = 8 →
    rsDecode (rsEncode d) = .good d 0 ∧ (pos < 10 → x ≠ 0#8 → rsDecode ((rsEncode d).modify pos (· ^^^ x)) = .good d 1)

/-- A read request (R337, R343, R347, R348) at an address with devices: a port that does not run takes none, nor does a frozen agent send one (R445); one with a further request of its instant to come waits
for it (agents are served in ascending ID; log entry 105); below 1 MiB it is refused with poison; a line that is filled, not marked and not queued answers
its bytes, also with one wrong symbol, which is corrected, counted and written back; a marked line answers poison. -/
def Obligations.MemoryReadsAnswerTheLine : Prop :=
  ∀ (agent a n p : Nat) (errs : List SymErr) (s : State), s.memPresent a = true → isDram a = true → p = s.memPortOf a →
    (s.memState p ≠ 2 ∨ s.frozen agent = true → exec (.memReadRequest agent a n errs) s = .next s)
    ∧ (s.memState p = 2 → s.frozen agent = false → s.pending.any (s.isReqTo p) = true → exec (.memReadRequest agent a n errs) s
        = .next (s.setMemPort p { s.memPort p with arrivals := (s.memPort p).arrivals ++ [.read agent a n errs] }))
    ∧ (s.memState p = 2 → s.frozen agent = false → s.pending.any (s.isReqTo p) = false → (s.memPort p).arrivals = [] →
      (a < 2 ^ 20 → exec (.memReadRequest agent a n errs) s = .next ((s.memLog p a agent { kind := 4, self := false }).respond agent a none))
      ∧ (2 ^ 20 ≤ a → exec (.memReadRequest agent a n errs) s = .next ((s.memRead agent a n errs).2.respond agent a (s.memRead agent a n errs).1))
      ∧ (2 ^ 20 ≤ a → tget (fun _ => false) s.mem.filled (a / 2 ^ 20) = true → s.queuedWrite p (a / 128) = false → a % 128 + n ≤ 128 →
        (s.lineMarked a = false → errs = [] → ∃ t, exec (.memReadRequest agent a n errs) s = .next t
          ∧ t.mem.resp = s.answers ++ [{ at_ := s.now, agent := agent, addr := a, data := some (s.getMem a n) }] ∧ t.mem.cells = s.mem.cells
          ∧ Counted s t (Reg.MEM_RD_LINES p) 1 ∧ RegsBut s t (ctr (Reg.MEM_RD_LINES p)))
        ∧ (∀ e, s.lineMarked a = false → errs = [e] → e.beat < 16 → e.pos < 10 → e.xor ≠ 0#8 →
          ∃ t, exec (.memReadRequest agent a n errs) s = .next t
            ∧ t.mem.resp = s.answers ++ [{ at_ := s.now, agent := agent, addr := a, data := some (s.getMem a n) }])
        ∧ (s.lineMarked a = true → errs = [] → ∃ t, exec (.memReadRequest agent a n errs) s = .next t
          ∧ t.mem.resp = s.answers ++ [{ at_ := s.now, agent := agent, addr := a, data := none }])))

/-- A write request (R337, R342 to R346): the enabled bytes of the line, and no others, take the new data; a part of a line reads the line first and counts
MEM_RMW; an error that arrives with the data marks the line; below 1 MiB nothing is written; with a further request of its instant to come it waits for that
(log entry 105), and a frozen agent's stalls (R445). -/
def Obligations.MemoryWritesStoreTheEnabledBytes : Prop :=
  ∀ (agent a p : Nat) (mask : BitVec 128) (data : Bytes) (poison : Bool) (errs : List SymErr) (s : State),
    s.memPresent a = true → isDram a = true → p = s.memPortOf a →
    (s.memState p ≠ 2 ∨ s.frozen agent = true → exec (.memWriteRequest agent a mask data poison errs) s = .next s)
    ∧ (s.memState p = 2 → s.frozen agent = false → s.pending.any (s.isReqTo p) = true → exec (.memWriteRequest agent a mask data poison errs) s
        = .next (s.setMemPort p { s.memPort p with arrivals := (s.memPort p).arrivals ++ [.write agent a mask data poison errs] }))
    ∧ (s.memState p = 2 → s.frozen agent = false → s.pending.any (s.isReqTo p) = false → (s.memPort p).arrivals = [] →
      (a < 2 ^ 20 → exec (.memWriteRequest agent a mask data poison errs) s
        = .next ((s.memLog p a agent { kind := 4, self := false }).respond agent a (some [])))
      ∧ (2 ^ 20 ≤ a → exec (.memWriteRequest agent a mask data poison errs) s
        = .next ((s.memWrite agent a mask data poison errs).2.respond agent a (if (s.memWrite agent a mask data poison errs).1 = true then some [] else none)))
      ∧ (2 ^ 20 ≤ a → tget (fun _ => false) s.mem.filled (a / 2 ^ 20) = true →
          (mask = BitVec.allOnes 128 ∨ (s.queuedWrite p (a / 128) = false ∧ errs = [] ∧ s.lineMarked a = false)) →
        ∃ t, exec (.memWriteRequest agent a mask data poison errs) s = .next t
          ∧ t.mem.resp = s.answers ++ [{ at_ := s.now, agent := agent, addr := a, data := some [] }]
          ∧ (∀ x, t.byteAt x = if x / 128 = a / 128 ∧ mask.getLsbD (x % 128) = true then data.getD (x % 128) 0#8 else s.byteAt x)
          ∧ t.lineMarked a = poison ∧ (∀ b, b / 128 ≠ a / 128 → t.lineMarked b = s.lineMarked b)
          ∧ (mask ≠ BitVec.allOnes 128 → Counted s t (Reg.MEM_RMW p) 1)
          ∧ RegsBut s t (Reg.MEM_STATUS p :: ctr (Reg.MEM_RMW p) ++ ctr (Reg.MEM_RD_LINES p) ++ ctr (Reg.MEM_WR_LINES p) ++ ctr (Reg.MEM_DRAINS p))))

/-- What a port does at its own times (R346, R347, R349, R352, R354, R356): it drains down to LOW when its oldest write is 20 µs old, reports a read without data,
reads the patrol's next line, probes its margins, refreshes, follows the devices' interval, and fills the next chunk with zero lines. -/
def Obligations.PortTimersAct : Prop :=
  ∀ (p : Fin 8) (s : State),
    (∀ e l, (s.memPort p).wq = e :: l → e.at_ + usT 20 ≤ s.now → ∃ t, exec (.writeAgeDrain p) s = .next t ∧ Counted s t (Reg.MEM_DRAINS p) 1
      ∧ (t.memPort p).wq = (e :: l).drop ((e :: l).length - s.cfgF (Reg.MEM_WQ_LOW p) 0 7) ∧ t.mem.cells = s.mem.cells
      ∧ RegsBut s t (Reg.MEM_STATUS p :: ctr (Reg.MEM_DRAINS p) ++ ctr (Reg.MEM_WR_LINES p)))
    ∧ (∀ agent a, s.memPresent a = true → 2 ^ 20 ≤ a → s.memState (s.memPortOf a) = 2 → s.queuedWrite (s.memPortOf a) (a / 128) = false →
      exec (.memReadTimeout agent a) s = .next ((((s.fillChunk (a / 2 ^ 20)).bump (Reg.MEM_TIMEOUTS (s.memPortOf a))).memLog (s.memPortOf a) a agent
        { kind := 2, self := false }).respond agent a none))
    ∧ (∀ errs l s1, s.memState p = 2 → s.nightOn = false → s.cfgF Reg.GLB_MEM_SCRUB 0 8 ≠ 0 → (s.memPort p).lastScrub + s.patrolGap ≤ s.now → s.patrolLine p = some l →
      s1 = (s.setMemPort p { s.memPort p with scrub := l + 1, lastScrub := s.now }).fillChunk (l * 128 / 2 ^ 20) →
      (s1.queuedWrite p l = true → exec (.patrolScrubRead p errs) s = .next s1)
      ∧ (s1.queuedWrite p l = false → exec (.patrolScrubRead p errs) s = .next (s1.readLine p (l * 128) 0 1 true true errs).2))
    ∧ (∀ ms, (s.memPort p).lastProbe + sT (s.cfgF Reg.GLB_MEM_PROBE 0 12) ≤ s.now →
      (s.memState p = 2 → s.nightOn = false → exec (.marginProbe p ms) s = .next (s.probe p ms))
      ∧ (s.memState p = 3 ∨ (s.memState p = 2 ∧ s.nightOn = true) → ∃ t, exec (.marginProbe p ms) s = .next t ∧ (t.memPort p).lastProbe = s.now ∧ t.regs = s.regs))
    ∧ (s.memState p = 2 → (s.memPort p).lastRefresh + (s.memPort p).refresh ≤ s.now → ∃ t, exec (.refresh p) s = .next t
      ∧ (t.memPort p).lastRefresh = s.now ∧ (t.memPort p).refresh = (s.memPort p).refresh ∧ t.regs = s.regs ∧ t.mem.cells = s.mem.cells)
    ∧ (∀ rs, s.memState p = 2 → (s.memPort p).lastReport + msT 16 ≤ s.now →
      ((∀ r, r ∈ rs → r.2 = false) → ∃ t, exec (.refreshRateRead p rs) s = .next t ∧ (t.memPort p).lastReport = s.now
        ∧ (t.memPort p).refresh = (minNat? (rs.map (·.1))).getD (s.memPort p).refresh ∧ t.cause (136 + p) = false ∧ RegsBut s t [Reg.FLT_CAUSE 4])
      ∧ ((∃ r, r ∈ rs ∧ r.2 = true) → ∃ u, exec (.refreshRateRead p rs) s = .next (u.raiseFault { src := 136 + p.val })
        ∧ u.regBit (Reg.MEM_STATUS p) 18 = true ∧ RegsBut s u [Reg.MEM_STATUS p]))
    ∧ (∀ c, s.Canon → (∀ k, k ∈ s.memPortList → s.memState k = 2) →
      ((List.range s.memChunks).map (· + 1)).find? (fun c => !tget (fun _ => false) s.mem.filled c) = some c →
      ∃ t, exec .backgroundFill s = .next t ∧ tget (fun _ => false) t.mem.filled c = true
        ∧ (∀ x, t.byteAt x = if x / 2 ^ 20 = c then 0#8 else s.byteAt x) ∧ RegsBut s t [Reg.GLB_MEM_FILL])

/-- Night retention (R357 to R359): ENTER with work running is refused and counted; without, the queues are issued and entry begins; when every channel is in
self-refresh STATE reads 2; EXIT begins the exit; at its end work resumes and what was not kept reads zero. -/
def Obligations.NightRetentionMovesThroughItsStates : Prop :=
  ∀ (s : State),
    (s.regF Reg.GLB_MEM_NIGHT 16 2 = 0 →
      ((s.codingIdle = false ∨ s.net.sess ≠ [] ∨ s.dmaInDram = true) → ∃ t, exec (.nightEnter false) s = .next t ∧ t.mem = s.mem
        ∧ (t.reg Reg.GLB_MEM_NIGHT_REFUSED).toNat = min 0xFFFFFFFF ((s.reg Reg.GLB_MEM_NIGHT_REFUSED).toNat + 1)
        ∧ RegsBut s t [Reg.GLB_MEM_NIGHT_REFUSED])
      ∧ (s.codingIdle = true → s.net.sess = [] → s.dmaInDram = false → ∃ t, exec (.nightEnter false) s = .next t
        ∧ t.regF Reg.GLB_MEM_NIGHT 16 2 = 1 ∧ (∀ p, p ∈ s.memPortList → (t.memPort p).wq = []) ∧ t.mem.keep = s.cfgF Reg.GLB_MEM_NIGHT 4 8
        ∧ t.mem.cells = s.mem.cells))
    ∧ exec (.nightEnter true) s = .next s.nightExit
    ∧ (s.regF Reg.GLB_MEM_NIGHT 16 2 = 1 ∨ s.regF Reg.GLB_MEM_NIGHT 16 2 = 2 → ∃ t, exec .nightExit s = .next t
      ∧ t.regF Reg.GLB_MEM_NIGHT 16 2 = 3 ∧ t.mem.nightAt = s.now ∧ RegsBut s t [Reg.GLB_MEM_NIGHT])
    ∧ (s.regF Reg.GLB_MEM_NIGHT 16 2 = 1 → ∃ t, exec .nightEntryDone s = .next t ∧ t.regF Reg.GLB_MEM_NIGHT 16 2 = 2
      ∧ (∀ p, p ∈ s.memPortList → s.memState p = 2 → t.memState p = 3) ∧ t.mem = s.mem)
    ∧ (s.Canon → s.regF Reg.GLB_MEM_NIGHT 16 2 = 3 → ∃ t, exec .nightExitDone s = .next t ∧ t.regF Reg.GLB_MEM_NIGHT 16 2 = 0
      ∧ (∀ p, p ∈ s.memPortList → s.memState p = 3 → t.memState p = 2)
      ∧ (∀ x, t.byteAt x = if isDram x = true ∧ s.chunkLost (x / 2 ^ 20) = true then 0#8 else s.byteAt x)
      ∧ (∀ c, s.chunkLost c = true → tget (fun _ => false) t.mem.filled c = false))

/-! ## Faults and safe state -/

/-- R383. A frozen channel issues no more bursts and its STATE reads 5; unfreezing it leaves STATE 4 with ERR_KIND 0, and until CLEAR it neither bursts nor
loads an armed set. -/
def Obligations.FrozenChannelStopsUntilClear : Prop :=
  ∀ (n : Fin 64) (s : State) (src : Nat) (line : Bool) (errs : List (Nat × List SymErr)) (seq : Fin 8),
    (s.frozen n = true → exec (.dmaBurst n line errs) s = .next s)
    ∧ ((s.freezeAgent n src).frozen n = true ∧ (s.freezeAgent n src).regF (Reg.DMA_STATUS n) 0 3 = 5)
    ∧ (s.frozen n = true → tget (fun _ => 0) s.faults.frozenBy n = src + 1 → s.latched src = false →
      ∃ t, exec (.fltUnfreeze (BitVec.ofNat 8 n) 0x0F0F#16) s = .next t ∧ t.frozen n = false ∧ t.regF (Reg.DMA_STATUS n) 0 3 = 4
        ∧ t.regF (Reg.DMA_STATUS n) 8 3 = 0 ∧ (t.dmaCh n).active = false ∧ exec (.dmaBurst n line errs) t = .next t
        ∧ ∃ u, exec (.dmaArm n seq) t = .next u ∧ (u.dmaCh n).active = false)

/-- FLT_GLOBAL.STATE outside safe state (R452): 1 while a source at severity 1 or 2 is latched or an agent is frozen, else 0; the heartbeat's STATE is the same
outside maintenance mode and a power-fail sequence. -/
def Obligations.FaultStateFollowsItsCauses : Prop :=
  ∀ (s : State), s.power.safe = false →
    (s.fltState = 1 ↔ (∃ a, a < 256 ∧ s.frozen a = true) ∨ ∃ n, n < 256 ∧ s.latched n = true ∧ (s.sev n = 1 ∨ s.sev n = 2))
    ∧ (s.fltState = 0 ∨ s.fltState = 1) ∧ s.syncState.regF Reg.FLT_GLOBAL 0 2 = s.fltState
    ∧ (s.power.failing = false → s.maintenance = false → fieldAt 23 1 s.heartbeatBody = s.fltState)

/-- A source whose reaction is a log entry or a report (R440, R442, R455): it latches and counts, its event is raised at severity 1, and nothing is frozen; so does a
source of any severity raised in safe state (R450). The severity is the announced one, or that of an announcement of the same instant (R442). -/
def Obligations.ReportedSourcesLatchAndFreezeNothing : Prop :=
  ∀ (s : State) (r : Raise), r.src < 174 → (s.sevSoon r.src ≤ 1 ∨ s.power.safe = true) →
    ∀ t, t = s.raiseFault r → t.latched r.src = true ∧ (∀ k, k < 8 → t.reg (Reg.FLT_FROZEN k) = s.reg (Reg.FLT_FROZEN k))
      ∧ (t.reg (Reg.FLT_COUNT r.src)).toNat = min 0xFFFFFFFF ((s.reg (Reg.FLT_COUNT r.src)).toNat + 1)
      ∧ t.power = s.power ∧ t.faults.logSeq = s.faults.logSeq + 1
      ∧ (1 ≤ s.sevSoon r.src → s.evEn (256 + r.src) = true → ∃ e, e ∈ t.ctl.events ∧ e.ev = 256 + r.src)

/-- The detections that raise a source (R443 to R445) and what ends a cause. Detections and forces of one instant wait for its last one and are then raised
together (R442). -/
def Obligations.DetectionsRaiseTheirSource : Prop :=
  ∀ (s : State),
    (∀ (a : Fin 256), s.raisesAlone = true → 0x40 ≤ a.val → a.val < 0xA0 → (s.unit a).job.isSome = true → (s.unit a).since + usT 20 ≤ s.now →
      s.frozen a = false → exec (.unitProgressTimeout a) s = .next (s.raiseFault { src := a - 0x40 }))
    ∧ (∀ (i : Fin 8), s.raisesAlone = true → ((s.seq i).state = .running ∨ (s.seq i).state = .fast) →
      exec (.xopTimeout i) s = .next (s.raiseFault { src := 104 + i.val }))
    ∧ (s.raisesAlone = true → exec .regulatorOutOfRange s = .next (s.raiseFault { src := 164 }))
    ∧ (s.pending.any isRaise = true → ∃ t, exec .regulatorOutOfRange s = .next t ∧ t.faults.arrived = s.faults.arrived ++ [{ src := 164 }] ∧ t.regs = s.regs)
    ∧ (∀ r : Raise, s.pending.any isRaise = false → s.faults.arrived = [r] → ∃ u : State, exec .regulatorOutOfRange s
        = .next (u.raiseFaults [r, { src := 164 }]) ∧ u.faults.arrived = [] ∧ u.regs = s.regs)
    ∧ (∃ t, exec .regulatorBackInRange s = .next t ∧ t.cause 164 = false ∧ RegsBut s t [Reg.FLT_CAUSE 5])
    ∧ (∀ (n : Fin 256) (rec_ : Option (Fin 1024 × Nat)), s.raisesAlone = true → checkSource n = true → n.val ≠ 159 →
      exec (.internalCheckFailure n rec_) s = .next (s.raiseFault { src := n.val }))
    ∧ (∀ (c : Fin 1024) (q : Nat), s.raisesAlone = true → exec (.internalCheckFailure 159 (some (c, q))) s = .next ((s.poisonRecord c q).raiseFault { src := 159 }))
    ∧ (∀ (a : Fin 256), s.frozen a = true → ∃ t, exec (.unitResetDone a) s = .next t ∧ (∀ n, n ∈ sourcesOf a → t.cause n = false)
      ∧ RegsBut s t ((List.range 8).map Reg.FLT_CAUSE))
    ∧ (∀ (x : Int) (k : Fin 16), s.regBit Reg.CAL_TEMP 12 = false → tempLimit < x →
      ∃ u, exec (.temperatureLimitCrossing x k) s = .next (u.raiseFault { src := 165 }) ∧ u.regBit Reg.CAL_TEMP 12 = true ∧ u.faults.thermPin = true
        ∧ u.regF Reg.CAL_TEMP 8 4 = k.val ∧ RegsBut s u [Reg.CAL_TEMP])
    ∧ (∀ (x : Int) (k : Fin 16), s.regBit Reg.CAL_TEMP 12 = true → x ≤ tempLimit - 3 →
      ∃ t, exec (.temperatureLimitCrossing x k) s = .next t ∧ t.regBit Reg.CAL_TEMP 12 = false ∧ t.faults.thermPin = false ∧ t.cause 165 = false
        ∧ RegsBut s t [Reg.CAL_TEMP, Reg.FLT_CAUSE 5])

/-- Writes to the collector (R447, R451, R456): a status bit clears only while its cause is absent and unless its source is raised in
the same instant (R442); FORCE raises once; UNFREEZE needs the key, a frozen agent and a
cleared source, or counts; the device leaves safe state when every condition of R451 holds. -/
def Obligations.CollectorWritesAct : Prop :=
  ∀ (s : State),
    (∀ (k : Fin 8) (bits : BitVec 32), ∃ t, exec (.fltStatusClear k bits) s = .next t
      ∧ (∀ j, j < 32 → t.regBit (Reg.FLT_STATUS k) j
          = (s.regBit (Reg.FLT_STATUS k) j && !(bits.getLsbD j && !s.regBit (Reg.FLT_CAUSE k) j && !s.rose.contains (32 * k.val + j))))
      ∧ RegsBut s t [Reg.FLT_STATUS k, Reg.FLT_GLOBAL, Reg.GLB_STATE])
    ∧ (∀ (n : Fin 256), s.raisesAlone = true → exec (.fltForce n) s = .next (s.raiseFault { src := n.val, forced := true }))
    ∧ (∀ (a : BitVec 8) (key : BitVec 16), (key ≠ 0x0F0F#16 ∨ s.frozen a.toNat = false ∨ (∃ src, tget (fun _ => 0) s.faults.frozenBy a.toNat = src + 1
          ∧ s.latched src = true)) →
      ∃ t, exec (.fltUnfreeze a key) s = .next t ∧ Counted s t Reg.FLT_UNFREEZE_REFUSED 1 ∧ RegsBut s t (ctr Reg.FLT_UNFREEZE_REFUSED))
    ∧ (∀ (a : BitVec 8) src, s.frozen a.toNat = true → tget (fun _ => 0) s.faults.frozenBy a.toNat = src + 1 → s.latched src = false →
      exec (.fltUnfreeze a 0x0F0F#16) s = .next (s.thaw a.toNat).syncState)
    ∧ (s.safeExitDue = true → ∃ t, exec .safeStateExit s = .next t ∧ t.power.safe = false ∧ t.faults.safeSrcs = [] ∧ t.regF Reg.ISA_STATUS 0 3 = 0
      ∧ t.regBit Reg.FLT_GLOBAL 16 = true)
    ∧ (s.safeExitDue = false → exec .safeStateExit s = .next s)

/-! ## Power fail, boot, reset -/

/-- The power-fail sequence (R297 to R300, R306, R307, R311, R312): what starts it, what it sheds at once, the manifest, the end of the commit, a collapse below
2.30 V, and the return of power. -/
def Obligations.PowerFailSequenceRuns : Prop :=
  ∀ (s : State),
    (∀ pf mv acked, s.failCause pf mv ≠ 0 → s.power.failing = false → s.boot.phase ≠ .off → ∃ t, exec (.powerFailDetect pf mv acked) s = .next t
      ∧ t = (s.senseVin pf mv).powerFail (s.failCause pf mv) acked ∧ t.power.failing = true ∧ t.net.sess = [] ∧ t.regF Reg.GLB_STATE 0 3 = 4)
    ∧ (∀ pf mv acked, s.failCause pf mv = 0 → ∃ t, exec (.powerFailDetect pf mv acked) s = .next t ∧ t.power.failing = s.power.failing
      ∧ t.power.vin = mv ∧ t.power.pfail = pf ∧ t.regs = s.regs)
    ∧ (s.power.phase = .signing → s.seals.se0 = some .manifest ∨ s.seals.se1 = some .manifest → ∃ t, exec .manifestSigned s = .next t
      ∧ t.power.phase = .writing ∧ t.power.made = s.power.made + 1
      ∧ t.power.sig = ecdsaSign (s.seals.bootKey.getD 0) (sha256 (s.power.body.take 128 ++ s.power.root)) ∧ t.regs = s.regs)
    ∧ (∀ bad, s.power.phase = .writing → s.power.resetAfter = false → ∃ t, exec (.journalCommitDone bad) s = .next t ∧ t.power.phase = .done
      ∧ t.regF Reg.ISA_STATUS 0 3 = (if s.power.failing = true then 2 else 3)
      ∧ t.power.journal = s.power.parts.foldl (fun j q => writeJournal j q.1 q.2) s.power.journal)
    ∧ (∀ mv done, 2300 ≤ mv → exec (.vinCollapse mv done) s = .next s)
    ∧ (∀ mv done, mv < 2300 → ∃ t, exec (.vinCollapse mv done) s = .next t ∧ t.regs = [] ∧ t.net.sess = [] ∧ t.power.vin = mv ∧ t.boot.phase = .off
      ∧ (s.power.phase ≠ .writing → t.power.journal = s.power.journal)
      ∧ (s.power.phase = .writing → s.power.parts.length ≤ done →
        t.power.journal = s.power.parts.foldl (fun j q => writeJournal j q.1 q.2) s.power.journal))
    ∧ (∀ mv, ∃ t, exec (.powerReturn mv) s = .next t ∧ t.power.vin = mv ∧ t.power.pfail = false
      ∧ t.power.goodSince = (if s.vinThr + 100 < mv then some (s.power.goodSince.getD s.now) else none) ∧ t.regs = s.regs)
    ∧ (∀ e, s.powerGood = true → (s.power.failing = true → s.power.phase = .done →
        (s.boot.nporLow = false → exec (.powerReturnReset e) s = .next (s.fullReset.bootStart e))
        ∧ (s.boot.nporLow = true → exec (.powerReturnReset e) s = .next s.fullReset))
      ∧ (s.power.failing = false → s.boot.phase = .off → s.boot.nporLow = false → exec (.powerReturnReset e) s = .next (s.bootStart e)))

/-- Resets (R428, R510): NPOR_N low holds the device; safe state is committed first where there is something to commit; a sequence that runs, or that begins in the
same instant, is completed before the reset (its place in the queue is log entry 83); maintenance mode resets at once. A full reset keeps the journal, the
flash and the fuses, and nothing of the registers. -/
def Obligations.ResetsKeepWhatIsNotVolatile : Prop :=
  ∀ (s : State),
    (s.fullReset.regs = [] ∧ s.fullReset.power.journal = s.power.journal ∧ s.fullReset.boot.flash = s.boot.flash
      ∧ s.fullReset.boot.otp.keys = s.boot.otp.keys ∧ s.fullReset.boot.otp.revoked = s.boot.otp.revoked
      ∧ s.fullReset.boot.otp.rollback = s.boot.otp.rollback ∧ s.fullReset.pending = s.pending ∧ s.fullReset.boot.phase = .off)
    ∧ (∀ u, u = { s with boot := { s.boot with nporLow := true } } →
      (s.boot.phase = .off → exec .nporFall s = .next u)
      ∧ (s.boot.phase ≠ .off → s.power.failing = false → s.failsNow = false → s.power.safe = true → s.power.phase = .done →
        exec .nporFall s = .next u.fullReset)
      ∧ (s.boot.phase ≠ .off → s.power.failing = false → s.failsNow = false → s.power.safe = false → s.maintenance = true ∨ s.epoch = 0 →
        exec .nporFall s = .next u.fullReset)
      ∧ (s.boot.phase ≠ .off → s.power.failing = false → s.failsNow = false → s.power.safe = false → s.maintenance = false → s.epoch ≠ 0 →
        exec .nporFall s = .next u.commitForReset)
      ∧ (s.boot.phase ≠ .off → s.power.phase ≠ .done → s.power.failing = true ∨ s.power.safe = true ∨ s.failsNow = true → ∃ t, exec .nporFall s = .next t
        ∧ t.power.resetAfter = true ∧ t.power.resetSend = true ∧ t.boot.nporLow = true ∧ t.regs = s.regs))
    ∧ (∀ key, key ≠ 0x0B0B#16 → exec (.glbReset key) s = .next s)
    ∧ (s.power.failing = false → s.boot.phase ≠ .off →
      (s.maintenance = true → exec (.glbReset 0x0B0B#16) s = .next s.fullReset)
      ∧ (s.maintenance = false → s.power.safe = false → exec (.glbReset 0x0B0B#16) s = .next s.commitForReset)
      ∧ (s.maintenance = false → s.power.safe = true → s.power.phase = .done → exec (.glbReset 0x0B0B#16) s = .next s.fullReset))
    ∧ (∀ x, s.power.resetAt = some x → x ≤ s.now → s.maintenance = true → exec .maintenanceInstallReset s = .next s.fullReset)

/-- Boot (R312, R412 to R414, R426, R428): its start, which waits where the power is not good, its timeouts, the memory ports, and the installation of an image. -/
def Obligations.BootCommandsAct : Prop :=
  ∀ (s : State),
    (∀ e u, s.boot.phase = .off → s.power.failing = false → u = s.nporRelease →
      (u.failCause u.power.pfail e.mv = 0 → ∃ t, exec (.bootStart e) s = .next t ∧ t.boot.phase = .journal ∧ t.boot.straps = e.straps.val
        ∧ t.boot.nporLow = false ∧ t = u.bootStart e)
      ∧ (u.failCause u.power.pfail e.mv ≠ 0 → exec (.bootStart e) s = .next { u with power := { u.power with vin := e.mv, goodSince := none } }))
    ∧ (∀ (k : Fin 2), s.boot.phase = .slot k →
      (s.boot.tries < 2 → ∃ t, exec (.flashReadTimeout k) s = .next t ∧ t.boot.tries = s.boot.tries + 1 ∧ t.boot.phase = .slot k ∧ t.regs = s.regs)
      ∧ (2 ≤ s.boot.tries → exec (.flashReadTimeout k) s = .next (({ s with boot := { s.boot with tries := 0 } }).slotDone k { reason := 1 })))
    ∧ (s.boot.phase = .record → exec .journalReadTimeout s = .next (s.enterMaint 3))
    ∧ (s.boot.phase = .journal → exec .journalReadTimeout s
      = .next (((s.setReg Reg.GLB_BOOT_COUNT 1#32).setRegBit Reg.GLB_BOOT_STATUS 15 true).enterMaint 3))
    ∧ (∀ (p : Fin 8) ms, s.boot.phase = .memory → s.memState p = 1 →
      ∀ u, u = s.setMemPort p { s.memPort p with upAt := s.now, lastReport := s.now, lastScrub := s.now, lastRefresh := s.now } →
      exec (.memPortInitDone p true ms) s = .next ((u.probe p ms).setRegF (Reg.MEM_STATUS p) 0 3 2)
      ∧ exec (.memPortInitDone p false ms) s
        = .next ((((s.setRegF (Reg.MEM_STATUS p) 0 3 4).raiseFault { src := 112 + p.val }).setCause (112 + p.val) true).enterMaint 4))
    ∧ (∀ w l, s.boot.queue = w :: l → w.off % 4096 ≠ 0 → ∃ t, exec (.flashProgramDone true) s = .next t ∧ t.boot.queue = l
      ∧ t.boot.flash = programFlash s.boot.flash (w.slot * 2 ^ 24 + w.off) w.data ∧ t.regs = s.regs)
    ∧ (∀ w l, s.boot.queue = w :: l → ∃ t, exec (.flashProgramDone false) s = .next t ∧ t.boot.queue = l ∧ t.boot.flash = s.boot.flash
      ∧ t.boot.failed.contains w.slot = true)
    ∧ (∀ num x, s.ticket num = some x → x.kind = 6 → x.ready = false → s.boot.queue.any (fun q => q.slot == x.param 0 1) = false →
      ∀ u, u = { s with boot := { s.boot with tries := 0 } } →
      (s.boot.failed.contains (x.param 0 1) = true → exec (.imageInstallDone num) s = .next (u.installDone x (x.param 0 1) 3 []))
      ∧ (s.boot.failed.contains (x.param 0 1) = false → exec (.imageInstallDone num) s
        = .next (u.installDone x (x.param 0 1) (u.checkSlot (x.param 0 1)).reason (u.checkSlot (x.param 0 1)).stream)))

/-- Epochs (R433, R434): a sweep starts when the stored configuration differs from the announced one, with the next epoch pending; its announcement makes
that epoch and its digest current in one instant. -/
def Obligations.EpochsFollowTheStoredConfiguration : Prop :=
  ∀ (s : State),
    (s.sweeping = false → s.configChanged = true → s.power.failing = false → s.maintenance = false → s.boot.phase = .running →
      ∃ t, exec .sweepStart s = .next t ∧ t.pend = s.configTab ∧ t.eff = s.eff ∧ t.sweeping = true
        ∧ t.reg Reg.GLB_EPOCH_PEND = s.reg Reg.GLB_EPOCH + 1#32 ∧ RegsBut s t [Reg.GLB_CFG_STATUS, Reg.GLB_EPOCH_PEND])
    ∧ (s.sweeping = true ∨ s.configChanged = false → exec .sweepStart s = .next s)
    ∧ (s.sweeping = true → s.power.failing = false → ∃ t, exec .epochAnnounce s = .next t ∧ t = s.announceSweep ∧ t.eff = s.pend
      ∧ t.reg Reg.GLB_EPOCH = s.reg Reg.GLB_EPOCH_PEND ∧ t.sweeping = false)
    ∧ (s.sweeping = false → exec .epochAnnounce s = .next s)

/-! ## Calibration and self-test -/

/-- Calibration (R462 to R468): the references every 10 s, an agent's groups every MEAS_S, the current limit in steps of 5 mV, and the re-plan. -/
def Obligations.CalibrationStepsAct : Prop :=
  ∀ (s : State),
    (∀ r, (∀ x, s.cal.refAt = some x → x + sT 10 ≤ s.now) → exec (.refCalibration r) s = .next (s.refCal r))
    ∧ (∀ r : RefReading, 9000 ≤ r.precres → r.precres ≤ 11000 → r.oscOk = true → (∀ q, q ∈ r.temps → q.2 = true) →
      (∀ x, s.cal.refAt = some x → x + sT 10 ≤ s.now) → ∃ t, exec (.refCalibration r) s = .next t ∧ t.regF Reg.CAL_REF 0 16 = r.precres
        ∧ t.regBit Reg.CAL_REF 16 = true ∧ t.cause 166 = false ∧ t.cause 167 = false ∧ t.cal.refAt = some s.now)
    ∧ (∀ (a : Fin 256) ms, (groupsOf a).2 ≠ 0 → s.frozen a = false → s.inTest a = false →
      tget (fun _ => 0) s.cal.measAt a + sT (s.cfgF Reg.CAL_CFG 8 6) ≤ s.now → exec (.groupMeasurement a ms) s = .next (s.measure a ms))
    ∧ (s.cal.limitAt + usT 10 ≤ s.now → s.cal.lowered + 5 ≤ 30 → 720 + s.cal.lowered + 5 ≤ s.regF Reg.CAL_SETPOINT 0 10 →
      ∃ t, exec .currentLimitStep s = .next t ∧ t.cal.lowered = s.cal.lowered + 5
        ∧ t.regF Reg.CAL_SETPOINT 16 10 = s.regF Reg.CAL_SETPOINT 0 10 - (s.cal.lowered + 5) ∧ t.regF Reg.CAL_SETPOINT 0 10 = s.regF Reg.CAL_SETPOINT 0 10
        ∧ Counted s t Reg.CAL_VLIMIT 1 ∧ RegsBut s t (Reg.CAL_SETPOINT :: ctr Reg.CAL_VLIMIT))
    ∧ (s.cal.lowered ≠ 0 → s.cal.limitAt + usT 10 ≤ s.now → s.cal.lowerAt + msT 100 ≤ s.now →
      ∃ t, exec .currentRestoreStep s = .next t ∧ t.cal.lowered = s.cal.lowered - 5
        ∧ t.regF Reg.CAL_SETPOINT 0 10 = s.regF Reg.CAL_SETPOINT 0 10 ∧ RegsBut s t [Reg.CAL_SETPOINT])
    ∧ (∀ ps again, s.power.failing = false → s.replanDue = false → s.regBit Reg.CAL_STATUS 4 = true → ∃ t, exec (.replan ps again) s = .next t
      ∧ t = s.replan ps again ∧ t.regBit Reg.CAL_STATUS 4 = false ∧ t.regBit Reg.CAL_STATUS 8 = true)
    ∧ (s.power.failing = false → ∃ t, exec .calReplan s = .next t ∧ t.regBit Reg.CAL_STATUS 4 = true ∧ RegsBut s t [Reg.CAL_STATUS])

/-- SELF_TEST and CALIBRATE (R107, R470 to R472): a test that has not fitted for 60 s ends with RESULT 2; a finished one ends every ticket of its agent, and with another
verdict than 0 raises F173, and a coding unit sends its record; a calibration of a unit measures its groups and its ticket becomes READY. -/
def Obligations.TestsAndCalibrationsEnd : Prop :=
  (∀ (s : State) (num : Nat) (x : Ticket), s.ticket num = some x → s.mgmt.cancelled.contains num = false → x.ready = false →
    (x.kind = 1 → x.running = false → x.started + sT 60 ≤ s.now → ∃ t y, exec (.selfTestFitTimeout num) s = .next t ∧ t.ticket num = some y
      ∧ y.ready = true ∧ y.result = 2 ∧ y.data = [] ∧ t.regs = s.regs)
    ∧ (∀ dur ms r, x.kind = 2 → s.inTest (x.param 0 1) = false → x.param 0 1 ≠ 0xB8 →
      exec (.calibrateDone num dur ms r) s = .next ((s.measure (x.param 0 1) ms).readyTicket num 0
        ((s.measure (x.param 0 1) ms).testResult (x.param 0 1) 0 dur [])))
    ∧ (∀ dur ms r u, x.kind = 2 → s.inTest 0xB8 = false → x.param 0 1 = 0xB8 → u = s.refCal r →
      ∃ data, exec (.calibrateDone num dur ms r) s = .next (u.readyTicket num 0 data) ∧ data.length = 24))
  ∧ ∀ (s : State) (a : Fin 256) (v : Fin 4) (dur : Nat) (ms : List (List Int)), s.inTest a = true → s.drained a = true → s.testAbandoned a = false →
    (s.unit a).test ≠ some 0 →
    ∃ u w : State, w = (if v = 0 then (if 0xAC ≤ a.val ∧ a.val < 0xB0 then u.setCause (144 + (a.val - 0xAC)) false else u) else u.raiseFault { src := 173 })
      ∧ exec (.selfTestDone a v dur ms) s = .next (if 0x40 ≤ a.val ∧ a.val < 0xA0
          then (w.sendRecord a (w.seqFor 0 - 0xA0) 5 0 0xFFFFFFFF 0 0 (w.now - usT dur)).startSign.startTests else w.startSign.startTests)
      ∧ (∀ x, x ∈ u.mgmt.tickets → x.kind = 1 → x.running = true → x.ready = false → x.param 0 1 ≠ a.val)
      ∧ (0x40 ≤ a.val → a.val < 0xA0 → (u.unit a).test = none ∧ (u.unit a).failed = (v != 0))

/-! ## Admission, coding, sealing, egress -/

/-- Admission and the slots (R88, R91, R92, R100, R160, R213, R268): the evaluation runs once per millisecond; a capability is published at the end of a window and is 0 out
of service; a rendition opens by waiting for the evaluation, and leaves OPEN for CLOSING or FREE; OOS acts at once, and counts where the image locks it. -/
def Obligations.AdmissionAndSlotsMove : Prop :=
  ∀ (s : State),
    (s.power.failing = false → s.adm.lastEval.getD 0 + msT 1 ≤ s.now → ∃ t, exec .admissionEvaluation s = .next t ∧ t.adm.lastEval = some s.now)
    ∧ (s.now < s.adm.lastEval.getD 0 + msT 1 → exec .admissionEvaluation s = .next s)
    ∧ (∀ (k : Fin 96) f e r, r = (if k.val < 64 then Reg.DEC_CAP k else if k.val < 88 then Reg.ENC_CAP (k - 64) else Reg.CU_CAP (k - 88)) →
      ∃ t, exec (.capabilityPublish k f e) s = .next t ∧ RegsBut s t [r]
        ∧ (s.inService (0x40 + k) = false → t.reg r = 0#32)
        ∧ (s.inService (0x40 + k) = true → k.val < 64 → t.reg r = BitVec.ofNat 32 (s.published f 2 + s.published e 1 * 65536))
        ∧ (s.inService (0x40 + k) = true → 88 ≤ k.val → t.reg r = BitVec.ofNat 32 (s.published f 4)))
    ∧ (∀ (n : Fin 1024) (port : Fin 5),
      (s.rstate n = 0 → s.rtype n ≠ 1 → s.power.safe = false → ∃ t, exec (.rndOpen n port) s = .next t ∧ t.rstate n = 1
        ∧ t.adm.reqs = s.adm.reqs ++ [(s.now, .rnd n port)])
      ∧ (s.rstate n ≠ 0 → exec (.rndOpen n port) s = .next s)
      ∧ (s.rstate n = 2 → ∃ t, exec (.rndClose n) s = .next t ∧ t = s.rndLeaveOpen n ∧ (t.rstate n = 3 ∨ t.rstate n = 0))
      ∧ (s.rstate n ≠ 2 → exec (.rndClose n) s = .next s))
    ∧ (∀ (out : Bool) (d : Fin 64) (e : Fin 24) (u : Fin 8) (c : Instr) (agent : Nat),
      ((c = .decOos d out ∧ agent = agDc d) ∨ (c = .encOos e out ∧ agent = agEc e) ∨ (c = .cuOos u out ∧ agent = agCu u)) →
      (s.fieldMutable (oosReg agent) oosField = true → ∃ t, exec c s = .next t ∧ t.oos agent = out ∧ t = s.writeOos agent out)
      ∧ (s.fieldMutable (oosReg agent) oosField = false → s.regBit (oosReg agent) 0 ≠ out → ∃ t, exec c s = .next t
        ∧ (t.reg Reg.GLB_CFG_IMMUT).toNat = min 0xFFFFFFFF ((s.reg Reg.GLB_CFG_IMMUT).toNat + 1) ∧ RegsBut s t [Reg.GLB_CFG_IMMUT])
      ∧ (s.fieldMutable (oosReg agent) oosField = false → s.regBit (oosReg agent) 0 = out → exec c s = .next s))

/-- Decode (R19, R108 to R110, R137, R144, R404): a core takes the ready picture with the earliest deadline and its context's record; a record read that returns
poison drops the decode state and restarts decoding; a picture without buffers at its deadline is not decoded; a finished one frees the core and leaves a
completion record; an expired limit chains what waits. -/
def Obligations.DecodeTakesAndFinishesPictures : Prop :=
  ∀ (s : State),
    (∀ u n ns c r, s.codingOn = true → u = (s.contexts (fun st => st == 2 || st == 3)).foldl State.skipPics s → u.readyList = n :: ns →
      u.chooseUnit 0x40 64 (u.lastCore n) = some c → r = u.touchRecord c n →
      (∀ poison t, r.1 = false → (poison = false ∨ u.cached n = true) → r.2.dispatchCtx n c = some t → exec (.decodeDispatch poison) s = .next t
        ∧ (t.unit c).job = some (.decode n) ∧ t.regF (Reg.CTX_CORE n) 0 8 = c % 256)
      ∧ (r.1 = true → ∀ poison, exec (.decodeDispatch poison) s = .next ((r.2.recordPoison n c).skipPics n))
      ∧ (u.cached n = false → exec (.decodeDispatch true) s = .next ((r.2.recordPoison n c).skipPics n)))
    ∧ (s.codingOn = false → ∀ poison, exec (.decodeDispatch poison) s = .next s)
    ∧ (∀ (n : Fin 1024) a l, (s.ctx n).queue = a :: l → a.waited = true → (s.ctx n).busy = none → s.deadline n ≤ s.now →
      exec (.decodeAllocFailure n) s
        = .next ((((s.setCtx n { s.ctx n with queue := l, skip := some 7 }).absentPic n a 7).dropMarks n).skipPics n))
    ∧ (∀ (c : Fin 64) po n j, (s.unit (agDc c)).job = some (.decode n) → (s.ctx n).busy = some j → j.unit = agDc c → s.frozen (agDc c) = false →
      s.heldRec (agDc c) = none → ∃ t h, exec (.decodePictureDone c po) s = .next t ∧ (t.unit (agDc c)).job = none ∧ t.heldRec (agDc c) = some h
        ∧ h.rcd.kind = 0 ∧ h.rcd.slot = n ∧ h.rcd.leafSeq = j.au.seq ∧ h.rcd.unit = c.val ∧ h.raised = s.now)
    ∧ (∀ (n : Fin 1024), exec (.verificationLimitExpiry n) s = .next (s.expireLeaves n))

/-- Composition (R109, R110, R237, R250, R259, R262): a unit takes the ready picture whose SRC0 leaf arrived first and its rendition's record, finishes it or
rebuilds a surface, and leaves a completion record; a record read that returns poison closes the ream; a mosaic tile waits 100 ms and a mask MASK_WAIT_MS. -/
def Obligations.CompositionTakesAndFinishesPictures : Prop :=
  ∀ (s : State),
    (∀ n c qs u r, s.codingOn = true → s.readyRnds = (n, c) :: qs → s.chooseUnit 0x98 8 (s.rnd n).lastCu = some u → r = s.touchRecord u (rndSlot n) →
      (∀ poison t, r.1 = false → (poison = false ∨ s.cached (rndSlot n) = true) → r.2.startCompose n u c = some t →
        exec (.composeDispatch poison) s = .next t ∧ ((t.unit u).job = some (.compose n) ∨ (t.unit u).job = some (.flatten n)))
      ∧ (r.1 = true → ∀ poison, exec (.composeDispatch poison) s = .next (r.2.loseRecord n))
      ∧ (s.cached (rndSlot n) = false → exec (.composeDispatch true) s = .next (r.2.loseRecord n)))
    ∧ (s.codingOn = false → ∀ poison, exec (.composeDispatch poison) s = .next s)
    ∧ (∀ (u : Fin 8) po n c l, (s.unit (agCu u)).job = some (.compose n) → (s.rnd n).wait = c :: l → c.done = none → (s.rnd n).cmpUnit = some (agCu u) →
      s.frozen (agCu u) = false → s.heldRec (agCu u) = none → (po.surf = false ∨ (s.rnd n).surf = none) →
      ∃ t h, exec (.composePictureDone u po) s = .next t ∧ (t.unit (agCu u)).job = none ∧ t.heldRec (agCu u) = some h ∧ h.rcd.kind = 2
        ∧ h.rcd.slot = n ∧ h.rcd.unit = 88 + u.val)
    ∧ (∀ (u : Fin 8) n, (s.unit (agCu u)).job = some (.flatten n) → s.frozen (agCu u) = false → s.heldRec (agCu u) = none →
      ∃ t h, exec (.flattenDone u) s = .next t ∧ (t.unit (agCu u)).job = none ∧ t.heldRec (agCu u) = some h ∧ h.rcd.kind = 4 ∧ h.rcd.slot = n
        ∧ (t.rnd n).surf.isSome = true ∧ (t.rnd n).lastCu = some (agCu u))
    ∧ (∀ (n : Fin 1024), (∀ c, c ∈ (s.rnd n).wait → s.now < c.at_ + msT 100) → ∃ t, exec (.tileWaitExpiry n) s = .next t ∧ (t.rnd n).wait = (s.rnd n).wait)
    ∧ (∀ (n : Fin 1024) c, (s.rnd n).wait = [c] → c.at_ + msT 100 ≤ s.now → ∀ d, d = s.decideTiles n c true → ∀ v,
        v = s.setRnd n { s.rnd n with wait := [d.1] } → exec (.tileWaitExpiry n) s
          = .next ((s.rndSources n).foldl State.sweepBufs (if d.2.2 = 0 then v else v.bumpN (Reg.CMP_TILE_LATE n) d.2.2)))
    ∧ (∀ (n : Fin 1024) (due : Cand → Bool), s.rtype n = 2 →
      (∀ c, due c = (!(c.handle != 0) && !s.maskReady n c && decide (c.at_ + maskWaitT (s.candWords n c) ≤ s.now))) →
      ∃ t, exec (.maskWaitExpiry n) s = .next t ∧ (t.rnd n).wait = (s.rnd n).wait.map (fun c => if due c = true then { c with blank := true, blankAt := some s.now } else c)
        ∧ Counted s t (Reg.CMP_MASK_MISSING n) ((s.rnd n).wait.countP due) ∧ RegsBut s t (ctr (Reg.CMP_MASK_MISSING n)))

/-- Encode and stills (R109, R110, R190, R191, R208, R209): a core takes the composed picture that completed first and its rendition's record, a still only where
none is ready; a record read that returns poison closes the ream; a finished picture or still frees the core and leaves a completion record; 100 ms without
a buffer discard the picture and break its ream; 5 s without a picture end a STILL. -/
def Obligations.EncodeTakesAndFinishesPictures : Prop :=
  ∀ (s : State),
    (∀ v n c qs u r, s.codingOn = true → v = s.recomposeStale → v.encReady = (n, c) :: qs → v.chooseUnit 0x80 24 (v.rnd n).lastEc = some u →
      r = v.touchRecord u (rndSlot n) →
      (∀ poison t, r.1 = false → (poison = false ∨ v.cached (rndSlot n) = true) → r.2.startEncode n u c = some t →
        exec (.encodeDispatch poison) s = .next t ∧ (t.unit u).job = some (.encode n))
      ∧ (r.1 = true → ∀ poison, exec (.encodeDispatch poison) s = .next (r.2.loseRecord n))
      ∧ (v.cached (rndSlot n) = false → exec (.encodeDispatch true) s = .next (r.2.loseRecord n)))
    ∧ (∀ poison, s.codingOn = true → s.recomposeStale.encReady = [] → exec (.encodeDispatch poison) s = .next s.recomposeStale.startStill)
    ∧ (∀ poison, s.codingOn = false → exec (.encodeDispatch poison) s = .next s)
    ∧ (∀ (c : Fin 24) (po : EncPoison) n j, (s.unit (agEc c)).job = some (.encode n) → (s.rnd n).encUnit = some j → j.unit = agEc c → s.frozen (agEc c) = false →
      s.heldRec (agEc c) = none → s.refPoisoned n j po = none →
      ∃ t h, exec (.encodePictureDone c po) s = .next t ∧ (t.unit (agEc c)).job = none ∧ t.heldRec (agEc c) = some h ∧ h.rcd.kind = 1
        ∧ h.rcd.slot = n ∧ h.rcd.leafSeq = (s.rnd n).leafSeq ∧ h.rcd.unit = 64 + c.val)
    ∧ (∀ (n : Fin 1024) c l w, (s.rnd n).ready = c :: l → c.waited = some w → w + msT 100 ≤ s.now →
      ∀ v, v = (s.setRnd n { s.rnd n with ready := l }).dropComposed c.handle →
        exec (.encAllocTimeout n) s = .next ((v.breakRndReam n (max 4 c.closes)).endIfDrained n).settleSlots)
    ∧ (∀ (c : Fin 24) num x, (s.unit (agEc c)).job = some (.still num) → s.stills.find? (fun t => t.ticket == num) = some x → s.frozen (agEc c) = false →
      s.heldRec (agEc c) = none → ∃ t h, exec (.stillDone c) s = .next t ∧ (t.unit (agEc c)).job = none ∧ t.heldRec (agEc c) = some h ∧ h.rcd.kind = 3
        ∧ h.rcd.leafSeq = x.leafSeq ∧ (∀ y, y ∈ t.stills → y.ticket ≠ num))
    ∧ (∀ num x, s.ticket num = some x → x.kind = 5 → x.ready = false → x.running = false → x.started + sT 5 ≤ s.now → s.mgmt.cancelled.contains num = false →
      ∃ t y, exec (.stillTimeout num) s = .next t ∧ t.ticket num = some y ∧ y.ready = true ∧ y.result = 1 ∧ y.data = [] ∧ t.regs = s.regs)

/-- Seals, sheets and egress (R77, R285, R292, R310, R324 to R330, R486): a finished signature places its seal or ends its ATTEST; an open sheet closes 1 ms after
its first record; a port sends manifest segments first, in their turn among the ports, then its system queue, then the eligible sheet with the smallest tag;
a PTP frame's transmit time is taken when it starts. -/
def Obligations.SealsSheetsAndFramesLeave : Prop :=
  ∀ (s : State),
    (∀ (k : Fin 2) w, w = (if k.val = 0 then s.seals.se0 else s.seals.se1) →
      (∀ j, w = some (.seal j) → s.frozen (agSe k) = false → exec (.sealSigned k) s
        = .next (((s.setSe k none).placeSeal j (ecdsaSign (s.seals.bootKey.getD 0) (sha256 j.sealBytes))).startSign))
      ∧ (w = some .discarded → exec (.sealSigned k) s = .next ((s.setSe k none).startSign))
      ∧ (∀ num x, w = some (.attest num) → s.frozen (agSe k) = false → s.ticket num = some x → exec (.attestSigned k) s
        = .next (((s.setSe k none).readyTicket num 0 (x.data ++ ecdsaSign Config.identityKey (sha256 x.data))).startSign)))
    ∧ (∀ (slot : Fin 2048) r, (s.slot slot).ream = some r → r.buf ≠ [] → r.bufAt + msT 1 ≤ s.now → s.power.failing = false →
      ∃ t r', exec (.sheetTimer slot) s = .next t ∧ (t.slot slot).ream = some r' ∧ r'.buf = [] ∧ r'.sheetSeq = r.sheetSeq + 1 ∧ r'.leaves = r.leaves
        ∧ r'.h = r.h)
    ∧ (∀ (p : Fin 4), s.linkUp p = true → (s.port p).stopped = false →
      (s.segTurn p = false → (s.port p).segs ≠ [] → exec (.egressSelect p) s = .next s)
      ∧ (∀ f l, (s.port p).segs = f :: l → s.segTurn p = true → ∃ t, exec (.egressSelect p) s = .next t
        ∧ t.wire = s.wire ++ [(p.val, s.framed p f)] ∧ (t.port p).segs = l ∧ (t.port p).segSent = (s.port p).segSent + 1
        ∧ (t.port p).sysq = (s.port p).sysq ∧ Counted s t (Reg.PRT_TX_FRAMES p) 1 ∧ RegsBut s t (ctr (Reg.PRT_TX_FRAMES p)))
      ∧ ((s.port p).segs = [] → s.power.failing = false → ∀ u, u = (if s.power.safe = true then s else s.resolveHeads p) →
        (u.portPermits p = false → exec (.egressSelect p) s = .next u)
        ∧ (∀ f l, u.portPermits p = true → (u.port p).sysq = f :: l → ∃ t, exec (.egressSelect p) s = .next t
          ∧ t.wire = u.wire ++ [(p.val, u.framed p f)]
          ∧ (f.ptp = .none → (t.port p).sysq = l ∧ t.time = u.time)
          ∧ (∀ q, f.ptp = .req q → (t.port p).sysq = l ∧ t.time.req = some (q, u.taiNs))
          ∧ (∀ q who k, f.ptp = .resp q who k → (t.port p).sysq
            = l ++ [u.ptpFrame false true (u.ptpBytes p 10 q 0 k (ptpStamp u.taiNs ++ be 10 who))]) ∧ Counted u t (Reg.PRT_TX_FRAMES p) 1 ∧ Counted u t (Reg.EGQ_TX_FRAMES (256 * p)) 1)
        ∧ (∀ h, u.portPermits p = true → (u.port p).sysq = [] → s.power.safe = false → u.bestHead p = some h →
          exec (.egressSelect p) s = .next (u.startSheet p h))))
    ∧ (∀ (p : Fin 4), s.linkUp p = false ∨ (s.port p).stopped = true → exec (.egressSelect p) s = .next s)

end
end

