-- ==== Sys2Proof/Laws/Tab.lean ====
section
/-!
SUPPORT. The laws of sparse tables: reading after writing, and that writing keeps the canonical form.
-/
set_option Elab.async false

namespace Sys2Proof.Machine

section Drop
variable {α : Type}

theorem tget_dropWhile_self (d : Nat → α) (k : Nat) (t : Tab α) :
    tget d (t.dropWhile (fun e => e.1 ≤ k)) k = d k := by
  induction t with
  | nil => rfl
  | cons e t ih =>
    by_cases h : e.1 ≤ k
    · simp [List.dropWhile_cons, h, ih]
    · simp only [List.dropWhile_cons, h, decide_false, Bool.false_eq_true, if_false]
      have h1 : ¬ k = e.1 := by omega
      have h2 : k < e.1 := by omega
      simp [tget, h1, h2]

theorem tget_dropWhile_gt (d : Nat → α) (k k' : Nat) (hk : k < k') (t : Tab α) :
    tget d (t.dropWhile (fun e => e.1 ≤ k)) k' = tget d t k' := by
  induction t with
  | nil => rfl
  | cons e t ih =>
    by_cases h : e.1 ≤ k
    · have h1 : ¬ k' = e.1 := by omega
      have h2 : ¬ k' < e.1 := by omega
      simp [List.dropWhile_cons, h, ih, tget, h1, h2]
    · simp [List.dropWhile_cons, h]

theorem tget_dropWhile_lt (d : Nat → α) (k k' : Nat) (hk : k' < k) (t : Tab α) :
    tget d (t.dropWhile (fun e => e.1 ≤ k)) k' = d k' := by
  induction t with
  | nil => rfl
  | cons e t ih =>
    by_cases h : e.1 ≤ k
    · simp [List.dropWhile_cons, h, ih]
    · simp only [List.dropWhile_cons, h, decide_false, Bool.false_eq_true, if_false]
      have h1 : ¬ k' = e.1 := by omega
      have h2 : k' < e.1 := by omega
      simp [tget, h1, h2]

@[simp] theorem tget_nil (d : Nat → α) (k : Nat) : tget d ([] : Tab α) k = d k := rfl

end Drop

section Put
variable {α : Type} [DecidableEq α]

/-- Reading a key just written gives the value written. -/
@[simp] theorem tget_tput_same (d : Nat → α) (t : Tab α) (k : Nat) (v : α) : tget d (tput d t k v) k = v := by
  induction t with
  | nil => by_cases h : v = d k <;> simp [tput, tget, h]
  | cons e t ih =>
    obtain ⟨a, w⟩ := e
    by_cases h1 : k < a
    · have h3 : ¬ k = a := by omega
      by_cases h2 : v = d k <;> simp [tput, tget, h1, h2, h3]
    · by_cases h3 : k = a
      · by_cases h2 : v = d k
        · subst h3
          simp only [tput, h1, h2, if_false, if_true]
          rw [tget_dropWhile_self]
        · subst h3
          simp [tput, tget, h2]
      · simp [tput, tget, h1, h3, ih]

/-- Reading any other key is not affected by a write. -/
theorem tget_tput_other (d : Nat → α) (t : Tab α) (k k' : Nat) (v : α) (h : k' ≠ k) :
    tget d (tput d t k v) k' = tget d t k' := by
  induction t with
  | nil => by_cases h2 : v = d k <;> simp [tput, tget, h2, h]
  | cons e t ih =>
    obtain ⟨a, w⟩ := e
    by_cases h1 : k < a
    · by_cases h2 : v = d k
      · simp [tput, h1, h2]
      · by_cases h5 : k' < k
        · have h6 : ¬ k' = a := by omega
          have h7 : k' < a := by omega
          simp [tput, tget, h1, h2, h, h5, h6, h7]
        · simp [tput, tget, h1, h2, h, h5]
    · by_cases h3 : k = a
      · subst h3
        by_cases h2 : v = d k
        · simp only [tput, h1, h2, if_false, if_true]
          by_cases h5 : k' < k
          · rw [tget_dropWhile_lt d k k' h5]
            simp [tget, h, h5]
          · rw [tget_dropWhile_gt d k k' (by omega)]
            simp [tget, h, h5]
        · simp [tput, tget, h2, h]
      · simp [tput, tget, h1, h3, ih]

theorem twfFrom_mono (d : Nat → α) (lo lo' : Nat) (h : lo ≤ lo') (t : Tab α) (hw : twfFrom d lo' t = true) :
    twfFrom d lo t = true := by
  cases t with
  | nil => rfl
  | cons e t => simp_all [twfFrom]; omega

theorem twfFrom_dropWhile (d : Nat → α) (k : Nat) (t : Tab α) (lo : Nat) (hw : twfFrom d lo t = true) :
    twfFrom d lo (t.dropWhile (fun e => e.1 ≤ k)) = true := by
  induction t generalizing lo with
  | nil => rfl
  | cons e t ih =>
    by_cases h : e.1 ≤ k
    · simp only [List.dropWhile_cons, h, decide_true, if_true]
      apply ih
      simp only [twfFrom, Bool.and_eq_true, decide_eq_true_eq] at hw
      exact twfFrom_mono d _ _ (by omega) t hw.2
    · simpa [List.dropWhile_cons, h] using hw

/-- Writing keeps the canonical form. -/
theorem twfFrom_tput (d : Nat → α) (t : Tab α) (k : Nat) (v : α) (lo : Nat) (hlo : lo ≤ k) (hw : twfFrom d lo t = true) :
    twfFrom d lo (tput d t k v) = true := by
  induction t generalizing lo with
  | nil => by_cases h : v = d k <;> simp [tput, twfFrom, h, hlo]
  | cons e t ih =>
    obtain ⟨a, w⟩ := e
    simp only [twfFrom, Bool.and_eq_true, decide_eq_true_eq] at hw
    by_cases h1 : k < a
    · by_cases h2 : v = d k
      · simp [tput, h1, h2, twfFrom, hw]
      · simp [tput, h1, h2, twfFrom, hw, hlo] <;> omega
    · by_cases h3 : k = a
      · subst h3
        by_cases h2 : v = d k
        · simp only [tput, h1, h2, if_false, if_true]
          have := twfFrom_dropWhile d k t (k + 1) hw.2
          exact twfFrom_mono d _ _ (by omega) _ this
        · simp [tput, h2, twfFrom, hw, hlo]
      · simp only [tput, h1, h3, if_false, twfFrom, Bool.and_eq_true, decide_eq_true_eq]
        exact ⟨hw.1, ih (a + 1) (by omega) hw.2⟩

/-- Writing keeps the canonical form of a table. -/
theorem twf_tput (d : Nat → α) (t : Tab α) (k : Nat) (v : α) (hw : twf d t = true) : twf d (tput d t k v) = true :=
  twfFrom_tput d t k v 0 (by omega) hw

end Put

end Sys2Proof.Machine
end

