-- ==== Sys2Proof/Laws/State.lean ====
section
/-!
SUPPORT. The basic laws of the state: what each update leaves alone (true by rfl), reading a register after writing one, the fields of a word,
and what raising an event can do.
-/
set_option Elab.async false

namespace Sys2Proof.Machine

section Fields
variable (s : State)

@[simp] theorem State.setReg_pending (a : Nat) (v : Word) : (s.setReg a v).pending = s.pending := rfl
@[simp] theorem State.setReg_freeCtr (a : Nat) (v : Word) : (s.setReg a v).freeCtr = s.freeCtr := rfl
@[simp] theorem State.setReg_now (a : Nat) (v : Word) : (s.setReg a v).now = s.now := rfl
@[simp] theorem State.setReg_eff (a : Nat) (v : Word) : (s.setReg a v).eff = s.eff := rfl
@[simp] theorem State.setReg_pend (a : Nat) (v : Word) : (s.setReg a v).pend = s.pend := rfl
@[simp] theorem State.setReg_img (a : Nat) (v : Word) : (s.setReg a v).img = s.img := rfl
@[simp] theorem State.setReg_hold (a : Nat) (v : Word) : (s.setReg a v).hold = s.hold := rfl
@[simp] theorem State.setReg_wire (a : Nat) (v : Word) : (s.setReg a v).wire = s.wire := rfl
@[simp] theorem State.setReg_time (a : Nat) (v : Word) : (s.setReg a v).time = s.time := rfl
@[simp] theorem State.setReg_mgmt (a : Nat) (v : Word) : (s.setReg a v).mgmt = s.mgmt := rfl
@[simp] theorem State.setReg_net (a : Nat) (v : Word) : (s.setReg a v).net = s.net := rfl
@[simp] theorem State.setReg_ctl (a : Nat) (v : Word) : (s.setReg a v).ctl = s.ctl := rfl
@[simp] theorem State.setReg_seals (a : Nat) (v : Word) : (s.setReg a v).seals = s.seals := rfl
@[simp] theorem State.setReg_power (a : Nat) (v : Word) : (s.setReg a v).power = s.power := rfl
@[simp] theorem State.setReg_faults (a : Nat) (v : Word) : (s.setReg a v).faults = s.faults := rfl
@[simp] theorem State.setReg_units (a : Nat) (v : Word) : (s.setReg a v).units = s.units := rfl
@[simp] theorem State.setReg_ctxs (a : Nat) (v : Word) : (s.setReg a v).ctxs = s.ctxs := rfl
@[simp] theorem State.setReg_rnds (a : Nat) (v : Word) : (s.setReg a v).rnds = s.rnds := rfl
@[simp] theorem State.setReg_adm (a : Nat) (v : Word) : (s.setReg a v).adm = s.adm := rfl
@[simp] theorem State.setReg_stills (a : Nat) (v : Word) : (s.setReg a v).stills = s.stills := rfl
@[simp] theorem State.setReg_surfs (a : Nat) (v : Word) : (s.setReg a v).surfs = s.surfs := rfl
@[simp] theorem State.setReg_mem (a : Nat) (v : Word) : (s.setReg a v).mem = s.mem := rfl
@[simp] theorem State.setReg_pools (a : Nat) (v : Word) : (s.setReg a v).pools = s.pools := rfl
@[simp] theorem State.setReg_dma (a : Nat) (v : Word) : (s.setReg a v).dma = s.dma := rfl
@[simp] theorem State.setReg_cal (a : Nat) (v : Word) : (s.setReg a v).cal = s.cal := rfl
@[simp] theorem State.setReg_boot (a : Nat) (v : Word) : (s.setReg a v).boot = s.boot := rfl

@[simp] theorem State.setRegF_pending (a lo w x : Nat) : (s.setRegF a lo w x).pending = s.pending := rfl
@[simp] theorem State.setRegF_freeCtr (a lo w x : Nat) : (s.setRegF a lo w x).freeCtr = s.freeCtr := rfl
@[simp] theorem State.setRegF_now (a lo w x : Nat) : (s.setRegF a lo w x).now = s.now := rfl
@[simp] theorem State.setRegF_eff (a lo w x : Nat) : (s.setRegF a lo w x).eff = s.eff := rfl
@[simp] theorem State.setRegF_pend (a lo w x : Nat) : (s.setRegF a lo w x).pend = s.pend := rfl
@[simp] theorem State.setRegF_img (a lo w x : Nat) : (s.setRegF a lo w x).img = s.img := rfl
@[simp] theorem State.setRegF_hold (a lo w x : Nat) : (s.setRegF a lo w x).hold = s.hold := rfl
@[simp] theorem State.setRegF_wire (a lo w x : Nat) : (s.setRegF a lo w x).wire = s.wire := rfl
@[simp] theorem State.setRegF_time (a lo w x : Nat) : (s.setRegF a lo w x).time = s.time := rfl
@[simp] theorem State.setRegF_mgmt (a lo w x : Nat) : (s.setRegF a lo w x).mgmt = s.mgmt := rfl
@[simp] theorem State.setRegF_net (a lo w x : Nat) : (s.setRegF a lo w x).net = s.net := rfl
@[simp] theorem State.setRegF_ctl (a lo w x : Nat) : (s.setRegF a lo w x).ctl = s.ctl := rfl
@[simp] theorem State.setRegF_seals (a lo w x : Nat) : (s.setRegF a lo w x).seals = s.seals := rfl
@[simp] theorem State.setRegF_power (a lo w x : Nat) : (s.setRegF a lo w x).power = s.power := rfl
@[simp] theorem State.setRegF_faults (a lo w x : Nat) : (s.setRegF a lo w x).faults = s.faults := rfl
@[simp] theorem State.setRegF_units (a lo w x : Nat) : (s.setRegF a lo w x).units = s.units := rfl
@[simp] theorem State.setRegF_ctxs (a lo w x : Nat) : (s.setRegF a lo w x).ctxs = s.ctxs := rfl
@[simp] theorem State.setRegF_rnds (a lo w x : Nat) : (s.setRegF a lo w x).rnds = s.rnds := rfl
@[simp] theorem State.setRegF_adm (a lo w x : Nat) : (s.setRegF a lo w x).adm = s.adm := rfl
@[simp] theorem State.setRegF_stills (a lo w x : Nat) : (s.setRegF a lo w x).stills = s.stills := rfl
@[simp] theorem State.setRegF_surfs (a lo w x : Nat) : (s.setRegF a lo w x).surfs = s.surfs := rfl
@[simp] theorem State.setRegF_mem (a lo w x : Nat) : (s.setRegF a lo w x).mem = s.mem := rfl
@[simp] theorem State.setRegF_pools (a lo w x : Nat) : (s.setRegF a lo w x).pools = s.pools := rfl
@[simp] theorem State.setRegF_dma (a lo w x : Nat) : (s.setRegF a lo w x).dma = s.dma := rfl
@[simp] theorem State.setRegF_cal (a lo w x : Nat) : (s.setRegF a lo w x).cal = s.cal := rfl
@[simp] theorem State.setRegF_boot (a lo w x : Nat) : (s.setRegF a lo w x).boot = s.boot := rfl

@[simp] theorem State.setRegBit_pending (a i : Nat) (b : Bool) : (s.setRegBit a i b).pending = s.pending := rfl
@[simp] theorem State.setRegBit_freeCtr (a i : Nat) (b : Bool) : (s.setRegBit a i b).freeCtr = s.freeCtr := rfl
@[simp] theorem State.setRegBit_now (a i : Nat) (b : Bool) : (s.setRegBit a i b).now = s.now := rfl
@[simp] theorem State.setRegBit_eff (a i : Nat) (b : Bool) : (s.setRegBit a i b).eff = s.eff := rfl
@[simp] theorem State.setRegBit_pend (a i : Nat) (b : Bool) : (s.setRegBit a i b).pend = s.pend := rfl
@[simp] theorem State.setRegBit_img (a i : Nat) (b : Bool) : (s.setRegBit a i b).img = s.img := rfl
@[simp] theorem State.setRegBit_hold (a i : Nat) (b : Bool) : (s.setRegBit a i b).hold = s.hold := rfl
@[simp] theorem State.setRegBit_wire (a i : Nat) (b : Bool) : (s.setRegBit a i b).wire = s.wire := rfl
@[simp] theorem State.setRegBit_time (a i : Nat) (b : Bool) : (s.setRegBit a i b).time = s.time := rfl
@[simp] theorem State.setRegBit_mgmt (a i : Nat) (b : Bool) : (s.setRegBit a i b).mgmt = s.mgmt := rfl
@[simp] theorem State.setRegBit_net (a i : Nat) (b : Bool) : (s.setRegBit a i b).net = s.net := rfl
@[simp] theorem State.setRegBit_ctl (a i : Nat) (b : Bool) : (s.setRegBit a i b).ctl = s.ctl := rfl
@[simp] theorem State.setRegBit_seals (a i : Nat) (b : Bool) : (s.setRegBit a i b).seals = s.seals := rfl
@[simp] theorem State.setRegBit_power (a i : Nat) (b : Bool) : (s.setRegBit a i b).power = s.power := rfl
@[simp] theorem State.setRegBit_faults (a i : Nat) (b : Bool) : (s.setRegBit a i b).faults = s.faults := rfl
@[simp] theorem State.setRegBit_units (a i : Nat) (b : Bool) : (s.setRegBit a i b).units = s.units := rfl
@[simp] theorem State.setRegBit_ctxs (a i : Nat) (b : Bool) : (s.setRegBit a i b).ctxs = s.ctxs := rfl
@[simp] theorem State.setRegBit_rnds (a i : Nat) (b : Bool) : (s.setRegBit a i b).rnds = s.rnds := rfl
@[simp] theorem State.setRegBit_adm (a i : Nat) (b : Bool) : (s.setRegBit a i b).adm = s.adm := rfl
@[simp] theorem State.setRegBit_stills (a i : Nat) (b : Bool) : (s.setRegBit a i b).stills = s.stills := rfl
@[simp] theorem State.setRegBit_surfs (a i : Nat) (b : Bool) : (s.setRegBit a i b).surfs = s.surfs := rfl
@[simp] theorem State.setRegBit_mem (a i : Nat) (b : Bool) : (s.setRegBit a i b).mem = s.mem := rfl
@[simp] theorem State.setRegBit_pools (a i : Nat) (b : Bool) : (s.setRegBit a i b).pools = s.pools := rfl
@[simp] theorem State.setRegBit_dma (a i : Nat) (b : Bool) : (s.setRegBit a i b).dma = s.dma := rfl
@[simp] theorem State.setRegBit_cal (a i : Nat) (b : Bool) : (s.setRegBit a i b).cal = s.cal := rfl
@[simp] theorem State.setRegBit_boot (a i : Nat) (b : Bool) : (s.setRegBit a i b).boot = s.boot := rfl

@[simp] theorem State.bump32_pending (a n : Nat) : (s.bump32 a n).pending = s.pending := rfl
@[simp] theorem State.bump32_freeCtr (a n : Nat) : (s.bump32 a n).freeCtr = s.freeCtr := rfl
@[simp] theorem State.bump32_now (a n : Nat) : (s.bump32 a n).now = s.now := rfl
@[simp] theorem State.bump32_eff (a n : Nat) : (s.bump32 a n).eff = s.eff := rfl
@[simp] theorem State.bump32_pend (a n : Nat) : (s.bump32 a n).pend = s.pend := rfl
@[simp] theorem State.bump32_img (a n : Nat) : (s.bump32 a n).img = s.img := rfl
@[simp] theorem State.bump32_hold (a n : Nat) : (s.bump32 a n).hold = s.hold := rfl
@[simp] theorem State.bump32_wire (a n : Nat) : (s.bump32 a n).wire = s.wire := rfl
@[simp] theorem State.bump32_time (a n : Nat) : (s.bump32 a n).time = s.time := rfl
@[simp] theorem State.bump32_mgmt (a n : Nat) : (s.bump32 a n).mgmt = s.mgmt := rfl
@[simp] theorem State.bump32_net (a n : Nat) : (s.bump32 a n).net = s.net := rfl
@[simp] theorem State.bump32_ctl (a n : Nat) : (s.bump32 a n).ctl = s.ctl := rfl
@[simp] theorem State.bump32_seals (a n : Nat) : (s.bump32 a n).seals = s.seals := rfl
@[simp] theorem State.bump32_power (a n : Nat) : (s.bump32 a n).power = s.power := rfl
@[simp] theorem State.bump32_faults (a n : Nat) : (s.bump32 a n).faults = s.faults := rfl
@[simp] theorem State.bump32_units (a n : Nat) : (s.bump32 a n).units = s.units := rfl
@[simp] theorem State.bump32_ctxs (a n : Nat) : (s.bump32 a n).ctxs = s.ctxs := rfl
@[simp] theorem State.bump32_rnds (a n : Nat) : (s.bump32 a n).rnds = s.rnds := rfl
@[simp] theorem State.bump32_adm (a n : Nat) : (s.bump32 a n).adm = s.adm := rfl
@[simp] theorem State.bump32_stills (a n : Nat) : (s.bump32 a n).stills = s.stills := rfl
@[simp] theorem State.bump32_surfs (a n : Nat) : (s.bump32 a n).surfs = s.surfs := rfl
@[simp] theorem State.bump32_mem (a n : Nat) : (s.bump32 a n).mem = s.mem := rfl
@[simp] theorem State.bump32_pools (a n : Nat) : (s.bump32 a n).pools = s.pools := rfl
@[simp] theorem State.bump32_dma (a n : Nat) : (s.bump32 a n).dma = s.dma := rfl
@[simp] theorem State.bump32_cal (a n : Nat) : (s.bump32 a n).cal = s.cal := rfl
@[simp] theorem State.bump32_boot (a n : Nat) : (s.bump32 a n).boot = s.boot := rfl

@[simp] theorem State.setPair_pending (a v : Nat) : (s.setPair a v).pending = s.pending := rfl
@[simp] theorem State.setPair_freeCtr (a v : Nat) : (s.setPair a v).freeCtr = s.freeCtr := rfl
@[simp] theorem State.setPair_now (a v : Nat) : (s.setPair a v).now = s.now := rfl
@[simp] theorem State.setPair_eff (a v : Nat) : (s.setPair a v).eff = s.eff := rfl
@[simp] theorem State.setPair_pend (a v : Nat) : (s.setPair a v).pend = s.pend := rfl
@[simp] theorem State.setPair_img (a v : Nat) : (s.setPair a v).img = s.img := rfl
@[simp] theorem State.setPair_hold (a v : Nat) : (s.setPair a v).hold = s.hold := rfl
@[simp] theorem State.setPair_wire (a v : Nat) : (s.setPair a v).wire = s.wire := rfl
@[simp] theorem State.setPair_time (a v : Nat) : (s.setPair a v).time = s.time := rfl
@[simp] theorem State.setPair_mgmt (a v : Nat) : (s.setPair a v).mgmt = s.mgmt := rfl
@[simp] theorem State.setPair_net (a v : Nat) : (s.setPair a v).net = s.net := rfl
@[simp] theorem State.setPair_ctl (a v : Nat) : (s.setPair a v).ctl = s.ctl := rfl
@[simp] theorem State.setPair_seals (a v : Nat) : (s.setPair a v).seals = s.seals := rfl
@[simp] theorem State.setPair_power (a v : Nat) : (s.setPair a v).power = s.power := rfl
@[simp] theorem State.setPair_faults (a v : Nat) : (s.setPair a v).faults = s.faults := rfl
@[simp] theorem State.setPair_units (a v : Nat) : (s.setPair a v).units = s.units := rfl
@[simp] theorem State.setPair_ctxs (a v : Nat) : (s.setPair a v).ctxs = s.ctxs := rfl
@[simp] theorem State.setPair_rnds (a v : Nat) : (s.setPair a v).rnds = s.rnds := rfl
@[simp] theorem State.setPair_adm (a v : Nat) : (s.setPair a v).adm = s.adm := rfl
@[simp] theorem State.setPair_stills (a v : Nat) : (s.setPair a v).stills = s.stills := rfl
@[simp] theorem State.setPair_surfs (a v : Nat) : (s.setPair a v).surfs = s.surfs := rfl
@[simp] theorem State.setPair_mem (a v : Nat) : (s.setPair a v).mem = s.mem := rfl
@[simp] theorem State.setPair_pools (a v : Nat) : (s.setPair a v).pools = s.pools := rfl
@[simp] theorem State.setPair_dma (a v : Nat) : (s.setPair a v).dma = s.dma := rfl
@[simp] theorem State.setPair_cal (a v : Nat) : (s.setPair a v).cal = s.cal := rfl
@[simp] theorem State.setPair_boot (a v : Nat) : (s.setPair a v).boot = s.boot := rfl

@[simp] theorem State.bumpN_pending (a n : Nat) : (s.bumpN a n).pending = s.pending := rfl
@[simp] theorem State.bumpN_freeCtr (a n : Nat) : (s.bumpN a n).freeCtr = s.freeCtr := rfl
@[simp] theorem State.bumpN_now (a n : Nat) : (s.bumpN a n).now = s.now := rfl
@[simp] theorem State.bumpN_eff (a n : Nat) : (s.bumpN a n).eff = s.eff := rfl
@[simp] theorem State.bumpN_pend (a n : Nat) : (s.bumpN a n).pend = s.pend := rfl
@[simp] theorem State.bumpN_img (a n : Nat) : (s.bumpN a n).img = s.img := rfl
@[simp] theorem State.bumpN_hold (a n : Nat) : (s.bumpN a n).hold = s.hold := rfl
@[simp] theorem State.bumpN_wire (a n : Nat) : (s.bumpN a n).wire = s.wire := rfl
@[simp] theorem State.bumpN_time (a n : Nat) : (s.bumpN a n).time = s.time := rfl
@[simp] theorem State.bumpN_mgmt (a n : Nat) : (s.bumpN a n).mgmt = s.mgmt := rfl
@[simp] theorem State.bumpN_net (a n : Nat) : (s.bumpN a n).net = s.net := rfl
@[simp] theorem State.bumpN_ctl (a n : Nat) : (s.bumpN a n).ctl = s.ctl := rfl
@[simp] theorem State.bumpN_seals (a n : Nat) : (s.bumpN a n).seals = s.seals := rfl
@[simp] theorem State.bumpN_power (a n : Nat) : (s.bumpN a n).power = s.power := rfl
@[simp] theorem State.bumpN_faults (a n : Nat) : (s.bumpN a n).faults = s.faults := rfl
@[simp] theorem State.bumpN_units (a n : Nat) : (s.bumpN a n).units = s.units := rfl
@[simp] theorem State.bumpN_ctxs (a n : Nat) : (s.bumpN a n).ctxs = s.ctxs := rfl
@[simp] theorem State.bumpN_rnds (a n : Nat) : (s.bumpN a n).rnds = s.rnds := rfl
@[simp] theorem State.bumpN_adm (a n : Nat) : (s.bumpN a n).adm = s.adm := rfl
@[simp] theorem State.bumpN_stills (a n : Nat) : (s.bumpN a n).stills = s.stills := rfl
@[simp] theorem State.bumpN_surfs (a n : Nat) : (s.bumpN a n).surfs = s.surfs := rfl
@[simp] theorem State.bumpN_mem (a n : Nat) : (s.bumpN a n).mem = s.mem := rfl
@[simp] theorem State.bumpN_pools (a n : Nat) : (s.bumpN a n).pools = s.pools := rfl
@[simp] theorem State.bumpN_dma (a n : Nat) : (s.bumpN a n).dma = s.dma := rfl
@[simp] theorem State.bumpN_cal (a n : Nat) : (s.bumpN a n).cal = s.cal := rfl
@[simp] theorem State.bumpN_boot (a n : Nat) : (s.bumpN a n).boot = s.boot := rfl

@[simp] theorem State.bump_pending (a : Nat) : (s.bump a).pending = s.pending := rfl
@[simp] theorem State.bump_freeCtr (a : Nat) : (s.bump a).freeCtr = s.freeCtr := rfl
@[simp] theorem State.bump_now (a : Nat) : (s.bump a).now = s.now := rfl
@[simp] theorem State.bump_eff (a : Nat) : (s.bump a).eff = s.eff := rfl
@[simp] theorem State.bump_pend (a : Nat) : (s.bump a).pend = s.pend := rfl
@[simp] theorem State.bump_img (a : Nat) : (s.bump a).img = s.img := rfl
@[simp] theorem State.bump_hold (a : Nat) : (s.bump a).hold = s.hold := rfl
@[simp] theorem State.bump_wire (a : Nat) : (s.bump a).wire = s.wire := rfl
@[simp] theorem State.bump_time (a : Nat) : (s.bump a).time = s.time := rfl
@[simp] theorem State.bump_mgmt (a : Nat) : (s.bump a).mgmt = s.mgmt := rfl
@[simp] theorem State.bump_net (a : Nat) : (s.bump a).net = s.net := rfl
@[simp] theorem State.bump_ctl (a : Nat) : (s.bump a).ctl = s.ctl := rfl
@[simp] theorem State.bump_seals (a : Nat) : (s.bump a).seals = s.seals := rfl
@[simp] theorem State.bump_power (a : Nat) : (s.bump a).power = s.power := rfl
@[simp] theorem State.bump_faults (a : Nat) : (s.bump a).faults = s.faults := rfl
@[simp] theorem State.bump_units (a : Nat) : (s.bump a).units = s.units := rfl
@[simp] theorem State.bump_ctxs (a : Nat) : (s.bump a).ctxs = s.ctxs := rfl
@[simp] theorem State.bump_rnds (a : Nat) : (s.bump a).rnds = s.rnds := rfl
@[simp] theorem State.bump_adm (a : Nat) : (s.bump a).adm = s.adm := rfl
@[simp] theorem State.bump_stills (a : Nat) : (s.bump a).stills = s.stills := rfl
@[simp] theorem State.bump_surfs (a : Nat) : (s.bump a).surfs = s.surfs := rfl
@[simp] theorem State.bump_mem (a : Nat) : (s.bump a).mem = s.mem := rfl
@[simp] theorem State.bump_pools (a : Nat) : (s.bump a).pools = s.pools := rfl
@[simp] theorem State.bump_dma (a : Nat) : (s.bump a).dma = s.dma := rfl
@[simp] theorem State.bump_cal (a : Nat) : (s.bump a).cal = s.cal := rfl
@[simp] theorem State.bump_boot (a : Nat) : (s.bump a).boot = s.boot := rfl

@[simp] theorem State.discard_pending (a : Nat) : (s.discard a).pending = s.pending := rfl
@[simp] theorem State.discard_freeCtr (a : Nat) : (s.discard a).freeCtr = s.freeCtr := rfl
@[simp] theorem State.discard_now (a : Nat) : (s.discard a).now = s.now := rfl
@[simp] theorem State.discard_eff (a : Nat) : (s.discard a).eff = s.eff := rfl
@[simp] theorem State.discard_pend (a : Nat) : (s.discard a).pend = s.pend := rfl
@[simp] theorem State.discard_img (a : Nat) : (s.discard a).img = s.img := rfl
@[simp] theorem State.discard_hold (a : Nat) : (s.discard a).hold = s.hold := rfl
@[simp] theorem State.discard_wire (a : Nat) : (s.discard a).wire = s.wire := rfl
@[simp] theorem State.discard_time (a : Nat) : (s.discard a).time = s.time := rfl
@[simp] theorem State.discard_mgmt (a : Nat) : (s.discard a).mgmt = s.mgmt := rfl
@[simp] theorem State.discard_net (a : Nat) : (s.discard a).net = s.net := rfl
@[simp] theorem State.discard_ctl (a : Nat) : (s.discard a).ctl = s.ctl := rfl
@[simp] theorem State.discard_seals (a : Nat) : (s.discard a).seals = s.seals := rfl
@[simp] theorem State.discard_power (a : Nat) : (s.discard a).power = s.power := rfl
@[simp] theorem State.discard_faults (a : Nat) : (s.discard a).faults = s.faults := rfl
@[simp] theorem State.discard_units (a : Nat) : (s.discard a).units = s.units := rfl
@[simp] theorem State.discard_ctxs (a : Nat) : (s.discard a).ctxs = s.ctxs := rfl
@[simp] theorem State.discard_rnds (a : Nat) : (s.discard a).rnds = s.rnds := rfl
@[simp] theorem State.discard_adm (a : Nat) : (s.discard a).adm = s.adm := rfl
@[simp] theorem State.discard_stills (a : Nat) : (s.discard a).stills = s.stills := rfl
@[simp] theorem State.discard_surfs (a : Nat) : (s.discard a).surfs = s.surfs := rfl
@[simp] theorem State.discard_mem (a : Nat) : (s.discard a).mem = s.mem := rfl
@[simp] theorem State.discard_pools (a : Nat) : (s.discard a).pools = s.pools := rfl
@[simp] theorem State.discard_dma (a : Nat) : (s.discard a).dma = s.dma := rfl
@[simp] theorem State.discard_cal (a : Nat) : (s.discard a).cal = s.cal := rfl
@[simp] theorem State.discard_boot (a : Nat) : (s.discard a).boot = s.boot := rfl

@[simp] theorem State.setSeq_pending (i : Nat) (q : SeqSt) : (s.setSeq i q).pending = s.pending := rfl
@[simp] theorem State.setSeq_freeCtr (i : Nat) (q : SeqSt) : (s.setSeq i q).freeCtr = s.freeCtr := rfl
@[simp] theorem State.setSeq_now (i : Nat) (q : SeqSt) : (s.setSeq i q).now = s.now := rfl
@[simp] theorem State.setSeq_regs (i : Nat) (q : SeqSt) : (s.setSeq i q).regs = s.regs := rfl
@[simp] theorem State.setSeq_eff (i : Nat) (q : SeqSt) : (s.setSeq i q).eff = s.eff := rfl
@[simp] theorem State.setSeq_pend (i : Nat) (q : SeqSt) : (s.setSeq i q).pend = s.pend := rfl
@[simp] theorem State.setSeq_img (i : Nat) (q : SeqSt) : (s.setSeq i q).img = s.img := rfl
@[simp] theorem State.setSeq_hold (i : Nat) (q : SeqSt) : (s.setSeq i q).hold = s.hold := rfl
@[simp] theorem State.setSeq_wire (i : Nat) (q : SeqSt) : (s.setSeq i q).wire = s.wire := rfl
@[simp] theorem State.setSeq_time (i : Nat) (q : SeqSt) : (s.setSeq i q).time = s.time := rfl
@[simp] theorem State.setSeq_mgmt (i : Nat) (q : SeqSt) : (s.setSeq i q).mgmt = s.mgmt := rfl
@[simp] theorem State.setSeq_net (i : Nat) (q : SeqSt) : (s.setSeq i q).net = s.net := rfl
@[simp] theorem State.setSeq_seals (i : Nat) (q : SeqSt) : (s.setSeq i q).seals = s.seals := rfl
@[simp] theorem State.setSeq_power (i : Nat) (q : SeqSt) : (s.setSeq i q).power = s.power := rfl
@[simp] theorem State.setSeq_faults (i : Nat) (q : SeqSt) : (s.setSeq i q).faults = s.faults := rfl
@[simp] theorem State.setSeq_units (i : Nat) (q : SeqSt) : (s.setSeq i q).units = s.units := rfl
@[simp] theorem State.setSeq_ctxs (i : Nat) (q : SeqSt) : (s.setSeq i q).ctxs = s.ctxs := rfl
@[simp] theorem State.setSeq_rnds (i : Nat) (q : SeqSt) : (s.setSeq i q).rnds = s.rnds := rfl
@[simp] theorem State.setSeq_adm (i : Nat) (q : SeqSt) : (s.setSeq i q).adm = s.adm := rfl
@[simp] theorem State.setSeq_stills (i : Nat) (q : SeqSt) : (s.setSeq i q).stills = s.stills := rfl
@[simp] theorem State.setSeq_surfs (i : Nat) (q : SeqSt) : (s.setSeq i q).surfs = s.surfs := rfl
@[simp] theorem State.setSeq_mem (i : Nat) (q : SeqSt) : (s.setSeq i q).mem = s.mem := rfl
@[simp] theorem State.setSeq_pools (i : Nat) (q : SeqSt) : (s.setSeq i q).pools = s.pools := rfl
@[simp] theorem State.setSeq_dma (i : Nat) (q : SeqSt) : (s.setSeq i q).dma = s.dma := rfl
@[simp] theorem State.setSeq_cal (i : Nat) (q : SeqSt) : (s.setSeq i q).cal = s.cal := rfl
@[simp] theorem State.setSeq_boot (i : Nat) (q : SeqSt) : (s.setSeq i q).boot = s.boot := rfl

@[simp] theorem State.setPort_pending (p : Nat) (x : PortSt) : (s.setPort p x).pending = s.pending := rfl
@[simp] theorem State.setPort_freeCtr (p : Nat) (x : PortSt) : (s.setPort p x).freeCtr = s.freeCtr := rfl
@[simp] theorem State.setPort_now (p : Nat) (x : PortSt) : (s.setPort p x).now = s.now := rfl
@[simp] theorem State.setPort_regs (p : Nat) (x : PortSt) : (s.setPort p x).regs = s.regs := rfl
@[simp] theorem State.setPort_eff (p : Nat) (x : PortSt) : (s.setPort p x).eff = s.eff := rfl
@[simp] theorem State.setPort_pend (p : Nat) (x : PortSt) : (s.setPort p x).pend = s.pend := rfl
@[simp] theorem State.setPort_img (p : Nat) (x : PortSt) : (s.setPort p x).img = s.img := rfl
@[simp] theorem State.setPort_hold (p : Nat) (x : PortSt) : (s.setPort p x).hold = s.hold := rfl
@[simp] theorem State.setPort_wire (p : Nat) (x : PortSt) : (s.setPort p x).wire = s.wire := rfl
@[simp] theorem State.setPort_time (p : Nat) (x : PortSt) : (s.setPort p x).time = s.time := rfl
@[simp] theorem State.setPort_mgmt (p : Nat) (x : PortSt) : (s.setPort p x).mgmt = s.mgmt := rfl
@[simp] theorem State.setPort_ctl (p : Nat) (x : PortSt) : (s.setPort p x).ctl = s.ctl := rfl
@[simp] theorem State.setPort_seals (p : Nat) (x : PortSt) : (s.setPort p x).seals = s.seals := rfl
@[simp] theorem State.setPort_power (p : Nat) (x : PortSt) : (s.setPort p x).power = s.power := rfl
@[simp] theorem State.setPort_faults (p : Nat) (x : PortSt) : (s.setPort p x).faults = s.faults := rfl
@[simp] theorem State.setPort_units (p : Nat) (x : PortSt) : (s.setPort p x).units = s.units := rfl
@[simp] theorem State.setPort_ctxs (p : Nat) (x : PortSt) : (s.setPort p x).ctxs = s.ctxs := rfl
@[simp] theorem State.setPort_rnds (p : Nat) (x : PortSt) : (s.setPort p x).rnds = s.rnds := rfl
@[simp] theorem State.setPort_adm (p : Nat) (x : PortSt) : (s.setPort p x).adm = s.adm := rfl
@[simp] theorem State.setPort_stills (p : Nat) (x : PortSt) : (s.setPort p x).stills = s.stills := rfl
@[simp] theorem State.setPort_surfs (p : Nat) (x : PortSt) : (s.setPort p x).surfs = s.surfs := rfl
@[simp] theorem State.setPort_mem (p : Nat) (x : PortSt) : (s.setPort p x).mem = s.mem := rfl
@[simp] theorem State.setPort_pools (p : Nat) (x : PortSt) : (s.setPort p x).pools = s.pools := rfl
@[simp] theorem State.setPort_dma (p : Nat) (x : PortSt) : (s.setPort p x).dma = s.dma := rfl
@[simp] theorem State.setPort_cal (p : Nat) (x : PortSt) : (s.setPort p x).cal = s.cal := rfl
@[simp] theorem State.setPort_boot (p : Nat) (x : PortSt) : (s.setPort p x).boot = s.boot := rfl

@[simp] theorem State.setPartner_pending (n : Nat) (x : PartnerSt) : (s.setPartner n x).pending = s.pending := rfl
@[simp] theorem State.setPartner_freeCtr (n : Nat) (x : PartnerSt) : (s.setPartner n x).freeCtr = s.freeCtr := rfl
@[simp] theorem State.setPartner_now (n : Nat) (x : PartnerSt) : (s.setPartner n x).now = s.now := rfl
@[simp] theorem State.setPartner_regs (n : Nat) (x : PartnerSt) : (s.setPartner n x).regs = s.regs := rfl
@[simp] theorem State.setPartner_eff (n : Nat) (x : PartnerSt) : (s.setPartner n x).eff = s.eff := rfl
@[simp] theorem State.setPartner_pend (n : Nat) (x : PartnerSt) : (s.setPartner n x).pend = s.pend := rfl
@[simp] theorem State.setPartner_img (n : Nat) (x : PartnerSt) : (s.setPartner n x).img = s.img := rfl
@[simp] theorem State.setPartner_hold (n : Nat) (x : PartnerSt) : (s.setPartner n x).hold = s.hold := rfl
@[simp] theorem State.setPartner_wire (n : Nat) (x : PartnerSt) : (s.setPartner n x).wire = s.wire := rfl
@[simp] theorem State.setPartner_time (n : Nat) (x : PartnerSt) : (s.setPartner n x).time = s.time := rfl
@[simp] theorem State.setPartner_mgmt (n : Nat) (x : PartnerSt) : (s.setPartner n x).mgmt = s.mgmt := rfl
@[simp] theorem State.setPartner_ctl (n : Nat) (x : PartnerSt) : (s.setPartner n x).ctl = s.ctl := rfl
@[simp] theorem State.setPartner_seals (n : Nat) (x : PartnerSt) : (s.setPartner n x).seals = s.seals := rfl
@[simp] theorem State.setPartner_power (n : Nat) (x : PartnerSt) : (s.setPartner n x).power = s.power := rfl
@[simp] theorem State.setPartner_faults (n : Nat) (x : PartnerSt) : (s.setPartner n x).faults = s.faults := rfl
@[simp] theorem State.setPartner_units (n : Nat) (x : PartnerSt) : (s.setPartner n x).units = s.units := rfl
@[simp] theorem State.setPartner_ctxs (n : Nat) (x : PartnerSt) : (s.setPartner n x).ctxs = s.ctxs := rfl
@[simp] theorem State.setPartner_rnds (n : Nat) (x : PartnerSt) : (s.setPartner n x).rnds = s.rnds := rfl
@[simp] theorem State.setPartner_adm (n : Nat) (x : PartnerSt) : (s.setPartner n x).adm = s.adm := rfl
@[simp] theorem State.setPartner_stills (n : Nat) (x : PartnerSt) : (s.setPartner n x).stills = s.stills := rfl
@[simp] theorem State.setPartner_surfs (n : Nat) (x : PartnerSt) : (s.setPartner n x).surfs = s.surfs := rfl
@[simp] theorem State.setPartner_mem (n : Nat) (x : PartnerSt) : (s.setPartner n x).mem = s.mem := rfl
@[simp] theorem State.setPartner_pools (n : Nat) (x : PartnerSt) : (s.setPartner n x).pools = s.pools := rfl
@[simp] theorem State.setPartner_dma (n : Nat) (x : PartnerSt) : (s.setPartner n x).dma = s.dma := rfl
@[simp] theorem State.setPartner_cal (n : Nat) (x : PartnerSt) : (s.setPartner n x).cal = s.cal := rfl
@[simp] theorem State.setPartner_boot (n : Nat) (x : PartnerSt) : (s.setPartner n x).boot = s.boot := rfl

@[simp] theorem State.setCtx_pending (n : Nat) (x : CtxSt) : (s.setCtx n x).pending = s.pending := rfl
@[simp] theorem State.setCtx_freeCtr (n : Nat) (x : CtxSt) : (s.setCtx n x).freeCtr = s.freeCtr := rfl
@[simp] theorem State.setCtx_now (n : Nat) (x : CtxSt) : (s.setCtx n x).now = s.now := rfl
@[simp] theorem State.setCtx_regs (n : Nat) (x : CtxSt) : (s.setCtx n x).regs = s.regs := rfl
@[simp] theorem State.setCtx_eff (n : Nat) (x : CtxSt) : (s.setCtx n x).eff = s.eff := rfl
@[simp] theorem State.setCtx_pend (n : Nat) (x : CtxSt) : (s.setCtx n x).pend = s.pend := rfl
@[simp] theorem State.setCtx_img (n : Nat) (x : CtxSt) : (s.setCtx n x).img = s.img := rfl
@[simp] theorem State.setCtx_hold (n : Nat) (x : CtxSt) : (s.setCtx n x).hold = s.hold := rfl
@[simp] theorem State.setCtx_wire (n : Nat) (x : CtxSt) : (s.setCtx n x).wire = s.wire := rfl
@[simp] theorem State.setCtx_time (n : Nat) (x : CtxSt) : (s.setCtx n x).time = s.time := rfl
@[simp] theorem State.setCtx_mgmt (n : Nat) (x : CtxSt) : (s.setCtx n x).mgmt = s.mgmt := rfl
@[simp] theorem State.setCtx_net (n : Nat) (x : CtxSt) : (s.setCtx n x).net = s.net := rfl
@[simp] theorem State.setCtx_ctl (n : Nat) (x : CtxSt) : (s.setCtx n x).ctl = s.ctl := rfl
@[simp] theorem State.setCtx_seals (n : Nat) (x : CtxSt) : (s.setCtx n x).seals = s.seals := rfl
@[simp] theorem State.setCtx_power (n : Nat) (x : CtxSt) : (s.setCtx n x).power = s.power := rfl
@[simp] theorem State.setCtx_faults (n : Nat) (x : CtxSt) : (s.setCtx n x).faults = s.faults := rfl
@[simp] theorem State.setCtx_units (n : Nat) (x : CtxSt) : (s.setCtx n x).units = s.units := rfl
@[simp] theorem State.setCtx_rnds (n : Nat) (x : CtxSt) : (s.setCtx n x).rnds = s.rnds := rfl
@[simp] theorem State.setCtx_adm (n : Nat) (x : CtxSt) : (s.setCtx n x).adm = s.adm := rfl
@[simp] theorem State.setCtx_stills (n : Nat) (x : CtxSt) : (s.setCtx n x).stills = s.stills := rfl
@[simp] theorem State.setCtx_surfs (n : Nat) (x : CtxSt) : (s.setCtx n x).surfs = s.surfs := rfl
@[simp] theorem State.setCtx_mem (n : Nat) (x : CtxSt) : (s.setCtx n x).mem = s.mem := rfl
@[simp] theorem State.setCtx_pools (n : Nat) (x : CtxSt) : (s.setCtx n x).pools = s.pools := rfl
@[simp] theorem State.setCtx_dma (n : Nat) (x : CtxSt) : (s.setCtx n x).dma = s.dma := rfl
@[simp] theorem State.setCtx_cal (n : Nat) (x : CtxSt) : (s.setCtx n x).cal = s.cal := rfl
@[simp] theorem State.setCtx_boot (n : Nat) (x : CtxSt) : (s.setCtx n x).boot = s.boot := rfl

@[simp] theorem State.setRnd_pending (n : Nat) (x : RndSt) : (s.setRnd n x).pending = s.pending := rfl
@[simp] theorem State.setRnd_freeCtr (n : Nat) (x : RndSt) : (s.setRnd n x).freeCtr = s.freeCtr := rfl
@[simp] theorem State.setRnd_now (n : Nat) (x : RndSt) : (s.setRnd n x).now = s.now := rfl
@[simp] theorem State.setRnd_regs (n : Nat) (x : RndSt) : (s.setRnd n x).regs = s.regs := rfl
@[simp] theorem State.setRnd_eff (n : Nat) (x : RndSt) : (s.setRnd n x).eff = s.eff := rfl
@[simp] theorem State.setRnd_pend (n : Nat) (x : RndSt) : (s.setRnd n x).pend = s.pend := rfl
@[simp] theorem State.setRnd_img (n : Nat) (x : RndSt) : (s.setRnd n x).img = s.img := rfl
@[simp] theorem State.setRnd_hold (n : Nat) (x : RndSt) : (s.setRnd n x).hold = s.hold := rfl
@[simp] theorem State.setRnd_wire (n : Nat) (x : RndSt) : (s.setRnd n x).wire = s.wire := rfl
@[simp] theorem State.setRnd_time (n : Nat) (x : RndSt) : (s.setRnd n x).time = s.time := rfl
@[simp] theorem State.setRnd_mgmt (n : Nat) (x : RndSt) : (s.setRnd n x).mgmt = s.mgmt := rfl
@[simp] theorem State.setRnd_net (n : Nat) (x : RndSt) : (s.setRnd n x).net = s.net := rfl
@[simp] theorem State.setRnd_ctl (n : Nat) (x : RndSt) : (s.setRnd n x).ctl = s.ctl := rfl
@[simp] theorem State.setRnd_seals (n : Nat) (x : RndSt) : (s.setRnd n x).seals = s.seals := rfl
@[simp] theorem State.setRnd_power (n : Nat) (x : RndSt) : (s.setRnd n x).power = s.power := rfl
@[simp] theorem State.setRnd_faults (n : Nat) (x : RndSt) : (s.setRnd n x).faults = s.faults := rfl
@[simp] theorem State.setRnd_units (n : Nat) (x : RndSt) : (s.setRnd n x).units = s.units := rfl
@[simp] theorem State.setRnd_ctxs (n : Nat) (x : RndSt) : (s.setRnd n x).ctxs = s.ctxs := rfl
@[simp] theorem State.setRnd_adm (n : Nat) (x : RndSt) : (s.setRnd n x).adm = s.adm := rfl
@[simp] theorem State.setRnd_stills (n : Nat) (x : RndSt) : (s.setRnd n x).stills = s.stills := rfl
@[simp] theorem State.setRnd_surfs (n : Nat) (x : RndSt) : (s.setRnd n x).surfs = s.surfs := rfl
@[simp] theorem State.setRnd_mem (n : Nat) (x : RndSt) : (s.setRnd n x).mem = s.mem := rfl
@[simp] theorem State.setRnd_pools (n : Nat) (x : RndSt) : (s.setRnd n x).pools = s.pools := rfl
@[simp] theorem State.setRnd_dma (n : Nat) (x : RndSt) : (s.setRnd n x).dma = s.dma := rfl
@[simp] theorem State.setRnd_cal (n : Nat) (x : RndSt) : (s.setRnd n x).cal = s.cal := rfl
@[simp] theorem State.setRnd_boot (n : Nat) (x : RndSt) : (s.setRnd n x).boot = s.boot := rfl

@[simp] theorem State.setUnit_pending (a : Nat) (x : UnitSt) : (s.setUnit a x).pending = s.pending := rfl
@[simp] theorem State.setUnit_freeCtr (a : Nat) (x : UnitSt) : (s.setUnit a x).freeCtr = s.freeCtr := rfl
@[simp] theorem State.setUnit_now (a : Nat) (x : UnitSt) : (s.setUnit a x).now = s.now := rfl
@[simp] theorem State.setUnit_regs (a : Nat) (x : UnitSt) : (s.setUnit a x).regs = s.regs := rfl
@[simp] theorem State.setUnit_eff (a : Nat) (x : UnitSt) : (s.setUnit a x).eff = s.eff := rfl
@[simp] theorem State.setUnit_pend (a : Nat) (x : UnitSt) : (s.setUnit a x).pend = s.pend := rfl
@[simp] theorem State.setUnit_img (a : Nat) (x : UnitSt) : (s.setUnit a x).img = s.img := rfl
@[simp] theorem State.setUnit_hold (a : Nat) (x : UnitSt) : (s.setUnit a x).hold = s.hold := rfl
@[simp] theorem State.setUnit_wire (a : Nat) (x : UnitSt) : (s.setUnit a x).wire = s.wire := rfl
@[simp] theorem State.setUnit_time (a : Nat) (x : UnitSt) : (s.setUnit a x).time = s.time := rfl
@[simp] theorem State.setUnit_mgmt (a : Nat) (x : UnitSt) : (s.setUnit a x).mgmt = s.mgmt := rfl
@[simp] theorem State.setUnit_net (a : Nat) (x : UnitSt) : (s.setUnit a x).net = s.net := rfl
@[simp] theorem State.setUnit_ctl (a : Nat) (x : UnitSt) : (s.setUnit a x).ctl = s.ctl := rfl
@[simp] theorem State.setUnit_seals (a : Nat) (x : UnitSt) : (s.setUnit a x).seals = s.seals := rfl
@[simp] theorem State.setUnit_power (a : Nat) (x : UnitSt) : (s.setUnit a x).power = s.power := rfl
@[simp] theorem State.setUnit_faults (a : Nat) (x : UnitSt) : (s.setUnit a x).faults = s.faults := rfl
@[simp] theorem State.setUnit_ctxs (a : Nat) (x : UnitSt) : (s.setUnit a x).ctxs = s.ctxs := rfl
@[simp] theorem State.setUnit_rnds (a : Nat) (x : UnitSt) : (s.setUnit a x).rnds = s.rnds := rfl
@[simp] theorem State.setUnit_adm (a : Nat) (x : UnitSt) : (s.setUnit a x).adm = s.adm := rfl
@[simp] theorem State.setUnit_stills (a : Nat) (x : UnitSt) : (s.setUnit a x).stills = s.stills := rfl
@[simp] theorem State.setUnit_surfs (a : Nat) (x : UnitSt) : (s.setUnit a x).surfs = s.surfs := rfl
@[simp] theorem State.setUnit_mem (a : Nat) (x : UnitSt) : (s.setUnit a x).mem = s.mem := rfl
@[simp] theorem State.setUnit_pools (a : Nat) (x : UnitSt) : (s.setUnit a x).pools = s.pools := rfl
@[simp] theorem State.setUnit_dma (a : Nat) (x : UnitSt) : (s.setUnit a x).dma = s.dma := rfl
@[simp] theorem State.setUnit_cal (a : Nat) (x : UnitSt) : (s.setUnit a x).cal = s.cal := rfl
@[simp] theorem State.setUnit_boot (a : Nat) (x : UnitSt) : (s.setUnit a x).boot = s.boot := rfl

@[simp] theorem State.setSlot_pending (n : Nat) (x : SealSlot) : (s.setSlot n x).pending = s.pending := rfl
@[simp] theorem State.setSlot_freeCtr (n : Nat) (x : SealSlot) : (s.setSlot n x).freeCtr = s.freeCtr := rfl
@[simp] theorem State.setSlot_now (n : Nat) (x : SealSlot) : (s.setSlot n x).now = s.now := rfl
@[simp] theorem State.setSlot_regs (n : Nat) (x : SealSlot) : (s.setSlot n x).regs = s.regs := rfl
@[simp] theorem State.setSlot_eff (n : Nat) (x : SealSlot) : (s.setSlot n x).eff = s.eff := rfl
@[simp] theorem State.setSlot_pend (n : Nat) (x : SealSlot) : (s.setSlot n x).pend = s.pend := rfl
@[simp] theorem State.setSlot_img (n : Nat) (x : SealSlot) : (s.setSlot n x).img = s.img := rfl
@[simp] theorem State.setSlot_hold (n : Nat) (x : SealSlot) : (s.setSlot n x).hold = s.hold := rfl
@[simp] theorem State.setSlot_wire (n : Nat) (x : SealSlot) : (s.setSlot n x).wire = s.wire := rfl
@[simp] theorem State.setSlot_time (n : Nat) (x : SealSlot) : (s.setSlot n x).time = s.time := rfl
@[simp] theorem State.setSlot_mgmt (n : Nat) (x : SealSlot) : (s.setSlot n x).mgmt = s.mgmt := rfl
@[simp] theorem State.setSlot_net (n : Nat) (x : SealSlot) : (s.setSlot n x).net = s.net := rfl
@[simp] theorem State.setSlot_ctl (n : Nat) (x : SealSlot) : (s.setSlot n x).ctl = s.ctl := rfl
@[simp] theorem State.setSlot_power (n : Nat) (x : SealSlot) : (s.setSlot n x).power = s.power := rfl
@[simp] theorem State.setSlot_faults (n : Nat) (x : SealSlot) : (s.setSlot n x).faults = s.faults := rfl
@[simp] theorem State.setSlot_units (n : Nat) (x : SealSlot) : (s.setSlot n x).units = s.units := rfl
@[simp] theorem State.setSlot_ctxs (n : Nat) (x : SealSlot) : (s.setSlot n x).ctxs = s.ctxs := rfl
@[simp] theorem State.setSlot_rnds (n : Nat) (x : SealSlot) : (s.setSlot n x).rnds = s.rnds := rfl
@[simp] theorem State.setSlot_adm (n : Nat) (x : SealSlot) : (s.setSlot n x).adm = s.adm := rfl
@[simp] theorem State.setSlot_stills (n : Nat) (x : SealSlot) : (s.setSlot n x).stills = s.stills := rfl
@[simp] theorem State.setSlot_surfs (n : Nat) (x : SealSlot) : (s.setSlot n x).surfs = s.surfs := rfl
@[simp] theorem State.setSlot_mem (n : Nat) (x : SealSlot) : (s.setSlot n x).mem = s.mem := rfl
@[simp] theorem State.setSlot_pools (n : Nat) (x : SealSlot) : (s.setSlot n x).pools = s.pools := rfl
@[simp] theorem State.setSlot_dma (n : Nat) (x : SealSlot) : (s.setSlot n x).dma = s.dma := rfl
@[simp] theorem State.setSlot_cal (n : Nat) (x : SealSlot) : (s.setSlot n x).cal = s.cal := rfl
@[simp] theorem State.setSlot_boot (n : Nat) (x : SealSlot) : (s.setSlot n x).boot = s.boot := rfl

@[simp] theorem State.setSess_pending (x : KtSess) : (s.setSess x).pending = s.pending := rfl
@[simp] theorem State.setSess_freeCtr (x : KtSess) : (s.setSess x).freeCtr = s.freeCtr := rfl
@[simp] theorem State.setSess_now (x : KtSess) : (s.setSess x).now = s.now := rfl
@[simp] theorem State.setSess_regs (x : KtSess) : (s.setSess x).regs = s.regs := rfl
@[simp] theorem State.setSess_eff (x : KtSess) : (s.setSess x).eff = s.eff := rfl
@[simp] theorem State.setSess_pend (x : KtSess) : (s.setSess x).pend = s.pend := rfl
@[simp] theorem State.setSess_img (x : KtSess) : (s.setSess x).img = s.img := rfl
@[simp] theorem State.setSess_hold (x : KtSess) : (s.setSess x).hold = s.hold := rfl
@[simp] theorem State.setSess_wire (x : KtSess) : (s.setSess x).wire = s.wire := rfl
@[simp] theorem State.setSess_time (x : KtSess) : (s.setSess x).time = s.time := rfl
@[simp] theorem State.setSess_mgmt (x : KtSess) : (s.setSess x).mgmt = s.mgmt := rfl
@[simp] theorem State.setSess_ctl (x : KtSess) : (s.setSess x).ctl = s.ctl := rfl
@[simp] theorem State.setSess_seals (x : KtSess) : (s.setSess x).seals = s.seals := rfl
@[simp] theorem State.setSess_power (x : KtSess) : (s.setSess x).power = s.power := rfl
@[simp] theorem State.setSess_faults (x : KtSess) : (s.setSess x).faults = s.faults := rfl
@[simp] theorem State.setSess_units (x : KtSess) : (s.setSess x).units = s.units := rfl
@[simp] theorem State.setSess_ctxs (x : KtSess) : (s.setSess x).ctxs = s.ctxs := rfl
@[simp] theorem State.setSess_rnds (x : KtSess) : (s.setSess x).rnds = s.rnds := rfl
@[simp] theorem State.setSess_adm (x : KtSess) : (s.setSess x).adm = s.adm := rfl
@[simp] theorem State.setSess_stills (x : KtSess) : (s.setSess x).stills = s.stills := rfl
@[simp] theorem State.setSess_surfs (x : KtSess) : (s.setSess x).surfs = s.surfs := rfl
@[simp] theorem State.setSess_mem (x : KtSess) : (s.setSess x).mem = s.mem := rfl
@[simp] theorem State.setSess_pools (x : KtSess) : (s.setSess x).pools = s.pools := rfl
@[simp] theorem State.setSess_dma (x : KtSess) : (s.setSess x).dma = s.dma := rfl
@[simp] theorem State.setSess_cal (x : KtSess) : (s.setSess x).cal = s.cal := rfl
@[simp] theorem State.setSess_boot (x : KtSess) : (s.setSess x).boot = s.boot := rfl

@[simp] theorem State.dropSess_pending (c p i : Nat) : (s.dropSess c p i).pending = s.pending := rfl
@[simp] theorem State.dropSess_freeCtr (c p i : Nat) : (s.dropSess c p i).freeCtr = s.freeCtr := rfl
@[simp] theorem State.dropSess_now (c p i : Nat) : (s.dropSess c p i).now = s.now := rfl
@[simp] theorem State.dropSess_regs (c p i : Nat) : (s.dropSess c p i).regs = s.regs := rfl
@[simp] theorem State.dropSess_eff (c p i : Nat) : (s.dropSess c p i).eff = s.eff := rfl
@[simp] theorem State.dropSess_pend (c p i : Nat) : (s.dropSess c p i).pend = s.pend := rfl
@[simp] theorem State.dropSess_img (c p i : Nat) : (s.dropSess c p i).img = s.img := rfl
@[simp] theorem State.dropSess_hold (c p i : Nat) : (s.dropSess c p i).hold = s.hold := rfl
@[simp] theorem State.dropSess_wire (c p i : Nat) : (s.dropSess c p i).wire = s.wire := rfl
@[simp] theorem State.dropSess_time (c p i : Nat) : (s.dropSess c p i).time = s.time := rfl
@[simp] theorem State.dropSess_mgmt (c p i : Nat) : (s.dropSess c p i).mgmt = s.mgmt := rfl
@[simp] theorem State.dropSess_ctl (c p i : Nat) : (s.dropSess c p i).ctl = s.ctl := rfl
@[simp] theorem State.dropSess_seals (c p i : Nat) : (s.dropSess c p i).seals = s.seals := rfl
@[simp] theorem State.dropSess_power (c p i : Nat) : (s.dropSess c p i).power = s.power := rfl
@[simp] theorem State.dropSess_faults (c p i : Nat) : (s.dropSess c p i).faults = s.faults := rfl
@[simp] theorem State.dropSess_units (c p i : Nat) : (s.dropSess c p i).units = s.units := rfl
@[simp] theorem State.dropSess_ctxs (c p i : Nat) : (s.dropSess c p i).ctxs = s.ctxs := rfl
@[simp] theorem State.dropSess_rnds (c p i : Nat) : (s.dropSess c p i).rnds = s.rnds := rfl
@[simp] theorem State.dropSess_adm (c p i : Nat) : (s.dropSess c p i).adm = s.adm := rfl
@[simp] theorem State.dropSess_stills (c p i : Nat) : (s.dropSess c p i).stills = s.stills := rfl
@[simp] theorem State.dropSess_surfs (c p i : Nat) : (s.dropSess c p i).surfs = s.surfs := rfl
@[simp] theorem State.dropSess_mem (c p i : Nat) : (s.dropSess c p i).mem = s.mem := rfl
@[simp] theorem State.dropSess_pools (c p i : Nat) : (s.dropSess c p i).pools = s.pools := rfl
@[simp] theorem State.dropSess_dma (c p i : Nat) : (s.dropSess c p i).dma = s.dma := rfl
@[simp] theorem State.dropSess_cal (c p i : Nat) : (s.dropSess c p i).cal = s.cal := rfl
@[simp] theorem State.dropSess_boot (c p i : Nat) : (s.dropSess c p i).boot = s.boot := rfl

@[simp] theorem State.setDmaCh_pending (n : Nat) (x : DmaCh) : (s.setDmaCh n x).pending = s.pending := rfl
@[simp] theorem State.setDmaCh_freeCtr (n : Nat) (x : DmaCh) : (s.setDmaCh n x).freeCtr = s.freeCtr := rfl
@[simp] theorem State.setDmaCh_now (n : Nat) (x : DmaCh) : (s.setDmaCh n x).now = s.now := rfl
@[simp] theorem State.setDmaCh_regs (n : Nat) (x : DmaCh) : (s.setDmaCh n x).regs = s.regs := rfl
@[simp] theorem State.setDmaCh_eff (n : Nat) (x : DmaCh) : (s.setDmaCh n x).eff = s.eff := rfl
@[simp] theorem State.setDmaCh_pend (n : Nat) (x : DmaCh) : (s.setDmaCh n x).pend = s.pend := rfl
@[simp] theorem State.setDmaCh_img (n : Nat) (x : DmaCh) : (s.setDmaCh n x).img = s.img := rfl
@[simp] theorem State.setDmaCh_hold (n : Nat) (x : DmaCh) : (s.setDmaCh n x).hold = s.hold := rfl
@[simp] theorem State.setDmaCh_wire (n : Nat) (x : DmaCh) : (s.setDmaCh n x).wire = s.wire := rfl
@[simp] theorem State.setDmaCh_time (n : Nat) (x : DmaCh) : (s.setDmaCh n x).time = s.time := rfl
@[simp] theorem State.setDmaCh_mgmt (n : Nat) (x : DmaCh) : (s.setDmaCh n x).mgmt = s.mgmt := rfl
@[simp] theorem State.setDmaCh_net (n : Nat) (x : DmaCh) : (s.setDmaCh n x).net = s.net := rfl
@[simp] theorem State.setDmaCh_ctl (n : Nat) (x : DmaCh) : (s.setDmaCh n x).ctl = s.ctl := rfl
@[simp] theorem State.setDmaCh_seals (n : Nat) (x : DmaCh) : (s.setDmaCh n x).seals = s.seals := rfl
@[simp] theorem State.setDmaCh_power (n : Nat) (x : DmaCh) : (s.setDmaCh n x).power = s.power := rfl
@[simp] theorem State.setDmaCh_faults (n : Nat) (x : DmaCh) : (s.setDmaCh n x).faults = s.faults := rfl
@[simp] theorem State.setDmaCh_units (n : Nat) (x : DmaCh) : (s.setDmaCh n x).units = s.units := rfl
@[simp] theorem State.setDmaCh_ctxs (n : Nat) (x : DmaCh) : (s.setDmaCh n x).ctxs = s.ctxs := rfl
@[simp] theorem State.setDmaCh_rnds (n : Nat) (x : DmaCh) : (s.setDmaCh n x).rnds = s.rnds := rfl
@[simp] theorem State.setDmaCh_adm (n : Nat) (x : DmaCh) : (s.setDmaCh n x).adm = s.adm := rfl
@[simp] theorem State.setDmaCh_stills (n : Nat) (x : DmaCh) : (s.setDmaCh n x).stills = s.stills := rfl
@[simp] theorem State.setDmaCh_surfs (n : Nat) (x : DmaCh) : (s.setDmaCh n x).surfs = s.surfs := rfl
@[simp] theorem State.setDmaCh_mem (n : Nat) (x : DmaCh) : (s.setDmaCh n x).mem = s.mem := rfl
@[simp] theorem State.setDmaCh_pools (n : Nat) (x : DmaCh) : (s.setDmaCh n x).pools = s.pools := rfl
@[simp] theorem State.setDmaCh_cal (n : Nat) (x : DmaCh) : (s.setDmaCh n x).cal = s.cal := rfl
@[simp] theorem State.setDmaCh_boot (n : Nat) (x : DmaCh) : (s.setDmaCh n x).boot = s.boot := rfl

@[simp] theorem State.setMemPort_pending (n : Nat) (x : MemPort) : (s.setMemPort n x).pending = s.pending := rfl
@[simp] theorem State.setMemPort_freeCtr (n : Nat) (x : MemPort) : (s.setMemPort n x).freeCtr = s.freeCtr := rfl
@[simp] theorem State.setMemPort_now (n : Nat) (x : MemPort) : (s.setMemPort n x).now = s.now := rfl
@[simp] theorem State.setMemPort_regs (n : Nat) (x : MemPort) : (s.setMemPort n x).regs = s.regs := rfl
@[simp] theorem State.setMemPort_eff (n : Nat) (x : MemPort) : (s.setMemPort n x).eff = s.eff := rfl
@[simp] theorem State.setMemPort_pend (n : Nat) (x : MemPort) : (s.setMemPort n x).pend = s.pend := rfl
@[simp] theorem State.setMemPort_img (n : Nat) (x : MemPort) : (s.setMemPort n x).img = s.img := rfl
@[simp] theorem State.setMemPort_hold (n : Nat) (x : MemPort) : (s.setMemPort n x).hold = s.hold := rfl
@[simp] theorem State.setMemPort_wire (n : Nat) (x : MemPort) : (s.setMemPort n x).wire = s.wire := rfl
@[simp] theorem State.setMemPort_time (n : Nat) (x : MemPort) : (s.setMemPort n x).time = s.time := rfl
@[simp] theorem State.setMemPort_mgmt (n : Nat) (x : MemPort) : (s.setMemPort n x).mgmt = s.mgmt := rfl
@[simp] theorem State.setMemPort_net (n : Nat) (x : MemPort) : (s.setMemPort n x).net = s.net := rfl
@[simp] theorem State.setMemPort_ctl (n : Nat) (x : MemPort) : (s.setMemPort n x).ctl = s.ctl := rfl
@[simp] theorem State.setMemPort_seals (n : Nat) (x : MemPort) : (s.setMemPort n x).seals = s.seals := rfl
@[simp] theorem State.setMemPort_power (n : Nat) (x : MemPort) : (s.setMemPort n x).power = s.power := rfl
@[simp] theorem State.setMemPort_faults (n : Nat) (x : MemPort) : (s.setMemPort n x).faults = s.faults := rfl
@[simp] theorem State.setMemPort_units (n : Nat) (x : MemPort) : (s.setMemPort n x).units = s.units := rfl
@[simp] theorem State.setMemPort_ctxs (n : Nat) (x : MemPort) : (s.setMemPort n x).ctxs = s.ctxs := rfl
@[simp] theorem State.setMemPort_rnds (n : Nat) (x : MemPort) : (s.setMemPort n x).rnds = s.rnds := rfl
@[simp] theorem State.setMemPort_adm (n : Nat) (x : MemPort) : (s.setMemPort n x).adm = s.adm := rfl
@[simp] theorem State.setMemPort_stills (n : Nat) (x : MemPort) : (s.setMemPort n x).stills = s.stills := rfl
@[simp] theorem State.setMemPort_surfs (n : Nat) (x : MemPort) : (s.setMemPort n x).surfs = s.surfs := rfl
@[simp] theorem State.setMemPort_pools (n : Nat) (x : MemPort) : (s.setMemPort n x).pools = s.pools := rfl
@[simp] theorem State.setMemPort_dma (n : Nat) (x : MemPort) : (s.setMemPort n x).dma = s.dma := rfl
@[simp] theorem State.setMemPort_cal (n : Nat) (x : MemPort) : (s.setMemPort n x).cal = s.cal := rfl
@[simp] theorem State.setMemPort_boot (n : Nat) (x : MemPort) : (s.setMemPort n x).boot = s.boot := rfl

@[simp] theorem State.setOtp_pending (x : Otp) : (s.setOtp x).pending = s.pending := rfl
@[simp] theorem State.setOtp_freeCtr (x : Otp) : (s.setOtp x).freeCtr = s.freeCtr := rfl
@[simp] theorem State.setOtp_now (x : Otp) : (s.setOtp x).now = s.now := rfl
@[simp] theorem State.setOtp_regs (x : Otp) : (s.setOtp x).regs = s.regs := rfl
@[simp] theorem State.setOtp_eff (x : Otp) : (s.setOtp x).eff = s.eff := rfl
@[simp] theorem State.setOtp_pend (x : Otp) : (s.setOtp x).pend = s.pend := rfl
@[simp] theorem State.setOtp_img (x : Otp) : (s.setOtp x).img = s.img := rfl
@[simp] theorem State.setOtp_hold (x : Otp) : (s.setOtp x).hold = s.hold := rfl
@[simp] theorem State.setOtp_wire (x : Otp) : (s.setOtp x).wire = s.wire := rfl
@[simp] theorem State.setOtp_time (x : Otp) : (s.setOtp x).time = s.time := rfl
@[simp] theorem State.setOtp_mgmt (x : Otp) : (s.setOtp x).mgmt = s.mgmt := rfl
@[simp] theorem State.setOtp_net (x : Otp) : (s.setOtp x).net = s.net := rfl
@[simp] theorem State.setOtp_ctl (x : Otp) : (s.setOtp x).ctl = s.ctl := rfl
@[simp] theorem State.setOtp_seals (x : Otp) : (s.setOtp x).seals = s.seals := rfl
@[simp] theorem State.setOtp_power (x : Otp) : (s.setOtp x).power = s.power := rfl
@[simp] theorem State.setOtp_faults (x : Otp) : (s.setOtp x).faults = s.faults := rfl
@[simp] theorem State.setOtp_units (x : Otp) : (s.setOtp x).units = s.units := rfl
@[simp] theorem State.setOtp_ctxs (x : Otp) : (s.setOtp x).ctxs = s.ctxs := rfl
@[simp] theorem State.setOtp_rnds (x : Otp) : (s.setOtp x).rnds = s.rnds := rfl
@[simp] theorem State.setOtp_adm (x : Otp) : (s.setOtp x).adm = s.adm := rfl
@[simp] theorem State.setOtp_stills (x : Otp) : (s.setOtp x).stills = s.stills := rfl
@[simp] theorem State.setOtp_surfs (x : Otp) : (s.setOtp x).surfs = s.surfs := rfl
@[simp] theorem State.setOtp_mem (x : Otp) : (s.setOtp x).mem = s.mem := rfl
@[simp] theorem State.setOtp_pools (x : Otp) : (s.setOtp x).pools = s.pools := rfl
@[simp] theorem State.setOtp_dma (x : Otp) : (s.setOtp x).dma = s.dma := rfl
@[simp] theorem State.setOtp_cal (x : Otp) : (s.setOtp x).cal = s.cal := rfl

@[simp] theorem State.transmit_pending (p : Nat) (f : OutFrame) : (s.transmit p f).pending = s.pending := rfl
@[simp] theorem State.transmit_freeCtr (p : Nat) (f : OutFrame) : (s.transmit p f).freeCtr = s.freeCtr := rfl
@[simp] theorem State.transmit_now (p : Nat) (f : OutFrame) : (s.transmit p f).now = s.now := rfl
@[simp] theorem State.transmit_eff (p : Nat) (f : OutFrame) : (s.transmit p f).eff = s.eff := rfl
@[simp] theorem State.transmit_pend (p : Nat) (f : OutFrame) : (s.transmit p f).pend = s.pend := rfl
@[simp] theorem State.transmit_img (p : Nat) (f : OutFrame) : (s.transmit p f).img = s.img := rfl
@[simp] theorem State.transmit_hold (p : Nat) (f : OutFrame) : (s.transmit p f).hold = s.hold := rfl
@[simp] theorem State.transmit_time (p : Nat) (f : OutFrame) : (s.transmit p f).time = s.time := rfl
@[simp] theorem State.transmit_mgmt (p : Nat) (f : OutFrame) : (s.transmit p f).mgmt = s.mgmt := rfl
@[simp] theorem State.transmit_net (p : Nat) (f : OutFrame) : (s.transmit p f).net = s.net := rfl
@[simp] theorem State.transmit_ctl (p : Nat) (f : OutFrame) : (s.transmit p f).ctl = s.ctl := rfl
@[simp] theorem State.transmit_seals (p : Nat) (f : OutFrame) : (s.transmit p f).seals = s.seals := rfl
@[simp] theorem State.transmit_power (p : Nat) (f : OutFrame) : (s.transmit p f).power = s.power := rfl
@[simp] theorem State.transmit_faults (p : Nat) (f : OutFrame) : (s.transmit p f).faults = s.faults := rfl
@[simp] theorem State.transmit_units (p : Nat) (f : OutFrame) : (s.transmit p f).units = s.units := rfl
@[simp] theorem State.transmit_ctxs (p : Nat) (f : OutFrame) : (s.transmit p f).ctxs = s.ctxs := rfl
@[simp] theorem State.transmit_rnds (p : Nat) (f : OutFrame) : (s.transmit p f).rnds = s.rnds := rfl
@[simp] theorem State.transmit_adm (p : Nat) (f : OutFrame) : (s.transmit p f).adm = s.adm := rfl
@[simp] theorem State.transmit_stills (p : Nat) (f : OutFrame) : (s.transmit p f).stills = s.stills := rfl
@[simp] theorem State.transmit_surfs (p : Nat) (f : OutFrame) : (s.transmit p f).surfs = s.surfs := rfl
@[simp] theorem State.transmit_mem (p : Nat) (f : OutFrame) : (s.transmit p f).mem = s.mem := rfl
@[simp] theorem State.transmit_pools (p : Nat) (f : OutFrame) : (s.transmit p f).pools = s.pools := rfl
@[simp] theorem State.transmit_dma (p : Nat) (f : OutFrame) : (s.transmit p f).dma = s.dma := rfl
@[simp] theorem State.transmit_cal (p : Nat) (f : OutFrame) : (s.transmit p f).cal = s.cal := rfl
@[simp] theorem State.transmit_boot (p : Nat) (f : OutFrame) : (s.transmit p f).boot = s.boot := rfl

@[simp] theorem State.setCause_pending (n : Nat) (b : Bool) : (s.setCause n b).pending = s.pending := rfl
@[simp] theorem State.setCause_freeCtr (n : Nat) (b : Bool) : (s.setCause n b).freeCtr = s.freeCtr := rfl
@[simp] theorem State.setCause_now (n : Nat) (b : Bool) : (s.setCause n b).now = s.now := rfl
@[simp] theorem State.setCause_eff (n : Nat) (b : Bool) : (s.setCause n b).eff = s.eff := rfl
@[simp] theorem State.setCause_pend (n : Nat) (b : Bool) : (s.setCause n b).pend = s.pend := rfl
@[simp] theorem State.setCause_img (n : Nat) (b : Bool) : (s.setCause n b).img = s.img := rfl
@[simp] theorem State.setCause_hold (n : Nat) (b : Bool) : (s.setCause n b).hold = s.hold := rfl
@[simp] theorem State.setCause_wire (n : Nat) (b : Bool) : (s.setCause n b).wire = s.wire := rfl
@[simp] theorem State.setCause_time (n : Nat) (b : Bool) : (s.setCause n b).time = s.time := rfl
@[simp] theorem State.setCause_mgmt (n : Nat) (b : Bool) : (s.setCause n b).mgmt = s.mgmt := rfl
@[simp] theorem State.setCause_net (n : Nat) (b : Bool) : (s.setCause n b).net = s.net := rfl
@[simp] theorem State.setCause_ctl (n : Nat) (b : Bool) : (s.setCause n b).ctl = s.ctl := rfl
@[simp] theorem State.setCause_seals (n : Nat) (b : Bool) : (s.setCause n b).seals = s.seals := rfl
@[simp] theorem State.setCause_power (n : Nat) (b : Bool) : (s.setCause n b).power = s.power := rfl
@[simp] theorem State.setCause_faults (n : Nat) (b : Bool) : (s.setCause n b).faults = s.faults := rfl
@[simp] theorem State.setCause_units (n : Nat) (b : Bool) : (s.setCause n b).units = s.units := rfl
@[simp] theorem State.setCause_ctxs (n : Nat) (b : Bool) : (s.setCause n b).ctxs = s.ctxs := rfl
@[simp] theorem State.setCause_rnds (n : Nat) (b : Bool) : (s.setCause n b).rnds = s.rnds := rfl
@[simp] theorem State.setCause_adm (n : Nat) (b : Bool) : (s.setCause n b).adm = s.adm := rfl
@[simp] theorem State.setCause_stills (n : Nat) (b : Bool) : (s.setCause n b).stills = s.stills := rfl
@[simp] theorem State.setCause_surfs (n : Nat) (b : Bool) : (s.setCause n b).surfs = s.surfs := rfl
@[simp] theorem State.setCause_mem (n : Nat) (b : Bool) : (s.setCause n b).mem = s.mem := rfl
@[simp] theorem State.setCause_pools (n : Nat) (b : Bool) : (s.setCause n b).pools = s.pools := rfl
@[simp] theorem State.setCause_dma (n : Nat) (b : Bool) : (s.setCause n b).dma = s.dma := rfl
@[simp] theorem State.setCause_cal (n : Nat) (b : Bool) : (s.setCause n b).cal = s.cal := rfl
@[simp] theorem State.setCause_boot (n : Nat) (b : Bool) : (s.setCause n b).boot = s.boot := rfl

@[simp] theorem State.clearRanges_pending (rs : List (Nat × Nat)) : (s.clearRanges rs).pending = s.pending := rfl
@[simp] theorem State.clearRanges_freeCtr (rs : List (Nat × Nat)) : (s.clearRanges rs).freeCtr = s.freeCtr := rfl
@[simp] theorem State.clearRanges_now (rs : List (Nat × Nat)) : (s.clearRanges rs).now = s.now := rfl
@[simp] theorem State.clearRanges_eff (rs : List (Nat × Nat)) : (s.clearRanges rs).eff = s.eff := rfl
@[simp] theorem State.clearRanges_pend (rs : List (Nat × Nat)) : (s.clearRanges rs).pend = s.pend := rfl
@[simp] theorem State.clearRanges_img (rs : List (Nat × Nat)) : (s.clearRanges rs).img = s.img := rfl
@[simp] theorem State.clearRanges_hold (rs : List (Nat × Nat)) : (s.clearRanges rs).hold = s.hold := rfl
@[simp] theorem State.clearRanges_wire (rs : List (Nat × Nat)) : (s.clearRanges rs).wire = s.wire := rfl
@[simp] theorem State.clearRanges_time (rs : List (Nat × Nat)) : (s.clearRanges rs).time = s.time := rfl
@[simp] theorem State.clearRanges_mgmt (rs : List (Nat × Nat)) : (s.clearRanges rs).mgmt = s.mgmt := rfl
@[simp] theorem State.clearRanges_net (rs : List (Nat × Nat)) : (s.clearRanges rs).net = s.net := rfl
@[simp] theorem State.clearRanges_ctl (rs : List (Nat × Nat)) : (s.clearRanges rs).ctl = s.ctl := rfl
@[simp] theorem State.clearRanges_seals (rs : List (Nat × Nat)) : (s.clearRanges rs).seals = s.seals := rfl
@[simp] theorem State.clearRanges_power (rs : List (Nat × Nat)) : (s.clearRanges rs).power = s.power := rfl
@[simp] theorem State.clearRanges_faults (rs : List (Nat × Nat)) : (s.clearRanges rs).faults = s.faults := rfl
@[simp] theorem State.clearRanges_units (rs : List (Nat × Nat)) : (s.clearRanges rs).units = s.units := rfl
@[simp] theorem State.clearRanges_ctxs (rs : List (Nat × Nat)) : (s.clearRanges rs).ctxs = s.ctxs := rfl
@[simp] theorem State.clearRanges_rnds (rs : List (Nat × Nat)) : (s.clearRanges rs).rnds = s.rnds := rfl
@[simp] theorem State.clearRanges_adm (rs : List (Nat × Nat)) : (s.clearRanges rs).adm = s.adm := rfl
@[simp] theorem State.clearRanges_stills (rs : List (Nat × Nat)) : (s.clearRanges rs).stills = s.stills := rfl
@[simp] theorem State.clearRanges_surfs (rs : List (Nat × Nat)) : (s.clearRanges rs).surfs = s.surfs := rfl
@[simp] theorem State.clearRanges_mem (rs : List (Nat × Nat)) : (s.clearRanges rs).mem = s.mem := rfl
@[simp] theorem State.clearRanges_pools (rs : List (Nat × Nat)) : (s.clearRanges rs).pools = s.pools := rfl
@[simp] theorem State.clearRanges_dma (rs : List (Nat × Nat)) : (s.clearRanges rs).dma = s.dma := rfl
@[simp] theorem State.clearRanges_cal (rs : List (Nat × Nat)) : (s.clearRanges rs).cal = s.cal := rfl
@[simp] theorem State.clearRanges_boot (rs : List (Nat × Nat)) : (s.clearRanges rs).boot = s.boot := rfl

end Fields

section Readers
variable (s : State)

@[simp] theorem State.port_setReg (a : Nat) (v : Word) (k : Nat) : (s.setReg a v).port k = s.port k := rfl
@[simp] theorem State.partner_setReg (a : Nat) (v : Word) (k : Nat) : (s.setReg a v).partner k = s.partner k := rfl
@[simp] theorem State.seq_setReg (a : Nat) (v : Word) (k : Nat) : (s.setReg a v).seq k = s.seq k := rfl
@[simp] theorem State.ctx_setReg (a : Nat) (v : Word) (k : Nat) : (s.setReg a v).ctx k = s.ctx k := rfl
@[simp] theorem State.rnd_setReg (a : Nat) (v : Word) (k : Nat) : (s.setReg a v).rnd k = s.rnd k := rfl
@[simp] theorem State.unit_setReg (a : Nat) (v : Word) (k : Nat) : (s.setReg a v).unit k = s.unit k := rfl
@[simp] theorem State.slot_setReg (a : Nat) (v : Word) (k : Nat) : (s.setReg a v).slot k = s.slot k := rfl
@[simp] theorem State.dmaCh_setReg (a : Nat) (v : Word) (k : Nat) : (s.setReg a v).dmaCh k = s.dmaCh k := rfl
@[simp] theorem State.memPort_setReg (a : Nat) (v : Word) (k : Nat) : (s.setReg a v).memPort k = s.memPort k := rfl
@[simp] theorem State.cfg_setReg (a : Nat) (v : Word) (k : Nat) : (s.setReg a v).cfg k = s.cfg k := rfl
@[simp] theorem State.port_setRegF (a lo w x : Nat) (k : Nat) : (s.setRegF a lo w x).port k = s.port k := rfl
@[simp] theorem State.partner_setRegF (a lo w x : Nat) (k : Nat) : (s.setRegF a lo w x).partner k = s.partner k := rfl
@[simp] theorem State.seq_setRegF (a lo w x : Nat) (k : Nat) : (s.setRegF a lo w x).seq k = s.seq k := rfl
@[simp] theorem State.ctx_setRegF (a lo w x : Nat) (k : Nat) : (s.setRegF a lo w x).ctx k = s.ctx k := rfl
@[simp] theorem State.rnd_setRegF (a lo w x : Nat) (k : Nat) : (s.setRegF a lo w x).rnd k = s.rnd k := rfl
@[simp] theorem State.unit_setRegF (a lo w x : Nat) (k : Nat) : (s.setRegF a lo w x).unit k = s.unit k := rfl
@[simp] theorem State.slot_setRegF (a lo w x : Nat) (k : Nat) : (s.setRegF a lo w x).slot k = s.slot k := rfl
@[simp] theorem State.dmaCh_setRegF (a lo w x : Nat) (k : Nat) : (s.setRegF a lo w x).dmaCh k = s.dmaCh k := rfl
@[simp] theorem State.memPort_setRegF (a lo w x : Nat) (k : Nat) : (s.setRegF a lo w x).memPort k = s.memPort k := rfl
@[simp] theorem State.cfg_setRegF (a lo w x : Nat) (k : Nat) : (s.setRegF a lo w x).cfg k = s.cfg k := rfl
@[simp] theorem State.port_setRegBit (a i : Nat) (b : Bool) (k : Nat) : (s.setRegBit a i b).port k = s.port k := rfl
@[simp] theorem State.partner_setRegBit (a i : Nat) (b : Bool) (k : Nat) : (s.setRegBit a i b).partner k = s.partner k := rfl
@[simp] theorem State.seq_setRegBit (a i : Nat) (b : Bool) (k : Nat) : (s.setRegBit a i b).seq k = s.seq k := rfl
@[simp] theorem State.ctx_setRegBit (a i : Nat) (b : Bool) (k : Nat) : (s.setRegBit a i b).ctx k = s.ctx k := rfl
@[simp] theorem State.rnd_setRegBit (a i : Nat) (b : Bool) (k : Nat) : (s.setRegBit a i b).rnd k = s.rnd k := rfl
@[simp] theorem State.unit_setRegBit (a i : Nat) (b : Bool) (k : Nat) : (s.setRegBit a i b).unit k = s.unit k := rfl
@[simp] theorem State.slot_setRegBit (a i : Nat) (b : Bool) (k : Nat) : (s.setRegBit a i b).slot k = s.slot k := rfl
@[simp] theorem State.dmaCh_setRegBit (a i : Nat) (b : Bool) (k : Nat) : (s.setRegBit a i b).dmaCh k = s.dmaCh k := rfl
@[simp] theorem State.memPort_setRegBit (a i : Nat) (b : Bool) (k : Nat) : (s.setRegBit a i b).memPort k = s.memPort k := rfl
@[simp] theorem State.cfg_setRegBit (a i : Nat) (b : Bool) (k : Nat) : (s.setRegBit a i b).cfg k = s.cfg k := rfl
@[simp] theorem State.port_bump32 (a n : Nat) (k : Nat) : (s.bump32 a n).port k = s.port k := rfl
@[simp] theorem State.partner_bump32 (a n : Nat) (k : Nat) : (s.bump32 a n).partner k = s.partner k := rfl
@[simp] theorem State.seq_bump32 (a n : Nat) (k : Nat) : (s.bump32 a n).seq k = s.seq k := rfl
@[simp] theorem State.ctx_bump32 (a n : Nat) (k : Nat) : (s.bump32 a n).ctx k = s.ctx k := rfl
@[simp] theorem State.rnd_bump32 (a n : Nat) (k : Nat) : (s.bump32 a n).rnd k = s.rnd k := rfl
@[simp] theorem State.unit_bump32 (a n : Nat) (k : Nat) : (s.bump32 a n).unit k = s.unit k := rfl
@[simp] theorem State.slot_bump32 (a n : Nat) (k : Nat) : (s.bump32 a n).slot k = s.slot k := rfl
@[simp] theorem State.dmaCh_bump32 (a n : Nat) (k : Nat) : (s.bump32 a n).dmaCh k = s.dmaCh k := rfl
@[simp] theorem State.memPort_bump32 (a n : Nat) (k : Nat) : (s.bump32 a n).memPort k = s.memPort k := rfl
@[simp] theorem State.cfg_bump32 (a n : Nat) (k : Nat) : (s.bump32 a n).cfg k = s.cfg k := rfl
@[simp] theorem State.port_setPair (a v : Nat) (k : Nat) : (s.setPair a v).port k = s.port k := rfl
@[simp] theorem State.partner_setPair (a v : Nat) (k : Nat) : (s.setPair a v).partner k = s.partner k := rfl
@[simp] theorem State.seq_setPair (a v : Nat) (k : Nat) : (s.setPair a v).seq k = s.seq k := rfl
@[simp] theorem State.ctx_setPair (a v : Nat) (k : Nat) : (s.setPair a v).ctx k = s.ctx k := rfl
@[simp] theorem State.rnd_setPair (a v : Nat) (k : Nat) : (s.setPair a v).rnd k = s.rnd k := rfl
@[simp] theorem State.unit_setPair (a v : Nat) (k : Nat) : (s.setPair a v).unit k = s.unit k := rfl
@[simp] theorem State.slot_setPair (a v : Nat) (k : Nat) : (s.setPair a v).slot k = s.slot k := rfl
@[simp] theorem State.dmaCh_setPair (a v : Nat) (k : Nat) : (s.setPair a v).dmaCh k = s.dmaCh k := rfl
@[simp] theorem State.memPort_setPair (a v : Nat) (k : Nat) : (s.setPair a v).memPort k = s.memPort k := rfl
@[simp] theorem State.cfg_setPair (a v : Nat) (k : Nat) : (s.setPair a v).cfg k = s.cfg k := rfl
@[simp] theorem State.port_bumpN (a n : Nat) (k : Nat) : (s.bumpN a n).port k = s.port k := rfl
@[simp] theorem State.partner_bumpN (a n : Nat) (k : Nat) : (s.bumpN a n).partner k = s.partner k := rfl
@[simp] theorem State.seq_bumpN (a n : Nat) (k : Nat) : (s.bumpN a n).seq k = s.seq k := rfl
@[simp] theorem State.ctx_bumpN (a n : Nat) (k : Nat) : (s.bumpN a n).ctx k = s.ctx k := rfl
@[simp] theorem State.rnd_bumpN (a n : Nat) (k : Nat) : (s.bumpN a n).rnd k = s.rnd k := rfl
@[simp] theorem State.unit_bumpN (a n : Nat) (k : Nat) : (s.bumpN a n).unit k = s.unit k := rfl
@[simp] theorem State.slot_bumpN (a n : Nat) (k : Nat) : (s.bumpN a n).slot k = s.slot k := rfl
@[simp] theorem State.dmaCh_bumpN (a n : Nat) (k : Nat) : (s.bumpN a n).dmaCh k = s.dmaCh k := rfl
@[simp] theorem State.memPort_bumpN (a n : Nat) (k : Nat) : (s.bumpN a n).memPort k = s.memPort k := rfl
@[simp] theorem State.cfg_bumpN (a n : Nat) (k : Nat) : (s.bumpN a n).cfg k = s.cfg k := rfl
@[simp] theorem State.port_bump (a : Nat) (k : Nat) : (s.bump a).port k = s.port k := rfl
@[simp] theorem State.partner_bump (a : Nat) (k : Nat) : (s.bump a).partner k = s.partner k := rfl
@[simp] theorem State.seq_bump (a : Nat) (k : Nat) : (s.bump a).seq k = s.seq k := rfl
@[simp] theorem State.ctx_bump (a : Nat) (k : Nat) : (s.bump a).ctx k = s.ctx k := rfl
@[simp] theorem State.rnd_bump (a : Nat) (k : Nat) : (s.bump a).rnd k = s.rnd k := rfl
@[simp] theorem State.unit_bump (a : Nat) (k : Nat) : (s.bump a).unit k = s.unit k := rfl
@[simp] theorem State.slot_bump (a : Nat) (k : Nat) : (s.bump a).slot k = s.slot k := rfl
@[simp] theorem State.dmaCh_bump (a : Nat) (k : Nat) : (s.bump a).dmaCh k = s.dmaCh k := rfl
@[simp] theorem State.memPort_bump (a : Nat) (k : Nat) : (s.bump a).memPort k = s.memPort k := rfl
@[simp] theorem State.cfg_bump (a : Nat) (k : Nat) : (s.bump a).cfg k = s.cfg k := rfl
@[simp] theorem State.port_discard (a : Nat) (k : Nat) : (s.discard a).port k = s.port k := rfl
@[simp] theorem State.partner_discard (a : Nat) (k : Nat) : (s.discard a).partner k = s.partner k := rfl
@[simp] theorem State.seq_discard (a : Nat) (k : Nat) : (s.discard a).seq k = s.seq k := rfl
@[simp] theorem State.ctx_discard (a : Nat) (k : Nat) : (s.discard a).ctx k = s.ctx k := rfl
@[simp] theorem State.rnd_discard (a : Nat) (k : Nat) : (s.discard a).rnd k = s.rnd k := rfl
@[simp] theorem State.unit_discard (a : Nat) (k : Nat) : (s.discard a).unit k = s.unit k := rfl
@[simp] theorem State.slot_discard (a : Nat) (k : Nat) : (s.discard a).slot k = s.slot k := rfl
@[simp] theorem State.dmaCh_discard (a : Nat) (k : Nat) : (s.discard a).dmaCh k = s.dmaCh k := rfl
@[simp] theorem State.memPort_discard (a : Nat) (k : Nat) : (s.discard a).memPort k = s.memPort k := rfl
@[simp] theorem State.cfg_discard (a : Nat) (k : Nat) : (s.discard a).cfg k = s.cfg k := rfl
@[simp] theorem State.port_setSeq (i : Nat) (q : SeqSt) (k : Nat) : (s.setSeq i q).port k = s.port k := rfl
@[simp] theorem State.partner_setSeq (i : Nat) (q : SeqSt) (k : Nat) : (s.setSeq i q).partner k = s.partner k := rfl
@[simp] theorem State.ctx_setSeq (i : Nat) (q : SeqSt) (k : Nat) : (s.setSeq i q).ctx k = s.ctx k := rfl
@[simp] theorem State.rnd_setSeq (i : Nat) (q : SeqSt) (k : Nat) : (s.setSeq i q).rnd k = s.rnd k := rfl
@[simp] theorem State.unit_setSeq (i : Nat) (q : SeqSt) (k : Nat) : (s.setSeq i q).unit k = s.unit k := rfl
@[simp] theorem State.slot_setSeq (i : Nat) (q : SeqSt) (k : Nat) : (s.setSeq i q).slot k = s.slot k := rfl
@[simp] theorem State.dmaCh_setSeq (i : Nat) (q : SeqSt) (k : Nat) : (s.setSeq i q).dmaCh k = s.dmaCh k := rfl
@[simp] theorem State.memPort_setSeq (i : Nat) (q : SeqSt) (k : Nat) : (s.setSeq i q).memPort k = s.memPort k := rfl
@[simp] theorem State.cfg_setSeq (i : Nat) (q : SeqSt) (k : Nat) : (s.setSeq i q).cfg k = s.cfg k := rfl
@[simp] theorem State.reg_setSeq (i : Nat) (q : SeqSt) (k : Nat) : (s.setSeq i q).reg k = s.reg k := rfl
@[simp] theorem State.seq_setPort (p : Nat) (x : PortSt) (k : Nat) : (s.setPort p x).seq k = s.seq k := rfl
@[simp] theorem State.ctx_setPort (p : Nat) (x : PortSt) (k : Nat) : (s.setPort p x).ctx k = s.ctx k := rfl
@[simp] theorem State.rnd_setPort (p : Nat) (x : PortSt) (k : Nat) : (s.setPort p x).rnd k = s.rnd k := rfl
@[simp] theorem State.unit_setPort (p : Nat) (x : PortSt) (k : Nat) : (s.setPort p x).unit k = s.unit k := rfl
@[simp] theorem State.slot_setPort (p : Nat) (x : PortSt) (k : Nat) : (s.setPort p x).slot k = s.slot k := rfl
@[simp] theorem State.dmaCh_setPort (p : Nat) (x : PortSt) (k : Nat) : (s.setPort p x).dmaCh k = s.dmaCh k := rfl
@[simp] theorem State.memPort_setPort (p : Nat) (x : PortSt) (k : Nat) : (s.setPort p x).memPort k = s.memPort k := rfl
@[simp] theorem State.cfg_setPort (p : Nat) (x : PortSt) (k : Nat) : (s.setPort p x).cfg k = s.cfg k := rfl
@[simp] theorem State.reg_setPort (p : Nat) (x : PortSt) (k : Nat) : (s.setPort p x).reg k = s.reg k := rfl
@[simp] theorem State.seq_setPartner (n : Nat) (x : PartnerSt) (k : Nat) : (s.setPartner n x).seq k = s.seq k := rfl
@[simp] theorem State.ctx_setPartner (n : Nat) (x : PartnerSt) (k : Nat) : (s.setPartner n x).ctx k = s.ctx k := rfl
@[simp] theorem State.rnd_setPartner (n : Nat) (x : PartnerSt) (k : Nat) : (s.setPartner n x).rnd k = s.rnd k := rfl
@[simp] theorem State.unit_setPartner (n : Nat) (x : PartnerSt) (k : Nat) : (s.setPartner n x).unit k = s.unit k := rfl
@[simp] theorem State.slot_setPartner (n : Nat) (x : PartnerSt) (k : Nat) : (s.setPartner n x).slot k = s.slot k := rfl
@[simp] theorem State.dmaCh_setPartner (n : Nat) (x : PartnerSt) (k : Nat) : (s.setPartner n x).dmaCh k = s.dmaCh k := rfl
@[simp] theorem State.memPort_setPartner (n : Nat) (x : PartnerSt) (k : Nat) : (s.setPartner n x).memPort k = s.memPort k := rfl
@[simp] theorem State.cfg_setPartner (n : Nat) (x : PartnerSt) (k : Nat) : (s.setPartner n x).cfg k = s.cfg k := rfl
@[simp] theorem State.reg_setPartner (n : Nat) (x : PartnerSt) (k : Nat) : (s.setPartner n x).reg k = s.reg k := rfl
@[simp] theorem State.port_setCtx (n : Nat) (x : CtxSt) (k : Nat) : (s.setCtx n x).port k = s.port k := rfl
@[simp] theorem State.partner_setCtx (n : Nat) (x : CtxSt) (k : Nat) : (s.setCtx n x).partner k = s.partner k := rfl
@[simp] theorem State.seq_setCtx (n : Nat) (x : CtxSt) (k : Nat) : (s.setCtx n x).seq k = s.seq k := rfl
@[simp] theorem State.rnd_setCtx (n : Nat) (x : CtxSt) (k : Nat) : (s.setCtx n x).rnd k = s.rnd k := rfl
@[simp] theorem State.unit_setCtx (n : Nat) (x : CtxSt) (k : Nat) : (s.setCtx n x).unit k = s.unit k := rfl
@[simp] theorem State.slot_setCtx (n : Nat) (x : CtxSt) (k : Nat) : (s.setCtx n x).slot k = s.slot k := rfl
@[simp] theorem State.dmaCh_setCtx (n : Nat) (x : CtxSt) (k : Nat) : (s.setCtx n x).dmaCh k = s.dmaCh k := rfl
@[simp] theorem State.memPort_setCtx (n : Nat) (x : CtxSt) (k : Nat) : (s.setCtx n x).memPort k = s.memPort k := rfl
@[simp] theorem State.cfg_setCtx (n : Nat) (x : CtxSt) (k : Nat) : (s.setCtx n x).cfg k = s.cfg k := rfl
@[simp] theorem State.reg_setCtx (n : Nat) (x : CtxSt) (k : Nat) : (s.setCtx n x).reg k = s.reg k := rfl
@[simp] theorem State.port_setRnd (n : Nat) (x : RndSt) (k : Nat) : (s.setRnd n x).port k = s.port k := rfl
@[simp] theorem State.partner_setRnd (n : Nat) (x : RndSt) (k : Nat) : (s.setRnd n x).partner k = s.partner k := rfl
@[simp] theorem State.seq_setRnd (n : Nat) (x : RndSt) (k : Nat) : (s.setRnd n x).seq k = s.seq k := rfl
@[simp] theorem State.ctx_setRnd (n : Nat) (x : RndSt) (k : Nat) : (s.setRnd n x).ctx k = s.ctx k := rfl
@[simp] theorem State.unit_setRnd (n : Nat) (x : RndSt) (k : Nat) : (s.setRnd n x).unit k = s.unit k := rfl
@[simp] theorem State.slot_setRnd (n : Nat) (x : RndSt) (k : Nat) : (s.setRnd n x).slot k = s.slot k := rfl
@[simp] theorem State.dmaCh_setRnd (n : Nat) (x : RndSt) (k : Nat) : (s.setRnd n x).dmaCh k = s.dmaCh k := rfl
@[simp] theorem State.memPort_setRnd (n : Nat) (x : RndSt) (k : Nat) : (s.setRnd n x).memPort k = s.memPort k := rfl
@[simp] theorem State.cfg_setRnd (n : Nat) (x : RndSt) (k : Nat) : (s.setRnd n x).cfg k = s.cfg k := rfl
@[simp] theorem State.reg_setRnd (n : Nat) (x : RndSt) (k : Nat) : (s.setRnd n x).reg k = s.reg k := rfl
@[simp] theorem State.port_setUnit (a : Nat) (x : UnitSt) (k : Nat) : (s.setUnit a x).port k = s.port k := rfl
@[simp] theorem State.partner_setUnit (a : Nat) (x : UnitSt) (k : Nat) : (s.setUnit a x).partner k = s.partner k := rfl
@[simp] theorem State.seq_setUnit (a : Nat) (x : UnitSt) (k : Nat) : (s.setUnit a x).seq k = s.seq k := rfl
@[simp] theorem State.ctx_setUnit (a : Nat) (x : UnitSt) (k : Nat) : (s.setUnit a x).ctx k = s.ctx k := rfl
@[simp] theorem State.rnd_setUnit (a : Nat) (x : UnitSt) (k : Nat) : (s.setUnit a x).rnd k = s.rnd k := rfl
@[simp] theorem State.slot_setUnit (a : Nat) (x : UnitSt) (k : Nat) : (s.setUnit a x).slot k = s.slot k := rfl
@[simp] theorem State.dmaCh_setUnit (a : Nat) (x : UnitSt) (k : Nat) : (s.setUnit a x).dmaCh k = s.dmaCh k := rfl
@[simp] theorem State.memPort_setUnit (a : Nat) (x : UnitSt) (k : Nat) : (s.setUnit a x).memPort k = s.memPort k := rfl
@[simp] theorem State.cfg_setUnit (a : Nat) (x : UnitSt) (k : Nat) : (s.setUnit a x).cfg k = s.cfg k := rfl
@[simp] theorem State.reg_setUnit (a : Nat) (x : UnitSt) (k : Nat) : (s.setUnit a x).reg k = s.reg k := rfl
@[simp] theorem State.port_setSlot (n : Nat) (x : SealSlot) (k : Nat) : (s.setSlot n x).port k = s.port k := rfl
@[simp] theorem State.partner_setSlot (n : Nat) (x : SealSlot) (k : Nat) : (s.setSlot n x).partner k = s.partner k := rfl
@[simp] theorem State.seq_setSlot (n : Nat) (x : SealSlot) (k : Nat) : (s.setSlot n x).seq k = s.seq k := rfl
@[simp] theorem State.ctx_setSlot (n : Nat) (x : SealSlot) (k : Nat) : (s.setSlot n x).ctx k = s.ctx k := rfl
@[simp] theorem State.rnd_setSlot (n : Nat) (x : SealSlot) (k : Nat) : (s.setSlot n x).rnd k = s.rnd k := rfl
@[simp] theorem State.unit_setSlot (n : Nat) (x : SealSlot) (k : Nat) : (s.setSlot n x).unit k = s.unit k := rfl
@[simp] theorem State.dmaCh_setSlot (n : Nat) (x : SealSlot) (k : Nat) : (s.setSlot n x).dmaCh k = s.dmaCh k := rfl
@[simp] theorem State.memPort_setSlot (n : Nat) (x : SealSlot) (k : Nat) : (s.setSlot n x).memPort k = s.memPort k := rfl
@[simp] theorem State.cfg_setSlot (n : Nat) (x : SealSlot) (k : Nat) : (s.setSlot n x).cfg k = s.cfg k := rfl
@[simp] theorem State.reg_setSlot (n : Nat) (x : SealSlot) (k : Nat) : (s.setSlot n x).reg k = s.reg k := rfl
@[simp] theorem State.seq_setSess (x : KtSess) (k : Nat) : (s.setSess x).seq k = s.seq k := rfl
@[simp] theorem State.ctx_setSess (x : KtSess) (k : Nat) : (s.setSess x).ctx k = s.ctx k := rfl
@[simp] theorem State.rnd_setSess (x : KtSess) (k : Nat) : (s.setSess x).rnd k = s.rnd k := rfl
@[simp] theorem State.unit_setSess (x : KtSess) (k : Nat) : (s.setSess x).unit k = s.unit k := rfl
@[simp] theorem State.slot_setSess (x : KtSess) (k : Nat) : (s.setSess x).slot k = s.slot k := rfl
@[simp] theorem State.dmaCh_setSess (x : KtSess) (k : Nat) : (s.setSess x).dmaCh k = s.dmaCh k := rfl
@[simp] theorem State.memPort_setSess (x : KtSess) (k : Nat) : (s.setSess x).memPort k = s.memPort k := rfl
@[simp] theorem State.cfg_setSess (x : KtSess) (k : Nat) : (s.setSess x).cfg k = s.cfg k := rfl
@[simp] theorem State.reg_setSess (x : KtSess) (k : Nat) : (s.setSess x).reg k = s.reg k := rfl
@[simp] theorem State.seq_dropSess (c p i : Nat) (k : Nat) : (s.dropSess c p i).seq k = s.seq k := rfl
@[simp] theorem State.ctx_dropSess (c p i : Nat) (k : Nat) : (s.dropSess c p i).ctx k = s.ctx k := rfl
@[simp] theorem State.rnd_dropSess (c p i : Nat) (k : Nat) : (s.dropSess c p i).rnd k = s.rnd k := rfl
@[simp] theorem State.unit_dropSess (c p i : Nat) (k : Nat) : (s.dropSess c p i).unit k = s.unit k := rfl
@[simp] theorem State.slot_dropSess (c p i : Nat) (k : Nat) : (s.dropSess c p i).slot k = s.slot k := rfl
@[simp] theorem State.dmaCh_dropSess (c p i : Nat) (k : Nat) : (s.dropSess c p i).dmaCh k = s.dmaCh k := rfl
@[simp] theorem State.memPort_dropSess (c p i : Nat) (k : Nat) : (s.dropSess c p i).memPort k = s.memPort k := rfl
@[simp] theorem State.cfg_dropSess (c p i : Nat) (k : Nat) : (s.dropSess c p i).cfg k = s.cfg k := rfl
@[simp] theorem State.reg_dropSess (c p i : Nat) (k : Nat) : (s.dropSess c p i).reg k = s.reg k := rfl
@[simp] theorem State.port_setDmaCh (n : Nat) (x : DmaCh) (k : Nat) : (s.setDmaCh n x).port k = s.port k := rfl
@[simp] theorem State.partner_setDmaCh (n : Nat) (x : DmaCh) (k : Nat) : (s.setDmaCh n x).partner k = s.partner k := rfl
@[simp] theorem State.seq_setDmaCh (n : Nat) (x : DmaCh) (k : Nat) : (s.setDmaCh n x).seq k = s.seq k := rfl
@[simp] theorem State.ctx_setDmaCh (n : Nat) (x : DmaCh) (k : Nat) : (s.setDmaCh n x).ctx k = s.ctx k := rfl
@[simp] theorem State.rnd_setDmaCh (n : Nat) (x : DmaCh) (k : Nat) : (s.setDmaCh n x).rnd k = s.rnd k := rfl
@[simp] theorem State.unit_setDmaCh (n : Nat) (x : DmaCh) (k : Nat) : (s.setDmaCh n x).unit k = s.unit k := rfl
@[simp] theorem State.slot_setDmaCh (n : Nat) (x : DmaCh) (k : Nat) : (s.setDmaCh n x).slot k = s.slot k := rfl
@[simp] theorem State.memPort_setDmaCh (n : Nat) (x : DmaCh) (k : Nat) : (s.setDmaCh n x).memPort k = s.memPort k := rfl
@[simp] theorem State.cfg_setDmaCh (n : Nat) (x : DmaCh) (k : Nat) : (s.setDmaCh n x).cfg k = s.cfg k := rfl
@[simp] theorem State.reg_setDmaCh (n : Nat) (x : DmaCh) (k : Nat) : (s.setDmaCh n x).reg k = s.reg k := rfl
@[simp] theorem State.port_setMemPort (n : Nat) (x : MemPort) (k : Nat) : (s.setMemPort n x).port k = s.port k := rfl
@[simp] theorem State.partner_setMemPort (n : Nat) (x : MemPort) (k : Nat) : (s.setMemPort n x).partner k = s.partner k := rfl
@[simp] theorem State.seq_setMemPort (n : Nat) (x : MemPort) (k : Nat) : (s.setMemPort n x).seq k = s.seq k := rfl
@[simp] theorem State.ctx_setMemPort (n : Nat) (x : MemPort) (k : Nat) : (s.setMemPort n x).ctx k = s.ctx k := rfl
@[simp] theorem State.rnd_setMemPort (n : Nat) (x : MemPort) (k : Nat) : (s.setMemPort n x).rnd k = s.rnd k := rfl
@[simp] theorem State.unit_setMemPort (n : Nat) (x : MemPort) (k : Nat) : (s.setMemPort n x).unit k = s.unit k := rfl
@[simp] theorem State.slot_setMemPort (n : Nat) (x : MemPort) (k : Nat) : (s.setMemPort n x).slot k = s.slot k := rfl
@[simp] theorem State.dmaCh_setMemPort (n : Nat) (x : MemPort) (k : Nat) : (s.setMemPort n x).dmaCh k = s.dmaCh k := rfl
@[simp] theorem State.cfg_setMemPort (n : Nat) (x : MemPort) (k : Nat) : (s.setMemPort n x).cfg k = s.cfg k := rfl
@[simp] theorem State.reg_setMemPort (n : Nat) (x : MemPort) (k : Nat) : (s.setMemPort n x).reg k = s.reg k := rfl
@[simp] theorem State.port_setOtp (x : Otp) (k : Nat) : (s.setOtp x).port k = s.port k := rfl
@[simp] theorem State.partner_setOtp (x : Otp) (k : Nat) : (s.setOtp x).partner k = s.partner k := rfl
@[simp] theorem State.seq_setOtp (x : Otp) (k : Nat) : (s.setOtp x).seq k = s.seq k := rfl
@[simp] theorem State.ctx_setOtp (x : Otp) (k : Nat) : (s.setOtp x).ctx k = s.ctx k := rfl
@[simp] theorem State.rnd_setOtp (x : Otp) (k : Nat) : (s.setOtp x).rnd k = s.rnd k := rfl
@[simp] theorem State.unit_setOtp (x : Otp) (k : Nat) : (s.setOtp x).unit k = s.unit k := rfl
@[simp] theorem State.slot_setOtp (x : Otp) (k : Nat) : (s.setOtp x).slot k = s.slot k := rfl
@[simp] theorem State.dmaCh_setOtp (x : Otp) (k : Nat) : (s.setOtp x).dmaCh k = s.dmaCh k := rfl
@[simp] theorem State.memPort_setOtp (x : Otp) (k : Nat) : (s.setOtp x).memPort k = s.memPort k := rfl
@[simp] theorem State.cfg_setOtp (x : Otp) (k : Nat) : (s.setOtp x).cfg k = s.cfg k := rfl
@[simp] theorem State.reg_setOtp (x : Otp) (k : Nat) : (s.setOtp x).reg k = s.reg k := rfl
@[simp] theorem State.port_transmit (p : Nat) (f : OutFrame) (k : Nat) : (s.transmit p f).port k = s.port k := rfl
@[simp] theorem State.partner_transmit (p : Nat) (f : OutFrame) (k : Nat) : (s.transmit p f).partner k = s.partner k := rfl
@[simp] theorem State.seq_transmit (p : Nat) (f : OutFrame) (k : Nat) : (s.transmit p f).seq k = s.seq k := rfl
@[simp] theorem State.ctx_transmit (p : Nat) (f : OutFrame) (k : Nat) : (s.transmit p f).ctx k = s.ctx k := rfl
@[simp] theorem State.rnd_transmit (p : Nat) (f : OutFrame) (k : Nat) : (s.transmit p f).rnd k = s.rnd k := rfl
@[simp] theorem State.unit_transmit (p : Nat) (f : OutFrame) (k : Nat) : (s.transmit p f).unit k = s.unit k := rfl
@[simp] theorem State.slot_transmit (p : Nat) (f : OutFrame) (k : Nat) : (s.transmit p f).slot k = s.slot k := rfl
@[simp] theorem State.dmaCh_transmit (p : Nat) (f : OutFrame) (k : Nat) : (s.transmit p f).dmaCh k = s.dmaCh k := rfl
@[simp] theorem State.memPort_transmit (p : Nat) (f : OutFrame) (k : Nat) : (s.transmit p f).memPort k = s.memPort k := rfl
@[simp] theorem State.cfg_transmit (p : Nat) (f : OutFrame) (k : Nat) : (s.transmit p f).cfg k = s.cfg k := rfl
@[simp] theorem State.port_setCause (n : Nat) (b : Bool) (k : Nat) : (s.setCause n b).port k = s.port k := rfl
@[simp] theorem State.partner_setCause (n : Nat) (b : Bool) (k : Nat) : (s.setCause n b).partner k = s.partner k := rfl
@[simp] theorem State.seq_setCause (n : Nat) (b : Bool) (k : Nat) : (s.setCause n b).seq k = s.seq k := rfl
@[simp] theorem State.ctx_setCause (n : Nat) (b : Bool) (k : Nat) : (s.setCause n b).ctx k = s.ctx k := rfl
@[simp] theorem State.rnd_setCause (n : Nat) (b : Bool) (k : Nat) : (s.setCause n b).rnd k = s.rnd k := rfl
@[simp] theorem State.unit_setCause (n : Nat) (b : Bool) (k : Nat) : (s.setCause n b).unit k = s.unit k := rfl
@[simp] theorem State.slot_setCause (n : Nat) (b : Bool) (k : Nat) : (s.setCause n b).slot k = s.slot k := rfl
@[simp] theorem State.dmaCh_setCause (n : Nat) (b : Bool) (k : Nat) : (s.setCause n b).dmaCh k = s.dmaCh k := rfl
@[simp] theorem State.memPort_setCause (n : Nat) (b : Bool) (k : Nat) : (s.setCause n b).memPort k = s.memPort k := rfl
@[simp] theorem State.cfg_setCause (n : Nat) (b : Bool) (k : Nat) : (s.setCause n b).cfg k = s.cfg k := rfl
@[simp] theorem State.port_clearRanges (rs : List (Nat × Nat)) (k : Nat) : (s.clearRanges rs).port k = s.port k := rfl
@[simp] theorem State.partner_clearRanges (rs : List (Nat × Nat)) (k : Nat) : (s.clearRanges rs).partner k = s.partner k := rfl
@[simp] theorem State.seq_clearRanges (rs : List (Nat × Nat)) (k : Nat) : (s.clearRanges rs).seq k = s.seq k := rfl
@[simp] theorem State.ctx_clearRanges (rs : List (Nat × Nat)) (k : Nat) : (s.clearRanges rs).ctx k = s.ctx k := rfl
@[simp] theorem State.rnd_clearRanges (rs : List (Nat × Nat)) (k : Nat) : (s.clearRanges rs).rnd k = s.rnd k := rfl
@[simp] theorem State.unit_clearRanges (rs : List (Nat × Nat)) (k : Nat) : (s.clearRanges rs).unit k = s.unit k := rfl
@[simp] theorem State.slot_clearRanges (rs : List (Nat × Nat)) (k : Nat) : (s.clearRanges rs).slot k = s.slot k := rfl
@[simp] theorem State.dmaCh_clearRanges (rs : List (Nat × Nat)) (k : Nat) : (s.clearRanges rs).dmaCh k = s.dmaCh k := rfl
@[simp] theorem State.memPort_clearRanges (rs : List (Nat × Nat)) (k : Nat) : (s.clearRanges rs).memPort k = s.memPort k := rfl
@[simp] theorem State.cfg_clearRanges (rs : List (Nat × Nat)) (k : Nat) : (s.clearRanges rs).cfg k = s.cfg k := rfl
@[simp] theorem State.partner_setPort (p : Nat) (x : PortSt) (k : Nat) : (s.setPort p x).partner k = s.partner k := rfl
@[simp] theorem State.port_setPartner (p : Nat) (x : PartnerSt) (k : Nat) : (s.setPartner p x).port k = s.port k := rfl
@[simp] theorem State.port_setSess (x : KtSess) (k : Nat) : (s.setSess x).port k = s.port k := rfl
@[simp] theorem State.partner_setSess (x : KtSess) (k : Nat) : (s.setSess x).partner k = s.partner k := rfl
@[simp] theorem State.port_dropSess (c p i : Nat) (k : Nat) : (s.dropSess c p i).port k = s.port k := rfl
@[simp] theorem State.partner_dropSess (c p i : Nat) (k : Nat) : (s.dropSess c p i).partner k = s.partner k := rfl
@[simp] theorem State.ctx_setCtx_same (k : Nat) (x : CtxSt) : (s.setCtx k x).ctx k = x := tget_tput_same _ _ _ _
theorem State.ctx_setCtx_other (j k : Nat) (x : CtxSt) (h : j ≠ k) : (s.setCtx k x).ctx j = s.ctx j := tget_tput_other _ _ _ _ _ h
@[simp] theorem State.rnd_setRnd_same (k : Nat) (x : RndSt) : (s.setRnd k x).rnd k = x := tget_tput_same _ _ _ _
theorem State.rnd_setRnd_other (j k : Nat) (x : RndSt) (h : j ≠ k) : (s.setRnd k x).rnd j = s.rnd j := tget_tput_other _ _ _ _ _ h
@[simp] theorem State.unit_setUnit_same (k : Nat) (x : UnitSt) : (s.setUnit k x).unit k = x := tget_tput_same _ _ _ _
theorem State.unit_setUnit_other (j k : Nat) (x : UnitSt) (h : j ≠ k) : (s.setUnit k x).unit j = s.unit j := tget_tput_other _ _ _ _ _ h
@[simp] theorem State.slot_setSlot_same (k : Nat) (x : SealSlot) : (s.setSlot k x).slot k = x := tget_tput_same _ _ _ _
theorem State.slot_setSlot_other (j k : Nat) (x : SealSlot) (h : j ≠ k) : (s.setSlot k x).slot j = s.slot j := tget_tput_other _ _ _ _ _ h
@[simp] theorem State.dmaCh_setDmaCh_same (k : Nat) (x : DmaCh) : (s.setDmaCh k x).dmaCh k = x := tget_tput_same _ _ _ _
theorem State.dmaCh_setDmaCh_other (j k : Nat) (x : DmaCh) (h : j ≠ k) : (s.setDmaCh k x).dmaCh j = s.dmaCh j := tget_tput_other _ _ _ _ _ h
@[simp] theorem State.memPort_setMemPort_same (k : Nat) (x : MemPort) : (s.setMemPort k x).memPort k = x := tget_tput_same _ _ _ _
theorem State.memPort_setMemPort_other (j k : Nat) (x : MemPort) (h : j ≠ k) : (s.setMemPort k x).memPort j = s.memPort j := tget_tput_other _ _ _ _ _ h
@[simp] theorem State.seq_setSeq_same (k : Nat) (x : SeqSt) : (s.setSeq k x).seq k = x := tget_tput_same _ _ _ _
theorem State.seq_setSeq_other (j k : Nat) (x : SeqSt) (h : j ≠ k) : (s.setSeq k x).seq j = s.seq j := tget_tput_other _ _ _ _ _ h
@[simp] theorem State.partner_setPartner_same (k : Nat) (x : PartnerSt) : (s.setPartner k x).partner k = x := tget_tput_same _ _ _ _
theorem State.partner_setPartner_other (j k : Nat) (x : PartnerSt) (h : j ≠ k) : (s.setPartner k x).partner j = s.partner j := tget_tput_other _ _ _ _ _ h
@[simp] theorem State.port_setPort_same (k : Nat) (x : PortSt) : (s.setPort k x).port k = x := tget_tput_same _ _ _ _
theorem State.port_setPort_other (j k : Nat) (x : PortSt) (h : j ≠ k) : (s.setPort k x).port j = s.port j := tget_tput_other _ _ _ _ _ h

end Readers

section Registers
variable (s : State)

@[simp] theorem State.reg_setReg_same (a : Nat) (v : Word) : (s.setReg a v).reg a = v := tget_tput_same _ _ _ _

theorem State.reg_setReg_other (a b : Nat) (v : Word) (h : b ≠ a) : (s.setReg a v).reg b = s.reg b := tget_tput_other _ _ _ _ _ h

theorem State.reg_setReg (a b : Nat) (v : Word) : (s.setReg a v).reg b = if b = a then v else s.reg b := by
  by_cases h : b = a
  · subst h
    simp
  · rw [if_neg h, State.reg_setReg_other s a b v h]

theorem State.reg_setRegF (a lo w x b : Nat) : (s.setRegF a lo w x).reg b = if b = a then setFld (s.reg a) lo w x else s.reg b :=
  State.reg_setReg s a b _

theorem State.reg_setRegBit (a i : Nat) (x : Bool) (b : Nat) :
    (s.setRegBit a i x).reg b = if b = a then setFld (s.reg a) i 1 (if x then 1 else 0) else s.reg b :=
  State.reg_setReg s a b _

theorem State.reg_bump32 (a n b : Nat) :
    (s.bump32 a n).reg b = if b = a then BitVec.ofNat 32 (min 0xFFFFFFFF ((s.reg a).toNat + n)) else s.reg b :=
  State.reg_setReg s a b _

theorem State.reg_setPair_other (a v b : Nat) (h1 : b ≠ a) (h2 : b ≠ a + 4) : (s.setPair a v).reg b = s.reg b := by
  unfold State.setPair
  rw [State.reg_setReg_other _ _ _ _ h2, State.reg_setReg_other _ _ _ _ h1]

theorem State.reg_bumpN_other (a n b : Nat) (h1 : b ≠ a) (h2 : b ≠ a + 4) : (s.bumpN a n).reg b = s.reg b :=
  State.reg_setPair_other s a _ b h1 h2

theorem State.reg_bump_other (a b : Nat) (h1 : b ≠ a) (h2 : b ≠ a + 4) : (s.bump a).reg b = s.reg b :=
  State.reg_setPair_other s a _ b h1 h2

theorem State.reg_discard_other (a b : Nat) (h1 : b ≠ a) (h2 : b ≠ a + 4) : (s.discard a).reg b = s.reg b :=
  State.reg_setPair_other s a _ b h1 h2

/-- A register pair holds the 64-bit quantity stored in it. -/
theorem State.pair_setPair (a v : Nat) (h : v < 2 ^ 64) : (s.setPair a v).pair a = v := by
  unfold State.pair State.setPair
  rw [State.reg_setReg_other _ _ _ _ (by omega), State.reg_setReg_same, State.reg_setReg_same]
  simp only [BitVec.toNat_ofNat]
  omega

theorem State.pair_lt (a : Nat) : s.pair a < 2 ^ 64 := by
  unfold State.pair
  have h1 := (s.reg a).isLt
  have h2 := (s.reg (a + 4)).isLt
  omega

/-- A 64-bit counter counts and saturates (R10, R11). -/
theorem State.pair_bumpN (a n : Nat) : (s.bumpN a n).pair a = min 0xFFFFFFFFFFFFFFFF (s.pair a + n) :=
  State.pair_setPair s a _ (by omega)

theorem State.pair_bump (a : Nat) : (s.bump a).pair a = min 0xFFFFFFFFFFFFFFFF (s.pair a + 1) := State.pair_bumpN s a 1

theorem State.pair_discard (a : Nat) : (s.discard a).pair a = min 0xFFFFFFFFFFFFFFFF (s.pair a + 1) := State.pair_bumpN s a 1

theorem State.pair_congr (t : State) (a : Nat) (h1 : t.reg a = s.reg a) (h2 : t.reg (a + 4) = s.reg (a + 4)) : t.pair a = s.pair a := by
  unfold State.pair
  rw [h1, h2]

end Registers

section Words

/-- A bit of a word with a field replaced. -/
theorem getLsbD_setFld (v : Word) (lo w x i : Nat) :
    (setFld v lo w x).getLsbD i = if lo ≤ i ∧ i < lo + w ∧ i < 32 then x.testBit (i - lo) else v.getLsbD i := by
  unfold setFld
  by_cases hi : i < 32
  · simp only [BitVec.getLsbD_or, BitVec.getLsbD_and, BitVec.getLsbD_not, hi, decide_true, Bool.true_and, BitVec.getLsbD_ofNat,
      Nat.testBit_mul_two_pow, Nat.testBit_two_pow_sub_one, and_true]
    by_cases h1 : lo ≤ i
    · by_cases h2 : i < lo + w
      · have h3 : i - lo < w := by omega
        simp [h1, h2, h3]
      · have h3 : ¬ i - lo < w := by omega
        simp [h1, h2, h3]
    · simp [h1]
  · have h1 : ¬ (lo ≤ i ∧ i < lo + w ∧ i < 32) := fun h => hi h.2.2
    rw [if_neg h1, BitVec.getLsbD_of_ge _ _ (by omega), BitVec.getLsbD_of_ge _ _ (by omega)]

/-- A field of a word, by its bits. -/
theorem testBit_fld (v : Word) (lo w i : Nat) : (fld v lo w).testBit i = (decide (i < w) && v.getLsbD (lo + i)) := by
  unfold fld
  rw [Nat.testBit_mod_two_pow, Nat.testBit_div_two_pow, BitVec.getLsbD, Nat.add_comm]

/-- Reading the field just written. -/
theorem fld_setFld_same (v : Word) (lo w x : Nat) (h : lo + w ≤ 32) : fld (setFld v lo w x) lo w = x % 2 ^ w := by
  apply Nat.eq_of_testBit_eq
  intro i
  rw [testBit_fld, getLsbD_setFld, Nat.testBit_mod_two_pow]
  by_cases hi : i < w
  · have h1 : lo ≤ lo + i ∧ lo + i < lo + w ∧ lo + i < 32 := ⟨by omega, by omega, by omega⟩
    rw [if_pos h1, Nat.add_sub_cancel_left]
  · simp [hi]

/-- Reading another field. -/
theorem fld_setFld_other (v : Word) (lo w x lo' w' : Nat) (h : lo' + w' ≤ lo ∨ lo + w ≤ lo') :
    fld (setFld v lo w x) lo' w' = fld v lo' w' := by
  apply Nat.eq_of_testBit_eq
  intro i
  rw [testBit_fld, testBit_fld, getLsbD_setFld]
  by_cases hi : i < w'
  · have h1 : ¬ (lo ≤ lo' + i ∧ lo' + i < lo + w ∧ lo' + i < 32) := by omega
    rw [if_neg h1]
  · simp [hi]

end Words

section Bits
variable (s : State)

theorem State.regBit_setRegBit_same (a i : Nat) (b : Bool) (h : i < 32) : (s.setRegBit a i b).regBit a i = b := by
  unfold State.regBit
  rw [State.reg_setRegBit, if_pos rfl, getLsbD_setFld, if_pos ⟨Nat.le_refl i, by omega, h⟩]
  cases b <;> simp

theorem State.regBit_setRegBit_bit (a i j : Nat) (b : Bool) (h : j ≠ i) : (s.setRegBit a i b).regBit a j = s.regBit a j := by
  unfold State.regBit
  rw [State.reg_setRegBit, if_pos rfl, getLsbD_setFld, if_neg (by omega)]

theorem State.regBit_setRegF_other (a lo w x j : Nat) (h : j < lo ∨ lo + w ≤ j) : (s.setRegF a lo w x).regBit a j = s.regBit a j := by
  unfold State.regBit
  rw [State.reg_setRegF, if_pos rfl, getLsbD_setFld, if_neg (by omega)]

theorem State.regF_setRegF_same (a lo w x : Nat) (h : lo + w ≤ 32) : (s.setRegF a lo w x).regF a lo w = x % 2 ^ w := by
  unfold State.regF
  rw [State.reg_setRegF, if_pos rfl, fld_setFld_same _ _ _ _ h]

theorem State.regF_setRegF_other (a lo w x lo' w' : Nat) (h : lo' + w' ≤ lo ∨ lo + w ≤ lo') :
    (s.setRegF a lo w x).regF a lo' w' = s.regF a lo' w' := by
  unfold State.regF
  rw [State.reg_setRegF, if_pos rfl, fld_setFld_other _ _ _ _ _ _ h]

end Bits

end Sys2Proof.Machine
end

