-- ==== Sys2Proof/Laws/Events.lean ====
section
/-!
SUPPORT. What raising events can do (R397 to R400, R409): it changes the list of pending events and the three counters of the interrupt controller, and
nothing else.
-/
set_option Elab.async false

namespace Sys2Proof.Machine

/-- Only events and their counters differ. -/
def EvOnly (s t : State) : Prop :=
  ∃ r e, t = { s with regs := r, ctl := { s.ctl with events := e } } ∧ ∀ a, a ∉ evRegs → tget regReset r a = s.reg a

theorem RegsBut.refl (s : State) (l : List Nat) : RegsBut s s l := fun _ _ => rfl

theorem RegsBut.mono {s t : State} {l m : List Nat} (h : RegsBut s t l) (hs : ∀ a, a ∈ l → a ∈ m) : RegsBut s t m :=
  fun a ha => h a (fun hl => ha (hs a hl))

theorem RegsBut.trans {s t u : State} {l : List Nat} (h1 : RegsBut s t l) (h2 : RegsBut t u l) : RegsBut s u l :=
  fun a ha => (h2 a ha).trans (h1 a ha)

theorem RegsBut.of_regs {s t : State} (l : List Nat) (h : t.regs = s.regs) : RegsBut s t l := by
  intro a _
  unfold State.reg
  rw [h]

section Backward
variable {s t : State} {l : List Nat} (h : RegsBut s t l)
include h

theorem RegsBut.setReg (a : Nat) (v : Word) (ha : a ∈ l) : RegsBut s (t.setReg a v) l :=
  fun b hb => (State.reg_setReg_other t a b v (fun e => hb (e ▸ ha))).trans (h b hb)

theorem RegsBut.setRegF (a lo w x : Nat) (ha : a ∈ l) : RegsBut s (t.setRegF a lo w x) l := h.setReg a _ ha

theorem RegsBut.setRegBit (a i : Nat) (b : Bool) (ha : a ∈ l) : RegsBut s (t.setRegBit a i b) l := h.setReg a _ ha

theorem RegsBut.bump32 (a n : Nat) (ha : a ∈ l) : RegsBut s (t.bump32 a n) l := h.setReg a _ ha

theorem RegsBut.setPair (a v : Nat) (h1 : a ∈ l) (h2 : a + 4 ∈ l) : RegsBut s (t.setPair a v) l := (h.setReg a _ h1).setReg (a + 4) _ h2

theorem RegsBut.bumpN (a n : Nat) (h1 : a ∈ l) (h2 : a + 4 ∈ l) : RegsBut s (t.bumpN a n) l := h.setPair a _ h1 h2

theorem RegsBut.bump (a : Nat) (h1 : a ∈ l) (h2 : a + 4 ∈ l) : RegsBut s (t.bump a) l := h.setPair a _ h1 h2

theorem RegsBut.regs_eq {u : State} (e : u.regs = t.regs) : RegsBut s u l := by
  intro a ha
  have := h a ha
  unfold State.reg at this ⊢
  rw [e]
  exact this

theorem RegsBut.setPort (p : Nat) (x : PortSt) : RegsBut s (t.setPort p x) l := h

theorem RegsBut.ite {u : State} {c : Prop} [Decidable c] (h2 : RegsBut s u l) : RegsBut s (if c then t else u) l := by
  split <;> assumption

theorem RegsBut.foldl {α : Type} {f : State → α → State} (m : List α) (hf : ∀ u a, RegsBut s u l → RegsBut s (f u a) l) :
    RegsBut s (m.foldl f t) l := by
  induction m generalizing t with
  | nil => exact h
  | cons a m ih => exact ih (hf t a h)

end Backward

theorem RegsBut.reg {s t : State} {l : List Nat} (h : RegsBut s t l) (a : Nat) (ha : a ∉ l) : t.reg a = s.reg a := h a ha

theorem RegsBut.pair {s t : State} {l : List Nat} (h : RegsBut s t l) (a : Nat) (h1 : a ∉ l) (h2 : a + 4 ∉ l) : t.pair a = s.pair a :=
  State.pair_congr s t a (h a h1) (h (a + 4) h2)

theorem EvOnly.refl (s : State) : EvOnly s s := ⟨s.regs, s.ctl.events, rfl, fun _ _ => rfl⟩

theorem EvOnly.trans {s t u : State} (h1 : EvOnly s t) (h2 : EvOnly t u) : EvOnly s u := by
  obtain ⟨r1, e1, rfl, g1⟩ := h1
  obtain ⟨r2, e2, rfl, g2⟩ := h2
  exact ⟨r2, e2, rfl, fun a ha => (g2 a ha).trans (g1 a ha)⟩

theorem EvOnly.events (s : State) (e : List PendEv) : EvOnly s { s with ctl := { s.ctl with events := e } } := ⟨s.regs, e, rfl, fun _ _ => rfl⟩

theorem EvOnly.bumpN (s : State) (a n : Nat) (h1 : a ∈ evRegs) (h2 : a + 4 ∈ evRegs) : EvOnly s (s.bumpN a n) := by
  refine ⟨(s.bumpN a n).regs, s.ctl.events, rfl, fun b hb => ?_⟩
  refine State.reg_bumpN_other s a n b ?_ ?_
  · rintro rfl
    exact hb h1
  · rintro rfl
    exact hb h2

theorem EvOnly.foldl {α : Type} {f : State → α → State} (l : List α) (s : State) (h : ∀ t a, EvOnly t (f t a)) : EvOnly s (l.foldl f s) := by
  induction l generalizing s with
  | nil => exact EvOnly.refl s
  | cons a l ih => exact (h s a).trans (ih _)

theorem State.routeAll_evOnly (s : State) : EvOnly s s.routeAll := by
  unfold State.routeAll
  dsimp only
  split
  · exact EvOnly.events s _
  · exact (EvOnly.events s _).trans (EvOnly.bumpN _ _ _ (by simp [evRegs]) (by simp [evRegs]))

theorem State.releaseGroup_evOnly (s : State) (g : Nat) : EvOnly s (s.releaseGroup g) := EvOnly.events s _

theorem State.tryRelease_evOnly (s : State) (g : Nat) : EvOnly s (s.tryRelease g) := by
  unfold State.tryRelease
  split
  · exact EvOnly.refl s
  · split
    · exact (EvOnly.events s _).trans (EvOnly.bumpN _ _ _ (by simp [evRegs]) (by simp [evRegs]))
    · split
      · exact EvOnly.events s _
      · exact EvOnly.refl s

theorem State.settleEvents_evOnly (s : State) : EvOnly s s.settleEvents :=
  (EvOnly.foldl _ s (fun t g => State.tryRelease_evOnly t g)).trans (State.routeAll_evOnly _)

theorem State.pendEvent_evOnly (s : State) (n : Nat) : EvOnly s (s.pendEvent n) := by
  unfold State.pendEvent
  split
  · exact EvOnly.refl s
  · split
    · exact EvOnly.bumpN _ _ _ (by simp [evRegs]) (by simp [evRegs])
    · exact EvOnly.events s _

theorem State.raiseEvs_evOnly (s : State) (ns : List Nat) : EvOnly s (s.raiseEvs ns) :=
  (EvOnly.foldl ns s (fun t n => State.pendEvent_evOnly t n)).trans (State.settleEvents_evOnly _)

theorem State.raiseEv_evOnly (s : State) (n : Nat) : EvOnly s (s.raiseEv n) := State.raiseEvs_evOnly s [n]

theorem EvOnly.regsBut {s t : State} (h : EvOnly s t) (l : List Nat) (hl : ∀ a ∈ evRegs, a ∈ l) : RegsBut s t l := by
  obtain ⟨r, e, rfl, g⟩ := h
  exact fun a ha => g a (fun hm => ha (hl a hm))

section Backward
variable {s t : State} {l : List Nat} (h : RegsBut s t l)
include h

theorem RegsBut.evOnly {u : State} (e : EvOnly t u) (hl : ∀ a ∈ evRegs, a ∈ l) : RegsBut s u l := h.trans (e.regsBut l hl)

theorem RegsBut.raiseEv (n : Nat) (hl : ∀ a ∈ evRegs, a ∈ l) : RegsBut s (t.raiseEv n) l := h.evOnly (State.raiseEv_evOnly t n) hl

theorem RegsBut.raiseEvs (ns : List Nat) (hl : ∀ a ∈ evRegs, a ∈ l) : RegsBut s (t.raiseEvs ns) l := h.evOnly (State.raiseEvs_evOnly t ns) hl

theorem RegsBut.settleEvents (hl : ∀ a ∈ evRegs, a ∈ l) : RegsBut s t.settleEvents l := h.evOnly (State.settleEvents_evOnly t) hl

end Backward

section Consequences
variable {s t : State} (h : EvOnly s t)
include h

theorem EvOnly.reg (a : Nat) (ha : a ∉ evRegs) : t.reg a = s.reg a := by
  obtain ⟨r, e, rfl, g⟩ := h
  exact g a ha

theorem EvOnly.cfg (a : Nat) : t.cfg a = s.cfg a := by
  obtain ⟨r, e, rfl, g⟩ := h
  rfl

theorem EvOnly.pending : t.pending = s.pending := by
  obtain ⟨r, e, rfl, _⟩ := h
  rfl

theorem EvOnly.freeCtr : t.freeCtr = s.freeCtr := by
  obtain ⟨r, e, rfl, _⟩ := h
  rfl

theorem EvOnly.now : t.now = s.now := by
  obtain ⟨r, e, rfl, _⟩ := h
  rfl

theorem EvOnly.eff : t.eff = s.eff := by
  obtain ⟨r, e, rfl, _⟩ := h
  rfl

theorem EvOnly.pend : t.pend = s.pend := by
  obtain ⟨r, e, rfl, _⟩ := h
  rfl

theorem EvOnly.img : t.img = s.img := by
  obtain ⟨r, e, rfl, _⟩ := h
  rfl

theorem EvOnly.hold : t.hold = s.hold := by
  obtain ⟨r, e, rfl, _⟩ := h
  rfl

theorem EvOnly.wire : t.wire = s.wire := by
  obtain ⟨r, e, rfl, _⟩ := h
  rfl

theorem EvOnly.time : t.time = s.time := by
  obtain ⟨r, e, rfl, _⟩ := h
  rfl

theorem EvOnly.mgmt : t.mgmt = s.mgmt := by
  obtain ⟨r, e, rfl, _⟩ := h
  rfl

theorem EvOnly.net : t.net = s.net := by
  obtain ⟨r, e, rfl, _⟩ := h
  rfl

theorem EvOnly.seals : t.seals = s.seals := by
  obtain ⟨r, e, rfl, _⟩ := h
  rfl

theorem EvOnly.power : t.power = s.power := by
  obtain ⟨r, e, rfl, _⟩ := h
  rfl

theorem EvOnly.faults : t.faults = s.faults := by
  obtain ⟨r, e, rfl, _⟩ := h
  rfl

theorem EvOnly.units : t.units = s.units := by
  obtain ⟨r, e, rfl, _⟩ := h
  rfl

theorem EvOnly.ctxs : t.ctxs = s.ctxs := by
  obtain ⟨r, e, rfl, _⟩ := h
  rfl

theorem EvOnly.rnds : t.rnds = s.rnds := by
  obtain ⟨r, e, rfl, _⟩ := h
  rfl

theorem EvOnly.adm : t.adm = s.adm := by
  obtain ⟨r, e, rfl, _⟩ := h
  rfl

theorem EvOnly.stills : t.stills = s.stills := by
  obtain ⟨r, e, rfl, _⟩ := h
  rfl

theorem EvOnly.surfs : t.surfs = s.surfs := by
  obtain ⟨r, e, rfl, _⟩ := h
  rfl

theorem EvOnly.mem : t.mem = s.mem := by
  obtain ⟨r, e, rfl, _⟩ := h
  rfl

theorem EvOnly.pools : t.pools = s.pools := by
  obtain ⟨r, e, rfl, _⟩ := h
  rfl

theorem EvOnly.dma : t.dma = s.dma := by
  obtain ⟨r, e, rfl, _⟩ := h
  rfl

theorem EvOnly.cal : t.cal = s.cal := by
  obtain ⟨r, e, rfl, _⟩ := h
  rfl

theorem EvOnly.boot : t.boot = s.boot := by
  obtain ⟨r, e, rfl, _⟩ := h
  rfl

theorem EvOnly.ctl_seqs : t.ctl.seqs = s.ctl.seqs := by
  obtain ⟨r, e, rfl, _⟩ := h
  rfl

theorem EvOnly.ctl_store : t.ctl.store = s.ctl.store := by
  obtain ⟨r, e, rfl, _⟩ := h
  rfl

theorem EvOnly.ctl_held : t.ctl.held = s.ctl.held := by
  obtain ⟨r, e, rfl, _⟩ := h
  rfl

theorem EvOnly.ctl_gseq : t.ctl.gseq = s.ctl.gseq := by
  obtain ⟨r, e, rfl, _⟩ := h
  rfl

theorem EvOnly.ctl_unitCmds : t.ctl.unitCmds = s.ctl.unitCmds := by
  obtain ⟨r, e, rfl, _⟩ := h
  rfl

theorem EvOnly.ctl_sealReqs : t.ctl.sealReqs = s.ctl.sealReqs := by
  obtain ⟨r, e, rfl, _⟩ := h
  rfl

end Consequences

section Simp
variable (s : State)

@[simp] theorem State.raiseEvs_pending (ns : List Nat) : (s.raiseEvs ns).pending = s.pending := (s.raiseEvs_evOnly ns).pending
@[simp] theorem State.raiseEvs_freeCtr (ns : List Nat) : (s.raiseEvs ns).freeCtr = s.freeCtr := (s.raiseEvs_evOnly ns).freeCtr
@[simp] theorem State.raiseEvs_now (ns : List Nat) : (s.raiseEvs ns).now = s.now := (s.raiseEvs_evOnly ns).now
@[simp] theorem State.raiseEvs_eff (ns : List Nat) : (s.raiseEvs ns).eff = s.eff := (s.raiseEvs_evOnly ns).eff
@[simp] theorem State.raiseEvs_pend (ns : List Nat) : (s.raiseEvs ns).pend = s.pend := (s.raiseEvs_evOnly ns).pend
@[simp] theorem State.raiseEvs_img (ns : List Nat) : (s.raiseEvs ns).img = s.img := (s.raiseEvs_evOnly ns).img
@[simp] theorem State.raiseEvs_hold (ns : List Nat) : (s.raiseEvs ns).hold = s.hold := (s.raiseEvs_evOnly ns).hold
@[simp] theorem State.raiseEvs_wire (ns : List Nat) : (s.raiseEvs ns).wire = s.wire := (s.raiseEvs_evOnly ns).wire
@[simp] theorem State.raiseEvs_time (ns : List Nat) : (s.raiseEvs ns).time = s.time := (s.raiseEvs_evOnly ns).time
@[simp] theorem State.raiseEvs_mgmt (ns : List Nat) : (s.raiseEvs ns).mgmt = s.mgmt := (s.raiseEvs_evOnly ns).mgmt
@[simp] theorem State.raiseEvs_net (ns : List Nat) : (s.raiseEvs ns).net = s.net := (s.raiseEvs_evOnly ns).net
@[simp] theorem State.raiseEvs_seals (ns : List Nat) : (s.raiseEvs ns).seals = s.seals := (s.raiseEvs_evOnly ns).seals
@[simp] theorem State.raiseEvs_power (ns : List Nat) : (s.raiseEvs ns).power = s.power := (s.raiseEvs_evOnly ns).power
@[simp] theorem State.raiseEvs_faults (ns : List Nat) : (s.raiseEvs ns).faults = s.faults := (s.raiseEvs_evOnly ns).faults
@[simp] theorem State.raiseEvs_units (ns : List Nat) : (s.raiseEvs ns).units = s.units := (s.raiseEvs_evOnly ns).units
@[simp] theorem State.raiseEvs_ctxs (ns : List Nat) : (s.raiseEvs ns).ctxs = s.ctxs := (s.raiseEvs_evOnly ns).ctxs
@[simp] theorem State.raiseEvs_rnds (ns : List Nat) : (s.raiseEvs ns).rnds = s.rnds := (s.raiseEvs_evOnly ns).rnds
@[simp] theorem State.raiseEvs_adm (ns : List Nat) : (s.raiseEvs ns).adm = s.adm := (s.raiseEvs_evOnly ns).adm
@[simp] theorem State.raiseEvs_stills (ns : List Nat) : (s.raiseEvs ns).stills = s.stills := (s.raiseEvs_evOnly ns).stills
@[simp] theorem State.raiseEvs_surfs (ns : List Nat) : (s.raiseEvs ns).surfs = s.surfs := (s.raiseEvs_evOnly ns).surfs
@[simp] theorem State.raiseEvs_mem (ns : List Nat) : (s.raiseEvs ns).mem = s.mem := (s.raiseEvs_evOnly ns).mem
@[simp] theorem State.raiseEvs_pools (ns : List Nat) : (s.raiseEvs ns).pools = s.pools := (s.raiseEvs_evOnly ns).pools
@[simp] theorem State.raiseEvs_dma (ns : List Nat) : (s.raiseEvs ns).dma = s.dma := (s.raiseEvs_evOnly ns).dma
@[simp] theorem State.raiseEvs_cal (ns : List Nat) : (s.raiseEvs ns).cal = s.cal := (s.raiseEvs_evOnly ns).cal
@[simp] theorem State.raiseEvs_boot (ns : List Nat) : (s.raiseEvs ns).boot = s.boot := (s.raiseEvs_evOnly ns).boot
@[simp] theorem State.raiseEvs_ctl_seqs (ns : List Nat) : (s.raiseEvs ns).ctl.seqs = s.ctl.seqs := (s.raiseEvs_evOnly ns).ctl_seqs
@[simp] theorem State.raiseEvs_ctl_store (ns : List Nat) : (s.raiseEvs ns).ctl.store = s.ctl.store := (s.raiseEvs_evOnly ns).ctl_store
@[simp] theorem State.raiseEvs_ctl_held (ns : List Nat) : (s.raiseEvs ns).ctl.held = s.ctl.held := (s.raiseEvs_evOnly ns).ctl_held
@[simp] theorem State.raiseEvs_ctl_gseq (ns : List Nat) : (s.raiseEvs ns).ctl.gseq = s.ctl.gseq := (s.raiseEvs_evOnly ns).ctl_gseq
@[simp] theorem State.raiseEvs_ctl_unitCmds (ns : List Nat) : (s.raiseEvs ns).ctl.unitCmds = s.ctl.unitCmds := (s.raiseEvs_evOnly ns).ctl_unitCmds
@[simp] theorem State.raiseEvs_ctl_sealReqs (ns : List Nat) : (s.raiseEvs ns).ctl.sealReqs = s.ctl.sealReqs := (s.raiseEvs_evOnly ns).ctl_sealReqs
theorem State.raiseEvs_reg (ns : List Nat) (a : Nat) (ha : a ∉ evRegs) : (s.raiseEvs ns).reg a = s.reg a := (s.raiseEvs_evOnly ns).reg a ha

@[simp] theorem State.raiseEv_pending (n : Nat) : (s.raiseEv n).pending = s.pending := (s.raiseEv_evOnly n).pending
@[simp] theorem State.raiseEv_freeCtr (n : Nat) : (s.raiseEv n).freeCtr = s.freeCtr := (s.raiseEv_evOnly n).freeCtr
@[simp] theorem State.raiseEv_now (n : Nat) : (s.raiseEv n).now = s.now := (s.raiseEv_evOnly n).now
@[simp] theorem State.raiseEv_eff (n : Nat) : (s.raiseEv n).eff = s.eff := (s.raiseEv_evOnly n).eff
@[simp] theorem State.raiseEv_pend (n : Nat) : (s.raiseEv n).pend = s.pend := (s.raiseEv_evOnly n).pend
@[simp] theorem State.raiseEv_img (n : Nat) : (s.raiseEv n).img = s.img := (s.raiseEv_evOnly n).img
@[simp] theorem State.raiseEv_hold (n : Nat) : (s.raiseEv n).hold = s.hold := (s.raiseEv_evOnly n).hold
@[simp] theorem State.raiseEv_wire (n : Nat) : (s.raiseEv n).wire = s.wire := (s.raiseEv_evOnly n).wire
@[simp] theorem State.raiseEv_time (n : Nat) : (s.raiseEv n).time = s.time := (s.raiseEv_evOnly n).time
@[simp] theorem State.raiseEv_mgmt (n : Nat) : (s.raiseEv n).mgmt = s.mgmt := (s.raiseEv_evOnly n).mgmt
@[simp] theorem State.raiseEv_net (n : Nat) : (s.raiseEv n).net = s.net := (s.raiseEv_evOnly n).net
@[simp] theorem State.raiseEv_seals (n : Nat) : (s.raiseEv n).seals = s.seals := (s.raiseEv_evOnly n).seals
@[simp] theorem State.raiseEv_power (n : Nat) : (s.raiseEv n).power = s.power := (s.raiseEv_evOnly n).power
@[simp] theorem State.raiseEv_faults (n : Nat) : (s.raiseEv n).faults = s.faults := (s.raiseEv_evOnly n).faults
@[simp] theorem State.raiseEv_units (n : Nat) : (s.raiseEv n).units = s.units := (s.raiseEv_evOnly n).units
@[simp] theorem State.raiseEv_ctxs (n : Nat) : (s.raiseEv n).ctxs = s.ctxs := (s.raiseEv_evOnly n).ctxs
@[simp] theorem State.raiseEv_rnds (n : Nat) : (s.raiseEv n).rnds = s.rnds := (s.raiseEv_evOnly n).rnds
@[simp] theorem State.raiseEv_adm (n : Nat) : (s.raiseEv n).adm = s.adm := (s.raiseEv_evOnly n).adm
@[simp] theorem State.raiseEv_stills (n : Nat) : (s.raiseEv n).stills = s.stills := (s.raiseEv_evOnly n).stills
@[simp] theorem State.raiseEv_surfs (n : Nat) : (s.raiseEv n).surfs = s.surfs := (s.raiseEv_evOnly n).surfs
@[simp] theorem State.raiseEv_mem (n : Nat) : (s.raiseEv n).mem = s.mem := (s.raiseEv_evOnly n).mem
@[simp] theorem State.raiseEv_pools (n : Nat) : (s.raiseEv n).pools = s.pools := (s.raiseEv_evOnly n).pools
@[simp] theorem State.raiseEv_dma (n : Nat) : (s.raiseEv n).dma = s.dma := (s.raiseEv_evOnly n).dma
@[simp] theorem State.raiseEv_cal (n : Nat) : (s.raiseEv n).cal = s.cal := (s.raiseEv_evOnly n).cal
@[simp] theorem State.raiseEv_boot (n : Nat) : (s.raiseEv n).boot = s.boot := (s.raiseEv_evOnly n).boot
@[simp] theorem State.raiseEv_ctl_seqs (n : Nat) : (s.raiseEv n).ctl.seqs = s.ctl.seqs := (s.raiseEv_evOnly n).ctl_seqs
@[simp] theorem State.raiseEv_ctl_store (n : Nat) : (s.raiseEv n).ctl.store = s.ctl.store := (s.raiseEv_evOnly n).ctl_store
@[simp] theorem State.raiseEv_ctl_held (n : Nat) : (s.raiseEv n).ctl.held = s.ctl.held := (s.raiseEv_evOnly n).ctl_held
@[simp] theorem State.raiseEv_ctl_gseq (n : Nat) : (s.raiseEv n).ctl.gseq = s.ctl.gseq := (s.raiseEv_evOnly n).ctl_gseq
@[simp] theorem State.raiseEv_ctl_unitCmds (n : Nat) : (s.raiseEv n).ctl.unitCmds = s.ctl.unitCmds := (s.raiseEv_evOnly n).ctl_unitCmds
@[simp] theorem State.raiseEv_ctl_sealReqs (n : Nat) : (s.raiseEv n).ctl.sealReqs = s.ctl.sealReqs := (s.raiseEv_evOnly n).ctl_sealReqs
theorem State.raiseEv_reg (n : Nat) (a : Nat) (ha : a ∉ evRegs) : (s.raiseEv n).reg a = s.reg a := (s.raiseEv_evOnly n).reg a ha

@[simp] theorem State.settleEvents_pending : (s.settleEvents).pending = s.pending := (s.settleEvents_evOnly).pending
@[simp] theorem State.settleEvents_freeCtr : (s.settleEvents).freeCtr = s.freeCtr := (s.settleEvents_evOnly).freeCtr
@[simp] theorem State.settleEvents_now : (s.settleEvents).now = s.now := (s.settleEvents_evOnly).now
@[simp] theorem State.settleEvents_eff : (s.settleEvents).eff = s.eff := (s.settleEvents_evOnly).eff
@[simp] theorem State.settleEvents_pend : (s.settleEvents).pend = s.pend := (s.settleEvents_evOnly).pend
@[simp] theorem State.settleEvents_img : (s.settleEvents).img = s.img := (s.settleEvents_evOnly).img
@[simp] theorem State.settleEvents_hold : (s.settleEvents).hold = s.hold := (s.settleEvents_evOnly).hold
@[simp] theorem State.settleEvents_wire : (s.settleEvents).wire = s.wire := (s.settleEvents_evOnly).wire
@[simp] theorem State.settleEvents_time : (s.settleEvents).time = s.time := (s.settleEvents_evOnly).time
@[simp] theorem State.settleEvents_mgmt : (s.settleEvents).mgmt = s.mgmt := (s.settleEvents_evOnly).mgmt
@[simp] theorem State.settleEvents_net : (s.settleEvents).net = s.net := (s.settleEvents_evOnly).net
@[simp] theorem State.settleEvents_seals : (s.settleEvents).seals = s.seals := (s.settleEvents_evOnly).seals
@[simp] theorem State.settleEvents_power : (s.settleEvents).power = s.power := (s.settleEvents_evOnly).power
@[simp] theorem State.settleEvents_faults : (s.settleEvents).faults = s.faults := (s.settleEvents_evOnly).faults
@[simp] theorem State.settleEvents_units : (s.settleEvents).units = s.units := (s.settleEvents_evOnly).units
@[simp] theorem State.settleEvents_ctxs : (s.settleEvents).ctxs = s.ctxs := (s.settleEvents_evOnly).ctxs
@[simp] theorem State.settleEvents_rnds : (s.settleEvents).rnds = s.rnds := (s.settleEvents_evOnly).rnds
@[simp] theorem State.settleEvents_adm : (s.settleEvents).adm = s.adm := (s.settleEvents_evOnly).adm
@[simp] theorem State.settleEvents_stills : (s.settleEvents).stills = s.stills := (s.settleEvents_evOnly).stills
@[simp] theorem State.settleEvents_surfs : (s.settleEvents).surfs = s.surfs := (s.settleEvents_evOnly).surfs
@[simp] theorem State.settleEvents_mem : (s.settleEvents).mem = s.mem := (s.settleEvents_evOnly).mem
@[simp] theorem State.settleEvents_pools : (s.settleEvents).pools = s.pools := (s.settleEvents_evOnly).pools
@[simp] theorem State.settleEvents_dma : (s.settleEvents).dma = s.dma := (s.settleEvents_evOnly).dma
@[simp] theorem State.settleEvents_cal : (s.settleEvents).cal = s.cal := (s.settleEvents_evOnly).cal
@[simp] theorem State.settleEvents_boot : (s.settleEvents).boot = s.boot := (s.settleEvents_evOnly).boot
@[simp] theorem State.settleEvents_ctl_seqs : (s.settleEvents).ctl.seqs = s.ctl.seqs := (s.settleEvents_evOnly).ctl_seqs
@[simp] theorem State.settleEvents_ctl_store : (s.settleEvents).ctl.store = s.ctl.store := (s.settleEvents_evOnly).ctl_store
@[simp] theorem State.settleEvents_ctl_held : (s.settleEvents).ctl.held = s.ctl.held := (s.settleEvents_evOnly).ctl_held
@[simp] theorem State.settleEvents_ctl_gseq : (s.settleEvents).ctl.gseq = s.ctl.gseq := (s.settleEvents_evOnly).ctl_gseq
@[simp] theorem State.settleEvents_ctl_unitCmds : (s.settleEvents).ctl.unitCmds = s.ctl.unitCmds := (s.settleEvents_evOnly).ctl_unitCmds
@[simp] theorem State.settleEvents_ctl_sealReqs : (s.settleEvents).ctl.sealReqs = s.ctl.sealReqs := (s.settleEvents_evOnly).ctl_sealReqs
theorem State.settleEvents_reg (a : Nat) (ha : a ∉ evRegs) : (s.settleEvents).reg a = s.reg a := (s.settleEvents_evOnly).reg a ha

@[simp] theorem State.releaseGroup_pending (g : Nat) : (s.releaseGroup g).pending = s.pending := (s.releaseGroup_evOnly g).pending
@[simp] theorem State.releaseGroup_freeCtr (g : Nat) : (s.releaseGroup g).freeCtr = s.freeCtr := (s.releaseGroup_evOnly g).freeCtr
@[simp] theorem State.releaseGroup_now (g : Nat) : (s.releaseGroup g).now = s.now := (s.releaseGroup_evOnly g).now
@[simp] theorem State.releaseGroup_eff (g : Nat) : (s.releaseGroup g).eff = s.eff := (s.releaseGroup_evOnly g).eff
@[simp] theorem State.releaseGroup_pend (g : Nat) : (s.releaseGroup g).pend = s.pend := (s.releaseGroup_evOnly g).pend
@[simp] theorem State.releaseGroup_img (g : Nat) : (s.releaseGroup g).img = s.img := (s.releaseGroup_evOnly g).img
@[simp] theorem State.releaseGroup_hold (g : Nat) : (s.releaseGroup g).hold = s.hold := (s.releaseGroup_evOnly g).hold
@[simp] theorem State.releaseGroup_wire (g : Nat) : (s.releaseGroup g).wire = s.wire := (s.releaseGroup_evOnly g).wire
@[simp] theorem State.releaseGroup_time (g : Nat) : (s.releaseGroup g).time = s.time := (s.releaseGroup_evOnly g).time
@[simp] theorem State.releaseGroup_mgmt (g : Nat) : (s.releaseGroup g).mgmt = s.mgmt := (s.releaseGroup_evOnly g).mgmt
@[simp] theorem State.releaseGroup_net (g : Nat) : (s.releaseGroup g).net = s.net := (s.releaseGroup_evOnly g).net
@[simp] theorem State.releaseGroup_seals (g : Nat) : (s.releaseGroup g).seals = s.seals := (s.releaseGroup_evOnly g).seals
@[simp] theorem State.releaseGroup_power (g : Nat) : (s.releaseGroup g).power = s.power := (s.releaseGroup_evOnly g).power
@[simp] theorem State.releaseGroup_faults (g : Nat) : (s.releaseGroup g).faults = s.faults := (s.releaseGroup_evOnly g).faults
@[simp] theorem State.releaseGroup_units (g : Nat) : (s.releaseGroup g).units = s.units := (s.releaseGroup_evOnly g).units
@[simp] theorem State.releaseGroup_ctxs (g : Nat) : (s.releaseGroup g).ctxs = s.ctxs := (s.releaseGroup_evOnly g).ctxs
@[simp] theorem State.releaseGroup_rnds (g : Nat) : (s.releaseGroup g).rnds = s.rnds := (s.releaseGroup_evOnly g).rnds
@[simp] theorem State.releaseGroup_adm (g : Nat) : (s.releaseGroup g).adm = s.adm := (s.releaseGroup_evOnly g).adm
@[simp] theorem State.releaseGroup_stills (g : Nat) : (s.releaseGroup g).stills = s.stills := (s.releaseGroup_evOnly g).stills
@[simp] theorem State.releaseGroup_surfs (g : Nat) : (s.releaseGroup g).surfs = s.surfs := (s.releaseGroup_evOnly g).surfs
@[simp] theorem State.releaseGroup_mem (g : Nat) : (s.releaseGroup g).mem = s.mem := (s.releaseGroup_evOnly g).mem
@[simp] theorem State.releaseGroup_pools (g : Nat) : (s.releaseGroup g).pools = s.pools := (s.releaseGroup_evOnly g).pools
@[simp] theorem State.releaseGroup_dma (g : Nat) : (s.releaseGroup g).dma = s.dma := (s.releaseGroup_evOnly g).dma
@[simp] theorem State.releaseGroup_cal (g : Nat) : (s.releaseGroup g).cal = s.cal := (s.releaseGroup_evOnly g).cal
@[simp] theorem State.releaseGroup_boot (g : Nat) : (s.releaseGroup g).boot = s.boot := (s.releaseGroup_evOnly g).boot
@[simp] theorem State.releaseGroup_ctl_seqs (g : Nat) : (s.releaseGroup g).ctl.seqs = s.ctl.seqs := (s.releaseGroup_evOnly g).ctl_seqs
@[simp] theorem State.releaseGroup_ctl_store (g : Nat) : (s.releaseGroup g).ctl.store = s.ctl.store := (s.releaseGroup_evOnly g).ctl_store
@[simp] theorem State.releaseGroup_ctl_held (g : Nat) : (s.releaseGroup g).ctl.held = s.ctl.held := (s.releaseGroup_evOnly g).ctl_held
@[simp] theorem State.releaseGroup_ctl_gseq (g : Nat) : (s.releaseGroup g).ctl.gseq = s.ctl.gseq := (s.releaseGroup_evOnly g).ctl_gseq
@[simp] theorem State.releaseGroup_ctl_unitCmds (g : Nat) : (s.releaseGroup g).ctl.unitCmds = s.ctl.unitCmds := (s.releaseGroup_evOnly g).ctl_unitCmds
@[simp] theorem State.releaseGroup_ctl_sealReqs (g : Nat) : (s.releaseGroup g).ctl.sealReqs = s.ctl.sealReqs := (s.releaseGroup_evOnly g).ctl_sealReqs
theorem State.releaseGroup_reg (g : Nat) (a : Nat) (ha : a ∉ evRegs) : (s.releaseGroup g).reg a = s.reg a := (s.releaseGroup_evOnly g).reg a ha

@[simp] theorem State.port_raiseEvs (ns : List Nat) (k : Nat) : (s.raiseEvs ns).port k = s.port k := by
  simp only [State.port, State.raiseEvs_net]
@[simp] theorem State.partner_raiseEvs (ns : List Nat) (k : Nat) : (s.raiseEvs ns).partner k = s.partner k := by
  simp only [State.partner, State.raiseEvs_net]
@[simp] theorem State.ctx_raiseEvs (ns : List Nat) (k : Nat) : (s.raiseEvs ns).ctx k = s.ctx k := by
  simp only [State.ctx, State.raiseEvs_ctxs]
@[simp] theorem State.rnd_raiseEvs (ns : List Nat) (k : Nat) : (s.raiseEvs ns).rnd k = s.rnd k := by
  simp only [State.rnd, State.raiseEvs_rnds]
@[simp] theorem State.unit_raiseEvs (ns : List Nat) (k : Nat) : (s.raiseEvs ns).unit k = s.unit k := by
  simp only [State.unit, State.raiseEvs_units]
@[simp] theorem State.slot_raiseEvs (ns : List Nat) (k : Nat) : (s.raiseEvs ns).slot k = s.slot k := by
  simp only [State.slot, State.raiseEvs_seals]
@[simp] theorem State.dmaCh_raiseEvs (ns : List Nat) (k : Nat) : (s.raiseEvs ns).dmaCh k = s.dmaCh k := by
  simp only [State.dmaCh, State.raiseEvs_dma]
@[simp] theorem State.memPort_raiseEvs (ns : List Nat) (k : Nat) : (s.raiseEvs ns).memPort k = s.memPort k := by
  simp only [State.memPort, State.raiseEvs_mem]
@[simp] theorem State.cfg_raiseEvs (ns : List Nat) (k : Nat) : (s.raiseEvs ns).cfg k = s.cfg k := by
  simp only [State.cfg, State.raiseEvs_eff]
@[simp] theorem State.seq_raiseEvs (ns : List Nat) (k : Nat) : (s.raiseEvs ns).seq k = s.seq k := by
  simp only [State.seq, State.raiseEvs_ctl_seqs]
@[simp] theorem State.port_raiseEv (n : Nat) (k : Nat) : (s.raiseEv n).port k = s.port k := by
  simp only [State.port, State.raiseEv_net]
@[simp] theorem State.partner_raiseEv (n : Nat) (k : Nat) : (s.raiseEv n).partner k = s.partner k := by
  simp only [State.partner, State.raiseEv_net]
@[simp] theorem State.ctx_raiseEv (n : Nat) (k : Nat) : (s.raiseEv n).ctx k = s.ctx k := by
  simp only [State.ctx, State.raiseEv_ctxs]
@[simp] theorem State.rnd_raiseEv (n : Nat) (k : Nat) : (s.raiseEv n).rnd k = s.rnd k := by
  simp only [State.rnd, State.raiseEv_rnds]
@[simp] theorem State.unit_raiseEv (n : Nat) (k : Nat) : (s.raiseEv n).unit k = s.unit k := by
  simp only [State.unit, State.raiseEv_units]
@[simp] theorem State.slot_raiseEv (n : Nat) (k : Nat) : (s.raiseEv n).slot k = s.slot k := by
  simp only [State.slot, State.raiseEv_seals]
@[simp] theorem State.dmaCh_raiseEv (n : Nat) (k : Nat) : (s.raiseEv n).dmaCh k = s.dmaCh k := by
  simp only [State.dmaCh, State.raiseEv_dma]
@[simp] theorem State.memPort_raiseEv (n : Nat) (k : Nat) : (s.raiseEv n).memPort k = s.memPort k := by
  simp only [State.memPort, State.raiseEv_mem]
@[simp] theorem State.cfg_raiseEv (n : Nat) (k : Nat) : (s.raiseEv n).cfg k = s.cfg k := by
  simp only [State.cfg, State.raiseEv_eff]
@[simp] theorem State.seq_raiseEv (n : Nat) (k : Nat) : (s.raiseEv n).seq k = s.seq k := by
  simp only [State.seq, State.raiseEv_ctl_seqs]
@[simp] theorem State.port_settleEvents (k : Nat) : (s.settleEvents).port k = s.port k := by
  simp only [State.port, State.settleEvents_net]
@[simp] theorem State.partner_settleEvents (k : Nat) : (s.settleEvents).partner k = s.partner k := by
  simp only [State.partner, State.settleEvents_net]
@[simp] theorem State.ctx_settleEvents (k : Nat) : (s.settleEvents).ctx k = s.ctx k := by
  simp only [State.ctx, State.settleEvents_ctxs]
@[simp] theorem State.rnd_settleEvents (k : Nat) : (s.settleEvents).rnd k = s.rnd k := by
  simp only [State.rnd, State.settleEvents_rnds]
@[simp] theorem State.unit_settleEvents (k : Nat) : (s.settleEvents).unit k = s.unit k := by
  simp only [State.unit, State.settleEvents_units]
@[simp] theorem State.slot_settleEvents (k : Nat) : (s.settleEvents).slot k = s.slot k := by
  simp only [State.slot, State.settleEvents_seals]
@[simp] theorem State.dmaCh_settleEvents (k : Nat) : (s.settleEvents).dmaCh k = s.dmaCh k := by
  simp only [State.dmaCh, State.settleEvents_dma]
@[simp] theorem State.memPort_settleEvents (k : Nat) : (s.settleEvents).memPort k = s.memPort k := by
  simp only [State.memPort, State.settleEvents_mem]
@[simp] theorem State.cfg_settleEvents (k : Nat) : (s.settleEvents).cfg k = s.cfg k := by
  simp only [State.cfg, State.settleEvents_eff]
@[simp] theorem State.seq_settleEvents (k : Nat) : (s.settleEvents).seq k = s.seq k := by
  simp only [State.seq, State.settleEvents_ctl_seqs]
@[simp] theorem State.port_releaseGroup (g : Nat) (k : Nat) : (s.releaseGroup g).port k = s.port k := by
  simp only [State.port, State.releaseGroup_net]
@[simp] theorem State.partner_releaseGroup (g : Nat) (k : Nat) : (s.releaseGroup g).partner k = s.partner k := by
  simp only [State.partner, State.releaseGroup_net]
@[simp] theorem State.ctx_releaseGroup (g : Nat) (k : Nat) : (s.releaseGroup g).ctx k = s.ctx k := by
  simp only [State.ctx, State.releaseGroup_ctxs]
@[simp] theorem State.rnd_releaseGroup (g : Nat) (k : Nat) : (s.releaseGroup g).rnd k = s.rnd k := by
  simp only [State.rnd, State.releaseGroup_rnds]
@[simp] theorem State.unit_releaseGroup (g : Nat) (k : Nat) : (s.releaseGroup g).unit k = s.unit k := by
  simp only [State.unit, State.releaseGroup_units]
@[simp] theorem State.slot_releaseGroup (g : Nat) (k : Nat) : (s.releaseGroup g).slot k = s.slot k := by
  simp only [State.slot, State.releaseGroup_seals]
@[simp] theorem State.dmaCh_releaseGroup (g : Nat) (k : Nat) : (s.releaseGroup g).dmaCh k = s.dmaCh k := by
  simp only [State.dmaCh, State.releaseGroup_dma]
@[simp] theorem State.memPort_releaseGroup (g : Nat) (k : Nat) : (s.releaseGroup g).memPort k = s.memPort k := by
  simp only [State.memPort, State.releaseGroup_mem]
@[simp] theorem State.cfg_releaseGroup (g : Nat) (k : Nat) : (s.releaseGroup g).cfg k = s.cfg k := by
  simp only [State.cfg, State.releaseGroup_eff]
@[simp] theorem State.seq_releaseGroup (g : Nat) (k : Nat) : (s.releaseGroup g).seq k = s.seq k := by
  simp only [State.seq, State.releaseGroup_ctl_seqs]

end Simp

end Sys2Proof.Machine
end

