-- ==== Sys2Proof/Laws/Exec.lean ====
section
/-!
SUPPORT. Each arm of the dispatch, as an equation.
-/
set_option Elab.async false

namespace Sys2Proof.Machine

@[simp] theorem exec_linkUp {p s} : exec (.linkUp p) s = execLinkUp p s := rfl
@[simp] theorem exec_linkDown {p s} : exec (.linkDown p) s = execLinkDown p s := rfl
@[simp] theorem exec_hiBer {p s} : exec (.hiBer p) s = execHiBer p s := rfl
@[simp] theorem exec_trainingDone {p fec s} : exec (.trainingDone p fec) s = execTrainingDone p fec s := rfl
@[simp] theorem exec_pauseFrame {f s} : exec (.pauseFrame f) s = execPauseFrame f s := rfl
@[simp] theorem exec_arpRequest {f s} : exec (.arpRequest f) s = execArpRequest f s := rfl
@[simp] theorem exec_arpReply {f s} : exec (.arpReply f) s = execArpReply f s := rfl
@[simp] theorem exec_neighborSolicitation {f s} : exec (.neighborSolicitation f) s = execNeighborSolicitation f s := rfl
@[simp] theorem exec_neighborAdvertisement {f s} : exec (.neighborAdvertisement f) s = execNeighborAdvertisement f s := rfl
@[simp] theorem exec_mldQuery {f s} : exec (.mldQuery f) s = execMldQuery f s := rfl
@[simp] theorem exec_igmpQuery {f s} : exec (.igmpQuery f) s = execIgmpQuery f s := rfl
@[simp] theorem exec_icmpEchoRequest {f s} : exec (.icmpEchoRequest f) s = execIcmpEchoRequest f s := rfl
@[simp] theorem exec_rateWindowRollover {s} : exec (.rateWindowRollover) s = execRateWindowRollover s := rfl
@[simp] theorem exec_neighbourRefresh {p ip s} : exec (.neighbourRefresh p ip) s = execNeighbourRefresh p ip s := rfl
@[simp] theorem exec_neighbourRetryTimeout {p ip s} : exec (.neighbourRetryTimeout p ip) s = execNeighbourRetryTimeout p ip s := rfl
@[simp] theorem exec_resolutionWaitExpiry {p s} : exec (.resolutionWaitExpiry p) s = execResolutionWaitExpiry p s := rfl
@[simp] theorem exec_ptpSync {f m s} : exec (.ptpSync f m) s = execPtpSync f m s := rfl
@[simp] theorem exec_ptpFollowUp {f m s} : exec (.ptpFollowUp f m) s = execPtpFollowUp f m s := rfl
@[simp] theorem exec_ptpAnnounce {f m a s} : exec (.ptpAnnounce f m a) s = execPtpAnnounce f m a s := rfl
@[simp] theorem exec_ptpDelayResp {f m s} : exec (.ptpDelayResp f m) s = execPtpDelayResp f m s := rfl
@[simp] theorem exec_ptpPdelayReq {f m s} : exec (.ptpPdelayReq f m) s = execPtpPdelayReq f m s := rfl
@[simp] theorem exec_ptpPdelayResp {f resp follow s} : exec (.ptpPdelayResp f resp follow) s = execPtpPdelayResp f resp follow s := rfl
@[simp] theorem exec_ptpDelayReqTimer {s} : exec (.ptpDelayReqTimer) s = execPtpDelayReqTimer s := rfl
@[simp] theorem exec_syncLossTimeout {s} : exec (.syncLossTimeout) s = execSyncLossTimeout s := rfl
@[simp] theorem exec_holdoverExpiry {s} : exec (.holdoverExpiry) s = execHoldoverExpiry s := rfl
@[simp] theorem exec_rtpPacket {f s} : exec (.rtpPacket f) s = execRtpPacket f s := rfl
@[simp] theorem exec_reorderExpiry {n s} : exec (.reorderExpiry n) s = execReorderExpiry n s := rfl
@[simp] theorem exec_auWaitExpiry {n s} : exec (.auWaitExpiry n) s = execAuWaitExpiry n s := rfl
@[simp] theorem exec_contextIdleTimeout {n s} : exec (.contextIdleTimeout n) s = execContextIdleTimeout n s := rfl
@[simp] theorem exec_offloadOpen {f s} : exec (.offloadOpen f) s = execOffloadOpen f s := rfl
@[simp] theorem exec_offloadData {f s} : exec (.offloadData f) s = execOffloadData f s := rfl
@[simp] theorem exec_offloadClose {f s} : exec (.offloadClose f) s = execOffloadClose f s := rfl
@[simp] theorem exec_offloadAbort {f s} : exec (.offloadAbort f) s = execOffloadAbort f s := rfl
@[simp] theorem exec_maskOpen {f s} : exec (.maskOpen f) s = execMaskOpen f s := rfl
@[simp] theorem exec_maskData {f s} : exec (.maskData f) s = execMaskData f s := rfl
@[simp] theorem exec_maskClose {f s} : exec (.maskClose f) s = execMaskClose f s := rfl
@[simp] theorem exec_maskAbort {f s} : exec (.maskAbort f) s = execMaskAbort f s := rfl
@[simp] theorem exec_ackDelayExpiry {r s} : exec (.ackDelayExpiry r) s = execAckDelayExpiry r s := rfl
@[simp] theorem exec_zeroWindowRepeat {r s} : exec (.zeroWindowRepeat r) s = execZeroWindowRepeat r s := rfl
@[simp] theorem exec_closeTimeout {r s} : exec (.closeTimeout r) s = execCloseTimeout r s := rfl
@[simp] theorem exec_closedSessionExpiry {r s} : exec (.closedSessionExpiry r) s = execClosedSessionExpiry r s := rfl
@[simp] theorem exec_pausedSessionAbort {r s} : exec (.pausedSessionAbort r) s = execPausedSessionAbort r s := rfl
@[simp] theorem exec_maskSessionIdle {r s} : exec (.maskSessionIdle r) s = execMaskSessionIdle r s := rfl
@[simp] theorem exec_partnerHeartbeat {f s} : exec (.partnerHeartbeat f) s = execPartnerHeartbeat f s := rfl
@[simp] theorem exec_partnerSilenceTimeout {n s} : exec (.partnerSilenceTimeout n) s = execPartnerSilenceTimeout n s := rfl
@[simp] theorem exec_deviceHeartbeatTimer {s} : exec (.deviceHeartbeatTimer) s = execDeviceHeartbeatTimer s := rfl
@[simp] theorem exec_hello {f s} : exec (.hello f) s = execHello f s := rfl
@[simp] theorem exec_bye {f s} : exec (.bye f) s = execBye f s := rfl
@[simp] theorem exec_mgmtSessionIdle {num s} : exec (.mgmtSessionIdle num) s = execMgmtSessionIdle num s := rfl
@[simp] theorem exec_read {f s} : exec (.read f) s = execRead f s := rfl
@[simp] theorem exec_write {f s} : exec (.write f) s = execWrite f s := rfl
@[simp] theorem exec_ticketStartSelfTest {f s} : exec (.ticketStartSelfTest f) s = execTicketStartSelfTest f s := rfl
@[simp] theorem exec_ticketStartCalibrate {f s} : exec (.ticketStartCalibrate f) s = execTicketStartCalibrate f s := rfl
@[simp] theorem exec_ticketStartAttest {f s} : exec (.ticketStartAttest f) s = execTicketStartAttest f s := rfl
@[simp] theorem exec_ticketStartDigest {f s} : exec (.ticketStartDigest f) s = execTicketStartDigest f s := rfl
@[simp] theorem exec_ticketStartStill {f s} : exec (.ticketStartStill f) s = execTicketStartStill f s := rfl
@[simp] theorem exec_ticketStartImageInstall {f s} : exec (.ticketStartImageInstall f) s = execTicketStartImageInstall f s := rfl
@[simp] theorem exec_ticketRead {f s} : exec (.ticketRead f) s = execTicketRead f s := rfl
@[simp] theorem exec_ticketRelease {f s} : exec (.ticketRelease f) s = execTicketRelease f s := rfl
@[simp] theorem exec_imageBlock {f s} : exec (.imageBlock f) s = execImageBlock f s := rfl
@[simp] theorem exec_flashProgramDone {ok s} : exec (.flashProgramDone ok) s = execFlashProgramDone ok s := rfl
@[simp] theorem exec_selfTestDone {agent verdict dur ms s} : exec (.selfTestDone agent verdict dur ms) s = execSelfTestDone agent verdict dur ms s := rfl
@[simp] theorem exec_selfTestFitTimeout {num s} : exec (.selfTestFitTimeout num) s = execSelfTestFitTimeout num s := rfl
@[simp] theorem exec_calibrateDone {num dur ms r s} : exec (.calibrateDone num dur ms r) s = execCalibrateDone num dur ms r s := rfl
@[simp] theorem exec_attestSigned {k s} : exec (.attestSigned k) s = execAttestSigned k s := rfl
@[simp] theorem exec_stillDone {c s} : exec (.stillDone c) s = execStillDone c s := rfl
@[simp] theorem exec_stillTimeout {num s} : exec (.stillTimeout num) s = execStillTimeout num s := rfl
@[simp] theorem exec_imageInstallDone {num s} : exec (.imageInstallDone num) s = execImageInstallDone num s := rfl
@[simp] theorem exec_maintenanceInstallReset {s} : exec (.maintenanceInstallReset) s = execMaintenanceInstallReset s := rfl
@[simp] theorem exec_admissionEvaluation {s} : exec (.admissionEvaluation) s = execAdmissionEvaluation s := rfl
@[simp] theorem exec_capabilityPublish {k f e s} : exec (.capabilityPublish k f e) s = execCapabilityPublish k f e s := rfl
@[simp] theorem exec_verificationLimitExpiry {n s} : exec (.verificationLimitExpiry n) s = execVerificationLimitExpiry n s := rfl
@[simp] theorem exec_decodeDispatch {poison s} : exec (.decodeDispatch poison) s = execDecodeDispatch poison s := rfl
@[simp] theorem exec_decodeAllocFailure {n s} : exec (.decodeAllocFailure n) s = execDecodeAllocFailure n s := rfl
@[simp] theorem exec_decodePictureDone {c po s} : exec (.decodePictureDone c po) s = execDecodePictureDone c po s := rfl
@[simp] theorem exec_sealSigned {k s} : exec (.sealSigned k) s = execSealSigned k s := rfl
@[simp] theorem exec_sheetTimer {slot s} : exec (.sheetTimer slot) s = execSheetTimer slot s := rfl
@[simp] theorem exec_composeDispatch {poison s} : exec (.composeDispatch poison) s = execComposeDispatch poison s := rfl
@[simp] theorem exec_composePictureDone {u po s} : exec (.composePictureDone u po) s = execComposePictureDone u po s := rfl
@[simp] theorem exec_flattenDone {u s} : exec (.flattenDone u) s = execFlattenDone u s := rfl
@[simp] theorem exec_tileWaitExpiry {n s} : exec (.tileWaitExpiry n) s = execTileWaitExpiry n s := rfl
@[simp] theorem exec_maskWaitExpiry {n s} : exec (.maskWaitExpiry n) s = execMaskWaitExpiry n s := rfl
@[simp] theorem exec_encodeDispatch {poison s} : exec (.encodeDispatch poison) s = execEncodeDispatch poison s := rfl
@[simp] theorem exec_encodePictureDone {c po s} : exec (.encodePictureDone c po) s = execEncodePictureDone c po s := rfl
@[simp] theorem exec_encAllocTimeout {n s} : exec (.encAllocTimeout n) s = execEncAllocTimeout n s := rfl
@[simp] theorem exec_ctxClose {n s} : exec (.ctxClose n) s = execCtxClose n s := rfl
@[simp] theorem exec_rndOpen {n port s} : exec (.rndOpen n port) s = execRndOpen n port s := rfl
@[simp] theorem exec_rndClose {n s} : exec (.rndClose n) s = execRndClose n s := rfl
@[simp] theorem exec_decOos {c out s} : exec (.decOos c out) s = execDecOos c out s := rfl
@[simp] theorem exec_encOos {c out s} : exec (.encOos c out) s = execEncOos c out s := rfl
@[simp] theorem exec_cuOos {u out s} : exec (.cuOos u out) s = execCuOos u out s := rfl
@[simp] theorem exec_egressSelect {p s} : exec (.egressSelect p) s = execEgressSelect p s := rfl
@[simp] theorem exec_collectorRound {s} : exec (.collectorRound) s = execCollectorRound s := rfl
@[simp] theorem exec_holdoffExpiry {g s} : exec (.holdoffExpiry g) s = execHoldoffExpiry g s := rfl
@[simp] theorem exec_fastEventAccept {j s} : exec (.fastEventAccept j) s = execFastEventAccept j s := rfl
@[simp] theorem exec_seqWake {j s} : exec (.seqWake j) s = execSeqWake j s := rfl
@[simp] theorem exec_microwordStep {j rd s} : exec (.microwordStep j rd) s = execMicrowordStep j rd s := rfl
@[simp] theorem exec_fetch {j s} : exec (.fetch j) s = execFetch j s := rfl
@[simp] theorem exec_sleep {j s} : exec (.sleep j) s = execSleep j s := rfl
@[simp] theorem exec_retf {j s} : exec (.retf j) s = execRetf j s := rfl
@[simp] theorem exec_load {j errs s} : exec (.load j errs) s = execLoad j errs s := rfl
@[simp] theorem exec_store {j errs s} : exec (.store j errs) s = execStore j errs s := rfl
@[simp] theorem exec_regrd {j s} : exec (.regrd j) s = execRegrd j s := rfl
@[simp] theorem exec_regwr {j s} : exec (.regwr j) s = execRegwr j s := rfl
@[simp] theorem exec_pop {j s} : exec (.pop j) s = execPop j s := rfl
@[simp] theorem exec_setprio {j s} : exec (.setprio j) s = execSetprio j s := rfl
@[simp] theorem exec_doorbell {j s} : exec (.doorbell j) s = execDoorbell j s := rfl
@[simp] theorem exec_unit {j s} : exec (.unit j) s = execUnit j s := rfl
@[simp] theorem exec_seal {j s} : exec (.seal j) s = execSeal j s := rfl
@[simp] theorem exec_alloc {by_ s} : exec (.alloc by_) s = execAlloc by_ s := rfl
@[simp] theorem exec_free {by_ s} : exec (.free by_) s = execFree by_ s := rfl
@[simp] theorem exec_give {by_ s} : exec (.give by_) s = execGive by_ s := rfl
@[simp] theorem exec_dmaArm {n seq s} : exec (.dmaArm n seq) s = execDmaArm n seq s := rfl
@[simp] theorem exec_dmaAbort {n s} : exec (.dmaAbort n) s = execDmaAbort n s := rfl
@[simp] theorem exec_dmaClear {n s} : exec (.dmaClear n) s = execDmaClear n s := rfl
@[simp] theorem exec_dmaProgStart {n s} : exec (.dmaProgStart n) s = execDmaProgStart n s := rfl
@[simp] theorem exec_dmaGoSet {n s} : exec (.dmaGoSet n) s = execDmaGoSet n s := rfl
@[simp] theorem exec_dmaSwreqWrite {v s} : exec (.dmaSwreqWrite v) s = execDmaSwreqWrite v s := rfl
@[simp] theorem exec_dmaBurst {n line errs s} : exec (.dmaBurst n line errs) s = execDmaBurst n line errs s := rfl
@[simp] theorem exec_move {n s} : exec (.move n) s = execMove n s := rfl
@[simp] theorem exec_loop {n s} : exec (.loop n) s = execLoop n s := rfl
@[simp] theorem exec_wait {n line s} : exec (.wait n line) s = execWait n line s := rfl
@[simp] theorem exec_waitTimeout {n s} : exec (.waitTimeout n) s = execWaitTimeout n s := rfl
@[simp] theorem exec_signal {n s} : exec (.signal n) s = execSignal n s := rfl
@[simp] theorem exec_end_ {n s} : exec (.end_ n) s = execEnd n s := rfl
@[simp] theorem exec_nop {n s} : exec (.nop n) s = execNop n s := rfl
@[simp] theorem exec_memReadRequest {agent a n errs s} : exec (.memReadRequest agent a n errs) s = execMemReadRequest agent a n errs s := rfl
@[simp] theorem exec_memWriteRequest {agent a mask data poison errs s} : exec (.memWriteRequest agent a mask data poison errs) s = execMemWriteRequest agent a mask data poison errs s := rfl
@[simp] theorem exec_writeAgeDrain {p s} : exec (.writeAgeDrain p) s = execWriteAgeDrain p s := rfl
@[simp] theorem exec_memReadTimeout {agent a s} : exec (.memReadTimeout agent a) s = execMemReadTimeout agent a s := rfl
@[simp] theorem exec_patrolScrubRead {p errs s} : exec (.patrolScrubRead p errs) s = execPatrolScrubRead p errs s := rfl
@[simp] theorem exec_marginProbe {p ms s} : exec (.marginProbe p ms) s = execMarginProbe p ms s := rfl
@[simp] theorem exec_refresh {p s} : exec (.refresh p) s = execRefresh p s := rfl
@[simp] theorem exec_refreshRateRead {p rs s} : exec (.refreshRateRead p rs) s = execRefreshRateRead p rs s := rfl
@[simp] theorem exec_backgroundFill {s} : exec (.backgroundFill) s = execBackgroundFill s := rfl
@[simp] theorem exec_nightEnter {exit s} : exec (.nightEnter exit) s = execNightEnter exit s := rfl
@[simp] theorem exec_nightExit {s} : exec (.nightExit) s = execNightExit s := rfl
@[simp] theorem exec_nightEntryDone {s} : exec (.nightEntryDone) s = execNightEntryDone s := rfl
@[simp] theorem exec_nightExitDone {s} : exec (.nightExitDone) s = execNightExitDone s := rfl
@[simp] theorem exec_powerFailDetect {pf mv acked s} : exec (.powerFailDetect pf mv acked) s = execPowerFailDetect pf mv acked s := rfl
@[simp] theorem exec_manifestSigned {s} : exec (.manifestSigned) s = execManifestSigned s := rfl
@[simp] theorem exec_journalCommitDone {bad s} : exec (.journalCommitDone bad) s = execJournalCommitDone bad s := rfl
@[simp] theorem exec_vinCollapse {mv done s} : exec (.vinCollapse mv done) s = execVinCollapse mv done s := rfl
@[simp] theorem exec_powerReturnReset {e s} : exec (.powerReturnReset e) s = execPowerReturnReset e s := rfl
@[simp] theorem exec_nporFall {s} : exec (.nporFall) s = execNporFall s := rfl
@[simp] theorem exec_bootStart {e s} : exec (.bootStart e) s = execBootStart e s := rfl
@[simp] theorem exec_flashReadTimeout {slot s} : exec (.flashReadTimeout slot) s = execFlashReadTimeout slot s := rfl
@[simp] theorem exec_journalReadTimeout {s} : exec (.journalReadTimeout) s = execJournalReadTimeout s := rfl
@[simp] theorem exec_memPortInitDone {p ok ms s} : exec (.memPortInitDone p ok ms) s = execMemPortInitDone p ok ms s := rfl
@[simp] theorem exec_sweepStart {s} : exec (.sweepStart) s = execSweepStart s := rfl
@[simp] theorem exec_epochAnnounce {s} : exec (.epochAnnounce) s = execEpochAnnounce s := rfl
@[simp] theorem exec_glbReset {key s} : exec (.glbReset key) s = execGlbReset key s := rfl
@[simp] theorem exec_unitProgressTimeout {agent s} : exec (.unitProgressTimeout agent) s = execUnitProgressTimeout agent s := rfl
@[simp] theorem exec_xopTimeout {j s} : exec (.xopTimeout j) s = execXopTimeout j s := rfl
@[simp] theorem exec_regulatorOutOfRange {s} : exec (.regulatorOutOfRange) s = execRegulatorOutOfRange s := rfl
@[simp] theorem exec_unitResetDone {agent s} : exec (.unitResetDone agent) s = execUnitResetDone agent s := rfl
@[simp] theorem exec_safeStateExit {s} : exec (.safeStateExit) s = execSafeStateExit s := rfl
@[simp] theorem exec_fltForce {n s} : exec (.fltForce n) s = execFltForce n s := rfl
@[simp] theorem exec_fltUnfreeze {agent key s} : exec (.fltUnfreeze agent key) s = execFltUnfreeze agent key s := rfl
@[simp] theorem exec_fltStatusClear {k bits s} : exec (.fltStatusClear k bits) s = execFltStatusClear k bits s := rfl
@[simp] theorem exec_refCalibration {r s} : exec (.refCalibration r) s = execRefCalibration r s := rfl
@[simp] theorem exec_groupMeasurement {agent ms s} : exec (.groupMeasurement agent ms) s = execGroupMeasurement agent ms s := rfl
@[simp] theorem exec_currentLimitStep {s} : exec (.currentLimitStep) s = execCurrentLimitStep s := rfl
@[simp] theorem exec_currentRestoreStep {s} : exec (.currentRestoreStep) s = execCurrentRestoreStep s := rfl
@[simp] theorem exec_replan {ps again s} : exec (.replan ps again) s = execReplan ps again s := rfl
@[simp] theorem exec_calReplan {s} : exec (.calReplan) s = execCalReplan s := rfl
@[simp] theorem exec_otpProgram {num slot s} : exec (.otpProgram num slot) s = execOtpProgram num slot s := rfl
@[simp] theorem exec_otpRevoke {num slot s} : exec (.otpRevoke num slot) s = execOtpRevoke num slot s := rfl
@[simp] theorem exec_otpAdvance {num s} : exec (.otpAdvance num) s = execOtpAdvance num s := rfl
@[simp] theorem exec_otpCommandDone {ok s} : exec (.otpCommandDone ok) s = execOtpCommandDone ok s := rfl
@[simp] theorem exec_keyload {dr s} : exec (.keyload dr) s = execKeyload dr s := rfl
@[simp] theorem exec_jtagInstruction {code s} : exec (.jtagInstruction code) s = execJtagInstruction code s := rfl
@[simp] theorem exec_prtCntClr {p v s} : exec (.prtCntClr p v) s = execPrtCntClr p v s := rfl
@[simp] theorem exec_glbCntClr {v s} : exec (.glbCntClr v) s = execGlbCntClr v s := rfl
@[simp] theorem exec_glbAdmCntClr {v s} : exec (.glbAdmCntClr v) s = execGlbAdmCntClr v s := rfl
@[simp] theorem exec_decCntClr {p v s} : exec (.decCntClr p v) s = execDecCntClr p v s := rfl
@[simp] theorem exec_encCntClr {p v s} : exec (.encCntClr p v) s = execEncCntClr p v s := rfl
@[simp] theorem exec_cuCntClr {p v s} : exec (.cuCntClr p v) s = execCuCntClr p v s := rfl
@[simp] theorem exec_sealCntClr {v s} : exec (.sealCntClr v) s = execSealCntClr v s := rfl
@[simp] theorem exec_hbxCntClr {v s} : exec (.hbxCntClr v) s = execHbxCntClr v s := rfl
@[simp] theorem exec_egqCntClr {v s} : exec (.egqCntClr v) s = execEgqCntClr v s := rfl
@[simp] theorem exec_memCntClr {p v s} : exec (.memCntClr p v) s = execMemCntClr p v s := rfl
@[simp] theorem exec_glbMemCntClr {v s} : exec (.glbMemCntClr v) s = execGlbMemCntClr v s := rfl
@[simp] theorem exec_fpCntClr {p v s} : exec (.fpCntClr p v) s = execFpCntClr p v s := rfl
@[simp] theorem exec_fpGlbCntClr {v s} : exec (.fpGlbCntClr v) s = execFpGlbCntClr v s := rfl
@[simp] theorem exec_dmaCntClr {p v s} : exec (.dmaCntClr p v) s = execDmaCntClr p v s := rfl
@[simp] theorem exec_seqCntClr {p v s} : exec (.seqCntClr p v) s = execSeqCntClr p v s := rfl
@[simp] theorem exec_intCntClr {v s} : exec (.intCntClr v) s = execIntCntClr v s := rfl
@[simp] theorem exec_colCntClr {v s} : exec (.colCntClr v) s = execColCntClr v s := rfl
@[simp] theorem exec_glbCfgCntClr {v s} : exec (.glbCfgCntClr v) s = execGlbCfgCntClr v s := rfl
@[simp] theorem exec_fltCntClr {v s} : exec (.fltCntClr v) s = execFltCntClr v s := rfl
@[simp] theorem exec_calCntClr {v s} : exec (.calCntClr v) s = execCalCntClr v s := rfl
@[simp] theorem exec_registerWrite {num a v s} : exec (.registerWrite num a v) s = execRegisterWrite num a v s := rfl
@[simp] theorem exec_blockLockAcquired {p s} : exec (.blockLockAcquired p) s = execBlockLockAcquired p s := rfl
@[simp] theorem exec_blockLockLost {p s} : exec (.blockLockLost p) s = execBlockLockLost p s := rfl
@[simp] theorem exec_discardedFrame {f s} : exec (.discardedFrame f) s = execDiscardedFrame f s := rfl
@[simp] theorem exec_unknownOpRequest {f s} : exec (.unknownOpRequest f) s = execUnknownOpRequest f s := rfl
@[simp] theorem exec_windowRisesFromZero {r s} : exec (.windowRisesFromZero r) s = execWindowRisesFromZero r s := rfl
@[simp] theorem exec_powerReturn {mv s} : exec (.powerReturn mv) s = execPowerReturn mv s := rfl
@[simp] theorem exec_internalCheckFailure {src record s} : exec (.internalCheckFailure src record) s = execInternalCheckFailure src record s := rfl
@[simp] theorem exec_temperatureLimitCrossing {t sensor s} : exec (.temperatureLimitCrossing t sensor) s = execTemperatureLimitCrossing t sensor s := rfl
@[simp] theorem exec_regulatorBackInRange {s} : exec (.regulatorBackInRange) s = execRegulatorBackInRange s := rfl
@[simp] theorem exec_trngTestWindow {pass s} : exec (.trngTestWindow pass) s = execTrngTestWindow pass s := rfl

end Sys2Proof.Machine
end

