-- ==== Sys2Proof/Laws/Instant.lean ====
section
/-! SUPPORT. What the three operations that gather the commands of one instant can do: the raises (R442), the felt operations (R367) and the
requests of a memory port (R343). Each either holds its part back for a later command of the instant, or acts. -/

set_option Elab.async false

namespace Sys2Proof.Machine

/-- A later raise of the instant waits in the queue: this one is only held. -/
theorem State.raiseTogether_holds {s : State} (r : Option Raise) (h : s.pending.any isRaise = true) :
    s.raiseTogether r = { s with faults := { s.faults with arrived := s.faults.arrived ++ r.toList } } := by
  simp [State.raiseTogether, h]

/-- A raise that is alone in its instant is taken as it is. -/
theorem State.raiseTogether_alone {s : State} (r : Raise) (h : s.pending.any isRaise = false) (ha : s.faults.arrived = []) :
    s.raiseTogether (some r) = s.raiseFault r := by
  have hs : ({ s with faults := { s.faults with arrived := [] } } : State) = s := by rw [← ha]
  unfold State.raiseTogether State.raiseFault
  simp [h, ha, hs]

/-- No raise, and none held: nothing happens. -/
theorem State.raiseTogether_none {s : State} (h : s.pending.any isRaise = false) (ha : s.faults.arrived = []) : s.raiseTogether none = s := by
  simp [State.raiseTogether, h, ha]

/-- The last raise of an instant takes the held ones with it. -/
theorem State.raiseTogether_last {s : State} (r : Raise) (h : s.pending.any isRaise = false) :
    s.raiseTogether (some r) = ({ s with faults := { s.faults with arrived := [] } } : State).raiseFaults (s.faults.arrived ++ [r]) := by
  simp [State.raiseTogether, h]

/-- A later felt operation of the instant waits in the queue: this one is only held. -/
theorem State.feltRequest_holds {s : State} (q : FeltReq) (h : s.pending.any isFelt = true) :
    s.feltRequest q = { s with mem := { s.mem with felts := s.mem.felts ++ [q] } } := by
  simp [State.feltRequest, h]

/-- A felt operation that is alone in its instant is performed at once. -/
theorem State.feltRequest_alone {s : State} (q : FeltReq) (h : s.pending.any isFelt = false) (ha : s.mem.felts = []) : s.feltRequest q = s.serveFelt q := by
  simp [State.feltRequest, h, ha]

/-- A later request of the instant to the same port waits in the queue: this one is only held. -/
theorem State.memRequest_holds {s : State} (p : Nat) (q : MemReq) (h : s.pending.any (s.isReqTo p) = true) :
    s.memRequest p q = s.setMemPort p { s.memPort p with arrivals := (s.memPort p).arrivals ++ [q] } := by
  simp [State.memRequest, h]

/-- A request that is alone in its instant is served at once. -/
theorem State.memRequest_alone {s : State} (p : Nat) (q : MemReq) (h : s.pending.any (s.isReqTo p) = false) (ha : (s.memPort p).arrivals = []) :
    s.memRequest p q = s.serveReq q := by
  simp [State.memRequest, h, ha]

end Sys2Proof.Machine
end

