-- ==== Sys2Proof/Laws/Keep.lean ====
section
/-!
SUPPORT. What every operation keeps: the queue of waiting commands, the canonical form of the tables, and every
part of the state that they do not touch. Base lemmas; the files Keep*.lean hold one lemma per operation.
-/
set_option Elab.async false

namespace Sys2Proof.Machine

section Tables
variable {α : Type} [DecidableEq α]

/-- A table with some entries left out is canonical. -/
theorem twfFrom_filter (d : Nat → α) (p : Nat × α → Bool) (t : Tab α) (lo : Nat) (h : twfFrom d lo t = true) :
    twfFrom d lo (t.filter p) = true := by
  induction t generalizing lo with
  | nil => rfl
  | cons e t ih =>
    obtain ⟨a, v⟩ := e
    simp only [twfFrom, Bool.and_eq_true, decide_eq_true_eq] at h
    by_cases hp : p (a, v) = true
    · simp only [List.filter_cons, hp, if_true, twfFrom, Bool.and_eq_true, decide_eq_true_eq]
      exact ⟨h.1, ih (a + 1) h.2⟩
    · simp only [List.filter_cons, hp]
      exact twfFrom_mono d lo (a + 1) (by omega) _ (ih (a + 1) h.2)

theorem twf_filter (d : Nat → α) (p : Nat × α → Bool) (t : Tab α) (h : twf d t = true) : twf d (t.filter p) = true :=
  twfFrom_filter d p t 0 h

/-- A table whose values are worked out anew, with the entries that come to the unlisted value left out, is canonical. -/
theorem twfFrom_filterMap (d : Nat → α) (f : Nat → α → α) (t : Tab α) (lo : Nat) (h : twfFrom d lo t = true) :
    twfFrom d lo (t.filterMap (fun q => if f q.1 q.2 = d q.1 then none else some (q.1, f q.1 q.2))) = true := by
  induction t generalizing lo with
  | nil => rfl
  | cons e t ih =>
    obtain ⟨a, v⟩ := e
    simp only [twfFrom, Bool.and_eq_true, decide_eq_true_eq] at h
    by_cases hf : f a v = d a
    · simp only [List.filterMap_cons, hf, if_true]
      exact twfFrom_mono d lo (a + 1) (by omega) _ (ih (a + 1) h.2)
    · simp only [List.filterMap_cons, hf, if_false, twfFrom, Bool.and_eq_true, decide_eq_true_eq]
      exact ⟨⟨h.1.1, hf⟩, ih (a + 1) h.2⟩

end Tables

/-- Writing a byte string keeps memory canonical. -/
theorem Memory.wf_putBytes (m : List (Nat × Byte)) (a : Nat) (b : Bytes) (h : Memory.wf m) : Memory.wf (putBytes m a b) := by
  induction b generalizing m a with
  | nil => exact h
  | cons x t ih => exact ih _ _ (twf_tput memDefault m a x h)

/-- Writing a byte string keeps the journal memory canonical. -/
theorem Journal.wf_write (j : Tab Byte) (a : Nat) (b : Bytes) (h : Journal.wf j) : Journal.wf (writeJournal j a b) := by
  induction b generalizing j a with
  | nil => exact h
  | cons x t ih => exact ih _ _ (twf_tput _ j a x h)

/-- Writing the parts of a commit keeps the journal memory canonical. -/
theorem Journal.wf_parts (ps : List (Nat × Bytes)) (j : Tab Byte) (h : Journal.wf j) :
    Journal.wf (ps.foldl (fun j q => writeJournal j q.1 q.2) j) := by
  induction ps generalizing j with
  | nil => exact h
  | cons q ps ih => exact ih _ (Journal.wf_write j q.1 q.2 h)

theorem Part.same_refl (p : Part) (s : State) : p.same s s := by
  cases p <;> simp [Part.same]

theorem Part.same_trans {p : Part} {s t u : State} (h1 : p.same s t) (h2 : p.same t u) : p.same s u := by
  cases p <;> simp_all [Part.same]

/-- What is kept: the queue, the canonical form (where it held), and every part that is not free, as it was in a base state. -/
structure Kept where
  queue : List Instr
  canon : Prop
  base : State
  free : Part → Prop

/-- The state keeps it. -/
structure Good (k : Kept) (s : State) : Prop where
  queue : s.pending = k.queue
  canon : k.canon → s.Canon
  same : ∀ p, ¬ k.free p → p.same k.base s

/-- A next state keeps it. -/
def OutGood (k : Kept) (o : Host.Outcome State Fault Refusal) : Prop := ∀ t, o = .next t → Good k t

variable {kp : Kept}

theorem outGood_next {t : State} (h : Good kp t) : OutGood kp (.next t) := by
  intro u e
  cases e
  exact h

theorem outGood_fault (f : Fault) : OutGood kp (.fault f) := by
  intro u e
  cases e

/-- A change that keeps the queue and the canonical form, and changes only what is free. -/
theorem Good.change {t s : State} (h : Good kp t) (hq : s.pending = t.pending) (hc : t.Canon → s.Canon)
    (hp : ∀ p : Part, kp.free p ∨ p.same t s) : Good kp s :=
  ⟨hq.trans h.queue, fun hk => hc (h.canon hk), fun p hf => ((hp p).resolve_left hf |> Part.same_trans (h.same p hf))⟩

/-- A change of other fields: each part is free, or it is what it was. -/
theorem Good.upd {t : State} {fc now : Nat} {eff pend img : Tab Word} {hold : Tab (Option Word)} {wire : List (Nat × OutFrame)} {time : TimeSt}
    {mgmt : Mgmt} {net : Net} {ctl : Control} {seals : Sealing} {pw : Power} {faults : FaultSt} {units : Tab UnitSt} {ctxs : Tab CtxSt}
    {rnds : Tab RndSt} {adm : Adm} {stills : List Still} {surfs : Tab (Option Surface)} {mem : MemSt} {pools : Tab Pool}
    {dma : Tab DmaCh} {cal : CalSt} {boot : BootSt} (h : Good kp t) (h1 : mem.cells = t.mem.cells) (h2 : mem.poison = t.mem.poison)
    (h3 : mem.filled = t.mem.filled) (h4 : pw.journal = t.power.journal)
    (p_freeCtr : kp.free .freeCtr ∨ fc = t.freeCtr := by first | exact Or.inl (by assumption) | exact Or.inr rfl)
    (p_now : kp.free .now ∨ now = t.now := by first | exact Or.inl (by assumption) | exact Or.inr rfl)
    (p_config : kp.free .config ∨ (eff = t.eff ∧ pend = t.pend ∧ img = t.img) := by first | exact Or.inl (by assumption) | exact Or.inr ⟨rfl, rfl, rfl⟩)
    (p_hold : kp.free .hold ∨ hold = t.hold := by first | exact Or.inl (by assumption) | exact Or.inr rfl)
    (p_wire : kp.free .wire ∨ wire = t.wire := by first | exact Or.inl (by assumption) | exact Or.inr rfl)
    (p_time : kp.free .time ∨ time = t.time := by first | exact Or.inl (by assumption) | exact Or.inr rfl)
    (p_mgmt : kp.free .mgmt ∨ mgmt = t.mgmt := by first | exact Or.inl (by assumption) | exact Or.inr rfl)
    (p_net : kp.free .net ∨ net = t.net := by first | exact Or.inl (by assumption) | exact Or.inr rfl)
    (p_store : kp.free .store ∨ ctl.store = t.ctl.store := by first | exact Or.inl (by assumption) | exact Or.inr rfl)
    (p_control : kp.free .control ∨ { ctl with store := {} } = { t.ctl with store := {} } := by first | exact Or.inl (by assumption) | exact Or.inr rfl)
    (p_seals : kp.free .seals ∨ seals = t.seals := by first | exact Or.inl (by assumption) | exact Or.inr rfl)
    (p_power : kp.free .power ∨ { pw with journal := [] } = { t.power with journal := [] } := by first | exact Or.inl (by assumption) | exact Or.inr rfl)
    (p_faults : kp.free .faults ∨ faults = t.faults := by first | exact Or.inl (by assumption) | exact Or.inr rfl)
    (p_units : kp.free .units ∨ units = t.units := by first | exact Or.inl (by assumption) | exact Or.inr rfl)
    (p_ctxs : kp.free .ctxs ∨ ctxs = t.ctxs := by first | exact Or.inl (by assumption) | exact Or.inr rfl)
    (p_rnds : kp.free .rnds ∨ rnds = t.rnds := by first | exact Or.inl (by assumption) | exact Or.inr rfl)
    (p_adm : kp.free .adm ∨ adm = t.adm := by first | exact Or.inl (by assumption) | exact Or.inr rfl)
    (p_stills : kp.free .stills ∨ stills = t.stills := by first | exact Or.inl (by assumption) | exact Or.inr rfl)
    (p_surfs : kp.free .surfs ∨ surfs = t.surfs := by first | exact Or.inl (by assumption) | exact Or.inr rfl)
    (p_memory : kp.free .memory ∨ { mem with cells := [] } = { t.mem with cells := [] } := by first | exact Or.inl (by assumption) | exact Or.inr rfl)
    (p_pools : kp.free .pools ∨ pools = t.pools := by first | exact Or.inl (by assumption) | exact Or.inr rfl)
    (p_dma : kp.free .dma ∨ dma = t.dma := by first | exact Or.inl (by assumption) | exact Or.inr rfl)
    (p_cal : kp.free .cal ∨ cal = t.cal := by first | exact Or.inl (by assumption) | exact Or.inr rfl)
    (p_flash : kp.free .flash ∨ boot.flash = t.boot.flash := by first | exact Or.inl (by assumption) | exact Or.inr rfl)
    (p_otp : kp.free .otp ∨ boot.otp = t.boot.otp := by first | exact Or.inl (by assumption) | exact Or.inr rfl)
    (p_boot : kp.free .boot ∨ { boot with flash := [], otp := {} } = { t.boot with flash := [], otp := {} } := by first | exact Or.inl (by assumption) | exact Or.inr rfl)
    : Good kp (State.mk t.pending fc now t.regs eff pend img hold wire time mgmt net ctl seals pw faults units ctxs rnds adm stills surfs
      mem pools dma cal boot) := by
  refine ⟨h.queue, fun hk => ?_, fun p hp => ?_⟩
  · have hc := h.canon hk
    simp only [State.Canon, h1, h2, h3, h4] at hc ⊢
    exact hc
  · have hb := h.same p hp
    cases p
    · rcases p_freeCtr with q | q
      · exact absurd q hp
      · exact q.trans hb
    · rcases p_now with q | q
      · exact absurd q hp
      · exact q.trans hb
    · exact hb
    · rcases p_config with q | q
      · exact absurd q hp
      · exact ⟨q.1.trans hb.1, q.2.1.trans hb.2.1, q.2.2.trans hb.2.2⟩
    · rcases p_hold with q | q
      · exact absurd q hp
      · exact q.trans hb
    · rcases p_wire with q | q
      · exact absurd q hp
      · exact q.trans hb
    · rcases p_time with q | q
      · exact absurd q hp
      · exact q.trans hb
    · rcases p_mgmt with q | q
      · exact absurd q hp
      · exact q.trans hb
    · rcases p_net with q | q
      · exact absurd q hp
      · exact q.trans hb
    · rcases p_store with q | q
      · exact absurd q hp
      · exact q.trans hb
    · rcases p_control with q | q
      · exact absurd q hp
      · exact q.trans hb
    · rcases p_seals with q | q
      · exact absurd q hp
      · exact q.trans hb
    · exact h4.trans hb
    · rcases p_power with q | q
      · exact absurd q hp
      · exact q.trans hb
    · rcases p_faults with q | q
      · exact absurd q hp
      · exact q.trans hb
    · rcases p_units with q | q
      · exact absurd q hp
      · exact q.trans hb
    · rcases p_ctxs with q | q
      · exact absurd q hp
      · exact q.trans hb
    · rcases p_rnds with q | q
      · exact absurd q hp
      · exact q.trans hb
    · rcases p_adm with q | q
      · exact absurd q hp
      · exact q.trans hb
    · rcases p_stills with q | q
      · exact absurd q hp
      · exact q.trans hb
    · rcases p_surfs with q | q
      · exact absurd q hp
      · exact q.trans hb
    · exact h1.trans hb
    · rcases p_memory with q | q
      · exact absurd q hp
      · exact q.trans hb
    · rcases p_pools with q | q
      · exact absurd q hp
      · exact q.trans hb
    · rcases p_dma with q | q
      · exact absurd q hp
      · exact q.trans hb
    · rcases p_cal with q | q
      · exact absurd q hp
      · exact q.trans hb
    · rcases p_flash with q | q
      · exact absurd q hp
      · exact q.trans hb
    · rcases p_otp with q | q
      · exact absurd q hp
      · exact q.trans hb
    · rcases p_boot with q | q
      · exact absurd q hp
      · exact q.trans hb

theorem Good.ite {c : Prop} [Decidable c] {a b : State} (ha : Good kp a) (hb : Good kp b) : Good kp (if c then a else b) := by
  split <;> assumption

theorem OutGood.ite {c : Prop} [Decidable c] {a b : Host.Outcome State Fault Refusal} (ha : OutGood kp a) (hb : OutGood kp b) :
    OutGood kp (if c then a else b) := by
  split <;> assumption

theorem State.setReg_good {s : State} (a : Nat) (v : Word) (hG : Good kp s) (p_regs : kp.free .regs := by assumption) :
    Good kp (s.setReg a v) :=
  hG.change rfl (fun hc => ⟨twf_tput regReset _ _ _ hc.1, hc.2⟩)
    (fun p => by cases p <;> first | exact Or.inl p_regs | exact Or.inr rfl | exact Or.inr ⟨rfl, rfl⟩ | exact Or.inr ⟨rfl, rfl, rfl⟩)

theorem Good.foldl {α : Type} {f : State → α → State} {l : List α} {s : State} (h : Good kp s) (hf : ∀ t a, Good kp t → Good kp (f t a)) :
    Good kp (l.foldl f s) := by
  induction l generalizing s with
  | nil => exact h
  | cons a l ih => exact ih (hf s a h)

theorem Good.foldl2 {α β : Type} {f : β × State → α → β × State} {l : List α} {s : β × State} (h : Good kp s.2)
    (hf : ∀ t a, Good kp t.2 → Good kp (f t a).2) : Good kp (l.foldl f s).2 := by
  induction l generalizing s with
  | nil => exact h
  | cons a l ih => exact ih (hf s a h)

theorem Good.foldl1 {α β : Type} {f : State × β → α → State × β} {l : List α} {s : State × β} (h : Good kp s.1)
    (hf : ∀ t a, Good kp t.1 → Good kp (f t a).1) : Good kp (l.foldl f s).1 := by
  induction l generalizing s with
  | nil => exact h
  | cons a l ih => exact ih (hf s a h)

theorem Good.foldr {α : Type} {f : α → State → State} {l : List α} {s : State} (h : Good kp s) (hf : ∀ a t, Good kp t → Good kp (f a t)) :
    Good kp (l.foldr f s) := by
  induction l with
  | nil => exact h
  | cons a l ih => exact hf a _ ih

end Sys2Proof.Machine
end

