-- ==== Sys2Proof/Laws/KeepOps.lean ====
section
/-!
SUPPORT. What the operations of registers, the felt and byte memory, ports and seals keep: the queue, the canonical form of the tables, and every part of the
state but those that a lemma asks to be free.
-/
set_option Elab.async false

namespace Sys2Proof.Machine

variable {kp : Kept}

theorem State.setPair_good {s : State} (a : Nat) (v : Nat) (hG : Good kp s) (p_regs : kp.free .regs := by assumption) : Good kp
    (State.setPair s a v) := by
  unfold State.setPair
  try dsimp only
  with_reducible repeat' (first | assumption | apply State.setReg_good)

theorem State.bumpN_good {s : State} (a : Nat) (n : Nat) (hG : Good kp s) (p_regs : kp.free .regs := by assumption) : Good kp
    (State.bumpN s a n) := by
  unfold State.bumpN
  try dsimp only
  with_reducible repeat' (first | assumption | apply State.setPair_good)

theorem State.bump_good {s : State} (a : Nat) (hG : Good kp s) (p_regs : kp.free .regs := by assumption) : Good kp (State.bump s a) := by
  unfold State.bump
  try dsimp only
  with_reducible repeat' (first | assumption | apply State.bumpN_good)

theorem State.setEgq_good {s : State} (q : Nat) (x : EgqSt) (hG : Good kp s) (p_net : kp.free .net := by assumption) : Good kp
    (State.setEgq s q x) := by
  unfold State.setEgq
  try dsimp only
  with_reducible repeat' (first | assumption | apply Good.ite | split | (fail_if_no_progress refine Good.upd ?_ rfl rfl rfl rfl))

theorem State.tagQueue_good {s : State} (q : Nat) (hG : Good kp s) (p_net : kp.free .net := by assumption) : Good kp
    (State.tagQueue s q) := by
  unfold State.tagQueue
  try dsimp only
  with_reducible repeat' (first | assumption | apply State.setEgq_good | apply Good.ite | split)

theorem State.backlogSheet_good {s : State} (sheetMax : Nat) (x : Sheet) (hG : Good kp s) (p_regs : kp.free .regs := by assumption)
    (p_net : kp.free .net := by assumption) : Good kp (State.backlogSheet s sheetMax x) := by
  unfold State.backlogSheet
  try dsimp only
  with_reducible repeat' (first | assumption | apply State.bump_good | apply State.tagQueue_good | apply State.setEgq_good | apply Good.ite)

theorem State.emitSheet_good {s : State} (slot : Nat) (serial : Nat) (seq : Nat) (leaves : Nat) (chain : Bytes) (last : Bool)
    (recs : Bytes) (sheetMax : Nat) (hG : Good kp s) (p_regs : kp.free .regs := by assumption) (p_net : kp.free .net := by assumption)
    : Good kp (State.emitSheet s slot serial seq leaves chain last recs sheetMax) := by
  unfold State.emitSheet
  try dsimp only
  with_reducible repeat' (first | assumption | apply State.backlogSheet_good | apply State.bump_good
                                | refine Good.foldl ?_ (fun t a ht => ?_))

theorem State.closeSheet_good {s : State} (slot : Nat) (r : Ream) (hG : Good kp s) (p_regs : kp.free .regs := by assumption)
    (p_net : kp.free .net := by assumption) : Good kp (State.closeSheet s slot r).1 := by
  unfold State.closeSheet
  try dsimp only
  with_reducible repeat' (first | assumption | apply State.emitSheet_good | apply Good.ite | split)

theorem State.setSlot_good {s : State} (k : Nat) (x : SealSlot) (hG : Good kp s) (p_seals : kp.free .seals := by assumption) : Good kp
    (State.setSlot s k x) := by
  unfold State.setSlot
  try dsimp only
  with_reducible repeat' (first | assumption | apply Good.ite | split | (fail_if_no_progress refine Good.upd ?_ rfl rfl rfl rfl))

theorem State.nextWork_good {s : State} (hG : Good kp s) {r : SignWork × State} (e : (State.nextWork s) = some r)
    (p_seals : kp.free .seals := by assumption) : Good kp r.2 := by
  unfold State.nextWork at e
  try dsimp only
  repeat' split at e
  all_goals (first | (cases e; done) | (cases e))
  with_reducible repeat' (first | assumption | apply Good.ite | split | (fail_if_no_progress refine Good.upd ?_ rfl rfl rfl rfl))

theorem State.setSe_good {s : State} (k : Nat) (w : Option SignWork) (hG : Good kp s) (p_seals : kp.free .seals := by assumption)
    : Good kp (State.setSe s k w) := by
  unfold State.setSe
  try dsimp only
  with_reducible repeat' (first | assumption | apply Good.ite | split | (fail_if_no_progress refine Good.upd ?_ rfl rfl rfl rfl))

theorem State.startSign_good {s : State} (hG : Good kp s) (p_seals : kp.free .seals := by assumption) : Good kp (State.startSign s) := by
  have go : ∀ (t : State) (k : Nat), Good kp t → Good kp (if t.seFree k then (match t.nextWork with
      | some (w, u) => u.setSe k (some w)
      | none => t) else t) := by
    intro t k ht
    split
    · split
      · exact State.setSe_good _ _ (State.nextWork_good (r := (_, _)) ht (by assumption))
      · exact ht
    · exact ht
  exact go _ 1 (go s 0 hG)

theorem State.finalize_good {s : State} (slot : Nat) (r : Ream) (reason : Nat) (hG : Good kp s) (p_regs : kp.free .regs := by assumption)
    (p_net : kp.free .net := by assumption) (p_seals : kp.free .seals := by assumption) : Good kp (State.finalize s slot r reason) := by
  unfold State.finalize
  try dsimp only
  with_reducible repeat' (first | assumption | apply State.closeSheet_good | apply State.setSlot_good | apply State.startSign_good
                                | apply Good.ite | split | (fail_if_no_progress refine Good.upd ?_ rfl rfl rfl rfl))

theorem State.closeReam_good {s : State} (slot : Nat) (reason : Nat) (hG : Good kp s) (p_regs : kp.free .regs := by assumption)
    (p_net : kp.free .net := by assumption) (p_seals : kp.free .seals := by assumption) : Good kp (State.closeReam s slot reason) := by
  unfold State.closeReam
  try dsimp only
  with_reducible repeat' (first | assumption | apply State.setSlot_good | apply State.finalize_good | apply Good.ite | split)

theorem State.setPool_good {s : State} (p : Nat) (x : Pool) (hG : Good kp s) (p_pools : kp.free .pools := by assumption) : Good kp
    (State.setPool s p x) := by
  unfold State.setPool
  try dsimp only
  with_reducible repeat' (first | assumption | apply Good.ite | split | (fail_if_no_progress refine Good.upd ?_ rfl rfl rfl rfl))

theorem State.release_good {s : State} (h : Nat) (hG : Good kp s) (p_regs : kp.free .regs := by assumption)
    (p_pools : kp.free .pools := by assumption) : Good kp (State.release s h) := by
  unfold State.release
  try dsimp only
  with_reducible repeat' (first | assumption | apply State.setPool_good | apply State.bump_good | apply State.setReg_good)

theorem State.freeOwn_good {s : State} (h : Nat) (hG : Good kp s) (p_regs : kp.free .regs := by assumption)
    (p_pools : kp.free .pools := by assumption) : Good kp (State.freeOwn s h) := by
  unfold State.freeOwn
  try dsimp only
  with_reducible repeat' (first | assumption | apply State.release_good | apply Good.ite | split)

theorem State.setRegF_good {s : State} (a : Nat) (lo : Nat) (w : Nat) (x : Nat) (hG : Good kp s) (p_regs : kp.free .regs := by assumption)
    : Good kp (State.setRegF s a lo w x) := by
  unfold State.setRegF
  try dsimp only
  with_reducible repeat' (first | assumption | apply State.setReg_good)

theorem State.awaitLeaf_good {s : State} (slot : Nat) (l : Leaf) (hG : Good kp s) (p_regs : kp.free .regs := by assumption)
    (p_seals : kp.free .seals := by assumption) : Good kp (State.awaitLeaf s slot l) := by
  unfold State.awaitLeaf
  try dsimp only
  with_reducible repeat' (first | assumption | apply State.setSlot_good | apply State.setRegF_good | apply Good.ite)

theorem State.takeSerial_good {s : State} (hG : Good kp s) (p_seals : kp.free .seals := by assumption) : Good kp
    (State.takeSerial s).2 := by
  unfold State.takeSerial
  try dsimp only
  with_reducible repeat' (first | assumption | apply Good.ite | split | (fail_if_no_progress refine Good.upd ?_ rfl rfl rfl rfl))

theorem State.newHdr_good {s : State} (a1 : Nat) (comp : Bytes) (hG : Good kp s) (p_seals : kp.free .seals := by assumption) : Good kp
    (State.newHdr s a1 comp).2 := by
  unfold State.newHdr
  try dsimp only
  with_reducible repeat' (first | assumption | apply State.takeSerial_good)

theorem State.placeFuel_good (slot : Nat) (type : Nat) (total : Nat) (headsAfter : Option (Nat × Bytes)) (x1 : Nat) (x2 : Nat)
    (x3 : Bytes) {x4 : State × Ream} (hGx4 : Good kp x4.1) (p_regs : kp.free .regs := by assumption)
    (p_net : kp.free .net := by assumption) : Good kp (State.placeFuel slot type total headsAfter x1 x2 x3 x4).1 := by
  induction x1 generalizing x2 x3 x4 with
  | zero => exact hGx4
  | succ j ih =>
    obtain ⟨s, r⟩ := x4
    dsimp only at hGx4
    unfold State.placeFuel
    dsimp only
    with_reducible repeat' (first | assumption | apply ih | apply State.closeSheet_good | split)

theorem State.place_good (slot : Nat) (type : Nat) (obj : Bytes) (headsAfter : Option (Nat × Bytes)) {sr : State × Ream} (hGsr
    : Good kp sr.1) (p_regs : kp.free .regs := by assumption) (p_net : kp.free .net := by assumption) : Good kp
    (State.place slot type obj headsAfter sr).1 := by
  unfold State.place
  try dsimp only
  with_reducible repeat' (first | assumption | apply State.placeFuel_good)

theorem State.openReam_good {s : State} (slot : Nat) (hdr : ReamHdr) (l : Leaf) (hG : Good kp s) (p_regs : kp.free .regs := by assumption)
    (p_net : kp.free .net := by assumption) (p_seals : kp.free .seals := by assumption) : Good kp (State.openReam s slot hdr l).1 := by
  have h3 : ∀ t : State, Good kp t → Good kp { t with seals := { t.seals with links := tput (fun _ => none) t.seals.links slot none } } :=
    fun t ht => Good.upd ht rfl rfl rfl rfl
  unfold State.openReam
  exact State.place_good _ _ _ _ (State.place_good _ _ _ _ (sr := (_, _))
    (h3 _ (Good.ite (State.bump_good _ (State.bump_good _ hG)) (State.bump_good _ hG))))

theorem State.chainOne_good {s : State} (slot : Nat) (l : Leaf) (hG : Good kp s) (p_regs : kp.free .regs := by assumption)
    (p_net : kp.free .net := by assumption) (p_seals : kp.free .seals := by assumption) : Good kp (State.chainOne s slot l) := by
  unfold State.chainOne
  try dsimp only
  with_reducible repeat' (first | assumption | apply State.openReam_good | apply State.newHdr_good | apply State.bump_good
                                | apply State.place_good | apply State.finalize_good | apply State.setSlot_good | apply Good.ite | split
                                | (fail_if_no_progress refine Good.upd ?_ rfl rfl rfl rfl))

theorem State.chainReadyFuel_good (slot : Nat) (x1 : Nat) {x2 : State} (hGx2 : Good kp x2) (p_regs : kp.free .regs := by assumption)
    (p_net : kp.free .net := by assumption) (p_seals : kp.free .seals := by assumption) : Good kp (State.chainReadyFuel slot x1 x2) := by
  induction x1 generalizing x2 with
  | zero => exact hGx2
  | succ j ih =>
    unfold State.chainReadyFuel
    try dsimp only
    with_reducible repeat' (first | assumption | apply ih | apply State.chainOne_good | apply State.setSlot_good | apply Good.ite | split)

theorem State.chainReady_good {s : State} (slot : Nat) (hG : Good kp s) (p_regs : kp.free .regs := by assumption)
    (p_net : kp.free .net := by assumption) (p_seals : kp.free .seals := by assumption) : Good kp (State.chainReady s slot) := by
  unfold State.chainReady
  try dsimp only
  with_reducible repeat' (first | assumption | apply State.chainReadyFuel_good)

theorem State.chainRenditions_good {s : State} (hG : Good kp s) (p_regs : kp.free .regs := by assumption)
    (p_net : kp.free .net := by assumption) (p_seals : kp.free .seals := by assumption) : Good kp (State.chainRenditions s) := by
  unfold State.chainRenditions
  try dsimp only
  with_reducible repeat' (first | assumption | apply State.chainReady_good | refine Good.foldl ?_ (fun t a ht => ?_))

theorem State.pendEvent_good {s : State} (n : Nat) (hG : Good kp s) (p_regs : kp.free .regs := by assumption)
    (p_control : kp.free .control := by assumption) : Good kp (State.pendEvent s n) := by
  unfold State.pendEvent
  try dsimp only
  with_reducible repeat' (first | assumption | apply State.bump_good | apply Good.ite | split
                                | (fail_if_no_progress refine Good.upd ?_ rfl rfl rfl rfl))

theorem State.routeAll_good {s : State} (hG : Good kp s) (p_regs : kp.free .regs := by assumption)
    (p_control : kp.free .control := by assumption) : Good kp (State.routeAll s) := by
  unfold State.routeAll
  try dsimp only
  with_reducible repeat' (first | assumption | apply State.bumpN_good | apply Good.ite | split
                                | (fail_if_no_progress refine Good.upd ?_ rfl rfl rfl rfl))

theorem State.releaseGroup_good {s : State} (g : Nat) (hG : Good kp s) (p_control : kp.free .control := by assumption) : Good kp
    (State.releaseGroup s g) := by
  unfold State.releaseGroup
  try dsimp only
  with_reducible repeat' (first | assumption | apply Good.ite | split | (fail_if_no_progress refine Good.upd ?_ rfl rfl rfl rfl))

theorem State.tryRelease_good {s : State} (g : Nat) (hG : Good kp s) (p_regs : kp.free .regs := by assumption)
    (p_control : kp.free .control := by assumption) : Good kp (State.tryRelease s g) := by
  unfold State.tryRelease
  try dsimp only
  with_reducible repeat' (first | assumption | apply State.bump_good | apply State.releaseGroup_good | apply Good.ite)

theorem State.settleEvents_good {s : State} (hG : Good kp s) (p_regs : kp.free .regs := by assumption)
    (p_control : kp.free .control := by assumption) : Good kp (State.settleEvents s) := by
  unfold State.settleEvents
  try dsimp only
  with_reducible repeat' (first | assumption | apply State.routeAll_good | apply State.tryRelease_good
                                | refine Good.foldl ?_ (fun t a ht => ?_))

theorem State.raiseEvs_good {s : State} (ns : List Nat) (hG : Good kp s) (p_regs : kp.free .regs := by assumption)
    (p_control : kp.free .control := by assumption) : Good kp (State.raiseEvs s ns) := by
  unfold State.raiseEvs
  try dsimp only
  with_reducible repeat' (first | assumption | apply State.settleEvents_good | apply State.pendEvent_good
                                | refine Good.foldl ?_ (fun t a ht => ?_))

theorem State.raiseEv_good {s : State} (n : Nat) (hG : Good kp s) (p_regs : kp.free .regs := by assumption)
    (p_control : kp.free .control := by assumption) : Good kp (State.raiseEv s n) := by
  unfold State.raiseEv
  try dsimp only
  with_reducible repeat' (first | assumption | apply State.raiseEvs_good)

theorem State.setRegBit_good {s : State} (a : Nat) (i : Nat) (b : Bool) (hG : Good kp s) (p_regs : kp.free .regs := by assumption)
    : Good kp (State.setRegBit s a i b) := by
  unfold State.setRegBit
  try dsimp only
  with_reducible repeat' (first | assumption | apply State.setRegF_good)

theorem State.setPort_good {s : State} (p : Nat) (x : PortSt) (hG : Good kp s) (p_net : kp.free .net := by assumption) : Good kp
    (State.setPort s p x) := by
  unfold State.setPort
  try dsimp only
  with_reducible repeat' (first | assumption | apply Good.ite | split | (fail_if_no_progress refine Good.upd ?_ rfl rfl rfl rfl))

theorem State.enqueue_good {s : State} (p : Nat) (f : OutFrame) (hG : Good kp s) (p_net : kp.free .net := by assumption) : Good kp
    (State.enqueue s p f) := by
  unfold State.enqueue
  try dsimp only
  with_reducible repeat' (first | assumption | apply State.setPort_good | apply Good.ite)

theorem State.startResolve_good {s : State} (p : Nat) (ip : Nat) (hG : Good kp s) (p_net : kp.free .net := by assumption) : Good kp
    (State.startResolve s p ip) := by
  unfold State.startResolve
  try dsimp only
  with_reducible repeat' (first | assumption | apply State.enqueue_good | apply State.setPort_good | apply Good.ite | split)

theorem State.send_good {s : State} (p : Nat) (f : OutFrame) (hG : Good kp s) (p_net : kp.free .net := by assumption) : Good kp
    (State.send s p f) := by
  unfold State.send
  try dsimp only
  with_reducible repeat' (first | assumption | apply State.enqueue_good | apply State.startResolve_good | apply State.setPort_good
                                | apply Good.ite | split)

theorem State.toPartner_good {s : State} (n : Nat) (kind : FrameKind) (datagram : Bytes) (hG : Good kp s)
    (p_net : kp.free .net := by assumption) : Good kp (State.toPartner s n kind datagram) := by
  unfold State.toPartner
  try dsimp only
  with_reducible repeat' (first | assumption | apply State.send_good)

theorem State.clearRegs_good {s : State} (a : Nat) (x1 : Nat) (hG : Good kp s) (p_regs : kp.free .regs := by assumption) : Good kp
    (State.clearRegs s a x1) := by
  induction x1 generalizing a s with
  | zero => exact hG
  | succ j ih =>
    unfold State.clearRegs
    try dsimp only
    with_reducible repeat' (first | assumption | apply ih | apply State.setReg_good)

theorem State.discard_good {s : State} (ctr : Nat) (hG : Good kp s) (p_regs : kp.free .regs := by assumption) : Good kp
    (State.discard s ctr) := by
  unfold State.discard
  try dsimp only
  with_reducible repeat' (first | assumption | apply State.bump_good)

theorem State.policeCtl_good {s : State} (p : Nat) (len : Nat) (hG : Good kp s) (p_regs : kp.free .regs := by assumption)
    (p_net : kp.free .net := by assumption) : Good kp (State.policeCtl s p len).1 := by
  unfold State.policeCtl
  try dsimp only
  with_reducible repeat' (first | assumption | apply State.setPort_good | apply State.bumpN_good | apply State.bump_good | apply Good.ite
                                | split)

theorem State.acceptCtl_good {s : State} (f : RxFrame) (permitted : Bool) (hG : Good kp s) (p_regs : kp.free .regs := by assumption)
    (p_net : kp.free .net := by assumption) (p_control : kp.free .control := by assumption) : Good kp
    (State.acceptCtl s f permitted).1 := by
  unfold State.acceptCtl
  try dsimp only
  with_reducible repeat' (first | assumption | apply State.discard_good | apply State.policeCtl_good | apply State.raiseEv_good
                                | apply State.bump_good | apply Good.ite | split)

theorem State.setSeq_good {s : State} (i : Nat) (q : SeqSt) (hG : Good kp s) (p_control : kp.free .control := by assumption) : Good kp
    (State.setSeq s i q) := by
  unfold State.setSeq
  try dsimp only
  with_reducible repeat' (first | assumption | apply Good.ite | split | (fail_if_no_progress refine Good.upd ?_ rfl rfl rfl rfl))

theorem State.markLine_good {s : State} (line : Nat) (m : Bool) (hG : Good kp s) (p_memory : kp.free .memory := by assumption) : Good kp
    (State.markLine s line m) := by
  exact hG.change rfl (fun hc => ⟨hc.1, hc.2.1, twf_tput _ _ _ _ hc.2.2.1, hc.2.2.2⟩)
    (fun p => by cases p <;> first | exact Or.inl (by assumption) | exact Or.inr rfl | exact Or.inr ⟨rfl, rfl⟩ | exact Or.inr ⟨rfl, rfl, rfl⟩)

theorem State.showFill_good {s : State} (hG : Good kp s) (p_regs : kp.free .regs := by assumption) : Good kp (State.showFill s) := by
  unfold State.showFill
  try dsimp only
  with_reducible repeat' (first | assumption | apply State.setReg_good)

theorem State.fillChunk_good {s : State} (c : Nat) (hG : Good kp s) (p_regs : kp.free .regs := by assumption)
    (p_cells : kp.free .cells := by assumption) (p_memory : kp.free .memory := by assumption) : Good kp (State.fillChunk s c) := by
  unfold State.fillChunk
  split
  · exact hG
  · refine State.showFill_good ?_
    exact hG.change rfl (fun hc => ⟨hc.1, twf_filter _ _ _ hc.2.1, twf_filter _ _ _ hc.2.2.1, twf_tput _ _ _ _ hc.2.2.2.1, hc.2.2.2.2⟩)
      (fun p => by cases p <;> first | exact Or.inl (by assumption) | exact Or.inr rfl | exact Or.inr ⟨rfl, rfl⟩ | exact Or.inr ⟨rfl, rfl, rfl⟩)

theorem State.chainForced_good (slot : Nat) (x1 : Nat) {x2 : State} (hGx2 : Good kp x2) (p_regs : kp.free .regs := by assumption)
    (p_net : kp.free .net := by assumption) (p_seals : kp.free .seals := by assumption) : Good kp (State.chainForced slot x1 x2) := by
  induction x1 generalizing x2 with
  | zero => exact hGx2
  | succ j ih =>
    unfold State.chainForced
    try dsimp only
    with_reducible repeat' (first | assumption | apply ih | apply State.chainOne_good | apply State.setSlot_good | apply Good.ite | split)

theorem State.chainAll_good {s : State} (hG : Good kp s) (p_regs : kp.free .regs := by assumption) (p_net : kp.free .net := by assumption)
    (p_seals : kp.free .seals := by assumption) : Good kp (State.chainAll s) := by
  unfold State.chainAll
  try dsimp only
  with_reducible repeat' (first | assumption | apply State.chainForced_good | apply State.chainRenditions_good | apply State.setSlot_good
                                | refine Good.foldl ?_ (fun t a ht => ?_))

theorem State.freeze_good {s : State} (cause : Nat) (hG : Good kp s) (p_power : kp.free .power := by assumption) : Good kp
    (State.freeze s cause) := by
  unfold State.freeze
  try dsimp only
  with_reducible repeat' (first | assumption | apply Good.ite | split | (fail_if_no_progress refine Good.upd ?_ rfl rfl rfl rfl))

theorem State.markSteady_good {s : State} (hG : Good kp s) (p_net : kp.free .net := by assumption) : Good kp (State.markSteady s) := by
  unfold State.markSteady
  try dsimp only
  with_reducible repeat' (first | assumption | apply State.setPort_good | refine Good.foldl ?_ (fun t a ht => ?_))

theorem State.commitChains_good {s : State} (cause : Nat) (hG : Good kp s) (p_regs : kp.free .regs := by assumption)
    (p_net : kp.free .net := by assumption) (p_seals : kp.free .seals := by assumption) (p_power : kp.free .power := by assumption)
    : Good kp (State.commitChains s cause) := by
  unfold State.commitChains
  try dsimp only
  with_reducible repeat' (first | assumption | apply State.freeze_good | apply State.markSteady_good | apply State.chainAll_good
                                | apply State.startSign_good | apply Good.ite | split
                                | (fail_if_no_progress refine Good.upd ?_ rfl rfl rfl rfl))

theorem State.directEvent_good {s : State} (n : Nat) (i : Nat) (hG : Good kp s) (p_regs : kp.free .regs := by assumption)
    (p_control : kp.free .control := by assumption) : Good kp (State.directEvent s n i) := by
  unfold State.directEvent
  try dsimp only
  with_reducible repeat' (first | assumption | apply State.settleEvents_good | apply Good.ite | split
                                | (fail_if_no_progress refine Good.upd ?_ rfl rfl rfl rfl))

theorem State.declareDown_good {s : State} (p : Nat) (hG : Good kp s) (p_regs : kp.free .regs := by assumption)
    (p_net : kp.free .net := by assumption) (p_control : kp.free .control := by assumption) : Good kp (State.declareDown s p) := by
  unfold State.declareDown
  try dsimp only
  with_reducible repeat' (first | assumption | apply State.setPort_good | apply State.setRegBit_good | apply State.raiseEv_good
                                | apply State.bump_good | apply Good.ite)

theorem State.rehome_good {s : State} (a : Nat) (b : Nat) (hG : Good kp s) (p_pools : kp.free .pools := by assumption) : Good kp
    (State.rehome s a b) := by
  unfold State.rehome
  try dsimp only
  with_reducible repeat' (first | assumption | apply Good.ite | split | (fail_if_no_progress refine Good.upd ?_ rfl rfl rfl rfl))

theorem State.bump32_good {s : State} (a : Nat) (n : Nat) (hG : Good kp s) (p_regs : kp.free .regs := by assumption) : Good kp
    (State.bump32 s a n) := by
  unfold State.bump32
  try dsimp only
  with_reducible repeat' (first | assumption | apply State.setReg_good)

theorem State.setRegs_good {s : State} (a : Nat) (x1 : List Word) (hG : Good kp s) (p_regs : kp.free .regs := by assumption) : Good kp
    (State.setRegs s a x1) := by
  induction x1 generalizing a s with
  | nil => exact hG
  | cons y ks ih =>
    unfold State.setRegs
    try dsimp only
    with_reducible repeat' (first | assumption | apply ih | apply State.setReg_good)

theorem State.syncState_good {s : State} (hG : Good kp s) (p_regs : kp.free .regs := by assumption)
    (p_faults : kp.free .faults := by assumption) : Good kp (State.syncState s) := by
  unfold State.syncState
  try dsimp only
  with_reducible repeat' (first | assumption | apply State.setRegBit_good | apply State.setRegF_good | apply Good.ite | split
                                | (fail_if_no_progress refine Good.upd ?_ rfl rfl rfl rfl))

theorem State.takeBuf_good {s : State} (agent : Nat) (p : Nat) (hG : Good kp s) {r : Nat × State} (e : (State.takeBuf s agent p) = some r)
    (p_regs : kp.free .regs := by assumption) (p_pools : kp.free .pools := by assumption) : Good kp r.2 := by
  unfold State.takeBuf at e
  dsimp only at e
  split at e
  · cases e
    exact State.bump_good _ (Good.ite (State.setReg_good _ _ (State.setReg_good _ _ (State.setPool_good _ _ hG)))
      (State.setReg_good _ _ (State.setPool_good _ _ hG)))
  · split at e
    · cases e
      exact State.bump_good _ (Good.ite (State.setReg_good _ _ (State.setReg_good _ _ (State.setPool_good _ _ hG)))
        (State.setReg_good _ _ (State.setPool_good _ _ hG)))
    · cases e

theorem State.allocFuel_good (agent : Nat) (x1 : Nat) (x2 : Nat) {x3 : State} (hGx3 : Good kp x3) {r : Nat × State} (e :
    (State.allocFuel agent x1 x2 x3) = some r) (p_regs : kp.free .regs := by assumption) (p_pools : kp.free .pools := by assumption)
    : Good kp r.2 := by
  induction x1 generalizing x2 with
  | zero => cases e
  | succ j ih =>
    unfold State.allocFuel at e
    split at e
    · cases e
      exact State.takeBuf_good _ _ hGx3 (by assumption)
    · dsimp only at e
      split at e
      · exact ih _ e
      · cases e

theorem State.alloc_good {s : State} (agent : Nat) (p : Nat) (hG : Good kp s) (p_regs : kp.free .regs := by assumption)
    (p_pools : kp.free .pools := by assumption) : Good kp (State.alloc s agent p).2 := by
  unfold State.alloc
  try dsimp only
  with_reducible repeat' (first | assumption | (refine State.allocFuel_good _ _ _ ?_ (by assumption)) | apply State.bump_good
                                | apply Good.ite | split)

theorem State.announceLink_good {s : State} (p : Nat) (hG : Good kp s) (p_net : kp.free .net := by assumption) : Good kp
    (State.announceLink s p) := by
  unfold State.announceLink
  try dsimp only
  with_reducible repeat' (first | assumption | apply State.send_good | apply Good.ite)

theorem State.sendRecord_good {s : State} (agent : Nat) (dest : Nat) (kind : Nat) (slot : Nat) (leafSeq : Nat) (status : Nat)
    (value : Nat) (since : Nat) (hG : Good kp s) (p_control : kp.free .control := by assumption) : Good kp
    (State.sendRecord s agent dest kind slot leafSeq status value since) := by
  unfold State.sendRecord
  try dsimp only
  with_reducible repeat' (first | assumption | apply Good.ite | split | (fail_if_no_progress refine Good.upd ?_ rfl rfl rfl rfl))

theorem State.showFec_good {s : State} (p : Nat) (hG : Good kp s) (p_regs : kp.free .regs := by assumption) : Good kp
    (State.showFec s p) := by
  unfold State.showFec
  try dsimp only
  with_reducible repeat' (first | assumption | apply State.setRegF_good)

theorem State.enablePort_good {s : State} (p : Nat) (hG : Good kp s) (p_regs : kp.free .regs := by assumption)
    (p_net : kp.free .net := by assumption) : Good kp (State.enablePort s p) := by
  unfold State.enablePort
  try dsimp only
  with_reducible repeat' (first | assumption | apply State.showFec_good | apply State.setPort_good)

theorem State.commitDone_good {s : State} (hG : Good kp s) (p_regs : kp.free .regs := by assumption)
    (p_journal : kp.free .journal := by assumption) (p_power : kp.free .power := by assumption) : Good kp (State.commitDone s) := by
  refine State.setRegF_good _ _ _ _ ?_
  exact hG.change rfl (fun hc => ⟨hc.1, hc.2.1, hc.2.2.1, hc.2.2.2.1, Journal.wf_parts _ _ hc.2.2.2.2⟩)
    (fun p => by cases p <;> first | exact Or.inl (by assumption) | exact Or.inr rfl | exact Or.inr ⟨rfl, rfl⟩ | exact Or.inr ⟨rfl, rfl, rfl⟩)

theorem State.touch_good {s : State} (a : Nat) (n : Nat) (hG : Good kp s) (p_regs : kp.free .regs := by assumption)
    (p_cells : kp.free .cells := by assumption) (p_memory : kp.free .memory := by assumption) : Good kp (State.touch s a n) := by
  unfold State.touch
  try dsimp only
  with_reducible repeat' (first | assumption | apply State.fillChunk_good | refine Good.foldl ?_ (fun t a ht => ?_)
                                | refine Good.foldl2 ?_ (fun t a ht => ?_) | refine Good.foldl1 ?_ (fun t a ht => ?_)
                                | refine Good.foldr ?_ (fun a t ht => ?_) | apply Good.ite)

theorem State.putMem_good {s : State} (a : Nat) (b : Bytes) (hG : Good kp s) (p_regs : kp.free .regs := by assumption)
    (p_cells : kp.free .cells := by assumption) (p_memory : kp.free .memory := by assumption) : Good kp (State.putMem s a b) := by
  have h := State.touch_good a b.length hG
  unfold State.putMem
  dsimp only
  split
  · exact h.change rfl (fun hc => ⟨hc.1, Memory.wf_putBytes _ _ _ hc.2.1, hc.2.2⟩)
      (fun p => by cases p <;> first | exact Or.inl (by assumption) | exact Or.inr rfl | exact Or.inr ⟨rfl, rfl⟩ | exact Or.inr ⟨rfl, rfl, rfl⟩)
  · exact h.change rfl (fun hc => ⟨hc.1, Memory.wf_putBytes _ _ _ hc.2.1, twf_filter _ _ _ hc.2.2.1, hc.2.2.2⟩)
      (fun p => by cases p <;> first | exact Or.inl (by assumption) | exact Or.inr rfl | exact Or.inr ⟨rfl, rfl⟩ | exact Or.inr ⟨rfl, rfl, rfl⟩)

theorem State.fresh_good {s : State} (w : Nat) (hG : Good kp s) (p_freeCtr : kp.free .freeCtr := by assumption) : Good kp
    (State.fresh s w).2 := by
  unfold State.fresh
  try dsimp only
  with_reducible repeat' (first | assumption | apply Good.ite | split | (fail_if_no_progress refine Good.upd ?_ rfl rfl rfl rfl))

theorem State.controlFrame_good {s : State} (f : RxFrame) (hG : Good kp s) (p_regs : kp.free .regs := by assumption)
    (p_net : kp.free .net := by assumption) (p_control : kp.free .control := by assumption) : Good kp (State.controlFrame s f) := by
  unfold State.controlFrame
  try dsimp only
  with_reducible repeat' (first | assumption | apply State.acceptCtl_good | apply Good.ite | split)

theorem State.transmit_good {s : State} (p : Nat) (f : OutFrame) (hG : Good kp s) (p_regs : kp.free .regs := by assumption)
    (p_wire : kp.free .wire := by assumption) : Good kp (State.transmit s p f) := by
  unfold State.transmit
  try dsimp only
  with_reducible repeat' (first | assumption | apply State.bump_good | apply Good.ite | split
                                | (fail_if_no_progress refine Good.upd ?_ rfl rfl rfl rfl))

theorem State.resendManifest_good {s : State} (p : Nat) (hG : Good kp s) (p_regs : kp.free .regs := by assumption)
    (p_wire : kp.free .wire := by assumption) : Good kp (State.resendManifest s p) := by
  unfold State.resendManifest
  try dsimp only
  with_reducible repeat' (first | assumption | apply State.transmit_good | refine Good.foldl ?_ (fun t a ht => ?_)
                                | refine Good.foldl2 ?_ (fun t a ht => ?_) | refine Good.foldl1 ?_ (fun t a ht => ?_)
                                | refine Good.foldr ?_ (fun a t ht => ?_) | apply Good.ite)

theorem State.declareUp_good {s : State} (p : Nat) (hG : Good kp s) (p_regs : kp.free .regs := by assumption)
    (p_wire : kp.free .wire := by assumption) (p_net : kp.free .net := by assumption) (p_control : kp.free .control := by assumption)
    : Good kp (State.declareUp s p) := by
  unfold State.declareUp
  try dsimp only
  with_reducible repeat' (first | assumption | apply State.setRegBit_good | apply State.resendManifest_good
                                | apply State.announceLink_good | apply State.setPort_good | apply State.raiseEv_good)

theorem State.feltLast_good {s : State} (h : Nat) (kind : Nat) (agent : Nat) (owner : Nat) (give : Bool) (hG : Good kp s)
    (p_regs : kp.free .regs := by assumption) : Good kp (State.feltLast s h kind agent owner give) := by
  unfold State.feltLast
  try dsimp only
  with_reducible repeat' (first | assumption | apply State.setReg_good | apply State.bump_good | apply Good.ite)

theorem State.freeOrGive_good {s : State} (agent : Nat) (h : Nat) (give : Option Nat) (hG : Good kp s)
    (p_regs : kp.free .regs := by assumption) (p_pools : kp.free .pools := by assumption) : Good kp
    (State.freeOrGive s agent h give).2 := by
  unfold State.freeOrGive
  try dsimp only
  with_reducible repeat' (first | assumption | apply State.feltLast_good | apply State.release_good | apply State.setPool_good
                                | apply Good.ite | split)

theorem State.loadSegments_good {s : State} (m : Bytes) (hG : Good kp s) (p_net : kp.free .net := by assumption) : Good kp
    (State.loadSegments s m) := by
  unfold State.loadSegments
  try dsimp only
  with_reducible repeat' (first | assumption | apply State.setPort_good | refine Good.foldl ?_ (fun t a ht => ?_)
                                | refine Good.foldl2 ?_ (fun t a ht => ?_) | refine Good.foldl1 ?_ (fun t a ht => ?_)
                                | refine Good.foldr ?_ (fun a t ht => ?_) | apply Good.ite)

theorem State.manifestSigned_good {s : State} (hG : Good kp s) (p_net : kp.free .net := by assumption)
    (p_power : kp.free .power := by assumption) : Good kp (State.manifestSigned s) := by
  unfold State.manifestSigned
  try dsimp only
  with_reducible repeat' (first | assumption | apply State.loadSegments_good | apply Good.ite | split
                                | (fail_if_no_progress refine Good.upd ?_ rfl rfl rfl rfl))

theorem State.placeSeal_good {s : State} (j : SealJob) (sig : Bytes) (hG : Good kp s) (p_regs : kp.free .regs := by assumption)
    (p_net : kp.free .net := by assumption) : Good kp (State.placeSeal s j sig) := by
  unfold State.placeSeal
  try dsimp only
  with_reducible repeat' (first | assumption | apply State.emitSheet_good | apply State.bump_good)

theorem State.setPartner_good {s : State} (n : Nat) (x : PartnerSt) (hG : Good kp s) (p_net : kp.free .net := by assumption) : Good kp
    (State.setPartner s n x) := by
  unfold State.setPartner
  try dsimp only
  with_reducible repeat' (first | assumption | apply Good.ite | split | (fail_if_no_progress refine Good.upd ?_ rfl rfl rfl rfl))

theorem State.resolved_good {s : State} (p : Nat) (ip : Nat) (mac : Nat) (hG : Good kp s) (p_net : kp.free .net := by assumption)
    : Good kp (State.resolved s p ip mac) := by
  unfold State.resolved
  try dsimp only
  with_reducible repeat' (first | assumption | apply State.setPort_good | apply State.enqueue_good | apply State.setPartner_good
                                | refine Good.foldl ?_ (fun t a ht => ?_) | refine Good.foldl2 ?_ (fun t a ht => ?_)
                                | refine Good.foldl1 ?_ (fun t a ht => ?_) | refine Good.foldr ?_ (fun a t ht => ?_) | apply Good.ite
                                | split)

theorem State.sendDirect_good {s : State} (p : Nat) (f : OutFrame) (hG : Good kp s) (p_regs : kp.free .regs := by assumption)
    (p_wire : kp.free .wire := by assumption) : Good kp (State.sendDirect s p f) := by
  unfold State.sendDirect
  try dsimp only
  with_reducible repeat' (first | assumption | apply State.transmit_good | apply Good.ite)

theorem State.sendResolved_good {s : State} (p : Nat) (f : OutFrame) (hG : Good kp s) (p_regs : kp.free .regs := by assumption)
    (p_wire : kp.free .wire := by assumption) : Good kp (State.sendResolved s p f) := by
  unfold State.sendResolved
  try dsimp only
  with_reducible repeat' (first | assumption | apply State.sendDirect_good | apply Good.ite | split)

theorem State.sendHeartbeats_good {s : State} (hG : Good kp s) (p_regs : kp.free .regs := by assumption)
    (p_wire : kp.free .wire := by assumption) (p_net : kp.free .net := by assumption) : Good kp (State.sendHeartbeats s) := by
  unfold State.sendHeartbeats
  try dsimp only
  with_reducible repeat' (first | assumption | apply State.sendDirect_good | apply State.send_good | apply State.sendResolved_good
                                | apply State.toPartner_good | refine Good.foldl ?_ (fun t a ht => ?_)
                                | refine Good.foldl2 ?_ (fun t a ht => ?_) | refine Good.foldl1 ?_ (fun t a ht => ?_)
                                | refine Good.foldr ?_ (fun a t ht => ?_) | apply Good.ite | split
                                | (fail_if_no_progress refine Good.upd ?_ rfl rfl rfl rfl))

theorem execArpReply_good (f : RxFrame) {s : State} (hG : Good kp s) (p_regs : kp.free .regs := by assumption)
    (p_net : kp.free .net := by assumption) (p_control : kp.free .control := by assumption) : OutGood kp (execArpReply f s) := by
  unfold execArpReply
  try dsimp only
  with_reducible repeat' (first | assumption | apply State.acceptCtl_good | apply State.resolved_good | apply outGood_next
                                | apply outGood_fault | apply Good.ite | apply OutGood.ite)

theorem execArpRequest_good (f : RxFrame) {s : State} (hG : Good kp s) (p_regs : kp.free .regs := by assumption)
    (p_net : kp.free .net := by assumption) (p_control : kp.free .control := by assumption) : OutGood kp (execArpRequest f s) := by
  unfold execArpRequest
  try dsimp only
  with_reducible repeat' (first | assumption | apply State.acceptCtl_good | apply State.send_good | apply outGood_next
                                | apply outGood_fault | apply Good.ite | apply OutGood.ite)

theorem execBlockLockAcquired_good (p : Fin 4) {s : State} (hG : Good kp s) (p_regs : kp.free .regs := by assumption)
    (p_net : kp.free .net := by assumption) : OutGood kp (execBlockLockAcquired p s) := by
  unfold execBlockLockAcquired
  try dsimp only
  with_reducible repeat' (first | assumption | apply State.setRegBit_good | apply State.setPort_good | apply outGood_next)

theorem execBlockLockLost_good (p : Fin 4) {s : State} (hG : Good kp s) (p_regs : kp.free .regs := by assumption)
    (p_net : kp.free .net := by assumption) : OutGood kp (execBlockLockLost p s) := by
  unfold execBlockLockLost
  try dsimp only
  with_reducible repeat' (first | assumption | apply State.setRegBit_good | apply State.setPort_good | apply outGood_next)

theorem execDeviceHeartbeatTimer_good {s : State} (hG : Good kp s) (p_regs : kp.free .regs := by assumption)
    (p_wire : kp.free .wire := by assumption) (p_net : kp.free .net := by assumption) : OutGood kp (execDeviceHeartbeatTimer s) := by
  unfold execDeviceHeartbeatTimer
  try dsimp only
  with_reducible repeat' (first | assumption | apply State.sendHeartbeats_good | apply outGood_next | apply outGood_fault | apply Good.ite
                                | apply OutGood.ite | split | (fail_if_no_progress refine Good.upd ?_ rfl rfl rfl rfl))

theorem execHiBer_good (p : Fin 4) {s : State} (hG : Good kp s) (p_regs : kp.free .regs := by assumption)
    (p_net : kp.free .net := by assumption) (p_control : kp.free .control := by assumption) : OutGood kp (execHiBer p s) := by
  unfold execHiBer
  try dsimp only
  with_reducible repeat' (first | assumption | apply State.setRegBit_good | apply State.declareDown_good | apply outGood_next)

theorem execIcmpEchoRequest_good (f : RxFrame) {s : State} (hG : Good kp s) (p_regs : kp.free .regs := by assumption)
    (p_net : kp.free .net := by assumption) (p_control : kp.free .control := by assumption) : OutGood kp (execIcmpEchoRequest f s) := by
  unfold execIcmpEchoRequest
  try dsimp only
  with_reducible repeat' (first | assumption | apply State.acceptCtl_good | apply State.discard_good | apply State.setPort_good
                                | apply State.send_good | apply outGood_next | apply outGood_fault | apply Good.ite | apply OutGood.ite)

theorem execIgmpQuery_good (f : RxFrame) {s : State} (hG : Good kp s) (p_regs : kp.free .regs := by assumption)
    (p_net : kp.free .net := by assumption) (p_control : kp.free .control := by assumption) : OutGood kp (execIgmpQuery f s) := by
  unfold execIgmpQuery
  try dsimp only
  with_reducible repeat' (first | assumption | apply State.acceptCtl_good | apply State.send_good | apply outGood_next
                                | apply outGood_fault | apply Good.ite | apply OutGood.ite)

theorem execLinkDown_good (p : Fin 4) {s : State} (hG : Good kp s) (p_regs : kp.free .regs := by assumption)
    (p_net : kp.free .net := by assumption) (p_control : kp.free .control := by assumption) : OutGood kp (execLinkDown p s) := by
  unfold execLinkDown
  try dsimp only
  with_reducible repeat' (first | assumption | apply State.declareDown_good | apply outGood_next | apply outGood_fault | apply Good.ite)

theorem execLinkUp_good (p : Fin 4) {s : State} (hG : Good kp s) (p_regs : kp.free .regs := by assumption)
    (p_wire : kp.free .wire := by assumption) (p_net : kp.free .net := by assumption) (p_control : kp.free .control := by assumption)
    : OutGood kp (execLinkUp p s) := by
  unfold execLinkUp
  try dsimp only
  with_reducible repeat' (first | assumption | apply State.declareUp_good | apply outGood_next | apply outGood_fault | apply Good.ite)

theorem execManifestSigned_good {s : State} (hG : Good kp s) (p_net : kp.free .net := by assumption)
    (p_seals : kp.free .seals := by assumption) (p_power : kp.free .power := by assumption) : OutGood kp (execManifestSigned s) := by
  unfold execManifestSigned
  try dsimp only
  with_reducible repeat' (first | assumption | apply State.startSign_good | apply State.setSe_good | apply State.manifestSigned_good
                                | apply outGood_next | apply outGood_fault | apply Good.ite | apply OutGood.ite)

theorem execMldQuery_good (f : RxFrame) {s : State} (hG : Good kp s) (p_regs : kp.free .regs := by assumption)
    (p_net : kp.free .net := by assumption) (p_control : kp.free .control := by assumption) : OutGood kp (execMldQuery f s) := by
  unfold execMldQuery
  try dsimp only
  with_reducible repeat' (first | assumption | apply State.acceptCtl_good | apply State.send_good | apply outGood_next
                                | apply outGood_fault | apply Good.ite | apply OutGood.ite)

theorem execNeighborAdvertisement_good (f : RxFrame) {s : State} (hG : Good kp s) (p_regs : kp.free .regs := by assumption)
    (p_net : kp.free .net := by assumption) (p_control : kp.free .control := by assumption) : OutGood kp
    (execNeighborAdvertisement f s) := by
  unfold execNeighborAdvertisement
  try dsimp only
  with_reducible repeat' (first | assumption | apply State.acceptCtl_good | apply State.resolved_good | apply outGood_next
                                | apply outGood_fault | apply Good.ite | apply OutGood.ite)

theorem execNeighborSolicitation_good (f : RxFrame) {s : State} (hG : Good kp s) (p_regs : kp.free .regs := by assumption)
    (p_net : kp.free .net := by assumption) (p_control : kp.free .control := by assumption) : OutGood kp
    (execNeighborSolicitation f s) := by
  unfold execNeighborSolicitation
  try dsimp only
  with_reducible repeat' (first | assumption | apply State.acceptCtl_good | apply State.send_good | apply outGood_next
                                | apply outGood_fault | apply Good.ite | apply OutGood.ite)

theorem execNeighbourRefresh_good (p : Fin 4) (ip : Nat) {s : State} (hG : Good kp s) (p_net : kp.free .net := by assumption) : OutGood kp
    (execNeighbourRefresh p ip s) := by
  unfold execNeighbourRefresh
  try dsimp only
  with_reducible repeat' (first | assumption | apply State.enqueue_good | apply State.setPort_good | apply outGood_next
                                | apply outGood_fault | apply Good.ite | apply OutGood.ite | split)

theorem execNeighbourRetryTimeout_good (p : Fin 4) (ip : Nat) {s : State} (hG : Good kp s) (p_net : kp.free .net := by assumption)
    : OutGood kp (execNeighbourRetryTimeout p ip s) := by
  unfold execNeighbourRetryTimeout
  try dsimp only
  with_reducible repeat' (first | assumption | apply State.enqueue_good | apply State.setPort_good | apply State.setPartner_good
                                | apply outGood_next | apply outGood_fault | refine Good.foldl ?_ (fun t a ht => ?_)
                                | refine Good.foldl2 ?_ (fun t a ht => ?_) | refine Good.foldl1 ?_ (fun t a ht => ?_)
                                | refine Good.foldr ?_ (fun a t ht => ?_) | apply Good.ite | apply OutGood.ite | split)

theorem execPartnerHeartbeat_good (f : RxFrame) {s : State} (hG : Good kp s) (p_regs : kp.free .regs := by assumption)
    (p_net : kp.free .net := by assumption) (p_control : kp.free .control := by assumption) : OutGood kp (execPartnerHeartbeat f s) := by
  unfold execPartnerHeartbeat
  try dsimp only
  with_reducible repeat' (first | assumption | apply State.acceptCtl_good | apply State.setPartner_good | apply State.raiseEv_good
                                | apply outGood_next | apply outGood_fault | apply Good.ite | apply OutGood.ite | split)

theorem execPartnerSilenceTimeout_good (n : Fin 32) {s : State} (hG : Good kp s) (p_regs : kp.free .regs := by assumption)
    (p_net : kp.free .net := by assumption) (p_control : kp.free .control := by assumption) : OutGood kp
    (execPartnerSilenceTimeout n s) := by
  unfold execPartnerSilenceTimeout
  try dsimp only
  with_reducible repeat' (first | assumption | apply State.raiseEv_good | apply State.setPartner_good | apply outGood_next
                                | apply outGood_fault | apply Good.ite | apply OutGood.ite)

theorem execPauseFrame_good (f : RxFrame) {s : State} (hG : Good kp s) (p_regs : kp.free .regs := by assumption) : OutGood kp
    (execPauseFrame f s) := by
  unfold execPauseFrame
  try dsimp only
  with_reducible repeat' (first | assumption | apply State.discard_good | apply outGood_next | apply outGood_fault | apply Good.ite
                                | apply OutGood.ite | split)

theorem execRateWindowRollover_good {s : State} (hG : Good kp s) (p_net : kp.free .net := by assumption) : OutGood kp
    (execRateWindowRollover s) := by
  unfold execRateWindowRollover
  try dsimp only
  with_reducible repeat' (first | assumption | apply State.setPort_good | apply outGood_next | apply outGood_fault
                                | refine Good.foldl ?_ (fun t a ht => ?_) | refine Good.foldl2 ?_ (fun t a ht => ?_)
                                | refine Good.foldl1 ?_ (fun t a ht => ?_) | refine Good.foldr ?_ (fun a t ht => ?_) | apply Good.ite
                                | apply OutGood.ite | split | (fail_if_no_progress refine Good.upd ?_ rfl rfl rfl rfl))

theorem execResolutionWaitExpiry_good (p : Fin 4) {s : State} (hG : Good kp s) (p_net : kp.free .net := by assumption) : OutGood kp
    (execResolutionWaitExpiry p s) := by
  unfold execResolutionWaitExpiry
  try dsimp only
  with_reducible repeat' (first | assumption | apply State.setPort_good | apply outGood_next)

theorem execTrainingDone_good (p : Fin 4) (fec : Nat) {s : State} (hG : Good kp s) (p_regs : kp.free .regs := by assumption)
    (p_net : kp.free .net := by assumption) : OutGood kp (execTrainingDone p fec s) := by
  unfold execTrainingDone
  try dsimp only
  with_reducible repeat' (first | assumption | apply State.setPort_good | apply State.setRegF_good | apply State.setRegBit_good
                                | apply outGood_next | apply outGood_fault | apply Good.ite | apply OutGood.ite)

end Sys2Proof.Machine
end

