-- ==== Sys2Proof/Laws/KeepKt.lean ====
section
/-!
SUPPORT. What the operations of contexts, ingest, KT sessions and faults keep: the queue, the canonical form of the tables, and every part of the
state but those that a lemma asks to be free.
-/
set_option Elab.async false

namespace Sys2Proof.Machine

variable {kp : Kept}

theorem State.setCtx_good {s : State} (n : Nat) (x : CtxSt) (hG : Good kp s) (p_ctxs : kp.free .ctxs := by assumption) : Good kp
    (State.setCtx s n x) := by
  unfold State.setCtx
  try dsimp only
  with_reducible repeat' (first | assumption | apply Good.ite | split | (fail_if_no_progress refine Good.upd ?_ rfl rfl rfl rfl))

theorem State.setRnd_good {s : State} (n : Nat) (x : RndSt) (hG : Good kp s) (p_rnds : kp.free .rnds := by assumption) : Good kp
    (State.setRnd s n x) := by
  unfold State.setRnd
  try dsimp only
  with_reducible repeat' (first | assumption | apply Good.ite | split | (fail_if_no_progress refine Good.upd ?_ rfl rfl rfl rfl))

theorem State.setUnit_good {s : State} (a : Nat) (x : UnitSt) (hG : Good kp s) (p_units : kp.free .units := by assumption) : Good kp
    (State.setUnit s a x) := by
  unfold State.setUnit
  try dsimp only
  with_reducible repeat' (first | assumption | apply Good.ite | split | (fail_if_no_progress refine Good.upd ?_ rfl rfl rfl rfl))

theorem State.showUnit_good {s : State} (agent : Nat) (hG : Good kp s) (p_regs : kp.free .regs := by assumption) : Good kp
    (State.showUnit s agent) := by
  unfold State.showUnit
  try dsimp only
  with_reducible repeat' (first | assumption | apply State.setReg_good)

theorem State.abandonCoding_good {s : State} (hG : Good kp s) (p_regs : kp.free .regs := by assumption)
    (p_net : kp.free .net := by assumption) (p_seals : kp.free .seals := by assumption) (p_units : kp.free .units := by assumption)
    (p_ctxs : kp.free .ctxs := by assumption) (p_rnds : kp.free .rnds := by assumption) (p_pools : kp.free .pools := by assumption)
    : Good kp (State.abandonCoding s) := by
  unfold State.abandonCoding
  try dsimp only
  with_reducible repeat' (first | assumption | apply State.freeOwn_good | apply State.setCtx_good | apply State.setRnd_good
                                | apply State.closeReam_good | apply State.showUnit_good | apply State.setUnit_good
                                | refine Good.foldl ?_ (fun t a ht => ?_) | refine Good.foldl2 ?_ (fun t a ht => ?_)
                                | refine Good.foldl1 ?_ (fun t a ht => ?_) | refine Good.foldr ?_ (fun a t ht => ?_) | apply Good.ite
                                | split)

theorem State.dropSess_good {s : State} (cls : Nat) (partner : Nat) (id : Nat) (hG : Good kp s) (p_net : kp.free .net := by assumption)
    : Good kp (State.dropSess s cls partner id) := by
  unfold State.dropSess
  try dsimp only
  with_reducible repeat' (first | assumption | apply Good.ite | split | (fail_if_no_progress refine Good.upd ?_ rfl rfl rfl rfl))

theorem State.assignScaler_good (n : Nat) {s : State} (z : Nat × Nat) (hG : Good kp s) (p_ctxs : kp.free .ctxs := by assumption) : Good kp
    (State.assignScaler n s z) := by
  unfold State.assignScaler
  try dsimp only
  with_reducible repeat' (first | assumption | apply State.setCtx_good | apply Good.ite)

theorem State.assignRnd_good (r : Nat) {s : State} (n : Nat) (hG : Good kp s) (p_ctxs : kp.free .ctxs := by assumption) : Good kp
    (State.assignRnd r s n) := by
  unfold State.assignRnd
  try dsimp only
  with_reducible repeat' (first | assumption | apply State.assignScaler_good | refine Good.foldl ?_ (fun t a ht => ?_))

theorem State.assignScalers_good {s : State} (n : Nat) (hG : Good kp s) (p_ctxs : kp.free .ctxs := by assumption) : Good kp
    (State.assignScalers s n) := by
  unfold State.assignScalers
  try dsimp only
  with_reducible repeat' (first | assumption | apply State.assignRnd_good | refine Good.foldl ?_ (fun t a ht => ?_))

theorem State.bumpIf_good {s : State} (b : Bool) (a : Nat) (hG : Good kp s) (p_regs : kp.free .regs := by assumption) : Good kp
    (State.bumpIf s b a) := by
  unfold State.bumpIf
  try dsimp only
  with_reducible repeat' (first | assumption | apply State.bump_good | apply Good.ite)

theorem State.setVstate_good {s : State} (n : Nat) (v : Nat) (hG : Good kp s) (p_regs : kp.free .regs := by assumption) : Good kp
    (State.setVstate s n v) := by
  unfold State.setVstate
  try dsimp only
  with_reducible repeat' (first | assumption | apply State.setRegF_good)

theorem State.closeAu_good {s : State} (n : Nat) (u : AuIn) (leaving : Bool) (hG : Good kp s) (p_regs : kp.free .regs := by assumption)
    (p_net : kp.free .net := by assumption) (p_control : kp.free .control := by assumption) (p_seals : kp.free .seals := by assumption)
    (p_ctxs : kp.free .ctxs := by assumption) : Good kp (State.closeAu s n u leaving) := by
  unfold State.closeAu
  try dsimp only
  with_reducible repeat' (first | assumption | apply State.setReg_good | apply State.bump_good | apply State.setVstate_good
                                | apply State.bumpIf_good | apply State.closeReam_good | apply State.newHdr_good | apply State.setCtx_good
                                | apply State.assignScalers_good | apply State.awaitLeaf_good | apply State.chainRenditions_good
                                | apply State.chainReady_good | apply State.raiseEv_good | apply Good.ite | split)

theorem State.showOpen_good {s : State} (n : Nat) (hG : Good kp s) (p_regs : kp.free .regs := by assumption) : Good kp
    (State.showOpen s n) := by
  unfold State.showOpen
  try dsimp only
  with_reducible repeat' (first | assumption | apply State.setRegBit_good)

theorem State.closeOff_good {s : State} (n : Nat) (missing : Bool) (leaving : Bool) (hG : Good kp s)
    (p_regs : kp.free .regs := by assumption) (p_net : kp.free .net := by assumption) (p_control : kp.free .control := by assumption)
    (p_seals : kp.free .seals := by assumption) (p_ctxs : kp.free .ctxs := by assumption) : Good kp
    (State.closeOff s n missing leaving) := by
  unfold State.closeOff
  try dsimp only
  with_reducible repeat' (first | assumption | apply State.showOpen_good | apply State.setCtx_good | apply State.closeAu_good
                                | apply Good.ite | split)

theorem State.offMissing_good {s : State} (n : Nat) (k : Nat) (hG : Good kp s) (p_regs : kp.free .regs := by assumption)
    (p_net : kp.free .net := by assumption) (p_control : kp.free .control := by assumption) (p_seals : kp.free .seals := by assumption)
    (p_ctxs : kp.free .ctxs := by assumption) : Good kp (State.offMissing s n k) := by
  unfold State.offMissing
  try dsimp only
  with_reducible repeat' (first | assumption | apply State.bumpN_good | apply State.closeOff_good)

theorem State.missChunks_good {s : State} (x : KtSess) (k : Nat) (hG : Good kp s) (p_regs : kp.free .regs := by assumption)
    (p_net : kp.free .net := by assumption) (p_control : kp.free .control := by assumption) (p_seals : kp.free .seals := by assumption)
    (p_ctxs : kp.free .ctxs := by assumption) : Good kp (State.missChunks s x k) := by
  unfold State.missChunks
  try dsimp only
  with_reducible repeat' (first | assumption | apply State.offMissing_good | apply Good.ite)

theorem State.unblank_good {s : State} (n : Nat) (seq : Nat) (b : Bytes) (hG : Good kp s) (p_regs : kp.free .regs := by assumption)
    (p_rnds : kp.free .rnds := by assumption) : Good kp (State.unblank s n seq b) := by
  unfold State.unblank
  try dsimp only
  with_reducible repeat' (first | assumption | apply State.setPair_good | apply State.setRnd_good)

theorem State.maskRecord_good (n : Nat) {s : State} (q : Nat × Nat × Bytes) (hG : Good kp s) (p_regs : kp.free .regs := by assumption)
    (p_rnds : kp.free .rnds := by assumption) : Good kp (State.maskRecord n s q) := by
  unfold State.maskRecord
  try dsimp only
  with_reducible repeat' (first | assumption | apply State.bump_good | apply State.unblank_good | apply State.setRnd_good | apply Good.ite)

theorem State.maskChunk_good {s : State} (n : Nat) (b : Bytes) (hG : Good kp s) (p_regs : kp.free .regs := by assumption)
    (p_rnds : kp.free .rnds := by assumption) : Good kp (State.maskChunk s n b) := by
  unfold State.maskChunk
  try dsimp only
  with_reducible repeat' (first | assumption | apply State.maskRecord_good | apply State.bump_good
                                | refine Good.foldl ?_ (fun t a ht => ?_) | refine Good.foldl2 ?_ (fun t a ht => ?_)
                                | refine Good.foldl1 ?_ (fun t a ht => ?_) | refine Good.foldr ?_ (fun a t ht => ?_) | apply Good.ite
                                | split)

theorem State.offRecord_good (arr : Nat) (tq : Nat) (tick : Nat) (n : Nat) {s : State} (q : OffRec) (hG : Good kp s)
    (p_regs : kp.free .regs := by assumption) (p_net : kp.free .net := by assumption) (p_control : kp.free .control := by assumption)
    (p_seals : kp.free .seals := by assumption) (p_ctxs : kp.free .ctxs := by assumption) : Good kp
    (State.offRecord arr tq tick n s q) := by
  unfold State.offRecord
  try dsimp only
  with_reducible repeat' (first | assumption | apply State.closeOff_good | apply State.showOpen_good | apply State.setCtx_good
                                | apply Good.ite | split)

theorem State.offChunk_good {s : State} (n : Nat) (b : Bytes) (arr : Nat) (tq : Nat) (tick : Nat) (hG : Good kp s)
    (p_regs : kp.free .regs := by assumption) (p_net : kp.free .net := by assumption) (p_control : kp.free .control := by assumption)
    (p_seals : kp.free .seals := by assumption) (p_ctxs : kp.free .ctxs := by assumption) : Good kp
    (State.offChunk s n b arr tq tick) := by
  unfold State.offChunk
  try dsimp only
  with_reducible repeat' (first | assumption | apply State.offRecord_good | apply State.bump_good | apply State.setCtx_good
                                | refine Good.foldl ?_ (fun t a ht => ?_) | refine Good.foldl2 ?_ (fun t a ht => ?_)
                                | refine Good.foldl1 ?_ (fun t a ht => ?_) | refine Good.foldr ?_ (fun a t ht => ?_) | apply Good.ite
                                | split)

theorem State.useChunk_good {s : State} (x : KtSess) (c : Chunk) (hG : Good kp s) (p_regs : kp.free .regs := by assumption)
    (p_net : kp.free .net := by assumption) (p_control : kp.free .control := by assumption) (p_seals : kp.free .seals := by assumption)
    (p_ctxs : kp.free .ctxs := by assumption) (p_rnds : kp.free .rnds := by assumption) : Good kp (State.useChunk s x c) := by
  unfold State.useChunk
  try dsimp only
  with_reducible repeat' (first | assumption | apply State.offMissing_good | apply State.offChunk_good | apply State.maskChunk_good
                                | apply Good.ite)

theorem State.flushSess_good {s : State} (x : KtSess) (hG : Good kp s) (p_regs : kp.free .regs := by assumption)
    (p_net : kp.free .net := by assumption) (p_control : kp.free .control := by assumption) (p_seals : kp.free .seals := by assumption)
    (p_ctxs : kp.free .ctxs := by assumption) (p_rnds : kp.free .rnds := by assumption) : Good kp (State.flushSess s x).2 := by
  have key : ∀ (hs : List Chunk) (a : Nat × Nat × State), Good kp a.2.2 →
      Good kp (hs.foldl (fun (acc : Nat × Nat × State) c =>
        (c.seq + 1, acc.2.1 + (c.seq - acc.1), (acc.2.2.missChunks x (c.seq - acc.1)).useChunk x c)) a).2.2 := by
    intro hs
    induction hs with
    | nil => exact fun a h => h
    | cons c hs ih => exact fun a h => ih _ (State.useChunk_good _ _ (State.missChunks_good _ _ h))
  unfold State.flushSess
  exact State.missChunks_good _ _ (key _ _ hG)

theorem State.ktReply_good {s : State} (partner : Nat) (cls : Nat) (type : Nat) (id : Nat) (seq : Nat) (body : Bytes) (hG : Good kp s)
    (p_net : kp.free .net := by assumption) : Good kp (State.ktReply s partner cls type id seq body) := by
  unfold State.ktReply
  try dsimp only
  with_reducible repeat' (first | assumption | apply State.toPartner_good)

theorem State.sendAbort_good {s : State} (partner : Nat) (cls : Nat) (id : Nat) (reason : Nat) (hG : Good kp s)
    (p_net : kp.free .net := by assumption) : Good kp (State.sendAbort s partner cls id reason) := by
  unfold State.sendAbort
  try dsimp only
  with_reducible repeat' (first | assumption | apply State.ktReply_good)

theorem State.closeRtpUnit_good {s : State} (n : Nat) (leaving : Bool) (hG : Good kp s) (p_regs : kp.free .regs := by assumption)
    (p_net : kp.free .net := by assumption) (p_control : kp.free .control := by assumption) (p_seals : kp.free .seals := by assumption)
    (p_ctxs : kp.free .ctxs := by assumption) : Good kp (State.closeRtpUnit s n leaving) := by
  unfold State.closeRtpUnit
  try dsimp only
  with_reducible repeat' (first | assumption | apply State.setCtx_good | apply State.closeAu_good | apply Good.ite | split)

theorem State.closeUnitsFuel_good (n : Nat) (force : Bool) (leaving : Bool) (x1 : Nat) {x2 : State} (hGx2 : Good kp x2)
    (p_regs : kp.free .regs := by assumption) (p_net : kp.free .net := by assumption) (p_control : kp.free .control := by assumption)
    (p_seals : kp.free .seals := by assumption) (p_ctxs : kp.free .ctxs := by assumption) : Good kp
    (State.closeUnitsFuel n force leaving x1 x2) := by
  induction x1 generalizing x2 with
  | zero => exact hGx2
  | succ j ih =>
    unfold State.closeUnitsFuel
    try dsimp only
    with_reducible repeat' (first | assumption | apply ih | apply State.closeRtpUnit_good | apply Good.ite)

theorem State.closeUnits_good {s : State} (n : Nat) (force : Bool) (leaving : Bool) (hG : Good kp s)
    (p_regs : kp.free .regs := by assumption) (p_net : kp.free .net := by assumption) (p_control : kp.free .control := by assumption)
    (p_seals : kp.free .seals := by assumption) (p_ctxs : kp.free .ctxs := by assumption) : Good kp
    (State.closeUnits s n force leaving) := by
  unfold State.closeUnits
  try dsimp only
  with_reducible repeat' (first | assumption | apply State.showOpen_good | apply State.closeUnitsFuel_good)

theorem State.endRndReam_good {s : State} (n : Nat) (reason : Nat) (hG : Good kp s) (p_regs : kp.free .regs := by assumption)
    (p_net : kp.free .net := by assumption) (p_seals : kp.free .seals := by assumption) (p_rnds : kp.free .rnds := by assumption)
    : Good kp (State.endRndReam s n reason) := by
  unfold State.endRndReam
  try dsimp only
  with_reducible repeat' (first | assumption | apply State.closeReam_good | apply State.setRnd_good | apply Good.ite)

theorem State.setRstate_good {s : State} (n : Nat) (v : Nat) (hG : Good kp s) (p_regs : kp.free .regs := by assumption) : Good kp
    (State.setRstate s n v) := by
  unfold State.setRstate
  try dsimp only
  with_reducible repeat' (first | assumption | apply State.setRegF_good)

theorem State.maskGone_good {s : State} (n : Nat) (hG : Good kp s) (p_regs : kp.free .regs := by assumption) : Good kp
    (State.maskGone s n) := by
  unfold State.maskGone
  try dsimp only
  with_reducible repeat' (first | assumption | apply State.setReg_good | apply State.setRegBit_good)

theorem State.abortMaskOf_good {s : State} (n : Nat) (hG : Good kp s) (p_regs : kp.free .regs := by assumption)
    (p_net : kp.free .net := by assumption) : Good kp (State.abortMaskOf s n) := by
  unfold State.abortMaskOf
  try dsimp only
  with_reducible repeat' (first | assumption | apply State.maskGone_good | apply State.sendAbort_good | apply State.dropSess_good
                                | apply Good.ite | split)

theorem State.releaseScalers_good {s : State} (n : Nat) (hG : Good kp s) (p_ctxs : kp.free .ctxs := by assumption) : Good kp
    (State.releaseScalers s n) := by
  unfold State.releaseScalers
  try dsimp only
  with_reducible repeat' (first | assumption | apply State.setCtx_good)

theorem State.sweepBufs_good {s : State} (n : Nat) (hG : Good kp s) (p_regs : kp.free .regs := by assumption)
    (p_ctxs : kp.free .ctxs := by assumption) (p_pools : kp.free .pools := by assumption) : Good kp (State.sweepBufs s n) := by
  unfold State.sweepBufs
  try dsimp only
  with_reducible repeat' (first | assumption | apply State.setCtx_good | apply State.freeOwn_good | refine Good.foldl ?_ (fun t a ht => ?_))

theorem State.freeRnd_good {s : State} (n : Nat) (hG : Good kp s) (p_regs : kp.free .regs := by assumption)
    (p_net : kp.free .net := by assumption) (p_seals : kp.free .seals := by assumption) (p_ctxs : kp.free .ctxs := by assumption)
    (p_rnds : kp.free .rnds := by assumption) (p_pools : kp.free .pools := by assumption) : Good kp (State.freeRnd s n) := by
  unfold State.freeRnd
  try dsimp only
  with_reducible repeat' (first | assumption | apply State.abortMaskOf_good | apply State.freeOwn_good | apply State.setSlot_good
                                | apply State.setRnd_good | apply State.setRegF_good | apply State.setRstate_good
                                | apply State.clearRegs_good | apply State.sweepBufs_good | apply State.releaseScalers_good
                                | refine Good.foldl ?_ (fun t a ht => ?_))

theorem State.tryFreeRnd_good {s : State} (n : Nat) (hG : Good kp s) (p_regs : kp.free .regs := by assumption)
    (p_net : kp.free .net := by assumption) (p_seals : kp.free .seals := by assumption) (p_ctxs : kp.free .ctxs := by assumption)
    (p_rnds : kp.free .rnds := by assumption) (p_pools : kp.free .pools := by assumption) : Good kp (State.tryFreeRnd s n) := by
  unfold State.tryFreeRnd
  try dsimp only
  with_reducible repeat' (first | assumption | apply State.freeRnd_good | apply Good.ite)

theorem State.rndLeaveOpen_good {s : State} (n : Nat) (hG : Good kp s) (p_regs : kp.free .regs := by assumption)
    (p_net : kp.free .net := by assumption) (p_seals : kp.free .seals := by assumption) (p_ctxs : kp.free .ctxs := by assumption)
    (p_rnds : kp.free .rnds := by assumption) (p_pools : kp.free .pools := by assumption) : Good kp (State.rndLeaveOpen s n) := by
  unfold State.rndLeaveOpen
  try dsimp only
  with_reducible repeat' (first | assumption | apply State.setRnd_good | apply State.tryFreeRnd_good | apply State.endRndReam_good
                                | apply State.setRstate_good | apply Good.ite)

theorem State.rndsFollow_good {s : State} (n : Nat) (hG : Good kp s) (p_regs : kp.free .regs := by assumption)
    (p_net : kp.free .net := by assumption) (p_seals : kp.free .seals := by assumption) (p_ctxs : kp.free .ctxs := by assumption)
    (p_rnds : kp.free .rnds := by assumption) (p_pools : kp.free .pools := by assumption) : Good kp (State.rndsFollow s n) := by
  unfold State.rndsFollow
  try dsimp only
  with_reducible repeat' (first | assumption | apply State.rndLeaveOpen_good | refine Good.foldl ?_ (fun t a ht => ?_)
                                | refine Good.foldl2 ?_ (fun t a ht => ?_) | refine Good.foldl1 ?_ (fun t a ht => ?_)
                                | refine Good.foldr ?_ (fun a t ht => ?_) | apply Good.ite)

theorem State.setCstate_good {s : State} (n : Nat) (v : Nat) (hG : Good kp s) (p_regs : kp.free .regs := by assumption) : Good kp
    (State.setCstate s n v) := by
  unfold State.setCstate
  try dsimp only
  with_reducible repeat' (first | assumption | apply State.setRegF_good)

theorem State.freeCtx_good {s : State} (n : Nat) (hG : Good kp s) (p_regs : kp.free .regs := by assumption)
    (p_seals : kp.free .seals := by assumption) (p_ctxs : kp.free .ctxs := by assumption) (p_pools : kp.free .pools := by assumption)
    : Good kp (State.freeCtx s n) := by
  unfold State.freeCtx
  try dsimp only
  with_reducible repeat' (first | assumption | apply State.freeOwn_good | apply State.setSlot_good | apply State.setCtx_good
                                | apply State.setRegF_good | apply State.setVstate_good | apply State.setCstate_good
                                | apply State.clearRegs_good | refine Good.foldl ?_ (fun t a ht => ?_))

theorem State.mapTicket_good {s : State} (num : Nat) (f : Ticket → Ticket) (hG : Good kp s) (p_mgmt : kp.free .mgmt := by assumption)
    : Good kp (State.mapTicket s num f) := by
  unfold State.mapTicket
  try dsimp only
  with_reducible repeat' (first | assumption | apply Good.ite | split | (fail_if_no_progress refine Good.upd ?_ rfl rfl rfl rfl))

theorem State.giveStills_good {s : State} (kind : Nat) (n : Nat) (mk : Nat → Still) (hG : Good kp s)
    (p_mgmt : kp.free .mgmt := by assumption) (p_stills : kp.free .stills := by assumption) : Good kp (State.giveStills s kind n mk) := by
  unfold State.giveStills
  try dsimp only
  with_reducible repeat' (first | assumption | apply State.mapTicket_good | refine Good.foldl ?_ (fun t a ht => ?_)
                                | refine Good.foldl2 ?_ (fun t a ht => ?_) | refine Good.foldl1 ?_ (fun t a ht => ?_)
                                | refine Good.foldr ?_ (fun a t ht => ?_) | apply Good.ite | split
                                | (fail_if_no_progress refine Good.upd ?_ rfl rfl rfl rfl))

theorem State.offer_good {s : State} (n : Nat) (p : PicInfo) (ts : Int) (hG : Good kp s) (p_rnds : kp.free .rnds := by assumption)
    : Good kp (State.offer s n p ts) := by
  unfold State.offer
  try dsimp only
  with_reducible repeat' (first | assumption | apply State.setRnd_good | apply Good.ite)

theorem State.outputPic_good {s : State} (n : Nat) (buf : Nat) (hG : Good kp s) (p_regs : kp.free .regs := by assumption)
    (p_mgmt : kp.free .mgmt := by assumption) (p_ctxs : kp.free .ctxs := by assumption) (p_rnds : kp.free .rnds := by assumption)
    (p_stills : kp.free .stills := by assumption) (p_pools : kp.free .pools := by assumption) : Good kp (State.outputPic s n buf) := by
  unfold State.outputPic
  try dsimp only
  with_reducible repeat' (first | assumption | apply State.setCtx_good | apply State.giveStills_good | apply State.offer_good
                                | apply State.sweepBufs_good | refine Good.foldl ?_ (fun t a ht => ?_)
                                | refine Good.foldl2 ?_ (fun t a ht => ?_) | refine Good.foldl1 ?_ (fun t a ht => ?_)
                                | refine Good.foldr ?_ (fun a t ht => ?_) | apply Good.ite | split)

theorem State.outputAll_good {s : State} (n : Nat) (hG : Good kp s) (p_regs : kp.free .regs := by assumption)
    (p_mgmt : kp.free .mgmt := by assumption) (p_ctxs : kp.free .ctxs := by assumption) (p_rnds : kp.free .rnds := by assumption)
    (p_stills : kp.free .stills := by assumption) (p_pools : kp.free .pools := by assumption) : Good kp (State.outputAll s n) := by
  unfold State.outputAll
  try dsimp only
  with_reducible repeat' (first | assumption | apply State.outputPic_good | refine Good.foldl ?_ (fun t a ht => ?_))

theorem State.lastPicture_good {s : State} (n : Nat) (hG : Good kp s) (p_regs : kp.free .regs := by assumption)
    (p_mgmt : kp.free .mgmt := by assumption) (p_ctxs : kp.free .ctxs := by assumption) (p_rnds : kp.free .rnds := by assumption)
    (p_stills : kp.free .stills := by assumption) (p_pools : kp.free .pools := by assumption) : Good kp (State.lastPicture s n) := by
  unfold State.lastPicture
  try dsimp only
  with_reducible repeat' (first | assumption | apply State.outputAll_good | apply State.setCtx_good)

theorem State.tryFreeCtx_good {s : State} (n : Nat) (hG : Good kp s) (p_regs : kp.free .regs := by assumption)
    (p_mgmt : kp.free .mgmt := by assumption) (p_seals : kp.free .seals := by assumption) (p_ctxs : kp.free .ctxs := by assumption)
    (p_rnds : kp.free .rnds := by assumption) (p_stills : kp.free .stills := by assumption) (p_pools : kp.free .pools := by assumption)
    : Good kp (State.tryFreeCtx s n) := by
  unfold State.tryFreeCtx
  try dsimp only
  with_reducible repeat' (first | assumption | apply State.lastPicture_good | apply State.freeCtx_good | apply Good.ite)

theorem State.settleSlots_good {s : State} (hG : Good kp s) (p_regs : kp.free .regs := by assumption)
    (p_mgmt : kp.free .mgmt := by assumption) (p_net : kp.free .net := by assumption) (p_seals : kp.free .seals := by assumption)
    (p_ctxs : kp.free .ctxs := by assumption) (p_rnds : kp.free .rnds := by assumption) (p_stills : kp.free .stills := by assumption)
    (p_pools : kp.free .pools := by assumption) : Good kp (State.settleSlots s) := by
  unfold State.settleSlots
  try dsimp only
  with_reducible repeat' (first | assumption | apply State.tryFreeCtx_good | apply State.tryFreeRnd_good
                                | refine Good.foldl ?_ (fun t a ht => ?_))

theorem State.ctxLeaveOpen_good {s : State} (n : Nat) (hG : Good kp s) (p_regs : kp.free .regs := by assumption)
    (p_mgmt : kp.free .mgmt := by assumption) (p_net : kp.free .net := by assumption) (p_control : kp.free .control := by assumption)
    (p_seals : kp.free .seals := by assumption) (p_ctxs : kp.free .ctxs := by assumption) (p_rnds : kp.free .rnds := by assumption)
    (p_stills : kp.free .stills := by assumption) (p_pools : kp.free .pools := by assumption) : Good kp (State.ctxLeaveOpen s n) := by
  unfold State.ctxLeaveOpen
  try dsimp only
  with_reducible repeat' (first | assumption | apply State.closeOff_good | apply State.closeUnits_good | apply State.closeReam_good
                                | apply State.setCstate_good | apply State.settleSlots_good | apply State.rndsFollow_good
                                | apply State.setCtx_good | apply Good.ite)

theorem State.sessGone_good {s : State} (x : KtSess) (hG : Good kp s) (p_regs : kp.free .regs := by assumption)
    (p_mgmt : kp.free .mgmt := by assumption) (p_net : kp.free .net := by assumption) (p_control : kp.free .control := by assumption)
    (p_seals : kp.free .seals := by assumption) (p_ctxs : kp.free .ctxs := by assumption) (p_rnds : kp.free .rnds := by assumption)
    (p_stills : kp.free .stills := by assumption) (p_pools : kp.free .pools := by assumption) : Good kp (State.sessGone s x) := by
  unfold State.sessGone
  try dsimp only
  with_reducible repeat' (first | assumption | apply State.ctxLeaveOpen_good | apply State.maskGone_good | apply Good.ite)

theorem State.withdraw_good {s : State} (x : KtSess) (hG : Good kp s) (p_regs : kp.free .regs := by assumption)
    (p_seals : kp.free .seals := by assumption) (p_ctxs : kp.free .ctxs := by assumption) (p_adm : kp.free .adm := by assumption)
    (p_pools : kp.free .pools := by assumption) : Good kp (State.withdraw s x) := by
  unfold State.withdraw
  try dsimp only
  with_reducible repeat' (first | assumption | apply State.freeCtx_good | apply Good.ite | split
                                | (fail_if_no_progress refine Good.upd ?_ rfl rfl rfl rfl))

theorem State.abortSess_good {s : State} (x : KtSess) (reason : Option Nat) (hG : Good kp s) (p_regs : kp.free .regs := by assumption)
    (p_mgmt : kp.free .mgmt := by assumption) (p_net : kp.free .net := by assumption) (p_control : kp.free .control := by assumption)
    (p_seals : kp.free .seals := by assumption) (p_ctxs : kp.free .ctxs := by assumption) (p_rnds : kp.free .rnds := by assumption)
    (p_adm : kp.free .adm := by assumption) (p_stills : kp.free .stills := by assumption) (p_pools : kp.free .pools := by assumption)
    : Good kp (State.abortSess s x reason) := by
  unfold State.abortSess
  try dsimp only
  with_reducible repeat' (first | assumption | apply State.dropSess_good | apply State.sendAbort_good | apply State.withdraw_good
                                | apply State.sessGone_good | apply State.flushSess_good | apply Good.ite | split)

theorem State.abortAll_good {s : State} (reason : Nat) (hG : Good kp s) (p_regs : kp.free .regs := by assumption)
    (p_mgmt : kp.free .mgmt := by assumption) (p_net : kp.free .net := by assumption) (p_control : kp.free .control := by assumption)
    (p_seals : kp.free .seals := by assumption) (p_ctxs : kp.free .ctxs := by assumption) (p_rnds : kp.free .rnds := by assumption)
    (p_adm : kp.free .adm := by assumption) (p_stills : kp.free .stills := by assumption) (p_pools : kp.free .pools := by assumption)
    : Good kp (State.abortAll s reason) := by
  unfold State.abortAll
  try dsimp only
  with_reducible repeat' (first | assumption | apply State.abortSess_good | refine Good.foldl ?_ (fun t a ht => ?_))

theorem State.setSess_good {s : State} (x : KtSess) (hG : Good kp s) (p_net : kp.free .net := by assumption) : Good kp
    (State.setSess s x) := by
  unfold State.setSess
  try dsimp only
  with_reducible repeat' (first | assumption | apply Good.ite | split | (fail_if_no_progress refine Good.upd ?_ rfl rfl rfl rfl))

theorem State.holdMsg_good {s : State} (x : KtSess) (port : Nat) (m : KtMsg) (hG : Good kp s) (p_net : kp.free .net := by assumption)
    : Good kp (State.holdMsg s x port m) := by
  unfold State.holdMsg
  try dsimp only
  with_reducible repeat' (first | assumption | apply State.setSess_good)

theorem State.abortMsg_good {s : State} (p : Nat) (partner : Nat) (cls : Nat) (m : KtMsg) (hG : Good kp s)
    (p_regs : kp.free .regs := by assumption) (p_mgmt : kp.free .mgmt := by assumption) (p_net : kp.free .net := by assumption)
    (p_control : kp.free .control := by assumption) (p_seals : kp.free .seals := by assumption) (p_ctxs : kp.free .ctxs := by assumption)
    (p_rnds : kp.free .rnds := by assumption) (p_adm : kp.free .adm := by assumption) (p_stills : kp.free .stills := by assumption)
    (p_pools : kp.free .pools := by assumption) : Good kp (State.abortMsg s p partner cls m) := by
  unfold State.abortMsg
  try dsimp only
  with_reducible repeat' (first | assumption | apply State.holdMsg_good | apply State.abortSess_good | apply State.bump_good
                                | apply Good.ite | split)

theorem State.abortOffload_good {s : State} (n : Nat) (reason : Nat) (hG : Good kp s) (p_regs : kp.free .regs := by assumption)
    (p_mgmt : kp.free .mgmt := by assumption) (p_net : kp.free .net := by assumption) (p_control : kp.free .control := by assumption)
    (p_seals : kp.free .seals := by assumption) (p_ctxs : kp.free .ctxs := by assumption) (p_rnds : kp.free .rnds := by assumption)
    (p_adm : kp.free .adm := by assumption) (p_stills : kp.free .stills := by assumption) (p_pools : kp.free .pools := by assumption)
    : Good kp (State.abortOffload s n reason) := by
  unfold State.abortOffload
  try dsimp only
  with_reducible repeat' (first | assumption | apply State.abortSess_good | apply Good.ite | split)

theorem State.mapLeaf_good {s : State} (slot : Nat) (seq : Nat) (f : Leaf → Leaf) (hG : Good kp s)
    (p_seals : kp.free .seals := by assumption) : Good kp (State.mapLeaf s slot seq f) := by
  unfold State.mapLeaf
  try dsimp only
  with_reducible repeat' (first | assumption | apply State.setSlot_good)

theorem State.finalLeaf_good {s : State} (n : Nat) (seq : Nat) (bw : Nat) (bh : Nat) (runs : List (Nat × Nat)) (hG : Good kp s)
    (p_regs : kp.free .regs := by assumption) (p_net : kp.free .net := by assumption) (p_seals : kp.free .seals := by assumption)
    : Good kp (State.finalLeaf s n seq bw bh runs) := by
  unfold State.finalLeaf
  try dsimp only
  with_reducible repeat' (first | assumption | apply State.chainRenditions_good | apply State.chainReady_good | apply State.mapLeaf_good)

theorem State.bumpOne_good {s : State} (n : Nat) (hG : Good kp s) (p_regs : kp.free .regs := by assumption)
    (p_mgmt : kp.free .mgmt := by assumption) (p_ctxs : kp.free .ctxs := by assumption) (p_rnds : kp.free .rnds := by assumption)
    (p_stills : kp.free .stills := by assumption) (p_pools : kp.free .pools := by assumption) : Good kp (State.bumpOne s n) := by
  unfold State.bumpOne
  try dsimp only
  with_reducible repeat' (first | assumption | apply State.outputPic_good | refine Good.foldl ?_ (fun t a ht => ?_)
                                | refine Good.foldl2 ?_ (fun t a ht => ?_) | refine Good.foldl1 ?_ (fun t a ht => ?_)
                                | refine Good.foldr ?_ (fun a t ht => ?_) | apply Good.ite | split)

theorem State.bumpWhile_good (cond : CtxSt → Bool) (n : Nat) (x1 : Nat) {x2 : State} (hGx2 : Good kp x2)
    (p_regs : kp.free .regs := by assumption) (p_mgmt : kp.free .mgmt := by assumption) (p_ctxs : kp.free .ctxs := by assumption)
    (p_rnds : kp.free .rnds := by assumption) (p_stills : kp.free .stills := by assumption) (p_pools : kp.free .pools := by assumption)
    : Good kp (State.bumpWhile cond n x1 x2) := by
  induction x1 generalizing x2 with
  | zero => exact hGx2
  | succ j ih =>
    unfold State.bumpWhile
    try dsimp only
    with_reducible repeat' (first | assumption | apply ih | apply State.bumpOne_good | apply Good.ite)

theorem State.refuseWaiting_good {s : State} (hG : Good kp s) (p_regs : kp.free .regs := by assumption)
    (p_net : kp.free .net := by assumption) (p_seals : kp.free .seals := by assumption) (p_ctxs : kp.free .ctxs := by assumption)
    (p_adm : kp.free .adm := by assumption) (p_pools : kp.free .pools := by assumption) : Good kp (State.refuseWaiting s) := by
  unfold State.refuseWaiting
  try dsimp only
  with_reducible repeat' (first | assumption | apply State.withdraw_good | apply State.ktReply_good | apply State.dropSess_good
                                | refine Good.foldl ?_ (fun t a ht => ?_))

theorem State.leaveAll_good {s : State} (hG : Good kp s) (p_regs : kp.free .regs := by assumption)
    (p_mgmt : kp.free .mgmt := by assumption) (p_net : kp.free .net := by assumption) (p_control : kp.free .control := by assumption)
    (p_seals : kp.free .seals := by assumption) (p_ctxs : kp.free .ctxs := by assumption) (p_rnds : kp.free .rnds := by assumption)
    (p_adm : kp.free .adm := by assumption) (p_stills : kp.free .stills := by assumption) (p_pools : kp.free .pools := by assumption)
    : Good kp (State.leaveAll s) := by
  unfold State.leaveAll
  try dsimp only
  with_reducible repeat' (first | assumption | apply State.abortAll_good | apply State.refuseWaiting_good | apply State.freeCtx_good
                                | apply State.ctxLeaveOpen_good | apply State.freeRnd_good | apply State.rndLeaveOpen_good
                                | refine Good.foldl ?_ (fun t a ht => ?_) | refine Good.foldl2 ?_ (fun t a ht => ?_)
                                | refine Good.foldl1 ?_ (fun t a ht => ?_) | refine Good.foldr ?_ (fun a t ht => ?_) | apply Good.ite
                                | split | (fail_if_no_progress refine Good.upd ?_ rfl rfl rfl rfl))

theorem State.nightExit_good {s : State} (hG : Good kp s) (p_regs : kp.free .regs := by assumption)
    (p_memory : kp.free .memory := by assumption) : Good kp (State.nightExit s) := by
  unfold State.nightExit
  try dsimp only
  with_reducible repeat' (first | assumption | apply State.setRegF_good | apply Good.ite | split
                                | (fail_if_no_progress refine Good.upd ?_ rfl rfl rfl rfl))

theorem State.endEntries_good {s : State} (hG : Good kp s) (p_seals : kp.free .seals := by assumption) : Good kp
    (State.endEntries s) := by
  unfold State.endEntries
  try dsimp only
  with_reducible repeat' (first | assumption | refine Good.foldl ?_ (fun t a ht => ?_) | refine Good.foldl2 ?_ (fun t a ht => ?_)
                                | refine Good.foldl1 ?_ (fun t a ht => ?_) | refine Good.foldr ?_ (fun a t ht => ?_) | apply Good.ite
                                | split | (fail_if_no_progress refine Good.upd ?_ rfl rfl rfl rfl))

theorem State.safeCommit_good {s : State} (hG : Good kp s) (p_regs : kp.free .regs := by assumption)
    (p_net : kp.free .net := by assumption) (p_seals : kp.free .seals := by assumption) (p_power : kp.free .power := by assumption)
    : Good kp (State.safeCommit s) := by
  unfold State.safeCommit
  try dsimp only
  with_reducible repeat' (first | assumption | apply State.endEntries_good | apply State.commitChains_good | apply State.setRegF_good
                                | apply Good.ite | split | (fail_if_no_progress refine Good.upd ?_ rfl rfl rfl rfl))

theorem State.enterSafe_good {s : State} (src : Nat) (srcs : List Nat) (hG : Good kp s) (p_regs : kp.free .regs := by assumption)
    (p_mgmt : kp.free .mgmt := by assumption) (p_net : kp.free .net := by assumption) (p_control : kp.free .control := by assumption)
    (p_seals : kp.free .seals := by assumption) (p_power : kp.free .power := by assumption) (p_faults : kp.free .faults := by assumption)
    (p_units : kp.free .units := by assumption) (p_ctxs : kp.free .ctxs := by assumption) (p_rnds : kp.free .rnds := by assumption)
    (p_adm : kp.free .adm := by assumption) (p_stills : kp.free .stills := by assumption) (p_memory : kp.free .memory := by assumption)
    (p_pools : kp.free .pools := by assumption) : Good kp (State.enterSafe s src srcs) := by
  unfold State.enterSafe
  try dsimp only
  with_reducible repeat' (first | assumption | apply State.nightExit_good | apply State.setRegBit_good | apply State.setRegF_good
                                | apply State.settleSlots_good | apply State.safeCommit_good | apply State.abandonCoding_good
                                | apply State.leaveAll_good | apply Good.ite | split
                                | (fail_if_no_progress refine Good.upd ?_ rfl rfl rfl rfl))

theorem State.dropTicket_good {s : State} (num : Nat) (hG : Good kp s) (p_mgmt : kp.free .mgmt := by assumption) : Good kp
    (State.dropTicket s num) := by
  unfold State.dropTicket
  try dsimp only
  with_reducible repeat' (first | assumption | apply Good.ite | split | (fail_if_no_progress refine Good.upd ?_ rfl rfl rfl rfl))

theorem State.readyTicket_good {s : State} (num : Nat) (result : Nat) (data : Bytes) (hG : Good kp s)
    (p_mgmt : kp.free .mgmt := by assumption) : Good kp (State.readyTicket s num result data) := by
  unfold State.readyTicket
  try dsimp only
  with_reducible repeat' (first | assumption | apply State.dropTicket_good | apply State.mapTicket_good | apply Good.ite)

theorem State.endTest_good {s : State} (agent : Nat) (hG : Good kp s) (p_mgmt : kp.free .mgmt := by assumption)
    (p_control : kp.free .control := by assumption) (p_units : kp.free .units := by assumption) : Good kp (State.endTest s agent) := by
  unfold State.endTest
  try dsimp only
  with_reducible repeat' (first | assumption | apply State.readyTicket_good | apply State.setUnit_good | apply State.setSeq_good
                                | refine Good.foldl ?_ (fun t a ht => ?_) | refine Good.foldl2 ?_ (fun t a ht => ?_)
                                | refine Good.foldl1 ?_ (fun t a ht => ?_) | refine Good.foldr ?_ (fun a t ht => ?_) | apply Good.ite)

theorem State.releaseOwned_good {s : State} (agent : Nat) (hG : Good kp s) (p_regs : kp.free .regs := by assumption)
    (p_pools : kp.free .pools := by assumption) : Good kp (State.releaseOwned s agent) := by
  unfold State.releaseOwned
  try dsimp only
  with_reducible repeat' (first | assumption | apply State.freeOwn_good | refine Good.foldl ?_ (fun t a ht => ?_))

theorem State.freezePort_good {s : State} (p : Nat) (hG : Good kp s) (p_regs : kp.free .regs := by assumption)
    (p_net : kp.free .net := by assumption) (p_control : kp.free .control := by assumption) (p_pools : kp.free .pools := by assumption)
    : Good kp (State.freezePort s p) := by
  unfold State.freezePort
  try dsimp only
  with_reducible repeat' (first | assumption | apply State.declareDown_good | apply State.releaseOwned_good | apply State.setPort_good)

theorem State.freezeSe_good {s : State} (k : Nat) (hG : Good kp s) (p_seals : kp.free .seals := by assumption) : Good kp
    (State.freezeSe s k) := by
  unfold State.freezeSe
  try dsimp only
  with_reducible repeat' (first | assumption | apply State.setSe_good | apply State.startSign_good | apply Good.ite | split
                                | (fail_if_no_progress refine Good.upd ?_ rfl rfl rfl rfl))

theorem State.freezeSeq_good {s : State} (k : Nat) (hG : Good kp s) (p_regs : kp.free .regs := by assumption)
    (p_control : kp.free .control := by assumption) (p_pools : kp.free .pools := by assumption) : Good kp (State.freezeSeq s k) := by
  unfold State.freezeSeq
  try dsimp only
  with_reducible repeat' (first | assumption | apply State.setSeq_good | apply State.rehome_good | apply State.raiseEvs_good
                                | apply Good.ite | split | (fail_if_no_progress refine Good.upd ?_ rfl rfl rfl rfl))

theorem State.requeueCompose_good {s : State} (n : Nat) (hG : Good kp s) (p_regs : kp.free .regs := by assumption)
    (p_rnds : kp.free .rnds := by assumption) (p_pools : kp.free .pools := by assumption) : Good kp (State.requeueCompose s n) := by
  unfold State.requeueCompose
  try dsimp only
  with_reducible repeat' (first | assumption | apply State.freeOwn_good | apply State.setRnd_good | apply Good.ite | split)

theorem State.requeueDecode_good {s : State} (n : Nat) (hG : Good kp s) (p_regs : kp.free .regs := by assumption)
    (p_ctxs : kp.free .ctxs := by assumption) (p_pools : kp.free .pools := by assumption) : Good kp (State.requeueDecode s n) := by
  unfold State.requeueDecode
  try dsimp only
  with_reducible repeat' (first | assumption | apply State.freeOwn_good | apply State.setCtx_good
                                | refine Good.foldl ?_ (fun t a ht => ?_) | refine Good.foldl2 ?_ (fun t a ht => ?_)
                                | refine Good.foldl1 ?_ (fun t a ht => ?_) | refine Good.foldr ?_ (fun a t ht => ?_) | apply Good.ite
                                | split)

theorem State.requeueEncode_good {s : State} (n : Nat) (hG : Good kp s) (p_regs : kp.free .regs := by assumption)
    (p_rnds : kp.free .rnds := by assumption) (p_pools : kp.free .pools := by assumption) : Good kp (State.requeueEncode s n) := by
  unfold State.requeueEncode
  try dsimp only
  with_reducible repeat' (first | assumption | apply State.freeOwn_good | apply State.setRnd_good | apply Good.ite | split)

theorem State.requeue_good {s : State} (kind : Nat) (slot : Nat) (hG : Good kp s) (p_regs : kp.free .regs := by assumption)
    (p_ctxs : kp.free .ctxs := by assumption) (p_rnds : kp.free .rnds := by assumption) (p_pools : kp.free .pools := by assumption)
    : Good kp (State.requeue s kind slot) := by
  unfold State.requeue
  try dsimp only
  with_reducible repeat' (first | assumption | apply State.requeueDecode_good | apply State.requeueEncode_good
                                | apply State.requeueCompose_good | apply Good.ite | split)

theorem State.discardRecord_good {s : State} (agent : Nat) (hG : Good kp s) (p_regs : kp.free .regs := by assumption)
    (p_control : kp.free .control := by assumption) (p_ctxs : kp.free .ctxs := by assumption) (p_rnds : kp.free .rnds := by assumption)
    (p_pools : kp.free .pools := by assumption) : Good kp (State.discardRecord s agent) := by
  unfold State.discardRecord
  try dsimp only
  with_reducible repeat' (first | assumption | apply State.requeue_good | apply Good.ite | split
                                | (fail_if_no_progress refine Good.upd ?_ rfl rfl rfl rfl))

theorem State.noCap_good {s : State} (agent : Nat) (hG : Good kp s) (p_regs : kp.free .regs := by assumption) : Good kp
    (State.noCap s agent) := by
  unfold State.noCap
  try dsimp only
  with_reducible repeat' (first | assumption | apply State.setReg_good)

theorem State.freezeUnit_good {s : State} (agent : Nat) (hG : Good kp s) (p_regs : kp.free .regs := by assumption)
    (p_control : kp.free .control := by assumption) (p_units : kp.free .units := by assumption) (p_ctxs : kp.free .ctxs := by assumption)
    (p_rnds : kp.free .rnds := by assumption) (p_pools : kp.free .pools := by assumption) : Good kp (State.freezeUnit s agent) := by
  unfold State.freezeUnit
  try dsimp only
  with_reducible repeat' (first | assumption | apply State.requeue_good | apply State.discardRecord_good | apply State.showUnit_good
                                | apply State.noCap_good | apply State.setUnit_good | apply Good.ite | split)

theorem State.freezeAgent_good {s : State} (agent : Nat) (src : Nat) (hG : Good kp s) (p_regs : kp.free .regs := by assumption)
    (p_mgmt : kp.free .mgmt := by assumption) (p_net : kp.free .net := by assumption) (p_control : kp.free .control := by assumption)
    (p_seals : kp.free .seals := by assumption) (p_faults : kp.free .faults := by assumption) (p_units : kp.free .units := by assumption)
    (p_ctxs : kp.free .ctxs := by assumption) (p_rnds : kp.free .rnds := by assumption) (p_pools : kp.free .pools := by assumption)
    : Good kp (State.freezeAgent s agent src) := by
  unfold State.freezeAgent
  try dsimp only
  with_reducible repeat' (first | assumption | apply State.setRegBit_good | apply State.endTest_good | apply State.freezeUnit_good
                                | apply State.directEvent_good | apply State.setRegF_good | apply State.rehome_good
                                | apply State.freezeSeq_good | apply State.freezePort_good | apply State.freezeSe_good | apply Good.ite
                                | split | (fail_if_no_progress refine Good.upd ?_ rfl rfl rfl rfl))

theorem State.fltLog_good {s : State} (r : Raise) (sev : Nat) (down : Bool) (rep : Bool) (hG : Good kp s)
    (p_regs : kp.free .regs := by assumption) (p_faults : kp.free .faults := by assumption) : Good kp
    (State.fltLog s r sev down rep) := by
  unfold State.fltLog
  try dsimp only
  with_reducible repeat' (first | assumption | apply State.setRegs_good | apply State.bumpIf_good | apply State.setRegF_good
                                | apply Good.ite | split | (fail_if_no_progress refine Good.upd ?_ rfl rfl rfl rfl))

theorem State.setCause_good {s : State} (n : Nat) (b : Bool) (hG : Good kp s) (p_regs : kp.free .regs := by assumption) : Good kp
    (State.setCause s n b) := by
  unfold State.setCause
  try dsimp only
  with_reducible repeat' (first | assumption | apply State.setRegBit_good)

theorem State.noteRaise_good {s : State} (x : React) (hG : Good kp s) (p_regs : kp.free .regs := by assumption)
    (p_faults : kp.free .faults := by assumption) : Good kp (State.noteRaise s x) := by
  unfold State.noteRaise
  try dsimp only
  with_reducible repeat' (first | assumption | apply State.fltLog_good | apply State.bump32_good | apply State.setRegBit_good
                                | apply State.bumpIf_good | apply State.setCause_good | apply Good.ite | split
                                | (fail_if_no_progress refine Good.upd ?_ rfl rfl rfl rfl))

theorem State.raiseFaults_good {s : State} (rs : List Raise) (hG : Good kp s) (p_regs : kp.free .regs := by assumption)
    (p_mgmt : kp.free .mgmt := by assumption) (p_net : kp.free .net := by assumption) (p_control : kp.free .control := by assumption)
    (p_seals : kp.free .seals := by assumption) (p_power : kp.free .power := by assumption) (p_faults : kp.free .faults := by assumption)
    (p_units : kp.free .units := by assumption) (p_ctxs : kp.free .ctxs := by assumption) (p_rnds : kp.free .rnds := by assumption)
    (p_adm : kp.free .adm := by assumption) (p_stills : kp.free .stills := by assumption) (p_memory : kp.free .memory := by assumption)
    (p_pools : kp.free .pools := by assumption) : Good kp (State.raiseFaults s rs) := by
  unfold State.raiseFaults
  try dsimp only
  with_reducible repeat' (first | assumption | apply State.noteRaise_good | apply State.raiseEvs_good | apply State.enterSafe_good
                                | apply State.freezeAgent_good | apply State.syncState_good | refine Good.foldl ?_ (fun t a ht => ?_)
                                | refine Good.foldl2 ?_ (fun t a ht => ?_) | refine Good.foldl1 ?_ (fun t a ht => ?_)
                                | refine Good.foldr ?_ (fun a t ht => ?_) | apply Good.ite | split)

theorem State.raiseFault_good {s : State} (r : Raise) (hG : Good kp s) (p_regs : kp.free .regs := by assumption)
    (p_mgmt : kp.free .mgmt := by assumption) (p_net : kp.free .net := by assumption) (p_control : kp.free .control := by assumption)
    (p_seals : kp.free .seals := by assumption) (p_power : kp.free .power := by assumption) (p_faults : kp.free .faults := by assumption)
    (p_units : kp.free .units := by assumption) (p_ctxs : kp.free .ctxs := by assumption) (p_rnds : kp.free .rnds := by assumption)
    (p_adm : kp.free .adm := by assumption) (p_stills : kp.free .stills := by assumption) (p_memory : kp.free .memory := by assumption)
    (p_pools : kp.free .pools := by assumption) : Good kp (State.raiseFault s r) := by
  unfold State.raiseFault
  try dsimp only
  with_reducible repeat' (first | assumption | apply State.raiseFaults_good)

theorem State.ackNow_good {s : State} (x : KtSess) (hG : Good kp s) (p_net : kp.free .net := by assumption) : Good kp
    (State.ackNow s x) := by
  unfold State.ackNow
  try dsimp only
  with_reducible repeat' (first | assumption | apply State.ktReply_good | apply State.setSess_good)

theorem State.addSess_good {s : State} (x : KtSess) (hG : Good kp s) (p_net : kp.free .net := by assumption) : Good kp
    (State.addSess s x) := by
  unfold State.addSess
  try dsimp only
  with_reducible repeat' (first | assumption | apply Good.ite | split | (fail_if_no_progress refine Good.upd ?_ rfl rfl rfl rfl))

theorem State.loseDue_good {s : State} (n : Nat) (hG : Good kp s) (p_regs : kp.free .regs := by assumption)
    (p_ctxs : kp.free .ctxs := by assumption) : Good kp (State.loseDue s n) := by
  unfold State.loseDue
  try dsimp only
  with_reducible repeat' (first | assumption | apply State.bumpN_good | apply State.setCtx_good | apply Good.ite)

theorem State.holdPacket_good {s : State} (n : Nat) (p : RtpPkt) (hG : Good kp s) (p_regs : kp.free .regs := by assumption)
    (p_net : kp.free .net := by assumption) (p_control : kp.free .control := by assumption) (p_seals : kp.free .seals := by assumption)
    (p_ctxs : kp.free .ctxs := by assumption) : Good kp (State.holdPacket s n p) := by
  unfold State.holdPacket
  try dsimp only
  with_reducible repeat' (first | assumption | apply State.bump_good | apply State.bumpN_good | apply State.closeUnits_good
                                | apply State.setCtx_good | apply State.loseDue_good | apply Good.ite)

theorem State.showHigh_good {s : State} (n : Nat) (hG : Good kp s) (p_regs : kp.free .regs := by assumption) : Good kp
    (State.showHigh s n) := by
  unfold State.showHigh
  try dsimp only
  with_reducible repeat' (first | assumption | apply State.setRegF_good | apply Good.ite | split)

theorem State.rtpIn_good {s : State} (n : Nat) (b : Bytes) (arr : Nat) (tq : Nat) (tick : Nat) (hG : Good kp s)
    (p_regs : kp.free .regs := by assumption) (p_net : kp.free .net := by assumption) (p_control : kp.free .control := by assumption)
    (p_seals : kp.free .seals := by assumption) (p_ctxs : kp.free .ctxs := by assumption) : Good kp (State.rtpIn s n b arr tq tick) := by
  unfold State.rtpIn
  try dsimp only
  with_reducible repeat' (first | assumption | apply State.bump_good | apply State.setRegBit_good | apply State.setReg_good
                                | apply State.showHigh_good | apply State.holdPacket_good | apply State.setCtx_good | apply Good.ite
                                | split)

theorem State.clearRndCounters_good {s : State} (n : Nat) (hG : Good kp s) (p_regs : kp.free .regs := by assumption) : Good kp
    (State.clearRndCounters s n) := by
  unfold State.clearRndCounters
  try dsimp only
  with_reducible repeat' (first | assumption | apply State.clearRegs_good)

theorem State.closeSess_good {s : State} (x : KtSess) (hG : Good kp s) (p_regs : kp.free .regs := by assumption)
    (p_mgmt : kp.free .mgmt := by assumption) (p_net : kp.free .net := by assumption) (p_control : kp.free .control := by assumption)
    (p_seals : kp.free .seals := by assumption) (p_ctxs : kp.free .ctxs := by assumption) (p_rnds : kp.free .rnds := by assumption)
    (p_stills : kp.free .stills := by assumption) (p_pools : kp.free .pools := by assumption) : Good kp (State.closeSess s x) := by
  unfold State.closeSess
  try dsimp only
  with_reducible repeat' (first | assumption | apply State.flushSess_good | apply State.ktReply_good | apply State.dropSess_good
                                | apply State.sessGone_good | apply Good.ite | split
                                | (fail_if_no_progress refine Good.upd ?_ rfl rfl rfl rfl))

theorem State.closeIfDone_good {s : State} (x : KtSess) (hG : Good kp s) (p_regs : kp.free .regs := by assumption)
    (p_mgmt : kp.free .mgmt := by assumption) (p_net : kp.free .net := by assumption) (p_control : kp.free .control := by assumption)
    (p_seals : kp.free .seals := by assumption) (p_ctxs : kp.free .ctxs := by assumption) (p_rnds : kp.free .rnds := by assumption)
    (p_stills : kp.free .stills := by assumption) (p_pools : kp.free .pools := by assumption) : Good kp (State.closeIfDone s x) := by
  unfold State.closeIfDone
  try dsimp only
  with_reducible repeat' (first | assumption | apply State.closeSess_good | apply Good.ite | split)

theorem State.touchOffload_good {s : State} (x : KtSess) (hG : Good kp s) (p_ctxs : kp.free .ctxs := by assumption) : Good kp
    (State.touchOffload s x) := by
  unfold State.touchOffload
  try dsimp only
  with_reducible repeat' (first | assumption | apply State.setCtx_good | apply Good.ite)

theorem State.closeMsg_good {s : State} (p : Nat) (partner : Nat) (cls : Nat) (m : KtMsg) (hG : Good kp s)
    (p_regs : kp.free .regs := by assumption) (p_mgmt : kp.free .mgmt := by assumption) (p_net : kp.free .net := by assumption)
    (p_control : kp.free .control := by assumption) (p_seals : kp.free .seals := by assumption) (p_ctxs : kp.free .ctxs := by assumption)
    (p_rnds : kp.free .rnds := by assumption) (p_stills : kp.free .stills := by assumption) (p_pools : kp.free .pools := by assumption)
    : Good kp (State.closeMsg s p partner cls m) := by
  unfold State.closeMsg
  try dsimp only
  with_reducible repeat' (first | assumption | apply State.holdMsg_good | apply State.ackNow_good | apply State.touchOffload_good
                                | apply State.setSess_good | apply State.closeIfDone_good | apply State.ktReply_good
                                | apply State.sendAbort_good | apply State.bump_good | apply Good.ite | split)

theorem State.dupChunk_good {s : State} (x : KtSess) (port : Nat) (hG : Good kp s) (p_regs : kp.free .regs := by assumption)
    (p_net : kp.free .net := by assumption) : Good kp (State.dupChunk s x port) := by
  unfold State.dupChunk
  try dsimp only
  with_reducible repeat' (first | assumption | apply State.bump_good | apply State.ackNow_good | apply Good.ite)

theorem State.advanceFuel_good (x1 : Nat) (x2 : KtSess) {x3 : State} (hGx3 : Good kp x3) (p_regs : kp.free .regs := by assumption)
    (p_net : kp.free .net := by assumption) (p_control : kp.free .control := by assumption) (p_seals : kp.free .seals := by assumption)
    (p_ctxs : kp.free .ctxs := by assumption) (p_rnds : kp.free .rnds := by assumption) : Good kp (State.advanceFuel x1 x2 x3).2 := by
  induction x1 generalizing x2 x3 with
  | zero => exact hGx3
  | succ j ih =>
    unfold State.advanceFuel
    try dsimp only
    with_reducible repeat' (first | assumption | apply ih | apply State.useChunk_good | apply Good.ite | split)

theorem State.storeChunkAt_good {s : State} (x : KtSess) (m : KtMsg) (arr : Nat) (tq : Nat) (tick : Nat) (hG : Good kp s)
    (p_regs : kp.free .regs := by assumption) (p_mgmt : kp.free .mgmt := by assumption) (p_net : kp.free .net := by assumption)
    (p_control : kp.free .control := by assumption) (p_seals : kp.free .seals := by assumption) (p_ctxs : kp.free .ctxs := by assumption)
    (p_rnds : kp.free .rnds := by assumption) (p_stills : kp.free .stills := by assumption) (p_pools : kp.free .pools := by assumption)
    : Good kp (State.storeChunkAt s x m arr tq tick) := by
  unfold State.storeChunkAt
  try dsimp only
  with_reducible repeat' (first | assumption | apply State.advanceFuel_good | apply State.touchOffload_good | apply State.setSess_good
                                | apply State.ackNow_good | apply State.closeIfDone_good | apply Good.ite | split)

theorem State.dataMsg_good {s : State} (p : Nat) (partner : Nat) (cls : Nat) (m : KtMsg) (arr : Nat) (tq : Nat) (tick : Nat) (hG
    : Good kp s) (p_regs : kp.free .regs := by assumption) (p_mgmt : kp.free .mgmt := by assumption)
    (p_net : kp.free .net := by assumption) (p_control : kp.free .control := by assumption) (p_seals : kp.free .seals := by assumption)
    (p_ctxs : kp.free .ctxs := by assumption) (p_rnds : kp.free .rnds := by assumption) (p_stills : kp.free .stills := by assumption)
    (p_pools : kp.free .pools := by assumption) : Good kp (State.dataMsg s p partner cls m arr tq tick) := by
  unfold State.dataMsg
  try dsimp only
  with_reducible repeat' (first | assumption | apply State.sendAbort_good | apply State.bump_good | apply State.holdMsg_good
                                | apply State.dupChunk_good | apply State.storeChunkAt_good | apply Good.ite | split)

theorem State.openAck_good {s : State} (partner : Nat) (cls : Nat) (id : Nat) (body : Bytes) (hG : Good kp s)
    (p_net : kp.free .net := by assumption) : Good kp (State.openAck s partner cls id body) := by
  unfold State.openAck
  try dsimp only
  with_reducible repeat' (first | assumption | apply State.ktReply_good)

theorem State.maskOpen_good {s : State} (partner : Nat) (m : KtMsg) (hG : Good kp s) (p_regs : kp.free .regs := by assumption)
    (p_net : kp.free .net := by assumption) : Good kp (State.maskOpen s partner m) := by
  unfold State.maskOpen
  try dsimp only
  with_reducible repeat' (first | assumption | apply State.openAck_good | apply State.addSess_good | apply State.setReg_good
                                | apply State.setRegBit_good | apply Good.ite)

theorem State.clearCtxCounters_good {s : State} (n : Nat) (hG : Good kp s) (p_regs : kp.free .regs := by assumption) : Good kp
    (State.clearCtxCounters s n) := by
  unfold State.clearCtxCounters
  try dsimp only
  with_reducible repeat' (first | assumption | apply State.clearRegs_good)

theorem State.admitCtx_good {s : State} (n : Nat) (req : AdmReq) (hG : Good kp s) (p_regs : kp.free .regs := by assumption)
    (p_net : kp.free .net := by assumption) (p_ctxs : kp.free .ctxs := by assumption) (p_adm : kp.free .adm := by assumption) : Good kp
    (State.admitCtx s n req) := by
  unfold State.admitCtx
  try dsimp only
  with_reducible repeat' (first | assumption | apply State.setCstate_good | apply State.clearCtxCounters_good | apply State.setCtx_good
                                | apply Good.ite | split | (fail_if_no_progress refine Good.upd ?_ rfl rfl rfl rfl))

theorem State.settlePol_good {s : State} (n : Nat) (hG : Good kp s) (p_regs : kp.free .regs := by assumption) : Good kp
    (State.settlePol s n) := by
  unfold State.settlePol
  try dsimp only
  with_reducible repeat' (first | assumption | apply State.setRegF_good | apply Good.ite)

theorem State.writeOpen_good {s : State} (n : Nat) (b : Bytes) (hG : Good kp s) (p_regs : kp.free .regs := by assumption) : Good kp
    (State.writeOpen s n b) := by
  unfold State.writeOpen
  try dsimp only
  with_reducible repeat' (first | assumption | apply State.setReg_good | apply State.settlePol_good
                                | refine Good.foldl ?_ (fun t a ht => ?_))

theorem State.offloadOpen_good {s : State} (port : Nat) (partner : Nat) (m : KtMsg) (hG : Good kp s)
    (p_regs : kp.free .regs := by assumption) (p_net : kp.free .net := by assumption) (p_ctxs : kp.free .ctxs := by assumption)
    (p_adm : kp.free .adm := by assumption) : Good kp (State.offloadOpen s port partner m) := by
  unfold State.offloadOpen
  try dsimp only
  with_reducible repeat' (first | assumption | apply State.openAck_good | apply State.bump32_good | apply State.writeOpen_good
                                | apply State.admitCtx_good | apply State.addSess_good | apply Good.ite | split)

theorem State.openMsg_good {s : State} (p : Nat) (partner : Nat) (cls : Nat) (m : KtMsg) (hG : Good kp s)
    (p_regs : kp.free .regs := by assumption) (p_net : kp.free .net := by assumption) (p_ctxs : kp.free .ctxs := by assumption)
    (p_adm : kp.free .adm := by assumption) : Good kp (State.openMsg s p partner cls m) := by
  unfold State.openMsg
  try dsimp only
  with_reducible repeat' (first | assumption | apply State.holdMsg_good | apply State.touchOffload_good | apply State.openAck_good
                                | apply State.ktReply_good | apply State.offloadOpen_good | apply State.maskOpen_good | apply Good.ite
                                | split)

theorem State.earlyMsg_good (cls : Nat) (partner : Nat) {s : State} (e : EarlyKt) (hG : Good kp s)
    (p_regs : kp.free .regs := by assumption) (p_mgmt : kp.free .mgmt := by assumption) (p_net : kp.free .net := by assumption)
    (p_control : kp.free .control := by assumption) (p_seals : kp.free .seals := by assumption) (p_ctxs : kp.free .ctxs := by assumption)
    (p_rnds : kp.free .rnds := by assumption) (p_adm : kp.free .adm := by assumption) (p_stills : kp.free .stills := by assumption)
    (p_pools : kp.free .pools := by assumption) : Good kp (State.earlyMsg cls partner s e) := by
  unfold State.earlyMsg
  try dsimp only
  with_reducible repeat' (first | assumption | apply State.dataMsg_good | apply State.closeMsg_good | apply State.abortMsg_good
                                | apply State.openMsg_good | apply Good.ite)

theorem State.expireNow_good {s : State} (n : Nat) (hG : Good kp s) (p_regs : kp.free .regs := by assumption)
    (p_mgmt : kp.free .mgmt := by assumption) (p_net : kp.free .net := by assumption) (p_seals : kp.free .seals := by assumption)
    (p_ctxs : kp.free .ctxs := by assumption) (p_rnds : kp.free .rnds := by assumption) (p_stills : kp.free .stills := by assumption)
    (p_pools : kp.free .pools := by assumption) : Good kp (State.expireNow s n) := by
  unfold State.expireNow
  try dsimp only
  with_reducible repeat' (first | assumption | apply State.settleSlots_good | apply State.chainRenditions_good | apply State.bumpN_good
                                | apply State.chainForced_good | refine Good.foldl ?_ (fun t a ht => ?_)
                                | refine Good.foldl2 ?_ (fun t a ht => ?_) | refine Good.foldl1 ?_ (fun t a ht => ?_)
                                | refine Good.foldr ?_ (fun a t ht => ?_) | apply Good.ite)

theorem State.expireLeaves_good {s : State} (n : Nat) (hG : Good kp s) (p_regs : kp.free .regs := by assumption)
    (p_mgmt : kp.free .mgmt := by assumption) (p_net : kp.free .net := by assumption) (p_seals : kp.free .seals := by assumption)
    (p_ctxs : kp.free .ctxs := by assumption) (p_rnds : kp.free .rnds := by assumption) (p_stills : kp.free .stills := by assumption)
    (p_pools : kp.free .pools := by assumption) : Good kp (State.expireLeaves s n) := by
  unfold State.expireLeaves
  try dsimp only
  with_reducible repeat' (first | assumption | apply State.setCtx_good | apply State.expireNow_good | apply Good.ite)

theorem State.closeCtx_good {s : State} (n : Nat) (hG : Good kp s) (p_regs : kp.free .regs := by assumption)
    (p_mgmt : kp.free .mgmt := by assumption) (p_net : kp.free .net := by assumption) (p_control : kp.free .control := by assumption)
    (p_seals : kp.free .seals := by assumption) (p_ctxs : kp.free .ctxs := by assumption) (p_rnds : kp.free .rnds := by assumption)
    (p_adm : kp.free .adm := by assumption) (p_stills : kp.free .stills := by assumption) (p_pools : kp.free .pools := by assumption)
    : Good kp (State.closeCtx s n) := by
  unfold State.closeCtx
  try dsimp only
  with_reducible repeat' (first | assumption | apply State.abortOffload_good | apply State.ctxLeaveOpen_good | apply Good.ite)

theorem State.startJob_good {s : State} (agent : Nat) (j : Job) (slot : Nat) (restarted : Bool) (hG : Good kp s)
    (p_regs : kp.free .regs := by assumption) (p_units : kp.free .units := by assumption) : Good kp
    (State.startJob s agent j slot restarted) := by
  unfold State.startJob
  try dsimp only
  with_reducible repeat' (first | assumption | apply State.showUnit_good | apply State.setUnit_good)

theorem State.setDmaCh_good {s : State} (n : Nat) (x : DmaCh) (hG : Good kp s) (p_dma : kp.free .dma := by assumption) : Good kp
    (State.setDmaCh s n x) := by
  unfold State.setDmaCh
  try dsimp only
  with_reducible repeat' (first | assumption | apply Good.ite | split | (fail_if_no_progress refine Good.upd ?_ rfl rfl rfl rfl))

theorem State.endJob_good {s : State} (agent : Nat) (hG : Good kp s) (p_regs : kp.free .regs := by assumption)
    (p_units : kp.free .units := by assumption) : Good kp (State.endJob s agent) := by
  unfold State.endJob
  try dsimp only
  with_reducible repeat' (first | assumption | apply State.showUnit_good | apply State.setUnit_good)

theorem State.idleExpire_good {s : State} (n : Nat) (hG : Good kp s) (p_regs : kp.free .regs := by assumption)
    (p_mgmt : kp.free .mgmt := by assumption) (p_net : kp.free .net := by assumption) (p_control : kp.free .control := by assumption)
    (p_seals : kp.free .seals := by assumption) (p_ctxs : kp.free .ctxs := by assumption) (p_rnds : kp.free .rnds := by assumption)
    (p_adm : kp.free .adm := by assumption) (p_stills : kp.free .stills := by assumption) (p_pools : kp.free .pools := by assumption)
    : Good kp (State.idleExpire s n) := by
  unfold State.idleExpire
  try dsimp only
  with_reducible repeat' (first | assumption | apply State.abortOffload_good | apply State.ctxLeaveOpen_good | apply Good.ite)

theorem State.idleFirst_good {s : State} (cls : Nat) (partner : Nat) (id : Nat) (hG : Good kp s) (p_regs : kp.free .regs := by assumption)
    (p_mgmt : kp.free .mgmt := by assumption) (p_net : kp.free .net := by assumption) (p_control : kp.free .control := by assumption)
    (p_seals : kp.free .seals := by assumption) (p_ctxs : kp.free .ctxs := by assumption) (p_rnds : kp.free .rnds := by assumption)
    (p_adm : kp.free .adm := by assumption) (p_stills : kp.free .stills := by assumption) (p_pools : kp.free .pools := by assumption)
    : Good kp (State.idleFirst s cls partner id) := by
  unfold State.idleFirst
  try dsimp only
  with_reducible repeat' (first | assumption | apply State.idleExpire_good | apply Good.ite | split)

theorem State.nightFrame_good {s : State} (hG : Good kp s) (p_regs : kp.free .regs := by assumption)
    (p_memory : kp.free .memory := by assumption) : Good kp (State.nightFrame s).1 := by
  unfold State.nightFrame
  try dsimp only
  with_reducible repeat' (first | assumption | apply State.bump32_good | apply State.nightExit_good | apply Good.ite | split)

theorem State.ktRx_good {s : State} (f : RxFrame) (cls : Nat) (type : Nat) (hG : Good kp s) (p_regs : kp.free .regs := by assumption)
    (p_memory : kp.free .memory := by assumption) : Good kp (State.ktRx s f cls type).1 := by
  unfold State.ktRx
  try dsimp only
  with_reducible repeat' (first | assumption | apply State.discard_good | apply State.bump_good | apply State.nightFrame_good
                                | apply Good.ite | split)

theorem State.ktAbort_good {s : State} (f : RxFrame) (cls : Nat) (hG : Good kp s) (p_regs : kp.free .regs := by assumption)
    (p_mgmt : kp.free .mgmt := by assumption) (p_net : kp.free .net := by assumption) (p_control : kp.free .control := by assumption)
    (p_seals : kp.free .seals := by assumption) (p_ctxs : kp.free .ctxs := by assumption) (p_rnds : kp.free .rnds := by assumption)
    (p_adm : kp.free .adm := by assumption) (p_stills : kp.free .stills := by assumption) (p_memory : kp.free .memory := by assumption)
    (p_pools : kp.free .pools := by assumption) : Good kp (State.ktAbort s f cls) := by
  have h1 := State.ktRx_good f cls 7 hG
  unfold State.ktAbort
  split <;> rename_i heq <;> rw [heq] at h1 <;> dsimp only at h1 ⊢
  with_reducible repeat' (first | assumption | apply State.ktRx_good | apply State.bump_good | apply State.abortMsg_good
                                | apply State.raiseEv_good | apply State.idleFirst_good | apply Good.ite)

theorem State.ktClose_good {s : State} (f : RxFrame) (cls : Nat) (hG : Good kp s) (p_regs : kp.free .regs := by assumption)
    (p_mgmt : kp.free .mgmt := by assumption) (p_net : kp.free .net := by assumption) (p_control : kp.free .control := by assumption)
    (p_seals : kp.free .seals := by assumption) (p_ctxs : kp.free .ctxs := by assumption) (p_rnds : kp.free .rnds := by assumption)
    (p_adm : kp.free .adm := by assumption) (p_stills : kp.free .stills := by assumption) (p_memory : kp.free .memory := by assumption)
    (p_pools : kp.free .pools := by assumption) : Good kp (State.ktClose s f cls) := by
  have h1 := State.ktRx_good f cls 5 hG
  unfold State.ktClose
  split <;> rename_i heq <;> rw [heq] at h1 <;> dsimp only at h1 ⊢
  with_reducible repeat' (first | assumption | apply State.ktRx_good | apply State.bump_good | apply State.closeMsg_good
                                | apply State.raiseEv_good | apply State.idleFirst_good | apply Good.ite)

theorem State.ktData_good {s : State} (f : RxFrame) (cls : Nat) (hG : Good kp s) (p_regs : kp.free .regs := by assumption)
    (p_mgmt : kp.free .mgmt := by assumption) (p_net : kp.free .net := by assumption) (p_control : kp.free .control := by assumption)
    (p_seals : kp.free .seals := by assumption) (p_ctxs : kp.free .ctxs := by assumption) (p_rnds : kp.free .rnds := by assumption)
    (p_adm : kp.free .adm := by assumption) (p_stills : kp.free .stills := by assumption) (p_memory : kp.free .memory := by assumption)
    (p_pools : kp.free .pools := by assumption) : Good kp (State.ktData s f cls) := by
  have h1 := State.ktRx_good f cls 3 hG
  unfold State.ktData
  split <;> rename_i heq <;> rw [heq] at h1 <;> dsimp only at h1 ⊢
  with_reducible repeat' (first | assumption | apply State.ktRx_good | apply State.idleFirst_good | apply State.dataMsg_good)

theorem State.ktOpen_good {s : State} (f : RxFrame) (cls : Nat) (hG : Good kp s) (p_regs : kp.free .regs := by assumption)
    (p_mgmt : kp.free .mgmt := by assumption) (p_net : kp.free .net := by assumption) (p_control : kp.free .control := by assumption)
    (p_seals : kp.free .seals := by assumption) (p_ctxs : kp.free .ctxs := by assumption) (p_rnds : kp.free .rnds := by assumption)
    (p_adm : kp.free .adm := by assumption) (p_stills : kp.free .stills := by assumption) (p_memory : kp.free .memory := by assumption)
    (p_pools : kp.free .pools := by assumption) : Good kp (State.ktOpen s f cls) := by
  have h1 := State.ktRx_good f cls 1 hG
  unfold State.ktOpen
  split <;> rename_i heq <;> rw [heq] at h1 <;> dsimp only at h1 ⊢
  with_reducible repeat' (first | assumption | apply State.ktRx_good | apply State.bump_good | apply State.openMsg_good
                                | apply State.raiseEv_good | apply State.idleFirst_good | apply Good.ite)

theorem State.policeLive_good {s : State} (n : Nat) (len : Nat) (hG : Good kp s) (p_regs : kp.free .regs := by assumption)
    (p_net : kp.free .net := by assumption) : Good kp (State.policeLive s n len).1 := by
  unfold State.policeLive
  try dsimp only
  with_reducible repeat' (first | assumption | apply State.bumpN_good | apply State.bump_good | apply Good.ite | split
                                | (fail_if_no_progress refine Good.upd ?_ rfl rfl rfl rfl))

theorem State.liveFrame_good {s0 : State} (n : Nat) (f : RxFrame) (hGs0 : Good kp s0) (p_regs : kp.free .regs := by assumption)
    (p_mgmt : kp.free .mgmt := by assumption) (p_net : kp.free .net := by assumption) (p_control : kp.free .control := by assumption)
    (p_seals : kp.free .seals := by assumption) (p_ctxs : kp.free .ctxs := by assumption) (p_rnds : kp.free .rnds := by assumption)
    (p_adm : kp.free .adm := by assumption) (p_stills : kp.free .stills := by assumption) (p_pools : kp.free .pools := by assumption)
    : Good kp (State.liveFrame s0 n f) := by
  unfold State.liveFrame
  try dsimp only
  with_reducible repeat' (first | assumption | apply State.bump_good | apply State.idleExpire_good | apply State.raiseEv_good
                                | apply State.admitCtx_good | apply State.policeLive_good | apply State.rtpIn_good
                                | apply State.setCtx_good | apply Good.ite)

theorem State.onSess_good {s : State} (r : SessRef) (f : KtSess → State) (hG : Good kp s) (hf : ∀ x, Good kp (f x)) : Good kp
    (State.onSess s r f) := by
  unfold State.onSess
  split
  · split
    · exact hG
    · exact hf _
  · exact hG

theorem State.writeOos_good {s : State} (agent : Nat) (out : Bool) (hG : Good kp s) (p_regs : kp.free .regs := by assumption)
    (p_units : kp.free .units := by assumption) : Good kp (State.writeOos s agent out) := by
  unfold State.writeOos
  try dsimp only
  with_reducible repeat' (first | assumption | apply State.setUnit_good | apply State.setRegBit_good | apply State.showUnit_good
                                | apply State.noCap_good | apply State.bump32_good | apply Good.ite)

theorem State.raiseTogether_good {s : State} (r : Option Raise) (hG : Good kp s) (p_regs : kp.free .regs := by assumption)
    (p_mgmt : kp.free .mgmt := by assumption) (p_net : kp.free .net := by assumption) (p_control : kp.free .control := by assumption)
    (p_seals : kp.free .seals := by assumption) (p_power : kp.free .power := by assumption) (p_faults : kp.free .faults := by assumption)
    (p_units : kp.free .units := by assumption) (p_ctxs : kp.free .ctxs := by assumption) (p_rnds : kp.free .rnds := by assumption)
    (p_adm : kp.free .adm := by assumption) (p_stills : kp.free .stills := by assumption) (p_memory : kp.free .memory := by assumption)
    (p_pools : kp.free .pools := by assumption) : Good kp (State.raiseTogether s r) := by
  unfold State.raiseTogether
  try dsimp only
  with_reducible repeat' (first | assumption | apply State.raiseFaults_good | apply Good.ite | split
                                | (fail_if_no_progress refine Good.upd ?_ rfl rfl rfl rfl))

theorem State.storeChunk_good {s : State} (x : KtSess) (m : KtMsg) (hG : Good kp s) (p_regs : kp.free .regs := by assumption)
    (p_mgmt : kp.free .mgmt := by assumption) (p_net : kp.free .net := by assumption) (p_control : kp.free .control := by assumption)
    (p_seals : kp.free .seals := by assumption) (p_ctxs : kp.free .ctxs := by assumption) (p_rnds : kp.free .rnds := by assumption)
    (p_stills : kp.free .stills := by assumption) (p_pools : kp.free .pools := by assumption) : Good kp (State.storeChunk s x m) := by
  unfold State.storeChunk
  try dsimp only
  with_reducible repeat' (first | assumption | apply State.storeChunkAt_good)

theorem execAckDelayExpiry_good (r : SessRef) {s : State} (hG : Good kp s) (p_net : kp.free .net := by assumption) : OutGood kp
    (execAckDelayExpiry r s) := by
  unfold execAckDelayExpiry
  try dsimp only
  with_reducible repeat' (first | assumption | apply State.onSess_good | apply State.ackNow_good | apply outGood_next
                                | apply outGood_fault | apply Good.ite | apply OutGood.ite | split
                                | (fail_if_no_progress refine Good.upd ?_ rfl rfl rfl rfl) | (intro x))

theorem execAuWaitExpiry_good (n : Fin 1024) {s : State} (hG : Good kp s) (p_regs : kp.free .regs := by assumption)
    (p_net : kp.free .net := by assumption) (p_control : kp.free .control := by assumption) (p_seals : kp.free .seals := by assumption)
    (p_ctxs : kp.free .ctxs := by assumption) : OutGood kp (execAuWaitExpiry n s) := by
  unfold execAuWaitExpiry
  try dsimp only
  with_reducible repeat' (first | assumption | apply State.closeUnits_good | apply outGood_next | apply outGood_fault | apply Good.ite)

theorem execCloseTimeout_good (r : SessRef) {s : State} (hG : Good kp s) (p_regs : kp.free .regs := by assumption)
    (p_mgmt : kp.free .mgmt := by assumption) (p_net : kp.free .net := by assumption) (p_control : kp.free .control := by assumption)
    (p_seals : kp.free .seals := by assumption) (p_ctxs : kp.free .ctxs := by assumption) (p_rnds : kp.free .rnds := by assumption)
    (p_stills : kp.free .stills := by assumption) (p_pools : kp.free .pools := by assumption) : OutGood kp (execCloseTimeout r s) := by
  unfold execCloseTimeout
  try dsimp only
  with_reducible repeat' (first | assumption | apply State.onSess_good | apply State.closeSess_good | apply outGood_next
                                | apply outGood_fault | apply Good.ite | apply OutGood.ite | split
                                | (fail_if_no_progress refine Good.upd ?_ rfl rfl rfl rfl) | (intro x))

theorem execClosedSessionExpiry_good (r : SessRef) {s : State} (hG : Good kp s) (p_net : kp.free .net := by assumption) : OutGood kp
    (execClosedSessionExpiry r s) := by
  unfold execClosedSessionExpiry
  try dsimp only
  with_reducible repeat' (first | assumption | apply outGood_next | apply outGood_fault | apply Good.ite | apply OutGood.ite | split
                                | (fail_if_no_progress refine Good.upd ?_ rfl rfl rfl rfl))

theorem execContextIdleTimeout_good (n : Fin 1024) {s : State} (hG : Good kp s) (p_regs : kp.free .regs := by assumption)
    (p_mgmt : kp.free .mgmt := by assumption) (p_net : kp.free .net := by assumption) (p_control : kp.free .control := by assumption)
    (p_seals : kp.free .seals := by assumption) (p_ctxs : kp.free .ctxs := by assumption) (p_rnds : kp.free .rnds := by assumption)
    (p_adm : kp.free .adm := by assumption) (p_stills : kp.free .stills := by assumption) (p_pools : kp.free .pools := by assumption)
    : OutGood kp (execContextIdleTimeout n s) := by
  unfold execContextIdleTimeout
  try dsimp only
  with_reducible repeat' (first | assumption | apply State.idleExpire_good | apply outGood_next)

theorem execCtxClose_good (n : Fin 1024) {s : State} (hG : Good kp s) (p_regs : kp.free .regs := by assumption)
    (p_mgmt : kp.free .mgmt := by assumption) (p_net : kp.free .net := by assumption) (p_control : kp.free .control := by assumption)
    (p_seals : kp.free .seals := by assumption) (p_ctxs : kp.free .ctxs := by assumption) (p_rnds : kp.free .rnds := by assumption)
    (p_adm : kp.free .adm := by assumption) (p_stills : kp.free .stills := by assumption) (p_pools : kp.free .pools := by assumption)
    : OutGood kp (execCtxClose n s) := by
  unfold execCtxClose
  try dsimp only
  with_reducible repeat' (first | assumption | apply State.closeCtx_good | apply outGood_next)

theorem execRtpPacket_good (f : RxFrame) {s : State} (hG : Good kp s) (p_regs : kp.free .regs := by assumption)
    (p_mgmt : kp.free .mgmt := by assumption) (p_net : kp.free .net := by assumption) (p_control : kp.free .control := by assumption)
    (p_seals : kp.free .seals := by assumption) (p_ctxs : kp.free .ctxs := by assumption) (p_rnds : kp.free .rnds := by assumption)
    (p_adm : kp.free .adm := by assumption) (p_stills : kp.free .stills := by assumption) (p_memory : kp.free .memory := by assumption)
    (p_pools : kp.free .pools := by assumption) : OutGood kp (execRtpPacket f s) := by
  unfold execRtpPacket
  try dsimp only
  with_reducible repeat' (first | assumption | apply State.discard_good | apply State.bump_good | apply State.nightFrame_good
                                | apply State.liveFrame_good | apply outGood_next | apply outGood_fault | apply Good.ite
                                | apply OutGood.ite | split)

theorem execDiscardedFrame_good (f : RxFrame) {s : State} (hG : Good kp s) (p_regs : kp.free .regs := by assumption)
    (p_mgmt : kp.free .mgmt := by assumption) (p_net : kp.free .net := by assumption) (p_control : kp.free .control := by assumption)
    (p_seals : kp.free .seals := by assumption) (p_ctxs : kp.free .ctxs := by assumption) (p_rnds : kp.free .rnds := by assumption)
    (p_adm : kp.free .adm := by assumption) (p_stills : kp.free .stills := by assumption) (p_memory : kp.free .memory := by assumption)
    (p_pools : kp.free .pools := by assumption) : OutGood kp (execDiscardedFrame f s) := by
  unfold execDiscardedFrame
  try dsimp only
  with_reducible repeat' (first | assumption | apply State.discard_good | apply execRtpPacket_good | apply State.controlFrame_good
                                | apply outGood_next | apply outGood_fault | apply Good.ite | apply OutGood.ite | split)

theorem execMaskAbort_good (f : RxFrame) {s : State} (hG : Good kp s) (p_regs : kp.free .regs := by assumption)
    (p_mgmt : kp.free .mgmt := by assumption) (p_net : kp.free .net := by assumption) (p_control : kp.free .control := by assumption)
    (p_seals : kp.free .seals := by assumption) (p_ctxs : kp.free .ctxs := by assumption) (p_rnds : kp.free .rnds := by assumption)
    (p_adm : kp.free .adm := by assumption) (p_stills : kp.free .stills := by assumption) (p_memory : kp.free .memory := by assumption)
    (p_pools : kp.free .pools := by assumption) : OutGood kp (execMaskAbort f s) := by
  unfold execMaskAbort
  try dsimp only
  with_reducible repeat' (first | assumption | apply State.ktAbort_good | apply outGood_next)

theorem execMaskClose_good (f : RxFrame) {s : State} (hG : Good kp s) (p_regs : kp.free .regs := by assumption)
    (p_mgmt : kp.free .mgmt := by assumption) (p_net : kp.free .net := by assumption) (p_control : kp.free .control := by assumption)
    (p_seals : kp.free .seals := by assumption) (p_ctxs : kp.free .ctxs := by assumption) (p_rnds : kp.free .rnds := by assumption)
    (p_adm : kp.free .adm := by assumption) (p_stills : kp.free .stills := by assumption) (p_memory : kp.free .memory := by assumption)
    (p_pools : kp.free .pools := by assumption) : OutGood kp (execMaskClose f s) := by
  unfold execMaskClose
  try dsimp only
  with_reducible repeat' (first | assumption | apply State.ktClose_good | apply outGood_next)

theorem execMaskData_good (f : RxFrame) {s : State} (hG : Good kp s) (p_regs : kp.free .regs := by assumption)
    (p_mgmt : kp.free .mgmt := by assumption) (p_net : kp.free .net := by assumption) (p_control : kp.free .control := by assumption)
    (p_seals : kp.free .seals := by assumption) (p_ctxs : kp.free .ctxs := by assumption) (p_rnds : kp.free .rnds := by assumption)
    (p_adm : kp.free .adm := by assumption) (p_stills : kp.free .stills := by assumption) (p_memory : kp.free .memory := by assumption)
    (p_pools : kp.free .pools := by assumption) : OutGood kp (execMaskData f s) := by
  unfold execMaskData
  try dsimp only
  with_reducible repeat' (first | assumption | apply State.ktData_good | apply outGood_next)

theorem execMaskOpen_good (f : RxFrame) {s : State} (hG : Good kp s) (p_regs : kp.free .regs := by assumption)
    (p_mgmt : kp.free .mgmt := by assumption) (p_net : kp.free .net := by assumption) (p_control : kp.free .control := by assumption)
    (p_seals : kp.free .seals := by assumption) (p_ctxs : kp.free .ctxs := by assumption) (p_rnds : kp.free .rnds := by assumption)
    (p_adm : kp.free .adm := by assumption) (p_stills : kp.free .stills := by assumption) (p_memory : kp.free .memory := by assumption)
    (p_pools : kp.free .pools := by assumption) : OutGood kp (execMaskOpen f s) := by
  unfold execMaskOpen
  try dsimp only
  with_reducible repeat' (first | assumption | apply State.ktOpen_good | apply outGood_next)

theorem execMaskSessionIdle_good (r : SessRef) {s : State} (hG : Good kp s) (p_regs : kp.free .regs := by assumption)
    (p_mgmt : kp.free .mgmt := by assumption) (p_net : kp.free .net := by assumption) (p_control : kp.free .control := by assumption)
    (p_seals : kp.free .seals := by assumption) (p_ctxs : kp.free .ctxs := by assumption) (p_rnds : kp.free .rnds := by assumption)
    (p_adm : kp.free .adm := by assumption) (p_stills : kp.free .stills := by assumption) (p_pools : kp.free .pools := by assumption)
    : OutGood kp (execMaskSessionIdle r s) := by
  unfold execMaskSessionIdle
  try dsimp only
  with_reducible repeat' (first | assumption | apply State.onSess_good | apply State.abortSess_good | apply outGood_next
                                | apply outGood_fault | apply Good.ite | apply OutGood.ite | split
                                | (fail_if_no_progress refine Good.upd ?_ rfl rfl rfl rfl) | (intro x))

theorem execOffloadAbort_good (f : RxFrame) {s : State} (hG : Good kp s) (p_regs : kp.free .regs := by assumption)
    (p_mgmt : kp.free .mgmt := by assumption) (p_net : kp.free .net := by assumption) (p_control : kp.free .control := by assumption)
    (p_seals : kp.free .seals := by assumption) (p_ctxs : kp.free .ctxs := by assumption) (p_rnds : kp.free .rnds := by assumption)
    (p_adm : kp.free .adm := by assumption) (p_stills : kp.free .stills := by assumption) (p_memory : kp.free .memory := by assumption)
    (p_pools : kp.free .pools := by assumption) : OutGood kp (execOffloadAbort f s) := by
  unfold execOffloadAbort
  try dsimp only
  with_reducible repeat' (first | assumption | apply State.ktAbort_good | apply outGood_next)

theorem execOffloadClose_good (f : RxFrame) {s : State} (hG : Good kp s) (p_regs : kp.free .regs := by assumption)
    (p_mgmt : kp.free .mgmt := by assumption) (p_net : kp.free .net := by assumption) (p_control : kp.free .control := by assumption)
    (p_seals : kp.free .seals := by assumption) (p_ctxs : kp.free .ctxs := by assumption) (p_rnds : kp.free .rnds := by assumption)
    (p_adm : kp.free .adm := by assumption) (p_stills : kp.free .stills := by assumption) (p_memory : kp.free .memory := by assumption)
    (p_pools : kp.free .pools := by assumption) : OutGood kp (execOffloadClose f s) := by
  unfold execOffloadClose
  try dsimp only
  with_reducible repeat' (first | assumption | apply State.ktClose_good | apply outGood_next)

theorem execOffloadData_good (f : RxFrame) {s : State} (hG : Good kp s) (p_regs : kp.free .regs := by assumption)
    (p_mgmt : kp.free .mgmt := by assumption) (p_net : kp.free .net := by assumption) (p_control : kp.free .control := by assumption)
    (p_seals : kp.free .seals := by assumption) (p_ctxs : kp.free .ctxs := by assumption) (p_rnds : kp.free .rnds := by assumption)
    (p_adm : kp.free .adm := by assumption) (p_stills : kp.free .stills := by assumption) (p_memory : kp.free .memory := by assumption)
    (p_pools : kp.free .pools := by assumption) : OutGood kp (execOffloadData f s) := by
  unfold execOffloadData
  try dsimp only
  with_reducible repeat' (first | assumption | apply State.ktData_good | apply outGood_next)

theorem execOffloadOpen_good (f : RxFrame) {s : State} (hG : Good kp s) (p_regs : kp.free .regs := by assumption)
    (p_mgmt : kp.free .mgmt := by assumption) (p_net : kp.free .net := by assumption) (p_control : kp.free .control := by assumption)
    (p_seals : kp.free .seals := by assumption) (p_ctxs : kp.free .ctxs := by assumption) (p_rnds : kp.free .rnds := by assumption)
    (p_adm : kp.free .adm := by assumption) (p_stills : kp.free .stills := by assumption) (p_memory : kp.free .memory := by assumption)
    (p_pools : kp.free .pools := by assumption) : OutGood kp (execOffloadOpen f s) := by
  unfold execOffloadOpen
  try dsimp only
  with_reducible repeat' (first | assumption | apply State.ktOpen_good | apply outGood_next)

theorem execPausedSessionAbort_good (r : SessRef) {s : State} (hG : Good kp s) (p_regs : kp.free .regs := by assumption)
    (p_mgmt : kp.free .mgmt := by assumption) (p_net : kp.free .net := by assumption) (p_control : kp.free .control := by assumption)
    (p_seals : kp.free .seals := by assumption) (p_ctxs : kp.free .ctxs := by assumption) (p_rnds : kp.free .rnds := by assumption)
    (p_adm : kp.free .adm := by assumption) (p_stills : kp.free .stills := by assumption) (p_pools : kp.free .pools := by assumption)
    : OutGood kp (execPausedSessionAbort r s) := by
  unfold execPausedSessionAbort
  try dsimp only
  with_reducible repeat' (first | assumption | apply State.onSess_good | apply State.abortSess_good | apply outGood_next
                                | apply outGood_fault | apply Good.ite | apply OutGood.ite | split
                                | (fail_if_no_progress refine Good.upd ?_ rfl rfl rfl rfl) | (intro x))

theorem execReorderExpiry_good (n : Fin 1024) {s : State} (hG : Good kp s) (p_regs : kp.free .regs := by assumption)
    (p_net : kp.free .net := by assumption) (p_control : kp.free .control := by assumption) (p_seals : kp.free .seals := by assumption)
    (p_ctxs : kp.free .ctxs := by assumption) : OutGood kp (execReorderExpiry n s) := by
  unfold execReorderExpiry
  try dsimp only
  with_reducible repeat' (first | assumption | apply State.closeUnits_good | apply State.loseDue_good | apply outGood_next
                                | apply outGood_fault | apply Good.ite)

theorem execWindowRisesFromZero_good (r : SessRef) {s : State} (hG : Good kp s) (p_net : kp.free .net := by assumption) : OutGood kp
    (execWindowRisesFromZero r s) := by
  unfold execWindowRisesFromZero
  try dsimp only
  with_reducible repeat' (first | assumption | apply State.onSess_good | apply State.ackNow_good | apply outGood_next
                                | apply outGood_fault | apply Good.ite | apply OutGood.ite | split
                                | (fail_if_no_progress refine Good.upd ?_ rfl rfl rfl rfl) | (intro x))

theorem execZeroWindowRepeat_good (r : SessRef) {s : State} (hG : Good kp s) (p_net : kp.free .net := by assumption) : OutGood kp
    (execZeroWindowRepeat r s) := by
  unfold execZeroWindowRepeat
  try dsimp only
  with_reducible repeat' (first | assumption | apply State.onSess_good | apply State.ackNow_good | apply outGood_next
                                | apply outGood_fault | apply Good.ite | apply OutGood.ite | split
                                | (fail_if_no_progress refine Good.upd ?_ rfl rfl rfl rfl) | (intro x))

end Sys2Proof.Machine
end

