-- ==== Sys2Proof/Laws/KeepCoding.lean ====
section
/-!
SUPPORT. What the operations of the memory ports, the context cache, decoding, composition and encoding keep: the queue, the canonical form of the tables, and every part of the
state but those that a lemma asks to be free.
-/
set_option Elab.async false

namespace Sys2Proof.Machine

variable {kp : Kept}

theorem State.absentPic_good {s : State} (n : Nat) (a : Au) (r : Nat) (hG : Good kp s) (p_regs : kp.free .regs := by assumption)
    (p_mgmt : kp.free .mgmt := by assumption) (p_net : kp.free .net := by assumption) (p_seals : kp.free .seals := by assumption)
    (p_ctxs : kp.free .ctxs := by assumption) (p_rnds : kp.free .rnds := by assumption) (p_stills : kp.free .stills := by assumption)
    (p_pools : kp.free .pools := by assumption) : Good kp (State.absentPic s n a r) := by
  unfold State.absentPic
  try dsimp only
  with_reducible repeat' (first | assumption | apply State.bump_good | apply State.settleSlots_good | apply State.finalLeaf_good
                                | apply Good.ite)

theorem State.acceptComposed_good {s : State} (n : Nat) (hG : Good kp s) (p_regs : kp.free .regs := by assumption)
    (p_mgmt : kp.free .mgmt := by assumption) (p_ctxs : kp.free .ctxs := by assumption) (p_rnds : kp.free .rnds := by assumption)
    (p_stills : kp.free .stills := by assumption) (p_pools : kp.free .pools := by assumption) : Good kp (State.acceptComposed s n) := by
  unfold State.acceptComposed
  try dsimp only
  with_reducible repeat' (first | assumption | apply State.bump_good | apply State.setRnd_good | apply State.setReg_good
                                | apply State.giveStills_good | apply State.sweepBufs_good | refine Good.foldl ?_ (fun t a ht => ?_)
                                | refine Good.foldl2 ?_ (fun t a ht => ?_) | refine Good.foldl1 ?_ (fun t a ht => ?_)
                                | refine Good.foldr ?_ (fun a t ht => ?_) | apply Good.ite | split)

theorem State.dropComposed_good {s : State} (handle : Nat) (hG : Good kp s) (p_regs : kp.free .regs := by assumption)
    (p_pools : kp.free .pools := by assumption) : Good kp (State.dropComposed s handle) := by
  unfold State.dropComposed
  try dsimp only
  with_reducible repeat' (first | assumption | apply State.freeOwn_good | apply Good.ite)

theorem State.endIfDrained_good {s : State} (n : Nat) (hG : Good kp s) (p_regs : kp.free .regs := by assumption)
    (p_net : kp.free .net := by assumption) (p_seals : kp.free .seals := by assumption) (p_rnds : kp.free .rnds := by assumption)
    : Good kp (State.endIfDrained s n) := by
  unfold State.endIfDrained
  try dsimp only
  with_reducible repeat' (first | assumption | apply State.closeReam_good | apply State.setRnd_good | apply Good.ite | split)

theorem State.rateStatus_good {s : State} (n : Nat) (e : EncResult) (hG : Good kp s) (p_regs : kp.free .regs := by assumption)
    (p_rnds : kp.free .rnds := by assumption) : Good kp (State.rateStatus s n e) := by
  unfold State.rateStatus
  try dsimp only
  with_reducible repeat' (first | assumption | apply State.setRnd_good | apply State.setReg_good | apply State.bumpN_good
                                | apply State.bump_good | apply State.bumpIf_good | apply Good.ite | split)

theorem State.stillsShow_good {s : State} (n : Nat) (handle : Nat) (leaf : Leaf) (hG : Good kp s)
    (p_stills : kp.free .stills := by assumption) : Good kp (State.stillsShow s n handle leaf) := by
  unfold State.stillsShow
  try dsimp only
  with_reducible repeat' (first | assumption | apply Good.ite | split | (fail_if_no_progress refine Good.upd ?_ rfl rfl rfl rfl))

theorem State.acceptEncode_good {s : State} (n : Nat) (hG : Good kp s) (p_regs : kp.free .regs := by assumption)
    (p_net : kp.free .net := by assumption) (p_seals : kp.free .seals := by assumption) (p_rnds : kp.free .rnds := by assumption)
    (p_stills : kp.free .stills := by assumption) (p_pools : kp.free .pools := by assumption) : Good kp (State.acceptEncode s n) := by
  unfold State.acceptEncode
  try dsimp only
  with_reducible repeat' (first | assumption | apply State.setRnd_good | apply State.freeOwn_good | apply State.setRegF_good
                                | apply State.rateStatus_good | apply State.awaitLeaf_good | apply State.dropComposed_good
                                | apply State.stillsShow_good | apply State.chainReady_good | apply State.endIfDrained_good
                                | refine Good.foldl ?_ (fun t a ht => ?_) | refine Good.foldl2 ?_ (fun t a ht => ?_)
                                | refine Good.foldl1 ?_ (fun t a ht => ?_) | refine Good.foldr ?_ (fun a t ht => ?_) | apply Good.ite
                                | split)

theorem State.setMemPort_good {s : State} (p : Nat) (x : MemPort) (hG : Good kp s) (p_memory : kp.free .memory := by assumption) : Good kp
    (State.setMemPort s p x) := by
  unfold State.setMemPort
  try dsimp only
  with_reducible repeat' (first | assumption | apply Good.ite | split | (fail_if_no_progress refine Good.upd ?_ rfl rfl rfl rfl))

theorem State.showWq_good {s : State} (p : Nat) (hG : Good kp s) (p_regs : kp.free .regs := by assumption) : Good kp
    (State.showWq s p) := by
  unfold State.showWq
  try dsimp only
  with_reducible repeat' (first | assumption | apply State.setRegF_good)

theorem State.issueTo_good {s : State} (p : Nat) (n : Nat) (hG : Good kp s) (p_regs : kp.free .regs := by assumption)
    (p_memory : kp.free .memory := by assumption) : Good kp (State.issueTo s p n) := by
  unfold State.issueTo
  try dsimp only
  with_reducible repeat' (first | assumption | apply State.showWq_good | apply State.bumpN_good | apply State.setMemPort_good
                                | apply Good.ite)

theorem State.drain_good {s : State} (p : Nat) (hG : Good kp s) (p_regs : kp.free .regs := by assumption)
    (p_memory : kp.free .memory := by assumption) : Good kp (State.drain s p) := by
  unfold State.drain
  try dsimp only
  with_reducible repeat' (first | assumption | apply State.issueTo_good | apply State.setRegBit_good | apply State.bump_good)

theorem State.acceptLine_good {s : State} (p : Nat) (agent : Nat) (line : Nat) (mask : BitVec 128) (d : Bytes) (mark : Bool) (hG
    : Good kp s) (p_regs : kp.free .regs := by assumption) (p_cells : kp.free .cells := by assumption)
    (p_memory : kp.free .memory := by assumption) : Good kp (State.acceptLine s p agent line mask d mark) := by
  have key : ∀ t : State, Good kp t → Good kp { t with mem := { t.mem with cells := putBytes t.mem.cells (line * 128) d } } := fun t ht =>
    ht.change rfl (fun hc => ⟨hc.1, Memory.wf_putBytes _ _ _ hc.2.1, hc.2.2⟩)
      (fun p => by cases p <;> first | exact Or.inl (by assumption) | exact Or.inr rfl | exact Or.inr ⟨rfl, rfl⟩ | exact Or.inr ⟨rfl, rfl, rfl⟩)
  unfold State.acceptLine
  dsimp only
  apply Good.ite
  · exact State.drain_good p (State.markLine_good line mark (key _ (State.showWq_good p (State.setMemPort_good p _ hG))))
  · exact State.markLine_good line mark (key _ (State.showWq_good p (State.setMemPort_good p _ hG)))

theorem State.storeRoom_good {s : State} (n : Nat) (i : SeqInfo) (ref : Bool) (out : Bool) (poc : Int) (hG : Good kp s)
    (p_regs : kp.free .regs := by assumption) (p_mgmt : kp.free .mgmt := by assumption) (p_ctxs : kp.free .ctxs := by assumption)
    (p_rnds : kp.free .rnds := by assumption) (p_stills : kp.free .stills := by assumption) (p_pools : kp.free .pools := by assumption)
    : Good kp (State.storeRoom s n i ref out poc) := by
  unfold State.storeRoom
  try dsimp only
  with_reducible repeat' (first | assumption | apply State.bumpWhile_good)

theorem State.acceptPicture_good {s : State} (n : Nat) (hG : Good kp s) (p_regs : kp.free .regs := by assumption)
    (p_mgmt : kp.free .mgmt := by assumption) (p_net : kp.free .net := by assumption) (p_seals : kp.free .seals := by assumption)
    (p_ctxs : kp.free .ctxs := by assumption) (p_rnds : kp.free .rnds := by assumption) (p_stills : kp.free .stills := by assumption)
    (p_pools : kp.free .pools := by assumption) : Good kp (State.acceptPicture s n) := by
  unfold State.acceptPicture
  try dsimp only
  with_reducible repeat' (first | assumption | apply State.setCtx_good | apply State.outputAll_good | apply State.storeRoom_good
                                | apply State.setRegF_good | apply State.bumpWhile_good | apply State.outputPic_good
                                | apply State.bumpIf_good | apply State.finalLeaf_good | apply State.sweepBufs_good | apply Good.ite
                                | split)

theorem State.issueLine_good {s : State} (p : Nat) (line : Nat) (hG : Good kp s) (p_regs : kp.free .regs := by assumption)
    (p_memory : kp.free .memory := by assumption) : Good kp (State.issueLine s p line) := by
  unfold State.issueLine
  try dsimp only
  with_reducible repeat' (first | assumption | apply State.showWq_good | apply State.bump_good | apply State.setMemPort_good
                                | apply Good.ite)

theorem State.memLog_good {s : State} (p : Nat) (a : Nat) (agent : Nat) (e : MemErr) (hG : Good kp s)
    (p_regs : kp.free .regs := by assumption) (p_mgmt : kp.free .mgmt := by assumption) (p_net : kp.free .net := by assumption)
    (p_control : kp.free .control := by assumption) (p_seals : kp.free .seals := by assumption)
    (p_power : kp.free .power := by assumption) (p_faults : kp.free .faults := by assumption) (p_units : kp.free .units := by assumption)
    (p_ctxs : kp.free .ctxs := by assumption) (p_rnds : kp.free .rnds := by assumption) (p_adm : kp.free .adm := by assumption)
    (p_stills : kp.free .stills := by assumption) (p_memory : kp.free .memory := by assumption)
    (p_pools : kp.free .pools := by assumption) : Good kp (State.memLog s p a agent e) := by
  unfold State.memLog
  try dsimp only
  with_reducible repeat' (first | assumption | apply State.setRegF_good | apply State.setRegs_good | apply State.setRegBit_good
                                | apply State.bumpIf_good | apply State.raiseEv_good | apply State.setMemPort_good
                                | apply State.raiseFault_good | apply Good.ite)

theorem State.writeBack_good {s : State} (p : Nat) (line : Nat) (d : Bytes) (hG : Good kp s) (p_regs : kp.free .regs := by assumption)
    (p_cells : kp.free .cells := by assumption) : Good kp (State.writeBack s p line d) := by
  refine State.bump_good _ ?_
  exact hG.change rfl (fun hc => ⟨hc.1, Memory.wf_putBytes _ _ _ hc.2.1, hc.2.2⟩)
    (fun p => by cases p <;> first | exact Or.inl (by assumption) | exact Or.inr rfl | exact Or.inr ⟨rfl, rfl⟩ | exact Or.inr ⟨rfl, rfl, rfl⟩)

theorem State.readLine_good {s : State} (p : Nat) (a : Nat) (agent : Nat) (kind : Nat) (self : Bool) (keep : Bool) (errs : List SymErr)
    (hG : Good kp s) (p_regs : kp.free .regs := by assumption) (p_mgmt : kp.free .mgmt := by assumption)
    (p_net : kp.free .net := by assumption) (p_control : kp.free .control := by assumption) (p_seals : kp.free .seals := by assumption)
    (p_power : kp.free .power := by assumption) (p_faults : kp.free .faults := by assumption) (p_units : kp.free .units := by assumption)
    (p_ctxs : kp.free .ctxs := by assumption) (p_rnds : kp.free .rnds := by assumption) (p_adm : kp.free .adm := by assumption)
    (p_stills : kp.free .stills := by assumption) (p_cells : kp.free .cells := by assumption)
    (p_memory : kp.free .memory := by assumption) (p_pools : kp.free .pools := by assumption) : Good kp
    (State.readLine s p a agent kind self keep errs).2 := by
  unfold State.readLine
  try dsimp only
  with_reducible repeat' (first | assumption | apply State.bump_good | apply State.memLog_good | apply State.bumpN_good
                                | apply State.writeBack_good | apply State.raiseFault_good | apply Good.ite | split)

theorem State.memRead_good {s : State} (agent : Nat) (a : Nat) (n : Nat) (errs : List SymErr) (hG : Good kp s)
    (p_regs : kp.free .regs := by assumption) (p_mgmt : kp.free .mgmt := by assumption) (p_net : kp.free .net := by assumption)
    (p_control : kp.free .control := by assumption) (p_seals : kp.free .seals := by assumption)
    (p_power : kp.free .power := by assumption) (p_faults : kp.free .faults := by assumption) (p_units : kp.free .units := by assumption)
    (p_ctxs : kp.free .ctxs := by assumption) (p_rnds : kp.free .rnds := by assumption) (p_adm : kp.free .adm := by assumption)
    (p_stills : kp.free .stills := by assumption) (p_cells : kp.free .cells := by assumption)
    (p_memory : kp.free .memory := by assumption) (p_pools : kp.free .pools := by assumption) : Good kp
    (State.memRead s agent a n errs).2 := by
  unfold State.memRead
  try dsimp only
  with_reducible repeat' (first | assumption | apply State.memLog_good | apply State.fillChunk_good | apply State.readLine_good
                                | apply State.issueLine_good | apply Good.ite | split)

theorem State.memWrite_good {s : State} (agent : Nat) (a : Nat) (mask : BitVec 128) (data : Bytes) (poison : Bool) (errs : List SymErr)
    (hG : Good kp s) (p_regs : kp.free .regs := by assumption) (p_mgmt : kp.free .mgmt := by assumption)
    (p_net : kp.free .net := by assumption) (p_control : kp.free .control := by assumption) (p_seals : kp.free .seals := by assumption)
    (p_power : kp.free .power := by assumption) (p_faults : kp.free .faults := by assumption) (p_units : kp.free .units := by assumption)
    (p_ctxs : kp.free .ctxs := by assumption) (p_rnds : kp.free .rnds := by assumption) (p_adm : kp.free .adm := by assumption)
    (p_stills : kp.free .stills := by assumption) (p_cells : kp.free .cells := by assumption)
    (p_memory : kp.free .memory := by assumption) (p_pools : kp.free .pools := by assumption) : Good kp
    (State.memWrite s agent a mask data poison errs).2 := by
  unfold State.memWrite
  try dsimp only
  with_reducible repeat' (first | assumption | apply State.memLog_good | apply State.fillChunk_good | apply State.acceptLine_good
                                | apply State.bump_good | apply State.readLine_good | apply Good.ite | split)

theorem State.respond_good {s : State} (agent : Nat) (addr : Nat) (data : Option Bytes) (hG : Good kp s)
    (p_memory : kp.free .memory := by assumption) : Good kp (State.respond s agent addr data) := by
  unfold State.respond
  try dsimp only
  with_reducible repeat' (first | assumption | apply Good.ite | split | (fail_if_no_progress refine Good.upd ?_ rfl rfl rfl rfl))

theorem State.serveReq_good {s : State} (x1 : MemReq) (hG : Good kp s) (p_regs : kp.free .regs := by assumption)
    (p_mgmt : kp.free .mgmt := by assumption) (p_net : kp.free .net := by assumption) (p_control : kp.free .control := by assumption)
    (p_seals : kp.free .seals := by assumption) (p_power : kp.free .power := by assumption) (p_faults : kp.free .faults := by assumption)
    (p_units : kp.free .units := by assumption) (p_ctxs : kp.free .ctxs := by assumption) (p_rnds : kp.free .rnds := by assumption)
    (p_adm : kp.free .adm := by assumption) (p_stills : kp.free .stills := by assumption) (p_cells : kp.free .cells := by assumption)
    (p_memory : kp.free .memory := by assumption) (p_pools : kp.free .pools := by assumption) : Good kp (State.serveReq s x1) := by
  unfold State.serveReq
  try dsimp only
  with_reducible repeat' (first | assumption | apply State.memRead_good | apply State.respond_good | apply State.memWrite_good
                                | apply Good.ite | split)

theorem State.acceptReqs_good (x1 : Nat) (x2 : List MemReq) {x3 : State} (hGx3 : Good kp x3) (p_regs : kp.free .regs := by assumption)
    (p_mgmt : kp.free .mgmt := by assumption) (p_net : kp.free .net := by assumption) (p_control : kp.free .control := by assumption)
    (p_seals : kp.free .seals := by assumption) (p_power : kp.free .power := by assumption) (p_faults : kp.free .faults := by assumption)
    (p_units : kp.free .units := by assumption) (p_ctxs : kp.free .ctxs := by assumption) (p_rnds : kp.free .rnds := by assumption)
    (p_adm : kp.free .adm := by assumption) (p_stills : kp.free .stills := by assumption) (p_cells : kp.free .cells := by assumption)
    (p_memory : kp.free .memory := by assumption) (p_pools : kp.free .pools := by assumption) : Good kp
    (State.acceptReqs x1 x2 x3).1 := by
  induction x2 generalizing x1 x3 with
  | nil => cases x1 <;> exact hGx3
  | cons q t ih =>
    cases q with
    | read g a n e => cases x1 with
      | zero => exact ih 0 hGx3
      | succ k => exact ih k (State.serveReq_good _ hGx3)
    | write g a n b m e => cases x1 with
      | zero => exact ih 0 (State.serveReq_good _ hGx3)
      | succ k => exact ih (k + 1) (State.serveReq_good _ hGx3)

theorem State.allocAll_good (agent : Nat) (x1 : List Nat) {x2 : State} (hGx2 : Good kp x2) {r : List Nat × State} (e :
    (State.allocAll agent x1 x2) = some r) (p_regs : kp.free .regs := by assumption) (p_pools : kp.free .pools := by assumption)
    : Good kp r.2 := by
  induction x1 generalizing x2 r with
  | nil =>
    cases e
    exact hGx2
  | cons y ks ih =>
    unfold State.allocAll at e
    dsimp only at e
    split at e
    · cases e
    · cases h : State.allocAll agent ks (x2.alloc agent y).2 with
      | none => simp [h] at e
      | some y =>
        simp [h] at e
        cases e
        exact ih (r := y) (State.alloc_good _ _ hGx2) h

theorem State.allocWait_good {s0 : State} (n : Nat) (hGs0 : Good kp s0) (p_regs : kp.free .regs := by assumption)
    (p_ctxs : kp.free .ctxs := by assumption) (p_pools : kp.free .pools := by assumption) : Good kp (State.allocWait s0 n) := by
  unfold State.allocWait
  try dsimp only
  with_reducible repeat' (first | assumption | apply State.alloc_good | apply State.setCtx_good | apply State.bump_good | apply Good.ite
                                | split)

theorem State.drainDue_good {s : State} (p : Nat) (hG : Good kp s) (p_regs : kp.free .regs := by assumption)
    (p_memory : kp.free .memory := by assumption) : Good kp (State.drainDue s p) := by
  unfold State.drainDue
  try dsimp only
  with_reducible repeat' (first | assumption | apply State.drain_good | apply Good.ite)

theorem State.beforePic_good {s : State} (n : Nat) (a : Au) (st : Config.Start) (clears : Bool) (hG : Good kp s)
    (p_regs : kp.free .regs := by assumption) (p_mgmt : kp.free .mgmt := by assumption) (p_ctxs : kp.free .ctxs := by assumption)
    (p_rnds : kp.free .rnds := by assumption) (p_stills : kp.free .stills := by assumption) (p_pools : kp.free .pools := by assumption)
    : Good kp (State.beforePic s n a st clears) := by
  unfold State.beforePic
  try dsimp only
  with_reducible repeat' (first | assumption | apply State.setCtx_good | apply State.outputAll_good | apply State.sweepBufs_good
                                | apply State.bumpWhile_good | apply Good.ite)

theorem State.breakRndReam_good {s : State} (n : Nat) (reason : Nat) (hG : Good kp s) (p_regs : kp.free .regs := by assumption)
    (p_net : kp.free .net := by assumption) (p_seals : kp.free .seals := by assumption) (p_rnds : kp.free .rnds := by assumption)
    : Good kp (State.breakRndReam s n reason) := by
  unfold State.breakRndReam
  try dsimp only
  with_reducible repeat' (first | assumption | apply State.closeReam_good | apply State.setRnd_good)

theorem State.dropStill_good {s : State} (t : Still) (hG : Good kp s) (p_regs : kp.free .regs := by assumption)
    (p_ctxs : kp.free .ctxs := by assumption) (p_stills : kp.free .stills := by assumption) (p_pools : kp.free .pools := by assumption)
    : Good kp (State.dropStill s t) := by
  unfold State.dropStill
  try dsimp only
  with_reducible repeat' (first | assumption | apply State.sweepBufs_good | apply State.dropComposed_good | apply Good.ite | split
                                | (fail_if_no_progress refine Good.upd ?_ rfl rfl rfl rfl))

theorem State.cmpWait_good {s0 : State} (n : Nat) (hGs0 : Good kp s0) (p_regs : kp.free .regs := by assumption)
    (p_rnds : kp.free .rnds := by assumption) (p_pools : kp.free .pools := by assumption) : Good kp (State.cmpWait s0 n) := by
  unfold State.cmpWait
  try dsimp only
  with_reducible repeat' (first | assumption | apply State.alloc_good | apply State.setRnd_good | apply Good.ite | split)

theorem State.unitWrite_good {s : State} (agent : Nat) (a : Nat) (b : Bytes) (hG : Good kp s) (p_regs : kp.free .regs := by assumption)
    (p_mgmt : kp.free .mgmt := by assumption) (p_net : kp.free .net := by assumption) (p_control : kp.free .control := by assumption)
    (p_seals : kp.free .seals := by assumption) (p_power : kp.free .power := by assumption) (p_faults : kp.free .faults := by assumption)
    (p_units : kp.free .units := by assumption) (p_ctxs : kp.free .ctxs := by assumption) (p_rnds : kp.free .rnds := by assumption)
    (p_adm : kp.free .adm := by assumption) (p_stills : kp.free .stills := by assumption) (p_cells : kp.free .cells := by assumption)
    (p_memory : kp.free .memory := by assumption) (p_pools : kp.free .pools := by assumption) : Good kp
    (State.unitWrite s agent a b) := by
  unfold State.unitWrite
  try dsimp only
  with_reducible repeat' (first | assumption | apply State.putMem_good | apply State.bump_good | apply State.memLog_good
                                | apply State.touch_good | refine Good.foldl ?_ (fun t a ht => ?_)
                                | refine Good.foldl2 ?_ (fun t a ht => ?_) | refine Good.foldl1 ?_ (fun t a ht => ?_)
                                | refine Good.foldr ?_ (fun a t ht => ?_) | apply Good.ite)

theorem State.composeDone_good {s : State} (n : Nat) (agent : Nat) (c0 : Cand) (po : ComposePoison) (hG : Good kp s)
    (p_regs : kp.free .regs := by assumption) (p_mgmt : kp.free .mgmt := by assumption) (p_net : kp.free .net := by assumption)
    (p_control : kp.free .control := by assumption) (p_seals : kp.free .seals := by assumption)
    (p_power : kp.free .power := by assumption) (p_faults : kp.free .faults := by assumption) (p_units : kp.free .units := by assumption)
    (p_ctxs : kp.free .ctxs := by assumption) (p_rnds : kp.free .rnds := by assumption) (p_adm : kp.free .adm := by assumption)
    (p_stills : kp.free .stills := by assumption) (p_cells : kp.free .cells := by assumption)
    (p_memory : kp.free .memory := by assumption) (p_pools : kp.free .pools := by assumption) : Good kp
    (State.composeDone s n agent c0 po) := by
  unfold State.composeDone
  try dsimp only
  with_reducible repeat' (first | assumption | apply State.bumpIf_good | apply State.unitWrite_good | apply State.setRnd_good
                                | refine Good.foldl ?_ (fun t a ht => ?_))

theorem State.loseRecord_good {s : State} (n : Nat) (hG : Good kp s) (p_regs : kp.free .regs := by assumption)
    (p_mgmt : kp.free .mgmt := by assumption) (p_net : kp.free .net := by assumption) (p_control : kp.free .control := by assumption)
    (p_seals : kp.free .seals := by assumption) (p_power : kp.free .power := by assumption) (p_faults : kp.free .faults := by assumption)
    (p_units : kp.free .units := by assumption) (p_ctxs : kp.free .ctxs := by assumption) (p_rnds : kp.free .rnds := by assumption)
    (p_adm : kp.free .adm := by assumption) (p_stills : kp.free .stills := by assumption) (p_memory : kp.free .memory := by assumption)
    (p_pools : kp.free .pools := by assumption) : Good kp (State.loseRecord s n) := by
  unfold State.loseRecord
  try dsimp only
  with_reducible repeat' (first | assumption | apply State.raiseFault_good | apply State.breakRndReam_good | apply State.setRnd_good
                                | apply Good.ite | split)

theorem State.useMasks_good {s : State} (n : Nat) (seq : Nat) (hG : Good kp s) (p_regs : kp.free .regs := by assumption)
    (p_rnds : kp.free .rnds := by assumption) : Good kp (State.useMasks s n seq) := by
  unfold State.useMasks
  try dsimp only
  with_reducible repeat' (first | assumption | apply State.setRnd_good | apply State.bumpN_good | apply Good.ite)

theorem State.startCompose_good {s : State} (n : Nat) (unit : Nat) (c : Cand) (hG : Good kp s) {t : State} (e :
    (State.startCompose s n unit c) = some t) (p_regs : kp.free .regs := by assumption) (p_units : kp.free .units := by assumption)
    (p_rnds : kp.free .rnds := by assumption) (p_pools : kp.free .pools := by assumption) : Good kp t := by
  have h1 : Good kp (s.alloc (s.seqFor n) (poolFor 3 (flatSize (s.outW n) (s.outH n) (s.outDepth n)))).2 := State.alloc_good _ _ hG
  unfold State.startCompose at e
  dsimp only at e
  split at e
  · cases e
    exact State.startJob_good _ _ _ _ hG
  · split at e
    · cases e
    · split at e
      · cases e
        exact State.startJob_good _ _ _ _ (State.setRnd_good _ _ h1)
      · cases e
        exact State.startJob_good _ _ _ _ (State.useMasks_good _ _ (State.setRnd_good _ _ h1))

theorem State.setRecords_good {s : State} (l : List CacheRec) (hG : Good kp s) (p_memory : kp.free .memory := by assumption) : Good kp
    (State.setRecords s l) := by
  unfold State.setRecords
  try dsimp only
  with_reducible repeat' (first | assumption | apply Good.ite | split | (fail_if_no_progress refine Good.upd ?_ rfl rfl rfl rfl))

theorem State.evictRecord_good {s : State} (hG : Good kp s) (p_freeCtr : kp.free .freeCtr := by assumption)
    (p_regs : kp.free .regs := by assumption) (p_cells : kp.free .cells := by assumption) (p_memory : kp.free .memory := by assumption)
    : Good kp (State.evictRecord s) := by
  unfold State.evictRecord
  try dsimp only
  with_reducible repeat' (first | assumption | apply State.setRecords_good | apply State.putMem_good | apply Good.ite | split
                                | (fail_if_no_progress refine Good.upd ?_ rfl rfl rfl rfl))

theorem State.frontRecord_good {s : State} (slot : Nat) (hG : Good kp s) (p_memory : kp.free .memory := by assumption) : Good kp
    (State.frontRecord s slot) := by
  unfold State.frontRecord
  try dsimp only
  with_reducible repeat' (first | assumption | apply State.setRecords_good)

theorem State.poisonedRead_good {s : State} (agent : Nat) (a : Nat) (hG : Good kp s) (p_freeCtr : kp.free .freeCtr := by assumption)
    (p_regs : kp.free .regs := by assumption) (p_mgmt : kp.free .mgmt := by assumption) (p_net : kp.free .net := by assumption)
    (p_control : kp.free .control := by assumption) (p_seals : kp.free .seals := by assumption)
    (p_power : kp.free .power := by assumption) (p_faults : kp.free .faults := by assumption) (p_units : kp.free .units := by assumption)
    (p_ctxs : kp.free .ctxs := by assumption) (p_rnds : kp.free .rnds := by assumption) (p_adm : kp.free .adm := by assumption)
    (p_stills : kp.free .stills := by assumption) (p_memory : kp.free .memory := by assumption)
    (p_pools : kp.free .pools := by assumption) : Good kp (State.poisonedRead s agent a) := by
  unfold State.poisonedRead
  try dsimp only
  with_reducible repeat' (first | assumption | apply State.bump_good | apply State.memLog_good | apply State.fresh_good | apply Good.ite)

theorem State.recordRead_good {s : State} (agent : Nat) (x1 : Option Nat) (hG : Good kp s) (p_freeCtr : kp.free .freeCtr := by assumption)
    (p_regs : kp.free .regs := by assumption) (p_mgmt : kp.free .mgmt := by assumption) (p_net : kp.free .net := by assumption)
    (p_control : kp.free .control := by assumption) (p_seals : kp.free .seals := by assumption)
    (p_power : kp.free .power := by assumption) (p_faults : kp.free .faults := by assumption) (p_units : kp.free .units := by assumption)
    (p_ctxs : kp.free .ctxs := by assumption) (p_rnds : kp.free .rnds := by assumption) (p_adm : kp.free .adm := by assumption)
    (p_stills : kp.free .stills := by assumption) (p_memory : kp.free .memory := by assumption)
    (p_pools : kp.free .pools := by assumption) : Good kp (State.recordRead s agent x1).2 := by
  unfold State.recordRead
  try dsimp only
  with_reducible repeat' (first | assumption | apply State.poisonedRead_good | apply Good.ite | split)

theorem State.touchRecord_good {s : State} (agent : Nat) (slot : Nat) (hG : Good kp s) (p_freeCtr : kp.free .freeCtr := by assumption)
    (p_regs : kp.free .regs := by assumption) (p_mgmt : kp.free .mgmt := by assumption) (p_net : kp.free .net := by assumption)
    (p_control : kp.free .control := by assumption) (p_seals : kp.free .seals := by assumption)
    (p_power : kp.free .power := by assumption) (p_faults : kp.free .faults := by assumption) (p_units : kp.free .units := by assumption)
    (p_ctxs : kp.free .ctxs := by assumption) (p_rnds : kp.free .rnds := by assumption) (p_adm : kp.free .adm := by assumption)
    (p_stills : kp.free .stills := by assumption) (p_cells : kp.free .cells := by assumption)
    (p_memory : kp.free .memory := by assumption) (p_pools : kp.free .pools := by assumption) : Good kp
    (State.touchRecord s agent slot).2 := by
  unfold State.touchRecord
  try dsimp only
  with_reducible repeat' (first | assumption | apply State.frontRecord_good | apply State.bump32_good | apply State.evictRecord_good
                                | apply State.recordRead_good | apply Good.ite | split)

theorem State.composeFirst_good (x1 : Bool) (x2 : List (Nat × Cand)) {x3 : State} (hGx3 : Good kp x3)
    (p_freeCtr : kp.free .freeCtr := by assumption) (p_regs : kp.free .regs := by assumption) (p_mgmt : kp.free .mgmt := by assumption)
    (p_net : kp.free .net := by assumption) (p_control : kp.free .control := by assumption) (p_seals : kp.free .seals := by assumption)
    (p_power : kp.free .power := by assumption) (p_faults : kp.free .faults := by assumption) (p_units : kp.free .units := by assumption)
    (p_ctxs : kp.free .ctxs := by assumption) (p_rnds : kp.free .rnds := by assumption) (p_adm : kp.free .adm := by assumption)
    (p_stills : kp.free .stills := by assumption) (p_cells : kp.free .cells := by assumption)
    (p_memory : kp.free .memory := by assumption) (p_pools : kp.free .pools := by assumption) : Good kp
    (State.composeFirst x1 x2 x3) := by
  induction x2 generalizing x1 x3 with
  | nil => cases x1 <;> exact hGx3
  | cons y ks ih =>
    unfold State.composeFirst
    split
    · exact hGx3
    · have h1 := fun (g k : Nat) => State.touchRecord_good g k hGx3
      dsimp only
      split
      · exact State.loseRecord_good _ (h1 _ _)
      · split
        · exact State.startCompose_good _ _ _ (h1 _ _) (by assumption)
        · exact ih _ (State.cmpWait_good _ (h1 _ _))

theorem State.slideFor_good {s : State} (n : Nat) (a : Au) (st : Config.Start) (m : Config.Missing) (hG : Good kp s)
    (p_regs : kp.free .regs := by assumption) (p_mgmt : kp.free .mgmt := by assumption) (p_ctxs : kp.free .ctxs := by assumption)
    (p_rnds : kp.free .rnds := by assumption) (p_stills : kp.free .stills := by assumption) (p_pools : kp.free .pools := by assumption)
    : Good kp (State.slideFor s n a st m) := by
  unfold State.slideFor
  try dsimp only
  with_reducible repeat' (first | assumption | apply State.setCtx_good | apply State.sweepBufs_good | apply State.bumpWhile_good
                                | refine Good.foldl ?_ (fun t a ht => ?_) | refine Good.foldl2 ?_ (fun t a ht => ?_)
                                | refine Good.foldl1 ?_ (fun t a ht => ?_) | refine Good.foldr ?_ (fun a t ht => ?_) | apply Good.ite
                                | split)

theorem State.writeFrame_good {s : State} (agent : Nat) (handle : Nat) (p : Pic) (num : Nat) (leafSeq : Nat) (poc : Int) (raw : Nat)
    (motion : List Bytes) (hG : Good kp s) (p_regs : kp.free .regs := by assumption) (p_mgmt : kp.free .mgmt := by assumption)
    (p_net : kp.free .net := by assumption) (p_control : kp.free .control := by assumption) (p_seals : kp.free .seals := by assumption)
    (p_power : kp.free .power := by assumption) (p_faults : kp.free .faults := by assumption) (p_units : kp.free .units := by assumption)
    (p_ctxs : kp.free .ctxs := by assumption) (p_rnds : kp.free .rnds := by assumption) (p_adm : kp.free .adm := by assumption)
    (p_stills : kp.free .stills := by assumption) (p_cells : kp.free .cells := by assumption)
    (p_memory : kp.free .memory := by assumption) (p_pools : kp.free .pools := by assumption) : Good kp
    (State.writeFrame s agent handle p num leafSeq poc raw motion) := by
  unfold State.writeFrame
  try dsimp only
  with_reducible repeat' (first | assumption | apply State.unitWrite_good | refine Good.foldl ?_ (fun t a ht => ?_))

theorem State.standIn_good (n : Nat) (a : Au) (st : Config.Start) {s : State} (m : Config.Missing) (handle : Nat) (hG : Good kp s)
    (p_regs : kp.free .regs := by assumption) (p_mgmt : kp.free .mgmt := by assumption) (p_net : kp.free .net := by assumption)
    (p_control : kp.free .control := by assumption) (p_seals : kp.free .seals := by assumption)
    (p_power : kp.free .power := by assumption) (p_faults : kp.free .faults := by assumption) (p_units : kp.free .units := by assumption)
    (p_ctxs : kp.free .ctxs := by assumption) (p_rnds : kp.free .rnds := by assumption) (p_adm : kp.free .adm := by assumption)
    (p_stills : kp.free .stills := by assumption) (p_cells : kp.free .cells := by assumption)
    (p_memory : kp.free .memory := by assumption) (p_pools : kp.free .pools := by assumption) : Good kp
    (State.standIn n a st s m handle) := by
  unfold State.standIn
  try dsimp only
  with_reducible repeat' (first | assumption | apply State.writeFrame_good | apply State.setCtx_good)

theorem State.makeStandIns_good (n : Nat) (a : Au) (st : Config.Start) (x1 : List Config.Missing) {x2 : State} (hGx2
    : Good kp x2) {t : State} (e : (State.makeStandIns n a st x1 x2) = some t) (p_regs : kp.free .regs := by assumption)
    (p_mgmt : kp.free .mgmt := by assumption) (p_net : kp.free .net := by assumption) (p_control : kp.free .control := by assumption)
    (p_seals : kp.free .seals := by assumption) (p_power : kp.free .power := by assumption) (p_faults : kp.free .faults := by assumption)
    (p_units : kp.free .units := by assumption) (p_ctxs : kp.free .ctxs := by assumption) (p_rnds : kp.free .rnds := by assumption)
    (p_adm : kp.free .adm := by assumption) (p_stills : kp.free .stills := by assumption) (p_cells : kp.free .cells := by assumption)
    (p_memory : kp.free .memory := by assumption) (p_pools : kp.free .pools := by assumption) : Good kp t := by
  induction x1 generalizing x2 with
  | nil =>
    cases e
    exact hGx2
  | cons m ms ih =>
    have h1 : Good kp (x2.slideFor n a st m) := State.slideFor_good _ _ _ _ hGx2
    unfold State.makeStandIns at e
    dsimp only at e
    generalize x2.slideFor n a st m = s1 at h1 e
    have h2 : Good kp (s1.alloc (s1.seqFor n) (poolFor 5 (fbSize (s1.maxW n) (s1.maxH n)))).2 := State.alloc_good _ _ h1
    revert e
    split
    · intro e
      cases e
    · split
      · intro e
        cases e
      · exact fun e => ih (State.standIn_good _ _ _ _ _ h2) e

theorem State.prepare_good {s : State} (n : Nat) (a : Au) (hG : Good kp s) {r : Au × State} (e : (State.prepare s n a) = some r)
    (p_regs : kp.free .regs := by assumption) (p_mgmt : kp.free .mgmt := by assumption) (p_net : kp.free .net := by assumption)
    (p_control : kp.free .control := by assumption) (p_seals : kp.free .seals := by assumption)
    (p_power : kp.free .power := by assumption) (p_faults : kp.free .faults := by assumption) (p_units : kp.free .units := by assumption)
    (p_ctxs : kp.free .ctxs := by assumption) (p_rnds : kp.free .rnds := by assumption) (p_adm : kp.free .adm := by assumption)
    (p_stills : kp.free .stills := by assumption) (p_cells : kp.free .cells := by assumption)
    (p_memory : kp.free .memory := by assumption) (p_pools : kp.free .pools := by assumption) : Good kp r.2 := by
  have h1 : Good kp (s.beforePic n a (s.startOf n a) (s.clearsAt n a ((s.ctx n).freshAt a))) := State.beforePic_good _ _ _ _ hG
  unfold State.prepare at e
  revert e
  split
  · intro e
    cases e
    exact hG
  · intro e
    obtain ⟨t, ht, rfl⟩ := Option.map_eq_some_iff.mp e
    have h2 : Good kp t := State.makeStandIns_good _ _ _ _ h1 ht
    exact Good.ite (State.setCtx_good _ _ h2) h2

theorem State.dispatchCtx_good {s : State} (n : Nat) (core : Nat) (hG : Good kp s) {t : State} (e : (State.dispatchCtx s n core) = some t)
    (p_regs : kp.free .regs := by assumption) (p_mgmt : kp.free .mgmt := by assumption) (p_net : kp.free .net := by assumption)
    (p_control : kp.free .control := by assumption) (p_seals : kp.free .seals := by assumption)
    (p_power : kp.free .power := by assumption) (p_faults : kp.free .faults := by assumption) (p_units : kp.free .units := by assumption)
    (p_ctxs : kp.free .ctxs := by assumption) (p_rnds : kp.free .rnds := by assumption) (p_adm : kp.free .adm := by assumption)
    (p_stills : kp.free .stills := by assumption) (p_cells : kp.free .cells := by assumption)
    (p_memory : kp.free .memory := by assumption) (p_pools : kp.free .pools := by assumption) : Good kp t := by
  unfold State.dispatchCtx at e
  dsimp only at e
  split at e
  · cases e
  · split at e
    · cases e
    · rename_i a1 s0 heq
      have h0 : Good kp s0 := State.prepare_good (r := (a1, s0)) _ _ hG heq
      split at e
      · cases e
      · split at e
        · cases e
        · rename_i hs s1 heq1
          have h1 : Good kp s1 := State.allocAll_good (r := (hs, s1)) _ _ h0 heq1
          cases e
          refine State.setRegF_good _ _ _ _ (State.startJob_good _ _ _ _ ?_)
          exact Good.ite (State.bump_good _ (State.bump_good _ (State.setCtx_good _ _ h1))) (State.setCtx_good _ _ h1)

theorem State.dropMarks_good {s : State} (n : Nat) (hG : Good kp s) (p_regs : kp.free .regs := by assumption)
    (p_ctxs : kp.free .ctxs := by assumption) (p_pools : kp.free .pools := by assumption) : Good kp (State.dropMarks s n) := by
  unfold State.dropMarks
  try dsimp only
  with_reducible repeat' (first | assumption | apply State.sweepBufs_good | apply State.setCtx_good)

theorem State.recordPoison_good {s : State} (n : Nat) (core : Nat) (hG : Good kp s) (p_regs : kp.free .regs := by assumption)
    (p_mgmt : kp.free .mgmt := by assumption) (p_net : kp.free .net := by assumption) (p_control : kp.free .control := by assumption)
    (p_seals : kp.free .seals := by assumption) (p_power : kp.free .power := by assumption) (p_faults : kp.free .faults := by assumption)
    (p_units : kp.free .units := by assumption) (p_ctxs : kp.free .ctxs := by assumption) (p_rnds : kp.free .rnds := by assumption)
    (p_adm : kp.free .adm := by assumption) (p_stills : kp.free .stills := by assumption) (p_memory : kp.free .memory := by assumption)
    (p_pools : kp.free .pools := by assumption) : Good kp (State.recordPoison s n core) := by
  unfold State.recordPoison
  try dsimp only
  with_reducible repeat' (first | assumption | apply State.raiseFault_good | apply State.bump_good | apply State.dropMarks_good
                                | apply State.absentPic_good | apply State.setCtx_good | apply Good.ite | split)

theorem State.skipFuel_good (n : Nat) (x1 : Nat) {x2 : State} (hGx2 : Good kp x2) (p_regs : kp.free .regs := by assumption)
    (p_mgmt : kp.free .mgmt := by assumption) (p_net : kp.free .net := by assumption) (p_seals : kp.free .seals := by assumption)
    (p_ctxs : kp.free .ctxs := by assumption) (p_rnds : kp.free .rnds := by assumption) (p_stills : kp.free .stills := by assumption)
    (p_pools : kp.free .pools := by assumption) : Good kp (State.skipFuel n x1 x2) := by
  induction x1 generalizing x2 with
  | zero => exact hGx2
  | succ j ih =>
    unfold State.skipFuel
    try dsimp only
    with_reducible repeat' (first | assumption | apply ih | apply State.absentPic_good | apply State.setCtx_good | apply Good.ite | split)

theorem State.skipPics_good {s : State} (n : Nat) (hG : Good kp s) (p_regs : kp.free .regs := by assumption)
    (p_mgmt : kp.free .mgmt := by assumption) (p_net : kp.free .net := by assumption) (p_seals : kp.free .seals := by assumption)
    (p_ctxs : kp.free .ctxs := by assumption) (p_rnds : kp.free .rnds := by assumption) (p_stills : kp.free .stills := by assumption)
    (p_pools : kp.free .pools := by assumption) : Good kp (State.skipPics s n) := by
  unfold State.skipPics
  try dsimp only
  with_reducible repeat' (first | assumption | apply State.skipFuel_good)

theorem State.dispatchFirst_good (x1 : Bool) (x2 : List Nat) {x3 : State} (hGx3 : Good kp x3)
    (p_freeCtr : kp.free .freeCtr := by assumption) (p_regs : kp.free .regs := by assumption) (p_mgmt : kp.free .mgmt := by assumption)
    (p_net : kp.free .net := by assumption) (p_control : kp.free .control := by assumption) (p_seals : kp.free .seals := by assumption)
    (p_power : kp.free .power := by assumption) (p_faults : kp.free .faults := by assumption) (p_units : kp.free .units := by assumption)
    (p_ctxs : kp.free .ctxs := by assumption) (p_rnds : kp.free .rnds := by assumption) (p_adm : kp.free .adm := by assumption)
    (p_stills : kp.free .stills := by assumption) (p_cells : kp.free .cells := by assumption)
    (p_memory : kp.free .memory := by assumption) (p_pools : kp.free .pools := by assumption) : Good kp
    (State.dispatchFirst x1 x2 x3) := by
  induction x2 generalizing x1 x3 with
  | nil => cases x1 <;> exact hGx3
  | cons y ks ih =>
    unfold State.dispatchFirst
    split
    · exact hGx3
    · have h1 := fun (g k : Nat) => State.touchRecord_good g k hGx3
      dsimp only
      split
      · exact State.skipPics_good _ (State.recordPoison_good _ _ (h1 _ _))
      · split
        · exact State.dispatchCtx_good _ _ (h1 _ _) (by assumption)
        · exact ih _ (State.allocWait_good _ (h1 _ _))

theorem State.dropSegments_good {s : State} (hG : Good kp s) (p_regs : kp.free .regs := by assumption)
    (p_cells : kp.free .cells := by assumption) (p_memory : kp.free .memory := by assumption) : Good kp (State.dropSegments s) := by
  have key : ∀ (p r : Nat × Bool → Bool) (c : Nat × Byte → Bool), Good kp { s with mem := { s.mem with
      cells := s.mem.cells.filter c
      poison := s.mem.poison.filter p
      filled := s.mem.filled.filter r } } := fun q r c =>
    hG.change rfl (fun hc => ⟨hc.1, twf_filter _ _ _ hc.2.1, twf_filter _ _ _ hc.2.2.1, twf_filter _ _ _ hc.2.2.2.1, hc.2.2.2.2⟩)
      (fun p => by cases p <;> first | exact Or.inl (by assumption) | exact Or.inr rfl | exact Or.inr ⟨rfl, rfl⟩ | exact Or.inr ⟨rfl, rfl, rfl⟩)
  exact State.showFill_good (key _ _ _)

theorem State.encWait_good {s0 : State} (n : Nat) (hGs0 : Good kp s0) (p_regs : kp.free .regs := by assumption)
    (p_rnds : kp.free .rnds := by assumption) (p_pools : kp.free .pools := by assumption) : Good kp (State.encWait s0 n) := by
  unfold State.encWait
  try dsimp only
  with_reducible repeat' (first | assumption | apply State.alloc_good | apply State.setRnd_good | apply State.bump_good | apply Good.ite
                                | split)

theorem State.openRndReam_good {s : State} (n : Nat) (c : Cand) (hG : Good kp s) (p_regs : kp.free .regs := by assumption)
    (p_net : kp.free .net := by assumption) (p_seals : kp.free .seals := by assumption) (p_rnds : kp.free .rnds := by assumption)
    (p_pools : kp.free .pools := by assumption) : Good kp (State.openRndReam s n c).2 := by
  unfold State.openRndReam
  try dsimp only
  with_reducible repeat' (first | assumption | apply State.closeReam_good | apply State.newHdr_good | apply State.freeOwn_good
                                | apply State.setRnd_good | refine Good.foldl ?_ (fun t a ht => ?_))

theorem State.startEncode_good {s : State} (n : Nat) (core : Nat) (c : Cand) (hG : Good kp s) {t : State} (e :
    (State.startEncode s n core c) = some t) (p_regs : kp.free .regs := by assumption) (p_net : kp.free .net := by assumption)
    (p_seals : kp.free .seals := by assumption) (p_units : kp.free .units := by assumption) (p_rnds : kp.free .rnds := by assumption)
    (p_pools : kp.free .pools := by assumption) : Good kp t := by
  have h1 : Good kp (s.alloc (s.seqFor n) (poolFor 5 (fbSize (s.outW n) (s.outH n)))).2 := State.alloc_good _ _ hG
  unfold State.startEncode at e
  dsimp only at e
  split at e
  · cases e
  · cases e
    refine State.startJob_good _ _ _ _ ?_
    split
    all_goals (try refine State.bump_good _ ?_)
    all_goals
      refine State.setRnd_good _ _ ?_
      repeat' split
      all_goals first | exact h1 | exact State.openRndReam_good _ _ h1

theorem State.startStill_good {s : State} (hG : Good kp s) (p_regs : kp.free .regs := by assumption)
    (p_units : kp.free .units := by assumption) : Good kp (State.startStill s) := by
  unfold State.startStill
  try dsimp only
  with_reducible repeat' (first | assumption | apply State.startJob_good | apply State.setUnit_good | apply Good.ite | split)

theorem State.encodeFirst_good (x1 : Bool) (x2 : List (Nat × Cand)) {x3 : State} (hGx3 : Good kp x3)
    (p_freeCtr : kp.free .freeCtr := by assumption) (p_regs : kp.free .regs := by assumption) (p_mgmt : kp.free .mgmt := by assumption)
    (p_net : kp.free .net := by assumption) (p_control : kp.free .control := by assumption) (p_seals : kp.free .seals := by assumption)
    (p_power : kp.free .power := by assumption) (p_faults : kp.free .faults := by assumption) (p_units : kp.free .units := by assumption)
    (p_ctxs : kp.free .ctxs := by assumption) (p_rnds : kp.free .rnds := by assumption) (p_adm : kp.free .adm := by assumption)
    (p_stills : kp.free .stills := by assumption) (p_cells : kp.free .cells := by assumption)
    (p_memory : kp.free .memory := by assumption) (p_pools : kp.free .pools := by assumption) : Good kp (State.encodeFirst x1 x2 x3) := by
  induction x2 generalizing x1 x3 with
  | nil => cases x1 <;> exact State.startStill_good hGx3
  | cons y ks ih =>
    unfold State.encodeFirst
    split
    · exact hGx3
    · have h1 := fun (g k : Nat) => State.touchRecord_good g k hGx3
      dsimp only
      split
      · exact State.loseRecord_good _ (h1 _ _)
      · split
        · exact State.startEncode_good _ _ _ (h1 _ _) (by assumption)
        · exact ih _ (State.encWait_good _ (h1 _ _))

theorem State.encodePoisoned_good {s : State} (n : Nat) (agent : Nat) (j : EncJob) (hG : Good kp s)
    (p_regs : kp.free .regs := by assumption) (p_mgmt : kp.free .mgmt := by assumption) (p_net : kp.free .net := by assumption)
    (p_seals : kp.free .seals := by assumption) (p_units : kp.free .units := by assumption) (p_ctxs : kp.free .ctxs := by assumption)
    (p_rnds : kp.free .rnds := by assumption) (p_stills : kp.free .stills := by assumption) (p_pools : kp.free .pools := by assumption)
    : Good kp (State.encodePoisoned s n agent j) := by
  unfold State.encodePoisoned
  try dsimp only
  with_reducible repeat' (first | assumption | apply State.freeOwn_good | apply State.setRnd_good | apply State.settleSlots_good
                                | apply State.endJob_good | apply State.breakRndReam_good)

theorem State.writeCopy_good (agent : Nat) {s : State} (i : SeqInfo) (p : Pic) (c : Nat × Nat × Nat) (hG : Good kp s)
    (p_regs : kp.free .regs := by assumption) (p_mgmt : kp.free .mgmt := by assumption) (p_net : kp.free .net := by assumption)
    (p_control : kp.free .control := by assumption) (p_seals : kp.free .seals := by assumption)
    (p_power : kp.free .power := by assumption) (p_faults : kp.free .faults := by assumption) (p_units : kp.free .units := by assumption)
    (p_ctxs : kp.free .ctxs := by assumption) (p_rnds : kp.free .rnds := by assumption) (p_adm : kp.free .adm := by assumption)
    (p_stills : kp.free .stills := by assumption) (p_cells : kp.free .cells := by assumption)
    (p_memory : kp.free .memory := by assumption) (p_pools : kp.free .pools := by assumption) : Good kp
    (State.writeCopy agent s i p c) := by
  unfold State.writeCopy
  try dsimp only
  with_reducible repeat' (first | assumption | apply State.unitWrite_good | refine Good.foldl ?_ (fun t a ht => ?_))

theorem State.finishDecode_good {s : State} (n : Nat) (j : DecJob) (po : DecPoison) (hG : Good kp s)
    (p_regs : kp.free .regs := by assumption) (p_mgmt : kp.free .mgmt := by assumption) (p_net : kp.free .net := by assumption)
    (p_control : kp.free .control := by assumption) (p_seals : kp.free .seals := by assumption)
    (p_power : kp.free .power := by assumption) (p_faults : kp.free .faults := by assumption) (p_units : kp.free .units := by assumption)
    (p_ctxs : kp.free .ctxs := by assumption) (p_rnds : kp.free .rnds := by assumption) (p_adm : kp.free .adm := by assumption)
    (p_stills : kp.free .stills := by assumption) (p_cells : kp.free .cells := by assumption)
    (p_memory : kp.free .memory := by assumption) (p_pools : kp.free .pools := by assumption) : Good kp
    (State.finishDecode s n j po).1 := by
  unfold State.finishDecode
  try dsimp only
  with_reducible repeat' (first | assumption | apply State.writeFrame_good | apply State.writeCopy_good | apply State.setCtx_good
                                | refine Good.foldl ?_ (fun t a ht => ?_))

theorem State.finishEncode_good {s : State} (n : Nat) (j : EncJob) (po : EncPoison) (hG : Good kp s)
    (p_regs : kp.free .regs := by assumption) (p_mgmt : kp.free .mgmt := by assumption) (p_net : kp.free .net := by assumption)
    (p_control : kp.free .control := by assumption) (p_seals : kp.free .seals := by assumption)
    (p_power : kp.free .power := by assumption) (p_faults : kp.free .faults := by assumption) (p_units : kp.free .units := by assumption)
    (p_ctxs : kp.free .ctxs := by assumption) (p_rnds : kp.free .rnds := by assumption) (p_adm : kp.free .adm := by assumption)
    (p_stills : kp.free .stills := by assumption) (p_cells : kp.free .cells := by assumption)
    (p_memory : kp.free .memory := by assumption) (p_pools : kp.free .pools := by assumption) : Good kp
    (State.finishEncode s n j po).1 := by
  unfold State.finishEncode
  try dsimp only
  with_reducible repeat' (first | assumption | apply State.writeFrame_good | apply State.setRnd_good)

theorem State.idleIssue_good {s : State} (hG : Good kp s) (p_regs : kp.free .regs := by assumption)
    (p_memory : kp.free .memory := by assumption) : Good kp (State.idleIssue s) := by
  unfold State.idleIssue
  try dsimp only
  with_reducible repeat' (first | assumption | apply State.setRegBit_good | apply State.issueTo_good
                                | refine Good.foldl ?_ (fun t a ht => ?_) | refine Good.foldl2 ?_ (fun t a ht => ?_)
                                | refine Good.foldl1 ?_ (fun t a ht => ?_) | refine Good.foldr ?_ (fun a t ht => ?_) | apply Good.ite)

theorem State.serveAll_good (x1 : Nat) (x2 : List MemReq) {x3 : State} (hGx3 : Good kp x3) (p_regs : kp.free .regs := by assumption)
    (p_mgmt : kp.free .mgmt := by assumption) (p_net : kp.free .net := by assumption) (p_control : kp.free .control := by assumption)
    (p_seals : kp.free .seals := by assumption) (p_power : kp.free .power := by assumption) (p_faults : kp.free .faults := by assumption)
    (p_units : kp.free .units := by assumption) (p_ctxs : kp.free .ctxs := by assumption) (p_rnds : kp.free .rnds := by assumption)
    (p_adm : kp.free .adm := by assumption) (p_stills : kp.free .stills := by assumption) (p_cells : kp.free .cells := by assumption)
    (p_memory : kp.free .memory := by assumption) (p_pools : kp.free .pools := by assumption) : Good kp (State.serveAll x1 x2 x3) := by
  induction x1 generalizing x2 x3 with
  | zero => exact hGx3
  | succ j ih =>
    unfold State.serveAll
    split
    · exact hGx3
    · exact ih _ (State.acceptReqs_good _ _ hGx3)

theorem State.memRequest_good {s : State} (p : Nat) (q : MemReq) (hG : Good kp s) (p_regs : kp.free .regs := by assumption)
    (p_mgmt : kp.free .mgmt := by assumption) (p_net : kp.free .net := by assumption) (p_control : kp.free .control := by assumption)
    (p_seals : kp.free .seals := by assumption) (p_power : kp.free .power := by assumption) (p_faults : kp.free .faults := by assumption)
    (p_units : kp.free .units := by assumption) (p_ctxs : kp.free .ctxs := by assumption) (p_rnds : kp.free .rnds := by assumption)
    (p_adm : kp.free .adm := by assumption) (p_stills : kp.free .stills := by assumption) (p_cells : kp.free .cells := by assumption)
    (p_memory : kp.free .memory := by assumption) (p_pools : kp.free .pools := by assumption) : Good kp (State.memRequest s p q) := by
  unfold State.memRequest
  try dsimp only
  with_reducible repeat' (first | assumption | apply State.setMemPort_good | apply State.serveReq_good | apply State.serveAll_good
                                | apply Good.ite)

theorem State.nightEnter_good {s : State} (hG : Good kp s) (p_regs : kp.free .regs := by assumption)
    (p_memory : kp.free .memory := by assumption) : Good kp (State.nightEnter s) := by
  unfold State.nightEnter
  try dsimp only
  with_reducible repeat' (first | assumption | apply State.bump32_good | apply State.issueTo_good | apply State.setRegF_good
                                | refine Good.foldl ?_ (fun t a ht => ?_) | refine Good.foldl2 ?_ (fun t a ht => ?_)
                                | refine Good.foldl1 ?_ (fun t a ht => ?_) | refine Good.foldr ?_ (fun a t ht => ?_) | apply Good.ite
                                | split | (fail_if_no_progress refine Good.upd ?_ rfl rfl rfl rfl))

theorem State.probe_good {s : State} (p : Nat) (ms : List Margin) (hG : Good kp s) (p_regs : kp.free .regs := by assumption)
    (p_mgmt : kp.free .mgmt := by assumption) (p_net : kp.free .net := by assumption) (p_control : kp.free .control := by assumption)
    (p_seals : kp.free .seals := by assumption) (p_power : kp.free .power := by assumption) (p_faults : kp.free .faults := by assumption)
    (p_units : kp.free .units := by assumption) (p_ctxs : kp.free .ctxs := by assumption) (p_rnds : kp.free .rnds := by assumption)
    (p_adm : kp.free .adm := by assumption) (p_stills : kp.free .stills := by assumption) (p_memory : kp.free .memory := by assumption)
    (p_pools : kp.free .pools := by assumption) : Good kp (State.probe s p ms) := by
  unfold State.probe
  try dsimp only
  with_reducible repeat' (first | assumption | apply State.setMemPort_good | apply State.setRegs_good | apply State.setCause_good
                                | apply State.raiseFault_good | apply State.setRegBit_good | apply Good.ite | split)

theorem State.returnStills_good {s : State} (n : Nat) (handle : Nat) (hG : Good kp s) (p_mgmt : kp.free .mgmt := by assumption)
    (p_stills : kp.free .stills := by assumption) : Good kp (State.returnStills s n handle) := by
  unfold State.returnStills
  try dsimp only
  with_reducible repeat' (first | assumption | apply State.mapTicket_good | refine Good.foldl ?_ (fun t a ht => ?_)
                                | refine Good.foldl2 ?_ (fun t a ht => ?_) | refine Good.foldl1 ?_ (fun t a ht => ?_)
                                | refine Good.foldr ?_ (fun a t ht => ?_) | apply Good.ite | split
                                | (fail_if_no_progress refine Good.upd ?_ rfl rfl rfl rfl))

theorem State.recompose_good {s : State} (n : Nat) (hG : Good kp s) (p_regs : kp.free .regs := by assumption)
    (p_mgmt : kp.free .mgmt := by assumption) (p_rnds : kp.free .rnds := by assumption) (p_stills : kp.free .stills := by assumption)
    (p_pools : kp.free .pools := by assumption) : Good kp (State.recompose s n) := by
  unfold State.recompose
  try dsimp only
  with_reducible repeat' (first | assumption | apply State.setRnd_good | apply State.freeOwn_good | apply State.returnStills_good
                                | refine Good.foldl ?_ (fun t a ht => ?_))

theorem State.recomposeStale_good {s : State} (hG : Good kp s) (p_regs : kp.free .regs := by assumption)
    (p_mgmt : kp.free .mgmt := by assumption) (p_rnds : kp.free .rnds := by assumption) (p_stills : kp.free .stills := by assumption)
    (p_pools : kp.free .pools := by assumption) : Good kp (State.recomposeStale s) := by
  unfold State.recomposeStale
  try dsimp only
  with_reducible repeat' (first | assumption | apply State.recompose_good | refine Good.foldl ?_ (fun t a ht => ?_)
                                | refine Good.foldl2 ?_ (fun t a ht => ?_) | refine Good.foldl1 ?_ (fun t a ht => ?_)
                                | refine Good.foldr ?_ (fun a t ht => ?_) | apply Good.ite | split)

theorem State.reflatten_good {s : State} (n : Nat) (agent : Nat) (c : Cand) (hG : Good kp s) (p_regs : kp.free .regs := by assumption)
    (p_units : kp.free .units := by assumption) (p_rnds : kp.free .rnds := by assumption) (p_pools : kp.free .pools := by assumption)
    : Good kp (State.reflatten s n agent c) := by
  unfold State.reflatten
  try dsimp only
  with_reducible repeat' (first | assumption | apply State.freeOwn_good | apply State.setRnd_good | apply State.showUnit_good
                                | apply State.setUnit_good)

theorem execBackgroundFill_good {s : State} (hG : Good kp s) (p_regs : kp.free .regs := by assumption)
    (p_cells : kp.free .cells := by assumption) (p_memory : kp.free .memory := by assumption) : OutGood kp (execBackgroundFill s) := by
  unfold execBackgroundFill
  try dsimp only
  with_reducible repeat' (first | assumption | apply State.fillChunk_good | apply outGood_next | apply outGood_fault | apply Good.ite
                                | apply OutGood.ite | split)

theorem execComposeDispatch_good (poison : Bool) {s : State} (hG : Good kp s) (p_freeCtr : kp.free .freeCtr := by assumption)
    (p_regs : kp.free .regs := by assumption) (p_mgmt : kp.free .mgmt := by assumption) (p_net : kp.free .net := by assumption)
    (p_control : kp.free .control := by assumption) (p_seals : kp.free .seals := by assumption)
    (p_power : kp.free .power := by assumption) (p_faults : kp.free .faults := by assumption) (p_units : kp.free .units := by assumption)
    (p_ctxs : kp.free .ctxs := by assumption) (p_rnds : kp.free .rnds := by assumption) (p_adm : kp.free .adm := by assumption)
    (p_stills : kp.free .stills := by assumption) (p_cells : kp.free .cells := by assumption)
    (p_memory : kp.free .memory := by assumption) (p_pools : kp.free .pools := by assumption) : OutGood kp
    (execComposeDispatch poison s) := by
  unfold execComposeDispatch
  try dsimp only
  with_reducible repeat' (first | assumption | apply State.composeFirst_good | apply outGood_next | apply outGood_fault | apply Good.ite
                                | apply OutGood.ite)

theorem execComposePictureDone_good (u : Fin 8) (po : ComposePoison) {s : State} (hG : Good kp s)
    (p_freeCtr : kp.free .freeCtr := by assumption) (p_regs : kp.free .regs := by assumption) (p_mgmt : kp.free .mgmt := by assumption)
    (p_net : kp.free .net := by assumption) (p_control : kp.free .control := by assumption) (p_seals : kp.free .seals := by assumption)
    (p_power : kp.free .power := by assumption) (p_faults : kp.free .faults := by assumption) (p_units : kp.free .units := by assumption)
    (p_ctxs : kp.free .ctxs := by assumption) (p_rnds : kp.free .rnds := by assumption) (p_adm : kp.free .adm := by assumption)
    (p_stills : kp.free .stills := by assumption) (p_cells : kp.free .cells := by assumption)
    (p_memory : kp.free .memory := by assumption) (p_pools : kp.free .pools := by assumption) : OutGood kp
    (execComposePictureDone u po s) := by
  unfold execComposePictureDone
  try dsimp only
  with_reducible repeat' (first | assumption | apply State.poisonedRead_good | apply State.bumpN_good | apply State.reflatten_good
                                | apply State.bump_good | apply State.bumpIf_good | apply State.sendRecord_good | apply State.endJob_good
                                | apply State.composeDone_good | apply outGood_next | apply outGood_fault
                                | refine Good.foldl ?_ (fun t a ht => ?_) | refine Good.foldl2 ?_ (fun t a ht => ?_)
                                | refine Good.foldl1 ?_ (fun t a ht => ?_) | refine Good.foldr ?_ (fun a t ht => ?_) | apply Good.ite
                                | apply OutGood.ite | split)

theorem execCuOos_good (u : Fin 8) (out : Bool) {s : State} (hG : Good kp s) (p_regs : kp.free .regs := by assumption)
    (p_units : kp.free .units := by assumption) : OutGood kp (execCuOos u out s) := by
  unfold execCuOos
  try dsimp only
  with_reducible repeat' (first | assumption | apply State.writeOos_good | apply outGood_next)

theorem execDecOos_good (c : Fin 64) (out : Bool) {s : State} (hG : Good kp s) (p_regs : kp.free .regs := by assumption)
    (p_units : kp.free .units := by assumption) : OutGood kp (execDecOos c out s) := by
  unfold execDecOos
  try dsimp only
  with_reducible repeat' (first | assumption | apply State.writeOos_good | apply outGood_next)

theorem execDecodeAllocFailure_good (n : Fin 1024) {s : State} (hG : Good kp s) (p_regs : kp.free .regs := by assumption)
    (p_mgmt : kp.free .mgmt := by assumption) (p_net : kp.free .net := by assumption) (p_seals : kp.free .seals := by assumption)
    (p_ctxs : kp.free .ctxs := by assumption) (p_rnds : kp.free .rnds := by assumption) (p_stills : kp.free .stills := by assumption)
    (p_pools : kp.free .pools := by assumption) : OutGood kp (execDecodeAllocFailure n s) := by
  unfold execDecodeAllocFailure
  try dsimp only
  with_reducible repeat' (first | assumption | apply State.setCtx_good | apply State.skipPics_good | apply State.dropMarks_good
                                | apply State.absentPic_good | apply outGood_next | apply outGood_fault | apply Good.ite
                                | apply OutGood.ite | split)

theorem execDecodeDispatch_good (poison : Bool) {s : State} (hG : Good kp s) (p_freeCtr : kp.free .freeCtr := by assumption)
    (p_regs : kp.free .regs := by assumption) (p_mgmt : kp.free .mgmt := by assumption) (p_net : kp.free .net := by assumption)
    (p_control : kp.free .control := by assumption) (p_seals : kp.free .seals := by assumption)
    (p_power : kp.free .power := by assumption) (p_faults : kp.free .faults := by assumption) (p_units : kp.free .units := by assumption)
    (p_ctxs : kp.free .ctxs := by assumption) (p_rnds : kp.free .rnds := by assumption) (p_adm : kp.free .adm := by assumption)
    (p_stills : kp.free .stills := by assumption) (p_cells : kp.free .cells := by assumption)
    (p_memory : kp.free .memory := by assumption) (p_pools : kp.free .pools := by assumption) : OutGood kp
    (execDecodeDispatch poison s) := by
  unfold execDecodeDispatch
  try dsimp only
  with_reducible repeat' (first | assumption | apply State.skipPics_good | apply State.dispatchFirst_good | apply outGood_next
                                | apply outGood_fault | refine Good.foldl ?_ (fun t a ht => ?_) | refine Good.foldl2 ?_ (fun t a ht => ?_)
                                | refine Good.foldl1 ?_ (fun t a ht => ?_) | refine Good.foldr ?_ (fun a t ht => ?_) | apply Good.ite
                                | apply OutGood.ite)

theorem execDecodePictureDone_good (c : Fin 64) (po : DecPoison) {s : State} (hG : Good kp s)
    (p_freeCtr : kp.free .freeCtr := by assumption) (p_regs : kp.free .regs := by assumption) (p_mgmt : kp.free .mgmt := by assumption)
    (p_net : kp.free .net := by assumption) (p_control : kp.free .control := by assumption) (p_seals : kp.free .seals := by assumption)
    (p_power : kp.free .power := by assumption) (p_faults : kp.free .faults := by assumption) (p_units : kp.free .units := by assumption)
    (p_ctxs : kp.free .ctxs := by assumption) (p_rnds : kp.free .rnds := by assumption) (p_adm : kp.free .adm := by assumption)
    (p_stills : kp.free .stills := by assumption) (p_cells : kp.free .cells := by assumption)
    (p_memory : kp.free .memory := by assumption) (p_pools : kp.free .pools := by assumption) : OutGood kp
    (execDecodePictureDone c po s) := by
  unfold execDecodePictureDone
  try dsimp only
  with_reducible repeat' (first | assumption | apply State.bumpN_good | apply State.bump_good | apply State.finishDecode_good
                                | apply State.poisonedRead_good | apply State.sendRecord_good | apply State.endJob_good
                                | apply outGood_next | apply outGood_fault | refine Good.foldl ?_ (fun t a ht => ?_)
                                | refine Good.foldl2 ?_ (fun t a ht => ?_) | refine Good.foldl1 ?_ (fun t a ht => ?_)
                                | refine Good.foldr ?_ (fun a t ht => ?_) | apply Good.ite | apply OutGood.ite | split)

theorem execEncAllocTimeout_good (n : Fin 1024) {s : State} (hG : Good kp s) (p_regs : kp.free .regs := by assumption)
    (p_mgmt : kp.free .mgmt := by assumption) (p_net : kp.free .net := by assumption) (p_seals : kp.free .seals := by assumption)
    (p_ctxs : kp.free .ctxs := by assumption) (p_rnds : kp.free .rnds := by assumption) (p_stills : kp.free .stills := by assumption)
    (p_pools : kp.free .pools := by assumption) : OutGood kp (execEncAllocTimeout n s) := by
  unfold execEncAllocTimeout
  try dsimp only
  with_reducible repeat' (first | assumption | apply State.dropComposed_good | apply State.setRnd_good | apply State.settleSlots_good
                                | apply State.endIfDrained_good | apply State.breakRndReam_good | apply outGood_next | apply outGood_fault
                                | apply Good.ite | apply OutGood.ite | split)

theorem execEncOos_good (c : Fin 24) (out : Bool) {s : State} (hG : Good kp s) (p_regs : kp.free .regs := by assumption)
    (p_units : kp.free .units := by assumption) : OutGood kp (execEncOos c out s) := by
  unfold execEncOos
  try dsimp only
  with_reducible repeat' (first | assumption | apply State.writeOos_good | apply outGood_next)

theorem execEncodeDispatch_good (poison : Bool) {s : State} (hG : Good kp s) (p_freeCtr : kp.free .freeCtr := by assumption)
    (p_regs : kp.free .regs := by assumption) (p_mgmt : kp.free .mgmt := by assumption) (p_net : kp.free .net := by assumption)
    (p_control : kp.free .control := by assumption) (p_seals : kp.free .seals := by assumption)
    (p_power : kp.free .power := by assumption) (p_faults : kp.free .faults := by assumption) (p_units : kp.free .units := by assumption)
    (p_ctxs : kp.free .ctxs := by assumption) (p_rnds : kp.free .rnds := by assumption) (p_adm : kp.free .adm := by assumption)
    (p_stills : kp.free .stills := by assumption) (p_cells : kp.free .cells := by assumption)
    (p_memory : kp.free .memory := by assumption) (p_pools : kp.free .pools := by assumption) : OutGood kp
    (execEncodeDispatch poison s) := by
  unfold execEncodeDispatch
  try dsimp only
  with_reducible repeat' (first | assumption | apply State.recomposeStale_good | apply State.encodeFirst_good | apply outGood_next
                                | apply outGood_fault | apply Good.ite | apply OutGood.ite)

theorem execEncodePictureDone_good (c : Fin 24) (po : EncPoison) {s : State} (hG : Good kp s)
    (p_freeCtr : kp.free .freeCtr := by assumption) (p_regs : kp.free .regs := by assumption) (p_mgmt : kp.free .mgmt := by assumption)
    (p_net : kp.free .net := by assumption) (p_control : kp.free .control := by assumption) (p_seals : kp.free .seals := by assumption)
    (p_power : kp.free .power := by assumption) (p_faults : kp.free .faults := by assumption) (p_units : kp.free .units := by assumption)
    (p_ctxs : kp.free .ctxs := by assumption) (p_rnds : kp.free .rnds := by assumption) (p_adm : kp.free .adm := by assumption)
    (p_stills : kp.free .stills := by assumption) (p_cells : kp.free .cells := by assumption)
    (p_memory : kp.free .memory := by assumption) (p_pools : kp.free .pools := by assumption) : OutGood kp
    (execEncodePictureDone c po s) := by
  unfold execEncodePictureDone
  try dsimp only
  with_reducible repeat' (first | assumption | apply State.poisonedRead_good | apply State.bumpN_good | apply State.encodePoisoned_good
                                | apply State.bump_good | apply State.finishEncode_good | apply State.bumpIf_good
                                | apply State.sendRecord_good | apply State.endJob_good | apply outGood_next | apply outGood_fault
                                | refine Good.foldl ?_ (fun t a ht => ?_) | refine Good.foldl2 ?_ (fun t a ht => ?_)
                                | refine Good.foldl1 ?_ (fun t a ht => ?_) | refine Good.foldr ?_ (fun a t ht => ?_) | apply Good.ite
                                | apply OutGood.ite | split)

theorem execFlattenDone_good (u : Fin 8) {s : State} (hG : Good kp s) (p_regs : kp.free .regs := by assumption)
    (p_control : kp.free .control := by assumption) (p_units : kp.free .units := by assumption) (p_rnds : kp.free .rnds := by assumption)
    : OutGood kp (execFlattenDone u s) := by
  unfold execFlattenDone
  try dsimp only
  with_reducible repeat' (first | assumption | apply State.bump_good | apply State.setRnd_good | apply State.sendRecord_good
                                | apply State.endJob_good | apply outGood_next | apply outGood_fault | apply Good.ite | apply OutGood.ite
                                | split)

theorem execMarginProbe_good (p : Fin 8) (ms : List Margin) {s : State} (hG : Good kp s) (p_regs : kp.free .regs := by assumption)
    (p_mgmt : kp.free .mgmt := by assumption) (p_net : kp.free .net := by assumption) (p_control : kp.free .control := by assumption)
    (p_seals : kp.free .seals := by assumption) (p_power : kp.free .power := by assumption) (p_faults : kp.free .faults := by assumption)
    (p_units : kp.free .units := by assumption) (p_ctxs : kp.free .ctxs := by assumption) (p_rnds : kp.free .rnds := by assumption)
    (p_adm : kp.free .adm := by assumption) (p_stills : kp.free .stills := by assumption) (p_memory : kp.free .memory := by assumption)
    (p_pools : kp.free .pools := by assumption) : OutGood kp (execMarginProbe p ms s) := by
  unfold execMarginProbe
  try dsimp only
  with_reducible repeat' (first | assumption | apply State.setMemPort_good | apply State.probe_good | apply outGood_next
                                | apply outGood_fault | apply Good.ite | apply OutGood.ite)

theorem execMaskWaitExpiry_good (n : Fin 1024) {s : State} (hG : Good kp s) (p_regs : kp.free .regs := by assumption)
    (p_rnds : kp.free .rnds := by assumption) : OutGood kp (execMaskWaitExpiry n s) := by
  unfold execMaskWaitExpiry
  try dsimp only
  with_reducible repeat' (first | assumption | apply State.setRnd_good | apply State.bumpN_good | apply outGood_next | apply outGood_fault
                                | apply Good.ite | apply OutGood.ite)

theorem execMemReadRequest_good (agent : Nat) (a : Nat) (n : Nat) (errs : List SymErr) {s : State} (hG : Good kp s)
    (p_regs : kp.free .regs := by assumption) (p_mgmt : kp.free .mgmt := by assumption) (p_net : kp.free .net := by assumption)
    (p_control : kp.free .control := by assumption) (p_seals : kp.free .seals := by assumption)
    (p_power : kp.free .power := by assumption) (p_faults : kp.free .faults := by assumption) (p_units : kp.free .units := by assumption)
    (p_ctxs : kp.free .ctxs := by assumption) (p_rnds : kp.free .rnds := by assumption) (p_adm : kp.free .adm := by assumption)
    (p_stills : kp.free .stills := by assumption) (p_cells : kp.free .cells := by assumption)
    (p_memory : kp.free .memory := by assumption) (p_pools : kp.free .pools := by assumption) : OutGood kp
    (execMemReadRequest agent a n errs s) := by
  unfold execMemReadRequest
  try dsimp only
  with_reducible repeat' (first | assumption | apply State.memRequest_good | apply outGood_next | apply outGood_fault | apply Good.ite
                                | apply OutGood.ite)

theorem execMemReadTimeout_good (agent : Nat) (a : Nat) {s : State} (hG : Good kp s) (p_regs : kp.free .regs := by assumption)
    (p_mgmt : kp.free .mgmt := by assumption) (p_net : kp.free .net := by assumption) (p_control : kp.free .control := by assumption)
    (p_seals : kp.free .seals := by assumption) (p_power : kp.free .power := by assumption) (p_faults : kp.free .faults := by assumption)
    (p_units : kp.free .units := by assumption) (p_ctxs : kp.free .ctxs := by assumption) (p_rnds : kp.free .rnds := by assumption)
    (p_adm : kp.free .adm := by assumption) (p_stills : kp.free .stills := by assumption) (p_cells : kp.free .cells := by assumption)
    (p_memory : kp.free .memory := by assumption) (p_pools : kp.free .pools := by assumption) : OutGood kp
    (execMemReadTimeout agent a s) := by
  unfold execMemReadTimeout
  try dsimp only
  with_reducible repeat' (first | assumption | apply State.bump_good | apply State.fillChunk_good | apply State.respond_good
                                | apply State.memLog_good | apply outGood_next | apply outGood_fault | apply Good.ite | apply OutGood.ite)

theorem execMemWriteRequest_good (agent : Nat) (a : Nat) (mask : BitVec 128) (data : Bytes) (poison : Bool)
    (errs : List SymErr) {s : State} (hG : Good kp s) (p_regs : kp.free .regs := by assumption) (p_mgmt : kp.free .mgmt := by assumption)
    (p_net : kp.free .net := by assumption) (p_control : kp.free .control := by assumption) (p_seals : kp.free .seals := by assumption)
    (p_power : kp.free .power := by assumption) (p_faults : kp.free .faults := by assumption) (p_units : kp.free .units := by assumption)
    (p_ctxs : kp.free .ctxs := by assumption) (p_rnds : kp.free .rnds := by assumption) (p_adm : kp.free .adm := by assumption)
    (p_stills : kp.free .stills := by assumption) (p_cells : kp.free .cells := by assumption)
    (p_memory : kp.free .memory := by assumption) (p_pools : kp.free .pools := by assumption) : OutGood kp
    (execMemWriteRequest agent a mask data poison errs s) := by
  unfold execMemWriteRequest
  try dsimp only
  with_reducible repeat' (first | assumption | apply State.memRequest_good | apply outGood_next | apply outGood_fault | apply Good.ite
                                | apply OutGood.ite)

theorem execNightEnter_good (exit : Bool) {s : State} (hG : Good kp s) (p_regs : kp.free .regs := by assumption)
    (p_memory : kp.free .memory := by assumption) : OutGood kp (execNightEnter exit s) := by
  unfold execNightEnter
  try dsimp only
  with_reducible repeat' (first | assumption | apply State.nightExit_good | apply State.nightEnter_good | apply outGood_next
                                | apply outGood_fault | apply Good.ite)

theorem execNightEntryDone_good {s : State} (hG : Good kp s) (p_regs : kp.free .regs := by assumption) : OutGood kp
    (execNightEntryDone s) := by
  unfold execNightEntryDone
  try dsimp only
  with_reducible repeat' (first | assumption | apply State.setRegF_good | apply outGood_next | apply outGood_fault
                                | refine Good.foldl ?_ (fun t a ht => ?_) | refine Good.foldl2 ?_ (fun t a ht => ?_)
                                | refine Good.foldl1 ?_ (fun t a ht => ?_) | refine Good.foldr ?_ (fun a t ht => ?_) | apply Good.ite
                                | apply OutGood.ite)

theorem execNightExit_good {s : State} (hG : Good kp s) (p_regs : kp.free .regs := by assumption)
    (p_memory : kp.free .memory := by assumption) : OutGood kp (execNightExit s) := by
  unfold execNightExit
  try dsimp only
  with_reducible repeat' (first | assumption | apply State.nightExit_good | apply outGood_next)

theorem execNightExitDone_good {s : State} (hG : Good kp s) (p_regs : kp.free .regs := by assumption)
    (p_cells : kp.free .cells := by assumption) (p_memory : kp.free .memory := by assumption) : OutGood kp (execNightExitDone s) := by
  unfold execNightExitDone
  try dsimp only
  with_reducible repeat' (first | assumption | apply State.setRegF_good | apply State.dropSegments_good | apply outGood_next
                                | apply outGood_fault | refine Good.foldl ?_ (fun t a ht => ?_) | refine Good.foldl2 ?_ (fun t a ht => ?_)
                                | refine Good.foldl1 ?_ (fun t a ht => ?_) | refine Good.foldr ?_ (fun a t ht => ?_) | apply Good.ite
                                | apply OutGood.ite)

theorem execPatrolScrubRead_good (p : Fin 8) (errs : List SymErr) {s : State} (hG : Good kp s) (p_regs : kp.free .regs := by assumption)
    (p_mgmt : kp.free .mgmt := by assumption) (p_net : kp.free .net := by assumption) (p_control : kp.free .control := by assumption)
    (p_seals : kp.free .seals := by assumption) (p_power : kp.free .power := by assumption) (p_faults : kp.free .faults := by assumption)
    (p_units : kp.free .units := by assumption) (p_ctxs : kp.free .ctxs := by assumption) (p_rnds : kp.free .rnds := by assumption)
    (p_adm : kp.free .adm := by assumption) (p_stills : kp.free .stills := by assumption) (p_cells : kp.free .cells := by assumption)
    (p_memory : kp.free .memory := by assumption) (p_pools : kp.free .pools := by assumption) : OutGood kp
    (execPatrolScrubRead p errs s) := by
  unfold execPatrolScrubRead
  try dsimp only
  with_reducible repeat' (first | assumption | apply State.fillChunk_good | apply State.setMemPort_good | apply State.readLine_good
                                | apply outGood_next | apply outGood_fault | apply Good.ite | apply OutGood.ite | split)

theorem execRefresh_good (p : Fin 8) {s : State} (hG : Good kp s) (p_memory : kp.free .memory := by assumption) : OutGood kp
    (execRefresh p s) := by
  unfold execRefresh
  try dsimp only
  with_reducible repeat' (first | assumption | apply State.setMemPort_good | apply outGood_next | apply outGood_fault | apply Good.ite
                                | apply OutGood.ite)

theorem execRefreshRateRead_good (p : Fin 8) (rs : List (Nat × Bool)) {s : State} (hG : Good kp s)
    (p_regs : kp.free .regs := by assumption) (p_mgmt : kp.free .mgmt := by assumption) (p_net : kp.free .net := by assumption)
    (p_control : kp.free .control := by assumption) (p_seals : kp.free .seals := by assumption)
    (p_power : kp.free .power := by assumption) (p_faults : kp.free .faults := by assumption) (p_units : kp.free .units := by assumption)
    (p_ctxs : kp.free .ctxs := by assumption) (p_rnds : kp.free .rnds := by assumption) (p_adm : kp.free .adm := by assumption)
    (p_stills : kp.free .stills := by assumption) (p_memory : kp.free .memory := by assumption)
    (p_pools : kp.free .pools := by assumption) : OutGood kp (execRefreshRateRead p rs s) := by
  unfold execRefreshRateRead
  try dsimp only
  with_reducible repeat' (first | assumption | apply State.setMemPort_good | apply State.setCause_good | apply State.raiseFault_good
                                | apply State.setRegBit_good | apply outGood_next | apply outGood_fault | apply Good.ite
                                | apply OutGood.ite | split)

theorem execStillDone_good (c : Fin 24) {s : State} (hG : Good kp s) (p_regs : kp.free .regs := by assumption)
    (p_mgmt : kp.free .mgmt := by assumption) (p_control : kp.free .control := by assumption) (p_units : kp.free .units := by assumption)
    (p_ctxs : kp.free .ctxs := by assumption) (p_stills : kp.free .stills := by assumption) (p_pools : kp.free .pools := by assumption)
    : OutGood kp (execStillDone c s) := by
  unfold execStillDone
  try dsimp only
  with_reducible repeat' (first | assumption | apply State.dropStill_good | apply State.endJob_good | apply State.bump_good
                                | apply State.readyTicket_good | apply State.sendRecord_good | apply outGood_next | apply outGood_fault
                                | apply Good.ite | apply OutGood.ite | split)

theorem execStillTimeout_good (num : Nat) {s : State} (hG : Good kp s) (p_mgmt : kp.free .mgmt := by assumption) : OutGood kp
    (execStillTimeout num s) := by
  unfold execStillTimeout
  try dsimp only
  with_reducible repeat' (first | assumption | apply State.readyTicket_good | apply outGood_next | apply outGood_fault | apply Good.ite
                                | apply OutGood.ite | split)

theorem execTileWaitExpiry_good (n : Fin 1024) {s : State} (hG : Good kp s) (p_regs : kp.free .regs := by assumption)
    (p_ctxs : kp.free .ctxs := by assumption) (p_rnds : kp.free .rnds := by assumption) (p_pools : kp.free .pools := by assumption)
    : OutGood kp (execTileWaitExpiry n s) := by
  unfold execTileWaitExpiry
  try dsimp only
  with_reducible repeat' (first | assumption | apply State.setRnd_good | apply State.bumpN_good | apply State.sweepBufs_good
                                | apply outGood_next | apply outGood_fault | refine Good.foldl ?_ (fun t a ht => ?_)
                                | refine Good.foldl2 ?_ (fun t a ht => ?_) | refine Good.foldl1 ?_ (fun t a ht => ?_)
                                | refine Good.foldr ?_ (fun a t ht => ?_) | apply Good.ite)

theorem execVerificationLimitExpiry_good (n : Fin 1024) {s : State} (hG : Good kp s) (p_regs : kp.free .regs := by assumption)
    (p_mgmt : kp.free .mgmt := by assumption) (p_net : kp.free .net := by assumption) (p_seals : kp.free .seals := by assumption)
    (p_ctxs : kp.free .ctxs := by assumption) (p_rnds : kp.free .rnds := by assumption) (p_stills : kp.free .stills := by assumption)
    (p_pools : kp.free .pools := by assumption) : OutGood kp (execVerificationLimitExpiry n s) := by
  unfold execVerificationLimitExpiry
  try dsimp only
  with_reducible repeat' (first | assumption | apply State.expireLeaves_good | apply outGood_next)

theorem execWriteAgeDrain_good (p : Fin 8) {s : State} (hG : Good kp s) (p_regs : kp.free .regs := by assumption)
    (p_memory : kp.free .memory := by assumption) : OutGood kp (execWriteAgeDrain p s) := by
  unfold execWriteAgeDrain
  try dsimp only
  with_reducible repeat' (first | assumption | apply State.drain_good | apply outGood_next | apply outGood_fault | apply Good.ite
                                | apply OutGood.ite | split)

end Sys2Proof.Machine
end

