-- ==== Sys2Proof/Laws/KeepEngines.lean ====
section
/-!
SUPPORT. What the operations of DMA, sequencers, the collector, device time, admission and calibration keep: the queue, the canonical form of the tables, and every part of the
state but those that a lemma asks to be free.
-/
set_option Elab.async false

namespace Sys2Proof.Machine

variable {kp : Kept}

theorem State.takeEvent_good {s : State} (ev : Nat) (hG : Good kp s) (p_regs : kp.free .regs := by assumption)
    (p_control : kp.free .control := by assumption) : Good kp (State.takeEvent s ev) := by
  unfold State.takeEvent
  try dsimp only
  with_reducible repeat' (first | assumption | apply State.bump_good | apply Good.ite | split
                                | (fail_if_no_progress refine Good.upd ?_ rfl rfl rfl rfl))

theorem State.acceptFast_good {s : State} (i : Nat) (ev : Nat) (hG : Good kp s) (p_regs : kp.free .regs := by assumption)
    (p_control : kp.free .control := by assumption) : Good kp (State.acceptFast s i ev) := by
  unfold State.acceptFast
  try dsimp only
  with_reducible repeat' (first | assumption | apply State.bump_good | apply State.takeEvent_good | apply State.settleEvents_good
                                | apply State.setSeq_good)

theorem State.advance_good {s : State} (i : Nat) (m : MicroWord) (hG : Good kp s) (p_control : kp.free .control := by assumption)
    : Good kp (State.advance s i m) := by
  unfold State.advance
  try dsimp only
  with_reducible repeat' (first | assumption | apply State.setSeq_good)

theorem State.acceptNormal_good {s : State} (i : Nat) (m : MicroWord) (ev : Nat) (hG : Good kp s)
    (p_regs : kp.free .regs := by assumption) (p_control : kp.free .control := by assumption) : Good kp
    (State.acceptNormal s i m ev) := by
  unfold State.acceptNormal
  try dsimp only
  with_reducible repeat' (first | assumption | apply State.bump_good | apply State.takeEvent_good | apply State.settleEvents_good
                                | apply State.advance_good | apply State.setSeq_good)

theorem State.acceptRec_good {s : State} (u : Nat) (h : HeldRec) (hG : Good kp s) (p_regs : kp.free .regs := by assumption)
    (p_control : kp.free .control := by assumption) : Good kp (State.acceptRec s u h) := by
  unfold State.acceptRec
  try dsimp only
  with_reducible repeat' (first | assumption | apply State.setSeq_good | apply State.setRegF_good | apply State.bump_good | apply Good.ite
                                | split | (fail_if_no_progress refine Good.upd ?_ rfl rfl rfl rfl))

theorem State.openCtx_good {s : State} (n : Nat) (vs : Nat) (hG : Good kp s) (p_regs : kp.free .regs := by assumption)
    (p_net : kp.free .net := by assumption) (p_control : kp.free .control := by assumption) (p_seals : kp.free .seals := by assumption)
    (p_ctxs : kp.free .ctxs := by assumption) : Good kp (State.openCtx s n vs) := by
  unfold State.openCtx
  try dsimp only
  with_reducible repeat' (first | assumption | apply State.setCtx_good | apply State.setVstate_good | apply State.setCstate_good
                                | apply State.rtpIn_good | refine Good.foldl ?_ (fun t a ht => ?_))

theorem State.refuseRnd_good {s : State} (n : Nat) (code : Nat) (hG : Good kp s) (p_regs : kp.free .regs := by assumption)
    (p_net : kp.free .net := by assumption) (p_seals : kp.free .seals := by assumption) (p_ctxs : kp.free .ctxs := by assumption)
    (p_rnds : kp.free .rnds := by assumption) (p_pools : kp.free .pools := by assumption) : Good kp (State.refuseRnd s n code) := by
  unfold State.refuseRnd
  try dsimp only
  with_reducible repeat' (first | assumption | apply State.setRegF_good | apply State.freeRnd_good | apply State.bump32_good)

theorem State.admitRnd_good {s : State} (n : Nat) (hG : Good kp s) (p_regs : kp.free .regs := by assumption)
    (p_net : kp.free .net := by assumption) (p_seals : kp.free .seals := by assumption) (p_ctxs : kp.free .ctxs := by assumption)
    (p_rnds : kp.free .rnds := by assumption) (p_pools : kp.free .pools := by assumption) : Good kp (State.admitRnd s n) := by
  unfold State.admitRnd
  try dsimp only
  with_reducible repeat' (first | assumption | apply State.refuseRnd_good | apply State.setRegBit_good | apply State.setRegF_good
                                | apply State.setRstate_good | apply State.bump32_good | apply State.assignRnd_good
                                | refine Good.foldl ?_ (fun t a ht => ?_) | refine Good.foldl2 ?_ (fun t a ht => ?_)
                                | refine Good.foldl1 ?_ (fun t a ht => ?_) | refine Good.foldr ?_ (fun a t ht => ?_) | apply Good.ite)

theorem State.rndToAdmitting_good {s : State} (n : Nat) (hG : Good kp s) (p_regs : kp.free .regs := by assumption) : Good kp
    (State.rndToAdmitting s n) := by
  unfold State.rndToAdmitting
  try dsimp only
  with_reducible repeat' (first | assumption | apply State.setRstate_good | apply State.clearRndCounters_good)

theorem State.openProxies_good {s : State} (n : Nat) (hG : Good kp s) (p_regs : kp.free .regs := by assumption)
    (p_net : kp.free .net := by assumption) (p_seals : kp.free .seals := by assumption) (p_ctxs : kp.free .ctxs := by assumption)
    (p_rnds : kp.free .rnds := by assumption) (p_pools : kp.free .pools := by assumption) : Good kp (State.openProxies s n) := by
  unfold State.openProxies
  try dsimp only
  with_reducible repeat' (first | assumption | apply State.admitRnd_good | apply State.rndToAdmitting_good
                                | refine Good.foldl ?_ (fun t a ht => ?_))

theorem State.admitLive_good {s : State} (n : Nat) (hG : Good kp s) (p_regs : kp.free .regs := by assumption)
    (p_net : kp.free .net := by assumption) (p_control : kp.free .control := by assumption) (p_seals : kp.free .seals := by assumption)
    (p_ctxs : kp.free .ctxs := by assumption) (p_rnds : kp.free .rnds := by assumption) (p_pools : kp.free .pools := by assumption)
    : Good kp (State.admitLive s n) := by
  unfold State.admitLive
  try dsimp only
  with_reducible repeat' (first | assumption | apply State.bump32_good | apply State.openProxies_good | apply State.openCtx_good
                                | apply Good.ite)

theorem State.admitOffload_good {s : State} (n : Nat) (partner : Nat) (session : Nat) (rate : Nat) (hG : Good kp s)
    (p_regs : kp.free .regs := by assumption) (p_mgmt : kp.free .mgmt := by assumption) (p_net : kp.free .net := by assumption)
    (p_control : kp.free .control := by assumption) (p_seals : kp.free .seals := by assumption) (p_ctxs : kp.free .ctxs := by assumption)
    (p_rnds : kp.free .rnds := by assumption) (p_adm : kp.free .adm := by assumption) (p_stills : kp.free .stills := by assumption)
    (p_pools : kp.free .pools := by assumption) : Good kp (State.admitOffload s n partner session rate) := by
  unfold State.admitOffload
  try dsimp only
  with_reducible repeat' (first | assumption | apply State.freeCtx_good | apply State.dropSess_good | apply State.bump32_good
                                | apply State.earlyMsg_good | apply State.openAck_good | apply State.openCtx_good
                                | apply State.setCtx_good | apply State.openProxies_good | apply State.setSess_good
                                | refine Good.foldl ?_ (fun t a ht => ?_) | refine Good.foldl2 ?_ (fun t a ht => ?_)
                                | refine Good.foldl1 ?_ (fun t a ht => ?_) | refine Good.foldr ?_ (fun a t ht => ?_) | apply Good.ite
                                | split)

theorem State.admission_good {s : State} (hG : Good kp s) (p_regs : kp.free .regs := by assumption)
    (p_mgmt : kp.free .mgmt := by assumption) (p_net : kp.free .net := by assumption) (p_control : kp.free .control := by assumption)
    (p_seals : kp.free .seals := by assumption) (p_ctxs : kp.free .ctxs := by assumption) (p_rnds : kp.free .rnds := by assumption)
    (p_adm : kp.free .adm := by assumption) (p_stills : kp.free .stills := by assumption) (p_pools : kp.free .pools := by assumption)
    : Good kp (State.admission s) := by
  unfold State.admission
  try dsimp only
  with_reducible repeat' (first | assumption | apply State.admitLive_good | apply State.admitOffload_good | apply State.admitRnd_good
                                | refine Good.foldl ?_ (fun t a ht => ?_) | refine Good.foldl2 ?_ (fun t a ht => ?_)
                                | refine Good.foldl1 ?_ (fun t a ht => ?_) | refine Good.foldr ?_ (fun a t ht => ?_) | apply Good.ite
                                | split | (fail_if_no_progress refine Good.upd ?_ rfl rfl rfl rfl))

theorem State.showActual_good {s : State} (hG : Good kp s) (p_regs : kp.free .regs := by assumption) : Good kp (State.showActual s) := by
  unfold State.showActual
  try dsimp only
  with_reducible repeat' (first | assumption | apply State.setRegF_good)

theorem State.restamp_good {s : State} (q : Nat) (hG : Good kp s) (p_net : kp.free .net := by assumption)
    (p_seals : kp.free .seals := by assumption) (p_ctxs : kp.free .ctxs := by assumption) (p_rnds : kp.free .rnds := by assumption)
    : Good kp (State.restamp s q) := by
  unfold State.restamp
  try dsimp only
  with_reducible repeat' (first | assumption | apply Good.ite | split | (fail_if_no_progress refine Good.upd ?_ rfl rfl rfl rfl))

theorem State.setQuality_good {s0 : State} (q : Nat) (hGs0 : Good kp s0) (p_regs : kp.free .regs := by assumption)
    (p_net : kp.free .net := by assumption) (p_control : kp.free .control := by assumption) (p_seals : kp.free .seals := by assumption)
    (p_ctxs : kp.free .ctxs := by assumption) (p_rnds : kp.free .rnds := by assumption) : Good kp (State.setQuality s0 q) := by
  unfold State.setQuality
  try dsimp only
  with_reducible repeat' (first | assumption | apply State.restamp_good | apply State.raiseEv_good | apply State.setRegBit_good
                                | apply State.setRegF_good | apply Good.ite)

theorem State.runBmca_good {s : State} (cs : List ForeignClock) (hG : Good kp s) (p_regs : kp.free .regs := by assumption)
    (p_time : kp.free .time := by assumption) (p_net : kp.free .net := by assumption) (p_control : kp.free .control := by assumption)
    (p_seals : kp.free .seals := by assumption) (p_ctxs : kp.free .ctxs := by assumption) (p_rnds : kp.free .rnds := by assumption)
    : Good kp (State.runBmca s cs) := by
  unfold State.runBmca
  try dsimp only
  with_reducible repeat' (first | assumption | apply State.setPair_good | apply State.setQuality_good | apply Good.ite | split
                                | (fail_if_no_progress refine Good.upd ?_ rfl rfl rfl rfl))

theorem State.announceTimeout_good {s : State} (hG : Good kp s) (p_regs : kp.free .regs := by assumption)
    (p_time : kp.free .time := by assumption) (p_net : kp.free .net := by assumption) (p_control : kp.free .control := by assumption)
    (p_seals : kp.free .seals := by assumption) (p_ctxs : kp.free .ctxs := by assumption) (p_rnds : kp.free .rnds := by assumption)
    : Good kp (State.announceTimeout s) := by
  unfold State.announceTimeout
  try dsimp only
  with_reducible repeat' (first | assumption | apply State.runBmca_good | apply Good.ite)

theorem State.setLine_good {s : State} (g : Nat) (k : Nat) (hG : Good kp s) (p_regs : kp.free .regs := by assumption) : Good kp
    (State.setLine s g k) := by
  unfold State.setLine
  try dsimp only
  with_reducible repeat' (first | assumption | apply State.setRegF_good | apply State.setRegBit_good)

theorem State.sendDrained_good {s : State} (agent : Nat) (hG : Good kp s) (p_control : kp.free .control := by assumption) : Good kp
    (State.sendDrained s agent) := by
  unfold State.sendDrained
  try dsimp only
  with_reducible repeat' (first | assumption | apply State.sendRecord_good | apply Good.ite)

theorem State.beginTest_good {s : State} (num : Nat) (agent : Nat) (hG : Good kp s) (p_regs : kp.free .regs := by assumption)
    (p_control : kp.free .control := by assumption) (p_units : kp.free .units := by assumption) : Good kp
    (State.beginTest s num agent) := by
  unfold State.beginTest
  try dsimp only
  with_reducible repeat' (first | assumption | apply State.sendDrained_good | apply State.showUnit_good | apply State.noCap_good
                                | apply State.setUnit_good | apply State.settleEvents_good | apply State.setSeq_good | apply Good.ite)

theorem State.readMonitors_good {s : State} (ps : List RingPair) (hG : Good kp s) (p_regs : kp.free .regs := by assumption)
    (p_mgmt : kp.free .mgmt := by assumption) (p_net : kp.free .net := by assumption) (p_control : kp.free .control := by assumption)
    (p_seals : kp.free .seals := by assumption) (p_power : kp.free .power := by assumption) (p_faults : kp.free .faults := by assumption)
    (p_units : kp.free .units := by assumption) (p_ctxs : kp.free .ctxs := by assumption) (p_rnds : kp.free .rnds := by assumption)
    (p_adm : kp.free .adm := by assumption) (p_stills : kp.free .stills := by assumption) (p_memory : kp.free .memory := by assumption)
    (p_pools : kp.free .pools := by assumption) (p_cal : kp.free .cal := by assumption) : Good kp (State.readMonitors s ps) := by
  unfold State.readMonitors
  try dsimp only
  with_reducible repeat' (first | assumption | apply State.setReg_good | apply State.setRegF_good | apply State.raiseFault_good
                                | refine Good.foldl ?_ (fun t a ht => ?_) | refine Good.foldl2 ?_ (fun t a ht => ?_)
                                | refine Good.foldl1 ?_ (fun t a ht => ?_) | refine Good.foldr ?_ (fun a t ht => ?_) | apply Good.ite
                                | split | (fail_if_no_progress refine Good.upd ?_ rfl rfl rfl rfl))

theorem State.showTemp_good {s : State} (t : Int) (i : Nat) (hG : Good kp s) (p_regs : kp.free .regs := by assumption) : Good kp
    (State.showTemp s t i) := by
  unfold State.showTemp
  try dsimp only
  with_reducible repeat' (first | assumption | apply State.setRegF_good)

theorem State.refCal_good {s : State} (r : RefReading) (hG : Good kp s) (p_regs : kp.free .regs := by assumption)
    (p_mgmt : kp.free .mgmt := by assumption) (p_net : kp.free .net := by assumption) (p_control : kp.free .control := by assumption)
    (p_seals : kp.free .seals := by assumption) (p_power : kp.free .power := by assumption) (p_faults : kp.free .faults := by assumption)
    (p_units : kp.free .units := by assumption) (p_ctxs : kp.free .ctxs := by assumption) (p_rnds : kp.free .rnds := by assumption)
    (p_adm : kp.free .adm := by assumption) (p_stills : kp.free .stills := by assumption) (p_memory : kp.free .memory := by assumption)
    (p_pools : kp.free .pools := by assumption) (p_cal : kp.free .cal := by assumption) : Good kp (State.refCal s r) := by
  unfold State.refCal
  try dsimp only
  with_reducible repeat' (first | assumption | apply State.setRegBit_good | apply State.setRegF_good | apply State.showTemp_good
                                | apply State.setCause_good | apply State.raiseFaults_good | apply Good.ite | split
                                | (fail_if_no_progress refine Good.upd ?_ rfl rfl rfl rfl))

theorem State.busRead_good {s : State} (agent : Nat) (a : Nat) (n : Nat) (errs : List (Nat × List SymErr)) (hG : Good kp s)
    (p_regs : kp.free .regs := by assumption) (p_mgmt : kp.free .mgmt := by assumption) (p_net : kp.free .net := by assumption)
    (p_control : kp.free .control := by assumption) (p_seals : kp.free .seals := by assumption)
    (p_power : kp.free .power := by assumption) (p_faults : kp.free .faults := by assumption) (p_units : kp.free .units := by assumption)
    (p_ctxs : kp.free .ctxs := by assumption) (p_rnds : kp.free .rnds := by assumption) (p_adm : kp.free .adm := by assumption)
    (p_stills : kp.free .stills := by assumption) (p_cells : kp.free .cells := by assumption)
    (p_memory : kp.free .memory := by assumption) (p_pools : kp.free .pools := by assumption) : Good kp
    (State.busRead s agent a n errs).2 := by
  unfold State.busRead
  try dsimp only
  with_reducible repeat' (first | assumption | apply State.memRead_good | apply Good.ite | split)

theorem State.burstRead_good (errs : List (Nat × List SymErr)) (agent : Nat) (x1 : List (List (Nat × Nat))) {x2 : State} (hGx2
    : Good kp x2) (p_regs : kp.free .regs := by assumption) (p_mgmt : kp.free .mgmt := by assumption)
    (p_net : kp.free .net := by assumption) (p_control : kp.free .control := by assumption) (p_seals : kp.free .seals := by assumption)
    (p_power : kp.free .power := by assumption) (p_faults : kp.free .faults := by assumption) (p_units : kp.free .units := by assumption)
    (p_ctxs : kp.free .ctxs := by assumption) (p_rnds : kp.free .rnds := by assumption) (p_adm : kp.free .adm := by assumption)
    (p_stills : kp.free .stills := by assumption) (p_cells : kp.free .cells := by assumption)
    (p_memory : kp.free .memory := by assumption) (p_pools : kp.free .pools := by assumption) : Good kp
    (State.burstRead errs agent x1 x2).2.2 := by
  induction x1 generalizing x2 with
  | nil => exact hGx2
  | cons y ks ih =>
    unfold State.burstRead
    try dsimp only
    with_reducible repeat' (first | assumption | apply ih | apply State.busRead_good)

theorem State.busWrite_good {s : State} (agent : Nat) (a : Nat) (d : List (Option Byte)) (errs : List (Nat × List SymErr)) (hG
    : Good kp s) (p_regs : kp.free .regs := by assumption) (p_mgmt : kp.free .mgmt := by assumption)
    (p_net : kp.free .net := by assumption) (p_control : kp.free .control := by assumption) (p_seals : kp.free .seals := by assumption)
    (p_power : kp.free .power := by assumption) (p_faults : kp.free .faults := by assumption) (p_units : kp.free .units := by assumption)
    (p_ctxs : kp.free .ctxs := by assumption) (p_rnds : kp.free .rnds := by assumption) (p_adm : kp.free .adm := by assumption)
    (p_stills : kp.free .stills := by assumption) (p_cells : kp.free .cells := by assumption)
    (p_memory : kp.free .memory := by assumption) (p_pools : kp.free .pools := by assumption) : Good kp
    (State.busWrite s agent a d errs) := by
  unfold State.busWrite
  dsimp only
  split
  · exact State.memWrite_good _ _ _ _ _ _ hG
  · split
    · exact Good.upd hG rfl rfl rfl rfl
    · exact hG.change rfl (fun hc => ⟨hc.1, Memory.wf_putBytes _ _ _ hc.2.1, hc.2.2⟩)
        (fun p => by cases p <;> first | exact Or.inl (by assumption) | exact Or.inr rfl | exact Or.inr ⟨rfl, rfl⟩ | exact Or.inr ⟨rfl, rfl, rfl⟩)

theorem State.burstWrite_good (errs : List (Nat × List SymErr)) (agent : Nat) (bytes : List (Nat × Option Byte)) (x1 : List (List
    (Nat × Nat))) {x2 : State} (hGx2 : Good kp x2) (p_regs : kp.free .regs := by assumption) (p_mgmt : kp.free .mgmt := by assumption)
    (p_net : kp.free .net := by assumption) (p_control : kp.free .control := by assumption) (p_seals : kp.free .seals := by assumption)
    (p_power : kp.free .power := by assumption) (p_faults : kp.free .faults := by assumption) (p_units : kp.free .units := by assumption)
    (p_ctxs : kp.free .ctxs := by assumption) (p_rnds : kp.free .rnds := by assumption) (p_adm : kp.free .adm := by assumption)
    (p_stills : kp.free .stills := by assumption) (p_cells : kp.free .cells := by assumption)
    (p_memory : kp.free .memory := by assumption) (p_pools : kp.free .pools := by assumption) : Good kp
    (State.burstWrite errs agent bytes x1 x2) := by
  induction x1 generalizing x2 with
  | nil => exact hGx2
  | cons y ks ih =>
    unfold State.burstWrite
    try dsimp only
    with_reducible repeat' (first | assumption | apply ih | apply State.busWrite_good)

theorem State.calReplan_good {s : State} (hG : Good kp s) (p_regs : kp.free .regs := by assumption) : Good kp (State.calReplan s) := by
  unfold State.calReplan
  try dsimp only
  with_reducible repeat' (first | assumption | apply State.setRegBit_good | apply Good.ite)

theorem State.showDma_good {s : State} (n : Nat) (hG : Good kp s) (p_regs : kp.free .regs := by assumption) : Good kp
    (State.showDma s n) := by
  unfold State.showDma
  try dsimp only
  with_reducible repeat' (first | assumption | apply State.setRegBit_good | apply State.setRegF_good | apply State.setPair_good
                                | apply Good.ite | split)

theorem State.dmaAbort_good {s : State} (n : Nat) (hG : Good kp s) (p_regs : kp.free .regs := by assumption)
    (p_dma : kp.free .dma := by assumption) : Good kp (State.dmaAbort s n) := by
  unfold State.dmaAbort
  try dsimp only
  with_reducible repeat' (first | assumption | apply State.showDma_good | apply State.setRegBit_good | apply State.setDmaCh_good
                                | apply Good.ite)

theorem State.loadShadow_good {s : State} (n : Nat) (hG : Good kp s) (p_regs : kp.free .regs := by assumption)
    (p_dma : kp.free .dma := by assumption) : Good kp (State.loadShadow s n) := by
  unfold State.loadShadow
  try dsimp only
  with_reducible repeat' (first | assumption | apply State.showDma_good | apply State.setDmaCh_good | apply State.setRegs_good
                                | apply Good.ite)

theorem State.dmaArm_good {s : State} (n : Nat) (seq : Nat) (hG : Good kp s) (p_regs : kp.free .regs := by assumption)
    (p_dma : kp.free .dma := by assumption) : Good kp (State.dmaArm s n seq) := by
  unfold State.dmaArm
  try dsimp only
  with_reducible repeat' (first | assumption | apply State.loadShadow_good | apply State.setDmaCh_good | apply Good.ite)

theorem State.dmaComplete_good {s : State} (n : Nat) (hG : Good kp s) (p_regs : kp.free .regs := by assumption)
    (p_control : kp.free .control := by assumption) (p_dma : kp.free .dma := by assumption) : Good kp (State.dmaComplete s n) := by
  unfold State.dmaComplete
  try dsimp only
  with_reducible repeat' (first | assumption | apply State.bump_good | apply State.setDmaCh_good | apply State.setRegBit_good
                                | apply State.loadShadow_good | apply State.raiseEv_good | apply Good.ite)

theorem State.dmaError_good {s : State} (n : Nat) (kind : Nat) (addr : Option Nat) (hG : Good kp s)
    (p_regs : kp.free .regs := by assumption) (p_mgmt : kp.free .mgmt := by assumption) (p_net : kp.free .net := by assumption)
    (p_control : kp.free .control := by assumption) (p_seals : kp.free .seals := by assumption)
    (p_power : kp.free .power := by assumption) (p_faults : kp.free .faults := by assumption) (p_units : kp.free .units := by assumption)
    (p_ctxs : kp.free .ctxs := by assumption) (p_rnds : kp.free .rnds := by assumption) (p_adm : kp.free .adm := by assumption)
    (p_stills : kp.free .stills := by assumption) (p_memory : kp.free .memory := by assumption)
    (p_pools : kp.free .pools := by assumption) (p_dma : kp.free .dma := by assumption) : Good kp (State.dmaError s n kind addr) := by
  unfold State.dmaError
  try dsimp only
  with_reducible repeat' (first | assumption | apply State.setDmaCh_good | apply State.bump_good | apply State.setRegBit_good
                                | apply State.setRegF_good | apply State.setPair_good | apply State.raiseFault_good
                                | apply State.showDma_good | apply Good.ite | split)

theorem State.dmaBurst_good {s : State} (n : Nat) (errs : List (Nat × List SymErr)) (hG : Good kp s)
    (p_regs : kp.free .regs := by assumption) (p_mgmt : kp.free .mgmt := by assumption) (p_net : kp.free .net := by assumption)
    (p_control : kp.free .control := by assumption) (p_seals : kp.free .seals := by assumption)
    (p_power : kp.free .power := by assumption) (p_faults : kp.free .faults := by assumption) (p_units : kp.free .units := by assumption)
    (p_ctxs : kp.free .ctxs := by assumption) (p_rnds : kp.free .rnds := by assumption) (p_adm : kp.free .adm := by assumption)
    (p_stills : kp.free .stills := by assumption) (p_cells : kp.free .cells := by assumption)
    (p_memory : kp.free .memory := by assumption) (p_pools : kp.free .pools := by assumption) (p_dma : kp.free .dma := by assumption)
    : Good kp (State.dmaBurst s n errs) := by
  unfold State.dmaBurst
  try dsimp only
  with_reducible repeat' (first | assumption | apply State.dmaError_good | apply State.burstRead_good | apply State.burstWrite_good
                                | apply State.bump_good | apply State.bumpN_good | apply State.setDmaCh_good
                                | apply State.dmaComplete_good | apply Good.ite | split)

theorem State.dmaClear_good {s : State} (n : Nat) (hG : Good kp s) (p_regs : kp.free .regs := by assumption)
    (p_dma : kp.free .dma := by assumption) : Good kp (State.dmaClear s n) := by
  unfold State.dmaClear
  try dsimp only
  with_reducible repeat' (first | assumption | apply State.showDma_good | apply State.setRegF_good | apply State.setDmaCh_good
                                | apply Good.ite)

theorem State.dmaFetch_good {s : State} (n : Nat) (a : Nat) (hG : Good kp s) (p_regs : kp.free .regs := by assumption)
    (p_mgmt : kp.free .mgmt := by assumption) (p_net : kp.free .net := by assumption) (p_control : kp.free .control := by assumption)
    (p_seals : kp.free .seals := by assumption) (p_power : kp.free .power := by assumption) (p_faults : kp.free .faults := by assumption)
    (p_units : kp.free .units := by assumption) (p_ctxs : kp.free .ctxs := by assumption) (p_rnds : kp.free .rnds := by assumption)
    (p_adm : kp.free .adm := by assumption) (p_stills : kp.free .stills := by assumption) (p_cells : kp.free .cells := by assumption)
    (p_memory : kp.free .memory := by assumption) (p_pools : kp.free .pools := by assumption) : Good kp (State.dmaFetch s n a).2 := by
  unfold State.dmaFetch
  try dsimp only
  with_reducible repeat' (first | assumption | apply State.busRead_good | apply Good.ite | split)

theorem State.dmaFetchFuel_good (n : Nat) (x1 : Nat) (x2 : DmaProg) {x3 : State} (hGx3 : Good kp x3)
    (p_regs : kp.free .regs := by assumption) (p_mgmt : kp.free .mgmt := by assumption) (p_net : kp.free .net := by assumption)
    (p_control : kp.free .control := by assumption) (p_seals : kp.free .seals := by assumption)
    (p_power : kp.free .power := by assumption) (p_faults : kp.free .faults := by assumption) (p_units : kp.free .units := by assumption)
    (p_ctxs : kp.free .ctxs := by assumption) (p_rnds : kp.free .rnds := by assumption) (p_adm : kp.free .adm := by assumption)
    (p_stills : kp.free .stills := by assumption) (p_cells : kp.free .cells := by assumption)
    (p_memory : kp.free .memory := by assumption) (p_pools : kp.free .pools := by assumption) : Good kp
    (State.dmaFetchFuel n x1 x2 x3).2 := by
  induction x1 generalizing x2 x3 with
  | zero => exact hGx3
  | succ j ih =>
    unfold State.dmaFetchFuel
    try dsimp only
    with_reducible repeat' (first | assumption | apply ih | apply State.dmaFetch_good | apply Good.ite | split)

theorem State.dmaGoTo_good {s : State} (n : Nat) (p : DmaProg) (hG : Good kp s) (p_regs : kp.free .regs := by assumption)
    (p_mgmt : kp.free .mgmt := by assumption) (p_net : kp.free .net := by assumption) (p_control : kp.free .control := by assumption)
    (p_seals : kp.free .seals := by assumption) (p_power : kp.free .power := by assumption) (p_faults : kp.free .faults := by assumption)
    (p_units : kp.free .units := by assumption) (p_ctxs : kp.free .ctxs := by assumption) (p_rnds : kp.free .rnds := by assumption)
    (p_adm : kp.free .adm := by assumption) (p_stills : kp.free .stills := by assumption) (p_cells : kp.free .cells := by assumption)
    (p_memory : kp.free .memory := by assumption) (p_pools : kp.free .pools := by assumption) (p_dma : kp.free .dma := by assumption)
    : Good kp (State.dmaGoTo s n p) := by
  unfold State.dmaGoTo
  try dsimp only
  with_reducible repeat' (first | assumption | apply State.dmaFetchFuel_good | apply State.showDma_good | apply State.setDmaCh_good)

theorem State.dmaWait_good {s : State} (n : Nat) (p : DmaProg) (hG : Good kp s) (p_regs : kp.free .regs := by assumption)
    (p_dma : kp.free .dma := by assumption) : Good kp (State.dmaWait s n p) := by
  unfold State.dmaWait
  try dsimp only
  with_reducible repeat' (first | assumption | apply State.showDma_good | apply State.setDmaCh_good)

theorem State.dmaInstrErr_good {s : State} (n : Nat) (kind : Nat) (hG : Good kp s) (p_regs : kp.free .regs := by assumption)
    (p_mgmt : kp.free .mgmt := by assumption) (p_net : kp.free .net := by assumption) (p_control : kp.free .control := by assumption)
    (p_seals : kp.free .seals := by assumption) (p_power : kp.free .power := by assumption) (p_faults : kp.free .faults := by assumption)
    (p_units : kp.free .units := by assumption) (p_ctxs : kp.free .ctxs := by assumption) (p_rnds : kp.free .rnds := by assumption)
    (p_adm : kp.free .adm := by assumption) (p_stills : kp.free .stills := by assumption) (p_memory : kp.free .memory := by assumption)
    (p_pools : kp.free .pools := by assumption) (p_dma : kp.free .dma := by assumption) : Good kp (State.dmaInstrErr s n kind) := by
  unfold State.dmaInstrErr
  try dsimp only
  with_reducible repeat' (first | assumption | apply State.dmaError_good | apply State.dmaWait_good | apply Good.ite | split)

theorem State.dmaProgStart_good {s : State} (n : Nat) (hG : Good kp s) (p_regs : kp.free .regs := by assumption)
    (p_mgmt : kp.free .mgmt := by assumption) (p_net : kp.free .net := by assumption) (p_control : kp.free .control := by assumption)
    (p_seals : kp.free .seals := by assumption) (p_power : kp.free .power := by assumption) (p_faults : kp.free .faults := by assumption)
    (p_units : kp.free .units := by assumption) (p_ctxs : kp.free .ctxs := by assumption) (p_rnds : kp.free .rnds := by assumption)
    (p_adm : kp.free .adm := by assumption) (p_stills : kp.free .stills := by assumption) (p_cells : kp.free .cells := by assumption)
    (p_memory : kp.free .memory := by assumption) (p_pools : kp.free .pools := by assumption) (p_dma : kp.free .dma := by assumption)
    : Good kp (State.dmaProgStart s n) := by
  unfold State.dmaProgStart
  try dsimp only
  with_reducible repeat' (first | assumption | apply State.dmaGoTo_good | apply Good.ite)

theorem State.expireWaiting_good {s : State} (hG : Good kp s) (p_regs : kp.free .regs := by assumption)
    (p_mgmt : kp.free .mgmt := by assumption) (p_net : kp.free .net := by assumption) (p_seals : kp.free .seals := by assumption)
    (p_ctxs : kp.free .ctxs := by assumption) (p_rnds : kp.free .rnds := by assumption) (p_stills : kp.free .stills := by assumption)
    (p_pools : kp.free .pools := by assumption) : Good kp (State.expireWaiting s) := by
  unfold State.expireWaiting
  try dsimp only
  with_reducible repeat' (first | assumption | apply State.expireNow_good | apply State.setCtx_good
                                | refine Good.foldl ?_ (fun t a ht => ?_) | refine Good.foldl2 ?_ (fun t a ht => ?_)
                                | refine Good.foldl1 ?_ (fun t a ht => ?_) | refine Good.foldr ?_ (fun a t ht => ?_) | apply Good.ite)

theorem State.feltOp_good {s : State} (agent : Nat) (h : Nat) (give : Option Nat) (hG : Good kp s)
    (p_regs : kp.free .regs := by assumption) (p_mgmt : kp.free .mgmt := by assumption) (p_net : kp.free .net := by assumption)
    (p_control : kp.free .control := by assumption) (p_seals : kp.free .seals := by assumption)
    (p_power : kp.free .power := by assumption) (p_faults : kp.free .faults := by assumption) (p_units : kp.free .units := by assumption)
    (p_ctxs : kp.free .ctxs := by assumption) (p_rnds : kp.free .rnds := by assumption) (p_adm : kp.free .adm := by assumption)
    (p_stills : kp.free .stills := by assumption) (p_memory : kp.free .memory := by assumption)
    (p_pools : kp.free .pools := by assumption) : Good kp (State.feltOp s agent h give).2 := by
  have h1 := State.freeOrGive_good agent h give hG
  unfold State.feltOp
  split
  · rename_i heq
    rw [heq] at h1
    exact h1
  · rename_i heq
    rw [heq] at h1
    exact State.raiseFault_good _ h1

theorem State.gaveHandle_good {s : State} (agent : Nat) (h : Nat) (hG : Good kp s) (p_memory : kp.free .memory := by assumption) : Good kp
    (State.gaveHandle s agent h) := by
  unfold State.gaveHandle
  try dsimp only
  with_reducible repeat' (first | assumption | apply Good.ite | split | (fail_if_no_progress refine Good.upd ?_ rfl rfl rfl rfl))

theorem State.xopDone_good {s : State} (i : Nat) (m : MicroWord) (err : Bool) (hG : Good kp s)
    (p_control : kp.free .control := by assumption) : Good kp (State.xopDone s i m err) := by
  unfold State.xopDone
  try dsimp only
  with_reducible repeat' (first | assumption | apply State.advance_good | apply State.setSeq_good)

theorem State.serveAlloc_good {s : State} (x1 : FeltBy) (hG : Good kp s) (p_regs : kp.free .regs := by assumption)
    (p_control : kp.free .control := by assumption) (p_memory : kp.free .memory := by assumption)
    (p_pools : kp.free .pools := by assumption) : Good kp (State.serveAlloc s x1) := by
  unfold State.serveAlloc
  try dsimp only
  with_reducible repeat' (first | assumption | apply State.alloc_good | apply State.gaveHandle_good | apply State.xopDone_good
                                | apply State.setSeq_good | apply Good.ite | split)

theorem State.feltXop_good {s : State} (i : Nat) (m : MicroWord) (give : Option Nat) (hG : Good kp s)
    (p_regs : kp.free .regs := by assumption) (p_mgmt : kp.free .mgmt := by assumption) (p_net : kp.free .net := by assumption)
    (p_control : kp.free .control := by assumption) (p_seals : kp.free .seals := by assumption)
    (p_power : kp.free .power := by assumption) (p_faults : kp.free .faults := by assumption) (p_units : kp.free .units := by assumption)
    (p_ctxs : kp.free .ctxs := by assumption) (p_rnds : kp.free .rnds := by assumption) (p_adm : kp.free .adm := by assumption)
    (p_stills : kp.free .stills := by assumption) (p_memory : kp.free .memory := by assumption)
    (p_pools : kp.free .pools := by assumption) : Good kp (State.feltXop s i m give) := by
  have h1 := State.freeOrGive_good (agGs i) (((s.seq i).r m.ra).toNat % 2 ^ 32) give hG
  unfold State.feltXop
  dsimp only
  split
  · rename_i heq
    rw [heq] at h1
    exact State.xopDone_good _ _ _ h1
  · rename_i heq
    rw [heq] at h1
    exact State.raiseFault_good _ (State.xopDone_good _ _ _ h1)

theorem State.serveFree_good {s : State} (x1 : FeltBy) (hG : Good kp s) (p_regs : kp.free .regs := by assumption)
    (p_mgmt : kp.free .mgmt := by assumption) (p_net : kp.free .net := by assumption) (p_control : kp.free .control := by assumption)
    (p_seals : kp.free .seals := by assumption) (p_power : kp.free .power := by assumption) (p_faults : kp.free .faults := by assumption)
    (p_units : kp.free .units := by assumption) (p_ctxs : kp.free .ctxs := by assumption) (p_rnds : kp.free .rnds := by assumption)
    (p_adm : kp.free .adm := by assumption) (p_stills : kp.free .stills := by assumption) (p_memory : kp.free .memory := by assumption)
    (p_pools : kp.free .pools := by assumption) : Good kp (State.serveFree s x1) := by
  unfold State.serveFree
  try dsimp only
  with_reducible repeat' (first | assumption | apply State.feltOp_good | apply State.feltXop_good | apply Good.ite | split)

theorem State.serveGive_good {s : State} (x1 : FeltBy) (hG : Good kp s) (p_regs : kp.free .regs := by assumption)
    (p_mgmt : kp.free .mgmt := by assumption) (p_net : kp.free .net := by assumption) (p_control : kp.free .control := by assumption)
    (p_seals : kp.free .seals := by assumption) (p_power : kp.free .power := by assumption) (p_faults : kp.free .faults := by assumption)
    (p_units : kp.free .units := by assumption) (p_ctxs : kp.free .ctxs := by assumption) (p_rnds : kp.free .rnds := by assumption)
    (p_adm : kp.free .adm := by assumption) (p_stills : kp.free .stills := by assumption) (p_memory : kp.free .memory := by assumption)
    (p_pools : kp.free .pools := by assumption) : Good kp (State.serveGive s x1) := by
  unfold State.serveGive
  try dsimp only
  with_reducible repeat' (first | assumption | apply State.feltOp_good | apply State.feltXop_good | apply Good.ite | split)

theorem State.serveFelt_good {s : State} (x1 : FeltReq) (hG : Good kp s) (p_regs : kp.free .regs := by assumption)
    (p_mgmt : kp.free .mgmt := by assumption) (p_net : kp.free .net := by assumption) (p_control : kp.free .control := by assumption)
    (p_seals : kp.free .seals := by assumption) (p_power : kp.free .power := by assumption) (p_faults : kp.free .faults := by assumption)
    (p_units : kp.free .units := by assumption) (p_ctxs : kp.free .ctxs := by assumption) (p_rnds : kp.free .rnds := by assumption)
    (p_adm : kp.free .adm := by assumption) (p_stills : kp.free .stills := by assumption) (p_memory : kp.free .memory := by assumption)
    (p_pools : kp.free .pools := by assumption) : Good kp (State.serveFelt s x1) := by
  unfold State.serveFelt
  try dsimp only
  with_reducible repeat' (first | assumption | apply State.serveAlloc_good | apply State.serveFree_good | apply State.serveGive_good
                                | apply Good.ite | split)

theorem State.feltRequest_good {s : State} (q : FeltReq) (hG : Good kp s) (p_regs : kp.free .regs := by assumption)
    (p_mgmt : kp.free .mgmt := by assumption) (p_net : kp.free .net := by assumption) (p_control : kp.free .control := by assumption)
    (p_seals : kp.free .seals := by assumption) (p_power : kp.free .power := by assumption) (p_faults : kp.free .faults := by assumption)
    (p_units : kp.free .units := by assumption) (p_ctxs : kp.free .ctxs := by assumption) (p_rnds : kp.free .rnds := by assumption)
    (p_adm : kp.free .adm := by assumption) (p_stills : kp.free .stills := by assumption) (p_memory : kp.free .memory := by assumption)
    (p_pools : kp.free .pools := by assumption) : Good kp (State.feltRequest s q) := by
  unfold State.feltRequest
  try dsimp only
  with_reducible repeat' (first | assumption | apply State.serveFelt_good | refine Good.foldl ?_ (fun t a ht => ?_)
                                | refine Good.foldl2 ?_ (fun t a ht => ?_) | refine Good.foldl1 ?_ (fun t a ht => ?_)
                                | refine Good.foldr ?_ (fun a t ht => ?_) | apply Good.ite | split
                                | (fail_if_no_progress refine Good.upd ?_ rfl rfl rfl rfl))

theorem State.haltRnd_good {s : State} (n : Nat) (hG : Good kp s) (p_regs : kp.free .regs := by assumption)
    (p_net : kp.free .net := by assumption) (p_seals : kp.free .seals := by assumption) (p_rnds : kp.free .rnds := by assumption)
    : Good kp (State.haltRnd s n) := by
  unfold State.haltRnd
  try dsimp only
  with_reducible repeat' (first | assumption | apply State.endRndReam_good | apply State.setRnd_good)

theorem State.haltSeq_good {s : State} (i : Nat) (hG : Good kp s) (p_regs : kp.free .regs := by assumption)
    (p_mgmt : kp.free .mgmt := by assumption) (p_net : kp.free .net := by assumption) (p_control : kp.free .control := by assumption)
    (p_seals : kp.free .seals := by assumption) (p_power : kp.free .power := by assumption) (p_faults : kp.free .faults := by assumption)
    (p_units : kp.free .units := by assumption) (p_ctxs : kp.free .ctxs := by assumption) (p_rnds : kp.free .rnds := by assumption)
    (p_adm : kp.free .adm := by assumption) (p_stills : kp.free .stills := by assumption) (p_memory : kp.free .memory := by assumption)
    (p_pools : kp.free .pools := by assumption) : Good kp (State.haltSeq s i) := by
  unfold State.haltSeq
  try dsimp only
  with_reducible repeat' (first | assumption | apply State.raiseFault_good | apply State.settleEvents_good | apply State.setSeq_good)

theorem State.tick_good {s : State} (hG : Good kp s) (p_now : kp.free .now := by assumption) (p_time : kp.free .time := by assumption)
    : Good kp (State.tick s) := by
  unfold State.tick
  try dsimp only
  with_reducible repeat' (first | assumption | apply Good.ite | split | (fail_if_no_progress refine Good.upd ?_ rfl rfl rfl rfl))

theorem State.judgeOffset_good {s : State} (o : Int) (hG : Good kp s) (p_regs : kp.free .regs := by assumption)
    (p_time : kp.free .time := by assumption) (p_net : kp.free .net := by assumption) (p_control : kp.free .control := by assumption)
    (p_seals : kp.free .seals := by assumption) (p_ctxs : kp.free .ctxs := by assumption) (p_rnds : kp.free .rnds := by assumption)
    : Good kp (State.judgeOffset s o) := by
  unfold State.judgeOffset
  try dsimp only
  with_reducible repeat' (first | assumption | apply State.setQuality_good | apply State.setRegBit_good | apply Good.ite | split
                                | (fail_if_no_progress refine Good.upd ?_ rfl rfl rfl rfl))

theorem State.showOos_good {s : State} (hG : Good kp s) (p_regs : kp.free .regs := by assumption) : Good kp (State.showOos s) := by
  unfold State.showOos
  try dsimp only
  with_reducible repeat' (first | assumption | apply State.setRegF_good)

theorem State.lineService_good {s : State} (agent : Nat) (out : Bool) (hG : Good kp s) (p_regs : kp.free .regs := by assumption)
    (p_control : kp.free .control := by assumption) (p_units : kp.free .units := by assumption) : Good kp
    (State.lineService s agent out) := by
  unfold State.lineService
  try dsimp only
  with_reducible repeat' (first | assumption | apply State.setUnit_good | apply State.settleEvents_good | apply State.setSeq_good
                                | apply State.showUnit_good | apply State.noCap_good | apply State.showOos_good | apply Good.ite)

theorem State.leaveService_good {s : State} (agent : Nat) (hG : Good kp s) (p_regs : kp.free .regs := by assumption)
    (p_mgmt : kp.free .mgmt := by assumption) (p_net : kp.free .net := by assumption) (p_control : kp.free .control := by assumption)
    (p_seals : kp.free .seals := by assumption) (p_power : kp.free .power := by assumption) (p_faults : kp.free .faults := by assumption)
    (p_units : kp.free .units := by assumption) (p_ctxs : kp.free .ctxs := by assumption) (p_rnds : kp.free .rnds := by assumption)
    (p_adm : kp.free .adm := by assumption) (p_stills : kp.free .stills := by assumption) (p_memory : kp.free .memory := by assumption)
    (p_pools : kp.free .pools := by assumption) : Good kp (State.leaveService s agent) := by
  unfold State.leaveService
  try dsimp only
  with_reducible repeat' (first | assumption | apply State.syncState_good | apply State.enterSafe_good | apply State.lineService_good
                                | apply Good.ite)

theorem State.lengthen_good {s : State} (g : Nat) (hG : Good kp s) (p_regs : kp.free .regs := by assumption) : Good kp
    (State.lengthen s g).1 := by
  unfold State.lengthen
  try dsimp only
  with_reducible repeat' (first | assumption | apply State.bump_good | apply State.setLine_good | apply Good.ite | split)

theorem State.storeMargins_good {s : State} (g : Nat) (ms : List Int) (hG : Good kp s) (p_regs : kp.free .regs := by assumption)
    (p_cal : kp.free .cal := by assumption) : Good kp (State.storeMargins s g ms) := by
  unfold State.storeMargins
  try dsimp only
  with_reducible repeat' (first | assumption | apply State.setLine_good | apply Good.ite | split
                                | (fail_if_no_progress refine Good.upd ?_ rfl rfl rfl rfl))

theorem State.measure_good {s : State} (agent : Nat) (ms : List (List Int)) (hG : Good kp s) (p_regs : kp.free .regs := by assumption)
    (p_mgmt : kp.free .mgmt := by assumption) (p_net : kp.free .net := by assumption) (p_control : kp.free .control := by assumption)
    (p_seals : kp.free .seals := by assumption) (p_power : kp.free .power := by assumption) (p_faults : kp.free .faults := by assumption)
    (p_units : kp.free .units := by assumption) (p_ctxs : kp.free .ctxs := by assumption) (p_rnds : kp.free .rnds := by assumption)
    (p_adm : kp.free .adm := by assumption) (p_stills : kp.free .stills := by assumption) (p_memory : kp.free .memory := by assumption)
    (p_pools : kp.free .pools := by assumption) (p_cal : kp.free .cal := by assumption) : Good kp (State.measure s agent ms) := by
  unfold State.measure
  try dsimp only
  with_reducible repeat' (first | assumption | apply State.storeMargins_good | apply State.lengthen_good | apply State.bump_good
                                | apply State.raiseFaults_good | apply State.leaveService_good | refine Good.foldl ?_ (fun t a ht => ?_)
                                | refine Good.foldl2 ?_ (fun t a ht => ?_) | refine Good.foldl1 ?_ (fun t a ht => ?_)
                                | refine Good.foldr ?_ (fun a t ht => ?_) | apply Good.ite | split
                                | (fail_if_no_progress refine Good.upd ?_ rfl rfl rfl rfl))

theorem State.measureOffset_good {s : State} (t1 : Int) (t2 : Int) (hG : Good kp s) (p_regs : kp.free .regs := by assumption)
    (p_time : kp.free .time := by assumption) (p_net : kp.free .net := by assumption) (p_control : kp.free .control := by assumption)
    (p_seals : kp.free .seals := by assumption) (p_ctxs : kp.free .ctxs := by assumption) (p_rnds : kp.free .rnds := by assumption)
    : Good kp (State.measureOffset s t1 t2) := by
  unfold State.measureOffset
  try dsimp only
  with_reducible repeat' (first | assumption | apply State.setReg_good | apply State.judgeOffset_good | apply Good.ite | split
                                | (fail_if_no_progress refine Good.upd ?_ rfl rfl rfl rfl))

theorem State.onAccept_good {s : State} (c : CRec) (hG : Good kp s) (p_regs : kp.free .regs := by assumption)
    (p_mgmt : kp.free .mgmt := by assumption) (p_net : kp.free .net := by assumption) (p_control : kp.free .control := by assumption)
    (p_seals : kp.free .seals := by assumption) (p_ctxs : kp.free .ctxs := by assumption) (p_rnds : kp.free .rnds := by assumption)
    (p_stills : kp.free .stills := by assumption) (p_pools : kp.free .pools := by assumption) : Good kp (State.onAccept s c) := by
  unfold State.onAccept
  try dsimp only
  with_reducible repeat' (first | assumption | apply State.sendDrained_good | apply State.acceptPicture_good
                                | apply State.acceptEncode_good | apply State.acceptComposed_good | apply Good.ite | split)

theorem State.startTest_good {s : State} (t : Ticket) (hG : Good kp s) (p_regs : kp.free .regs := by assumption)
    (p_mgmt : kp.free .mgmt := by assumption) (p_control : kp.free .control := by assumption) (p_units : kp.free .units := by assumption)
    : Good kp (State.startTest s t) := by
  unfold State.startTest
  try dsimp only
  with_reducible repeat' (first | assumption | apply State.readyTicket_good | apply State.beginTest_good | apply State.mapTicket_good
                                | apply Good.ite)

theorem State.startTests_good {s : State} (hG : Good kp s) (p_regs : kp.free .regs := by assumption)
    (p_mgmt : kp.free .mgmt := by assumption) (p_control : kp.free .control := by assumption) (p_units : kp.free .units := by assumption)
    : Good kp (State.startTests s) := by
  unfold State.startTests
  try dsimp only
  with_reducible repeat' (first | assumption | apply State.startTest_good | refine Good.foldl ?_ (fun t a ht => ?_))

theorem State.rndOpen_good {s : State} (n : Nat) (port : Nat) (hG : Good kp s) (p_regs : kp.free .regs := by assumption)
    (p_adm : kp.free .adm := by assumption) : Good kp (State.rndOpen s n port) := by
  unfold State.rndOpen
  try dsimp only
  with_reducible repeat' (first | assumption | apply State.rndToAdmitting_good | apply Good.ite | split
                                | (fail_if_no_progress refine Good.upd ?_ rfl rfl rfl rfl))

theorem State.pauseProxies_good {s : State} (hG : Good kp s) (p_regs : kp.free .regs := by assumption)
    (p_net : kp.free .net := by assumption) (p_seals : kp.free .seals := by assumption) (p_rnds : kp.free .rnds := by assumption)
    : Good kp (State.pauseProxies s) := by
  unfold State.pauseProxies
  try dsimp only
  with_reducible repeat' (first | assumption | apply State.haltRnd_good | apply State.setRegBit_good
                                | refine Good.foldl ?_ (fun t a ht => ?_) | refine Good.foldl2 ?_ (fun t a ht => ?_)
                                | refine Good.foldl1 ?_ (fun t a ht => ?_) | refine Good.foldr ?_ (fun a t ht => ?_) | apply Good.ite)

theorem State.ptpDrop_good {s : State} (f : RxFrame) (hG : Good kp s) (p_regs : kp.free .regs := by assumption) : Good kp
    (State.ptpDrop s f) := by
  unfold State.ptpDrop
  try dsimp only
  with_reducible repeat' (first | assumption | apply State.discard_good | apply State.bump_good | apply Good.ite | split)

theorem State.ptpStarted_good {s : State} (p : Nat) (f : OutFrame) (hG : Good kp s) (p_time : kp.free .time := by assumption)
    (p_net : kp.free .net := by assumption) : Good kp (State.ptpStarted s p f) := by
  unfold State.ptpStarted
  try dsimp only
  with_reducible repeat' (first | assumption | apply State.send_good | apply Good.ite | split
                                | (fail_if_no_progress refine Good.upd ?_ rfl rfl rfl rfl))

theorem State.publish_good {s : State} (agent : Nat) (f : Nat) (e : Nat) (hG : Good kp s) (p_regs : kp.free .regs := by assumption)
    : Good kp (State.publish s agent f e) := by
  unfold State.publish
  try dsimp only
  with_reducible repeat' (first | assumption | apply State.noCap_good | apply State.setReg_good | apply Good.ite)

theorem State.selectLines_good {s : State} (gs : List Nat) (hG : Good kp s) (p_regs : kp.free .regs := by assumption) : Good kp
    (State.selectLines s gs) := by
  unfold State.selectLines
  try dsimp only
  with_reducible repeat' (first | assumption | apply State.setLine_good | refine Good.foldl ?_ (fun t a ht => ?_)
                                | refine Good.foldl2 ?_ (fun t a ht => ?_) | refine Good.foldl1 ?_ (fun t a ht => ?_)
                                | refine Good.foldr ?_ (fun a t ht => ?_) | apply Good.ite | split)

theorem State.raiseMv_good (gs : List Nat) (live : List Nat) (x1 : Nat) (x2 : List (List (Nat × List Int))) {x3 : State} (hGx3
    : Good kp x3) (p_regs : kp.free .regs := by assumption) (p_cal : kp.free .cal := by assumption) : Good kp
    (State.raiseMv gs live x1 x2 x3).1 := by
  induction x1 generalizing x2 x3 with
  | zero => exact hGx3
  | succ j ih =>
    have h1 : Good kp (x3.selectLines gs) := State.selectLines_good gs hGx3
    unfold State.raiseMv
    dsimp only
    split
    · exact h1
    · apply ih
      refine Good.foldl (State.showActual_good (State.setRegF_good _ _ _ _ h1)) (fun t a ht => ?_)
      split
      · exact State.storeMargins_good _ _ ht
      · exact ht

theorem State.replan_good {s : State} (ps : List RingPair) (again : List (List (Nat × List Int))) (hG : Good kp s)
    (p_regs : kp.free .regs := by assumption) (p_mgmt : kp.free .mgmt := by assumption) (p_net : kp.free .net := by assumption)
    (p_control : kp.free .control := by assumption) (p_seals : kp.free .seals := by assumption)
    (p_power : kp.free .power := by assumption) (p_faults : kp.free .faults := by assumption) (p_units : kp.free .units := by assumption)
    (p_ctxs : kp.free .ctxs := by assumption) (p_rnds : kp.free .rnds := by assumption) (p_adm : kp.free .adm := by assumption)
    (p_stills : kp.free .stills := by assumption) (p_memory : kp.free .memory := by assumption)
    (p_pools : kp.free .pools := by assumption) (p_cal : kp.free .cal := by assumption) : Good kp (State.replan s ps again) := by
  unfold State.replan
  try dsimp only
  with_reducible repeat' (first | assumption | apply State.readMonitors_good | apply State.selectLines_good | apply State.raiseMv_good
                                | apply State.setRegF_good | apply State.setLine_good | apply State.raiseFaults_good
                                | apply State.leaveService_good | apply State.lineService_good | apply State.bump_good
                                | apply State.setRegBit_good | refine Good.foldl ?_ (fun t a ht => ?_)
                                | refine Good.foldl2 ?_ (fun t a ht => ?_) | refine Good.foldl1 ?_ (fun t a ht => ?_)
                                | refine Good.foldr ?_ (fun a t ht => ?_) | apply Good.ite | split
                                | (fail_if_no_progress refine Good.upd ?_ rfl rfl rfl rfl))

theorem State.resume_good {s : State} (n : Nat) (hG : Good kp s) (p_regs : kp.free .regs := by assumption)
    (p_net : kp.free .net := by assumption) (p_ctxs : kp.free .ctxs := by assumption) : Good kp (State.resume s n) := by
  unfold State.resume
  try dsimp only
  with_reducible repeat' (first | assumption | apply State.setVstate_good | apply State.setSess_good | apply State.setCtx_good
                                | apply Good.ite | split)

theorem State.stepEffect_good {s : State} (step : Nat) (up : Bool) (hG : Good kp s) (p_regs : kp.free .regs := by assumption)
    (p_mgmt : kp.free .mgmt := by assumption) (p_net : kp.free .net := by assumption) (p_seals : kp.free .seals := by assumption)
    (p_ctxs : kp.free .ctxs := by assumption) (p_rnds : kp.free .rnds := by assumption) (p_stills : kp.free .stills := by assumption)
    (p_pools : kp.free .pools := by assumption) : Good kp (State.stepEffect s step up) := by
  unfold State.stepEffect
  try dsimp only
  with_reducible repeat' (first | assumption | apply State.haltRnd_good | apply State.setRnd_good | apply State.endRndReam_good
                                | apply State.setRegBit_good | apply State.expireLeaves_good | apply State.setVstate_good
                                | refine Good.foldl ?_ (fun t a ht => ?_) | refine Good.foldl2 ?_ (fun t a ht => ?_)
                                | refine Good.foldl1 ?_ (fun t a ht => ?_) | refine Good.foldr ?_ (fun a t ht => ?_) | apply Good.ite)

theorem State.setShed_good {s : State} (new : Nat) (hG : Good kp s) (p_regs : kp.free .regs := by assumption)
    (p_mgmt : kp.free .mgmt := by assumption) (p_net : kp.free .net := by assumption) (p_seals : kp.free .seals := by assumption)
    (p_ctxs : kp.free .ctxs := by assumption) (p_rnds : kp.free .rnds := by assumption) (p_adm : kp.free .adm := by assumption)
    (p_stills : kp.free .stills := by assumption) (p_pools : kp.free .pools := by assumption) : Good kp (State.setShed s new) := by
  unfold State.setShed
  try dsimp only
  with_reducible repeat' (first | assumption | apply State.stepEffect_good | apply State.bump32_good | apply State.setRegBit_good
                                | apply State.setRegF_good | apply Good.ite | split
                                | (fail_if_no_progress refine Good.upd ?_ rfl rfl rfl rfl))

theorem State.resumption_good {s : State} (hG : Good kp s) (p_regs : kp.free .regs := by assumption)
    (p_mgmt : kp.free .mgmt := by assumption) (p_net : kp.free .net := by assumption) (p_seals : kp.free .seals := by assumption)
    (p_ctxs : kp.free .ctxs := by assumption) (p_rnds : kp.free .rnds := by assumption) (p_adm : kp.free .adm := by assumption)
    (p_stills : kp.free .stills := by assumption) (p_pools : kp.free .pools := by assumption) : Good kp (State.resumption s) := by
  unfold State.resumption
  try dsimp only
  with_reducible repeat' (first | assumption | apply State.resume_good | apply State.setRegF_good | apply State.setRegBit_good
                                | apply State.setShed_good | refine Good.foldl ?_ (fun t a ht => ?_)
                                | refine Good.foldl2 ?_ (fun t a ht => ?_) | refine Good.foldl1 ?_ (fun t a ht => ?_)
                                | refine Good.foldr ?_ (fun a t ht => ?_) | apply Good.ite | split
                                | (fail_if_no_progress refine Good.upd ?_ rfl rfl rfl rfl))

theorem State.returnTested_good {s : State} (agent : Nat) (pass : Option Bool) (hG : Good kp s) (p_regs : kp.free .regs := by assumption)
    (p_control : kp.free .control := by assumption) (p_seals : kp.free .seals := by assumption)
    (p_units : kp.free .units := by assumption) : Good kp (State.returnTested s agent pass) := by
  unfold State.returnTested
  try dsimp only
  with_reducible repeat' (first | assumption | apply State.selectLines_good | apply State.showOos_good | apply State.showUnit_good
                                | apply State.setUnit_good | apply State.settleEvents_good | apply State.setSeq_good
                                | apply State.startSign_good | apply Good.ite)

theorem State.roundRecs_good {s : State} (x1 : Nat) (x2 : List (Nat × HeldRec)) (hG : Good kp s) (p_regs : kp.free .regs := by assumption)
    (p_control : kp.free .control := by assumption) : Good kp (State.roundRecs s x1 x2).1 := by
  induction x2 generalizing x1 s with
  | nil => cases x1 <;> exact hG
  | cons y ks ih =>
    obtain ⟨u, h⟩ := y
    cases x1 with
    | zero =>
      unfold State.roundRecs
      apply ih
      exact Good.upd hG rfl rfl rfl rfl
    | succ r =>
      unfold State.roundRecs
      split
      · apply ih
        refine State.bump_good _ ?_
        exact Good.upd hG rfl rfl rfl rfl
      · exact ih _ (State.acceptRec_good _ _ hG)

theorem State.round_good {s : State} (hG : Good kp s) (p_regs : kp.free .regs := by assumption)
    (p_control : kp.free .control := by assumption) : Good kp (State.round s).1 := by
  unfold State.round
  try dsimp only
  with_reducible repeat' (first | assumption | apply State.roundRecs_good | apply State.raiseEvs_good | apply State.bump_good)

theorem State.suspend_good {s : State} (n : Nat) (hG : Good kp s) (p_regs : kp.free .regs := by assumption)
    (p_mgmt : kp.free .mgmt := by assumption) (p_net : kp.free .net := by assumption) (p_seals : kp.free .seals := by assumption)
    (p_ctxs : kp.free .ctxs := by assumption) (p_rnds : kp.free .rnds := by assumption) (p_stills : kp.free .stills := by assumption)
    (p_pools : kp.free .pools := by assumption) : Good kp (State.suspend s n) := by
  unfold State.suspend
  try dsimp only
  with_reducible repeat' (first | assumption | apply State.bump32_good | apply State.setVstate_good | apply State.setCtx_good
                                | apply State.absentPic_good | apply State.setSess_good | refine Good.foldl ?_ (fun t a ht => ?_)
                                | refine Good.foldl2 ?_ (fun t a ht => ?_) | refine Good.foldl1 ?_ (fun t a ht => ?_)
                                | refine Good.foldr ?_ (fun a t ht => ?_) | apply Good.ite | split)

theorem State.suspendSome_good {s : State} (hG : Good kp s) (p_regs : kp.free .regs := by assumption)
    (p_mgmt : kp.free .mgmt := by assumption) (p_net : kp.free .net := by assumption) (p_seals : kp.free .seals := by assumption)
    (p_ctxs : kp.free .ctxs := by assumption) (p_rnds : kp.free .rnds := by assumption) (p_stills : kp.free .stills := by assumption)
    (p_pools : kp.free .pools := by assumption) : Good kp (State.suspendSome s) := by
  unfold State.suspendSome
  try dsimp only
  with_reducible repeat' (first | assumption | apply State.suspend_good | refine Good.foldl ?_ (fun t a ht => ?_)
                                | refine Good.foldl2 ?_ (fun t a ht => ?_) | refine Good.foldl1 ?_ (fun t a ht => ?_)
                                | refine Good.foldr ?_ (fun a t ht => ?_) | apply Good.ite)

theorem State.shedding_good {s : State} (hG : Good kp s) (p_regs : kp.free .regs := by assumption)
    (p_mgmt : kp.free .mgmt := by assumption) (p_net : kp.free .net := by assumption) (p_seals : kp.free .seals := by assumption)
    (p_ctxs : kp.free .ctxs := by assumption) (p_rnds : kp.free .rnds := by assumption) (p_adm : kp.free .adm := by assumption)
    (p_stills : kp.free .stills := by assumption) (p_pools : kp.free .pools := by assumption) : Good kp (State.shedding s) := by
  have h2 : ∀ t : State, Good kp t → ∀ x : Adm, Good kp { t with adm := x } := fun t ht x => Good.upd ht rfl rfl rfl rfl
  have h1 : ∀ (x : Adm) (b : Nat), Good kp (({ s with adm := x } : State).setRegF Reg.GLB_ADM_STATE 3 4 b) :=
    fun x b => State.setRegF_good _ _ _ _ (h2 s hG x)
  have h3 : ∀ (t : State) (c d : Prop) [Decidable c] [Decidable d] (x : State → Adm) (y : State → Adm), Good kp t →
      Good kp (if d then ({ (if c then ({ t with adm := x t } : State).pauseProxies else t) with
        adm := y (if c then ({ t with adm := x t } : State).pauseProxies else t) } : State).suspendSome
        else (if c then ({ t with adm := x t } : State).pauseProxies else t)) := by
    intro t c d _ _ x y ht
    have h4 : Good kp (if c then ({ t with adm := x t } : State).pauseProxies else t) := Good.ite (State.pauseProxies_good (h2 t ht _)) ht
    exact Good.ite (State.suspendSome_good (h2 _ h4 _)) h4
  unfold State.shedding
  extract_lets _ _ _ _ _ _ _ _ _ a1 bits s1
  split
  · exact State.setShed_good _ (h1 _ _)
  · exact h3 s1 _ _ (fun t => { t.adm with after3 := 0 }) (fun t => { t.adm with after4 := 0 }) (h1 _ _)

theorem State.showCharges_good {s : State} (hG : Good kp s) (p_regs : kp.free .regs := by assumption) : Good kp
    (State.showCharges s) := by
  unfold State.showCharges
  try dsimp only
  with_reducible repeat' (first | assumption | apply State.setRegs_good | refine Good.foldl ?_ (fun t a ht => ?_))

theorem State.testFaults_good {s : State} (agent : Nat) (pass : Bool) (unfreeze : Bool) (hG : Good kp s)
    (p_regs : kp.free .regs := by assumption) (p_mgmt : kp.free .mgmt := by assumption) (p_net : kp.free .net := by assumption)
    (p_control : kp.free .control := by assumption) (p_seals : kp.free .seals := by assumption)
    (p_power : kp.free .power := by assumption) (p_faults : kp.free .faults := by assumption) (p_units : kp.free .units := by assumption)
    (p_ctxs : kp.free .ctxs := by assumption) (p_rnds : kp.free .rnds := by assumption) (p_adm : kp.free .adm := by assumption)
    (p_stills : kp.free .stills := by assumption) (p_memory : kp.free .memory := by assumption)
    (p_pools : kp.free .pools := by assumption) : Good kp (State.testFaults s agent pass unfreeze) := by
  unfold State.testFaults
  try dsimp only
  with_reducible repeat' (first | assumption | apply State.setCause_good | apply State.raiseFault_good | apply Good.ite)

theorem execAdmissionEvaluation_good {s : State} (hG : Good kp s) (p_regs : kp.free .regs := by assumption)
    (p_mgmt : kp.free .mgmt := by assumption) (p_net : kp.free .net := by assumption) (p_control : kp.free .control := by assumption)
    (p_seals : kp.free .seals := by assumption) (p_units : kp.free .units := by assumption) (p_ctxs : kp.free .ctxs := by assumption)
    (p_rnds : kp.free .rnds := by assumption) (p_adm : kp.free .adm := by assumption) (p_stills : kp.free .stills := by assumption)
    (p_pools : kp.free .pools := by assumption) : OutGood kp (execAdmissionEvaluation s) := by
  unfold execAdmissionEvaluation
  try dsimp only
  with_reducible repeat' (first | assumption | apply State.raiseEv_good | apply State.startTests_good | apply State.showCharges_good
                                | apply State.admission_good | apply State.resumption_good | apply State.shedding_good
                                | apply outGood_next | apply outGood_fault | apply Good.ite | apply OutGood.ite | split
                                | (fail_if_no_progress refine Good.upd ?_ rfl rfl rfl rfl))

theorem execAlloc_good (by_ : FeltBy) {s : State} (hG : Good kp s) (p_regs : kp.free .regs := by assumption)
    (p_mgmt : kp.free .mgmt := by assumption) (p_net : kp.free .net := by assumption) (p_control : kp.free .control := by assumption)
    (p_seals : kp.free .seals := by assumption) (p_power : kp.free .power := by assumption) (p_faults : kp.free .faults := by assumption)
    (p_units : kp.free .units := by assumption) (p_ctxs : kp.free .ctxs := by assumption) (p_rnds : kp.free .rnds := by assumption)
    (p_adm : kp.free .adm := by assumption) (p_stills : kp.free .stills := by assumption) (p_memory : kp.free .memory := by assumption)
    (p_pools : kp.free .pools := by assumption) : OutGood kp (execAlloc by_ s) := by
  unfold execAlloc
  try dsimp only
  with_reducible repeat' (first | assumption | apply State.feltRequest_good | apply outGood_next)

theorem execCalReplan_good {s : State} (hG : Good kp s) (p_regs : kp.free .regs := by assumption) : OutGood kp (execCalReplan s) := by
  unfold execCalReplan
  try dsimp only
  with_reducible repeat' (first | assumption | apply State.calReplan_good | apply outGood_next)

theorem execCalibrateDone_good (num : Nat) (dur : Nat) (ms : List (List Int)) (r : RefReading) {s : State} (hG : Good kp s)
    (p_regs : kp.free .regs := by assumption) (p_mgmt : kp.free .mgmt := by assumption) (p_net : kp.free .net := by assumption)
    (p_control : kp.free .control := by assumption) (p_seals : kp.free .seals := by assumption)
    (p_power : kp.free .power := by assumption) (p_faults : kp.free .faults := by assumption) (p_units : kp.free .units := by assumption)
    (p_ctxs : kp.free .ctxs := by assumption) (p_rnds : kp.free .rnds := by assumption) (p_adm : kp.free .adm := by assumption)
    (p_stills : kp.free .stills := by assumption) (p_memory : kp.free .memory := by assumption)
    (p_pools : kp.free .pools := by assumption) (p_cal : kp.free .cal := by assumption) : OutGood kp
    (execCalibrateDone num dur ms r s) := by
  unfold execCalibrateDone
  try dsimp only
  with_reducible repeat' (first | assumption | apply State.refCal_good | apply State.readyTicket_good | apply State.measure_good
                                | apply outGood_next | apply outGood_fault | apply Good.ite | apply OutGood.ite | split)

theorem execCapabilityPublish_good (k : Fin 96) (f : Nat) (e : Nat) {s : State} (hG : Good kp s) (p_regs : kp.free .regs := by assumption)
    : OutGood kp (execCapabilityPublish k f e s) := by
  unfold execCapabilityPublish
  try dsimp only
  with_reducible repeat' (first | assumption | apply State.publish_good | apply outGood_next)

theorem execCollectorRound_good {s : State} (hG : Good kp s) (p_regs : kp.free .regs := by assumption)
    (p_mgmt : kp.free .mgmt := by assumption) (p_net : kp.free .net := by assumption) (p_control : kp.free .control := by assumption)
    (p_seals : kp.free .seals := by assumption) (p_ctxs : kp.free .ctxs := by assumption) (p_rnds : kp.free .rnds := by assumption)
    (p_stills : kp.free .stills := by assumption) (p_pools : kp.free .pools := by assumption) : OutGood kp (execCollectorRound s) := by
  unfold execCollectorRound
  try dsimp only
  with_reducible repeat' (first | assumption | apply State.expireWaiting_good | apply State.round_good | apply State.settleSlots_good
                                | apply State.onAccept_good | apply outGood_next | apply outGood_fault
                                | refine Good.foldl ?_ (fun t a ht => ?_) | refine Good.foldl2 ?_ (fun t a ht => ?_)
                                | refine Good.foldl1 ?_ (fun t a ht => ?_) | refine Good.foldr ?_ (fun a t ht => ?_) | apply Good.ite
                                | apply OutGood.ite | split)

theorem execCurrentLimitStep_good {s : State} (hG : Good kp s) (p_regs : kp.free .regs := by assumption)
    (p_cal : kp.free .cal := by assumption) : OutGood kp (execCurrentLimitStep s) := by
  unfold execCurrentLimitStep
  try dsimp only
  with_reducible repeat' (first | assumption | apply State.bump_good | apply State.showActual_good | apply outGood_next
                                | apply outGood_fault | apply Good.ite | apply OutGood.ite | split
                                | (fail_if_no_progress refine Good.upd ?_ rfl rfl rfl rfl))

theorem execCurrentRestoreStep_good {s : State} (hG : Good kp s) (p_regs : kp.free .regs := by assumption)
    (p_cal : kp.free .cal := by assumption) : OutGood kp (execCurrentRestoreStep s) := by
  unfold execCurrentRestoreStep
  try dsimp only
  with_reducible repeat' (first | assumption | apply State.showActual_good | apply outGood_next | apply outGood_fault | apply Good.ite
                                | apply OutGood.ite | split | (fail_if_no_progress refine Good.upd ?_ rfl rfl rfl rfl))

theorem execDmaAbort_good (n : Fin 64) {s : State} (hG : Good kp s) (p_regs : kp.free .regs := by assumption)
    (p_dma : kp.free .dma := by assumption) : OutGood kp (execDmaAbort n s) := by
  unfold execDmaAbort
  try dsimp only
  with_reducible repeat' (first | assumption | apply State.dmaAbort_good | apply outGood_next)

theorem execDmaArm_good (n : Fin 64) (seq : Fin 8) {s : State} (hG : Good kp s) (p_regs : kp.free .regs := by assumption)
    (p_dma : kp.free .dma := by assumption) : OutGood kp (execDmaArm n seq s) := by
  unfold execDmaArm
  try dsimp only
  with_reducible repeat' (first | assumption | apply State.dmaArm_good | apply outGood_next)

theorem execDmaBurst_good (n : Fin 64) (line : Bool) (errs : List (Nat × List SymErr)) {s : State} (hG : Good kp s)
    (p_regs : kp.free .regs := by assumption) (p_mgmt : kp.free .mgmt := by assumption) (p_net : kp.free .net := by assumption)
    (p_control : kp.free .control := by assumption) (p_seals : kp.free .seals := by assumption)
    (p_power : kp.free .power := by assumption) (p_faults : kp.free .faults := by assumption) (p_units : kp.free .units := by assumption)
    (p_ctxs : kp.free .ctxs := by assumption) (p_rnds : kp.free .rnds := by assumption) (p_adm : kp.free .adm := by assumption)
    (p_stills : kp.free .stills := by assumption) (p_cells : kp.free .cells := by assumption)
    (p_memory : kp.free .memory := by assumption) (p_pools : kp.free .pools := by assumption) (p_dma : kp.free .dma := by assumption)
    : OutGood kp (execDmaBurst n line errs s) := by
  unfold execDmaBurst
  try dsimp only
  with_reducible repeat' (first | assumption | apply State.dmaBurst_good | apply outGood_next | apply outGood_fault | apply Good.ite
                                | apply OutGood.ite)

theorem execDmaClear_good (n : Fin 64) {s : State} (hG : Good kp s) (p_regs : kp.free .regs := by assumption)
    (p_dma : kp.free .dma := by assumption) : OutGood kp (execDmaClear n s) := by
  unfold execDmaClear
  try dsimp only
  with_reducible repeat' (first | assumption | apply State.dmaClear_good | apply outGood_next)

theorem execDmaGoSet_good (n : Fin 64) {s : State} (hG : Good kp s) (p_regs : kp.free .regs := by assumption) : OutGood kp
    (execDmaGoSet n s) := by
  unfold execDmaGoSet
  try dsimp only
  with_reducible repeat' (first | assumption | apply State.setRegBit_good | apply outGood_next)

theorem execDmaProgStart_good (n : Fin 64) {s : State} (hG : Good kp s) (p_regs : kp.free .regs := by assumption)
    (p_mgmt : kp.free .mgmt := by assumption) (p_net : kp.free .net := by assumption) (p_control : kp.free .control := by assumption)
    (p_seals : kp.free .seals := by assumption) (p_power : kp.free .power := by assumption) (p_faults : kp.free .faults := by assumption)
    (p_units : kp.free .units := by assumption) (p_ctxs : kp.free .ctxs := by assumption) (p_rnds : kp.free .rnds := by assumption)
    (p_adm : kp.free .adm := by assumption) (p_stills : kp.free .stills := by assumption) (p_cells : kp.free .cells := by assumption)
    (p_memory : kp.free .memory := by assumption) (p_pools : kp.free .pools := by assumption) (p_dma : kp.free .dma := by assumption)
    : OutGood kp (execDmaProgStart n s) := by
  unfold execDmaProgStart
  try dsimp only
  with_reducible repeat' (first | assumption | apply State.dmaProgStart_good | apply outGood_next)

theorem execDmaSwreqWrite_good (v : BitVec 8) {s : State} (hG : Good kp s) (p_regs : kp.free .regs := by assumption) : OutGood kp
    (execDmaSwreqWrite v s) := by
  unfold execDmaSwreqWrite
  try dsimp only
  with_reducible repeat' (first | assumption | apply State.setRegF_good | apply outGood_next)

theorem execDoorbell_good (i : Fin 8) {s : State} (hG : Good kp s) (p_regs : kp.free .regs := by assumption)
    (p_control : kp.free .control := by assumption) : OutGood kp (execDoorbell i s) := by
  unfold execDoorbell
  try dsimp only
  with_reducible repeat' (first | assumption | apply State.raiseEv_good | apply State.xopDone_good | apply outGood_next
                                | apply outGood_fault | apply Good.ite | apply OutGood.ite | split)

theorem execEnd_good (n : Fin 64) {s : State} (hG : Good kp s) (p_regs : kp.free .regs := by assumption)
    (p_mgmt : kp.free .mgmt := by assumption) (p_net : kp.free .net := by assumption) (p_control : kp.free .control := by assumption)
    (p_seals : kp.free .seals := by assumption) (p_power : kp.free .power := by assumption) (p_faults : kp.free .faults := by assumption)
    (p_units : kp.free .units := by assumption) (p_ctxs : kp.free .ctxs := by assumption) (p_rnds : kp.free .rnds := by assumption)
    (p_adm : kp.free .adm := by assumption) (p_stills : kp.free .stills := by assumption) (p_memory : kp.free .memory := by assumption)
    (p_pools : kp.free .pools := by assumption) (p_dma : kp.free .dma := by assumption) : OutGood kp (execEnd n s) := by
  unfold execEnd
  try dsimp only
  with_reducible repeat' (first | assumption | apply State.dmaInstrErr_good | apply State.showDma_good | apply State.raiseEv_good
                                | apply State.setRegBit_good | apply State.setDmaCh_good | apply State.dmaWait_good | apply outGood_next
                                | apply outGood_fault | apply Good.ite | apply OutGood.ite | split)

theorem execFastEventAccept_good (i : Fin 8) {s : State} (hG : Good kp s) (p_regs : kp.free .regs := by assumption)
    (p_control : kp.free .control := by assumption) : OutGood kp (execFastEventAccept i s) := by
  unfold execFastEventAccept
  try dsimp only
  with_reducible repeat' (first | assumption | apply State.acceptFast_good | apply outGood_next | apply outGood_fault | apply Good.ite
                                | apply OutGood.ite | split)

theorem execFetch_good (i : Fin 8) {s : State} (hG : Good kp s) (p_regs : kp.free .regs := by assumption)
    (p_mgmt : kp.free .mgmt := by assumption) (p_net : kp.free .net := by assumption) (p_control : kp.free .control := by assumption)
    (p_seals : kp.free .seals := by assumption) (p_power : kp.free .power := by assumption) (p_faults : kp.free .faults := by assumption)
    (p_units : kp.free .units := by assumption) (p_ctxs : kp.free .ctxs := by assumption) (p_rnds : kp.free .rnds := by assumption)
    (p_adm : kp.free .adm := by assumption) (p_stills : kp.free .stills := by assumption) (p_memory : kp.free .memory := by assumption)
    (p_pools : kp.free .pools := by assumption) : OutGood kp (execFetch i s) := by
  unfold execFetch
  try dsimp only
  with_reducible repeat' (first | assumption | apply State.acceptNormal_good | apply State.haltSeq_good | apply State.settleEvents_good
                                | apply State.setSeq_good | apply outGood_next | apply outGood_fault | apply Good.ite | apply OutGood.ite
                                | split)

theorem execFree_good (by_ : FeltBy) {s : State} (hG : Good kp s) (p_regs : kp.free .regs := by assumption)
    (p_mgmt : kp.free .mgmt := by assumption) (p_net : kp.free .net := by assumption) (p_control : kp.free .control := by assumption)
    (p_seals : kp.free .seals := by assumption) (p_power : kp.free .power := by assumption) (p_faults : kp.free .faults := by assumption)
    (p_units : kp.free .units := by assumption) (p_ctxs : kp.free .ctxs := by assumption) (p_rnds : kp.free .rnds := by assumption)
    (p_adm : kp.free .adm := by assumption) (p_stills : kp.free .stills := by assumption) (p_memory : kp.free .memory := by assumption)
    (p_pools : kp.free .pools := by assumption) : OutGood kp (execFree by_ s) := by
  unfold execFree
  try dsimp only
  with_reducible repeat' (first | assumption | apply State.feltRequest_good | apply outGood_next)

theorem execGive_good (by_ : FeltBy) {s : State} (hG : Good kp s) (p_regs : kp.free .regs := by assumption)
    (p_mgmt : kp.free .mgmt := by assumption) (p_net : kp.free .net := by assumption) (p_control : kp.free .control := by assumption)
    (p_seals : kp.free .seals := by assumption) (p_power : kp.free .power := by assumption) (p_faults : kp.free .faults := by assumption)
    (p_units : kp.free .units := by assumption) (p_ctxs : kp.free .ctxs := by assumption) (p_rnds : kp.free .rnds := by assumption)
    (p_adm : kp.free .adm := by assumption) (p_stills : kp.free .stills := by assumption) (p_memory : kp.free .memory := by assumption)
    (p_pools : kp.free .pools := by assumption) : OutGood kp (execGive by_ s) := by
  unfold execGive
  try dsimp only
  with_reducible repeat' (first | assumption | apply State.feltRequest_good | apply outGood_next)

theorem execGroupMeasurement_good (agent : Fin 256) (ms : List (List Int)) {s : State} (hG : Good kp s)
    (p_regs : kp.free .regs := by assumption) (p_mgmt : kp.free .mgmt := by assumption) (p_net : kp.free .net := by assumption)
    (p_control : kp.free .control := by assumption) (p_seals : kp.free .seals := by assumption)
    (p_power : kp.free .power := by assumption) (p_faults : kp.free .faults := by assumption) (p_units : kp.free .units := by assumption)
    (p_ctxs : kp.free .ctxs := by assumption) (p_rnds : kp.free .rnds := by assumption) (p_adm : kp.free .adm := by assumption)
    (p_stills : kp.free .stills := by assumption) (p_memory : kp.free .memory := by assumption)
    (p_pools : kp.free .pools := by assumption) (p_cal : kp.free .cal := by assumption) : OutGood kp
    (execGroupMeasurement agent ms s) := by
  unfold execGroupMeasurement
  try dsimp only
  with_reducible repeat' (first | assumption | apply State.measure_good | apply outGood_next | apply outGood_fault | apply Good.ite
                                | apply OutGood.ite)

theorem execHoldoffExpiry_good (g : Fin 64) {s : State} (hG : Good kp s) (p_regs : kp.free .regs := by assumption)
    (p_control : kp.free .control := by assumption) : OutGood kp (execHoldoffExpiry g s) := by
  unfold execHoldoffExpiry
  try dsimp only
  with_reducible repeat' (first | assumption | apply State.settleEvents_good | apply State.releaseGroup_good | apply outGood_next
                                | apply outGood_fault | apply Good.ite | apply OutGood.ite | split)

theorem execHoldoverExpiry_good {s : State} (hG : Good kp s) (p_regs : kp.free .regs := by assumption)
    (p_net : kp.free .net := by assumption) (p_control : kp.free .control := by assumption) (p_seals : kp.free .seals := by assumption)
    (p_ctxs : kp.free .ctxs := by assumption) (p_rnds : kp.free .rnds := by assumption) : OutGood kp (execHoldoverExpiry s) := by
  unfold execHoldoverExpiry
  try dsimp only
  with_reducible repeat' (first | assumption | apply State.setQuality_good | apply outGood_next | apply outGood_fault | apply Good.ite
                                | apply OutGood.ite)

theorem execLoad_good (i : Fin 8) (errs : List (Nat × List SymErr)) {s : State} (hG : Good kp s) (p_regs : kp.free .regs := by assumption)
    (p_mgmt : kp.free .mgmt := by assumption) (p_net : kp.free .net := by assumption) (p_control : kp.free .control := by assumption)
    (p_seals : kp.free .seals := by assumption) (p_power : kp.free .power := by assumption) (p_faults : kp.free .faults := by assumption)
    (p_units : kp.free .units := by assumption) (p_ctxs : kp.free .ctxs := by assumption) (p_rnds : kp.free .rnds := by assumption)
    (p_adm : kp.free .adm := by assumption) (p_stills : kp.free .stills := by assumption) (p_cells : kp.free .cells := by assumption)
    (p_memory : kp.free .memory := by assumption) (p_pools : kp.free .pools := by assumption) : OutGood kp (execLoad i errs s) := by
  unfold execLoad
  try dsimp only
  with_reducible repeat' (first | assumption | apply State.xopDone_good | apply State.busRead_good | apply State.setSeq_good
                                | apply outGood_next | apply outGood_fault | refine Good.foldl ?_ (fun t a ht => ?_)
                                | refine Good.foldl2 ?_ (fun t a ht => ?_) | refine Good.foldl1 ?_ (fun t a ht => ?_)
                                | refine Good.foldr ?_ (fun a t ht => ?_) | apply Good.ite | apply OutGood.ite | split)

theorem execLoop_good (n : Fin 64) {s : State} (hG : Good kp s) (p_regs : kp.free .regs := by assumption)
    (p_mgmt : kp.free .mgmt := by assumption) (p_net : kp.free .net := by assumption) (p_control : kp.free .control := by assumption)
    (p_seals : kp.free .seals := by assumption) (p_power : kp.free .power := by assumption) (p_faults : kp.free .faults := by assumption)
    (p_units : kp.free .units := by assumption) (p_ctxs : kp.free .ctxs := by assumption) (p_rnds : kp.free .rnds := by assumption)
    (p_adm : kp.free .adm := by assumption) (p_stills : kp.free .stills := by assumption) (p_cells : kp.free .cells := by assumption)
    (p_memory : kp.free .memory := by assumption) (p_pools : kp.free .pools := by assumption) (p_dma : kp.free .dma := by assumption)
    : OutGood kp (execLoop n s) := by
  unfold execLoop
  try dsimp only
  with_reducible repeat' (first | assumption | apply State.dmaInstrErr_good | apply State.dmaGoTo_good | apply outGood_next
                                | apply outGood_fault | apply Good.ite | apply OutGood.ite | split)

theorem execMicrowordStep_good (i : Fin 8) (rd : StoreRead) {s : State} (hG : Good kp s) (p_freeCtr : kp.free .freeCtr := by assumption)
    (p_regs : kp.free .regs := by assumption) (p_mgmt : kp.free .mgmt := by assumption) (p_net : kp.free .net := by assumption)
    (p_control : kp.free .control := by assumption) (p_seals : kp.free .seals := by assumption)
    (p_power : kp.free .power := by assumption) (p_faults : kp.free .faults := by assumption) (p_units : kp.free .units := by assumption)
    (p_ctxs : kp.free .ctxs := by assumption) (p_rnds : kp.free .rnds := by assumption) (p_adm : kp.free .adm := by assumption)
    (p_stills : kp.free .stills := by assumption) (p_memory : kp.free .memory := by assumption)
    (p_pools : kp.free .pools := by assumption) : OutGood kp (execMicrowordStep i rd s) := by
  unfold execMicrowordStep
  try dsimp only
  with_reducible repeat' (first | assumption | apply State.haltSeq_good | apply State.bump_good | apply State.advance_good
                                | apply State.fresh_good | apply State.setSeq_good | apply outGood_next | apply outGood_fault
                                | apply Good.ite | apply OutGood.ite | split)

theorem execMove_good (n : Fin 64) {s : State} (hG : Good kp s) (p_regs : kp.free .regs := by assumption)
    (p_mgmt : kp.free .mgmt := by assumption) (p_net : kp.free .net := by assumption) (p_control : kp.free .control := by assumption)
    (p_seals : kp.free .seals := by assumption) (p_power : kp.free .power := by assumption) (p_faults : kp.free .faults := by assumption)
    (p_units : kp.free .units := by assumption) (p_ctxs : kp.free .ctxs := by assumption) (p_rnds : kp.free .rnds := by assumption)
    (p_adm : kp.free .adm := by assumption) (p_stills : kp.free .stills := by assumption) (p_cells : kp.free .cells := by assumption)
    (p_memory : kp.free .memory := by assumption) (p_pools : kp.free .pools := by assumption) (p_dma : kp.free .dma := by assumption)
    : OutGood kp (execMove n s) := by
  unfold execMove
  try dsimp only
  with_reducible repeat' (first | assumption | apply State.dmaInstrErr_good | apply State.dmaWait_good | apply State.dmaError_good
                                | apply State.busRead_good | apply State.setRegBit_good | apply State.setRegs_good
                                | apply State.dmaGoTo_good | apply State.dmaArm_good | apply outGood_next | apply outGood_fault
                                | apply Good.ite | apply OutGood.ite | split)

theorem execNop_good (n : Fin 64) {s : State} (hG : Good kp s) (p_regs : kp.free .regs := by assumption)
    (p_mgmt : kp.free .mgmt := by assumption) (p_net : kp.free .net := by assumption) (p_control : kp.free .control := by assumption)
    (p_seals : kp.free .seals := by assumption) (p_power : kp.free .power := by assumption) (p_faults : kp.free .faults := by assumption)
    (p_units : kp.free .units := by assumption) (p_ctxs : kp.free .ctxs := by assumption) (p_rnds : kp.free .rnds := by assumption)
    (p_adm : kp.free .adm := by assumption) (p_stills : kp.free .stills := by assumption) (p_cells : kp.free .cells := by assumption)
    (p_memory : kp.free .memory := by assumption) (p_pools : kp.free .pools := by assumption) (p_dma : kp.free .dma := by assumption)
    : OutGood kp (execNop n s) := by
  unfold execNop
  try dsimp only
  with_reducible repeat' (first | assumption | apply State.dmaInstrErr_good | apply State.dmaGoTo_good | apply outGood_next
                                | apply outGood_fault | apply Good.ite | apply OutGood.ite | split)

theorem execPop_good (i : Fin 8) {s : State} (hG : Good kp s) (p_control : kp.free .control := by assumption) : OutGood kp
    (execPop i s) := by
  unfold execPop
  try dsimp only
  with_reducible repeat' (first | assumption | apply State.xopDone_good | apply State.setSeq_good | apply outGood_next
                                | apply outGood_fault | refine Good.foldl ?_ (fun t a ht => ?_) | refine Good.foldl2 ?_ (fun t a ht => ?_)
                                | refine Good.foldl1 ?_ (fun t a ht => ?_) | refine Good.foldr ?_ (fun a t ht => ?_) | apply Good.ite
                                | apply OutGood.ite | split)

theorem execPtpAnnounce_good (f : RxFrame) (m : PtpMsg) (a : Announce) {s : State} (hG : Good kp s)
    (p_regs : kp.free .regs := by assumption) (p_time : kp.free .time := by assumption) (p_net : kp.free .net := by assumption)
    (p_control : kp.free .control := by assumption) (p_seals : kp.free .seals := by assumption) (p_ctxs : kp.free .ctxs := by assumption)
    (p_rnds : kp.free .rnds := by assumption) : OutGood kp (execPtpAnnounce f m a s) := by
  unfold execPtpAnnounce
  try dsimp only
  with_reducible repeat' (first | assumption | apply State.ptpDrop_good | apply State.runBmca_good | apply State.bump_good
                                | apply outGood_next | apply outGood_fault | apply Good.ite | apply OutGood.ite)

theorem execPtpDelayReqTimer_good {s : State} (hG : Good kp s) (p_time : kp.free .time := by assumption)
    (p_net : kp.free .net := by assumption) : OutGood kp (execPtpDelayReqTimer s) := by
  unfold execPtpDelayReqTimer
  try dsimp only
  with_reducible repeat' (first | assumption | apply State.send_good | apply outGood_next | apply outGood_fault | apply Good.ite
                                | apply OutGood.ite | split | (fail_if_no_progress refine Good.upd ?_ rfl rfl rfl rfl))

theorem execPtpDelayResp_good (f : RxFrame) (m : PtpMsg) {s : State} (hG : Good kp s) (p_regs : kp.free .regs := by assumption)
    (p_time : kp.free .time := by assumption) : OutGood kp (execPtpDelayResp f m s) := by
  unfold execPtpDelayResp
  try dsimp only
  with_reducible repeat' (first | assumption | apply State.ptpDrop_good | apply State.bump_good | apply outGood_next | apply outGood_fault
                                | apply Good.ite | apply OutGood.ite | split | (fail_if_no_progress refine Good.upd ?_ rfl rfl rfl rfl))

theorem execPtpFollowUp_good (f : RxFrame) (m : PtpMsg) {s : State} (hG : Good kp s) (p_regs : kp.free .regs := by assumption)
    (p_time : kp.free .time := by assumption) (p_net : kp.free .net := by assumption) (p_control : kp.free .control := by assumption)
    (p_seals : kp.free .seals := by assumption) (p_ctxs : kp.free .ctxs := by assumption) (p_rnds : kp.free .rnds := by assumption)
    : OutGood kp (execPtpFollowUp f m s) := by
  unfold execPtpFollowUp
  try dsimp only
  with_reducible repeat' (first | assumption | apply State.ptpDrop_good | apply State.bump_good | apply State.measureOffset_good
                                | apply outGood_next | apply outGood_fault | apply Good.ite | apply OutGood.ite | split
                                | (fail_if_no_progress refine Good.upd ?_ rfl rfl rfl rfl))

theorem execPtpPdelayReq_good (f : RxFrame) (m : PtpMsg) {s : State} (hG : Good kp s) (p_regs : kp.free .regs := by assumption)
    (p_net : kp.free .net := by assumption) : OutGood kp (execPtpPdelayReq f m s) := by
  unfold execPtpPdelayReq
  try dsimp only
  with_reducible repeat' (first | assumption | apply State.ptpDrop_good | apply State.bump_good | apply State.send_good
                                | apply outGood_next | apply outGood_fault | apply Good.ite | apply OutGood.ite)

theorem execPtpPdelayResp_good (f : RxFrame) (resp : PtpMsg) (follow : PtpMsg) {s : State} (hG : Good kp s)
    (p_regs : kp.free .regs := by assumption) (p_time : kp.free .time := by assumption) : OutGood kp
    (execPtpPdelayResp f resp follow s) := by
  unfold execPtpPdelayResp
  try dsimp only
  with_reducible repeat' (first | assumption | apply State.ptpDrop_good | apply State.bump_good | apply outGood_next | apply outGood_fault
                                | apply Good.ite | apply OutGood.ite | split | (fail_if_no_progress refine Good.upd ?_ rfl rfl rfl rfl))

theorem execPtpSync_good (f : RxFrame) (m : PtpMsg) {s : State} (hG : Good kp s) (p_regs : kp.free .regs := by assumption)
    (p_time : kp.free .time := by assumption) (p_net : kp.free .net := by assumption) (p_control : kp.free .control := by assumption)
    (p_seals : kp.free .seals := by assumption) (p_ctxs : kp.free .ctxs := by assumption) (p_rnds : kp.free .rnds := by assumption)
    : OutGood kp (execPtpSync f m s) := by
  unfold execPtpSync
  try dsimp only
  with_reducible repeat' (first | assumption | apply State.ptpDrop_good | apply State.bump_good | apply State.measureOffset_good
                                | apply outGood_next | apply outGood_fault | apply Good.ite | apply OutGood.ite | split
                                | (fail_if_no_progress refine Good.upd ?_ rfl rfl rfl rfl))

theorem execRefCalibration_good (r : RefReading) {s : State} (hG : Good kp s) (p_regs : kp.free .regs := by assumption)
    (p_mgmt : kp.free .mgmt := by assumption) (p_net : kp.free .net := by assumption) (p_control : kp.free .control := by assumption)
    (p_seals : kp.free .seals := by assumption) (p_power : kp.free .power := by assumption) (p_faults : kp.free .faults := by assumption)
    (p_units : kp.free .units := by assumption) (p_ctxs : kp.free .ctxs := by assumption) (p_rnds : kp.free .rnds := by assumption)
    (p_adm : kp.free .adm := by assumption) (p_stills : kp.free .stills := by assumption) (p_memory : kp.free .memory := by assumption)
    (p_pools : kp.free .pools := by assumption) (p_cal : kp.free .cal := by assumption) : OutGood kp (execRefCalibration r s) := by
  unfold execRefCalibration
  try dsimp only
  with_reducible repeat' (first | assumption | apply State.refCal_good | apply outGood_next | apply outGood_fault | apply Good.ite
                                | apply OutGood.ite | split)

theorem execReplan_good (ps : List RingPair) (again : List (List (Nat × List Int))) {s : State} (hG : Good kp s)
    (p_regs : kp.free .regs := by assumption) (p_mgmt : kp.free .mgmt := by assumption) (p_net : kp.free .net := by assumption)
    (p_control : kp.free .control := by assumption) (p_seals : kp.free .seals := by assumption)
    (p_power : kp.free .power := by assumption) (p_faults : kp.free .faults := by assumption) (p_units : kp.free .units := by assumption)
    (p_ctxs : kp.free .ctxs := by assumption) (p_rnds : kp.free .rnds := by assumption) (p_adm : kp.free .adm := by assumption)
    (p_stills : kp.free .stills := by assumption) (p_memory : kp.free .memory := by assumption)
    (p_pools : kp.free .pools := by assumption) (p_cal : kp.free .cal := by assumption) : OutGood kp (execReplan ps again s) := by
  unfold execReplan
  try dsimp only
  with_reducible repeat' (first | assumption | apply State.raiseEv_good | apply State.replan_good | apply outGood_next
                                | apply outGood_fault | apply Good.ite | apply OutGood.ite | split
                                | (fail_if_no_progress refine Good.upd ?_ rfl rfl rfl rfl))

theorem execRetf_good (i : Fin 8) {s : State} (hG : Good kp s) (p_regs : kp.free .regs := by assumption)
    (p_control : kp.free .control := by assumption) : OutGood kp (execRetf i s) := by
  unfold execRetf
  try dsimp only
  with_reducible repeat' (first | assumption | apply State.settleEvents_good | apply State.setSeq_good | apply State.xopDone_good
                                | apply outGood_next | apply outGood_fault | apply Good.ite | apply OutGood.ite | split)

theorem execRndClose_good (n : Fin 1024) {s : State} (hG : Good kp s) (p_regs : kp.free .regs := by assumption)
    (p_net : kp.free .net := by assumption) (p_seals : kp.free .seals := by assumption) (p_ctxs : kp.free .ctxs := by assumption)
    (p_rnds : kp.free .rnds := by assumption) (p_pools : kp.free .pools := by assumption) : OutGood kp (execRndClose n s) := by
  unfold execRndClose
  try dsimp only
  with_reducible repeat' (first | assumption | apply State.rndLeaveOpen_good | apply outGood_next)

theorem execRndOpen_good (n : Fin 1024) (port : Fin 5) {s : State} (hG : Good kp s) (p_regs : kp.free .regs := by assumption)
    (p_adm : kp.free .adm := by assumption) : OutGood kp (execRndOpen n port s) := by
  unfold execRndOpen
  try dsimp only
  with_reducible repeat' (first | assumption | apply State.rndOpen_good | apply outGood_next)

theorem execSeal_good (i : Fin 8) {s : State} (hG : Good kp s) (p_control : kp.free .control := by assumption) : OutGood kp
    (execSeal i s) := by
  unfold execSeal
  try dsimp only
  with_reducible repeat' (first | assumption | apply State.xopDone_good | apply outGood_next | apply outGood_fault | apply Good.ite
                                | apply OutGood.ite | split | (fail_if_no_progress refine Good.upd ?_ rfl rfl rfl rfl))

theorem execSelfTestDone_good (agent : Fin 256) (verdict : Fin 4) (dur : Nat) (ms : List (List Int)) {s : State} (hG : Good kp s)
    (p_regs : kp.free .regs := by assumption) (p_mgmt : kp.free .mgmt := by assumption) (p_net : kp.free .net := by assumption)
    (p_control : kp.free .control := by assumption) (p_seals : kp.free .seals := by assumption)
    (p_power : kp.free .power := by assumption) (p_faults : kp.free .faults := by assumption) (p_units : kp.free .units := by assumption)
    (p_ctxs : kp.free .ctxs := by assumption) (p_rnds : kp.free .rnds := by assumption) (p_adm : kp.free .adm := by assumption)
    (p_stills : kp.free .stills := by assumption) (p_memory : kp.free .memory := by assumption)
    (p_pools : kp.free .pools := by assumption) (p_cal : kp.free .cal := by assumption) : OutGood kp
    (execSelfTestDone agent verdict dur ms s) := by
  unfold execSelfTestDone
  try dsimp only
  with_reducible repeat' (first | assumption | apply State.storeMargins_good | apply State.returnTested_good
                                | apply State.readyTicket_good | apply State.testFaults_good | apply State.sendRecord_good
                                | apply State.startTests_good | apply State.startSign_good | apply outGood_next | apply outGood_fault
                                | refine Good.foldl ?_ (fun t a ht => ?_) | refine Good.foldl2 ?_ (fun t a ht => ?_)
                                | refine Good.foldl1 ?_ (fun t a ht => ?_) | refine Good.foldr ?_ (fun a t ht => ?_) | apply Good.ite
                                | apply OutGood.ite | split)

theorem execSelfTestFitTimeout_good (num : Nat) {s : State} (hG : Good kp s) (p_mgmt : kp.free .mgmt := by assumption) : OutGood kp
    (execSelfTestFitTimeout num s) := by
  unfold execSelfTestFitTimeout
  try dsimp only
  with_reducible repeat' (first | assumption | apply State.readyTicket_good | apply outGood_next | apply outGood_fault | apply Good.ite
                                | apply OutGood.ite | split)

theorem execSeqWake_good (i : Fin 8) {s : State} (hG : Good kp s) (p_regs : kp.free .regs := by assumption)
    (p_control : kp.free .control := by assumption) : OutGood kp (execSeqWake i s) := by
  unfold execSeqWake
  try dsimp only
  with_reducible repeat' (first | assumption | apply State.bump_good | apply State.setSeq_good | apply State.settleEvents_good
                                | apply State.advance_good | apply outGood_next | apply outGood_fault | apply Good.ite
                                | apply OutGood.ite)

theorem execSetprio_good (i : Fin 8) {s : State} (hG : Good kp s) (p_regs : kp.free .regs := by assumption)
    (p_control : kp.free .control := by assumption) : OutGood kp (execSetprio i s) := by
  unfold execSetprio
  try dsimp only
  with_reducible repeat' (first | assumption | apply State.settleEvents_good | apply State.xopDone_good | apply State.setSeq_good
                                | apply outGood_next | apply outGood_fault | apply Good.ite | apply OutGood.ite | split)

theorem execSignal_good (n : Fin 64) {s : State} (hG : Good kp s) (p_regs : kp.free .regs := by assumption)
    (p_mgmt : kp.free .mgmt := by assumption) (p_net : kp.free .net := by assumption) (p_control : kp.free .control := by assumption)
    (p_seals : kp.free .seals := by assumption) (p_power : kp.free .power := by assumption) (p_faults : kp.free .faults := by assumption)
    (p_units : kp.free .units := by assumption) (p_ctxs : kp.free .ctxs := by assumption) (p_rnds : kp.free .rnds := by assumption)
    (p_adm : kp.free .adm := by assumption) (p_stills : kp.free .stills := by assumption) (p_cells : kp.free .cells := by assumption)
    (p_memory : kp.free .memory := by assumption) (p_pools : kp.free .pools := by assumption) (p_dma : kp.free .dma := by assumption)
    : OutGood kp (execSignal n s) := by
  unfold execSignal
  try dsimp only
  with_reducible repeat' (first | assumption | apply State.dmaInstrErr_good | apply State.dmaWait_good | apply State.dmaGoTo_good
                                | apply State.raiseEv_good | apply State.setReg_good | apply outGood_next | apply outGood_fault
                                | apply Good.ite | apply OutGood.ite | split)

theorem execSleep_good (i : Fin 8) {s : State} (hG : Good kp s) (p_regs : kp.free .regs := by assumption)
    (p_mgmt : kp.free .mgmt := by assumption) (p_net : kp.free .net := by assumption) (p_control : kp.free .control := by assumption)
    (p_seals : kp.free .seals := by assumption) (p_power : kp.free .power := by assumption) (p_faults : kp.free .faults := by assumption)
    (p_units : kp.free .units := by assumption) (p_ctxs : kp.free .ctxs := by assumption) (p_rnds : kp.free .rnds := by assumption)
    (p_adm : kp.free .adm := by assumption) (p_stills : kp.free .stills := by assumption) (p_memory : kp.free .memory := by assumption)
    (p_pools : kp.free .pools := by assumption) : OutGood kp (execSleep i s) := by
  unfold execSleep
  try dsimp only
  with_reducible repeat' (first | assumption | apply State.haltSeq_good | apply State.setSeq_good | apply State.settleEvents_good
                                | apply State.bump_good | apply State.releaseGroup_good | apply State.acceptFast_good
                                | apply State.acceptNormal_good | apply outGood_next | apply outGood_fault
                                | refine Good.foldl ?_ (fun t a ht => ?_) | refine Good.foldl2 ?_ (fun t a ht => ?_)
                                | refine Good.foldl1 ?_ (fun t a ht => ?_) | refine Good.foldr ?_ (fun a t ht => ?_) | apply Good.ite
                                | apply OutGood.ite | split)

theorem execStore_good (i : Fin 8) (errs : List (Nat × List SymErr)) {s : State} (hG : Good kp s)
    (p_regs : kp.free .regs := by assumption) (p_mgmt : kp.free .mgmt := by assumption) (p_net : kp.free .net := by assumption)
    (p_control : kp.free .control := by assumption) (p_seals : kp.free .seals := by assumption)
    (p_power : kp.free .power := by assumption) (p_faults : kp.free .faults := by assumption) (p_units : kp.free .units := by assumption)
    (p_ctxs : kp.free .ctxs := by assumption) (p_rnds : kp.free .rnds := by assumption) (p_adm : kp.free .adm := by assumption)
    (p_stills : kp.free .stills := by assumption) (p_cells : kp.free .cells := by assumption)
    (p_memory : kp.free .memory := by assumption) (p_pools : kp.free .pools := by assumption) : OutGood kp (execStore i errs s) := by
  unfold execStore
  try dsimp only
  with_reducible repeat' (first | assumption | apply State.xopDone_good | apply State.busWrite_good | apply outGood_next
                                | apply outGood_fault | refine Good.foldl ?_ (fun t a ht => ?_) | refine Good.foldl2 ?_ (fun t a ht => ?_)
                                | refine Good.foldl1 ?_ (fun t a ht => ?_) | refine Good.foldr ?_ (fun a t ht => ?_) | apply Good.ite
                                | apply OutGood.ite | split)

theorem execSyncLossTimeout_good {s : State} (hG : Good kp s) (p_regs : kp.free .regs := by assumption)
    (p_time : kp.free .time := by assumption) (p_net : kp.free .net := by assumption) (p_control : kp.free .control := by assumption)
    (p_seals : kp.free .seals := by assumption) (p_ctxs : kp.free .ctxs := by assumption) (p_rnds : kp.free .rnds := by assumption)
    : OutGood kp (execSyncLossTimeout s) := by
  unfold execSyncLossTimeout
  try dsimp only
  with_reducible repeat' (first | assumption | apply State.setQuality_good | apply State.bump32_good | apply outGood_next
                                | apply outGood_fault | apply Good.ite | apply OutGood.ite | split
                                | (fail_if_no_progress refine Good.upd ?_ rfl rfl rfl rfl))

theorem execTemperatureLimitCrossing_good (t : Int) (sensor : Fin 16) {s : State} (hG : Good kp s)
    (p_regs : kp.free .regs := by assumption) (p_mgmt : kp.free .mgmt := by assumption) (p_net : kp.free .net := by assumption)
    (p_control : kp.free .control := by assumption) (p_seals : kp.free .seals := by assumption)
    (p_power : kp.free .power := by assumption) (p_faults : kp.free .faults := by assumption) (p_units : kp.free .units := by assumption)
    (p_ctxs : kp.free .ctxs := by assumption) (p_rnds : kp.free .rnds := by assumption) (p_adm : kp.free .adm := by assumption)
    (p_stills : kp.free .stills := by assumption) (p_memory : kp.free .memory := by assumption)
    (p_pools : kp.free .pools := by assumption) : OutGood kp (execTemperatureLimitCrossing t sensor s) := by
  unfold execTemperatureLimitCrossing
  try dsimp only
  with_reducible repeat' (first | assumption | apply State.showTemp_good | apply State.setRegBit_good | apply State.raiseFault_good
                                | apply State.setCause_good | apply outGood_next | apply outGood_fault | apply Good.ite
                                | apply OutGood.ite | split | (fail_if_no_progress refine Good.upd ?_ rfl rfl rfl rfl))

theorem execUnit_good (i : Fin 8) {s : State} (hG : Good kp s) (p_control : kp.free .control := by assumption) : OutGood kp
    (execUnit i s) := by
  unfold execUnit
  try dsimp only
  with_reducible repeat' (first | assumption | apply State.xopDone_good | apply outGood_next | apply outGood_fault | apply Good.ite
                                | apply OutGood.ite | split | (fail_if_no_progress refine Good.upd ?_ rfl rfl rfl rfl))

theorem execWait_good (n : Fin 64) (line : Bool) {s : State} (hG : Good kp s) (p_regs : kp.free .regs := by assumption)
    (p_mgmt : kp.free .mgmt := by assumption) (p_net : kp.free .net := by assumption) (p_control : kp.free .control := by assumption)
    (p_seals : kp.free .seals := by assumption) (p_power : kp.free .power := by assumption) (p_faults : kp.free .faults := by assumption)
    (p_units : kp.free .units := by assumption) (p_ctxs : kp.free .ctxs := by assumption) (p_rnds : kp.free .rnds := by assumption)
    (p_adm : kp.free .adm := by assumption) (p_stills : kp.free .stills := by assumption) (p_cells : kp.free .cells := by assumption)
    (p_memory : kp.free .memory := by assumption) (p_pools : kp.free .pools := by assumption) (p_dma : kp.free .dma := by assumption)
    : OutGood kp (execWait n line s) := by
  unfold execWait
  try dsimp only
  with_reducible repeat' (first | assumption | apply State.dmaInstrErr_good | apply State.setRegBit_good | apply State.dmaGoTo_good
                                | apply State.dmaWait_good | apply outGood_next | apply outGood_fault | apply Good.ite | apply OutGood.ite
                                | split)

theorem execWaitTimeout_good (n : Fin 64) {s : State} (hG : Good kp s) (p_regs : kp.free .regs := by assumption)
    (p_mgmt : kp.free .mgmt := by assumption) (p_net : kp.free .net := by assumption) (p_control : kp.free .control := by assumption)
    (p_seals : kp.free .seals := by assumption) (p_power : kp.free .power := by assumption) (p_faults : kp.free .faults := by assumption)
    (p_units : kp.free .units := by assumption) (p_ctxs : kp.free .ctxs := by assumption) (p_rnds : kp.free .rnds := by assumption)
    (p_adm : kp.free .adm := by assumption) (p_stills : kp.free .stills := by assumption) (p_memory : kp.free .memory := by assumption)
    (p_pools : kp.free .pools := by assumption) (p_dma : kp.free .dma := by assumption) : OutGood kp (execWaitTimeout n s) := by
  unfold execWaitTimeout
  try dsimp only
  with_reducible repeat' (first | assumption | apply State.dmaError_good | apply State.dmaInstrErr_good | apply outGood_next
                                | apply outGood_fault | apply Good.ite | apply OutGood.ite | split)

end Sys2Proof.Machine
end

