-- ==== Sys2Proof/Laws/KeepBoot.lean ====
section
/-!
SUPPORT. What the operations of the settle pass, boot, epochs and power failure keep: the queue, the canonical form of the tables, and every part of the
state but those that a lemma asks to be free.
-/
set_option Elab.async false

namespace Sys2Proof.Machine

variable {kp : Kept}

theorem State.applyCfg_good (old : Tab Word) {s : State} (a : Nat) (hG : Good kp s) (p_net : kp.free .net := by assumption) : Good kp
    (State.applyCfg old s a) := by
  unfold State.applyCfg
  try dsimp only
  with_reducible repeat' (first | assumption | apply State.setPort_good | apply State.setEgq_good | apply Good.ite | split
                                | (fail_if_no_progress refine Good.upd ?_ rfl rfl rfl rfl))

theorem State.dropBacklog_good {s : State} (n : Nat) (hG : Good kp s) (p_regs : kp.free .regs := by assumption)
    (p_net : kp.free .net := by assumption) : Good kp (State.dropBacklog s n) := by
  unfold State.dropBacklog
  try dsimp only
  with_reducible repeat' (first | assumption | apply State.bumpN_good | apply State.tagQueue_good | apply State.setEgq_good
                                | refine Good.foldl ?_ (fun t a ht => ?_) | refine Good.foldl2 ?_ (fun t a ht => ?_)
                                | refine Good.foldl1 ?_ (fun t a ht => ?_) | refine Good.foldr ?_ (fun a t ht => ?_) | apply Good.ite)

theorem State.partnerOff_good {s : State} (n : Nat) (hG : Good kp s) (p_regs : kp.free .regs := by assumption)
    (p_mgmt : kp.free .mgmt := by assumption) (p_net : kp.free .net := by assumption) (p_control : kp.free .control := by assumption)
    (p_seals : kp.free .seals := by assumption) (p_ctxs : kp.free .ctxs := by assumption) (p_rnds : kp.free .rnds := by assumption)
    (p_adm : kp.free .adm := by assumption) (p_stills : kp.free .stills := by assumption) (p_pools : kp.free .pools := by assumption)
    : Good kp (State.partnerOff s n) := by
  unfold State.partnerOff
  try dsimp only
  with_reducible repeat' (first | assumption | apply State.abortSess_good | apply State.dropBacklog_good
                                | refine Good.foldl ?_ (fun t a ht => ?_))

theorem State.announceEffects_good {s : State} (old : Tab Word) (new : Tab Word) (hG : Good kp s)
    (p_regs : kp.free .regs := by assumption) (p_mgmt : kp.free .mgmt := by assumption) (p_net : kp.free .net := by assumption)
    (p_control : kp.free .control := by assumption) (p_seals : kp.free .seals := by assumption)
    (p_faults : kp.free .faults := by assumption) (p_ctxs : kp.free .ctxs := by assumption) (p_rnds : kp.free .rnds := by assumption)
    (p_adm : kp.free .adm := by assumption) (p_stills : kp.free .stills := by assumption) (p_memory : kp.free .memory := by assumption)
    (p_pools : kp.free .pools := by assumption) : Good kp (State.announceEffects s old new) := by
  unfold State.announceEffects
  try dsimp only
  with_reducible repeat' (first | assumption | apply State.applyCfg_good | apply State.partnerOff_good | apply State.showActual_good
                                | apply State.setRegF_good | apply State.expireLeaves_good | apply State.syncState_good
                                | apply State.settleEvents_good | apply State.drainDue_good | refine Good.foldl ?_ (fun t a ht => ?_)
                                | refine Good.foldl2 ?_ (fun t a ht => ?_) | refine Good.foldl1 ?_ (fun t a ht => ?_)
                                | refine Good.foldr ?_ (fun a t ht => ?_) | apply Good.ite)

theorem State.announceEpoch_good {s : State} (n : Nat) (t : Tab Word) (hG : Good kp s) (p_regs : kp.free .regs := by assumption)
    (p_config : kp.free .config := by assumption) : Good kp (State.announceEpoch s n t) := by
  unfold State.announceEpoch
  try dsimp only
  with_reducible repeat' (first | assumption | apply State.setReg_good | apply State.setRegs_good | apply State.setRegBit_good
                                | apply Good.ite | split | (fail_if_no_progress refine Good.upd ?_ rfl rfl rfl rfl))

theorem State.announceSweep_good {s : State} (hG : Good kp s) (p_regs : kp.free .regs := by assumption)
    (p_config : kp.free .config := by assumption) (p_mgmt : kp.free .mgmt := by assumption) (p_net : kp.free .net := by assumption)
    (p_control : kp.free .control := by assumption) (p_seals : kp.free .seals := by assumption)
    (p_faults : kp.free .faults := by assumption) (p_ctxs : kp.free .ctxs := by assumption) (p_rnds : kp.free .rnds := by assumption)
    (p_adm : kp.free .adm := by assumption) (p_stills : kp.free .stills := by assumption) (p_memory : kp.free .memory := by assumption)
    (p_pools : kp.free .pools := by assumption) (p_boot : kp.free .boot := by assumption) : Good kp (State.announceSweep s) := by
  unfold State.announceSweep
  try dsimp only
  with_reducible repeat' (first | assumption | apply State.announceEpoch_good | apply State.announceEffects_good | apply Good.ite | split
                                | (fail_if_no_progress refine Good.upd ?_ rfl rfl rfl rfl))

theorem State.writeCal_good {s : State} (a : Nat) (v : Word) (hG : Good kp s) (p_regs : kp.free .regs := by assumption) : Good kp
    (State.writeCal s a v) := by
  unfold State.writeCal
  try dsimp only
  with_reducible repeat' (first | assumption | apply State.showActual_good | apply State.setRegF_good | apply State.setReg_good
                                | apply State.setLine_good | apply Good.ite)

theorem State.seedReg_good {s : State} (a : Nat) (v : Word) (hG : Good kp s) (p_regs : kp.free .regs := by assumption)
    (p_cal : kp.free .cal := by assumption) : Good kp (State.seedReg s a v).2 := by
  unfold State.seedReg
  try dsimp only
  with_reducible repeat' (first | assumption | apply State.writeCal_good | apply Good.ite | split
                                | (fail_if_no_progress refine Good.upd ?_ rfl rfl rfl rfl))

theorem State.applySeed_good {s : State} (hG : Good kp s) (p_regs : kp.free .regs := by assumption)
    (p_cal : kp.free .cal := by assumption) : Good kp (State.applySeed s) := by
  unfold State.applySeed
  try dsimp only
  with_reducible repeat' (first | assumption | apply State.setRegF_good | apply State.seedReg_good
                                | refine Good.foldl ?_ (fun t a ht => ?_) | refine Good.foldl2 ?_ (fun t a ht => ?_)
                                | refine Good.foldl1 ?_ (fun t a ht => ?_) | refine Good.foldr ?_ (fun a t ht => ?_) | apply Good.ite
                                | split)

theorem State.bootJournal_good {s : State} (hG : Good kp s) (p_regs : kp.free .regs := by assumption)
    (p_control : kp.free .control := by assumption) (p_power : kp.free .power := by assumption) (p_boot : kp.free .boot := by assumption)
    : Good kp (State.bootJournal s) := by
  unfold State.bootJournal
  try dsimp only
  with_reducible repeat' (first | assumption | apply State.setRegBit_good | apply State.setReg_good | apply State.setRegF_good
                                | apply State.raiseEv_good | apply Good.ite | split
                                | (fail_if_no_progress refine Good.upd ?_ rfl rfl rfl rfl))

theorem State.freshPools_good {s : State} (hG : Good kp s) (p_regs : kp.free .regs := by assumption)
    (p_net : kp.free .net := by assumption) : Good kp (State.freshPools s) := by
  unfold State.freshPools
  try dsimp only
  with_reducible repeat' (first | assumption | apply State.setReg_good | apply State.setPort_good | refine Good.foldl ?_ (fun t a ht => ?_))

theorem State.portDefault_good {s : State} (p : Nat) (hG : Good kp s) (p_regs : kp.free .regs := by assumption) : Good kp
    (State.portDefault s p) := by
  unfold State.portDefault
  try dsimp only
  with_reducible repeat' (first | assumption | apply State.setRegF_good | apply State.setReg_good)

theorem State.portFromCopy_good {s : State} (b : Bytes) (p : Nat) (hG : Good kp s) (p_regs : kp.free .regs := by assumption) : Good kp
    (State.portFromCopy s b p) := by
  unfold State.portFromCopy
  try dsimp only
  with_reducible repeat' (first | assumption | apply State.setReg_good | apply State.setRegF_good)

theorem State.resetConfig_good {s : State} (hG : Good kp s) (p_regs : kp.free .regs := by assumption)
    (p_config : kp.free .config := by assumption) (p_surfs : kp.free .surfs := by assumption) (p_pools : kp.free .pools := by assumption)
    (p_dma : kp.free .dma := by assumption) (p_boot : kp.free .boot := by assumption) : Good kp (State.resetConfig s) := by
  exact hG.change rfl (fun hc => ⟨twfFrom_filterMap regReset (fun a v => (v &&& ~~~BitVec.ofNat 32 (rwMask a)) |||
      (regReset a &&& BitVec.ofNat 32 (rwMask a))) _ 0 hc.1, hc.2⟩)
    (fun p => by cases p <;> first | exact Or.inl (by assumption) | exact Or.inr rfl | exact Or.inr ⟨rfl, rfl⟩ | exact Or.inr ⟨rfl, rfl, rfl⟩)

theorem State.setPhase_good {s : State} (p : BootPhase) (hG : Good kp s) (p_boot : kp.free .boot := by assumption) : Good kp
    (State.setPhase s p) := by
  unfold State.setPhase
  try dsimp only
  with_reducible repeat' (first | assumption | apply Good.ite | split | (fail_if_no_progress refine Good.upd ?_ rfl rfl rfl rfl))

theorem State.enterMaint_good {s : State} (cause : Nat) (hG : Good kp s) (p_regs : kp.free .regs := by assumption)
    (p_config : kp.free .config := by assumption) (p_net : kp.free .net := by assumption) (p_store : kp.free .store := by assumption)
    (p_control : kp.free .control := by assumption) (p_faults : kp.free .faults := by assumption)
    (p_surfs : kp.free .surfs := by assumption) (p_pools : kp.free .pools := by assumption) (p_dma : kp.free .dma := by assumption)
    (p_boot : kp.free .boot := by assumption) : Good kp (State.enterMaint s cause) := by
  unfold State.enterMaint
  try dsimp only
  with_reducible repeat' (first | assumption | apply State.resetConfig_good | apply State.setRegF_good | apply State.setReg_good
                                | apply State.portFromCopy_good | apply State.portDefault_good | apply State.freshPools_good
                                | apply State.setPhase_good | apply State.syncState_good | refine Good.foldl ?_ (fun t a ht => ?_)
                                | refine Good.foldl2 ?_ (fun t a ht => ?_) | refine Good.foldl1 ?_ (fun t a ht => ?_)
                                | refine Good.foldr ?_ (fun a t ht => ?_) | apply Good.ite | split
                                | (fail_if_no_progress refine Good.upd ?_ rfl rfl rfl rfl))

theorem State.bootStop_good {s : State} (hG : Good kp s) (p_regs : kp.free .regs := by assumption)
    (p_faults : kp.free .faults := by assumption) (p_boot : kp.free .boot := by assumption) : Good kp (State.bootStop s) := by
  unfold State.bootStop
  try dsimp only
  with_reducible repeat' (first | assumption | apply State.syncState_good | apply State.setPhase_good)

theorem State.trngBytes_good {s : State} (n : Nat) (hG : Good kp s) (p_boot : kp.free .boot := by assumption) : Good kp
    (State.trngBytes s n).2 := by
  unfold State.trngBytes
  try dsimp only
  with_reducible repeat' (first | assumption | apply Good.ite | split | (fail_if_no_progress refine Good.upd ?_ rfl rfl rfl rfl))

theorem State.newScalar_good {s : State} (hG : Good kp s) (p_boot : kp.free .boot := by assumption) : Good kp (State.newScalar s).2 := by
  unfold State.newScalar
  try dsimp only
  with_reducible repeat' (first | assumption | apply State.trngBytes_good)

theorem State.makeBootKey_good {s : State} (hG : Good kp s) (p_regs : kp.free .regs := by assumption)
    (p_seals : kp.free .seals := by assumption) (p_boot : kp.free .boot := by assumption) : Good kp (State.makeBootKey s) := by
  unfold State.makeBootKey
  try dsimp only
  with_reducible repeat' (first | assumption | apply State.newScalar_good | apply State.setRegs_good | apply Good.ite | split
                                | (fail_if_no_progress refine Good.upd ?_ rfl rfl rfl rfl))

theorem State.startSeq_good {s : State} (i : Nat) (hG : Good kp s) (p_control : kp.free .control := by assumption) : Good kp
    (State.startSeq s i) := by
  unfold State.startSeq
  try dsimp only
  with_reducible repeat' (first | assumption | apply State.setSeq_good)

theorem State.writeBootCopy_good {s : State} (slot : Nat) (ports : Bytes) (hG : Good kp s) (p_journal : kp.free .journal := by assumption)
    : Good kp (State.writeBootCopy s slot ports) := by
  have key : ∀ (q : Nat) (b : Bytes), Good kp { s with power := { s.power with journal := writeJournal s.power.journal q b } } := fun q b =>
    hG.change rfl (fun hc => ⟨hc.1, hc.2.1, hc.2.2.1, hc.2.2.2.1, Journal.wf_write _ q b hc.2.2.2.2⟩)
      (fun p => by cases p <;> first | exact Or.inl (by assumption) | exact Or.inr rfl | exact Or.inr ⟨rfl, rfl⟩ | exact Or.inr ⟨rfl, rfl, rfl⟩)
  exact key _ _

theorem State.finishBoot_good {s : State} (hG : Good kp s) (p_regs : kp.free .regs := by assumption)
    (p_config : kp.free .config := by assumption) (p_net : kp.free .net := by assumption) (p_control : kp.free .control := by assumption)
    (p_seals : kp.free .seals := by assumption) (p_journal : kp.free .journal := by assumption)
    (p_faults : kp.free .faults := by assumption) (p_cal : kp.free .cal := by assumption) (p_boot : kp.free .boot := by assumption)
    : Good kp (State.finishBoot s) := by
  unfold State.finishBoot
  try dsimp only
  with_reducible repeat' (first | assumption | apply State.writeBootCopy_good | apply State.bootStop_good | apply State.announceEpoch_good
                                | apply State.makeBootKey_good | apply State.applySeed_good | apply State.applyCfg_good
                                | apply State.startSeq_good | apply State.enablePort_good | apply State.syncState_good
                                | apply State.settleEvents_good | apply State.setPhase_good | refine Good.foldl ?_ (fun t a ht => ?_)
                                | refine Good.foldl2 ?_ (fun t a ht => ?_) | refine Good.foldl1 ?_ (fun t a ht => ?_)
                                | refine Good.foldr ?_ (fun a t ht => ?_) | apply Good.ite | split
                                | (fail_if_no_progress refine Good.upd ?_ rfl rfl rfl rfl))

theorem State.finishMaint_good {s : State} (jrn : Bool) (hG : Good kp s) (p_regs : kp.free .regs := by assumption)
    (p_net : kp.free .net := by assumption) (p_control : kp.free .control := by assumption)
    (p_journal : kp.free .journal := by assumption) (p_faults : kp.free .faults := by assumption)
    (p_boot : kp.free .boot := by assumption) : Good kp (State.finishMaint s jrn) := by
  unfold State.finishMaint
  try dsimp only
  with_reducible repeat' (first | assumption | apply State.writeBootCopy_good | apply State.bootStop_good | apply State.startSeq_good
                                | apply State.enablePort_good | apply State.syncState_good | apply State.settleEvents_good
                                | apply State.setPhase_good | refine Good.foldl ?_ (fun t a ht => ?_)
                                | refine Good.foldl2 ?_ (fun t a ht => ?_) | refine Good.foldl1 ?_ (fun t a ht => ?_)
                                | refine Good.foldr ?_ (fun a t ht => ?_) | apply Good.ite)

theorem State.loadMicrocode_good {s : State} (b : Bytes) (hG : Good kp s) (p_regs : kp.free .regs := by assumption)
    (p_store : kp.free .store := by assumption) : Good kp (State.loadMicrocode s b) := by
  unfold State.loadMicrocode
  try dsimp only
  with_reducible repeat' (first | assumption | apply State.setReg_good | refine Good.foldl ?_ (fun t a ht => ?_)
                                | refine Good.foldl2 ?_ (fun t a ht => ?_) | refine Good.foldl1 ?_ (fun t a ht => ?_)
                                | refine Good.foldr ?_ (fun a t ht => ?_) | apply Good.ite | split
                                | (fail_if_no_progress refine Good.upd ?_ rfl rfl rfl rfl))

theorem State.loadReg_good {s : State} (a : Nat) (v : Word) (hG : Good kp s) (p_regs : kp.free .regs := by assumption) : Good kp
    (State.loadReg s a v) := by
  unfold State.loadReg
  try dsimp only
  with_reducible repeat' (first | assumption | apply State.bump32_good | apply State.writeCal_good | apply State.setReg_good
                                | apply Good.ite | split)

theorem State.loadRecord_good {s : State} (a : Nat) (x1 : List Word) (hG : Good kp s) (p_regs : kp.free .regs := by assumption) : Good kp
    (State.loadRecord s a x1) := by
  induction x1 generalizing a s with
  | nil => exact hG
  | cons y ks ih =>
    unfold State.loadRecord
    try dsimp only
    with_reducible repeat' (first | assumption | apply ih | apply State.loadReg_good)

theorem State.placePm_good {s : State} (hG : Good kp s) (p_regs : kp.free .regs := by assumption) : Good kp (State.placePm s) := by
  unfold State.placePm
  try dsimp only
  with_reducible repeat' (first | assumption | apply State.setRegF_good | refine Good.foldl ?_ (fun t a ht => ?_))

theorem State.place437_good {s : State} (hG : Good kp s) (p_regs : kp.free .regs := by assumption) : Good kp (State.place437 s) := by
  unfold State.place437
  try dsimp only
  with_reducible repeat' (first | assumption | apply State.setRegF_good | apply State.setRegBit_good | apply State.placePm_good
                                | apply State.setReg_good | refine Good.foldl ?_ (fun t a ht => ?_)
                                | refine Good.foldl2 ?_ (fun t a ht => ?_) | refine Good.foldl1 ?_ (fun t a ht => ?_))

theorem State.settleDma_good {s : State} (n : Nat) (hG : Good kp s) (p_regs : kp.free .regs := by assumption) : Good kp
    (State.settleDma s n) := by
  unfold State.settleDma
  try dsimp only
  with_reducible repeat' (first | assumption | apply State.setRegBit_good | apply Good.ite)

theorem State.settleEv_good {s : State} (n : Nat) (hG : Good kp s) (p_regs : kp.free .regs := by assumption) : Good kp
    (State.settleEv s n) := by
  unfold State.settleEv
  try dsimp only
  with_reducible repeat' (first | assumption | apply State.setRegF_good | apply State.setRegBit_good | apply Good.ite)

theorem State.settleFlows_good {s : State} (x1 : List Nat) (x2 : List (Nat × Nat)) (hG : Good kp s)
    (p_regs : kp.free .regs := by assumption) : Good kp (State.settleFlows s x1 x2) := by
  induction x1 generalizing x2 s with
  | nil => exact hG
  | cons y ks ih =>
    unfold State.settleFlows
    dsimp only
    split
    · exact ih _ (State.setRegF_good _ _ _ _ hG)
    · exact ih _ hG

theorem State.settleMap_good {s : State} (hG : Good kp s) (p_regs : kp.free .regs := by assumption) : Good kp (State.settleMap s) := by
  unfold State.settleMap
  try dsimp only
  with_reducible repeat' (first | assumption | apply State.setReg_good | refine Good.foldl ?_ (fun t a ht => ?_)
                                | refine Good.foldl2 ?_ (fun t a ht => ?_) | refine Good.foldl1 ?_ (fun t a ht => ?_)
                                | refine Good.foldr ?_ (fun a t ht => ?_) | apply Good.ite)

theorem State.settlePartner_good {s : State} (bad : List Nat) (n : Nat) (hG : Good kp s) (p_regs : kp.free .regs := by assumption)
    : Good kp (State.settlePartner s bad n) := by
  unfold State.settlePartner
  try dsimp only
  with_reducible repeat' (first | assumption | apply State.setRegF_good | apply State.setRegBit_good | apply Good.ite)

theorem State.settlePool_good {s : State} (n : Nat) (hG : Good kp s) (p_regs : kp.free .regs := by assumption) : Good kp
    (State.settlePool s n) := by
  unfold State.settlePool
  try dsimp only
  with_reducible repeat' (first | assumption | apply State.setRegBit_good | apply State.setRegF_good | apply Good.ite)

theorem State.settlePort_good {s : State} (p : Nat) (hG : Good kp s) (p_regs : kp.free .regs := by assumption) : Good kp
    (State.settlePort s p) := by
  unfold State.settlePort
  try dsimp only
  with_reducible repeat' (first | assumption | apply State.setRegF_good)

theorem State.settleQueue_good {s : State} (q : Nat) (hG : Good kp s) (p_regs : kp.free .regs := by assumption) : Good kp
    (State.settleQueue s q) := by
  unfold State.settleQueue
  try dsimp only
  with_reducible repeat' (first | assumption | apply State.setRegF_good | apply Good.ite)

theorem State.settleRnd_good {s : State} (n : Nat) (hG : Good kp s) (p_regs : kp.free .regs := by assumption) : Good kp
    (State.settleRnd s n) := by
  unfold State.settleRnd
  try dsimp only
  with_reducible repeat' (first | assumption | apply State.setRegBit_good | apply State.setRegF_good | apply Good.ite)

theorem State.settleSrc_good {s : State} (n : Nat) (hG : Good kp s) (p_regs : kp.free .regs := by assumption) : Good kp
    (State.settleSrc s n) := by
  unfold State.settleSrc
  try dsimp only
  with_reducible repeat' (first | assumption | apply State.clearRegs_good | apply State.setRegBit_good | apply Good.ite)

theorem State.settleWq_good {s : State} (p : Nat) (hG : Good kp s) (p_regs : kp.free .regs := by assumption) : Good kp
    (State.settleWq s p) := by
  unfold State.settleWq
  try dsimp only
  with_reducible repeat' (first | assumption | apply State.setRegF_good)

theorem State.settle_good {s : State} (hG : Good kp s) (p_regs : kp.free .regs := by assumption) : Good kp (State.settle s) := by
  unfold State.settle
  try dsimp only
  with_reducible repeat' (first | assumption | apply State.settlePort_good | apply State.settleRnd_good | apply State.settlePol_good
                                | apply State.settleFlows_good | apply State.settleSrc_good | apply State.settleQueue_good
                                | apply State.settleWq_good | apply State.settleDma_good | apply State.setRegF_good
                                | apply State.settleEv_good | apply State.settleMap_good | apply State.settlePool_good
                                | apply State.settlePartner_good | refine Good.foldl ?_ (fun t a ht => ?_)
                                | refine Good.foldl2 ?_ (fun t a ht => ?_) | refine Good.foldl1 ?_ (fun t a ht => ?_)
                                | refine Good.foldr ?_ (fun a t ht => ?_) | apply Good.ite)

theorem State.loadImage_good {s : State} (slot : Nat) (st : Bytes) (hG : Good kp s) (p_regs : kp.free .regs := by assumption)
    (p_config : kp.free .config := by assumption) (p_net : kp.free .net := by assumption) (p_store : kp.free .store := by assumption)
    (p_surfs : kp.free .surfs := by assumption) (p_boot : kp.free .boot := by assumption) : Good kp (State.loadImage s slot st) := by
  unfold State.loadImage
  try dsimp only
  with_reducible repeat' (first | assumption | apply State.loadMicrocode_good | apply State.setRegF_good | apply State.loadRecord_good
                                | apply State.freshPools_good | apply State.place437_good | apply State.settle_good
                                | apply State.setReg_good | refine Good.foldl ?_ (fun t a ht => ?_)
                                | refine Good.foldl2 ?_ (fun t a ht => ?_) | refine Good.foldl1 ?_ (fun t a ht => ?_)
                                | refine Good.foldr ?_ (fun a t ht => ?_) | apply Good.ite | split
                                | (fail_if_no_progress refine Good.upd ?_ rfl rfl rfl rfl))

theorem State.startMemory_good {s : State} (hG : Good kp s) (p_regs : kp.free .regs := by assumption)
    (p_boot : kp.free .boot := by assumption) : Good kp (State.startMemory s) := by
  unfold State.startMemory
  try dsimp only
  with_reducible repeat' (first | assumption | apply State.setPhase_good | apply State.setRegF_good
                                | refine Good.foldl ?_ (fun t a ht => ?_))

theorem State.slotDone_good {s : State} (k : Nat) (c : SlotCheck) (hG : Good kp s) (p_regs : kp.free .regs := by assumption)
    (p_config : kp.free .config := by assumption) (p_net : kp.free .net := by assumption) (p_store : kp.free .store := by assumption)
    (p_control : kp.free .control := by assumption) (p_faults : kp.free .faults := by assumption)
    (p_surfs : kp.free .surfs := by assumption) (p_pools : kp.free .pools := by assumption) (p_dma : kp.free .dma := by assumption)
    (p_boot : kp.free .boot := by assumption) : Good kp (State.slotDone s k c) := by
  unfold State.slotDone
  try dsimp only
  with_reducible repeat' (first | assumption | apply State.setRegF_good | apply State.startMemory_good | apply State.loadImage_good
                                | apply State.setPhase_good | apply State.enterMaint_good | apply Good.ite)

theorem State.bootContinue_good {s : State} (hG : Good kp s) (p_regs : kp.free .regs := by assumption)
    (p_config : kp.free .config := by assumption) (p_net : kp.free .net := by assumption) (p_store : kp.free .store := by assumption)
    (p_control : kp.free .control := by assumption) (p_seals : kp.free .seals := by assumption)
    (p_journal : kp.free .journal := by assumption) (p_power : kp.free .power := by assumption)
    (p_faults : kp.free .faults := by assumption) (p_surfs : kp.free .surfs := by assumption) (p_pools : kp.free .pools := by assumption)
    (p_dma : kp.free .dma := by assumption) (p_cal : kp.free .cal := by assumption) (p_boot : kp.free .boot := by assumption) : Good kp
    (State.bootContinue s) := by
  unfold State.bootContinue
  try dsimp only
  with_reducible repeat' (first | assumption | apply State.bootJournal_good | apply State.enterMaint_good | apply State.setPhase_good
                                | apply State.slotDone_good | apply State.finishBoot_good | apply State.finishMaint_good | apply Good.ite
                                | split)

theorem State.bootStart_good {s : State} (e : BootEnv) (hG : Good kp s) (p_regs : kp.free .regs := by assumption)
    (p_mgmt : kp.free .mgmt := by assumption) (p_net : kp.free .net := by assumption) (p_control : kp.free .control := by assumption)
    (p_seals : kp.free .seals := by assumption) (p_power : kp.free .power := by assumption) (p_faults : kp.free .faults := by assumption)
    (p_units : kp.free .units := by assumption) (p_ctxs : kp.free .ctxs := by assumption) (p_rnds : kp.free .rnds := by assumption)
    (p_adm : kp.free .adm := by assumption) (p_stills : kp.free .stills := by assumption) (p_memory : kp.free .memory := by assumption)
    (p_pools : kp.free .pools := by assumption) (p_cal : kp.free .cal := by assumption) (p_boot : kp.free .boot := by assumption)
    : Good kp (State.bootStart s e) := by
  unfold State.bootStart
  try dsimp only
  with_reducible repeat' (first | assumption | apply State.readMonitors_good | apply State.refCal_good | apply State.setRegF_good
                                | apply Good.ite | split | (fail_if_no_progress refine Good.upd ?_ rfl rfl rfl rfl))

theorem State.fullReset_good {s : State} (hG : Good kp s) (p_now : kp.free .now := by assumption)
    (p_regs : kp.free .regs := by assumption) (p_config : kp.free .config := by assumption) (p_hold : kp.free .hold := by assumption)
    (p_time : kp.free .time := by assumption) (p_mgmt : kp.free .mgmt := by assumption) (p_net : kp.free .net := by assumption)
    (p_store : kp.free .store := by assumption) (p_control : kp.free .control := by assumption)
    (p_seals : kp.free .seals := by assumption) (p_power : kp.free .power := by assumption) (p_faults : kp.free .faults := by assumption)
    (p_units : kp.free .units := by assumption) (p_ctxs : kp.free .ctxs := by assumption) (p_rnds : kp.free .rnds := by assumption)
    (p_adm : kp.free .adm := by assumption) (p_stills : kp.free .stills := by assumption) (p_surfs : kp.free .surfs := by assumption)
    (p_cells : kp.free .cells := by assumption) (p_memory : kp.free .memory := by assumption) (p_pools : kp.free .pools := by assumption)
    (p_dma : kp.free .dma := by assumption) (p_cal : kp.free .cal := by assumption) (p_otp : kp.free .otp := by assumption)
    (p_boot : kp.free .boot := by assumption) : Good kp (State.fullReset s) := by
  exact hG.change rfl (fun hc => ⟨rfl, rfl, rfl, rfl, hc.2.2.2.2⟩)
    (fun p => by cases p <;> first | exact Or.inl (by assumption) | exact Or.inr rfl | exact Or.inr ⟨rfl, rfl⟩ | exact Or.inr ⟨rfl, rfl, rfl⟩)

theorem State.resetIfDone_good {s : State} (hG : Good kp s) (p_now : kp.free .now := by assumption)
    (p_regs : kp.free .regs := by assumption) (p_config : kp.free .config := by assumption) (p_hold : kp.free .hold := by assumption)
    (p_time : kp.free .time := by assumption) (p_mgmt : kp.free .mgmt := by assumption) (p_net : kp.free .net := by assumption)
    (p_store : kp.free .store := by assumption) (p_control : kp.free .control := by assumption)
    (p_seals : kp.free .seals := by assumption) (p_power : kp.free .power := by assumption) (p_faults : kp.free .faults := by assumption)
    (p_units : kp.free .units := by assumption) (p_ctxs : kp.free .ctxs := by assumption) (p_rnds : kp.free .rnds := by assumption)
    (p_adm : kp.free .adm := by assumption) (p_stills : kp.free .stills := by assumption) (p_surfs : kp.free .surfs := by assumption)
    (p_cells : kp.free .cells := by assumption) (p_memory : kp.free .memory := by assumption) (p_pools : kp.free .pools := by assumption)
    (p_dma : kp.free .dma := by assumption) (p_cal : kp.free .cal := by assumption) (p_otp : kp.free .otp := by assumption)
    (p_boot : kp.free .boot := by assumption) : Good kp (State.resetIfDone s) := by
  unfold State.resetIfDone
  try dsimp only
  with_reducible repeat' (first | assumption | apply State.fullReset_good | apply Good.ite)

theorem State.commitForReset_good {s : State} (hG : Good kp s) (p_now : kp.free .now := by assumption)
    (p_regs : kp.free .regs := by assumption) (p_config : kp.free .config := by assumption) (p_hold : kp.free .hold := by assumption)
    (p_time : kp.free .time := by assumption) (p_mgmt : kp.free .mgmt := by assumption) (p_net : kp.free .net := by assumption)
    (p_store : kp.free .store := by assumption) (p_control : kp.free .control := by assumption)
    (p_seals : kp.free .seals := by assumption) (p_power : kp.free .power := by assumption) (p_faults : kp.free .faults := by assumption)
    (p_units : kp.free .units := by assumption) (p_ctxs : kp.free .ctxs := by assumption) (p_rnds : kp.free .rnds := by assumption)
    (p_adm : kp.free .adm := by assumption) (p_stills : kp.free .stills := by assumption) (p_surfs : kp.free .surfs := by assumption)
    (p_cells : kp.free .cells := by assumption) (p_memory : kp.free .memory := by assumption) (p_pools : kp.free .pools := by assumption)
    (p_dma : kp.free .dma := by assumption) (p_cal : kp.free .cal := by assumption) (p_otp : kp.free .otp := by assumption)
    (p_boot : kp.free .boot := by assumption) : Good kp (State.commitForReset s) := by
  unfold State.commitForReset
  try dsimp only
  with_reducible repeat' (first | assumption | apply State.resetIfDone_good | apply State.syncState_good | apply State.enterSafe_good
                                | apply Good.ite | split | (fail_if_no_progress refine Good.upd ?_ rfl rfl rfl rfl))

theorem State.deferredReset_good {s : State} (hG : Good kp s) (p_now : kp.free .now := by assumption)
    (p_regs : kp.free .regs := by assumption) (p_config : kp.free .config := by assumption) (p_hold : kp.free .hold := by assumption)
    (p_time : kp.free .time := by assumption) (p_mgmt : kp.free .mgmt := by assumption) (p_net : kp.free .net := by assumption)
    (p_store : kp.free .store := by assumption) (p_control : kp.free .control := by assumption)
    (p_seals : kp.free .seals := by assumption) (p_power : kp.free .power := by assumption) (p_faults : kp.free .faults := by assumption)
    (p_units : kp.free .units := by assumption) (p_ctxs : kp.free .ctxs := by assumption) (p_rnds : kp.free .rnds := by assumption)
    (p_adm : kp.free .adm := by assumption) (p_stills : kp.free .stills := by assumption) (p_surfs : kp.free .surfs := by assumption)
    (p_cells : kp.free .cells := by assumption) (p_memory : kp.free .memory := by assumption) (p_pools : kp.free .pools := by assumption)
    (p_dma : kp.free .dma := by assumption) (p_cal : kp.free .cal := by assumption) (p_otp : kp.free .otp := by assumption)
    (p_boot : kp.free .boot := by assumption) : Good kp (State.deferredReset s) := by
  unfold State.deferredReset
  try dsimp only
  with_reducible repeat' (first | assumption | apply State.fullReset_good | apply Good.ite)

theorem State.dropMemory_good {s : State} (hG : Good kp s) (p_regs : kp.free .regs := by assumption)
    (p_cells : kp.free .cells := by assumption) (p_memory : kp.free .memory := by assumption) : Good kp (State.dropMemory s) := by
  unfold State.dropMemory
  refine State.showFill_good ?_
  have h := Good.foldl (l := List.range 8) (f := fun t p => if t.memState p = 4 then t else
    (t.setMemPort p { t.memPort p with wq := [] }).setRegF (Reg.MEM_STATUS p) 0 3 0) hG (fun t a ht => by
      split
      · exact ht
      · exact State.setRegF_good _ _ _ _ (State.setMemPort_good _ _ ht))
  exact h.change rfl (fun hc => ⟨hc.1, twf_filter _ _ _ hc.2.1, rfl, rfl, hc.2.2.2.2⟩)
    (fun p => by cases p <;> first | exact Or.inl (by assumption) | exact Or.inr rfl | exact Or.inr ⟨rfl, rfl⟩ | exact Or.inr ⟨rfl, rfl, rfl⟩)

theorem State.dropPartial_good {s : State} (hG : Good kp s) (p_seals : kp.free .seals := by assumption)
    (p_ctxs : kp.free .ctxs := by assumption) : Good kp (State.dropPartial s) := by
  unfold State.dropPartial
  try dsimp only
  with_reducible repeat' (first | assumption | apply Good.ite | split | (fail_if_no_progress refine Good.upd ?_ rfl rfl rfl rfl))

theorem State.dropStills_good {s : State} (hG : Good kp s) (p_regs : kp.free .regs := by assumption)
    (p_units : kp.free .units := by assumption) (p_stills : kp.free .stills := by assumption) : Good kp (State.dropStills s) := by
  unfold State.dropStills
  try dsimp only
  with_reducible repeat' (first | assumption | apply State.showUnit_good | apply State.setUnit_good
                                | refine Good.foldl ?_ (fun t a ht => ?_) | refine Good.foldl2 ?_ (fun t a ht => ?_)
                                | refine Good.foldl1 ?_ (fun t a ht => ?_) | refine Good.foldr ?_ (fun a t ht => ?_) | apply Good.ite
                                | split | (fail_if_no_progress refine Good.upd ?_ rfl rfl rfl rfl))

theorem State.dropTraffic_good {s : State} (hG : Good kp s) (p_net : kp.free .net := by assumption)
    (p_control : kp.free .control := by assumption) (p_adm : kp.free .adm := by assumption) : Good kp (State.dropTraffic s) := by
  unfold State.dropTraffic
  try dsimp only
  with_reducible repeat' (first | assumption | apply State.setPort_good | refine Good.foldl ?_ (fun t a ht => ?_)
                                | refine Good.foldl2 ?_ (fun t a ht => ?_) | refine Good.foldl1 ?_ (fun t a ht => ?_)
                                | refine Good.foldr ?_ (fun a t ht => ?_) | apply Good.ite | split
                                | (fail_if_no_progress refine Good.upd ?_ rfl rfl rfl rfl))

theorem State.showIsa_good {s : State} (st : Nat) (cause : Nat) (hG : Good kp s) (p_regs : kp.free .regs := by assumption) : Good kp
    (State.showIsa s st cause) := by
  unfold State.showIsa
  try dsimp only
  with_reducible repeat' (first | assumption | apply State.setRegF_good)

theorem State.failCommit_good {s : State} (cause : Nat) (hG : Good kp s) (p_regs : kp.free .regs := by assumption)
    (p_net : kp.free .net := by assumption) (p_seals : kp.free .seals := by assumption) (p_power : kp.free .power := by assumption)
    : Good kp (State.failCommit s cause) := by
  unfold State.failCommit
  try dsimp only
  with_reducible repeat' (first | assumption | apply State.showIsa_good | apply State.commitChains_good | apply Good.ite | split
                                | (fail_if_no_progress refine Good.upd ?_ rfl rfl rfl rfl))

theorem State.glbReset_good {s : State} (hG : Good kp s) (p_now : kp.free .now := by assumption) (p_regs : kp.free .regs := by assumption)
    (p_config : kp.free .config := by assumption) (p_hold : kp.free .hold := by assumption) (p_time : kp.free .time := by assumption)
    (p_mgmt : kp.free .mgmt := by assumption) (p_net : kp.free .net := by assumption) (p_store : kp.free .store := by assumption)
    (p_control : kp.free .control := by assumption) (p_seals : kp.free .seals := by assumption)
    (p_power : kp.free .power := by assumption) (p_faults : kp.free .faults := by assumption) (p_units : kp.free .units := by assumption)
    (p_ctxs : kp.free .ctxs := by assumption) (p_rnds : kp.free .rnds := by assumption) (p_adm : kp.free .adm := by assumption)
    (p_stills : kp.free .stills := by assumption) (p_surfs : kp.free .surfs := by assumption) (p_cells : kp.free .cells := by assumption)
    (p_memory : kp.free .memory := by assumption) (p_pools : kp.free .pools := by assumption) (p_dma : kp.free .dma := by assumption)
    (p_cal : kp.free .cal := by assumption) (p_otp : kp.free .otp := by assumption) (p_boot : kp.free .boot := by assumption) : Good kp
    (State.glbReset s) := by
  unfold State.glbReset
  try dsimp only
  with_reducible repeat' (first | assumption | apply State.fullReset_good | apply State.commitForReset_good | apply Good.ite | split
                                | (fail_if_no_progress refine Good.upd ?_ rfl rfl rfl rfl))

theorem State.idle_good {s : State} (hG : Good kp s) (p_now : kp.free .now := by assumption) (p_regs : kp.free .regs := by assumption)
    (p_config : kp.free .config := by assumption) (p_hold : kp.free .hold := by assumption) (p_time : kp.free .time := by assumption)
    (p_mgmt : kp.free .mgmt := by assumption) (p_net : kp.free .net := by assumption) (p_store : kp.free .store := by assumption)
    (p_control : kp.free .control := by assumption) (p_seals : kp.free .seals := by assumption)
    (p_journal : kp.free .journal := by assumption) (p_power : kp.free .power := by assumption)
    (p_faults : kp.free .faults := by assumption) (p_units : kp.free .units := by assumption) (p_ctxs : kp.free .ctxs := by assumption)
    (p_rnds : kp.free .rnds := by assumption) (p_adm : kp.free .adm := by assumption) (p_stills : kp.free .stills := by assumption)
    (p_surfs : kp.free .surfs := by assumption) (p_cells : kp.free .cells := by assumption) (p_memory : kp.free .memory := by assumption)
    (p_pools : kp.free .pools := by assumption) (p_dma : kp.free .dma := by assumption) (p_cal : kp.free .cal := by assumption)
    (p_otp : kp.free .otp := by assumption) (p_boot : kp.free .boot := by assumption) : Good kp (State.idle s) := by
  unfold State.idle
  try dsimp only
  with_reducible repeat' (first | assumption | apply State.deferredReset_good | apply State.idleIssue_good | apply State.bootContinue_good
                                | apply State.announceTimeout_good | apply State.tick_good)

theorem State.imageBlock_good {s : State} (body : Bytes) (hG : Good kp s) (p_boot : kp.free .boot := by assumption) : Good kp
    (State.imageBlock s body).2 := by
  unfold State.imageBlock
  try dsimp only
  with_reducible repeat' (first | assumption | apply Good.ite | split | (fail_if_no_progress refine Good.upd ?_ rfl rfl rfl rfl))

theorem State.installResult_good {s : State} (slot : Nat) (verdict : Nat) (st : Bytes) (hG : Good kp s)
    (p_freeCtr : kp.free .freeCtr := by assumption) : Good kp (State.installResult s slot verdict st).2 := by
  unfold State.installResult
  try dsimp only
  with_reducible repeat' (first | assumption | apply State.fresh_good | apply Good.ite | split)

theorem State.installDone_good {s : State} (t : Ticket) (slot : Nat) (verdict : Nat) (st : Bytes) (hG : Good kp s)
    (p_freeCtr : kp.free .freeCtr := by assumption) (p_mgmt : kp.free .mgmt := by assumption) (p_power : kp.free .power := by assumption)
    (p_boot : kp.free .boot := by assumption) : Good kp (State.installDone s t slot verdict st) := by
  unfold State.installDone
  try dsimp only
  with_reducible repeat' (first | assumption | apply State.installResult_good | apply State.readyTicket_good | apply Good.ite | split
                                | (fail_if_no_progress refine Good.upd ?_ rfl rfl rfl rfl))

theorem State.nporRelease_good {s : State} (hG : Good kp s) (p_now : kp.free .now := by assumption)
    (p_power : kp.free .power := by assumption) (p_boot : kp.free .boot := by assumption) : Good kp (State.nporRelease s) := by
  unfold State.nporRelease
  try dsimp only
  with_reducible repeat' (first | assumption | apply Good.ite | split | (fail_if_no_progress refine Good.upd ?_ rfl rfl rfl rfl))

theorem State.powerShed_good {s : State} (hG : Good kp s) (p_regs : kp.free .regs := by assumption)
    (p_net : kp.free .net := by assumption) (p_control : kp.free .control := by assumption) (p_seals : kp.free .seals := by assumption)
    (p_units : kp.free .units := by assumption) (p_ctxs : kp.free .ctxs := by assumption) (p_rnds : kp.free .rnds := by assumption)
    (p_adm : kp.free .adm := by assumption) (p_stills : kp.free .stills := by assumption) (p_cells : kp.free .cells := by assumption)
    (p_memory : kp.free .memory := by assumption) (p_pools : kp.free .pools := by assumption) (p_dma : kp.free .dma := by assumption)
    : Good kp (State.powerShed s) := by
  unfold State.powerShed
  try dsimp only
  with_reducible repeat' (first | assumption | apply State.dropTraffic_good | apply State.dropPartial_good | apply State.dropStills_good
                                | apply State.abandonCoding_good | apply State.dmaAbort_good | apply State.setRegBit_good
                                | apply State.setRegF_good | apply State.dropMemory_good | refine Good.foldl ?_ (fun t a ht => ?_))

theorem State.sweepAtFail_good {s : State} (acked : Bool) (hG : Good kp s) (p_regs : kp.free .regs := by assumption)
    (p_config : kp.free .config := by assumption) (p_mgmt : kp.free .mgmt := by assumption) (p_net : kp.free .net := by assumption)
    (p_control : kp.free .control := by assumption) (p_seals : kp.free .seals := by assumption)
    (p_faults : kp.free .faults := by assumption) (p_ctxs : kp.free .ctxs := by assumption) (p_rnds : kp.free .rnds := by assumption)
    (p_adm : kp.free .adm := by assumption) (p_stills : kp.free .stills := by assumption) (p_memory : kp.free .memory := by assumption)
    (p_pools : kp.free .pools := by assumption) (p_boot : kp.free .boot := by assumption) : Good kp (State.sweepAtFail s acked) := by
  unfold State.sweepAtFail
  try dsimp only
  with_reducible repeat' (first | assumption | apply State.announceSweep_good | apply State.setReg_good | apply State.setRegBit_good
                                | apply Good.ite)

theorem State.powerFail_good {s : State} (cause : Nat) (acked : Bool) (hG : Good kp s) (p_regs : kp.free .regs := by assumption)
    (p_config : kp.free .config := by assumption) (p_mgmt : kp.free .mgmt := by assumption) (p_net : kp.free .net := by assumption)
    (p_control : kp.free .control := by assumption) (p_seals : kp.free .seals := by assumption)
    (p_power : kp.free .power := by assumption) (p_faults : kp.free .faults := by assumption) (p_units : kp.free .units := by assumption)
    (p_ctxs : kp.free .ctxs := by assumption) (p_rnds : kp.free .rnds := by assumption) (p_adm : kp.free .adm := by assumption)
    (p_stills : kp.free .stills := by assumption) (p_cells : kp.free .cells := by assumption)
    (p_memory : kp.free .memory := by assumption) (p_pools : kp.free .pools := by assumption) (p_dma : kp.free .dma := by assumption)
    (p_boot : kp.free .boot := by assumption) : Good kp (State.powerFail s cause acked) := by
  unfold State.powerFail
  try dsimp only
  with_reducible repeat' (first | assumption | apply State.sweepAtFail_good | apply State.syncState_good | apply State.failCommit_good
                                | apply State.powerShed_good | apply Good.ite | split
                                | (fail_if_no_progress refine Good.upd ?_ rfl rfl rfl rfl))

theorem State.recheck_good {s : State} (bad : List (Fin 256)) (hG : Good kp s) (p_regs : kp.free .regs := by assumption) : Good kp
    (State.recheck s bad) := by
  unfold State.recheck
  try dsimp only
  with_reducible repeat' (first | assumption | apply State.setCause_good | refine Good.foldl ?_ (fun t a ht => ?_)
                                | refine Good.foldl2 ?_ (fun t a ht => ?_) | refine Good.foldl1 ?_ (fun t a ht => ?_)
                                | refine Good.foldr ?_ (fun a t ht => ?_) | apply Good.ite)

theorem State.senseVin_good {s : State} (pf : Bool) (mv : Nat) (hG : Good kp s) (p_power : kp.free .power := by assumption) : Good kp
    (State.senseVin s pf mv) := by
  unfold State.senseVin
  try dsimp only
  with_reducible repeat' (first | assumption | apply Good.ite | split | (fail_if_no_progress refine Good.upd ?_ rfl rfl rfl rfl))

theorem State.setBoot_good {s : State} (b : BootSt) (hG : Good kp s) (p_flash : kp.free .flash := by assumption)
    (p_otp : kp.free .otp := by assumption) (p_boot : kp.free .boot := by assumption) : Good kp (State.setBoot s b) := by
  unfold State.setBoot
  try dsimp only
  with_reducible repeat' (first | assumption | apply Good.ite | split | (fail_if_no_progress refine Good.upd ?_ rfl rfl rfl rfl))

theorem execBootStart_good (e : BootEnv) {s : State} (hG : Good kp s) (p_now : kp.free .now := by assumption)
    (p_regs : kp.free .regs := by assumption) (p_mgmt : kp.free .mgmt := by assumption) (p_net : kp.free .net := by assumption)
    (p_control : kp.free .control := by assumption) (p_seals : kp.free .seals := by assumption)
    (p_power : kp.free .power := by assumption) (p_faults : kp.free .faults := by assumption) (p_units : kp.free .units := by assumption)
    (p_ctxs : kp.free .ctxs := by assumption) (p_rnds : kp.free .rnds := by assumption) (p_adm : kp.free .adm := by assumption)
    (p_stills : kp.free .stills := by assumption) (p_memory : kp.free .memory := by assumption)
    (p_pools : kp.free .pools := by assumption) (p_cal : kp.free .cal := by assumption) (p_boot : kp.free .boot := by assumption)
    : OutGood kp (execBootStart e s) := by
  unfold execBootStart
  try dsimp only
  with_reducible repeat' (first | assumption | apply State.nporRelease_good | apply State.bootStart_good | apply outGood_next
                                | apply outGood_fault | apply Good.ite | apply OutGood.ite | split
                                | (fail_if_no_progress refine Good.upd ?_ rfl rfl rfl rfl))

theorem execEpochAnnounce_good {s : State} (hG : Good kp s) (p_regs : kp.free .regs := by assumption)
    (p_config : kp.free .config := by assumption) (p_mgmt : kp.free .mgmt := by assumption) (p_net : kp.free .net := by assumption)
    (p_control : kp.free .control := by assumption) (p_seals : kp.free .seals := by assumption)
    (p_faults : kp.free .faults := by assumption) (p_ctxs : kp.free .ctxs := by assumption) (p_rnds : kp.free .rnds := by assumption)
    (p_adm : kp.free .adm := by assumption) (p_stills : kp.free .stills := by assumption) (p_memory : kp.free .memory := by assumption)
    (p_pools : kp.free .pools := by assumption) (p_boot : kp.free .boot := by assumption) : OutGood kp (execEpochAnnounce s) := by
  unfold execEpochAnnounce
  try dsimp only
  with_reducible repeat' (first | assumption | apply State.announceSweep_good | apply outGood_next | apply outGood_fault | apply Good.ite)

theorem execFlashProgramDone_good (ok : Bool) {s : State} (hG : Good kp s) (p_flash : kp.free .flash := by assumption)
    (p_boot : kp.free .boot := by assumption) : OutGood kp (execFlashProgramDone ok s) := by
  unfold execFlashProgramDone State.setBoot
  try dsimp only
  with_reducible repeat' (first | assumption | apply outGood_next | apply OutGood.ite | split
                                | (fail_if_no_progress refine Good.upd ?_ rfl rfl rfl rfl))

theorem execFlashReadTimeout_good (slot : Fin 2) {s : State} (hG : Good kp s) (p_freeCtr : kp.free .freeCtr := by assumption)
    (p_regs : kp.free .regs := by assumption) (p_config : kp.free .config := by assumption) (p_mgmt : kp.free .mgmt := by assumption)
    (p_net : kp.free .net := by assumption) (p_store : kp.free .store := by assumption) (p_control : kp.free .control := by assumption)
    (p_power : kp.free .power := by assumption) (p_faults : kp.free .faults := by assumption) (p_surfs : kp.free .surfs := by assumption)
    (p_pools : kp.free .pools := by assumption) (p_dma : kp.free .dma := by assumption) (p_boot : kp.free .boot := by assumption)
    : OutGood kp (execFlashReadTimeout slot s) := by
  unfold execFlashReadTimeout
  try dsimp only
  with_reducible repeat' (first | assumption | apply State.slotDone_good | apply State.installDone_good | apply outGood_next
                                | apply outGood_fault | apply Good.ite | apply OutGood.ite | split
                                | (fail_if_no_progress refine Good.upd ?_ rfl rfl rfl rfl))

theorem execGlbReset_good (key : BitVec 16) {s : State} (hG : Good kp s) (p_now : kp.free .now := by assumption)
    (p_regs : kp.free .regs := by assumption) (p_config : kp.free .config := by assumption) (p_hold : kp.free .hold := by assumption)
    (p_time : kp.free .time := by assumption) (p_mgmt : kp.free .mgmt := by assumption) (p_net : kp.free .net := by assumption)
    (p_store : kp.free .store := by assumption) (p_control : kp.free .control := by assumption)
    (p_seals : kp.free .seals := by assumption) (p_power : kp.free .power := by assumption) (p_faults : kp.free .faults := by assumption)
    (p_units : kp.free .units := by assumption) (p_ctxs : kp.free .ctxs := by assumption) (p_rnds : kp.free .rnds := by assumption)
    (p_adm : kp.free .adm := by assumption) (p_stills : kp.free .stills := by assumption) (p_surfs : kp.free .surfs := by assumption)
    (p_cells : kp.free .cells := by assumption) (p_memory : kp.free .memory := by assumption) (p_pools : kp.free .pools := by assumption)
    (p_dma : kp.free .dma := by assumption) (p_cal : kp.free .cal := by assumption) (p_otp : kp.free .otp := by assumption)
    (p_boot : kp.free .boot := by assumption) : OutGood kp (execGlbReset key s) := by
  unfold execGlbReset
  try dsimp only
  with_reducible repeat' (first | assumption | apply State.glbReset_good | apply outGood_next | apply outGood_fault | apply Good.ite)

theorem execImageInstallDone_good (num : Nat) {s : State} (hG : Good kp s) (p_freeCtr : kp.free .freeCtr := by assumption)
    (p_mgmt : kp.free .mgmt := by assumption) (p_power : kp.free .power := by assumption) (p_boot : kp.free .boot := by assumption)
    : OutGood kp (execImageInstallDone num s) := by
  unfold execImageInstallDone
  try dsimp only
  with_reducible repeat' (first | assumption | apply State.installDone_good | apply outGood_next | apply outGood_fault | apply Good.ite
                                | apply OutGood.ite | split | (fail_if_no_progress refine Good.upd ?_ rfl rfl rfl rfl))

theorem execJournalCommitDone_good (bad : List (Fin 256)) {s : State} (hG : Good kp s) (p_now : kp.free .now := by assumption)
    (p_regs : kp.free .regs := by assumption) (p_config : kp.free .config := by assumption) (p_hold : kp.free .hold := by assumption)
    (p_time : kp.free .time := by assumption) (p_mgmt : kp.free .mgmt := by assumption) (p_net : kp.free .net := by assumption)
    (p_store : kp.free .store := by assumption) (p_control : kp.free .control := by assumption)
    (p_seals : kp.free .seals := by assumption) (p_journal : kp.free .journal := by assumption)
    (p_power : kp.free .power := by assumption) (p_faults : kp.free .faults := by assumption) (p_units : kp.free .units := by assumption)
    (p_ctxs : kp.free .ctxs := by assumption) (p_rnds : kp.free .rnds := by assumption) (p_adm : kp.free .adm := by assumption)
    (p_stills : kp.free .stills := by assumption) (p_surfs : kp.free .surfs := by assumption) (p_cells : kp.free .cells := by assumption)
    (p_memory : kp.free .memory := by assumption) (p_pools : kp.free .pools := by assumption) (p_dma : kp.free .dma := by assumption)
    (p_cal : kp.free .cal := by assumption) (p_otp : kp.free .otp := by assumption) (p_boot : kp.free .boot := by assumption) : OutGood kp
    (execJournalCommitDone bad s) := by
  unfold execJournalCommitDone
  try dsimp only
  with_reducible repeat' (first | assumption | apply State.commitDone_good | apply State.deferredReset_good | apply State.recheck_good
                                | apply outGood_next | apply outGood_fault | apply Good.ite | apply OutGood.ite)

theorem execJournalReadTimeout_good {s : State} (hG : Good kp s) (p_regs : kp.free .regs := by assumption)
    (p_config : kp.free .config := by assumption) (p_net : kp.free .net := by assumption) (p_store : kp.free .store := by assumption)
    (p_control : kp.free .control := by assumption) (p_journal : kp.free .journal := by assumption)
    (p_faults : kp.free .faults := by assumption) (p_surfs : kp.free .surfs := by assumption) (p_pools : kp.free .pools := by assumption)
    (p_dma : kp.free .dma := by assumption) (p_boot : kp.free .boot := by assumption) : OutGood kp (execJournalReadTimeout s) := by
  unfold execJournalReadTimeout
  try dsimp only
  with_reducible repeat' (first | assumption | apply State.setRegBit_good | apply State.setReg_good | apply State.enterMaint_good
                                | apply State.finishMaint_good | apply outGood_next | apply outGood_fault | apply Good.ite
                                | apply OutGood.ite | split)

theorem execMaintenanceInstallReset_good {s : State} (hG : Good kp s) (p_now : kp.free .now := by assumption)
    (p_regs : kp.free .regs := by assumption) (p_config : kp.free .config := by assumption) (p_hold : kp.free .hold := by assumption)
    (p_time : kp.free .time := by assumption) (p_mgmt : kp.free .mgmt := by assumption) (p_net : kp.free .net := by assumption)
    (p_store : kp.free .store := by assumption) (p_control : kp.free .control := by assumption)
    (p_seals : kp.free .seals := by assumption) (p_power : kp.free .power := by assumption) (p_faults : kp.free .faults := by assumption)
    (p_units : kp.free .units := by assumption) (p_ctxs : kp.free .ctxs := by assumption) (p_rnds : kp.free .rnds := by assumption)
    (p_adm : kp.free .adm := by assumption) (p_stills : kp.free .stills := by assumption) (p_surfs : kp.free .surfs := by assumption)
    (p_cells : kp.free .cells := by assumption) (p_memory : kp.free .memory := by assumption) (p_pools : kp.free .pools := by assumption)
    (p_dma : kp.free .dma := by assumption) (p_cal : kp.free .cal := by assumption) (p_otp : kp.free .otp := by assumption)
    (p_boot : kp.free .boot := by assumption) : OutGood kp (execMaintenanceInstallReset s) := by
  unfold execMaintenanceInstallReset
  try dsimp only
  with_reducible repeat' (first | assumption | apply State.fullReset_good | apply outGood_next | apply outGood_fault | apply Good.ite
                                | apply OutGood.ite | split)

theorem execMemPortInitDone_good (p : Fin 8) (ok : Bool) (ms : List Margin) {s : State} (hG : Good kp s)
    (p_regs : kp.free .regs := by assumption) (p_config : kp.free .config := by assumption) (p_mgmt : kp.free .mgmt := by assumption)
    (p_net : kp.free .net := by assumption) (p_store : kp.free .store := by assumption) (p_control : kp.free .control := by assumption)
    (p_seals : kp.free .seals := by assumption) (p_power : kp.free .power := by assumption) (p_faults : kp.free .faults := by assumption)
    (p_units : kp.free .units := by assumption) (p_ctxs : kp.free .ctxs := by assumption) (p_rnds : kp.free .rnds := by assumption)
    (p_adm : kp.free .adm := by assumption) (p_stills : kp.free .stills := by assumption) (p_surfs : kp.free .surfs := by assumption)
    (p_memory : kp.free .memory := by assumption) (p_pools : kp.free .pools := by assumption) (p_dma : kp.free .dma := by assumption)
    (p_boot : kp.free .boot := by assumption) : OutGood kp (execMemPortInitDone p ok ms s) := by
  unfold execMemPortInitDone
  try dsimp only
  with_reducible repeat' (first | assumption | apply State.setMemPort_good | apply State.setRegF_good | apply State.probe_good
                                | apply State.setCause_good | apply State.raiseFault_good | apply State.enterMaint_good
                                | apply outGood_next | apply outGood_fault | apply Good.ite | apply OutGood.ite)

theorem execNporFall_good {s : State} (hG : Good kp s) (p_now : kp.free .now := by assumption) (p_regs : kp.free .regs := by assumption)
    (p_config : kp.free .config := by assumption) (p_hold : kp.free .hold := by assumption) (p_time : kp.free .time := by assumption)
    (p_mgmt : kp.free .mgmt := by assumption) (p_net : kp.free .net := by assumption) (p_store : kp.free .store := by assumption)
    (p_control : kp.free .control := by assumption) (p_seals : kp.free .seals := by assumption)
    (p_power : kp.free .power := by assumption) (p_faults : kp.free .faults := by assumption) (p_units : kp.free .units := by assumption)
    (p_ctxs : kp.free .ctxs := by assumption) (p_rnds : kp.free .rnds := by assumption) (p_adm : kp.free .adm := by assumption)
    (p_stills : kp.free .stills := by assumption) (p_surfs : kp.free .surfs := by assumption) (p_cells : kp.free .cells := by assumption)
    (p_memory : kp.free .memory := by assumption) (p_pools : kp.free .pools := by assumption) (p_dma : kp.free .dma := by assumption)
    (p_cal : kp.free .cal := by assumption) (p_otp : kp.free .otp := by assumption) (p_boot : kp.free .boot := by assumption) : OutGood kp
    (execNporFall s) := by
  unfold execNporFall
  try dsimp only
  with_reducible repeat' (first | assumption | apply State.deferredReset_good | apply State.fullReset_good
                                | apply State.commitForReset_good | apply outGood_next | apply outGood_fault | apply Good.ite
                                | apply OutGood.ite | split | (fail_if_no_progress refine Good.upd ?_ rfl rfl rfl rfl))

theorem execPowerFailDetect_good (pf : Bool) (mv : Nat) (acked : Bool) {s : State} (hG : Good kp s)
    (p_regs : kp.free .regs := by assumption) (p_config : kp.free .config := by assumption) (p_mgmt : kp.free .mgmt := by assumption)
    (p_net : kp.free .net := by assumption) (p_control : kp.free .control := by assumption) (p_seals : kp.free .seals := by assumption)
    (p_power : kp.free .power := by assumption) (p_faults : kp.free .faults := by assumption) (p_units : kp.free .units := by assumption)
    (p_ctxs : kp.free .ctxs := by assumption) (p_rnds : kp.free .rnds := by assumption) (p_adm : kp.free .adm := by assumption)
    (p_stills : kp.free .stills := by assumption) (p_cells : kp.free .cells := by assumption)
    (p_memory : kp.free .memory := by assumption) (p_pools : kp.free .pools := by assumption) (p_dma : kp.free .dma := by assumption)
    (p_boot : kp.free .boot := by assumption) : OutGood kp (execPowerFailDetect pf mv acked s) := by
  unfold execPowerFailDetect
  try dsimp only
  with_reducible repeat' (first | assumption | apply State.senseVin_good | apply State.powerFail_good | apply outGood_next
                                | apply outGood_fault | apply Good.ite | apply OutGood.ite)

theorem execPowerReturn_good (mv : Nat) {s : State} (hG : Good kp s) (p_power : kp.free .power := by assumption) : OutGood kp
    (execPowerReturn mv s) := by
  unfold execPowerReturn
  try dsimp only
  with_reducible repeat' (first | assumption | apply outGood_next | apply outGood_fault | apply Good.ite | apply OutGood.ite | split
                                | (fail_if_no_progress refine Good.upd ?_ rfl rfl rfl rfl))

theorem execPowerReturnReset_good (e : BootEnv) {s : State} (hG : Good kp s) (p_now : kp.free .now := by assumption)
    (p_regs : kp.free .regs := by assumption) (p_config : kp.free .config := by assumption) (p_hold : kp.free .hold := by assumption)
    (p_time : kp.free .time := by assumption) (p_mgmt : kp.free .mgmt := by assumption) (p_net : kp.free .net := by assumption)
    (p_store : kp.free .store := by assumption) (p_control : kp.free .control := by assumption)
    (p_seals : kp.free .seals := by assumption) (p_power : kp.free .power := by assumption) (p_faults : kp.free .faults := by assumption)
    (p_units : kp.free .units := by assumption) (p_ctxs : kp.free .ctxs := by assumption) (p_rnds : kp.free .rnds := by assumption)
    (p_adm : kp.free .adm := by assumption) (p_stills : kp.free .stills := by assumption) (p_surfs : kp.free .surfs := by assumption)
    (p_cells : kp.free .cells := by assumption) (p_memory : kp.free .memory := by assumption) (p_pools : kp.free .pools := by assumption)
    (p_dma : kp.free .dma := by assumption) (p_cal : kp.free .cal := by assumption) (p_otp : kp.free .otp := by assumption)
    (p_boot : kp.free .boot := by assumption) : OutGood kp (execPowerReturnReset e s) := by
  unfold execPowerReturnReset
  try dsimp only
  with_reducible repeat' (first | assumption | apply State.fullReset_good | apply State.bootStart_good | apply outGood_next
                                | apply outGood_fault | apply Good.ite | apply OutGood.ite)

theorem execSweepStart_good {s : State} (hG : Good kp s) (p_regs : kp.free .regs := by assumption)
    (p_config : kp.free .config := by assumption) : OutGood kp (execSweepStart s) := by
  unfold execSweepStart
  try dsimp only
  with_reducible repeat' (first | assumption | apply State.setReg_good | apply State.setRegBit_good | apply outGood_next
                                | apply outGood_fault | apply Good.ite | apply OutGood.ite | split
                                | (fail_if_no_progress refine Good.upd ?_ rfl rfl rfl rfl))

theorem execVinCollapse_good (mv : Nat) (done : Nat) {s : State} (hG : Good kp s) (p_freeCtr : kp.free .freeCtr := by assumption)
    (p_now : kp.free .now := by assumption) (p_regs : kp.free .regs := by assumption) (p_config : kp.free .config := by assumption)
    (p_hold : kp.free .hold := by assumption) (p_time : kp.free .time := by assumption) (p_mgmt : kp.free .mgmt := by assumption)
    (p_net : kp.free .net := by assumption) (p_store : kp.free .store := by assumption) (p_control : kp.free .control := by assumption)
    (p_seals : kp.free .seals := by assumption) (p_journal : kp.free .journal := by assumption)
    (p_power : kp.free .power := by assumption) (p_faults : kp.free .faults := by assumption) (p_units : kp.free .units := by assumption)
    (p_ctxs : kp.free .ctxs := by assumption) (p_rnds : kp.free .rnds := by assumption) (p_adm : kp.free .adm := by assumption)
    (p_stills : kp.free .stills := by assumption) (p_surfs : kp.free .surfs := by assumption) (p_cells : kp.free .cells := by assumption)
    (p_memory : kp.free .memory := by assumption) (p_pools : kp.free .pools := by assumption) (p_dma : kp.free .dma := by assumption)
    (p_cal : kp.free .cal := by assumption) (p_otp : kp.free .otp := by assumption) (p_boot : kp.free .boot := by assumption) : OutGood kp
    (execVinCollapse mv done s) := by
  have key : ∀ (b : Bytes) (c : Nat) (j : Tab Byte) (off : Nat), Journal.wf j → Journal.wf (tearBytes c j off b) := by
    intro b
    induction b with
    | nil => exact fun c j off h => h
    | cons x t ih =>
      intro c j off h
      unfold tearBytes
      apply ih
      split
      · exact twf_tput _ _ _ _ h
      · exact h
  unfold execVinCollapse
  dsimp only
  apply OutGood.ite (outGood_next hG)
  apply outGood_next
  refine State.fullReset_good ?_
  split
  · rename_i q _ _
    exact (State.fresh_good q.2.length hG).change rfl
      (fun hc => ⟨hc.1, hc.2.1, hc.2.2.1, hc.2.2.2.1, key _ _ _ _ (Journal.wf_parts _ _ hc.2.2.2.2)⟩)
      (fun p => by cases p <;> first | exact Or.inl (by assumption) | exact Or.inr rfl | exact Or.inr ⟨rfl, rfl⟩ | exact Or.inr ⟨rfl, rfl, rfl⟩)
  · exact hG.change rfl (fun hc => ⟨hc.1, hc.2.1, hc.2.2.1, hc.2.2.2.1, Journal.wf_parts _ _ hc.2.2.2.2⟩)
      (fun p => by cases p <;> first | exact Or.inl (by assumption) | exact Or.inr rfl | exact Or.inr ⟨rfl, rfl⟩ | exact Or.inr ⟨rfl, rfl, rfl⟩)

end Sys2Proof.Machine
end

