-- ==== Sys2Proof/Laws/KeepRows.lean ====
section
/-!
SUPPORT. What the operations of keys, faults, counter clears, egress, register writes and management keep: the queue, the canonical form of the tables, and every part of the
state but those that a lemma asks to be free.
-/
set_option Elab.async false

namespace Sys2Proof.Machine

variable {kp : Kept}

theorem State.clearRanges_good {s : State} (rs : List (Nat × Nat)) (hG : Good kp s) (p_regs : kp.free .regs := by assumption) : Good kp
    (State.clearRanges s rs) := by
  exact hG.change rfl (fun hc => ⟨twf_filter _ _ _ hc.1, hc.2⟩)
    (fun p => by cases p <;> first | exact Or.inl (by assumption) | exact Or.inr rfl | exact Or.inr ⟨rfl, rfl⟩ | exact Or.inr ⟨rfl, rfl, rfl⟩)

theorem State.admClear_good {s : State} (hG : Good kp s) (p_regs : kp.free .regs := by assumption) : Good kp (State.admClear s) := by
  unfold State.admClear
  try dsimp only
  with_reducible repeat' (first | assumption | apply State.clearRanges_good)

theorem State.authFail_good {s : State} (hG : Good kp s) (p_regs : kp.free .regs := by assumption) : Good kp (State.authFail s) := by
  unfold State.authFail
  try dsimp only
  with_reducible repeat' (first | assumption | apply State.bump32_good)

theorem State.calClear_good {s : State} (hG : Good kp s) (p_regs : kp.free .regs := by assumption) : Good kp (State.calClear s) := by
  unfold State.calClear
  try dsimp only
  with_reducible repeat' (first | assumption | apply State.clearRanges_good)

theorem State.cancelTicket_good {s : State} (t : Ticket) (hG : Good kp s) (p_regs : kp.free .regs := by assumption)
    (p_mgmt : kp.free .mgmt := by assumption) (p_seals : kp.free .seals := by assumption) (p_ctxs : kp.free .ctxs := by assumption)
    (p_stills : kp.free .stills := by assumption) (p_pools : kp.free .pools := by assumption) : Good kp (State.cancelTicket s t) := by
  unfold State.cancelTicket
  try dsimp only
  with_reducible repeat' (first | assumption | apply State.dropTicket_good | apply State.dropStill_good | apply Good.ite | split
                                | (fail_if_no_progress refine Good.upd ?_ rfl rfl rfl rfl))

theorem State.cfgClear_good {s : State} (hG : Good kp s) (p_regs : kp.free .regs := by assumption) : Good kp (State.cfgClear s) := by
  unfold State.cfgClear
  try dsimp only
  with_reducible repeat' (first | assumption | apply State.clearRanges_good)

theorem State.clearFaults_good {s : State} (k : Nat) (bits : Word) (hG : Good kp s) (p_regs : kp.free .regs := by assumption)
    (p_faults : kp.free .faults := by assumption) : Good kp (State.clearFaults s k bits) := by
  unfold State.clearFaults
  try dsimp only
  with_reducible repeat' (first | assumption | apply State.syncState_good | apply State.setReg_good)

theorem State.colClear_good {s : State} (hG : Good kp s) (p_regs : kp.free .regs := by assumption) : Good kp (State.colClear s) := by
  unfold State.colClear
  try dsimp only
  with_reducible repeat' (first | assumption | apply State.clearRanges_good)

theorem State.cuClear_good {s : State} (n : Nat) (hG : Good kp s) (p_regs : kp.free .regs := by assumption) : Good kp
    (State.cuClear s n) := by
  unfold State.cuClear
  try dsimp only
  with_reducible repeat' (first | assumption | apply State.clearRanges_good)

theorem State.decClear_good {s : State} (n : Nat) (hG : Good kp s) (p_regs : kp.free .regs := by assumption) : Good kp
    (State.decClear s n) := by
  unfold State.decClear
  try dsimp only
  with_reducible repeat' (first | assumption | apply State.clearRanges_good)

theorem State.dmaCntClear_good {s : State} (n : Nat) (hG : Good kp s) (p_regs : kp.free .regs := by assumption) : Good kp
    (State.dmaCntClear s n) := by
  unfold State.dmaCntClear
  try dsimp only
  with_reducible repeat' (first | assumption | apply State.clearRanges_good)

theorem State.dropMgmtSess_good {s : State} (num : Nat) (hG : Good kp s) (p_mgmt : kp.free .mgmt := by assumption) : Good kp
    (State.dropMgmtSess s num) := by
  unfold State.dropMgmtSess
  try dsimp only
  with_reducible repeat' (first | assumption | apply Good.ite | split | (fail_if_no_progress refine Good.upd ?_ rfl rfl rfl rfl))

theorem State.egqClear_good {s : State} (hG : Good kp s) (p_regs : kp.free .regs := by assumption) : Good kp (State.egqClear s) := by
  unfold State.egqClear
  try dsimp only
  with_reducible repeat' (first | assumption | apply State.clearRanges_good)

theorem State.encClear_good {s : State} (n : Nat) (hG : Good kp s) (p_regs : kp.free .regs := by assumption) : Good kp
    (State.encClear s n) := by
  unfold State.encClear
  try dsimp only
  with_reducible repeat' (first | assumption | apply State.clearRanges_good)

theorem State.fltClear_good {s : State} (hG : Good kp s) (p_regs : kp.free .regs := by assumption) : Good kp (State.fltClear s) := by
  unfold State.fltClear
  try dsimp only
  with_reducible repeat' (first | assumption | apply State.clearRanges_good)

theorem State.forceFault_good {s : State} (n : Nat) (hG : Good kp s) (p_regs : kp.free .regs := by assumption)
    (p_mgmt : kp.free .mgmt := by assumption) (p_net : kp.free .net := by assumption) (p_control : kp.free .control := by assumption)
    (p_seals : kp.free .seals := by assumption) (p_power : kp.free .power := by assumption) (p_faults : kp.free .faults := by assumption)
    (p_units : kp.free .units := by assumption) (p_ctxs : kp.free .ctxs := by assumption) (p_rnds : kp.free .rnds := by assumption)
    (p_adm : kp.free .adm := by assumption) (p_stills : kp.free .stills := by assumption) (p_memory : kp.free .memory := by assumption)
    (p_pools : kp.free .pools := by assumption) : Good kp (State.forceFault s n) := by
  unfold State.forceFault
  try dsimp only
  with_reducible repeat' (first | assumption | apply State.raiseFault_good)

theorem State.fpClear_good {s : State} (n : Nat) (hG : Good kp s) (p_regs : kp.free .regs := by assumption) : Good kp
    (State.fpClear s n) := by
  unfold State.fpClear
  try dsimp only
  with_reducible repeat' (first | assumption | apply State.clearRanges_good | apply State.setReg_good)

theorem State.fpGlbClear_good {s : State} (hG : Good kp s) (p_regs : kp.free .regs := by assumption) : Good kp (State.fpGlbClear s) := by
  unfold State.fpGlbClear
  try dsimp only
  with_reducible repeat' (first | assumption | apply State.clearRanges_good)

theorem State.glbClear_good {s : State} (hG : Good kp s) (p_regs : kp.free .regs := by assumption) : Good kp (State.glbClear s) := by
  unfold State.glbClear
  try dsimp only
  with_reducible repeat' (first | assumption | apply State.clearRanges_good)

theorem State.hbxClear_good {s : State} (hG : Good kp s) (p_regs : kp.free .regs := by assumption) : Good kp (State.hbxClear s) := by
  unfold State.hbxClear
  try dsimp only
  with_reducible repeat' (first | assumption | apply State.clearRanges_good)

theorem State.holdWord_good {s : State} (a : Nat) (v : Option Word) (hG : Good kp s) (p_hold : kp.free .hold := by assumption) : Good kp
    (State.holdWord s a v) := by
  unfold State.holdWord
  try dsimp only
  with_reducible repeat' (first | assumption | apply Good.ite | split | (fail_if_no_progress refine Good.upd ?_ rfl rfl rfl rfl))

theorem State.intClear_good {s : State} (hG : Good kp s) (p_regs : kp.free .regs := by assumption) : Good kp (State.intClear s) := by
  unfold State.intClear
  try dsimp only
  with_reducible repeat' (first | assumption | apply State.clearRanges_good)

theorem State.leaveSafe_good {s : State} (hG : Good kp s) (p_regs : kp.free .regs := by assumption)
    (p_net : kp.free .net := by assumption) (p_seals : kp.free .seals := by assumption) (p_power : kp.free .power := by assumption)
    (p_faults : kp.free .faults := by assumption) (p_ctxs : kp.free .ctxs := by assumption) (p_rnds : kp.free .rnds := by assumption)
    (p_pools : kp.free .pools := by assumption) : Good kp (State.leaveSafe s) := by
  unfold State.leaveSafe
  try dsimp only
  with_reducible repeat' (first | assumption | apply State.freeCtx_good | apply State.freeRnd_good | apply State.startSign_good
                                | apply State.syncState_good | apply State.setRegBit_good | apply State.showIsa_good
                                | refine Good.foldl ?_ (fun t a ht => ?_) | refine Good.foldl2 ?_ (fun t a ht => ?_)
                                | refine Good.foldl1 ?_ (fun t a ht => ?_) | refine Good.foldr ?_ (fun a t ht => ?_) | apply Good.ite
                                | split | (fail_if_no_progress refine Good.upd ?_ rfl rfl rfl rfl))

theorem State.memClear_good {s : State} (n : Nat) (hG : Good kp s) (p_regs : kp.free .regs := by assumption) : Good kp
    (State.memClear s n) := by
  unfold State.memClear
  try dsimp only
  with_reducible repeat' (first | assumption | apply State.clearRanges_good)

theorem State.mgmtRx_good {s : State} (f : RxFrame) (mine : KtMsg → Bool) (hG : Good kp s) (p_regs : kp.free .regs := by assumption)
    (p_net : kp.free .net := by assumption) (p_control : kp.free .control := by assumption) (p_memory : kp.free .memory := by assumption)
    : Good kp (State.mgmtRx s f mine).1 := by
  unfold State.mgmtRx
  try dsimp only
  with_reducible repeat' (first | assumption | apply State.acceptCtl_good | apply State.nightFrame_good | apply Good.ite | split)

theorem State.mgmtSend_good {s : State} (f : RxFrame) (kind : FrameKind) (datagram : Bytes) (hG : Good kp s)
    (p_net : kp.free .net := by assumption) : Good kp (State.mgmtSend s f kind datagram) := by
  unfold State.mgmtSend
  try dsimp only
  with_reducible repeat' (first | assumption | apply State.send_good)

theorem State.nightClear_good {s : State} (hG : Good kp s) (p_regs : kp.free .regs := by assumption) : Good kp (State.nightClear s) := by
  unfold State.nightClear
  try dsimp only
  with_reducible repeat' (first | assumption | apply State.clearRanges_good)

theorem State.noteSent_good {s : State} (x : Sheet) (hG : Good kp s) (p_seals : kp.free .seals := by assumption) : Good kp
    (State.noteSent s x) := by
  unfold State.noteSent
  try dsimp only
  with_reducible repeat' (first | assumption | apply Good.ite | split | (fail_if_no_progress refine Good.upd ?_ rfl rfl rfl rfl))

theorem State.ticketRoom_good {s : State} (hG : Good kp s) {t : State} (e : (State.ticketRoom s) = some t)
    (p_mgmt : kp.free .mgmt := by assumption) : Good kp t := by
  unfold State.ticketRoom at e
  try dsimp only
  repeat' split at e
  all_goals (first | (cases e; done) | (cases e))
  with_reducible repeat' (first | assumption | apply State.dropTicket_good)

theorem State.opStart_good (kind : Nat) (ok : Bytes → Bool) (extra : State → Bytes) (start : State → Nat → Bytes → State) {x1 : State}
    (x2 : Nat) (x3 : RxFrame) (x4 : Bytes) (hst : ∀ t n b, Good kp t → Good kp (start t n b)) (hGx1 : Good kp x1)
    (p_mgmt : kp.free .mgmt := by assumption) : Good kp (State.opStart kind ok extra start x1 x2 x3 x4).2 := by
  unfold State.opStart
  try dsimp only
  with_reducible repeat' (first | assumption | (refine State.ticketRoom_good ?_ (by assumption)) | apply Good.ite | split
                                | (fail_if_no_progress refine Good.upd ?_ rfl rfl rfl rfl) | apply hst)

theorem State.queueAttest_good {s : State} (num : Nat) (nonce : Bytes) (hG : Good kp s) (p_mgmt : kp.free .mgmt := by assumption)
    (p_seals : kp.free .seals := by assumption) : Good kp (State.queueAttest s num nonce) := by
  unfold State.queueAttest
  try dsimp only
  with_reducible repeat' (first | assumption | apply State.mapTicket_good | apply State.startSign_good | apply Good.ite | split
                                | (fail_if_no_progress refine Good.upd ?_ rfl rfl rfl rfl))

theorem notInMaintenance_good (op : Perform) {x1 : State} (x2 : Nat) (x3 : RxFrame) (x4 : Bytes) (hop : ∀ t n f b, Good kp t → Good kp
    (op t n f b).2) (hGx1 : Good kp x1) : Good kp (notInMaintenance op x1 x2 x3 x4).2 := by
  unfold notInMaintenance
  try dsimp only
  with_reducible repeat' (first | assumption | apply Good.ite | split | (fail_if_no_progress refine Good.upd ?_ rfl rfl rfl rfl)
                                | apply hop)

theorem State.opAttest_good {x1 : State} (x2 : Nat) (x3 : RxFrame) (x4 : Bytes) (hGx1 : Good kp x1)
    (p_mgmt : kp.free .mgmt := by assumption) (p_seals : kp.free .seals := by assumption) : Good kp (State.opAttest x1 x2 x3 x4).2 := by
  unfold State.opAttest
  try dsimp only
  with_reducible repeat' (first | assumption | apply notInMaintenance_good | apply State.opStart_good | apply State.queueAttest_good
                                | apply Good.ite | split | (fail_if_no_progress refine Good.upd ?_ rfl rfl rfl rfl) | (intro t n f b h)
                                | (intro t n b h))

theorem State.opCalibrate_good {x1 : State} (x2 : Nat) (x3 : RxFrame) (x4 : Bytes) (hGx1 : Good kp x1)
    (p_mgmt : kp.free .mgmt := by assumption) : Good kp (State.opCalibrate x1 x2 x3 x4).2 := by
  unfold State.opCalibrate
  try dsimp only
  with_reducible repeat' (first | assumption | apply notInMaintenance_good | apply State.opStart_good | apply Good.ite | split
                                | (fail_if_no_progress refine Good.upd ?_ rfl rfl rfl rfl) | (intro t n f b h) | (intro t n b h))

theorem State.opDigest_good {x1 : State} (x2 : Nat) (x3 : RxFrame) (x4 : Bytes) (hGx1 : Good kp x1)
    (p_mgmt : kp.free .mgmt := by assumption) : Good kp (State.opDigest x1 x2 x3 x4).2 := by
  unfold State.opDigest
  try dsimp only
  with_reducible repeat' (first | assumption | apply notInMaintenance_good | apply State.opStart_good | apply State.readyTicket_good
                                | apply Good.ite | split | (fail_if_no_progress refine Good.upd ?_ rfl rfl rfl rfl) | (intro t n f b h)
                                | (intro t n b h))

theorem State.opImageBlock_good {x1 : State} (x2 : Nat) (x3 : RxFrame) (x4 : Bytes) (hGx1 : Good kp x1)
    (p_boot : kp.free .boot := by assumption) : Good kp (State.opImageBlock x1 x2 x3 x4).2 := by
  unfold State.opImageBlock
  try dsimp only
  with_reducible repeat' (first | assumption | apply State.imageBlock_good | apply Good.ite | split)

theorem State.opInstall_good {x1 : State} (x2 : Nat) (x3 : RxFrame) (x4 : Bytes) (hGx1 : Good kp x1)
    (p_mgmt : kp.free .mgmt := by assumption) : Good kp (State.opInstall x1 x2 x3 x4).2 := by
  unfold State.opInstall
  try dsimp only
  with_reducible repeat' (first | assumption | apply State.opStart_good | apply Good.ite | split
                                | (fail_if_no_progress refine Good.upd ?_ rfl rfl rfl rfl) | (intro t n f b h) | (intro t n b h))

theorem State.readReg_good {s : State} (a : Nat) (hG : Good kp s) (p_hold : kp.free .hold := by assumption) : Good kp
    (State.readReg s a).2 := by
  unfold State.readReg
  try dsimp only
  with_reducible repeat' (first | assumption | apply State.holdWord_good | apply Good.ite | split)

theorem State.readRegs_good {s : State} (a : Nat) (x1 : Nat) (hG : Good kp s) (p_hold : kp.free .hold := by assumption) : Good kp
    (State.readRegs s a x1).2 := by
  induction x1 generalizing a s with
  | zero => exact hG
  | succ j ih =>
    unfold State.readRegs
    try dsimp only
    with_reducible repeat' (first | assumption | apply ih | apply State.readReg_good)

theorem State.opRead_good {x1 : State} (x2 : Nat) (x3 : RxFrame) (x4 : Bytes) (hGx1 : Good kp x1)
    (p_regs : kp.free .regs := by assumption) (p_hold : kp.free .hold := by assumption) : Good kp (State.opRead x1 x2 x3 x4).2 := by
  unfold State.opRead
  try dsimp only
  with_reducible repeat' (first | assumption | apply State.bump32_good | apply State.readRegs_good | apply Good.ite | split)

theorem State.opSelfTest_good {x1 : State} (x2 : Nat) (x3 : RxFrame) (x4 : Bytes) (hGx1 : Good kp x1)
    (p_regs : kp.free .regs := by assumption) (p_mgmt : kp.free .mgmt := by assumption) (p_control : kp.free .control := by assumption)
    (p_units : kp.free .units := by assumption) : Good kp (State.opSelfTest x1 x2 x3 x4).2 := by
  unfold State.opSelfTest
  try dsimp only
  with_reducible repeat' (first | assumption | apply notInMaintenance_good | apply State.opStart_good | apply State.startTests_good
                                | apply Good.ite | split | (fail_if_no_progress refine Good.upd ?_ rfl rfl rfl rfl) | (intro t n f b h)
                                | (intro t n b h))

theorem State.opStill_good {x1 : State} (x2 : Nat) (x3 : RxFrame) (x4 : Bytes) (hGx1 : Good kp x1)
    (p_mgmt : kp.free .mgmt := by assumption) : Good kp (State.opStill x1 x2 x3 x4).2 := by
  unfold State.opStill
  try dsimp only
  with_reducible repeat' (first | assumption | apply notInMaintenance_good | apply State.opStart_good | apply State.readyTicket_good
                                | apply Good.ite | split | (fail_if_no_progress refine Good.upd ?_ rfl rfl rfl rfl) | (intro t n f b h)
                                | (intro t n b h))

theorem State.opTicketRead_good {x1 : State} (x2 : Nat) (x3 : RxFrame) (x4 : Bytes) (hGx1 : Good kp x1)
    (p_freeCtr : kp.free .freeCtr := by assumption) (p_mgmt : kp.free .mgmt := by assumption) : Good kp
    (State.opTicketRead x1 x2 x3 x4).2 := by
  unfold State.opTicketRead
  try dsimp only
  with_reducible repeat' (first | assumption | apply State.fresh_good | apply State.mapTicket_good | apply Good.ite | split)

theorem State.opTicketRelease_good {x1 : State} (x2 : Nat) (x3 : RxFrame) (x4 : Bytes) (hGx1 : Good kp x1)
    (p_regs : kp.free .regs := by assumption) (p_mgmt : kp.free .mgmt := by assumption) (p_seals : kp.free .seals := by assumption)
    (p_ctxs : kp.free .ctxs := by assumption) (p_stills : kp.free .stills := by assumption) (p_pools : kp.free .pools := by assumption)
    : Good kp (State.opTicketRelease x1 x2 x3 x4).2 := by
  unfold State.opTicketRelease
  try dsimp only
  with_reducible repeat' (first | assumption | apply State.dropTicket_good | apply State.cancelTicket_good | apply Good.ite | split)

theorem State.settleIf_good {s : State} (changed : Bool) (hG : Good kp s) (p_regs : kp.free .regs := by assumption) : Good kp
    (State.settleIf s changed) := by
  unfold State.settleIf
  try dsimp only
  with_reducible repeat' (first | assumption | apply State.settle_good | apply Good.ite)

theorem State.writeRw_good {s : State} (w : Writer) (a : Nat) (v : Word) (fs : List Field) (hG : Good kp s)
    (p_regs : kp.free .regs := by assumption) : Good kp (State.writeRw s w a v fs) := by
  unfold State.writeRw
  try dsimp only
  with_reducible repeat' (first | assumption | apply State.bump32_good | apply State.writeCal_good | apply State.bump_good
                                | apply State.setReg_good | apply Good.ite)

theorem State.writeW1c_good {s : State} (a : Nat) (v : Word) (fs : List Field) (hG : Good kp s) (p_regs : kp.free .regs := by assumption)
    (p_faults : kp.free .faults := by assumption) : Good kp (State.writeW1c s a v fs) := by
  unfold State.writeW1c
  try dsimp only
  with_reducible repeat' (first | assumption | apply State.clearFaults_good | apply State.setReg_good | apply Good.ite)

theorem State.setOtp_good {s : State} (o : Otp) (hG : Good kp s) (p_otp : kp.free .otp := by assumption) : Good kp
    (State.setOtp s o) := by
  unfold State.setOtp
  try dsimp only
  with_reducible repeat' (first | assumption | apply Good.ite | split | (fail_if_no_progress refine Good.upd ?_ rfl rfl rfl rfl))

theorem State.thaw_good {s : State} (a : Nat) (hG : Good kp s) (p_regs : kp.free .regs := by assumption)
    (p_net : kp.free .net := by assumption) (p_control : kp.free .control := by assumption) (p_seals : kp.free .seals := by assumption)
    (p_units : kp.free .units := by assumption) (p_dma : kp.free .dma := by assumption) : Good kp (State.thaw s a) := by
  unfold State.thaw
  try dsimp only
  with_reducible repeat' (first | assumption | apply State.setRegBit_good | apply State.showUnit_good | apply State.setUnit_good
                                | apply State.settleEvents_good | apply State.setSeq_good | apply State.showDma_good
                                | apply State.setRegF_good | apply State.setDmaCh_good | apply State.setPort_good
                                | apply State.startSign_good | apply Good.ite)

theorem State.unfreeze_good {s : State} (agent : Nat) (key : Nat) (hG : Good kp s) (p_regs : kp.free .regs := by assumption)
    (p_net : kp.free .net := by assumption) (p_control : kp.free .control := by assumption) (p_seals : kp.free .seals := by assumption)
    (p_faults : kp.free .faults := by assumption) (p_units : kp.free .units := by assumption) (p_dma : kp.free .dma := by assumption)
    : Good kp (State.unfreeze s agent key) := by
  unfold State.unfreeze
  try dsimp only
  with_reducible repeat' (first | assumption | apply State.bump_good | apply State.syncState_good | apply State.thaw_good | apply Good.ite)

theorem State.prtClear_good {s : State} (n : Nat) (hG : Good kp s) (p_regs : kp.free .regs := by assumption) : Good kp
    (State.prtClear s n) := by
  unfold State.prtClear
  try dsimp only
  with_reducible repeat' (first | assumption | apply State.clearRanges_good)

theorem State.sealClear_good {s : State} (hG : Good kp s) (p_regs : kp.free .regs := by assumption) : Good kp (State.sealClear s) := by
  unfold State.sealClear
  try dsimp only
  with_reducible repeat' (first | assumption | apply State.clearRanges_good)

theorem State.seqClear_good {s : State} (n : Nat) (hG : Good kp s) (p_regs : kp.free .regs := by assumption) : Good kp
    (State.seqClear s n) := by
  unfold State.seqClear
  try dsimp only
  with_reducible repeat' (first | assumption | apply State.clearRanges_good)

theorem State.writeClear_good {s : State} (a : Nat) (hG : Good kp s) (p_regs : kp.free .regs := by assumption) : Good kp
    (State.writeClear s a) := by
  unfold State.writeClear
  try dsimp only
  with_reducible repeat' (first | assumption | apply State.glbClear_good | apply State.admClear_good | apply State.nightClear_good
                                | apply State.cfgClear_good | apply State.fltClear_good | apply State.intClear_good
                                | apply State.colClear_good | apply State.seqClear_good | apply State.prtClear_good
                                | apply State.hbxClear_good | apply State.egqClear_good | apply State.fpGlbClear_good
                                | apply State.fpClear_good | apply State.dmaCntClear_good | apply State.memClear_good
                                | apply State.decClear_good | apply State.encClear_good | apply State.cuClear_good
                                | apply State.sealClear_good | apply State.calClear_good | apply Good.ite)

theorem State.writeDmaCtrl_good {s : State} (n : Nat) (seq : Nat) (v : Word) (hG : Good kp s) (p_regs : kp.free .regs := by assumption)
    (p_mgmt : kp.free .mgmt := by assumption) (p_net : kp.free .net := by assumption) (p_control : kp.free .control := by assumption)
    (p_seals : kp.free .seals := by assumption) (p_power : kp.free .power := by assumption) (p_faults : kp.free .faults := by assumption)
    (p_units : kp.free .units := by assumption) (p_ctxs : kp.free .ctxs := by assumption) (p_rnds : kp.free .rnds := by assumption)
    (p_adm : kp.free .adm := by assumption) (p_stills : kp.free .stills := by assumption) (p_cells : kp.free .cells := by assumption)
    (p_memory : kp.free .memory := by assumption) (p_pools : kp.free .pools := by assumption) (p_dma : kp.free .dma := by assumption)
    : Good kp (State.writeDmaCtrl s n seq v) := by
  unfold State.writeDmaCtrl
  try dsimp only
  with_reducible repeat' (first | assumption | apply State.dmaClear_good | apply State.dmaAbort_good | apply State.dmaArm_good
                                | apply State.dmaProgStart_good | apply Good.ite)

theorem State.otpCommand_good {s : State} (keySlot : Nat) (cmd : Nat) (slot : Nat) (hG : Good kp s)
    (p_otp : kp.free .otp := by assumption) : Good kp (State.otpCommand s keySlot cmd slot) := by
  unfold State.otpCommand
  try dsimp only
  with_reducible repeat' (first | assumption | apply State.setOtp_good | apply Good.ite)

theorem State.otpOf_good {s : State} (num : Nat) (cmd : Nat) (slot : Nat) (hG : Good kp s) (p_otp : kp.free .otp := by assumption)
    : Good kp (State.otpOf s num cmd slot) := by
  unfold State.otpOf
  try dsimp only
  with_reducible repeat' (first | assumption | apply State.otpCommand_good | apply Good.ite | split)

theorem State.writeOtp_good {s : State} (w : Writer) (v : Word) (hG : Good kp s) (p_otp : kp.free .otp := by assumption) : Good kp
    (State.writeOtp s w v) := by
  unfold State.writeOtp
  try dsimp only
  with_reducible repeat' (first | assumption | apply State.otpOf_good | apply Good.ite | split)

theorem State.writeWo_good {s : State} (w : Writer) (a : Nat) (v : Word) (hG : Good kp s) (p_now : kp.free .now := by assumption)
    (p_regs : kp.free .regs := by assumption) (p_config : kp.free .config := by assumption) (p_hold : kp.free .hold := by assumption)
    (p_time : kp.free .time := by assumption) (p_mgmt : kp.free .mgmt := by assumption) (p_net : kp.free .net := by assumption)
    (p_store : kp.free .store := by assumption) (p_control : kp.free .control := by assumption)
    (p_seals : kp.free .seals := by assumption) (p_power : kp.free .power := by assumption) (p_faults : kp.free .faults := by assumption)
    (p_units : kp.free .units := by assumption) (p_ctxs : kp.free .ctxs := by assumption) (p_rnds : kp.free .rnds := by assumption)
    (p_adm : kp.free .adm := by assumption) (p_stills : kp.free .stills := by assumption) (p_surfs : kp.free .surfs := by assumption)
    (p_cells : kp.free .cells := by assumption) (p_memory : kp.free .memory := by assumption) (p_pools : kp.free .pools := by assumption)
    (p_dma : kp.free .dma := by assumption) (p_cal : kp.free .cal := by assumption) (p_otp : kp.free .otp := by assumption)
    (p_boot : kp.free .boot := by assumption) : Good kp (State.writeWo s w a v) := by
  unfold State.writeWo
  try dsimp only
  with_reducible repeat' (first | assumption | apply State.nightEnter_good | apply State.nightExit_good | apply State.glbReset_good
                                | apply State.writeOtp_good | apply State.setOtp_good | apply State.forceFault_good
                                | apply State.unfreeze_good | apply State.writeDmaCtrl_good | apply State.calReplan_good
                                | apply State.closeCtx_good | apply State.rndOpen_good | apply State.rndLeaveOpen_good
                                | apply State.writeClear_good | apply Good.ite | split)

theorem State.writeReg_good {s : State} (w : Writer) (a : Nat) (v : Word) (hG : Good kp s) (p_now : kp.free .now := by assumption)
    (p_regs : kp.free .regs := by assumption) (p_config : kp.free .config := by assumption) (p_hold : kp.free .hold := by assumption)
    (p_time : kp.free .time := by assumption) (p_mgmt : kp.free .mgmt := by assumption) (p_net : kp.free .net := by assumption)
    (p_store : kp.free .store := by assumption) (p_control : kp.free .control := by assumption)
    (p_seals : kp.free .seals := by assumption) (p_power : kp.free .power := by assumption) (p_faults : kp.free .faults := by assumption)
    (p_units : kp.free .units := by assumption) (p_ctxs : kp.free .ctxs := by assumption) (p_rnds : kp.free .rnds := by assumption)
    (p_adm : kp.free .adm := by assumption) (p_stills : kp.free .stills := by assumption) (p_surfs : kp.free .surfs := by assumption)
    (p_cells : kp.free .cells := by assumption) (p_memory : kp.free .memory := by assumption) (p_pools : kp.free .pools := by assumption)
    (p_dma : kp.free .dma := by assumption) (p_cal : kp.free .cal := by assumption) (p_otp : kp.free .otp := by assumption)
    (p_boot : kp.free .boot := by assumption) : Good kp (State.writeReg s w a v) := by
  unfold State.writeReg
  try dsimp only
  with_reducible repeat' (first | assumption | apply State.writeOos_good | apply State.writeRw_good | apply State.writeW1c_good
                                | apply State.writeWo_good | apply Good.ite | split)

theorem State.writeList_good {s : State} (w : Writer) (a : Nat) (x1 : List Word) (hG : Good kp s) (p_now : kp.free .now := by assumption)
    (p_regs : kp.free .regs := by assumption) (p_config : kp.free .config := by assumption) (p_hold : kp.free .hold := by assumption)
    (p_time : kp.free .time := by assumption) (p_mgmt : kp.free .mgmt := by assumption) (p_net : kp.free .net := by assumption)
    (p_store : kp.free .store := by assumption) (p_control : kp.free .control := by assumption)
    (p_seals : kp.free .seals := by assumption) (p_power : kp.free .power := by assumption) (p_faults : kp.free .faults := by assumption)
    (p_units : kp.free .units := by assumption) (p_ctxs : kp.free .ctxs := by assumption) (p_rnds : kp.free .rnds := by assumption)
    (p_adm : kp.free .adm := by assumption) (p_stills : kp.free .stills := by assumption) (p_surfs : kp.free .surfs := by assumption)
    (p_cells : kp.free .cells := by assumption) (p_memory : kp.free .memory := by assumption) (p_pools : kp.free .pools := by assumption)
    (p_dma : kp.free .dma := by assumption) (p_cal : kp.free .cal := by assumption) (p_otp : kp.free .otp := by assumption)
    (p_boot : kp.free .boot := by assumption) : Good kp (State.writeList s w a x1) := by
  induction x1 generalizing a s with
  | nil => exact hG
  | cons y ks ih =>
    unfold State.writeList
    try dsimp only
    with_reducible repeat' (first | assumption | apply ih | apply State.writeReg_good | apply Good.ite)

theorem State.writeRegs_good {s : State} (w : Writer) (a : Nat) (vs : List Word) (hG : Good kp s) (p_now : kp.free .now := by assumption)
    (p_regs : kp.free .regs := by assumption) (p_config : kp.free .config := by assumption) (p_hold : kp.free .hold := by assumption)
    (p_time : kp.free .time := by assumption) (p_mgmt : kp.free .mgmt := by assumption) (p_net : kp.free .net := by assumption)
    (p_store : kp.free .store := by assumption) (p_control : kp.free .control := by assumption)
    (p_seals : kp.free .seals := by assumption) (p_power : kp.free .power := by assumption) (p_faults : kp.free .faults := by assumption)
    (p_units : kp.free .units := by assumption) (p_ctxs : kp.free .ctxs := by assumption) (p_rnds : kp.free .rnds := by assumption)
    (p_adm : kp.free .adm := by assumption) (p_stills : kp.free .stills := by assumption) (p_surfs : kp.free .surfs := by assumption)
    (p_cells : kp.free .cells := by assumption) (p_memory : kp.free .memory := by assumption) (p_pools : kp.free .pools := by assumption)
    (p_dma : kp.free .dma := by assumption) (p_cal : kp.free .cal := by assumption) (p_otp : kp.free .otp := by assumption)
    (p_boot : kp.free .boot := by assumption) : Good kp (State.writeRegs s w a vs) := by
  unfold State.writeRegs
  try dsimp only
  with_reducible repeat' (first | assumption | apply State.writeList_good | apply State.settleIf_good)

theorem State.opWrite_good {x1 : State} (x2 : Nat) (x3 : RxFrame) (x4 : Bytes) (hGx1 : Good kp x1) (p_now : kp.free .now := by assumption)
    (p_regs : kp.free .regs := by assumption) (p_config : kp.free .config := by assumption) (p_hold : kp.free .hold := by assumption)
    (p_time : kp.free .time := by assumption) (p_mgmt : kp.free .mgmt := by assumption) (p_net : kp.free .net := by assumption)
    (p_store : kp.free .store := by assumption) (p_control : kp.free .control := by assumption)
    (p_seals : kp.free .seals := by assumption) (p_power : kp.free .power := by assumption) (p_faults : kp.free .faults := by assumption)
    (p_units : kp.free .units := by assumption) (p_ctxs : kp.free .ctxs := by assumption) (p_rnds : kp.free .rnds := by assumption)
    (p_adm : kp.free .adm := by assumption) (p_stills : kp.free .stills := by assumption) (p_surfs : kp.free .surfs := by assumption)
    (p_cells : kp.free .cells := by assumption) (p_memory : kp.free .memory := by assumption) (p_pools : kp.free .pools := by assumption)
    (p_dma : kp.free .dma := by assumption) (p_cal : kp.free .cal := by assumption) (p_otp : kp.free .otp := by assumption)
    (p_boot : kp.free .boot := by assumption) : Good kp (State.opWrite x1 x2 x3 x4).2 := by
  unfold State.opWrite
  try dsimp only
  with_reducible repeat' (first | assumption | apply State.bump32_good | apply State.writeRegs_good | apply Good.ite | split)

theorem State.openMgmt_good {s : State} (f : RxFrame) (b : Bytes) (hG : Good kp s) (p_freeCtr : kp.free .freeCtr := by assumption)
    (p_mgmt : kp.free .mgmt := by assumption) (p_net : kp.free .net := by assumption) (p_boot : kp.free .boot := by assumption) : Good kp
    (State.openMgmt s f b) := by
  unfold State.openMgmt
  try dsimp only
  with_reducible repeat' (first | assumption | apply State.trngBytes_good | apply State.newScalar_good | apply State.fresh_good
                                | apply State.mgmtSend_good | apply Good.ite | split
                                | (fail_if_no_progress refine Good.upd ?_ rfl rfl rfl rfl))

theorem State.programKey_good {s : State} (k : Nat) (hash : Bytes) (hG : Good kp s) (p_otp : kp.free .otp := by assumption) : Good kp
    (State.programKey s k hash) := by
  unfold State.programKey
  try dsimp only
  with_reducible repeat' (first | assumption | apply State.setOtp_good)

theorem State.otpFailed_good {s : State} (cmd : Nat) (slot : Nat) (hG : Good kp s) (p_freeCtr : kp.free .freeCtr := by assumption)
    (p_otp : kp.free .otp := by assumption) : Good kp (State.otpFailed s cmd slot) := by
  unfold State.otpFailed
  try dsimp only
  with_reducible repeat' (first | assumption | apply State.fresh_good | apply State.programKey_good | apply State.setOtp_good
                                | apply Good.ite)

theorem State.setMgmtSess_good {s : State} (x : MgmtSess) (hG : Good kp s) (p_mgmt : kp.free .mgmt := by assumption) : Good kp
    (State.setMgmtSess s x) := by
  unfold State.setMgmtSess
  try dsimp only
  with_reducible repeat' (first | assumption | apply Good.ite | split | (fail_if_no_progress refine Good.upd ?_ rfl rfl rfl rfl))

theorem State.performReq_good {s : State} (x : MgmtSess) (f : RxFrame) (m : KtMsg) (op : Perform) (hG : Good kp s)
    (hop : ∀ t n f b, Good kp t → Good kp (op t n f b).2) (p_mgmt : kp.free .mgmt := by assumption)
    (p_net : kp.free .net := by assumption) : Good kp (State.performReq s x f m op) := by
  have h1 := hop _ x.num f (reqBody m.body) (State.setMgmtSess_good
    { x with lastSeq := m.seq, lastReq := s.now, busyAt := s.now, busy := x.unanswered s.now + 1 } hG)
  unfold State.performReq
  dsimp only
  split
  · exact h1
  · exact State.mgmtSend_good _ _ _ (State.setMgmtSess_good _ h1)

theorem State.poisonRecord_good {s : State} (n : Nat) (q : Nat) (hG : Good kp s) (p_regs : kp.free .regs := by assumption)
    (p_net : kp.free .net := by assumption) (p_ctxs : kp.free .ctxs := by assumption) : Good kp (State.poisonRecord s n q) := by
  unfold State.poisonRecord
  try dsimp only
  with_reducible repeat' (first | assumption | apply State.bump_good | apply State.setCtx_good | apply State.setSess_good | apply Good.ite
                                | split)

theorem State.request_good {s : State} (f : RxFrame) (kind : ReqKind) (op : Perform) (hG : Good kp s)
    (hop : ∀ t n f b, Good kp t → Good kp (op t n f b).2) (p_regs : kp.free .regs := by assumption)
    (p_mgmt : kp.free .mgmt := by assumption) (p_net : kp.free .net := by assumption) (p_control : kp.free .control := by assumption)
    (p_memory : kp.free .memory := by assumption) : Good kp (State.request s f kind op) := by
  unfold State.request
  try dsimp only
  with_reducible repeat' (first | assumption | apply State.mgmtRx_good | apply State.authFail_good | apply State.bump32_good
                                | apply State.performReq_good | apply State.setMgmtSess_good | apply State.mgmtSend_good | apply Good.ite
                                | split)

theorem State.resolveHeads_good {s : State} (p : Nat) (hG : Good kp s) (p_net : kp.free .net := by assumption) : Good kp
    (State.resolveHeads s p) := by
  unfold State.resolveHeads
  try dsimp only
  with_reducible repeat' (first | assumption | apply State.startResolve_good | refine Good.foldl ?_ (fun t a ht => ?_)
                                | refine Good.foldl2 ?_ (fun t a ht => ?_) | refine Good.foldl1 ?_ (fun t a ht => ?_)
                                | refine Good.foldr ?_ (fun a t ht => ?_) | apply Good.ite)

theorem State.revokeKey_good {s : State} (k : Nat) (hG : Good kp s) (p_mgmt : kp.free .mgmt := by assumption)
    (p_otp : kp.free .otp := by assumption) : Good kp (State.revokeKey s k) := by
  unfold State.revokeKey
  try dsimp only
  with_reducible repeat' (first | assumption | apply State.setOtp_good | apply Good.ite | split
                                | (fail_if_no_progress refine Good.upd ?_ rfl rfl rfl rfl))

theorem State.startFrame_good {s : State} (p : Nat) (q : Nat) (f : OutFrame) (hG : Good kp s) (p_regs : kp.free .regs := by assumption)
    (p_wire : kp.free .wire := by assumption) (p_net : kp.free .net := by assumption) : Good kp (State.startFrame s p q f) := by
  unfold State.startFrame
  try dsimp only
  with_reducible repeat' (first | assumption | apply State.setPort_good | apply State.bumpN_good | apply State.bump_good
                                | apply State.transmit_good)

theorem State.startSheet_good {s : State} (p : Nat) (h : Nat × Sheet × BitVec 64) (hG : Good kp s)
    (p_regs : kp.free .regs := by assumption) (p_wire : kp.free .wire := by assumption) (p_net : kp.free .net := by assumption)
    (p_seals : kp.free .seals := by assumption) : Good kp (State.startSheet s p h) := by
  unfold State.startSheet
  try dsimp only
  with_reducible repeat' (first | assumption | apply State.bump_good | apply State.startFrame_good | apply State.setPort_good
                                | apply State.setEgq_good | apply State.noteSent_good | apply State.tagQueue_good)

theorem execAttestSigned_good (k : Fin 2) {s : State} (hG : Good kp s) (p_mgmt : kp.free .mgmt := by assumption)
    (p_seals : kp.free .seals := by assumption) : OutGood kp (execAttestSigned k s) := by
  unfold execAttestSigned
  try dsimp only
  with_reducible repeat' (first | assumption | apply State.setSe_good | apply State.startSign_good | apply State.readyTicket_good
                                | apply outGood_next | apply outGood_fault | apply Good.ite | apply OutGood.ite | split)

theorem execBye_good (f : RxFrame) {s : State} (hG : Good kp s) (p_regs : kp.free .regs := by assumption)
    (p_mgmt : kp.free .mgmt := by assumption) (p_net : kp.free .net := by assumption) (p_control : kp.free .control := by assumption)
    (p_memory : kp.free .memory := by assumption) : OutGood kp (execBye f s) := by
  unfold execBye
  try dsimp only
  with_reducible repeat' (first | assumption | apply State.mgmtRx_good | apply State.authFail_good | apply State.dropMgmtSess_good
                                | apply State.mgmtSend_good | apply outGood_next | apply outGood_fault | apply Good.ite
                                | apply OutGood.ite | split)

theorem execCalCntClr_good (v : BitVec 32) {s : State} (hG : Good kp s) (p_regs : kp.free .regs := by assumption) : OutGood kp
    (execCalCntClr v s) := by
  unfold execCalCntClr
  try dsimp only
  with_reducible repeat' (first | assumption | apply State.calClear_good | apply outGood_next | apply outGood_fault | apply Good.ite)

theorem execColCntClr_good (v : BitVec 32) {s : State} (hG : Good kp s) (p_regs : kp.free .regs := by assumption) : OutGood kp
    (execColCntClr v s) := by
  unfold execColCntClr
  try dsimp only
  with_reducible repeat' (first | assumption | apply State.colClear_good | apply outGood_next | apply outGood_fault | apply Good.ite)

theorem execCuCntClr_good (p : Fin 8) (v : BitVec 32) {s : State} (hG : Good kp s) (p_regs : kp.free .regs := by assumption) : OutGood kp
    (execCuCntClr p v s) := by
  unfold execCuCntClr
  try dsimp only
  with_reducible repeat' (first | assumption | apply State.cuClear_good | apply outGood_next | apply outGood_fault | apply Good.ite)

theorem execDecCntClr_good (p : Fin 64) (v : BitVec 32) {s : State} (hG : Good kp s) (p_regs : kp.free .regs := by assumption)
    : OutGood kp (execDecCntClr p v s) := by
  unfold execDecCntClr
  try dsimp only
  with_reducible repeat' (first | assumption | apply State.decClear_good | apply outGood_next | apply outGood_fault | apply Good.ite)

theorem execDmaCntClr_good (p : Fin 64) (v : BitVec 32) {s : State} (hG : Good kp s) (p_regs : kp.free .regs := by assumption)
    : OutGood kp (execDmaCntClr p v s) := by
  unfold execDmaCntClr
  try dsimp only
  with_reducible repeat' (first | assumption | apply State.dmaCntClear_good | apply outGood_next | apply outGood_fault | apply Good.ite)

theorem execEgqCntClr_good (v : BitVec 32) {s : State} (hG : Good kp s) (p_regs : kp.free .regs := by assumption) : OutGood kp
    (execEgqCntClr v s) := by
  unfold execEgqCntClr
  try dsimp only
  with_reducible repeat' (first | assumption | apply State.egqClear_good | apply outGood_next | apply outGood_fault | apply Good.ite)

theorem execEgressSelect_good (p : Fin 4) {s : State} (hG : Good kp s) (p_regs : kp.free .regs := by assumption)
    (p_wire : kp.free .wire := by assumption) (p_time : kp.free .time := by assumption) (p_net : kp.free .net := by assumption)
    (p_seals : kp.free .seals := by assumption) : OutGood kp (execEgressSelect p s) := by
  unfold execEgressSelect
  try dsimp only
  with_reducible repeat' (first | assumption | apply State.transmit_good | apply State.setPort_good | apply State.resolveHeads_good
                                | apply State.ptpStarted_good | apply State.startFrame_good | apply State.startSheet_good
                                | apply outGood_next | apply outGood_fault | apply Good.ite | apply OutGood.ite | split)

theorem execEncCntClr_good (p : Fin 24) (v : BitVec 32) {s : State} (hG : Good kp s) (p_regs : kp.free .regs := by assumption)
    : OutGood kp (execEncCntClr p v s) := by
  unfold execEncCntClr
  try dsimp only
  with_reducible repeat' (first | assumption | apply State.encClear_good | apply outGood_next | apply outGood_fault | apply Good.ite)

theorem execFltCntClr_good (v : BitVec 32) {s : State} (hG : Good kp s) (p_regs : kp.free .regs := by assumption) : OutGood kp
    (execFltCntClr v s) := by
  unfold execFltCntClr
  try dsimp only
  with_reducible repeat' (first | assumption | apply State.fltClear_good | apply outGood_next | apply outGood_fault | apply Good.ite)

theorem execFltForce_good (n : Fin 256) {s : State} (hG : Good kp s) (p_regs : kp.free .regs := by assumption)
    (p_mgmt : kp.free .mgmt := by assumption) (p_net : kp.free .net := by assumption) (p_control : kp.free .control := by assumption)
    (p_seals : kp.free .seals := by assumption) (p_power : kp.free .power := by assumption) (p_faults : kp.free .faults := by assumption)
    (p_units : kp.free .units := by assumption) (p_ctxs : kp.free .ctxs := by assumption) (p_rnds : kp.free .rnds := by assumption)
    (p_adm : kp.free .adm := by assumption) (p_stills : kp.free .stills := by assumption) (p_memory : kp.free .memory := by assumption)
    (p_pools : kp.free .pools := by assumption) : OutGood kp (execFltForce n s) := by
  unfold execFltForce
  try dsimp only
  with_reducible repeat' (first | assumption | apply State.raiseTogether_good | apply outGood_next)

theorem execFltStatusClear_good (k : Fin 8) (bits : BitVec 32) {s : State} (hG : Good kp s) (p_regs : kp.free .regs := by assumption)
    (p_faults : kp.free .faults := by assumption) : OutGood kp (execFltStatusClear k bits s) := by
  unfold execFltStatusClear
  try dsimp only
  with_reducible repeat' (first | assumption | apply State.clearFaults_good | apply outGood_next)

theorem execFltUnfreeze_good (agent : BitVec 8) (key : BitVec 16) {s : State} (hG : Good kp s) (p_regs : kp.free .regs := by assumption)
    (p_net : kp.free .net := by assumption) (p_control : kp.free .control := by assumption) (p_seals : kp.free .seals := by assumption)
    (p_faults : kp.free .faults := by assumption) (p_units : kp.free .units := by assumption) (p_dma : kp.free .dma := by assumption)
    : OutGood kp (execFltUnfreeze agent key s) := by
  unfold execFltUnfreeze
  try dsimp only
  with_reducible repeat' (first | assumption | apply State.unfreeze_good | apply outGood_next)

theorem execFpCntClr_good (p : Fin 8) (v : BitVec 32) {s : State} (hG : Good kp s) (p_regs : kp.free .regs := by assumption) : OutGood kp
    (execFpCntClr p v s) := by
  unfold execFpCntClr
  try dsimp only
  with_reducible repeat' (first | assumption | apply State.fpClear_good | apply outGood_next | apply outGood_fault | apply Good.ite)

theorem execFpGlbCntClr_good (v : BitVec 32) {s : State} (hG : Good kp s) (p_regs : kp.free .regs := by assumption) : OutGood kp
    (execFpGlbCntClr v s) := by
  unfold execFpGlbCntClr
  try dsimp only
  with_reducible repeat' (first | assumption | apply State.fpGlbClear_good | apply outGood_next | apply outGood_fault | apply Good.ite)

theorem execGlbAdmCntClr_good (v : BitVec 32) {s : State} (hG : Good kp s) (p_regs : kp.free .regs := by assumption) : OutGood kp
    (execGlbAdmCntClr v s) := by
  unfold execGlbAdmCntClr
  try dsimp only
  with_reducible repeat' (first | assumption | apply State.admClear_good | apply outGood_next | apply outGood_fault | apply Good.ite)

theorem execGlbCfgCntClr_good (v : BitVec 32) {s : State} (hG : Good kp s) (p_regs : kp.free .regs := by assumption) : OutGood kp
    (execGlbCfgCntClr v s) := by
  unfold execGlbCfgCntClr
  try dsimp only
  with_reducible repeat' (first | assumption | apply State.cfgClear_good | apply outGood_next | apply outGood_fault | apply Good.ite)

theorem execGlbCntClr_good (v : BitVec 32) {s : State} (hG : Good kp s) (p_regs : kp.free .regs := by assumption) : OutGood kp
    (execGlbCntClr v s) := by
  unfold execGlbCntClr
  try dsimp only
  with_reducible repeat' (first | assumption | apply State.glbClear_good | apply outGood_next | apply outGood_fault | apply Good.ite)

theorem execGlbMemCntClr_good (v : BitVec 32) {s : State} (hG : Good kp s) (p_regs : kp.free .regs := by assumption) : OutGood kp
    (execGlbMemCntClr v s) := by
  unfold execGlbMemCntClr
  try dsimp only
  with_reducible repeat' (first | assumption | apply State.nightClear_good | apply outGood_next | apply outGood_fault | apply Good.ite)

theorem execHbxCntClr_good (v : BitVec 32) {s : State} (hG : Good kp s) (p_regs : kp.free .regs := by assumption) : OutGood kp
    (execHbxCntClr v s) := by
  unfold execHbxCntClr
  try dsimp only
  with_reducible repeat' (first | assumption | apply State.hbxClear_good | apply outGood_next | apply outGood_fault | apply Good.ite)

theorem execHello_good (f : RxFrame) {s : State} (hG : Good kp s) (p_freeCtr : kp.free .freeCtr := by assumption)
    (p_regs : kp.free .regs := by assumption) (p_mgmt : kp.free .mgmt := by assumption) (p_net : kp.free .net := by assumption)
    (p_control : kp.free .control := by assumption) (p_memory : kp.free .memory := by assumption)
    (p_boot : kp.free .boot := by assumption) : OutGood kp (execHello f s) := by
  unfold execHello
  try dsimp only
  with_reducible repeat' (first | assumption | apply State.mgmtRx_good | apply State.discard_good | apply State.authFail_good
                                | apply State.setPort_good | apply State.openMgmt_good | apply State.mgmtSend_good | apply outGood_next
                                | apply outGood_fault | apply Good.ite | apply OutGood.ite | split)

theorem execImageBlock_good (f : RxFrame) {s : State} (hG : Good kp s) (p_regs : kp.free .regs := by assumption)
    (p_mgmt : kp.free .mgmt := by assumption) (p_net : kp.free .net := by assumption) (p_control : kp.free .control := by assumption)
    (p_memory : kp.free .memory := by assumption) (p_boot : kp.free .boot := by assumption) : OutGood kp (execImageBlock f s) := by
  unfold execImageBlock
  try dsimp only
  with_reducible repeat' (first | assumption | apply State.request_good | apply State.opImageBlock_good | apply outGood_next
                                | apply outGood_fault | apply Good.ite | apply OutGood.ite | split
                                | (fail_if_no_progress refine Good.upd ?_ rfl rfl rfl rfl) | (intro t n f b h))

theorem execIntCntClr_good (v : BitVec 32) {s : State} (hG : Good kp s) (p_regs : kp.free .regs := by assumption) : OutGood kp
    (execIntCntClr v s) := by
  unfold execIntCntClr
  try dsimp only
  with_reducible repeat' (first | assumption | apply State.intClear_good | apply outGood_next | apply outGood_fault | apply Good.ite)

theorem execInternalCheckFailure_good (src : Fin 256) (record : Option (Fin 1024 × Nat)) {s : State} (hG : Good kp s)
    (p_regs : kp.free .regs := by assumption) (p_mgmt : kp.free .mgmt := by assumption) (p_net : kp.free .net := by assumption)
    (p_control : kp.free .control := by assumption) (p_seals : kp.free .seals := by assumption)
    (p_power : kp.free .power := by assumption) (p_faults : kp.free .faults := by assumption) (p_units : kp.free .units := by assumption)
    (p_ctxs : kp.free .ctxs := by assumption) (p_rnds : kp.free .rnds := by assumption) (p_adm : kp.free .adm := by assumption)
    (p_stills : kp.free .stills := by assumption) (p_memory : kp.free .memory := by assumption)
    (p_pools : kp.free .pools := by assumption) : OutGood kp (execInternalCheckFailure src record s) := by
  unfold execInternalCheckFailure
  try dsimp only
  with_reducible repeat' (first | assumption | apply State.raiseTogether_good | apply State.poisonRecord_good | apply outGood_next
                                | apply outGood_fault | apply Good.ite | apply OutGood.ite | split)

theorem execJtagInstruction_good (code : BitVec 8) {s : State} (hG : Good kp s) (p_boot : kp.free .boot := by assumption) : OutGood kp
    (execJtagInstruction code s) := by
  unfold execJtagInstruction
  try dsimp only
  with_reducible repeat' (first | assumption | apply outGood_next | apply outGood_fault | apply Good.ite | apply OutGood.ite | split
                                | (fail_if_no_progress refine Good.upd ?_ rfl rfl rfl rfl))

theorem execKeyload_good (dr : BitVec 258) {s : State} (hG : Good kp s) (p_otp : kp.free .otp := by assumption) : OutGood kp
    (execKeyload dr s) := by
  unfold execKeyload
  try dsimp only
  with_reducible repeat' (first | assumption | apply State.programKey_good | apply outGood_next | apply outGood_fault | apply Good.ite
                                | apply OutGood.ite)

theorem execMemCntClr_good (p : Fin 8) (v : BitVec 32) {s : State} (hG : Good kp s) (p_regs : kp.free .regs := by assumption) : OutGood kp
    (execMemCntClr p v s) := by
  unfold execMemCntClr
  try dsimp only
  with_reducible repeat' (first | assumption | apply State.memClear_good | apply outGood_next | apply outGood_fault | apply Good.ite)

theorem execMgmtSessionIdle_good (num : Nat) {s : State} (hG : Good kp s) (p_mgmt : kp.free .mgmt := by assumption) : OutGood kp
    (execMgmtSessionIdle num s) := by
  unfold execMgmtSessionIdle
  try dsimp only
  with_reducible repeat' (first | assumption | apply State.dropMgmtSess_good | apply outGood_next | apply outGood_fault | apply Good.ite
                                | apply OutGood.ite | split)

theorem execOtpAdvance_good (num : Nat) {s : State} (hG : Good kp s) (p_otp : kp.free .otp := by assumption) : OutGood kp
    (execOtpAdvance num s) := by
  unfold execOtpAdvance
  try dsimp only
  with_reducible repeat' (first | assumption | apply State.otpOf_good | apply outGood_next)

theorem execOtpCommandDone_good (ok : Bool) {s : State} (hG : Good kp s) (p_freeCtr : kp.free .freeCtr := by assumption)
    (p_mgmt : kp.free .mgmt := by assumption) (p_otp : kp.free .otp := by assumption) : OutGood kp (execOtpCommandDone ok s) := by
  unfold execOtpCommandDone
  try dsimp only
  with_reducible repeat' (first | assumption | apply State.otpFailed_good | apply State.programKey_good | apply State.revokeKey_good
                                | apply State.setOtp_good | apply outGood_next | apply outGood_fault | apply Good.ite | apply OutGood.ite
                                | split)

theorem execOtpProgram_good (num : Nat) (slot : Fin 4) {s : State} (hG : Good kp s) (p_otp : kp.free .otp := by assumption) : OutGood kp
    (execOtpProgram num slot s) := by
  unfold execOtpProgram
  try dsimp only
  with_reducible repeat' (first | assumption | apply State.otpOf_good | apply outGood_next)

theorem execOtpRevoke_good (num : Nat) (slot : Fin 4) {s : State} (hG : Good kp s) (p_otp : kp.free .otp := by assumption) : OutGood kp
    (execOtpRevoke num slot s) := by
  unfold execOtpRevoke
  try dsimp only
  with_reducible repeat' (first | assumption | apply State.otpOf_good | apply outGood_next)

theorem execPrtCntClr_good (p : Fin 4) (v : BitVec 32) {s : State} (hG : Good kp s) (p_regs : kp.free .regs := by assumption) : OutGood kp
    (execPrtCntClr p v s) := by
  unfold execPrtCntClr
  try dsimp only
  with_reducible repeat' (first | assumption | apply State.prtClear_good | apply outGood_next | apply outGood_fault | apply Good.ite)

theorem execRead_good (f : RxFrame) {s : State} (hG : Good kp s) (p_regs : kp.free .regs := by assumption)
    (p_hold : kp.free .hold := by assumption) (p_mgmt : kp.free .mgmt := by assumption) (p_net : kp.free .net := by assumption)
    (p_control : kp.free .control := by assumption) (p_memory : kp.free .memory := by assumption) : OutGood kp (execRead f s) := by
  unfold execRead
  try dsimp only
  with_reducible repeat' (first | assumption | apply State.request_good | apply State.opRead_good | apply outGood_next
                                | apply outGood_fault | apply Good.ite | apply OutGood.ite | split
                                | (fail_if_no_progress refine Good.upd ?_ rfl rfl rfl rfl) | (intro t n f b h))

theorem execRegisterWrite_good (num : Nat) (a : Nat) (v : BitVec 32) {s : State} (hG : Good kp s) (p_now : kp.free .now := by assumption)
    (p_regs : kp.free .regs := by assumption) (p_config : kp.free .config := by assumption) (p_hold : kp.free .hold := by assumption)
    (p_time : kp.free .time := by assumption) (p_mgmt : kp.free .mgmt := by assumption) (p_net : kp.free .net := by assumption)
    (p_store : kp.free .store := by assumption) (p_control : kp.free .control := by assumption)
    (p_seals : kp.free .seals := by assumption) (p_power : kp.free .power := by assumption) (p_faults : kp.free .faults := by assumption)
    (p_units : kp.free .units := by assumption) (p_ctxs : kp.free .ctxs := by assumption) (p_rnds : kp.free .rnds := by assumption)
    (p_adm : kp.free .adm := by assumption) (p_stills : kp.free .stills := by assumption) (p_surfs : kp.free .surfs := by assumption)
    (p_cells : kp.free .cells := by assumption) (p_memory : kp.free .memory := by assumption) (p_pools : kp.free .pools := by assumption)
    (p_dma : kp.free .dma := by assumption) (p_cal : kp.free .cal := by assumption) (p_otp : kp.free .otp := by assumption)
    (p_boot : kp.free .boot := by assumption) : OutGood kp (execRegisterWrite num a v s) := by
  unfold execRegisterWrite
  try dsimp only
  with_reducible repeat' (first | assumption | apply State.writeRegs_good | apply State.bump32_good | apply outGood_next
                                | apply outGood_fault | apply Good.ite)

theorem execRegrd_good (i : Fin 8) {s : State} (hG : Good kp s) (p_hold : kp.free .hold := by assumption)
    (p_control : kp.free .control := by assumption) : OutGood kp (execRegrd i s) := by
  unfold execRegrd
  try dsimp only
  with_reducible repeat' (first | assumption | apply State.xopDone_good | apply State.readReg_good | apply State.setSeq_good
                                | apply outGood_next | apply outGood_fault | apply Good.ite | apply OutGood.ite | split)

theorem execRegulatorBackInRange_good {s : State} (hG : Good kp s) (p_regs : kp.free .regs := by assumption) : OutGood kp
    (execRegulatorBackInRange s) := by
  unfold execRegulatorBackInRange
  try dsimp only
  with_reducible repeat' (first | assumption | apply State.setCause_good | apply outGood_next)

theorem execRegulatorOutOfRange_good {s : State} (hG : Good kp s) (p_regs : kp.free .regs := by assumption)
    (p_mgmt : kp.free .mgmt := by assumption) (p_net : kp.free .net := by assumption) (p_control : kp.free .control := by assumption)
    (p_seals : kp.free .seals := by assumption) (p_power : kp.free .power := by assumption) (p_faults : kp.free .faults := by assumption)
    (p_units : kp.free .units := by assumption) (p_ctxs : kp.free .ctxs := by assumption) (p_rnds : kp.free .rnds := by assumption)
    (p_adm : kp.free .adm := by assumption) (p_stills : kp.free .stills := by assumption) (p_memory : kp.free .memory := by assumption)
    (p_pools : kp.free .pools := by assumption) : OutGood kp (execRegulatorOutOfRange s) := by
  unfold execRegulatorOutOfRange
  try dsimp only
  with_reducible repeat' (first | assumption | apply State.raiseTogether_good | apply outGood_next)

theorem execRegwr_good (i : Fin 8) {s : State} (hG : Good kp s) (p_now : kp.free .now := by assumption)
    (p_regs : kp.free .regs := by assumption) (p_config : kp.free .config := by assumption) (p_hold : kp.free .hold := by assumption)
    (p_time : kp.free .time := by assumption) (p_mgmt : kp.free .mgmt := by assumption) (p_net : kp.free .net := by assumption)
    (p_store : kp.free .store := by assumption) (p_control : kp.free .control := by assumption)
    (p_seals : kp.free .seals := by assumption) (p_power : kp.free .power := by assumption) (p_faults : kp.free .faults := by assumption)
    (p_units : kp.free .units := by assumption) (p_ctxs : kp.free .ctxs := by assumption) (p_rnds : kp.free .rnds := by assumption)
    (p_adm : kp.free .adm := by assumption) (p_stills : kp.free .stills := by assumption) (p_surfs : kp.free .surfs := by assumption)
    (p_cells : kp.free .cells := by assumption) (p_memory : kp.free .memory := by assumption) (p_pools : kp.free .pools := by assumption)
    (p_dma : kp.free .dma := by assumption) (p_cal : kp.free .cal := by assumption) (p_otp : kp.free .otp := by assumption)
    (p_boot : kp.free .boot := by assumption) : OutGood kp (execRegwr i s) := by
  unfold execRegwr
  try dsimp only
  with_reducible repeat' (first | assumption | apply State.xopDone_good | apply State.writeRegs_good | apply outGood_next
                                | apply outGood_fault | apply Good.ite | apply OutGood.ite | split)

theorem execSafeStateExit_good {s : State} (hG : Good kp s) (p_regs : kp.free .regs := by assumption)
    (p_net : kp.free .net := by assumption) (p_seals : kp.free .seals := by assumption) (p_power : kp.free .power := by assumption)
    (p_faults : kp.free .faults := by assumption) (p_ctxs : kp.free .ctxs := by assumption) (p_rnds : kp.free .rnds := by assumption)
    (p_pools : kp.free .pools := by assumption) : OutGood kp (execSafeStateExit s) := by
  unfold execSafeStateExit
  try dsimp only
  with_reducible repeat' (first | assumption | apply State.leaveSafe_good | apply outGood_next | apply outGood_fault | apply Good.ite)

theorem execSealCntClr_good (v : BitVec 32) {s : State} (hG : Good kp s) (p_regs : kp.free .regs := by assumption) : OutGood kp
    (execSealCntClr v s) := by
  unfold execSealCntClr
  try dsimp only
  with_reducible repeat' (first | assumption | apply State.sealClear_good | apply outGood_next | apply outGood_fault | apply Good.ite)

theorem execSealSigned_good (k : Fin 2) {s : State} (hG : Good kp s) (p_regs : kp.free .regs := by assumption)
    (p_net : kp.free .net := by assumption) (p_seals : kp.free .seals := by assumption) : OutGood kp (execSealSigned k s) := by
  unfold execSealSigned
  try dsimp only
  with_reducible repeat' (first | assumption | apply State.startSign_good | apply State.placeSeal_good | apply State.setSe_good
                                | apply outGood_next | apply outGood_fault | apply Good.ite | apply OutGood.ite | split)

theorem execSeqCntClr_good (p : Fin 8) (v : BitVec 32) {s : State} (hG : Good kp s) (p_regs : kp.free .regs := by assumption) : OutGood kp
    (execSeqCntClr p v s) := by
  unfold execSeqCntClr
  try dsimp only
  with_reducible repeat' (first | assumption | apply State.seqClear_good | apply outGood_next | apply outGood_fault | apply Good.ite)

theorem execSheetTimer_good (slot : Fin 2048) {s : State} (hG : Good kp s) (p_regs : kp.free .regs := by assumption)
    (p_net : kp.free .net := by assumption) (p_seals : kp.free .seals := by assumption) : OutGood kp (execSheetTimer slot s) := by
  unfold execSheetTimer
  try dsimp only
  with_reducible repeat' (first | assumption | apply State.closeSheet_good | apply State.setSlot_good | apply outGood_next
                                | apply outGood_fault | apply Good.ite | apply OutGood.ite | split)

theorem execTicketRead_good (f : RxFrame) {s : State} (hG : Good kp s) (p_freeCtr : kp.free .freeCtr := by assumption)
    (p_regs : kp.free .regs := by assumption) (p_mgmt : kp.free .mgmt := by assumption) (p_net : kp.free .net := by assumption)
    (p_control : kp.free .control := by assumption) (p_memory : kp.free .memory := by assumption) : OutGood kp (execTicketRead f s) := by
  unfold execTicketRead
  try dsimp only
  with_reducible repeat' (first | assumption | apply State.request_good | apply State.opTicketRead_good | apply outGood_next
                                | apply outGood_fault | apply Good.ite | apply OutGood.ite | split
                                | (fail_if_no_progress refine Good.upd ?_ rfl rfl rfl rfl) | (intro t n f b h))

theorem execTicketRelease_good (f : RxFrame) {s : State} (hG : Good kp s) (p_regs : kp.free .regs := by assumption)
    (p_mgmt : kp.free .mgmt := by assumption) (p_net : kp.free .net := by assumption) (p_control : kp.free .control := by assumption)
    (p_seals : kp.free .seals := by assumption) (p_ctxs : kp.free .ctxs := by assumption) (p_stills : kp.free .stills := by assumption)
    (p_memory : kp.free .memory := by assumption) (p_pools : kp.free .pools := by assumption) : OutGood kp (execTicketRelease f s) := by
  unfold execTicketRelease
  try dsimp only
  with_reducible repeat' (first | assumption | apply State.request_good | apply State.opTicketRelease_good | apply outGood_next
                                | apply outGood_fault | apply Good.ite | apply OutGood.ite | split
                                | (fail_if_no_progress refine Good.upd ?_ rfl rfl rfl rfl) | (intro t n f b h))

theorem execTicketStartAttest_good (f : RxFrame) {s : State} (hG : Good kp s) (p_regs : kp.free .regs := by assumption)
    (p_mgmt : kp.free .mgmt := by assumption) (p_net : kp.free .net := by assumption) (p_control : kp.free .control := by assumption)
    (p_seals : kp.free .seals := by assumption) (p_memory : kp.free .memory := by assumption) : OutGood kp
    (execTicketStartAttest f s) := by
  unfold execTicketStartAttest
  try dsimp only
  with_reducible repeat' (first | assumption | apply State.request_good | apply State.opAttest_good | apply outGood_next
                                | apply outGood_fault | apply Good.ite | apply OutGood.ite | split
                                | (fail_if_no_progress refine Good.upd ?_ rfl rfl rfl rfl) | (intro t n f b h))

theorem execTicketStartCalibrate_good (f : RxFrame) {s : State} (hG : Good kp s) (p_regs : kp.free .regs := by assumption)
    (p_mgmt : kp.free .mgmt := by assumption) (p_net : kp.free .net := by assumption) (p_control : kp.free .control := by assumption)
    (p_memory : kp.free .memory := by assumption) : OutGood kp (execTicketStartCalibrate f s) := by
  unfold execTicketStartCalibrate
  try dsimp only
  with_reducible repeat' (first | assumption | apply State.request_good | apply State.opCalibrate_good | apply outGood_next
                                | apply outGood_fault | apply Good.ite | apply OutGood.ite | split
                                | (fail_if_no_progress refine Good.upd ?_ rfl rfl rfl rfl) | (intro t n f b h))

theorem execTicketStartDigest_good (f : RxFrame) {s : State} (hG : Good kp s) (p_regs : kp.free .regs := by assumption)
    (p_mgmt : kp.free .mgmt := by assumption) (p_net : kp.free .net := by assumption) (p_control : kp.free .control := by assumption)
    (p_memory : kp.free .memory := by assumption) : OutGood kp (execTicketStartDigest f s) := by
  unfold execTicketStartDigest
  try dsimp only
  with_reducible repeat' (first | assumption | apply State.request_good | apply State.opDigest_good | apply outGood_next
                                | apply outGood_fault | apply Good.ite | apply OutGood.ite | split
                                | (fail_if_no_progress refine Good.upd ?_ rfl rfl rfl rfl) | (intro t n f b h))

theorem execTicketStartImageInstall_good (f : RxFrame) {s : State} (hG : Good kp s) (p_regs : kp.free .regs := by assumption)
    (p_mgmt : kp.free .mgmt := by assumption) (p_net : kp.free .net := by assumption) (p_control : kp.free .control := by assumption)
    (p_memory : kp.free .memory := by assumption) : OutGood kp (execTicketStartImageInstall f s) := by
  unfold execTicketStartImageInstall
  try dsimp only
  with_reducible repeat' (first | assumption | apply State.request_good | apply State.opInstall_good | apply outGood_next
                                | apply outGood_fault | apply Good.ite | apply OutGood.ite | split
                                | (fail_if_no_progress refine Good.upd ?_ rfl rfl rfl rfl) | (intro t n f b h))

theorem execTicketStartSelfTest_good (f : RxFrame) {s : State} (hG : Good kp s) (p_regs : kp.free .regs := by assumption)
    (p_mgmt : kp.free .mgmt := by assumption) (p_net : kp.free .net := by assumption) (p_control : kp.free .control := by assumption)
    (p_units : kp.free .units := by assumption) (p_memory : kp.free .memory := by assumption) : OutGood kp
    (execTicketStartSelfTest f s) := by
  unfold execTicketStartSelfTest
  try dsimp only
  with_reducible repeat' (first | assumption | apply State.request_good | apply State.opSelfTest_good | apply outGood_next
                                | apply outGood_fault | apply Good.ite | apply OutGood.ite | split
                                | (fail_if_no_progress refine Good.upd ?_ rfl rfl rfl rfl) | (intro t n f b h))

theorem execTicketStartStill_good (f : RxFrame) {s : State} (hG : Good kp s) (p_regs : kp.free .regs := by assumption)
    (p_mgmt : kp.free .mgmt := by assumption) (p_net : kp.free .net := by assumption) (p_control : kp.free .control := by assumption)
    (p_memory : kp.free .memory := by assumption) : OutGood kp (execTicketStartStill f s) := by
  unfold execTicketStartStill
  try dsimp only
  with_reducible repeat' (first | assumption | apply State.request_good | apply State.opStill_good | apply outGood_next
                                | apply outGood_fault | apply Good.ite | apply OutGood.ite | split
                                | (fail_if_no_progress refine Good.upd ?_ rfl rfl rfl rfl) | (intro t n f b h))

theorem execTrngTestWindow_good (pass : Bool) {s : State} (hG : Good kp s) (p_boot : kp.free .boot := by assumption) : OutGood kp
    (execTrngTestWindow pass s) := by
  unfold execTrngTestWindow
  try dsimp only
  with_reducible repeat' (first | assumption | apply outGood_next | apply outGood_fault | apply Good.ite | apply OutGood.ite | split
                                | (fail_if_no_progress refine Good.upd ?_ rfl rfl rfl rfl))

theorem execUnitProgressTimeout_good (agent : Fin 256) {s : State} (hG : Good kp s) (p_regs : kp.free .regs := by assumption)
    (p_mgmt : kp.free .mgmt := by assumption) (p_net : kp.free .net := by assumption) (p_control : kp.free .control := by assumption)
    (p_seals : kp.free .seals := by assumption) (p_power : kp.free .power := by assumption) (p_faults : kp.free .faults := by assumption)
    (p_units : kp.free .units := by assumption) (p_ctxs : kp.free .ctxs := by assumption) (p_rnds : kp.free .rnds := by assumption)
    (p_adm : kp.free .adm := by assumption) (p_stills : kp.free .stills := by assumption) (p_memory : kp.free .memory := by assumption)
    (p_pools : kp.free .pools := by assumption) : OutGood kp (execUnitProgressTimeout agent s) := by
  unfold execUnitProgressTimeout
  try dsimp only
  with_reducible repeat' (first | assumption | apply State.raiseTogether_good | apply outGood_next)

theorem execUnitResetDone_good (agent : Fin 256) {s : State} (hG : Good kp s) (p_regs : kp.free .regs := by assumption) : OutGood kp
    (execUnitResetDone agent s) := by
  unfold execUnitResetDone
  try dsimp only
  with_reducible repeat' (first | assumption | apply State.setCause_good | apply outGood_next | apply outGood_fault
                                | refine Good.foldl ?_ (fun t a ht => ?_) | refine Good.foldl2 ?_ (fun t a ht => ?_)
                                | refine Good.foldl1 ?_ (fun t a ht => ?_) | refine Good.foldr ?_ (fun a t ht => ?_) | apply Good.ite
                                | apply OutGood.ite)

theorem opUnknown_good {x1 : State} (x2 : Nat) (x3 : RxFrame) (x4 : Bytes) (hGx1 : Good kp x1) : Good kp (opUnknown x1 x2 x3 x4).2 := by
  unfold opUnknown
  try dsimp only
  with_reducible repeat' (first | assumption)

theorem execUnknownOpRequest_good (f : RxFrame) {s : State} (hG : Good kp s) (p_regs : kp.free .regs := by assumption)
    (p_mgmt : kp.free .mgmt := by assumption) (p_net : kp.free .net := by assumption) (p_control : kp.free .control := by assumption)
    (p_memory : kp.free .memory := by assumption) : OutGood kp (execUnknownOpRequest f s) := by
  unfold execUnknownOpRequest
  try dsimp only
  with_reducible repeat' (first | assumption | apply State.request_good | apply opUnknown_good | apply outGood_next)

theorem execWrite_good (f : RxFrame) {s : State} (hG : Good kp s) (p_now : kp.free .now := by assumption)
    (p_regs : kp.free .regs := by assumption) (p_config : kp.free .config := by assumption) (p_hold : kp.free .hold := by assumption)
    (p_time : kp.free .time := by assumption) (p_mgmt : kp.free .mgmt := by assumption) (p_net : kp.free .net := by assumption)
    (p_store : kp.free .store := by assumption) (p_control : kp.free .control := by assumption)
    (p_seals : kp.free .seals := by assumption) (p_power : kp.free .power := by assumption) (p_faults : kp.free .faults := by assumption)
    (p_units : kp.free .units := by assumption) (p_ctxs : kp.free .ctxs := by assumption) (p_rnds : kp.free .rnds := by assumption)
    (p_adm : kp.free .adm := by assumption) (p_stills : kp.free .stills := by assumption) (p_surfs : kp.free .surfs := by assumption)
    (p_cells : kp.free .cells := by assumption) (p_memory : kp.free .memory := by assumption) (p_pools : kp.free .pools := by assumption)
    (p_dma : kp.free .dma := by assumption) (p_cal : kp.free .cal := by assumption) (p_otp : kp.free .otp := by assumption)
    (p_boot : kp.free .boot := by assumption) : OutGood kp (execWrite f s) := by
  unfold execWrite
  try dsimp only
  with_reducible repeat' (first | assumption | apply State.request_good | apply notInMaintenance_good | apply State.opWrite_good
                                | apply outGood_next | apply outGood_fault | apply Good.ite | apply OutGood.ite | split
                                | (fail_if_no_progress refine Good.upd ?_ rfl rfl rfl rfl) | (intro t n f b h))

theorem execXopTimeout_good (i : Fin 8) {s : State} (hG : Good kp s) (p_regs : kp.free .regs := by assumption)
    (p_mgmt : kp.free .mgmt := by assumption) (p_net : kp.free .net := by assumption) (p_control : kp.free .control := by assumption)
    (p_seals : kp.free .seals := by assumption) (p_power : kp.free .power := by assumption) (p_faults : kp.free .faults := by assumption)
    (p_units : kp.free .units := by assumption) (p_ctxs : kp.free .ctxs := by assumption) (p_rnds : kp.free .rnds := by assumption)
    (p_adm : kp.free .adm := by assumption) (p_stills : kp.free .stills := by assumption) (p_memory : kp.free .memory := by assumption)
    (p_pools : kp.free .pools := by assumption) : OutGood kp (execXopTimeout i s) := by
  unfold execXopTimeout
  try dsimp only
  with_reducible repeat' (first | assumption | apply State.raiseTogether_good | apply outGood_next)

end Sys2Proof.Machine
end

