-- ==== Sys2Proof/Laws/Send.lean ====
section
/-!
SUPPORT. What sending can do (R39, R324): it changes a port's system queue, its waiting frames and its neighbour table, and nothing else. A frame that a
port starts is the last one on the wire.
-/
set_option Elab.async false

namespace Sys2Proof.Machine

/-- Two ports differ at most in what waits to be sent: the queue, the waiting frames, the neighbours. -/
def PortSt.SameBut (x y : PortSt) : Prop := { y with sysq := [], waiting := [], nbrs := [] } = { x with sysq := [], waiting := [], nbrs := [] }

/-- Only what waits to be sent on a port differs. -/
def PortOnly (p : Nat) (s t : State) : Prop :=
  (∃ n, t = { s with net := n } ∧ { n with ports := [] } = { s.net with ports := [] }) ∧ (∀ q, q ≠ p → t.port q = s.port q)
    ∧ (s.port p).SameBut (t.port p)

theorem PortOnly.refl (p : Nat) (s : State) : PortOnly p s s := ⟨⟨s.net, rfl, rfl⟩, fun _ _ => rfl, rfl⟩

theorem PortOnly.trans {p : Nat} {s t u : State} (h1 : PortOnly p s t) (h2 : PortOnly p t u) : PortOnly p s u := by
  obtain ⟨⟨n1, e1, g1⟩, k1, l1⟩ := h1
  obtain ⟨⟨n2, e2, g2⟩, k2, l2⟩ := h2
  refine ⟨⟨n2, ?_, ?_⟩, fun q hq => (k2 q hq).trans (k1 q hq), Eq.trans l2 l1⟩
  · rw [e2, e1]
  · rw [e1] at g2
    exact g2.trans g1

theorem PortOnly.setPort (s : State) (p : Nat) (x : PortSt) (h : (s.port p).SameBut x) : PortOnly p s (s.setPort p x) :=
  ⟨⟨_, rfl, rfl⟩, fun q hq => State.port_setPort_other s q p x hq, by rw [State.port_setPort_same]; exact h⟩

theorem PortOnly.foldl {α : Type} {f : State → α → State} {p : Nat} (l : List α) (s : State) (h : ∀ t a, PortOnly p t (f t a)) :
    PortOnly p s (l.foldl f s) := by
  induction l generalizing s with
  | nil => exact PortOnly.refl p s
  | cons a l ih => exact (h s a).trans (ih _)

theorem PortOnly.regs {p : Nat} {s t : State} (h : PortOnly p s t) : t.regs = s.regs := by
  obtain ⟨⟨n, rfl, _⟩, _⟩ := h
  rfl

theorem PortOnly.reg {p : Nat} {s t : State} (h : PortOnly p s t) (a : Nat) : t.reg a = s.reg a := by
  unfold State.reg
  rw [h.regs]

theorem PortOnly.field {p : Nat} {s t : State} (h : PortOnly p s t) : ∃ n, t = { s with net := n } := h.1.imp fun _ h => h.1

theorem State.enqueue_portOnly (s : State) (p : Nat) (f : OutFrame) : PortOnly p s (s.enqueue p f) := by
  unfold State.enqueue
  split
  · exact PortOnly.setPort s p _ rfl
  · exact PortOnly.refl p s

theorem State.addNbr_sameBut (x : PortSt) (w : Nbr → Bool) (e : Nbr) : x.SameBut (addNbr x w e) := by
  unfold addNbr
  split
  · rfl
  · split <;> rfl

theorem State.startResolve_portOnly (s : State) (p ip : Nat) : PortOnly p s (s.startResolve p ip) := by
  unfold State.startResolve
  dsimp only
  split
  · exact PortOnly.refl p s
  · exact (PortOnly.setPort s p _ (State.addNbr_sameBut _ _ _)).trans (State.enqueue_portOnly _ _ _)

theorem State.send_portOnly (s : State) (p : Nat) (f : OutFrame) : PortOnly p s (s.send p f) := by
  unfold State.send
  split
  · exact PortOnly.refl p s
  · split
    · exact State.enqueue_portOnly _ _ _
    · split
      · exact State.enqueue_portOnly _ _ _
      · split
        · exact State.enqueue_portOnly _ _ _
        · dsimp only
          split
          · exact State.enqueue_portOnly _ _ _
          · exact (State.startResolve_portOnly _ _ _).trans (PortOnly.setPort _ _ _ rfl)

/-- With the link up and no power failure, a frame goes to the end of the queue. -/
theorem State.enqueue_eq (s : State) (p : Nat) (f : OutFrame) (h1 : s.linkUp p = true) (h2 : s.power.failing = false) :
    s.enqueue p f = s.setPort p { s.port p with sysq := (s.port p).sysq ++ [f] } := by
  simp [State.enqueue, h1, h2]

/-- A frame with a known MAC is queued at once. -/
theorem State.send_mac (s : State) (p : Nat) (f : OutFrame) (m : Nat) (h1 : s.linkUp p = true) (h2 : s.power.failing = false)
    (hm : f.mac = some m) : s.send p f = s.setPort p { s.port p with sysq := (s.port p).sysq ++ [f] } := by
  simp [State.send, h1, h2, hm, State.enqueue_eq]

/-- What a port queues stays queued while more is sent. -/
theorem State.send_sysq (s : State) (p : Nat) (f : OutFrame) : ∃ l, ((s.send p f).port p).sysq = (s.port p).sysq ++ l := by
  have e1 : ∀ (t : State) (g : OutFrame), ∃ l, ((t.enqueue p g).port p).sysq = (t.port p).sysq ++ l := by
    intro t g
    unfold State.enqueue
    split
    · exact ⟨[g], by simp⟩
    · exact ⟨[], by simp⟩
  unfold State.send
  split
  · exact ⟨[], by simp⟩
  · split
    · exact e1 _ _
    · split
      · exact e1 _ _
      · split
        · exact e1 _ _
        · dsimp only
          split
          · exact e1 _ _
          · unfold State.startResolve
            dsimp only
            split
            · exact ⟨[], by simp⟩
            · obtain ⟨l, hl⟩ := e1 (s.setPort p (addNbr (s.port p) (s.awaited p)
                { ip := s.nextHop p f.dstIp, state := .resolving, tries := 1, retryAt := s.now + sT 1, expires := s.now + sT 3 }))
                (s.resolveFrame p (s.nextHop p f.dstIp) none)
              refine ⟨l, ?_⟩
              simp only [State.port_setPort_same, hl]
              congr 1
              unfold addNbr
              split
              · rfl
              · split <;> rfl

/-- A frame that starts is the last one on the wire, and counts in PRT_TX_FRAMES. -/
theorem State.transmit_wire (s : State) (p : Nat) (f : OutFrame) : (s.transmit p f).wire = s.wire ++ [(p, s.framed p f)] := rfl

section Backward
variable {s t : State} {l : List Nat} (h : RegsBut s t l)
include h

theorem RegsBut.transmit (p : Nat) (f : OutFrame) (h1 : Reg.PRT_TX_FRAMES p ∈ l) (h2 : Reg.PRT_TX_FRAMES p + 4 ∈ l) : RegsBut s (t.transmit p f) l :=
  RegsBut.bump (t := { t with wire := t.wire ++ [(p, t.framed p f)] }) h _ h1 h2

theorem RegsBut.portOnly {u : State} {p : Nat} (e : PortOnly p t u) : RegsBut s u l := h.regs_eq e.regs

theorem RegsBut.send (p : Nat) (f : OutFrame) : RegsBut s (t.send p f) l := h.portOnly (State.send_portOnly t p f)

theorem RegsBut.enqueue (p : Nat) (f : OutFrame) : RegsBut s (t.enqueue p f) l := h.portOnly (State.enqueue_portOnly t p f)

end Backward

end Sys2Proof.Machine
end

