-- ==== Sys2Proof/Laws/Ports.lean ====
section
/-!
SUPPORT. Ports: link state (R30, R31, R38, R39), and the acceptance of a frame of a class that the control policer polices (R36, R319, R323).
-/
set_option Elab.async false

namespace Sys2Proof.Machine

theorem State.port_of_net (s t : State) (p : Nat) (h : t.net = s.net) : t.port p = s.port p := by
  unfold State.port
  rw [h]

theorem State.cfg_of_eff (s t : State) (a : Nat) (h : t.eff = s.eff) : t.cfg a = s.cfg a := by
  unfold State.cfg
  rw [h]

/-- Addresses of a port's block are not counters of the interrupt controller. -/
theorem notEv_of_ge (a : Nat) (h : 0x80000 ≤ a) : a ∉ evRegs := by
  simp [evRegs, Reg.INT_MERGED, Reg.INT_BYPASS, Reg.INT_REROUTED]
  omega

/-- What a port sends at link up goes through its queue. -/
theorem State.announceLink_portOnly (s : State) (p : Nat) : PortOnly p s (s.announceLink p) := by
  unfold State.announceLink
  dsimp only
  have h1 : ∀ (t : State) (c : Prop) [Decidable c] (f : OutFrame), PortOnly p t (if c then t.send p f else t) := by
    intro t c _ f
    split
    · exact State.send_portOnly _ _ _
    · exact PortOnly.refl _ _
  have h2 : ∀ (t : State) (c : Prop) [Decidable c] (f : OutFrame), PortOnly p t (if c then t else t.send p f) := by
    intro t c _ f
    split
    · exact PortOnly.refl _ _
    · exact State.send_portOnly _ _ _
  have h3 : ∀ (t u : State) (c d : Prop) [Decidable c] [Decidable d] (f g : OutFrame), PortOnly p t u →
      PortOnly p t (if c then u.send p f else if d then u.send p g else u) := by
    intro t u c d _ _ f g h
    split
    · exact h.trans (State.send_portOnly _ _ _)
    · split
      · exact h.trans (State.send_portOnly _ _ _)
      · exact h
  apply h3
  exact (((h1 s _ _).trans (State.send_portOnly _ _ _)).trans (h2 _ _ _)).trans (State.send_portOnly _ _ _)

/-- Everything that declaring link down does (R30, R31, R39, R310). -/
theorem State.declareDown_spec (s : State) (p : Nat) (hp : p < 4) : (s.declareDown p).linkUp p = false
    ∧ (s.linkUp p = true → (s.declareDown p).regBit (Reg.PRT_STATUS p) 8 = true ∧ Counted s (s.declareDown p) (Reg.PRT_LINK_DOWNS p) 1
      ∧ ((s.declareDown p).port p).sysq = [] ∧ ((s.declareDown p).port p).waiting = [] ∧ ((s.declareDown p).port p).segs = [])
    ∧ RegsBut s (s.declareDown p) (Reg.PRT_STATUS p :: ctr (Reg.PRT_LINK_DOWNS p) ++ evRegs) := by
  by_cases h : s.linkUp p = true
  · have e1 : Reg.PRT_STATUS p ∉ evRegs := notEv_of_ge _ (by unfold Reg.PRT_STATUS; omega)
    have e2 : Reg.PRT_LINK_DOWNS p ∉ evRegs := notEv_of_ge _ (by unfold Reg.PRT_LINK_DOWNS; omega)
    have e3 : Reg.PRT_LINK_DOWNS p + 4 ∉ evRegs := notEv_of_ge _ (by unfold Reg.PRT_LINK_DOWNS; omega)
    have n1 : Reg.PRT_STATUS p ≠ Reg.PRT_LINK_DOWNS p := by unfold Reg.PRT_STATUS Reg.PRT_LINK_DOWNS; omega
    have n2 : Reg.PRT_STATUS p ≠ Reg.PRT_LINK_DOWNS p + 4 := by unfold Reg.PRT_STATUS Reg.PRT_LINK_DOWNS; omega
    have key : ∀ (x : PortSt) (r : Bool), x.sysq = [] → x.waiting = [] → x.segs = [] →
        let t := ((((if r then (s.setPort p x).setRegBit (Reg.PRT_STATUS p) 2 false else s.setPort p x).setRegBit (Reg.PRT_STATUS p) 0
          false).setRegBit (Reg.PRT_STATUS p) 8 true).bump (Reg.PRT_LINK_DOWNS p)).raiseEv (72 + p)
        t.linkUp p = false ∧ (t.regBit (Reg.PRT_STATUS p) 8 = true ∧ Counted s t (Reg.PRT_LINK_DOWNS p) 1 ∧ (t.port p).sysq = []
          ∧ (t.port p).waiting = [] ∧ (t.port p).segs = []) ∧ RegsBut s t (Reg.PRT_STATUS p :: ctr (Reg.PRT_LINK_DOWNS p) ++ evRegs) := by
      intro x r h1 h2 h3 t
      have hb : ∀ i, t.regBit (Reg.PRT_STATUS p) i = (((if r then (s.setPort p x).setRegBit (Reg.PRT_STATUS p) 2 false
          else s.setPort p x).setRegBit (Reg.PRT_STATUS p) 0 false).setRegBit (Reg.PRT_STATUS p) 8 true).regBit (Reg.PRT_STATUS p) i := by
        intro i
        unfold State.regBit
        rw [State.raiseEv_reg _ _ _ e1, State.reg_bump_other _ _ _ n1 n2]
      have hn : t.net = (s.setPort p x).net := by
        simp only [t, State.raiseEv_net, State.bump_net, State.setRegBit_net]
        split <;> rfl
      refine ⟨?_, ⟨?_, ?_, ?_, ?_, ?_⟩, ?_⟩
      · unfold State.linkUp
        rw [hb, State.regBit_setRegBit_bit _ _ _ _ _ (by decide), State.regBit_setRegBit_same _ _ _ _ (by decide)]
      · rw [hb, State.regBit_setRegBit_same _ _ _ _ (by decide)]
      · unfold Counted
        rw [State.pair_congr _ _ _ (State.raiseEv_reg _ _ _ e2) (State.raiseEv_reg _ _ _ e3), State.pair_bump]
        congr 2
        apply State.pair_congr
        all_goals
          rw [State.reg_setRegBit, if_neg, State.reg_setRegBit, if_neg]
          · split
            · rw [State.reg_setRegBit, if_neg]
              · rfl
              · first | exact n1.symm | exact n2.symm
            · rfl
          · first | exact n1.symm | exact n2.symm
          · first | exact n1.symm | exact n2.symm
      · rw [State.port_of_net _ _ p hn, State.port_setPort_same, h1]
      · rw [State.port_of_net _ _ p hn, State.port_setPort_same, h2]
      · rw [State.port_of_net _ _ p hn, State.port_setPort_same, h3]
      · refine RegsBut.raiseEv (RegsBut.bump (RegsBut.setRegBit (RegsBut.setRegBit (RegsBut.ite (RegsBut.setRegBit ?_ _ _ _ ?_) ?_) _ _ _ ?_)
          _ _ _ ?_) _ ?_ ?_) _ ?_
        · exact RegsBut.refl s _
        · simp
        · exact RegsBut.refl s _
        · simp
        · simp
        · simp [ctr]
        · simp [ctr]
        · intro a ha
          simp [ha]
    have k := key { s.port p with sysq := [], waiting := [], segs := [], steady := false,
                                  trained := if s.cfgF (Reg.PRT_CFG p) 2 2 == 2 then false else (s.port p).trained }
      (s.cfgF (Reg.PRT_CFG p) 2 2 == 2) rfl rfl rfl
    simp only [State.declareDown, h, Bool.not_true, Bool.false_eq_true, if_false]
    exact ⟨k.1, fun _ => k.2.1, k.2.2⟩
  · rw [Bool.not_eq_true] at h
    unfold State.declareDown
    rw [h]
    exact ⟨h, fun h' => absurd h' (by simp), RegsBut.refl s _⟩

/-- A frame that the control policer passes leaves the state but for the port's bucket (R323). -/
theorem State.policeCtl_passed (s : State) (p len : Nat) (h : (s.policeCtl p len).2 = true) :
    (s.policeCtl p len).1 = s ∨ ∃ c, (s.policeCtl p len).1 = s.setPort p { s.port p with ctl := c } := by
  unfold State.policeCtl at h ⊢
  by_cases h1 : s.soonF (Reg.HBX_CTL_CFG p) 0 1 = 0
  · simp [h1]
  · simp only [h1, if_false] at h ⊢
    generalize (if (s.soonDiffers (Reg.HBX_CTL_CFG p) 0 1 || s.soonDiffers (Reg.HBX_CTL_CIR p) 0 20
      || s.soonDiffers (Reg.HBX_CTL_CBS p) 0 21) = true then (s.port p).ctl.restart (s.soonF (Reg.HBX_CTL_CBS p) 0 21) s.now
      else (s.port p).ctl) = b at h ⊢
    by_cases h2 : (police b (s.soonF (Reg.HBX_CTL_CIR p) 0 20) (s.soonF (Reg.HBX_CTL_CBS p) 0 21) len s.now).2 = true
    · simp only [h2, if_true]
      exact Or.inr ⟨_, rfl⟩
    · simp [h2] at h

/-- What is the same after a frame has been counted and policed: everything but the port's policer, the counters and the events. -/
structure CtlKept (s u : State) (p : Nat) : Prop where
  net : { u.net with ports := [] } = { s.net with ports := [] }
  own : ∃ c, u.port p = { s.port p with ctl := c }
  others : ∀ q, q ≠ p → u.port q = s.port q
  power : u.power = s.power
  now : u.now = s.now
  eff : u.eff = s.eff
  time : u.time = s.time
  mem : u.mem = s.mem
  regs : RegsBut s u (ctr (Reg.PRT_RX_FRAMES p) ++ evRegs)
  counted : Counted s u (Reg.PRT_RX_FRAMES p) 1

/-- What a frame that the headbox passes leaves: it counts in PRT_RX_FRAMES, the policer's bucket may change, the port's event may be raised, and the port
is up with no power failure (R36, R319, R323, R403). -/
theorem State.acceptCtl_spec (s : State) (f : RxFrame) (b : Bool) (h : (s.acceptCtl f b).2 = true) :
    s.linkUp f.port = true ∧ (s.port f.port).stopped = false ∧ s.power.failing = false ∧ CtlKept s (s.acceptCtl f b).1 f.port := by
  have hlt := f.port.isLt
  have e1 : Reg.PRT_RX_FRAMES f.port ∉ evRegs := notEv_of_ge _ (by unfold Reg.PRT_RX_FRAMES; omega)
  have e2 : Reg.PRT_RX_FRAMES f.port + 4 ∉ evRegs := notEv_of_ge _ (by unfold Reg.PRT_RX_FRAMES; omega)
  have key : ∀ t : State, { t.net with ports := [] } = { s.net with ports := [] } → (∃ c, t.port f.port = { s.port f.port with ctl := c }) →
      (∀ q, q ≠ f.port.val → t.port q = s.port q) → t.power = s.power → t.now = s.now → t.eff = s.eff → t.time = s.time → t.mem = s.mem →
      t.regs = (s.bump (Reg.PRT_RX_FRAMES f.port)).regs → CtlKept s (t.raiseEv (76 + f.port)) f.port := by
    intro t h1 h2 h3 h4 h5 h6 h7 h8 h9
    have hr : RegsBut s t (ctr (Reg.PRT_RX_FRAMES f.port) ++ evRegs) := by
      refine RegsBut.regs_eq ?_ h9
      exact RegsBut.bump (RegsBut.refl s _) _ (by simp [ctr]) (by simp [ctr])
    refine ⟨by simp [h1], ?_, fun q hq => by simp [h3 q hq], by simp [h4], by simp [h5], by simp [h6], by simp [h7], by simp [h8],
      hr.raiseEv _ (fun a ha => by simp [ha]), ?_⟩
    · obtain ⟨c, hc⟩ := h2
      exact ⟨c, by simp [hc]⟩
    · unfold Counted
      rw [State.pair_congr _ _ _ (State.raiseEv_reg _ _ _ e1) (State.raiseEv_reg _ _ _ e2), ← State.pair_bump]
      unfold State.pair State.reg
      rw [h9]
  unfold State.acceptCtl at h ⊢
  dsimp only at h ⊢
  by_cases h0 : s.rxOpen f.port = true
  · simp only [h0, Bool.not_true, Bool.false_eq_true, if_false] at h ⊢
    have h0' := h0
    simp only [State.rxOpen, Bool.and_eq_true, Bool.not_eq_true'] at h0'
    refine ⟨h0'.1.1, h0'.1.2, h0'.2, ?_⟩
    cases h1 : s.frameCheck f with
    | some c => simp [h1] at h
    | none =>
      cases h2 : (if s.isKt f = true then s.ktCheck f else none) with
      | some c => simp [h1, h2] at h
      | none =>
        simp only [h1, h2] at h ⊢
        cases b with
        | false => simp at h
        | true =>
          simp only [Bool.not_true, Bool.false_eq_true, if_false] at h ⊢
          by_cases h3 : (s.policeCtl f.port f.len).2 = true
          · simp only [h3, if_true]
            rcases State.policeCtl_passed s f.port f.len h3 with e | ⟨c, e⟩ <;> rw [e]
            · exact key _ rfl ⟨_, rfl⟩ (fun q hq => rfl) rfl rfl rfl rfl rfl rfl
            · exact key _ rfl ⟨_, State.port_setPort_same _ _ _⟩ (fun q hq => State.port_setPort_other _ _ _ _ hq) rfl rfl rfl rfl rfl rfl
          · simp [h3] at h
  · rw [Bool.not_eq_true] at h0
    simp [h0] at h

/-- The port is still up after the frame has been accepted. -/
theorem CtlKept.linkUp {s u : State} {p : Nat} (h : CtlKept s u p) (hp : p < 4) : u.linkUp p = s.linkUp p := by
  unfold State.linkUp State.regBit
  rw [h.regs]
  simp only [List.mem_append, not_or]
  refine ⟨?_, notEv_of_ge _ (by unfold Reg.PRT_STATUS; omega)⟩
  simp [ctr, Reg.PRT_STATUS, Reg.PRT_RX_FRAMES]
  omega

end Sys2Proof.Machine
end

