-- ==== Sys2Proof/Tests/Slice0.lean ====
section
/-!
SUPPORT. Tests: what WellFormed refuses, results that the manual states, and for each statement with hypotheses a concrete state and operands
that meet them together.
-/
set_option Elab.async false

section
namespace Sys2Proof.Tests
open Sys2Proof Sys2Proof.Machine

/-! ## Small states -/

/-- A register table with the listed values. -/
def regsOf (l : List (Nat × Nat)) : Tab Word := l.foldl (fun t q => tput regReset t q.1 (BitVec.ofNat 32 q.2)) []

/-- An announced configuration with the listed values. -/
def cfgOf (l : List (Nat × Nat)) : Tab Word := l.foldl (fun t q => tput cfgReset t q.1 (BitVec.ofNat 32 q.2)) []

/-- Bytes from numbers. -/
def bytes (l : List Nat) : Bytes := l.map (BitVec.ofNat 8)

/-! ## Well-formedness -/

/-- A frame as port 0 of `net0` takes it: to its MAC address, from 192.0.2.9, with a layer-3 form, a UDP port and a payload. -/
def frameOf (l3 : L3) (dport : Nat) (payload : Bytes) : RxFrame :=
  { port := 0, fcsOk := true, len := 1000, sTag := false, vid := none, etherType := 0x0800, dstMac := 0x025000000001, srcMac := 0x020000000009, l3,
    srcIp := mapped4 0xC0000209, dstIp := mapped4 0xC0000201, srcPort := 47210, dstPort := dport, payload }

/-- A UDP frame. -/
def udpOf (dport : Nat) (payload : Bytes) : RxFrame := frameOf (.ip4 true false 17 .good) dport payload

/-- An ICMP frame. -/
def icmpOf (payload : Bytes) : RxFrame := frameOf (.ip4 true false 1 .good) 0 payload

/-- An ICMPv6 frame. -/
def icmp6Of (payload : Bytes) : RxFrame := { frameOf (.ip6 false false 58 .good) 0 payload with etherType := 0x86DD, srcIp := 0xFD00 * 2 ^ 112 + 9 }

/-- An ARP frame. -/
def arpOf (payload : Bytes) : RxFrame := { frameOf .none 0 payload with etherType := 0x0806 }

/-- A well-formed frame and one ill-formed in each of its checks. -/
theorem test_wellFormed_frame : (Instr.pauseFrame (udpOf 1 [])).wellFormed = true
    ∧ (Instr.pauseFrame { udpOf 1 [] with dstMac := 2 ^ 48 }).wellFormed = false ∧ (Instr.pauseFrame { udpOf 1 [] with srcMac := 2 ^ 48 }).wellFormed = false
    ∧ (Instr.pauseFrame { udpOf 1 [] with etherType := 2 ^ 16 }).wellFormed = false ∧ (Instr.pauseFrame { udpOf 1 [] with srcIp := 2 ^ 128 }).wellFormed = false
    ∧ (Instr.pauseFrame { udpOf 1 [] with dstIp := 2 ^ 128 }).wellFormed = false ∧ (Instr.pauseFrame { udpOf 1 [] with srcPort := 2 ^ 16 }).wellFormed = false
    ∧ (Instr.pauseFrame { udpOf 1 [] with dstPort := 2 ^ 16 }).wellFormed = false ∧ (Instr.pauseFrame { udpOf 1 (zeros 9) with len := 8 }).wellFormed = false
    ∧ (Instr.pauseFrame { udpOf 1 [] with vid := some 4096 }).wellFormed = false ∧ (Instr.pauseFrame { udpOf 1 [] with vid := some 4095 }).wellFormed = true := by
  decide +kernel

/-- A PTP message. -/
def ptpMsg0 : PtpMsg := { source := 0x10001, domain := 0, seqId := 7, twoStep := true, correction := 0, stamp := 1000, requesting := 0x025000FFFE0000010001 }

/-- An Announce data set. -/
def announce0 : Announce :=
  { source := 0x10001, priority1 := 128, clockClass := 6, accuracy := 0x21, variance := 0x4E5D, priority2 := 128, grandmaster := 1, steps := 0, logInterval := 1 }

theorem test_wellFormed_ptp : (Instr.ptpAnnounce (udpOf 320 []) ptpMsg0 announce0).wellFormed = true
    ∧ (Instr.ptpSync (udpOf 319 []) { ptpMsg0 with source := 2 ^ 80 }).wellFormed = false ∧ (Instr.ptpSync (udpOf 319 []) { ptpMsg0 with domain := 256 }).wellFormed = false
    ∧ (Instr.ptpSync (udpOf 319 []) { ptpMsg0 with seqId := 65536 }).wellFormed = false
    ∧ (Instr.ptpSync (udpOf 319 []) { ptpMsg0 with requesting := 2 ^ 80 }).wellFormed = false
    ∧ (Instr.ptpAnnounce (udpOf 320 []) ptpMsg0 { announce0 with logInterval := 128 }).wellFormed = false
    ∧ (Instr.ptpAnnounce (udpOf 320 []) ptpMsg0 { announce0 with logInterval := -128 }).wellFormed = true
    ∧ (Instr.ptpAnnounce (udpOf 320 []) ptpMsg0 { announce0 with source := 2 ^ 80 }).wellFormed = false
    ∧ (Instr.ptpAnnounce (udpOf 320 []) ptpMsg0 { announce0 with priority1 := 256 }).wellFormed = false
    ∧ (Instr.ptpAnnounce (udpOf 320 []) ptpMsg0 { announce0 with clockClass := 256 }).wellFormed = false
    ∧ (Instr.ptpAnnounce (udpOf 320 []) ptpMsg0 { announce0 with accuracy := 256 }).wellFormed = false
    ∧ (Instr.ptpAnnounce (udpOf 320 []) ptpMsg0 { announce0 with variance := 65536 }).wellFormed = false
    ∧ (Instr.ptpAnnounce (udpOf 320 []) ptpMsg0 { announce0 with priority2 := 256 }).wellFormed = false
    ∧ (Instr.ptpAnnounce (udpOf 320 []) ptpMsg0 { announce0 with grandmaster := 2 ^ 64 }).wellFormed = false
    ∧ (Instr.ptpAnnounce (udpOf 320 []) ptpMsg0 { announce0 with steps := 65536 }).wellFormed = false := by decide +kernel

/-- Readings of every kind. -/
def rings0 : List RingPair := List.replicate 8 { unstressed := 1000, stressed := 1000 }

theorem test_wellFormed_numbers : (Instr.trainingDone 0 3).wellFormed = false ∧ (Instr.trainingDone 0 2).wellFormed = true
    ∧ (Instr.neighbourRefresh 0 (2 ^ 128)).wellFormed = false ∧ (Instr.neighbourRefresh 0 (2 ^ 128 - 1)).wellFormed = true
    ∧ (Instr.registerWrite (2 ^ 32) 0 0).wellFormed = false ∧ (Instr.alloc (.agent 0 (2 ^ 32) 0)).wellFormed = false
    ∧ (Instr.give (.agent 0 0 256)).wellFormed = false ∧ (Instr.give (.agent 0 0 255)).wellFormed = true
    ∧ (Instr.memReadRequest 256 0 1 []).wellFormed = false ∧ (Instr.memReadRequest 255 0 0 []).wellFormed = false
    ∧ (Instr.memReadRequest 255 127 2 []).wellFormed = false ∧ (Instr.memReadRequest 255 127 1 []).wellFormed = true
    ∧ (Instr.patrolScrubRead 0 [⟨16, 0, 1⟩]).wellFormed = false ∧ (Instr.patrolScrubRead 0 [⟨15, 10, 1⟩]).wellFormed = false
    ∧ (Instr.patrolScrubRead 0 [⟨15, 9, 1⟩]).wellFormed = true ∧ (Instr.memWriteRequest 0 0 0 (zeros 127) false []).wellFormed = false := by decide +kernel

theorem test_wellFormed_readings : (Instr.marginProbe 0 (List.replicate 9 ⟨1, 1, 1, 1⟩)).wellFormed = false
    ∧ (Instr.marginProbe 0 (List.replicate 10 ⟨33, 1, 1, 1⟩)).wellFormed = false ∧ (Instr.marginProbe 0 (List.replicate 10 ⟨32, 32, 32, 32⟩)).wellFormed = true
    ∧ (Instr.groupMeasurement 0x40 [[1, 2, 3]]).wellFormed = false ∧ (Instr.groupMeasurement 0x40 [[1, 2, 3, 4]]).wellFormed = true
    ∧ (Instr.refCalibration { precres := 0, temps := List.replicate 17 (0, true), oscOk := true }).wellFormed = false
    ∧ (Instr.replan [] []).wellFormed = false ∧ (Instr.replan rings0 []).wellFormed = true
    ∧ (Instr.replan rings0 [[(2568, [1, 2, 3, 4])]]).wellFormed = false := by decide +kernel

/-! ## Results that the manual states -/

/-- The address of the worked example in 14_memory.md: port M3, bank group 3, bank 0, column 21, row 0x1234. -/
theorem test_address_map : State.reset.memPortOf 0x123456780 = 3 ∧ State.reset.memBank 0x123456780 = (3, 0)
    ∧ State.reset.memColRow 0x123456780 = (21, 0x1234) := by decide +kernel

/-- The beat of R339's example, and the correction of d3 read with 0x10 added. -/
theorem test_symbol_code : rsEncode (bytes [1, 0, 0, 0, 0, 0, 0, 0]) = bytes [2, 3, 1, 0, 0, 0, 0, 0, 0, 0]
    ∧ rsDecode (bytes [2, 3, 1, 0, 0, 0x10, 0, 0, 0, 0]) = .good (bytes [1, 0, 0, 0, 0, 0, 0, 0]) 1 := by decide +kernel

/-- The check value of the CRC that R303 and R417 name. -/
theorem test_crc32 : crc32 (ascii "123456789") = 0xCBF43926#32 := by decide +kernel

/-- The stale handle of 15_dma_and_felt_pools.md. -/
theorem test_handle : handleOf 6 1234 = 0x80C004D2 ∧ handlePool 0x80C004D2 = 6 ∧ handleIndex 0x80C004D2 = 1234 := by decide +kernel

/-- The move by 100 bytes of 15_dma_and_felt_pools.md: the row descends in bursts of 188, 256 and 156 bytes. -/
theorem test_descending_move :
    let t := Xfer.run { src := 0x200000100, dst := 0x200000164, x := 600, y := 1, z := 1, sx := 1, sy := 0, sz := 0, dx := 1, dy := 0, dz := 0 }
    t.burst 0 = 188 ∧ t.at 0 = (0x200000357, 0x2000003BB) ∧ t.burst 188 = 256 ∧ t.at 443 = (0x20000019C, 0x200000200) ∧ t.burst 444 = 156
      ∧ t.at 599 = (0x200000100, 0x200000164) := by decide +kernel

/-- The ball of M3.S2_CA4 in 22_pins_and_electrical.md. -/
theorem test_ball : memBall 3 2 "CA4" = some "AW60" := by decide +kernel

/-- The kernel at chroma phase 32 (10_composition.md). -/
theorem test_chroma_phase32 : coefs 4 16 32 = [-16, 144, 144, -16] := by decide +kernel

/-- The maximum KT payload of R43's example: MAX_FRAME 9,216, tagged, over IPv6. -/
theorem test_max_payload : ({ State.reset with eff := cfgOf [(Reg.PRT_CFG 0, 1 + 9216 * 2 ^ 16), (Reg.PRT_VLAN 0, 2 ^ 15)] } : State).maxPayload 0 1 9216 = 9130 := by
  decide +kernel

/-- The door proxy of 09_rate_control.md: 240 coding tree units, m_pic 5,888 bits, 26,666 bits a picture. -/
theorem test_rate_example : ctus 1 640 360 = 240 ∧ mPic 240 = 5888 ∧ rcNominal [0#32, 400#32] 1500 = 26666 := by decide +kernel

/-- Step 2 of the worked example in 17_boot_and_configuration.md: HIGH 10 lowers LOW to 8, and LOW 16 clamps to HIGH − 2 = 8. -/
theorem test_watermark_clamp : (({ State.reset with boot := { phase := .running } } : State).writeRegs (.mgmt 1) 0x202004 [10#32]).reg (Reg.MEM_WQ_LOW 2) = 8#32
    ∧ (({ State.reset with boot := { phase := .running } } : State).writeRegs (.mgmt 1) 0x202004 [10#32, 16#32]).reg (Reg.MEM_WQ_HIGH 2) = 10#32
    ∧ (({ State.reset with boot := { phase := .running } } : State).writeRegs (.mgmt 1) 0x202004 [10#32, 16#32]).reg (Reg.MEM_WQ_LOW 2) = 8#32 := by decide +kernel

/-- The next state of an outcome. -/
def nextOf : Host.Outcome State Fault Refusal → State
  | .next t => t
  | _ => State.reset

/-- Handle of frame buffer 1,234 of pool 6, owned by GS2. -/
def stale0 : State :=
  { State.reset with pools := [(6, { fresh := 1235, owner := [(1234, 0xA3)] })]
                     eff := cfgOf [(Reg.FP_COUNT 6, 2048)], regs := regsOf [(Reg.FP_COUNT 6, 2048), (Reg.FP_FREE 6, 813)] }

/-- Steps 1 and 2 of the stale handle: the buffer is free; freed again, the pool's counter and the last-event record say so. -/
theorem test_stale_handle : (nextOf (exec (.free (.agent 0xA2 0x80C004D2 0)) stale0)).ownerOf 0x80C004D2 = none
    ∧ (nextOf (exec (.free (.agent 0xA2 0x80C004D2 0)) (nextOf (exec (.free (.agent 0xA2 0x80C004D2 0)) stale0)))).reg Reg.FP_LAST_INFO = 0xA201#32 := by
  decide +kernel

/-- Register addresses that 21_register_map.md works out. -/
theorem test_register_addresses : Reg.DEC_CFG 17 = 0x00304400 ∧ Reg.RC_STATUS 246 = 0x00A0F650 ∧ Reg.CTX_PRESS 530 = 0x00821238 := by decide +kernel

/-! ## Ports, neighbours, partners -/

/-- Port 0 configured: every role, MAC 02:50:00:00:00:01, 192.0.2.1/24, no VLAN tag; partner 0 is 192.0.2.9, monitored; PTP over IPv4 on port 0. -/
def cfg0 : Tab Word := cfgOf [(Reg.PRT_CFG 0, 0x05F20F01), (Reg.PRT_MAC_LO 0, 1), (Reg.PRT_MAC_HI 0, 0x0250), (Reg.PRT_IP4_ADDR 0, 0xC0000201),
  (Reg.PRT_IP4_PFX 0, 24), (Reg.GLB_PTN_ADDR 0 2, 0xFFFF), (Reg.GLB_PTN_ADDR 0 3, 0xC0000209), (Reg.GLB_PTN_CFG 0, 47210 + 0xFC0000), (Reg.GLB_PTP_CFG, 0x11)]

/-- That configuration with other registers set. -/
def cfg0With (l : List (Nat × Nat)) : Tab Word := l.foldl (fun t q => tput cfgReset t q.1 (BitVec.ofNat 32 q.2)) cfg0

/-- Its link is up. -/
def net0 : State :=
  { State.reset with now := sT 100, regs := regsOf [(Reg.PRT_STATUS 0, 3)], eff := cfg0, net := { ports := [(0, { enabled := true })] }
                     boot := { phase := .running } }

/-- Link up 10 ms, link down 1 ms after block lock changed; a port with training. -/
theorem witness_LinkCommandsSetPortStatus :
    ({ net0 with regs := regsOf [(Reg.PRT_STATUS 3, 2)], net := { ports := [(3, { enabled := true, lockTick := sT 100 - msT 10 })] } } : State).linkUpDue 3 = true
    ∧ (let s := { net0 with regs := regsOf [(Reg.PRT_STATUS 0, 1)], net := { ports := [(0, { enabled := true, lockTick := sT 100 - msT 1 })] } }
      s.regBit (Reg.PRT_STATUS 0) 1 = false ∧ (s.port 0).lockTick + msT 1 ≤ s.now ∧ s.linkUp 0 = true)
    ∧ ({ net0 with eff := cfgOf [(Reg.PRT_CFG 3, 0x05F20F05)] } : State).cfgF (Reg.PRT_CFG 3) 2 2 ≠ 0 := by decide +kernel

theorem witness_DiscardedFramesCountOnce : net0.rxOpen 0 = true
    ∧ net0.frameCheck { udpOf 9 [] with etherType := 0x8808, l3 := .none } = some (Reg.PRT_RX_PAUSE 0)
    ∧ net0.firstFailure { udpOf 9 [] with dstMac := 5 } = some (Reg.PRT_RX_L3_DROP 0)
    ∧ net0.firstFailure (udpOf 47210 (ktBytes 9 9 0 0 0 [])) = some (Reg.PRT_KT_BAD 0) := by decide +kernel

/-- An ARP message for 192.0.2.1 from 192.0.2.9. -/
def arp0 (op : Nat) : RxFrame := arpOf (arpBytes op 0x020000000009 0xC0000209 0 0xC0000201)

theorem witness_RespondersAnswerOnTheReceivingPort :
    (net0.ctlPass (arp0 1) = true ∧ (arp0 1).isArp = true ∧ fieldAt 6 2 (arp0 1).payload = 1 ∧ net0.ip4On 0 = true
      ∧ mapped4 (fieldAt 24 4 (arp0 1).payload) = net0.ip4 0)
    ∧ (let f := icmp6Of (be 1 135 ++ zeros 7 ++ be 16 (net0.linkLocal 0))
      net0.ctlPass f = true ∧ f.isIcmp6 135 = true ∧ fieldAt 8 16 f.payload = net0.linkLocal 0)
    ∧ (let f := icmp6Of (be 1 130 ++ zeros 27)
      net0.ctlPass f = true ∧ f.isIcmp6 130 = true)
    ∧ (let f := frameOf (.ip4 true false 2 .good) 0 (be 1 0x11 ++ zeros 11)
      net0.ctlPass f = true ∧ f.proto = some 2 ∧ fieldAt 0 1 f.payload = 0x11 ∧ net0.ptpPort f.port = true ∧ net0.ptpTransport = 1)
    ∧ (∀ f ∈ [icmpOf (be 1 8 ++ zeros 20), icmp6Of (be 1 128 ++ zeros 20)],
      let s := { net0 with net := { ports := [(0, { enabled := true, echoes := 99 })] } }
      (s.acceptCtl f (s.otherPermitted f)).2 = true ∧ f.isEchoRequest = true ∧ (s.port f.port).echoes < 100) := by decide +kernel

/-- Port 0 with one neighbour entry and a frame that waits for it. -/
def nbr0 (e : Nbr) : State :=
  { net0 with net := { ports := [(0, { enabled := true, nbrs := [e], waiting := [(net0.ktFrame 0 .heartbeat (mapped4 0xC0000209) 47210 [], sT 97)] })] } }

/-- The entry of 192.0.2.9. -/
def ent0 : Nbr := { ip := mapped4 0xC0000209 }

theorem witness_NeighbourTableFollowsResolution :
    ((nbr0 ent0).ctlPass (arp0 2) = true ∧ (arp0 2).isArp = true ∧ fieldAt 6 2 (arp0 2).payload = 2
      ∧ ((nbr0 ent0).port 0).nbr? (mapped4 (fieldAt 14 4 (arp0 2).payload)) = some ent0)
    ∧ (let f := icmp6Of (be 1 136 ++ zeros 7 ++ be 16 (0xFD00 * 2 ^ 112 + 9) ++ be 1 2 ++ be 1 1 ++ be 6 9)
      let e : Nbr := { ip := 0xFD00 * 2 ^ 112 + 9 }
      (nbr0 e).ctlPass f = true ∧ f.isIcmp6 136 = true ∧ fieldAt 24 1 f.payload = 2 ∧ ((nbr0 e).port 0).nbr? (fieldAt 8 16 f.payload) = some e)
    ∧ (let e := { ent0 with state := .resolved, expires := sT 130 }
      ((nbr0 e).port 0).nbr? ent0.ip = some e ∧ (nbr0 e).linkUp 0 = true ∧ (nbr0 e).power.failing = false ∧ e.state = .resolved ∧ e.refreshed = false ∧ e.expires ≤ (nbr0 e).now + sT 30)
    ∧ (let e := { ent0 with tries := 2, retryAt := sT 100 }
      ((nbr0 e).port 0).nbr? ent0.ip = some e ∧ (nbr0 e).linkUp 0 = true ∧ (nbr0 e).power.failing = false ∧ 0 < e.tries ∧ e.tries < 3 ∧ e.retryAt ≤ (nbr0 e).now)
    ∧ (let e := { ent0 with tries := 3, retryAt := sT 100 }
      ((nbr0 e).port 0).nbr? ent0.ip = some e ∧ (nbr0 e).linkUp 0 = true ∧ (nbr0 e).power.failing = false ∧ 3 ≤ e.tries ∧ e.retryAt ≤ (nbr0 e).now
        ∧ 0 ∈ (nbr0 e).partnersOn ∧ (nbr0 e).ptnPort 0 = 0 ∧ (nbr0 e).nextHop 0 ((nbr0 e).ptnIp 0) = ent0.ip)
    ∧ ({ net0 with net := { net0.net with winAt := sT 99 } } : State).net.winAt + sT 1 ≤ net0.now := by decide +kernel

/-- A partner's heartbeat. -/
def hb0 : RxFrame := udpOf 47210 (ktBytes clsHeartbeat 2 0 0 1 (zeros 8))

theorem witness_HeartbeatsDrivePartnerState : net0.net.hbAt ≤ net0.now ∧ net0.power.failing = false ∧ net0.boot.phase = .running
    ∧ net0.ctlPass hb0 = true ∧ net0.isKt hb0 = true ∧ isPartnerHeartbeat hb0 = true ∧ net0.partnerOf hb0 = some 0 ∧ net0.ptnMonitored 0 = true
    ∧ (let s := net0.setPartner 0 { up := true, lastHb := sT 100 - 3 * net0.hbInterval }
      s.ptnMonitored 0 = true ∧ (s.partner 0).up = true ∧ (s.partner 0).lastHb + 3 * s.hbInterval ≤ s.now) := by decide +kernel

/-! ## Device time -/

/-- The clock of `ptpMsg0` is the master; a Sync, a request and a complete pair are on record. -/
def ptp0 : State :=
  { net0 with time := { master := some 0x10001, sync := some (7, 5000, 0), req := some (7, 6000), last12 := some (1000, 2000), taiFs := 10 ^ 15 } }

/-- A PTP event frame. -/
def ptpFrame0 : RxFrame := { udpOf 319 [] with dstMac := 0x01005E000181, dstIp := mapped4 0xE0000181 }

theorem witness_PtpMessagesMeasureOffsetAndDelay : ptp0.ptpFrom ptpFrame0 ptpMsg0 = true ∧ ptpMsg0.twoStep = true
    ∧ ptp0.ptpFrom ptpFrame0 { ptpMsg0 with twoStep := false } = true
    ∧ ptp0.time.sync = some (ptpMsg0.seqId, 5000, 0)
    ∧ ptp0.cfgBit Reg.GLB_PTP_CFG 3 = false ∧ ptp0.ptpMine ptpFrame0 ptpMsg0 = true ∧ ptp0.time.req = some (ptpMsg0.seqId, 6000) ∧ ptp0.time.last12 = some (1000, 2000)
    ∧ ptp0.ptpAny ptpFrame0 ptpMsg0 = true ∧ ptp0.power.failing = false
    ∧ (let s := { ptp0 with eff := cfg0With [(Reg.GLB_PTP_CFG, 0x19)] }
      s.ptpAny ptpFrame0 ptpMsg0 = true ∧ s.cfgBit Reg.GLB_PTP_CFG 3 = true ∧ s.ptpMine ptpFrame0 ptpMsg0 = true ∧ s.time.req = some (ptpMsg0.seqId, 6000)) := by decide +kernel

theorem witness_TimeTimersMoveTheQuality :
    (ptp0.ptpPort (ptp0.cfgF Reg.GLB_PTP_CFG 1 2) = true ∧ ptp0.linkUp (ptp0.cfgF Reg.GLB_PTP_CFG 1 2) = true ∧ ptp0.time.master.isSome = true ∧ ptp0.power.failing = false)
    ∧ (let s := ({ ptp0 with time := { lastSync := sT 97 } } : State).setRegF Reg.GLB_TIME_STATUS 0 3 1
      s.quality = 1 ∧ s.time.lastSync + sT (s.cfgF Reg.GLB_PTP_TIMERS 0 8) ≤ s.now)
    ∧ (let s := ({ ptp0 with now := sT 4000, time := { holdoverAt := sT 400 } } : State).setRegF Reg.GLB_TIME_STATUS 0 3 2
      s.quality = 2 ∧ s.time.holdoverAt + sT (60 * s.cfgF Reg.GLB_PTP_TIMERS 16 16) ≤ s.now) := by decide +kernel

/-! ## Ingest and sessions -/

/-- `net0` with context 0 a live context of UDP port 5004 on port 0, in a state; its policer off. -/
def live0 (st : Nat) (x : CtxSt) (sess : List KtSess) : State :=
  { net0 with regs := regsOf [(Reg.PRT_STATUS 0, 3), (Reg.CTX_CFG 0, 1), (Reg.ING_FLOW 0, 5004), (Reg.CTX_STATUS 0, st)]
              eff := cfg0With [(Reg.CTX_CFG 0, 1), (Reg.ING_FLOW 0, 5004), (Reg.HBX_POL_CFG 0, 0)]
              ctxs := [(0, x)], net := { net0.net with sess } }

/-- An RTP frame of its flow. -/
def rtp0 : RxFrame := udpOf 5004 (be 2 0x8060 ++ be 2 7 ++ be 4 90000 ++ be 4 1 ++ bytes [0x41, 0, 0, 0])

/-- A packet of a FREE context and one of an OPEN context a tick before it idles out; an OPEN context whose idle time ends now. -/
theorem witness_IngestCommandsTakeTheirEffect :
    (let s := live0 0 {} [];
      s.rxOpen rtp0.port = true ∧ rtp0.proto = some 17 ∧ s.isKt rtp0 = false ∧ s.isPtp rtp0 = false ∧ s.frameCheck rtp0 = none ∧ s.role rtp0.port 0 = true
      ∧ s.flowOf rtp0 = some 0 ∧ s.power.safe = false ∧ s.regF Reg.GLB_MEM_NIGHT 16 2 = 0 ∧ s.soonF (Reg.HBX_POL_CFG 0) 0 1 = 0 ∧ s.cstate 0 = 0)
    ∧ (let s := live0 2 { idleAt := sT 100 + 1 } [];
      s.rxOpen rtp0.port = true ∧ s.isKt rtp0 = false ∧ s.isPtp rtp0 = false ∧ s.frameCheck rtp0 = none ∧ s.role rtp0.port 0 = true
      ∧ s.flowOf rtp0 = some 0 ∧ s.power.safe = false ∧ s.regF Reg.GLB_MEM_NIGHT 16 2 = 0 ∧ s.soonF (Reg.HBX_POL_CFG 0) 0 1 = 0 ∧ s.cstate 0 = 2
      ∧ s.now < (s.ctx 0).idleAt)
    ∧ (let s := live0 2 { idleAt := sT 100 } [];
      s.cstate 0 = 2 ∧ (s.ctx 0).idleAt ≤ s.now ∧ s.sessOf clsOffload 0 = none)
    ∧ (let x : KtSess := { cls := clsOffload, partner := 0, id := 5, target := 0 };
      let s := live0 2 { idleAt := sT 100 } [x];
      s.cstate 0 = 2 ∧ (s.ctx 0).idleAt ≤ s.now ∧ s.sessOf clsOffload 0 = some x ∧ x.pausedAt = none)
    ∧ (live0 1 {} []).cstate 0 ≠ 2 := by decide +kernel

/-- An OFFLOAD or MASK datagram from partner 0. -/
def kt0 (cls type id seq : Nat) (body : Bytes) : RxFrame := udpOf 47210 (ktBytes cls type 0 id seq body)

/-- Its message. -/
def msg0 (cls type id seq : Nat) (body : Bytes) : KtMsg :=
  { magic := 0x4B54, version := 1, cls, type, flags := 0, length := body.length, session := id, seq, body }

/-- `net0` with context 3 in the pool, rendition 1,023 a GUIDED rendition, and the listed sessions. -/
def kts0 (sess : List KtSess) : State :=
  { net0 with regs := regsOf [(Reg.PRT_STATUS 0, 3), (Reg.CTX_CFG 3, 2), (Reg.RND_CFG 1023, 2)]
              eff := cfg0With [(Reg.CTX_CFG 3, 2), (Reg.RND_CFG 1023, 2)], net := { net0.net with sess } }

theorem witness_SessionZeroIsDiscarded : ((kts0 []).ktRx (kt0 clsOffload 1 0 0 (zeros 40)) clsOffload 1).2 = some (msg0 clsOffload 1 0 0 (zeros 40), 0)
    ∧ ((kts0 []).ktRx (kt0 clsMask 1 0 0 (zeros 8)) clsMask 1).2 = some (msg0 clsMask 1 0 0 (zeros 8), 0)
    ∧ (msg0 clsOffload 1 0 0 (zeros 40)).session = 0 := by decide +kernel

/-- An open session of either class with the window 1 to 16. -/
def ses0 (cls : Nat) : KtSess := { cls, partner := 0, id := 0xFFFFFFFF, target := 3, edge := 17 }

theorem witness_SessionMessagesTakeTheirEffect :
    (let r := (kts0 []).ktRx (kt0 clsOffload 1 0xFFFFFFFF 0 (zeros 40)) clsOffload 1;
      let t := (r.1.idleFirst clsOffload 0 0xFFFFFFFF).raiseEv 102;
      r.2 = some (msg0 clsOffload 1 0xFFFFFFFF 0 (zeros 40), 0) ∧ t.sess clsOffload 0 0xFFFFFFFF = none ∧ t.closedSess clsOffload 0 0xFFFFFFFF = none
      ∧ t.power.safe = false ∧ t.maintenance = false ∧ (zeros 40).length = 40 ∧ fieldAt 0 1 (zeros 40) < 3 ∧ t.poolCtx = some 3)
    ∧ (let b := be 2 1023 ++ zeros 2 ++ be 4 9;
      let r := (kts0 []).ktRx (kt0 clsMask 1 0xFFFFFFFF 0 b) clsMask 1;
      let t := (r.1.idleFirst clsMask 0 0xFFFFFFFF).raiseEv 102;
      r.2 = some (msg0 clsMask 1 0xFFFFFFFF 0 b, 0) ∧ t.sess clsMask 0 0xFFFFFFFF = none ∧ t.closedSess clsMask 0 0xFFFFFFFF = none
      ∧ t.power.safe = false ∧ t.maintenance = false ∧ b.length = 8 ∧ fieldAt 0 2 b < 1024 ∧ t.rtype (fieldAt 0 2 b) = 2 ∧ t.rstate (fieldAt 0 2 b) ≠ 3
      ∧ t.sessOf clsMask (fieldAt 0 2 b) = none)
    ∧ (∀ cls ∈ [clsOffload, clsMask],
      let x := ses0 cls;
      let s := kts0 [x];
      (let r := s.ktRx (kt0 cls 3 x.id 16 [1]) cls 3;
        let t := r.1.idleFirst cls 0 x.id;
        r.2 = some (msg0 cls 3 x.id 16 [1], 0) ∧ t.sess cls 0 x.id = some x ∧ x.awaiting = false ∧ x.next ≤ 16 ∧ 16 < x.edge
        ∧ x.held.any (fun c => c.seq == 16) = false ∧ x.final = none)
      ∧ (let r := s.ktRx (kt0 cls 5 x.id 0 (zeros 8)) cls 5;
        let t := (r.1.idleFirst cls 0 x.id).raiseEv 102;
        let y := { x with final := some (fieldAt 0 4 (zeros 8)), held := x.held.filter (fun c => decide (c.seq ≤ fieldAt 0 4 (zeros 8)))
                          closeAt := t.now + sT (t.cfgF Reg.GLB_KT_CFG 16 6) };
        r.2 = some (msg0 cls 5 x.id 0 (zeros 8), 0) ∧ t.sess cls 0 x.id = some x ∧ x.final = none ∧ ((((t.setSess y).touchOffload y).ackNow y).sess cls 0 x.id).isSome = true)
      ∧ (let r := s.ktRx (kt0 cls 7 x.id 0 (zeros 4)) cls 7;
        r.2 = some (msg0 cls 7 x.id 0 (zeros 4), 0) ∧ (r.1.raiseEv 102).sess cls 0 x.id = some x)) := by decide +kernel

/-- A reference to `ses0`. -/
def ref0 (mask : Bool) : SessRef := { mask, partner := 0, id := 0xFFFFFFFF }

theorem witness_SessionTimersAcknowledge :
    (let x := { ses0 clsMask with unacked := 1, unackedAt := sT 100 - usT 200 };
      (kts0 [x]).sess (ref0 true).cls (ref0 true).partner (ref0 true).id = some x ∧ x.awaiting = false ∧ 0 < x.unacked ∧ x.unackedAt + usT 200 ≤ (kts0 [x]).now)
    ∧ (let x := { ses0 clsOffload with zeroAt := some (sT 100) };
      (kts0 [x]).sess (ref0 false).cls (ref0 false).partner (ref0 false).id = some x ∧ x.zeroAt = some (sT 100) ∧ sT 100 ≤ (kts0 [x]).now
      ∧ x.zeroAt.isSome = true ∧ 0 < (kts0 [x]).window x) := by decide +kernel

theorem witness_SessionTimersEndSessions :
    (let x := { ses0 clsOffload with final := some 20, closeAt := sT 100, pausedAt := some (sT 40) };
      (kts0 [x]).sess (ref0 false).cls (ref0 false).partner (ref0 false).id = some x ∧ x.awaiting = false ∧ x.final.isSome = true ∧ x.closeAt ≤ (kts0 [x]).now
      ∧ x.pausedAt = some (sT 40) ∧ sT 40 + sT 60 ≤ (kts0 [x]).now)
    ∧ (let x := { ses0 clsMask with activity := sT 40 };
      (kts0 [x]).sess (ref0 true).cls (ref0 true).partner (ref0 true).id = some x ∧ x.awaiting = false ∧ x.cls = clsMask ∧ x.activity + sT 60 ≤ (kts0 [x]).now) := by
  decide +kernel

/-! ## Management -/

/-- A HELLO for a device with the ID 0, but for its signature: key slot 3, ephemeral key and operator key both the key of scalar 1. -/
def helloHead : Bytes := zeros 8 ++ bytes [3, 0, 0, 0] ++ zeros 16 ++ pubBytes p256Gx p256Gy ++ pubBytes p256Gx p256Gy

/-- The HELLO, signed with that key. -/
def helloBody : Bytes := helloHead ++ be 64 0x742A94DE2D2FB63C71FB92387988D3735CAA511B117D4796F8369B08E735D8B46CED9FB37B661093ED43A2C772E0C1057452DCD30E05DCD75774ADE9B45A8481

/-- `net0` with that key in slot 3. -/
def hello0 : State := { net0 with boot := { phase := .running, otp := { keys := [(3, some (sha256 (pubBytes p256Gx p256Gy)))] } } }

/-- The 222 bytes pass every check of R61 on a device whose ID is 0 (the ID is a constant that nothing constrains). -/
theorem test_hello_signature : helloBody.length = 222 ∧ helloBody.take 8 = zeros 8 ∧ 3 < fieldAt 8 1 helloBody + 1
    ∧ hello0.opKeyOk (fieldAt 8 1 helloBody) (slice 93 65 helloBody) = true
    ∧ ecdsaVerify (slice 93 65 helloBody) (sha256 (helloBody.take 158)) (slice 158 64 helloBody) = true
    ∧ (parsePub (slice 28 65 helloBody)).isNone = false := by decide +kernel

/-- Management datagrams of a partner. -/
def mgmtOf (type session seq : Nat) (body : Bytes) : RxFrame := udpOf 47210 (ktBytes clsMgmt type 0 session seq body)

/-- A management session whose partner key is 32 zero bytes. -/
def msess0 : MgmtSess := { num := 0xFFFFFFFF, port := 0, ip := mapped4 0xC0000209, udp := 47210, kPD := zeros 32, kDP := zeros 32, keySlot := 3, lastSeq := 5,
                           answers := [(5, [])] }

/-- `hello0` with that session. -/
def mgmt0 : State := { hello0 with mgmt := { sess := [msess0] } }

/-- The HELLO meets the first clause's premises on every device whose ID is 0; one for another device meets the second's. -/
theorem witness_ManagementSessionsOpenAndEnd :
    (deviceIdBytes = zeros 8 →
      let r := hello0.mgmtRx (mgmtOf 1 0 0 helloBody) (fun m => m.type == 1);
      (∃ m, r.2 = some m ∧ m.body = helloBody) ∧ helloBody.length = 222 ∧ (r.1.port 0).hellos < 10
      ∧ (r.1.setPort 0 { r.1.port 0 with hellos := (r.1.port 0).hellos + 1 }).helloStatus helloBody = 0)
    ∧ (let r := hello0.mgmtRx (mgmtOf 1 0 0 (zeros 222)) (fun m => m.type == 1);
      r.2.map (·.body) = some (zeros 222) ∧ (r.1.setPort 0 { r.1.port 0 with hellos := (r.1.port 0).hellos + 1 }).helloStatus (zeros 222) ≠ 0)
    ∧ (let f := udpOf 47210 (ktBytes clsMgmt 5 0 0xFFFFFFFF 6 (be 32 0x79FB864D778DA726D0D27A623BDD545C44CB19CAF32AE23ED1FC32528683F89A));
      let r := mgmt0.mgmtRx f (fun m => m.type == 5);
      r.2.isSome = true ∧ r.1.mgmtSess 0xFFFFFFFF = some msess0 ∧ tagOk msess0.kPD f.payload = true)
    ∧ (let s := { mgmt0 with now := sT 4000 };
      s.mgmtSess 0xFFFFFFFF = some msess0 ∧ msess0.lastReq + sT (s.cfgF Reg.GLB_KT_TIMERS 16 12) ≤ s.now) := by
  refine ⟨fun h => ?_, ⟨by decide +kernel, ?_⟩, by decide +kernel⟩
  case refine_2 =>
    unfold State.helloStatus
    rw [if_pos (c := (decide (3 < fieldAt 8 1 (zeros 222)) || _) = true) (by decide +kernel)]
    split <;> decide
  refine ⟨⟨{ magic := 0x4B54, version := 1, cls := 4, type := 1, flags := 0, length := 222, session := 0, seq := 0, body := helloBody }, by decide +kernel, rfl⟩,
    by decide +kernel, by decide +kernel, ?_⟩
  have h1 : helloBody.take 8 = deviceIdBytes := by rw [h]; decide +kernel
  unfold State.helloStatus
  rw [if_neg (fun hn => hn h1), if_neg (by decide +kernel), if_neg (by decide +kernel), if_neg (by decide +kernel), if_neg (by decide +kernel)]

/-- A READ of one register as a REQUEST, with its TAG. -/
def readFrame (seq tag : Nat) : RxFrame :=
  udpOf 47210 (ktBytes clsMgmt 3 0 0xFFFFFFFF seq (be 1 1 ++ be 1 0 ++ be 2 8 ++ be 4 0x910 ++ be 2 1 ++ be 2 0 ++ be 32 tag))

/-- `mgmt0` whose session has the given number of REQUESTs unanswered. -/
def busy0 (n : Nat) : State := { hello0 with mgmt := { sess := [{ msess0 with busyAt := sT 100, busy := n }] } }

/-- The REQUEST with a new, the last and an old SEQ, of a session with 7 unanswered ones; the new one beside 8 unanswered ones. -/
theorem witness_RequestRowsPerformTheirOperation :
    (∀ q ∈ [(6, 0xBB15F0ABA5BF8C3615B1F326DAFA059B2F09271DF8F3D4B3C571DEA739415D60),
        (5, 0x500CB8912F20BDA8E833A108E7356F06D36EB33BB9595EE85DB3575A3E5805A8),
        (4, 0x27E26AE419DAB94DEFC4327AB7417F9C03C3F9A044126F3516611073F3687523)],
      let r := (busy0 7).mgmtRx (readFrame q.1 q.2) (fun m => m.type == 3 && reqKind m.body == .read);
      let x := { msess0 with busyAt := sT 100, busy := 7 };
      r.2.map (·.seq) = some q.1 ∧ r.1.mgmtSess 0xFFFFFFFF = some x ∧ tagOk x.kPD (readFrame q.1 q.2).payload = true
        ∧ x.unanswered r.1.now < 8 ∧ (x.answers.find? (fun a => a.1 == q.1)).isSome = (q.1 == 5))
    ∧ (let q := readFrame 6 0xBB15F0ABA5BF8C3615B1F326DAFA059B2F09271DF8F3D4B3C571DEA739415D60;
      let r := (busy0 8).mgmtRx q (fun m => m.type == 3 && reqKind m.body == .read);
      let x := { msess0 with busyAt := sT 100, busy := 8 };
      r.2.map (·.seq) = some 6 ∧ r.1.mgmtSess 0xFFFFFFFF = some x ∧ tagOk x.kPD q.payload = true ∧ x.lastSeq < 6 ∧ 8 ≤ x.unanswered r.1.now) := by
  decide +kernel

/-- A payload of each row's kind (R65, R66, R71), before its TAG. -/
theorem test_request_kinds : ∀ q ∈ ([(1, be 4 0 ++ be 2 1 ++ be 2 0, .read), (2, be 4 0 ++ be 2 1 ++ be 2 0 ++ be 4 7, .write), (3, bytes [1, 0, 0, 0] ++ zeros 4, .selfTest),
      (3, zeros 4, .unknown), (6, zeros 1032, .imageBlock), (4, zeros 8, .ticketRead), (5, zeros 4, .ticketRelease), (7, [], .unknown), (1, zeros 9, .unknown)]
      : List (Nat × Bytes × ReqKind)), reqKind (be 1 q.1 ++ be 1 0 ++ be 2 q.2.1.length ++ q.2.1 ++ zeros 32) = q.2.2 := by decide +kernel

theorem witness_RequestOperationsAnswer :
    (let b := be 4 0x2FFC ++ be 2 1 ++ be 2 0;
      1 ≤ fieldAt 4 2 b ∧ fieldAt 4 2 b ≤ 256 ∧ mgmt0.maintenance = false ∧ rangeValid (fieldAt 0 4 (be 4 0x80000)) 1 = true ∧ rangeValid (fieldAt 0 4 (be 4 0x80002)) 1 = false)
    ∧ (let b := be 4 0x900 ++ be 2 12 ++ be 2 0;
      1 ≤ fieldAt 4 2 b ∧ fieldAt 4 2 b ≤ 256 ∧ rangeValid (fieldAt 0 4 b) (fieldAt 4 2 b) = true)
    ∧ (let b := be 4 0xFFFFFFFC ++ be 2 2 ++ be 2 0;
      1 ≤ fieldAt 4 2 b ∧ fieldAt 4 2 b ≤ 256 ∧ rangeValid (fieldAt 0 4 b) (fieldAt 4 2 b) = false)
    ∧ (mgmt0.setRegF Reg.GLB_BOOT_STATUS 12 3 1).maintenance = true
    ∧ ({ mgmt0 with mgmt := { issued := 0xFFFFFFFE, tickets := [{ num := 1, kind := 4, params := [], started := 0 }] } } : State).nextTicket = 0xFFFFFFFF
    ∧ mgmt0.mgmt.issued + 1 < 2 ^ 32 ∧ mgmt0.mgmt.tickets = []
    ∧ mgmt0.mgmt.tickets.length < 64 ∧ calibrateAgent (fieldAt 0 1 ((bytes [2, 0, 0, 0] ++ bytes [0xA7, 0, 0, 0]).drop 4)) = true
    ∧ fieldAt 0 1 ((bytes [6, 0, 0, 0] ++ bytes [1, 0, 0, 0]).drop 4) ≤ 1
    ∧ (let t : Ticket := { num := 0xFFFFFFFF, kind := 4, params := [], started := 0, ready := true };
      let s := { mgmt0 with mgmt := { tickets := [t] } };
      let b := be 4 0xFFFFFFFF ++ zeros 4;
      s.mgmt.cancelled.contains (fieldAt 0 4 b) = false ∧ s.ticket (fieldAt 0 4 b) = some t ∧ t.ready = true)
    ∧ mgmt0.ticket (fieldAt 0 4 (zeros 8)) = none := by decide +kernel

/-! ## Registers -/

/-- Sequencer 0 at a microword, with a normal bank. -/
def seq0 (w : Nat) (q : SeqSt) : State :=
  { net0 with ctl := { seqs := [(0, q)], store := { words := tput (fun _ => 0#128) [] q.pc (BitVec.ofNat 128 w), length := 16 } } }

/-- Running in the normal bank. -/
def run0 : SeqSt := { state := .running, pc := 3 }

/-- A microword: RA, RB, RD, WE, ALU, XOP, IMM. -/
def uw (ra rb rd we alu xop imm : Nat) : Nat :=
  ra * 2 ^ 38 + rb * 2 ^ 43 + rd * 2 ^ 48 + we * 2 ^ 53 + alu * 2 ^ 54 + xop * 2 ^ 59 + imm * 2 ^ 64

theorem witness_RegisterCommandsWriteOrCount : addrValid 0x80000 = true ∧ addrValid 0x80001 = false ∧ addrValid 0xFFFFFFFC = false
    ∧ net0.power.failing = false ∧ ({ net0 with power := { failing := true } } : State).power.failing = true
    ∧ (let s := seq0 (uw 0 0 7 0 0 6 0x910) run0;
      s.ready 0 6 = some (s.uword 0) ∧ addrValid ((s.seq 0).addr (s.uword 0)) = true ∧ tget (fun _ => none) s.hold ((s.seq 0).addr (s.uword 0)) = none ∧ (s.uword 0).rd ≠ 0)
    ∧ (let s := seq0 (uw 0 0 7 0 0 7 0x80000) run0;
      s.ready 0 7 = some (s.uword 0) ∧ addrValid ((s.seq 0).addr (s.uword 0)) = true
      ∧ ((s.writeRegs (.micro 0) ((s.seq 0).addr (s.uword 0)) [((s.seq 0).r (s.uword 0).rd).setWidth 32]).seq 0).state = .running) := by decide +kernel

/-! ## Keys, fuses, test port -/

/-- An image with rollback number 9 on a device whose counter stands lower; slots 2 and 3 programmed. -/
def otp0 (busy : Option (Nat × Nat)) : State :=
  { mgmt0 with boot := { phase := .running, image := some { rollback := 9 }
                         otp := { keys := [(2, some (zeros 32)), (3, some (zeros 32))], rollback := 8, busy } } }

theorem witness_OtpCommandsRun : (otp0 none).sessionKey 0xFFFFFFFF = some 3 ∧ (otp0 none).otpRefusal 3 1 0 = 0 ∧ (otp0 none).otpRefusal 3 2 2 = 0
    ∧ (otp0 none).otpRefusal 3 3 0 = 0 ∧ (otp0 none).otpRefusal 3 1 3 = 1 ∧ (otp0 none).programmed 3 = true
    ∧ (hello0.imageRollback ≤ hello0.boot.otp.rollback ∧ hello0.boot.otp.busy = none)
    ∧ (∀ c ∈ [1, 2, 3], (otp0 (some (c, 0))).boot.otp.busy = some (c, 0) ∧ (otp0 (some (c, 0))).otpRefusal 3 1 0 = 5) := by decide +kernel

theorem witness_TestPortAndTrngTestAct : (0x30#8).toNat = 0x30 ∧ (otp0 none).unclaimed = false
    ∧ (let s := { net0 with boot := { jtag := 0x30 } };
      s.boot.jtag = 0x30 ∧ s.unclaimed = true ∧ s.boot.nporLow = false) := by decide +kernel

/-! ## Steps -/

theorem witness_StepRunsFrontCommand : ({ State.reset with pending := [.rateWindowRollover, .sweepStart] } : State).pending = .rateWindowRollover :: [.sweepStart]
    ∧ State.reset.pending = [] := by decide +kernel

/-- From reset: the tick of the empty queue, and a command, for this statement and for EmptyQueueRunsOn, EveryCommandKeepsItsFrame and
NoCommandTouchesTheQueue. -/
theorem witness_EveryStepKeepsCanonicalForm : State.reset.Canon ∧ (∃ t, step State.reset = .next t)
    ∧ (∃ t, exec (.blockLockAcquired 0) State.reset = .next t) ∧ (∃ p : Part, p ∉ footprint (.blockLockAcquired 0)) := by
  exact ⟨⟨by decide, by decide, by decide, by decide, by decide⟩, ⟨_, rfl⟩, ⟨_, rfl⟩, .now, by decide⟩

theorem witness_OnlyAbsentMemoryStops : State.reset.memPresent (2 ^ 37) = false
    ∧ exec (.memReadRequest 0 (2 ^ 37) 1 []) State.reset = .fault (.absentMemory (2 ^ 37)) := by
  have h : State.reset.memPresent (2 ^ 37) = false := by decide +kernel
  refine ⟨h, ?_⟩
  simp only [exec, execMemReadRequest, h]
  rfl

theorem witness_RegisterZeroReadsZero : (SeqSt.inFast { state := .fast } = true) ∧ (SeqSt.inFast { state := .running } = false) := by decide

/-! ## Counters -/

theorem witness_CountersSaturateAndClear : State.reset.Canon ∧ (1#32).getLsbD 0 = true ∧ (2#32).getLsbD 0 = false
    ∧ (let s := ({ State.reset with regs := regsOf [(Reg.PRT_RX_FRAMES 3, 0xFFFFFFFF), (Reg.PRT_RX_FRAMES 3 + 4, 0xFFFFFFFF)] } : State);
      s.pair (Reg.PRT_RX_FRAMES 3) = 0xFFFFFFFFFFFFFFFF ∧ (s.bump (Reg.PRT_RX_FRAMES 3)).pair (Reg.PRT_RX_FRAMES 3) = 0xFFFFFFFFFFFFFFFF) :=
  ⟨⟨by decide, by decide, by decide, by decide, by decide⟩, by decide +kernel⟩

/-! ## Sequencers -/

theorem witness_MicrowordsComputeAndGoOn :
    (let s := seq0 (uw 1 2 3 1 0 0 0) run0;
      s.ready 0 (s.uword 0).xop = some (s.uword 0) ∧ (s.uword 0).xop = 0 ∧ (s.uword 0).alu = 0)
    ∧ (let s := seq0 (uw 1 2 31 1 2 0 0) { run0 with bankN := [(1, 0xFFFFFFFFFFFFFFFF), (2, 1)] };
      s.ready 0 (s.uword 0).xop = some (s.uword 0) ∧ (s.uword 0).xop = 0 ∧ (s.uword 0).alu = 2 ∧ (alu 2 ((s.seq 0).r 1) ((s.seq 0).opB (s.uword 0))).val = some 0#64
      ∧ (alu 2 ((s.seq 0).r 1) ((s.seq 0).opB (s.uword 0))).carry = some true ∧ (alu 2 ((s.seq 0).r 1) ((s.seq 0).opB (s.uword 0))).ovf = some false)
    ∧ (let s := seq0 (uw 1 2 31 1 9 0 0) { run0 with bankN := [(2, 64)] };
      s.ready 0 (s.uword 0).xop = some (s.uword 0) ∧ (s.uword 0).xop = 0 ∧ (alu 9 ((s.seq 0).r 1) ((s.seq 0).opB (s.uword 0))).val = none)
    ∧ (let s := seq0 (uw 1 2 31 1 1 0 0) run0;
      s.ready 0 (s.uword 0).xop = some (s.uword 0) ∧ (s.uword 0).xop = 0 ∧ (s.uword 0).alu = 1 ∧ (alu 1 ((s.seq 0).r 1) ((s.seq 0).opB (s.uword 0))).val = some 0#64)
    ∧ (let s := seq0 (uw 1 2 3 1 0 3 0) run0;
      s.ready 0 (s.uword 0).xop = some (s.uword 0) ∧ (s.uword 0).xop ≠ 0) := by decide +kernel

/-- A sequencer with pending events. -/
def seqEv (w : Nat) (q : SeqSt) (es : List PendEv) : State :=
  let s := seq0 w q;
  { s with ctl := { s.ctl with events := es }, eff := cfg0With [(Reg.INT_SRC_CFG 5, 0x37FF), (Reg.INT_SRC_CFG 6, 0x22FF)] }

/-- Event 6, with PRIO 2, offered to sequencer 0; event 5 is a fast one with PRIO 7. -/
def ev6 : PendEv := { ev := 6, raised := 0, held := false, offered := some 0 }
def ev5 : PendEv := { ev := 5, raised := 0, held := false, offered := some 0 }

theorem witness_SequencersTakeEvents :
    (let s := seqEv (uw 0 0 0 0 0 1 0) run0 [ev6];
      s.ready 0 1 = some (s.uword 0) ∧ (s.seq 0).state = .running ∧ s.fetchable 0 = some ev6)
    ∧ (let s := seqEv (uw 0 0 0 0 0 1 0) { run0 with state := .idle } [ev6];
      (s.seq 0).state = .idle ∧ s.fastDue 0 = none ∧ s.fetchable 0 = some ev6)
    ∧ (let s := seqEv (uw 0 0 0 0 0 1 0) run0 [];
      s.ready 0 1 = some (s.uword 0) ∧ s.fetchable 0 = none ∧ (s.seq 0).state = .running)
    ∧ (∀ x ∈ [1, 2], let s := seqEv (uw 0 0 0 0 0 x 0) { run0 with state := .fast } []
      s.ready 0 x = some (s.uword 0) ∧ (s.seq 0).state = .fast)
    ∧ (let s := seqEv (uw 0 0 0 0 0 2 0) run0 [];
      s.ready 0 2 = some (s.uword 0) ∧ (s.seq 0).state = .running
      ∧ s.ctl.events.filter (fun x => (s.setSeq 0 { s.seq 0 with state := .idle, item := none }).eligible 0 x.ev) = [])
    ∧ (let s := seqEv (uw 0 0 0 0 0 2 0) run0 [{ ev6 with offered := none }];
      s.ready 0 2 = some (s.uword 0) ∧ s.ctl.events.filter (fun x => (s.setSeq 0 { s.seq 0 with state := .idle, item := none }).eligible 0 x.ev) ≠ [])
    ∧ (let s := seqEv 0 { run0 with state := .sleeping } [ev6];
      (s.seq 0).state = .sleeping ∧ s.ctl.events.any (fun x => x.offered == some (0 : Fin 8).val) = true)
    ∧ (seqEv 0 { run0 with cp := 6 } [ev5]).fastDue 0 = some ev5
    ∧ (∀ st ∈ [SeqState.fast, SeqState.running], let s := seqEv (uw 0 0 0 0 0 3 0) { run0 with state := st } []
      s.ready 0 3 = some (s.uword 0) ∧ (s.seq 0).state = st) := by decide +kernel

theorem witness_ExternalOperationsComplete :
    (∀ x ∈ [9, 10, 11, 12, 13], (seq0 (uw 0 0 29 0 0 x 7) run0).ready 0 x = some ((seq0 (uw 0 0 29 0 0 x 7) run0).uword 0))
    ∧ (let s := seq0 (uw 0 0 29 0 0 9 0) { run0 with queue := [default] };
      s.ready 0 9 = some (s.uword 0) ∧ (s.seq 0).queue = default :: [])
    ∧ net0.evEn (92 + 7 % 8) = true := by decide +kernel

/-- A sequencer whose r1 holds an address. -/
def seqAt (x a : Nat) : State := seq0 (uw 1 0 2 0 0 x 0) { run0 with bankN := [(1, BitVec.ofNat 64 a), (2, 0x0102030405060708)] }

/-- `seqAt` with port 0's devices: the last eight bytes of packet memory, a line of DRAM, an address across two lines, and one that no agent may access. -/
theorem witness_LoadAndStoreMoveEightBytes :
    (∀ x ∈ [4, 5], (let s := seqAt x 0x8000FFFFF8
        s.ready 0 x = some (s.uword 0) ∧ (s.seq 0).addr (s.uword 0) = 0x8000FFFFF8 ∧ (∀ k, k < 8 → isPm (0x8000FFFFF8 + k) = true)
        ∧ (∀ k, k < 8 → tget (fun _ => false) s.mem.badBytes (0x8000FFFFF8 + k) = false) ∧ (∀ k, k < 8 → s.addrOk (x == 5) (0x8000FFFFF8 + k) = true)
        ∧ s.portStalls 0x8000FFFFF8 = false ∧ 0x8000FFFFF8 % 128 ≤ 120)
      ∧ (let s := seqAt x 0x8000FFFFF9;
        s.ready 0 x = some (s.uword 0) ∧ (s.seq 0).addr (s.uword 0) = 0x8000FFFFF9 ∧ s.addrOk (x == 5) (0x8000FFFFF9 + 7) = false))
    ∧ (let s := seqAt 4 0x8000000078;
      (s.busRead (agGs 0) 0x8000000078 8 []).1 = some (zeros 8))
    ∧ (let s := { seqAt 4 0x8000000078 with mem := { badBytes := [(0x8000000078, true)] } };
      (s.busRead (agGs 0) 0x8000000078 8 []).1 = none ∧ (∀ k, k < 8 → s.addrOk false (0x8000000078 + k) = true) ∧ s.portStalls 0x8000000078 = false)
    ∧ (let s := seqAt 4 0x8000000079;
      120 < 0x8000000079 % 128 ∧ (s.busRead (agGs 0) 0x8000000079 7 []).1 = some (zeros 7)
      ∧ ((s.busRead (agGs 0) 0x8000000079 7 []).2.busRead (agGs 0) 0x8000000080 1 []).1 = some (zeros 1)) := by decide +kernel

/-- A record that DC00 holds. -/
def rec0 : HeldRec := { rcd := default, dest := 0, raised := 0, rounds := 0 }

theorem witness_CollectorAndModerationRelease :
    (let s := { net0 with ctl := { events := [{ ev6 with held := true, offered := none, raised := sT 100 - usT 5 }] }
                          eff := cfg0With [(Reg.INT_SRC_CFG 6, 0x22FF + 63 * 2 ^ 14), (Reg.INT_GRP_CFG 63, 5 + 2 * 2 ^ 10)] };
      minNat? ((s.heldOf 63).map (·.raised)) = some (sT 100 - usT 5) ∧ (sT 100 - usT 5) + usT (s.cfgF (Reg.INT_GRP_CFG 63) 0 10) ≤ s.now)
    ∧ ({ net0 with ctl := { held := [(0x40, some rec0)] } } : State).heldRecords ≠ [] ∧ net0.heldRecords = [] := by decide +kernel

/-! ## Felt pools -/

/-- Pool 6 with two buffers, the pool's state given. -/
def felt0 (p : Pool) : State :=
  { net0 with eff := cfg0With [(Reg.FP_COUNT 6, 2), (Reg.FP_CFG 6, 6)], regs := regsOf [(Reg.PRT_STATUS 0, 3), (Reg.FP_FREE 6, 1)], pools := [(6, p)] }

/-- Its second buffer. -/
def h1 : Nat := handleOf 6 1

/-- A sequencer that runs XOP FELT with r1 and r2, on `felt0`. -/
def seqFelt (sel r1 r2 : Nat) (p : Pool) : State :=
  { felt0 p with ctl := (seq0 (uw 1 2 3 0 0 8 sel) { run0 with bankN := [(1, BitVec.ofNat 64 r1), (2, BitVec.ofNat 64 r2)] }).ctl }

theorem witness_FeltOperationsMoveOwnership :
    (let s := felt0 { fresh := 1, owner := [(0, 0xA3)] };
      s.feltAlone = true ∧ s.frozen 255 = false ∧ s.poolCount 6 ≤ 2 ^ 21 ∧ (s.pool 6).fresh < s.poolCount 6)
    ∧ (let s := felt0 { fresh := 2, owner := [(0, 0xA3)], freed := [1] };
      s.feltAlone = true ∧ s.frozen 255 = false ∧ s.poolCount 6 ≤ (s.pool 6).fresh ∧ (s.pool 6).freed = 1 :: [])
    ∧ (let s := felt0 { fresh := 2, owner := [(0, 0xA3), (1, 0xA3)] };
      s.feltAlone = true ∧ s.frozen 255 = false ∧ s.poolCount 6 ≤ (s.pool 6).fresh ∧ (s.pool 6).freed = [] ∧ s.cfgBit (Reg.FP_CFG 6) 3 = false)
    ∧ (let s := seqFelt 0 6 0 { fresh := 1, owner := [(0, 0xA3)] };
      s.feltAlone = true ∧ s.frozen (agGs 0) = false ∧ s.feltReady 0 0 = some (s.uword 0) ∧ ((s.seq 0).r (s.uword 0).ra).toNat < 8)
    ∧ (let s := felt0 { fresh := 2, owner := [(1, 0x100)] };
      s.feltAlone = true ∧ s.frozen 255 = false ∧ s.badHandle h1 = false ∧ s.ownerOf h1 = some (255 : Fin 256).val)
    ∧ (∀ sel ∈ [1, 2], let s := seqFelt sel h1 0xB3 { fresh := 2, owner := [(1, 0xA1)] };
      s.feltAlone = true ∧ s.frozen (agGs 0) = false ∧ s.feltReady 0 sel = some (s.uword 0) ∧ ((s.seq 0).r (s.uword 0).ra).toNat % 2 ^ 32 = h1
      ∧ s.badHandle h1 = false ∧ s.ownerOf h1 = some (agGs 0) ∧ agentReserved (((s.seq 0).r (s.uword 0).rb).toNat % 256) = true)
    ∧ ({ felt0 {} with pending := [.free (.agent 255 h1 0)] } : State).pending.any isFelt = true
    ∧ (let s := { felt0 {} with mem := { felts := [.alloc (.agent 1 6 0)] } };
      s.pending.any isFelt = false ∧ feltAgent (.agent 255 h1 0) < 256 ∧ feltAgent (.xop 0) < 256 ∧ s.mem.felts = [.alloc (.agent 1 6 0)])
    ∧ (let s := { felt0 {} with regs := regsOf [(Reg.FLT_FROZEN 7, 2 ^ 31)] };
      s.feltAlone = true ∧ s.frozen 255 = true) := by decide +kernel

theorem witness_DoubleFreeIsIgnoredAndRaised :
    ∀ sel ∈ [1, 2], let s := seqFelt sel h1 0 { fresh := 2, freed := [1] };
      s.badHandle h1 = false ∧ s.ownerOf h1 = none ∧ h1 < 2 ^ 32 ∧ s.frozen (feltAgent (.xop 0)) = false ∧ s.frozen (feltAgent (.agent 255 h1 0)) = false
      ∧ s.feltAlone = true ∧ s.feltReady 0 sel = some (s.uword 0) ∧ ((s.seq 0).r (s.uword 0).ra).toNat % 2 ^ 32 = h1 := by decide +kernel

/-! ## DMA -/

/-- Channel 63 with its active set moving 8 bytes within packet memory; CNT_Z as given. -/
def dma0 (c : DmaCh) (z : Nat) (prog : Nat) : State :=
  { net0 with dma := [(63, c)]
              regs := regsOf [(Reg.PRT_STATUS 0, 3), (Reg.DMA_ACT_SRC_HI 63, 0x80), (Reg.DMA_ACT_DST_HI 63, 0x80), (Reg.DMA_ACT_DST_LO 63, 0x1000),
                (Reg.DMA_ACT_CNT_XY 63, 7), (Reg.DMA_ACT_CNT_Z 63, z), (Reg.DMA_ACT_STEPS 63 0, 1), (Reg.DMA_ACT_STEPS 63 3, 1), (Reg.DMA_PROG_HI 63, 0x80),
                (Reg.DMA_GO 63, prog)] }

theorem witness_DmaControlActs :
    (∀ act ∈ [true, false], let s := dma0 { active := act } 0 0;
      s.frozen (agDma 63) = false ∧ (s.dmaCh 63).stopped = false ∧ s.power.failing = false ∧ (s.dmaCh 63).active = act ∧ (s.dmaCh 63).prog = none)
    ∧ (let s := dma0 { stopped := true } 0 0;
      s.frozen (agDma 63) = false ∧ (s.dmaCh 63).stopped = true)
    ∧ ({ dma0 {} 0 0 with power := { failing := true } } : State).power.failing = true := by decide +kernel

theorem witness_DmaBurstsMoveBytes :
    (let s := dma0 { active := true } (2 ^ 17 + 108 * 2 ^ 18) 0;
      (s.dmaCh 63).active = true ∧ (s.dmaCh 63).stopped = false ∧ s.frozen (agDma 63) = false ∧ s.regBit (Reg.DMA_ACT_CNT_Z 63) 17 = true
      ∧ s.lineUp (s.regF (Reg.DMA_ACT_CNT_Z 63) 18 7) false = false)
    ∧ (let s := dma0 { active := true } (2 ^ 17 + 107 * 2 ^ 18) 0;
      s.regBit (Reg.DMA_ACT_CNT_Z 63) 17 = true ∧ s.lineUp (s.regF (Reg.DMA_ACT_CNT_Z 63) 18 7) true = true)
    ∧ (let s := (dma0 { active := true } 0 0).setReg (Reg.DMA_ACT_DST_LO 63) 0x1000000#32;
      let t := (s.xferAt (Reg.DMA_ACT_SRC_LO 63)).run;
      s.regBit (Reg.DMA_ACT_CNT_Z 63) 17 = false ∧ (∃ k, k < t.burst 0 ∧ s.addrOk true (t.at k).2 = false))
    ∧ (let s := dma0 { active := true } 0 0;
      let t := (s.xferAt (Reg.DMA_ACT_SRC_LO 63)).run;
      t.burst 0 = 8 ∧ ∀ k, k < 8 → t.at k = (0x8000000000 + k, 0x8000001000 + k) ∧ isPm (0x8000000000 + k) = true ∧ isPm (0x8000001000 + k) = true
        ∧ tget (fun _ => false) s.mem.badBytes (0x8000000000 + k) = false) := by decide +kernel

/-- The transfer of `dma0`, with and without IRQ_EN: one burst is its last. -/
theorem witness_TransferCompletionRaisesTheEvent :
    ∀ z ∈ [0, 2 ^ 16], let s := dma0 { active := true } z 0;
      let t := (s.xferAt (Reg.DMA_ACT_SRC_LO 63)).run;
      let srcs := (List.range (t.burst (s.dmaCh 63).moved)).map (fun k => (k, (t.at ((s.dmaCh 63).moved + k)).1));
      (∀ q ∈ srcs, s.addrOk false q.2 = true)
      ∧ (∀ q ∈ (List.range (t.burst (s.dmaCh 63).moved)).map (fun k => (k, (t.at ((s.dmaCh 63).moved + k)).2)), s.addrOk true q.2 = true)
      ∧ t.x * t.y * t.z ≤ (s.dmaCh 63).moved + t.burst (s.dmaCh 63).moved
      ∧ (State.burstRead [] 63 (groupAcc t.single srcs) s).2.1 = none ∧ s.regBit (Reg.DMA_ACT_CNT_Z 63) 16 = (z == 2 ^ 16) ∧ s.evEn 63 = true := by decide +kernel

/-- A program at an instruction. -/
def dprog (w : Nat) (from_ : Option Nat) : DmaProg := { pc := 0x8000000000, fetched := [.word w, .word 0, .word 0, .word 0, .word 0], waitFrom := from_ }

/-- Opcode and low bits of an instruction. -/
def dw (op low : Nat) : Nat := op * 2 ^ 60 + low

theorem witness_DmaProgramsRunTheirInstructions :
    (∀ op ∈ [1, 2, 4, 5, 6], ∀ sh ∈ [true, false], let p := dprog (dw op 0) none;
      (dma0 { prog := some p, shadow := sh } 0 0).dmaInstr 63 op = .run p (dw op 0) ∧ (dma0 { prog := some p, shadow := sh } 0 0).dmaIdle 63 = !sh)
    ∧ (let s := dma0 { prog := some (dprog (dw 1 0x9000000000) none) } 0 0;
      s.dmaInstr 63 1 = .run (dprog (dw 1 0x9000000000) none) (dw 1 0x9000000000) ∧ s.addrOk false (dw 1 0x9000000000 % 2 ^ 40) = false)
    ∧ (let s := dma0 { prog := some (dprog (dw 1 0x8000000000) none) } 0 0;
      s.dmaInstr 63 1 = .run (dprog (dw 1 0x8000000000) none) (dw 1 0x8000000000) ∧ s.addrOk false (dw 1 0x8000000000 % 2 ^ 40) = true
      ∧ (s.busRead 63 (dw 1 0x8000000000 % 2 ^ 40) 64 []).1 = some (zeros 64))
    ∧ (let w := dw 3 (2 * 2 ^ 32 + 1 * 2 ^ 16);
      (dma0 { prog := some (dprog w none) } 0 1).dmaInstr 63 3 = .run (dprog w none) w ∧ (dma0 { prog := some (dprog w none) } 0 1).waitHolds 63 w false = true
      ∧ w / 2 ^ 32 % 16 = 2 ∧ (dma0 { prog := some (dprog w (some (sT 100 - usT 100))) } 0 0).dmaInstr 63 3 = .run (dprog w (some (sT 100 - usT 100))) w
      ∧ (dma0 { prog := some (dprog w none) } 0 0).waitHolds 63 w false = false ∧ (sT 100 - usT 100) + usT (100 * (w / 2 ^ 16 % 2 ^ 16)) ≤ net0.now)
    ∧ (let w := dw 3 (1 * 2 ^ 16);
      (dma0 { prog := some (dprog w none) } 0 0).dmaInstr 63 3 = .run (dprog w none) w ∧ (dma0 { prog := some (dprog w none) } 0 0).waitHolds 63 w false = true
      ∧ w / 2 ^ 32 % 16 ≠ 2)
    ∧ (let w := dw 4 (2 ^ 16 + 5);
      (dma0 { prog := some (dprog w none), active := true } 0 0).dmaInstr 63 4 = .run (dprog w none) w ∧ w / 2 ^ 16 % 2 = 1
      ∧ (dma0 { prog := some (dprog w none), active := true } 0 0).dmaIdle 63 = false)
    ∧ (dma0 { prog := some { dprog 0 none with fetched := [.err 2] } } 0 0).dmaInstr 63 1 = .err 2
    ∧ (let q := dprog (dw 3 (1 * 2 ^ 16)) (some (sT 100 - usT 100)); let s := dma0 { prog := some q, active := true } 0 0;
      s.dmaInstr 63 3 = .run q (dw 3 (1 * 2 ^ 16)) ∧ s.waitHolds 63 (dw 3 (1 * 2 ^ 16)) false = false ∧ dw 3 (1 * 2 ^ 16) / 2 ^ 32 % 16 = 0)
    ∧ (let q := dprog (dw 3 (2 * 2 ^ 32 + 1 * 2 ^ 16)) (some (sT 100 - usT 100)); let s := dma0 { prog := some q, active := true } 0 0;
      s.dmaInstr 63 3 = .run q (dw 3 (2 * 2 ^ 32 + 1 * 2 ^ 16)) ∧ s.waitHolds 63 (dw 3 (2 * 2 ^ 32 + 1 * 2 ^ 16)) false = false ∧ s.dmaIdle 63 = false)
    ∧ (let s := dma0 { prog := some { dprog 0 none with fetched := [.err 2] }, active := true } 0 0;
      s.dmaInstr 63 1 = .err 2 ∧ s.dmaIdle 63 = false)
    ∧ (dma0 { prog := some (dprog 0 none) } 0 0).dmaInstr 63 6 = .err 3 := by decide +kernel

theorem witness_DmaErrorsStopTheChannel : 7 < 8 ∧ (2 ^ 40 - 1 : Nat) < 2 ^ 40 := by decide

/-! ## Memory ports -/

theorem witness_SingleSymbolErrorsAreCorrected : (zeros 8).length = 8 ∧ 9 < 10 ∧ 0xFF#8 ≠ 0#8
    ∧ rsDecode ((rsEncode (zeros 8)).modify 9 (· ^^^ 0xFF#8)) = .good (zeros 8) 1 := by decide +kernel

/-- Every port in a state; the second chunk filled, one line of it marked, and queued writes on port 0. -/
def mem0 (st : Nat) (x : MemPort) : State :=
  { net0 with regs := regsOf ((Reg.PRT_STATUS 0, 3) :: (List.range 8).map (fun p => (Reg.MEM_STATUS p, st)))
              mem := { filled := [(1, true)], poison := [(8193, true)], ports := [(0, x)] } }

/-- A's port under the reset masks. -/
theorem witness_MemoryReadsAnswerTheLine :
    (let s := mem0 1 {};
      s.memPresent 0x100000 = true ∧ isDram 0x100000 = true ∧ s.memState (s.memPortOf 0x100000) ≠ 2)
    ∧ (let s := mem0 2 {};
      s.frozen 9 = false ∧ ({ s with regs := tput regReset s.regs (Reg.FLT_FROZEN 0) 512#32 } : State).frozen 9 = true)
    ∧ (let s := { mem0 2 {} with pending := [.memReadRequest 9 0x100000 1 []] };
      s.memState (s.memPortOf 0x100000) = 2 ∧ s.pending.any (s.isReqTo (s.memPortOf 0x100000)) = true)
    ∧ (let s := mem0 2 {};
      s.memPresent 0xFFFFF = true ∧ s.memState (s.memPortOf 0xFFFFF) = 2 ∧ 0xFFFFF < 2 ^ 20
      ∧ (∀ a ∈ [0xFFFFF, 0x100000, 0x1000FF], s.pending.any (s.isReqTo (s.memPortOf a)) = false ∧ (s.memPort (s.memPortOf a)).arrivals = [])
      ∧ s.memPresent 0x100000 = true ∧ s.memState (s.memPortOf 0x100000) = 2 ∧ 2 ^ 20 ≤ 0x100000
      ∧ tget (fun _ => false) s.mem.filled (0x100000 / 2 ^ 20) = true ∧ s.queuedWrite (s.memPortOf 0x100000) (0x100000 / 128) = false ∧ 0x100000 % 128 + 128 ≤ 128
      ∧ s.lineMarked 0x100000 = false ∧ s.lineMarked 0x1000FF = true ∧ s.queuedWrite (s.memPortOf 0x1000FF) (0x1000FF / 128) = false ∧ 0x1000FF % 128 + 1 ≤ 128
      ∧ isDram (2 ^ 37 - 1) = true ∧ s.memPresent (s.memMib * 2 ^ 20) = false) := by decide +kernel

theorem witness_MemoryWritesStoreTheEnabledBytes :
    let s := mem0 2 {};
    s.memPresent 0x100000 = true ∧ isDram 0x100000 = true ∧ s.memState (s.memPortOf 0x100000) = 2 ∧ 2 ^ 20 ≤ 0x100000
    ∧ s.frozen 9 = false ∧ ({ s with regs := tput regReset s.regs (Reg.FLT_FROZEN 0) 512#32 } : State).frozen 9 = true
    ∧ (∀ a ∈ [0xFFF80, 0x100000], s.pending.any (s.isReqTo (s.memPortOf a)) = false ∧ (s.memPort (s.memPortOf a)).arrivals = [])
    ∧ (let t := { s with pending := [.memWriteRequest 9 0x100000 0 [] false []] };
      t.pending.any (t.isReqTo (t.memPortOf 0x100000)) = true ∧ t.memState (t.memPortOf 0x100000) = 2)
    ∧ tget (fun _ => false) s.mem.filled (0x100000 / 2 ^ 20) = true ∧ s.queuedWrite (s.memPortOf 0x100000) (0x100000 / 128) = false
    ∧ s.lineMarked 0x100000 = false ∧ 1#128 ≠ BitVec.allOnes 128 ∧ (mem0 3 {}).memState ((mem0 3 {}).memPortOf 0x100000) ≠ 2
    ∧ s.memState (s.memPortOf 0xFFF80) = 2 ∧ 0xFFF80 < 2 ^ 20 := by decide +kernel

theorem witness_PortTimersAct :
    (let s := mem0 2 { wq := [{ line := 8194, at_ := sT 100 - usT 20, agent := 0 }], lastRefresh := sT 99, refresh := sT 1, lastReport := sT 100 - msT 16, lastScrub := 0 };
      (s.memPort 0).wq = { line := 8194, at_ := sT 100 - usT 20, agent := 0 } :: [] ∧ (sT 100 - usT 20) + usT 20 ≤ s.now
      ∧ (s.memPort 0).lastRefresh + (s.memPort 0).refresh ≤ s.now ∧ (s.memPort 0).lastReport + msT 16 ≤ s.now ∧ s.memState 0 = 2 ∧ s.nightOn = false
      ∧ s.cfgF Reg.GLB_MEM_SCRUB 0 8 ≠ 0 ∧ (s.memPort 0).lastScrub + s.patrolGap ≤ s.now ∧ s.patrolLine 0 = some 8194
      ∧ ((s.setMemPort 0 { s.memPort 0 with scrub := 8195, lastScrub := s.now }).fillChunk (8194 * 128 / 2 ^ 20)).queuedWrite 0 8194 = true)
    ∧ (let s := mem0 2 { scrub := 8195 };
      s.patrolLine 0 = some 8195
      ∧ ((s.setMemPort 0 { s.memPort 0 with scrub := 8196, lastScrub := s.now }).fillChunk (8195 * 128 / 2 ^ 20)).queuedWrite 0 8195 = false)
    ∧ (∀ st ∈ [2, 3], let s := { mem0 st {} with now := sT 4000 };
      (s.memPort 0).lastProbe + sT (s.cfgF Reg.GLB_MEM_PROBE 0 12) ≤ s.now ∧ s.memState 0 = st ∧ s.nightOn = false
        ∧ (s.setRegF Reg.GLB_MEM_NIGHT 16 2 1).nightOn = true)
    ∧ (let s := mem0 2 {};
      s.memPresent 0x100000 = true ∧ 2 ^ 20 ≤ 0x100000 ∧ s.memState (s.memPortOf 0x100000) = 2 ∧ s.queuedWrite (s.memPortOf 0x100000) (0x100000 / 128) = false) := by
  decide +kernel

/-- The first chunk that is not filled. -/
theorem witness_PortTimersAct_fill : (mem0 2 {}).Canon ∧ (∀ k ∈ (mem0 2 {}).memPortList, (mem0 2 {}).memState k = 2)
    ∧ ((List.range (mem0 2 {}).memChunks).map (· + 1)).find? (fun c => !tget (fun _ => false) (mem0 2 {}).mem.filled c) = some 2 :=
  ⟨⟨by decide +kernel, by decide +kernel, by decide +kernel, by decide +kernel, by decide +kernel⟩, by decide +kernel, by decide +kernel⟩

/-- Night retention in a state, with a segment kept. -/
def night0 (st : Nat) : State :=
  { net0 with regs := regsOf [(Reg.GLB_MEM_NIGHT, st * 2 ^ 16), (Reg.MEM_STATUS 0, 3)], mem := { keep := 1, filled := [(1, true)] } }

theorem witness_NightRetentionMovesThroughItsStates :
    ((night0 0).regF Reg.GLB_MEM_NIGHT 16 2 = 0 ∧ (night0 0).codingIdle = true ∧ (night0 0).net.sess = [] ∧ (night0 0).dmaInDram = false)
    ∧ (let s := { night0 0 with stills := [default] };
      s.regF Reg.GLB_MEM_NIGHT 16 2 = 0 ∧ s.codingIdle = false)
    ∧ (night0 1).regF Reg.GLB_MEM_NIGHT 16 2 = 1 ∧ (night0 2).regF Reg.GLB_MEM_NIGHT 16 2 = 2
    ∧ ((night0 3).Canon ∧ (night0 3).regF Reg.GLB_MEM_NIGHT 16 2 = 3 ∧ (night0 3).memState 0 = 3 ∧ (night0 3).chunkLost 1 = false ∧ (night0 3).chunkLost 0xFFFF = true) :=
  ⟨by decide +kernel, by decide +kernel, by decide +kernel, by decide +kernel,
    ⟨by decide +kernel, by decide +kernel, by decide +kernel, by decide +kernel, by decide +kernel⟩, by decide +kernel⟩

/-! ## Faults and safe state -/

/-- An agent frozen by a source, the source latched or not. -/
def frz0 (a src latched : Nat) : State :=
  { net0 with regs := regsOf [(Reg.FLT_FROZEN (a / 32), 2 ^ (a % 32)), (Reg.FLT_STATUS (src / 32), latched * 2 ^ (src % 32))]
              faults := { frozenBy := [(a, src + 1)] } }

theorem witness_FrozenChannelStopsUntilClear : (frz0 63 157 0).frozen 63 = true ∧ tget (fun _ => 0) (frz0 63 157 0).faults.frozenBy 63 = 157 + 1
    ∧ (frz0 63 157 0).latched 157 = false := by decide +kernel

theorem witness_FaultStateFollowsItsCauses : (frz0 63 157 0).power.safe = false ∧ (frz0 63 157 0).fltState = 1 ∧ net0.power.safe = false ∧ net0.fltState = 0
    ∧ net0.power.failing = false ∧ net0.maintenance = false := by decide +kernel

theorem witness_ReportedSourcesLatchAndFreezeNothing : net0.sevSoon 173 ≤ 1 ∧ 1 ≤ net0.sevSoon 173 ∧ net0.evEn (256 + 173) = true
    ∧ ({ net0 with power := { safe := true } } : State).power.safe = true := by decide +kernel

theorem witness_DetectionsRaiseTheirSource :
    (let s := { net0 with units := [(0x9F, { job := some (.compose 0), since := sT 100 - usT 20 })] };
      s.raisesAlone = true ∧ 0x40 ≤ (0x9F : Fin 256).val ∧ (0x9F : Fin 256).val < 0xA0 ∧ (s.unit 0x9F).job.isSome = true ∧ (s.unit 0x9F).since + usT 20 ≤ s.now ∧ s.frozen 0x9F = false)
    ∧ (seq0 0 run0).raisesAlone = true ∧ ((seq0 0 run0).seq 0).state = .running ∧ checkSource (255 : Fin 256) = true ∧ checkSource (103 : Fin 256) = true ∧ (frz0 0xB1 149 1).frozen 0xB1 = true
    ∧ net0.regBit Reg.CAL_TEMP 12 = false ∧ (net0.setRegBit Reg.CAL_TEMP 12 true).regBit Reg.CAL_TEMP 12 = true
    ∧ ({ net0 with pending := [.fltForce 1] } : State).pending.any isRaise = true
    ∧ (let s := { net0 with faults := { arrived := [{ src := 1 }] } };
      s.pending.any isRaise = false ∧ s.faults.arrived = [{ src := 1 }]) := by decide +kernel

/-- A temperature above either grade's limit, and one 3 degrees below both. -/
theorem witness_DetectionsRaiseTheirSource_limit : tempLimit < 106 ∧ (97 : Int) ≤ tempLimit - 3 := by
  unfold tempLimit; split <;> decide

theorem witness_CollectorWritesAct :
    (net0.raisesAlone = true ∧ 0x0F0E#16 ≠ 0x0F0F#16 ∧ net0.frozen (0xFF#8).toNat = false)
    ∧ (tget (fun _ => 0) (frz0 0xB1 149 1).faults.frozenBy (0xB1#8).toNat = 149 + 1 ∧ (frz0 0xB1 149 1).latched 149 = true)
    ∧ ((frz0 0xB1 149 0).frozen (0xB1#8).toNat = true ∧ tget (fun _ => 0) (frz0 0xB1 149 0).faults.frozenBy (0xB1#8).toNat = 149 + 1
      ∧ (frz0 0xB1 149 0).latched 149 = false)
    ∧ ({ net0 with regs := regsOf [(Reg.ISA_STATUS, 3)], power := { safe := true, phase := .done } } : State).safeExitDue = true
    ∧ ({ net0 with faults := { rose := (net0.now, [5]) } } : State).rose.contains (32 * (0 : Fin 8).val + 5) = true
    ∧ net0.safeExitDue = false := by decide +kernel

/-! ## Power fail, reset, boot -/

theorem witness_PowerFailSequenceRuns :
    (net0.failCause true 0 ≠ 0 ∧ net0.power.failing = false ∧ net0.boot.phase ≠ .off ∧ net0.failCause false (net0.vinThr) = 0 ∧ net0.failCause false (net0.vinThr - 1) = 2)
    ∧ (let s := { net0 with power := { phase := .signing }, seals := { se1 := some .manifest } };
      s.power.phase = .signing ∧ s.seals.se1 = some .manifest)
    ∧ (let s := { net0 with power := { phase := .writing, parts := [(0, zeros 4)] } };
      s.power.phase = .writing ∧ s.power.resetAfter = false ∧ s.power.parts.length ≤ 1)
    ∧ (let s := { net0 with power := { failing := true, phase := .done, goodSince := some (sT 100 - msT 100) } };
      s.powerGood = true ∧ s.power.failing = true ∧ s.power.phase = .done ∧ s.boot.nporLow = false
      ∧ ({ s with boot := { s.boot with nporLow := true } } : State).powerGood = true)
    ∧ net0.power.phase ≠ .writing ∧ 2299 < 2300
    ∧ (let s := { State.reset with now := msT 100, power := { goodSince := some 0 } };
      s.powerGood = true ∧ s.power.failing = false ∧ s.boot.phase = .off ∧ s.boot.nporLow = false) := by decide +kernel

theorem witness_ResetsKeepWhatIsNotVolatile :
    State.reset.boot.phase = .off
    ∧ (let s := { net0 with power := { safe := true, phase := .done } };
      s.boot.phase ≠ .off ∧ s.power.failing = false ∧ s.failsNow = false ∧ s.power.safe = true ∧ s.power.phase = .done ∧ s.maintenance = false)
    ∧ (net0.boot.phase ≠ .off ∧ net0.power.failing = false ∧ net0.failsNow = false ∧ net0.power.safe = false ∧ net0.epoch = 0)
    ∧ (let s := net0.setReg Reg.GLB_EPOCH 12#32;
      s.boot.phase ≠ .off ∧ s.power.failing = false ∧ s.failsNow = false ∧ s.power.safe = false ∧ s.maintenance = false ∧ s.epoch ≠ 0)
    ∧ (let s := { net0 with pending := [.powerFailDetect true 0 false] };
      s.boot.phase ≠ .off ∧ s.power.phase ≠ .done ∧ s.failsNow = true)
    ∧ (let s := { net0 with power := { failing := true, phase := .signing } };
      s.boot.phase ≠ .off ∧ s.power.phase ≠ .done ∧ s.power.failing = true)
    ∧ 0x0B0A#16 ≠ 0x0B0B#16
    ∧ (let s := { net0.setRegF Reg.GLB_BOOT_STATUS 12 3 1 with power := { resetAt := some (sT 100) } };
      s.maintenance = true ∧ s.power.failing = false ∧ s.boot.phase ≠ .off ∧ s.power.resetAt = some (sT 100) ∧ sT 100 ≤ s.now) := by decide +kernel

/-- `net0` in a boot phase. -/
def boot0 (b : BootSt) : State := { net0 with boot := b, regs := regsOf [(Reg.PRT_STATUS 0, 3), (Reg.MEM_STATUS 7, 1)] }

/-- A program operation of 4 bytes at an offset of slot B. -/
def flash0 (off : Nat) : FlashWrite := { slot := 1, off, data := zeros 4 }

theorem witness_BootCommandsAct : ((boot0 {}).boot.phase = .off ∧ (boot0 {}).power.failing = false
      ∧ (boot0 {}).nporRelease.failCause (boot0 {}).nporRelease.power.pfail (boot0 {}).nporRelease.vinThr = 0
      ∧ (boot0 {}).nporRelease.failCause (boot0 {}).nporRelease.power.pfail 2299 ≠ 0)
    ∧ (∀ n ∈ [1, 2], (boot0 { phase := .slot 1, tries := n }).boot.phase = .slot (1 : Fin 2) ∧ ((boot0 { phase := .slot 1, tries := n }).boot.tries < 2 ↔ n = 1))
    ∧ (boot0 { phase := .record }).boot.phase = .record ∧ (boot0 { phase := .journal }).boot.phase = .journal
    ∧ ((boot0 { phase := .memory }).boot.phase = .memory ∧ (boot0 { phase := .memory }).memState 7 = 1)
    ∧ ((boot0 { queue := [flash0 4092] }).boot.queue = flash0 4092 :: [] ∧ (flash0 4092).off % 4096 ≠ 0)
    ∧ (let x : Ticket := { num := 9, kind := 6, params := bytes [1, 0, 0, 0], started := 0 };
      ∀ f ∈ [[1], []], let s := { boot0 { failed := f } with mgmt := { tickets := [x] } };
      s.ticket 9 = some x ∧ x.kind = 6 ∧ x.ready = false ∧ s.boot.queue.any (fun q => q.slot == x.param 0 1) = false
      ∧ s.boot.failed.contains (x.param 0 1) = (f == [1])) := by decide +kernel

theorem witness_EpochsFollowTheStoredConfiguration :
    (let s := net0.setReg Reg.SEAL_CFG 0x2710076C#32;
      s.sweeping = false ∧ s.configChanged = true ∧ s.power.failing = false ∧ s.maintenance = false ∧ s.boot.phase = .running)
    ∧ (let s := net0.setRegBit Reg.GLB_CFG_STATUS 0 true;
      s.sweeping = true ∧ s.power.failing = false) := by decide +kernel

/-! ## Calibration and self-test -/

/-- Readings of the references in range. -/
def refs0 (r : Nat) : RefReading := { precres := r, oscOk := true, temps := [(25, true)] }

theorem witness_CalibrationStepsAct :
    (∀ r ∈ [9000, 11000], 9000 ≤ (refs0 r).precres ∧ (refs0 r).precres ≤ 11000 ∧ (refs0 r).oscOk = true ∧ (∀ q ∈ (refs0 r).temps, q.2 = true))
    ∧ ((net0.cal.refAt.all (fun x => decide (x + sT 10 ≤ net0.now))) = true)
    ∧ ((groupsOf 0xB8).2 ≠ 0 ∧ net0.frozen 0xB8 = false ∧ net0.inTest 0xB8 = false
      ∧ tget (fun _ => 0) net0.cal.measAt 0xB8 + sT (net0.cfgF Reg.CAL_CFG 8 6) ≤ net0.now)
    ∧ (let s := { net0.setReg Reg.CAL_SETPOINT 750#32 with cal := { lowered := 25, limitAt := sT 100 - usT 10 } };
      s.cal.limitAt + usT 10 ≤ s.now ∧ s.cal.lowered + 5 ≤ 30 ∧ 720 + s.cal.lowered + 5 ≤ s.regF Reg.CAL_SETPOINT 0 10)
    ∧ (let s := { net0 with cal := { lowered := 5, limitAt := sT 100 - usT 10, lowerAt := sT 100 - msT 100 } };
      s.cal.lowered ≠ 0 ∧ s.cal.limitAt + usT 10 ≤ s.now ∧ s.cal.lowerAt + msT 100 ≤ s.now)
    ∧ (let s := net0.setRegBit Reg.CAL_STATUS 4 true;
      s.power.failing = false ∧ s.replanDue = false ∧ s.regBit Reg.CAL_STATUS 4 = true) := by decide +kernel

/-- One ticket of an agent. -/
def tick0 (kind agent : Nat) (running : Bool) : State :=
  { net0 with mgmt := { tickets := [{ num := 9, kind, params := bytes [agent, 0, 0, 0], started := sT 40, running }] } }

theorem witness_TestsAndCalibrationsEnd :
    (∀ k ∈ [1, 2], ∀ a ∈ [0xA7, 0xB8], let s := tick0 k a false;
      (s.ticket 9).isSome = true ∧ s.mgmt.cancelled.contains 9 = false ∧ (∀ x ∈ s.ticket 9, x.ready = false ∧ x.kind = k ∧ x.running = false ∧ x.started + sT 60 ≤ s.now
        ∧ x.param 0 1 = a ∧ s.inTest (x.param 0 1) = false))
    ∧ (let s := tick0 1 0x9F true;
      s.inTest 0x9F = true ∧ s.drained 0x9F = true ∧ s.testAbandoned 0x9F = false ∧ (s.unit 0x9F).test ≠ some 0) := by decide +kernel

/-! ## Admission, coding -/

theorem witness_AdmissionAndSlotsMove :
    (net0.power.failing = false ∧ ({ net0 with adm := { lastEval := some (sT 100 - msT 1) } } : State).adm.lastEval.getD 0 + msT 1 ≤ net0.now
      ∧ net0.now < ({ net0 with adm := { lastEval := some (sT 100 - msT 1 + 1) } } : State).adm.lastEval.getD 0 + msT 1)
    ∧ (net0.inService 0x40 = true ∧ (frz0 0x9F 95 1).inService 0x9F = false ∧ 88 ≤ (95 : Fin 96).val ∧ (63 : Fin 96).val < 64)
    ∧ (net0.rstate 1023 = 0 ∧ net0.rtype 1023 ≠ 1 ∧ net0.power.safe = false)
    ∧ ({ net0 with regs := regsOf [(Reg.RND_STATUS 1023, 2)] } : State).rstate 1023 = 2
    ∧ (∀ a ∈ [agDc 63, agEc 23, agCu 7], net0.fieldMutable (oosReg a) oosField = true ∧ net0.regBit (oosReg a) 0 = false
      ∧ ({ net0 with boot := { frozenImg := true } } : State).fieldMutable (oosReg a) oosField = false) := by decide +kernel

/-- Pools 3 to 7 with two buffers each, and the listed registers. -/
def code0 (l : List (Nat × Nat)) : State :=
  { net0 with eff := cfg0With [(Reg.FP_COUNT 3, 2), (Reg.FP_COUNT 4, 2), (Reg.FP_COUNT 5, 2), (Reg.FP_COUNT 6, 2), (Reg.FP_COUNT 7, 2)]
              regs := regsOf ((Reg.PRT_STATUS 0, 3) :: l) }

/-- An access unit that arrived at a tick. -/
def au0 (tick : Nat) (waited : Bool) : Au :=
  { seq := 7, tick, arr := 0, tq := 0, rtp := 0, serial := 1, rap := true, nals := [], beyond := [], file := false, afterEos := false, sets := [], scan := [], missing := false, info := { dpb := 1 }, waited }

/-- A JPEG context in verification with one access unit. -/
def dec0 : State := { code0 [(Reg.CTX_STATUS 5, 2), (Reg.CTX_CFG 5, 8)] with ctxs := [(5, { queue := [au0 0 true] })] }

/-- The picture that DC63 decodes of context 5. -/
def job0 : DecJob := { unit := agDc 63, au := au0 0 false, handle := handleOf 5 0, copies := [] }

theorem witness_DecodeTakesAndFinishesPictures :
    (∀ m ∈ [[], [{ slot := 5, modified := true }]], let s := { dec0 with mem := { records := m } }
      let u := (s.contexts (fun st => st == 2 || st == 3)).foldl State.skipPics s
      let q := u.touchRecord 0x40 5
      s.codingOn = true ∧ u.readyList = 5 :: [] ∧ u.chooseUnit 0x40 64 (u.lastCore 5) = some 0x40 ∧ q.1 = false ∧ u.cached 5 = !m.isEmpty
        ∧ (q.2.dispatchCtx 5 0x40).isSome = true)
    ∧ (let s := { dec0 with mem := { poison := [(dec0.recordAddr 5 / 128 + 63, true)] } };
      let u := (s.contexts (fun st => st == 2 || st == 3)).foldl State.skipPics s
      s.codingOn = true ∧ u.readyList = 5 :: [] ∧ u.chooseUnit 0x40 64 (u.lastCore 5) = some 0x40 ∧ (u.touchRecord 0x40 5).1 = true)
    ∧ ({ dec0 with power := { safe := true } } : State).codingOn = false
    ∧ ((dec0.ctx 5).queue = au0 0 true :: [] ∧ (au0 0 true).waited = true ∧ (dec0.ctx 5).busy = none ∧ dec0.deadline 5 ≤ dec0.now)
    ∧ (let s := { dec0 with ctxs := [(5, { busy := some job0 })], units := [(agDc 63, { job := some (.decode 5) })] };
      (s.unit (agDc 63)).job = some (.decode 5) ∧ (s.ctx 5).busy = some job0 ∧ job0.unit = agDc 63 ∧ s.frozen (agDc 63) = false ∧ s.heldRec (agDc 63) = none) := by
  decide +kernel

/-- A candidate picture of a rendition. -/
def cand0 : Cand := { pics := [some {}], at_ := sT 100 - msT 100 }

/-- Rendition 1,023, OPEN, of a type. -/
def rnd0 (type : Nat) (r : RndSt) (units : Tab UnitSt) : State :=
  { code0 [(Reg.RND_STATUS 1023, 2)] with rnds := [(1023, r)], units
                                          eff := cfg0With [(Reg.FP_COUNT 3, 2), (Reg.FP_COUNT 4, 2), (Reg.FP_COUNT 5, 2), (Reg.FP_COUNT 6, 2), (Reg.FP_COUNT 7, 2),
                                            (Reg.RND_CFG 1023, type)] }

theorem witness_CompositionTakesAndFinishesPictures :
    (let s := rnd0 0 { wait := [cand0] } [];
      let q := s.touchRecord 0x98 (rndSlot 1023)
      s.codingOn = true ∧ s.readyRnds.map (·.1) = [1023] ∧ s.chooseUnit 0x98 8 (s.rnd 1023).lastCu = some 0x98
      ∧ q.1 = false ∧ s.cached (rndSlot 1023) = false ∧ (∀ x ∈ s.readyRnds, (q.2.startCompose x.1 0x98 x.2).isSome = true)
      ∧ (let v := { s with mem := { poison := [(s.recordAddr (rndSlot 1023) / 128, true)] } }
        v.codingOn = true ∧ v.readyRnds.map (·.1) = [1023] ∧ (v.touchRecord 0x98 (rndSlot 1023)).1 = true)
      ∧ (let v := { s with mem := { records := [{ slot := rndSlot 1023, modified := true }] } }
        v.cached (rndSlot 1023) = true ∧ (v.touchRecord 0x98 (rndSlot 1023)).1 = false))
    ∧ (let s := rnd0 0 { wait := [{ cand0 with begun := true }], cmpUnit := some (agCu 7) } [(agCu 7, { job := some (.compose 1023) })];
      (s.unit (agCu 7)).job = some (.compose 1023) ∧ (s.rnd 1023).wait = { cand0 with begun := true } :: [] ∧ (s.rnd 1023).cmpUnit = some (agCu 7)
      ∧ s.frozen (agCu 7) = false ∧ s.heldRec (agCu 7) = none ∧ cand0.done = none ∧ (s.rnd 1023).surf = none)
    ∧ (let s := rnd0 0 { wait := [cand0] } [(agCu 7, { job := some (.flatten 1023) })];
      (s.unit (agCu 7)).job = some (.flatten 1023) ∧ s.frozen (agCu 7) = false ∧ s.heldRec (agCu 7) = none)
    ∧ (let s := rnd0 0 { wait := [{ cand0 with at_ := sT 100 - msT 100 + 1 }] } [];
      ∀ c ∈ (s.rnd 1023).wait, s.now < c.at_ + msT 100)
    ∧ ((rnd0 0 { wait := [cand0] } []).rnd 1023).wait = [cand0] ∧ cand0.at_ + msT 100 ≤ net0.now
    ∧ (rnd0 2 { wait := [cand0] } []).rtype 1023 = 2 := by decide +kernel

/-- The picture that EC23 encodes. -/
def encJob0 : EncJob := { unit := agEc 23, cand := { cand0 with first := true }, handle := handleOf 5 0 }

/-- A STILL ticket on a core. -/
def still0 : Still := { ticket := 9, pic := {}, rnd := none, handle := 0, leafSeq := 4, arr := 0, tq := 0 }

theorem witness_EncodeTakesAndFinishesPictures :
    (let s := rnd0 0 { ready := [{ cand0 with first := true, waited := some (sT 100 - msT 100) }] } [];
      let v := s.recomposeStale
      let q := v.touchRecord 0x80 (rndSlot 1023)
      s.codingOn = true ∧ v.encReady.map (·.1) = [1023] ∧ v.chooseUnit 0x80 24 (v.rnd 1023).lastEc = some 0x80
      ∧ q.1 = false ∧ v.cached (rndSlot 1023) = false ∧ (∀ x ∈ v.encReady, (q.2.startEncode x.1 0x80 x.2).isSome = true)
      ∧ (let w := { s with mem := { poison := [(s.recordAddr (rndSlot 1023) / 128, true)] } }.recomposeStale
        w.codingOn = true ∧ w.encReady.map (·.1) = [1023] ∧ (w.touchRecord 0x80 (rndSlot 1023)).1 = true)
      ∧ (s.rnd 1023).ready = { cand0 with first := true, waited := some (sT 100 - msT 100) } :: [] ∧ (sT 100 - msT 100) + msT 100 ≤ s.now)
    ∧ net0.codingOn = true ∧ net0.recomposeStale.encReady = []
    ∧ (let s := rnd0 0 { encUnit := some encJob0 } [(agEc 23, { job := some (.encode 1023) })];
      (s.unit (agEc 23)).job = some (.encode 1023) ∧ (s.rnd 1023).encUnit = some encJob0 ∧ encJob0.unit = agEc 23 ∧ s.frozen (agEc 23) = false
      ∧ s.heldRec (agEc 23) = none ∧ s.refPoisoned 1023 encJob0 {} = none
      ∧ s.refPoisoned 1023 { encJob0 with cand := { encJob0.cand with first := false } } {} = none)
    ∧ (let s := { code0 [] with units := [(agEc 23, { job := some (.still 9) })], stills := [still0] };
      (s.unit (agEc 23)).job = some (.still 9) ∧ s.stills.find? (fun t => t.ticket == 9) = some still0 ∧ s.frozen (agEc 23) = false ∧ s.heldRec (agEc 23) = none)
    ∧ (let s := tick0 5 0 false;
      (∀ x ∈ s.ticket 9, x.kind = 5 ∧ x.ready = false ∧ x.running = false ∧ x.started + sT 5 ≤ s.now) ∧ (s.ticket 9).isSome = true
      ∧ s.mgmt.cancelled.contains 9 = false) := by decide +kernel

/-- A ream with a record in its sheet. -/
def ream0 : Ream :=
  { hdr := { serial := 1, span := 2000, maxSpan := 10000, epoch := 1, digest := zeros 32, a1 := 0 }, nsc := false, openHash := zeros 32, h := zeros 32
    sheetMax := 1000, buf := zeros 8, bufAt := sT 100 - msT 1, headsH := zeros 32 }

/-- A frame of a system queue. -/
def out0 : OutFrame := arpFrame 1 1 1 0 2 macBroadcast

/-- Bytes and sheets that port 0 could send. -/
theorem witness_SealsSheetsAndFramesLeave :
    (let s := { net0 with seals := { se1 := some (.seal default), slots := [(2047, { ream := some ream0 })] } };
      s.seals.se1 = some (.seal default) ∧ s.frozen (agSe 1) = false
      ∧ (s.slot 2047).ream = some ream0 ∧ ream0.buf ≠ [] ∧ ream0.bufAt + msT 1 ≤ s.now ∧ s.power.failing = false)
    ∧ (let s := { tick0 3 0 true with seals := { se0 := some (.attest 9) } };
      s.seals.se0 = some (.attest 9) ∧ s.frozen (agSe 0) = false ∧ (s.ticket 9).isSome = true)
    ∧ (let s := net0.setPort 0 { enabled := true, segs := [out0] };
      s.linkUp 0 = true ∧ (s.port 0).stopped = false ∧ (s.port 0).segs = out0 :: [] ∧ s.segTurn 0 = true)
    ∧ (let s := ({ net0 with regs := regsOf [(Reg.PRT_STATUS 0, 3), (Reg.PRT_STATUS 1, 3)] } : State).setPort 0 { enabled := true, segs := [out0] }
      (s.setPort 1 { enabled := true, segs := [out0] }).segTurn 1 = false ∧ (s.setPort 1 { enabled := true, segs := [out0] }).linkUp 1 = true)
    ∧ (∀ f ∈ [out0, { out0 with ptp := .req 5 }, { out0 with ptp := .resp 5 9 0 }], let s := net0.setPort 0 { enabled := true, sysq := [f] };
      s.linkUp 0 = true ∧ (s.port 0).stopped = false ∧ (s.port 0).segs = [] ∧ s.power.failing = false ∧ (s.resolveHeads 0).portPermits 0 = true
        ∧ ((s.resolveHeads 0).port 0).sysq = f :: [])
    ∧ (let s := { net0 with eff := cfg0With [(Reg.EGP_RATE 0, 1000)], net := { ports := [(0, { enabled := true, sysq := [out0], shaper := { tok := -2 ^ 60, last := sT 100 } })] } };
      (s.resolveHeads 0).portPermits 0 = false)
    ∧ net0.linkUp 3 = false := by decide +kernel

/-- A sheet of partner 0, whose address is resolved, is the best head of port 0. -/
theorem witness_SealsSheetsAndFramesLeave_sheet :
    let s := { net0 with net := { ports := [(0, { enabled := true, nbrs := [{ ent0 with state := .resolved, expires := sT 200 }] })],
                                  egq := [(0, { sheets := [{ partner := 0, rnd := false, serial := 1, seq := 0, datagram := zeros 100 }], tag := some 5 })] } };
    ((s.resolveHeads 0).bestHead 0).isSome = true ∧ (s.resolveHeads 0).portPermits 0 = true ∧ ((s.resolveHeads 0).port 0).sysq = [] ∧ s.power.safe = false := by
  decide +kernel

end Sys2Proof.Tests
end
end

section
/-!
PROOFS. Frames: what every command keeps, put together from the laws of its row (Laws/Keep*.lean).
-/
namespace Sys2Proof.Machine

/-- A command keeps what its state keeps (the queue, the canonical form where it held, every part that is not free), once the parts of its footprint are
free: the law of its own row says so, and its footprint frees the parts that the law asks for. -/
theorem exec_good (c : Instr) {kp : Kept} {s : State} (hG : Good kp s) (hf : ∀ p ∈ footprint c, kp.free p) : OutGood kp (exec c s) := by
  cases c
  all_goals
    simp only [footprint, List.forall_mem_cons] at hf
    casesm* _ ∧ _
  case linkUp => exact execLinkUp_good _ hG
  case linkDown => exact execLinkDown_good _ hG
  case hiBer => exact execHiBer_good _ hG
  case trainingDone => exact execTrainingDone_good _ _ hG
  case pauseFrame => exact execPauseFrame_good _ hG
  case arpRequest => exact execArpRequest_good _ hG
  case arpReply => exact execArpReply_good _ hG
  case neighborSolicitation => exact execNeighborSolicitation_good _ hG
  case neighborAdvertisement => exact execNeighborAdvertisement_good _ hG
  case mldQuery => exact execMldQuery_good _ hG
  case igmpQuery => exact execIgmpQuery_good _ hG
  case icmpEchoRequest => exact execIcmpEchoRequest_good _ hG
  case rateWindowRollover => exact execRateWindowRollover_good hG
  case neighbourRefresh => exact execNeighbourRefresh_good _ _ hG
  case neighbourRetryTimeout => exact execNeighbourRetryTimeout_good _ _ hG
  case resolutionWaitExpiry => exact execResolutionWaitExpiry_good _ hG
  case ptpSync => exact execPtpSync_good _ _ hG
  case ptpFollowUp => exact execPtpFollowUp_good _ _ hG
  case ptpAnnounce => exact execPtpAnnounce_good _ _ _ hG
  case ptpDelayResp => exact execPtpDelayResp_good _ _ hG
  case ptpPdelayReq => exact execPtpPdelayReq_good _ _ hG
  case ptpPdelayResp => exact execPtpPdelayResp_good _ _ _ hG
  case ptpDelayReqTimer => exact execPtpDelayReqTimer_good hG
  case syncLossTimeout => exact execSyncLossTimeout_good hG
  case holdoverExpiry => exact execHoldoverExpiry_good hG
  case rtpPacket => exact execRtpPacket_good _ hG
  case reorderExpiry => exact execReorderExpiry_good _ hG
  case auWaitExpiry => exact execAuWaitExpiry_good _ hG
  case contextIdleTimeout => exact execContextIdleTimeout_good _ hG
  case offloadOpen => exact execOffloadOpen_good _ hG
  case offloadData => exact execOffloadData_good _ hG
  case offloadClose => exact execOffloadClose_good _ hG
  case offloadAbort => exact execOffloadAbort_good _ hG
  case maskOpen => exact execMaskOpen_good _ hG
  case maskData => exact execMaskData_good _ hG
  case maskClose => exact execMaskClose_good _ hG
  case maskAbort => exact execMaskAbort_good _ hG
  case ackDelayExpiry => exact execAckDelayExpiry_good _ hG
  case zeroWindowRepeat => exact execZeroWindowRepeat_good _ hG
  case closeTimeout => exact execCloseTimeout_good _ hG
  case closedSessionExpiry => exact execClosedSessionExpiry_good _ hG
  case pausedSessionAbort => exact execPausedSessionAbort_good _ hG
  case maskSessionIdle => exact execMaskSessionIdle_good _ hG
  case partnerHeartbeat => exact execPartnerHeartbeat_good _ hG
  case partnerSilenceTimeout => exact execPartnerSilenceTimeout_good _ hG
  case deviceHeartbeatTimer => exact execDeviceHeartbeatTimer_good hG
  case hello => exact execHello_good _ hG
  case bye => exact execBye_good _ hG
  case mgmtSessionIdle => exact execMgmtSessionIdle_good _ hG
  case read => exact execRead_good _ hG
  case write => exact execWrite_good _ hG
  case ticketStartSelfTest => exact execTicketStartSelfTest_good _ hG
  case ticketStartCalibrate => exact execTicketStartCalibrate_good _ hG
  case ticketStartAttest => exact execTicketStartAttest_good _ hG
  case ticketStartDigest => exact execTicketStartDigest_good _ hG
  case ticketStartStill => exact execTicketStartStill_good _ hG
  case ticketStartImageInstall => exact execTicketStartImageInstall_good _ hG
  case ticketRead => exact execTicketRead_good _ hG
  case ticketRelease => exact execTicketRelease_good _ hG
  case imageBlock => exact execImageBlock_good _ hG
  case flashProgramDone => exact execFlashProgramDone_good _ hG
  case selfTestDone => exact execSelfTestDone_good _ _ _ _ hG
  case selfTestFitTimeout => exact execSelfTestFitTimeout_good _ hG
  case calibrateDone => exact execCalibrateDone_good _ _ _ _ hG
  case attestSigned => exact execAttestSigned_good _ hG
  case stillDone => exact execStillDone_good _ hG
  case stillTimeout => exact execStillTimeout_good _ hG
  case imageInstallDone => exact execImageInstallDone_good _ hG
  case maintenanceInstallReset => exact execMaintenanceInstallReset_good hG
  case admissionEvaluation => exact execAdmissionEvaluation_good hG
  case capabilityPublish => exact execCapabilityPublish_good _ _ _ hG
  case verificationLimitExpiry => exact execVerificationLimitExpiry_good _ hG
  case decodeDispatch => exact execDecodeDispatch_good _ hG
  case decodeAllocFailure => exact execDecodeAllocFailure_good _ hG
  case decodePictureDone => exact execDecodePictureDone_good _ _ hG
  case sealSigned => exact execSealSigned_good _ hG
  case sheetTimer => exact execSheetTimer_good _ hG
  case composeDispatch => exact execComposeDispatch_good _ hG
  case composePictureDone => exact execComposePictureDone_good _ _ hG
  case flattenDone => exact execFlattenDone_good _ hG
  case tileWaitExpiry => exact execTileWaitExpiry_good _ hG
  case maskWaitExpiry => exact execMaskWaitExpiry_good _ hG
  case encodeDispatch => exact execEncodeDispatch_good _ hG
  case encodePictureDone => exact execEncodePictureDone_good _ _ hG
  case encAllocTimeout => exact execEncAllocTimeout_good _ hG
  case ctxClose => exact execCtxClose_good _ hG
  case rndOpen => exact execRndOpen_good _ _ hG
  case rndClose => exact execRndClose_good _ hG
  case decOos => exact execDecOos_good _ _ hG
  case encOos => exact execEncOos_good _ _ hG
  case cuOos => exact execCuOos_good _ _ hG
  case egressSelect => exact execEgressSelect_good _ hG
  case collectorRound => exact execCollectorRound_good hG
  case holdoffExpiry => exact execHoldoffExpiry_good _ hG
  case fastEventAccept => exact execFastEventAccept_good _ hG
  case seqWake => exact execSeqWake_good _ hG
  case microwordStep => exact execMicrowordStep_good _ _ hG
  case fetch => exact execFetch_good _ hG
  case sleep => exact execSleep_good _ hG
  case retf => exact execRetf_good _ hG
  case load => exact execLoad_good _ _ hG
  case store => exact execStore_good _ _ hG
  case regrd => exact execRegrd_good _ hG
  case regwr => exact execRegwr_good _ hG
  case pop => exact execPop_good _ hG
  case setprio => exact execSetprio_good _ hG
  case doorbell => exact execDoorbell_good _ hG
  case unit => exact execUnit_good _ hG
  case alloc => exact execAlloc_good _ hG
  case free => exact execFree_good _ hG
  case give => exact execGive_good _ hG
  case dmaArm => exact execDmaArm_good _ _ hG
  case dmaAbort => exact execDmaAbort_good _ hG
  case dmaClear => exact execDmaClear_good _ hG
  case dmaProgStart => exact execDmaProgStart_good _ hG
  case dmaGoSet => exact execDmaGoSet_good _ hG
  case dmaSwreqWrite => exact execDmaSwreqWrite_good _ hG
  case dmaBurst => exact execDmaBurst_good _ _ _ hG
  case move => exact execMove_good _ hG
  case loop => exact execLoop_good _ hG
  case wait => exact execWait_good _ _ hG
  case waitTimeout => exact execWaitTimeout_good _ hG
  case signal => exact execSignal_good _ hG
  case end_ => exact execEnd_good _ hG
  case nop => exact execNop_good _ hG
  case memReadRequest => exact execMemReadRequest_good _ _ _ _ hG
  case memWriteRequest => exact execMemWriteRequest_good _ _ _ _ _ _ hG
  case writeAgeDrain => exact execWriteAgeDrain_good _ hG
  case memReadTimeout => exact execMemReadTimeout_good _ _ hG
  case patrolScrubRead => exact execPatrolScrubRead_good _ _ hG
  case marginProbe => exact execMarginProbe_good _ _ hG
  case refresh => exact execRefresh_good _ hG
  case refreshRateRead => exact execRefreshRateRead_good _ _ hG
  case backgroundFill => exact execBackgroundFill_good hG
  case nightEnter => exact execNightEnter_good _ hG
  case nightExit => exact execNightExit_good hG
  case nightEntryDone => exact execNightEntryDone_good hG
  case nightExitDone => exact execNightExitDone_good hG
  case powerFailDetect => exact execPowerFailDetect_good _ _ _ hG
  case manifestSigned => exact execManifestSigned_good hG
  case journalCommitDone => exact execJournalCommitDone_good _ hG
  case vinCollapse => exact execVinCollapse_good _ _ hG
  case powerReturnReset => exact execPowerReturnReset_good _ hG
  case nporFall => exact execNporFall_good hG
  case bootStart => exact execBootStart_good _ hG
  case flashReadTimeout => exact execFlashReadTimeout_good _ hG
  case journalReadTimeout => exact execJournalReadTimeout_good hG
  case memPortInitDone => exact execMemPortInitDone_good _ _ _ hG
  case sweepStart => exact execSweepStart_good hG
  case epochAnnounce => exact execEpochAnnounce_good hG
  case glbReset => exact execGlbReset_good _ hG
  case unitProgressTimeout => exact execUnitProgressTimeout_good _ hG
  case xopTimeout => exact execXopTimeout_good _ hG
  case regulatorOutOfRange => exact execRegulatorOutOfRange_good hG
  case unitResetDone => exact execUnitResetDone_good _ hG
  case safeStateExit => exact execSafeStateExit_good hG
  case fltForce => exact execFltForce_good _ hG
  case fltUnfreeze => exact execFltUnfreeze_good _ _ hG
  case fltStatusClear => exact execFltStatusClear_good _ _ hG
  case refCalibration => exact execRefCalibration_good _ hG
  case groupMeasurement => exact execGroupMeasurement_good _ _ hG
  case currentLimitStep => exact execCurrentLimitStep_good hG
  case currentRestoreStep => exact execCurrentRestoreStep_good hG
  case replan => exact execReplan_good _ _ hG
  case calReplan => exact execCalReplan_good hG
  case otpProgram => exact execOtpProgram_good _ _ hG
  case otpRevoke => exact execOtpRevoke_good _ _ hG
  case otpAdvance => exact execOtpAdvance_good _ hG
  case otpCommandDone => exact execOtpCommandDone_good _ hG
  case keyload => exact execKeyload_good _ hG
  case jtagInstruction => exact execJtagInstruction_good _ hG
  case prtCntClr => exact execPrtCntClr_good _ _ hG
  case glbCntClr => exact execGlbCntClr_good _ hG
  case glbAdmCntClr => exact execGlbAdmCntClr_good _ hG
  case decCntClr => exact execDecCntClr_good _ _ hG
  case encCntClr => exact execEncCntClr_good _ _ hG
  case cuCntClr => exact execCuCntClr_good _ _ hG
  case sealCntClr => exact execSealCntClr_good _ hG
  case hbxCntClr => exact execHbxCntClr_good _ hG
  case egqCntClr => exact execEgqCntClr_good _ hG
  case memCntClr => exact execMemCntClr_good _ _ hG
  case glbMemCntClr => exact execGlbMemCntClr_good _ hG
  case fpCntClr => exact execFpCntClr_good _ _ hG
  case fpGlbCntClr => exact execFpGlbCntClr_good _ hG
  case dmaCntClr => exact execDmaCntClr_good _ _ hG
  case seqCntClr => exact execSeqCntClr_good _ _ hG
  case intCntClr => exact execIntCntClr_good _ hG
  case colCntClr => exact execColCntClr_good _ hG
  case glbCfgCntClr => exact execGlbCfgCntClr_good _ hG
  case fltCntClr => exact execFltCntClr_good _ hG
  case calCntClr => exact execCalCntClr_good _ hG
  case registerWrite => exact execRegisterWrite_good _ _ _ hG
  case blockLockAcquired => exact execBlockLockAcquired_good _ hG
  case blockLockLost => exact execBlockLockLost_good _ hG
  case discardedFrame => exact execDiscardedFrame_good _ hG
  case unknownOpRequest => exact execUnknownOpRequest_good _ hG
  case windowRisesFromZero => exact execWindowRisesFromZero_good _ hG
  case powerReturn => exact execPowerReturn_good _ hG
  case internalCheckFailure => exact execInternalCheckFailure_good _ _ hG
  case temperatureLimitCrossing => exact execTemperatureLimitCrossing_good _ _ hG
  case regulatorBackInRange => exact execRegulatorBackInRange_good hG
  case trngTestWindow => exact execTrngTestWindow_good _ hG
  -- What remains is the row SEAL, whose constructor bears the name of a Lean keyword.
  · exact execSeal_good _ hG

/-- Settles O23: the state itself is the base, and the footprint is what is free. -/
theorem everyCommandKeepsItsFrame : Obligations.EveryCommandKeepsItsFrame := by
  intro c s t p he hp
  have hG : Good ⟨s.pending, False, s, (· ∈ footprint c)⟩ s := ⟨rfl, False.elim, fun q _ => Part.same_refl q s⟩
  exact (exec_good c hG (fun _ h => h) t he).same p hp

end Sys2Proof.Machine
end

section
/-!
PROOFS. The registers of a sequencer (R390), and what the end of an XOP changes (R393).
-/
namespace Sys2Proof.Machine

/-- Reading a register of the bank in use after writing one: r0 ignores the write (R390). -/
theorem SeqSt.r_w (q : SeqSt) (k j : Nat) (v : DWord) : (q.w k v).r j = if j = k ∧ k ≠ 0 then v else q.r j := by
  by_cases hk : k = 0
  · simp [SeqSt.w, hk]
  · by_cases hj : j = k
    · subst hj
      by_cases hb : q.state = .fast <;> simp [SeqSt.w, SeqSt.r, SeqSt.inFast, hk, hb]
    · by_cases hb : q.state = .fast <;> simp [SeqSt.w, SeqSt.r, SeqSt.inFast, hk, hj, hb, tget_tput_other]

section XopDone
variable (s : State) (i : Nat) (m : MicroWord) (e : Bool)

@[simp] theorem State.xopDone_regs : (s.xopDone i m e).regs = s.regs := rfl
@[simp] theorem State.xopDone_mem : (s.xopDone i m e).mem = s.mem := rfl
@[simp] theorem State.xopDone_pools : (s.xopDone i m e).pools = s.pools := rfl
@[simp] theorem State.xopDone_byteAt (a : Nat) : (s.xopDone i m e).byteAt a = s.byteAt a := rfl

/-- An XOP that ends changes the error flag and the address of its sequencer. -/
theorem State.seq_xopDone_same : ∃ pc, (s.xopDone i m e).seq i = { s.seq i with err := e, pc := pc } :=
  ⟨(s.setSeq i { s.seq i with err := e }).nextAddr i m, by simp [State.xopDone, State.advance]⟩

@[simp] theorem State.err_xopDone : ((s.xopDone i m e).seq i).err = e := by
  obtain ⟨pc, h⟩ := s.seq_xopDone_same i m e
  rw [h]

@[simp] theorem State.r_xopDone (k : Nat) : ((s.xopDone i m e).seq i).r k = (s.seq i).r k := by
  obtain ⟨pc, h⟩ := s.seq_xopDone_same i m e
  rw [h]
  rfl

end XopDone

end Sys2Proof.Machine
end

section
/-!
PROOFS. Register access by microcode and by management (R8, R10, R67, R393, R432).
-/
namespace Sys2Proof.Machine

/-- A 32-bit value added to the high half of a 64-bit one is its low half. -/
theorem toNat_keepHigh_mod (x : DWord) (v : Word) : (x / 0x100000000#64 * 0x100000000#64 + v.setWidth 64).toNat % 2 ^ 32 = v.toNat := by
  have hnat : ∀ n k : Nat, k < 4294967296 →
      (n / 4294967296 * 4294967296 % 18446744073709551616 + k % 18446744073709551616) % 18446744073709551616 % 4294967296 = k := by omega
  rw [BitVec.toNat_add, BitVec.toNat_mul, BitVec.toNat_udiv, BitVec.toNat_setWidth]
  exact hnat x.toNat v.toNat v.isLt

/-- A register without a holding copy reads as its block shows it now (R10). -/
theorem State.readReg_unheld {s : State} {a : Nat} (h : tget (fun _ => none) s.hold a = none) :
    (s.readReg a).1 = s.viewReg a := by
  unfold State.readReg
  rw [h]
  dsimp only
  split
  · rfl
  · split <;> rfl

/-- A read changes holding copies and nothing else (R10). -/
theorem State.readReg_hold (s : State) (a : Nat) : ∃ hs, (s.readReg a).2 = { s with hold := hs } := by
  unfold State.readReg
  dsimp only
  split
  · exact ⟨_, rfl⟩
  · split
    · exact ⟨_, rfl⟩
    · split
      · exact ⟨_, rfl⟩
      · exact ⟨s.hold, rfl⟩

@[simp] theorem State.readReg_regs (s : State) (a : Nat) : (s.readReg a).2.regs = s.regs := by
  obtain ⟨hs, h⟩ := s.readReg_hold a
  rw [h]

@[simp] theorem State.readReg_mem (s : State) (a : Nat) : (s.readReg a).2.mem = s.mem := by
  obtain ⟨hs, h⟩ := s.readReg_hold a
  rw [h]

/-- REGRD at a valid address without a holding copy. -/
theorem execRegrd_unheld {s : State} {i : Fin 8} {m : MicroWord} (hm : s.ready i 6 = some m) (ha : addrValid ((s.seq i).addr m) = true)
    (hh : tget (fun _ => none) s.hold ((s.seq i).addr m) = none) :
    ∃ t, exec (.regrd i) s = .next t ∧ t.regs = s.regs ∧ t.mem = s.mem
      ∧ (m.rd ≠ 0 → ((t.seq i).r m.rd).toNat % 2 ^ 32 = (s.viewReg ((s.seq i).addr m)).toNat) := by
  rw [exec_regrd, execRegrd, hm]
  simp only [ha, Bool.not_true, Bool.false_eq_true, if_false]
  refine ⟨_, rfl, by simp, by simp, fun hrd => ?_⟩
  rw [State.r_xopDone, State.seq_setSeq_same, SeqSt.r_w, if_pos ⟨rfl, hrd⟩, State.readReg_unheld hh]
  exact toNat_keepHigh_mod _ _

/-- Settles O16: REGRD and REGWR by the laws of reading and of an XOP's end, a refused register command by its one count. -/
theorem registerCommandsWriteOrCount : Obligations.RegisterCommandsWriteOrCount := by
  refine ⟨fun s num a v => ⟨fun hf => ?_, fun hf ha => ?_, fun hf ha => ?_⟩, fun s i m => ⟨execRegrd_unheld, fun hm ha t ht hrun => ?_⟩⟩
  · simp [execRegisterWrite, hf]
  · simp [execRegisterWrite, hf, ha]
  · refine ⟨s.bump32 Reg.GLB_MGMT_ADDR_ERR 1, by simp [execRegisterWrite, hf, ha], ?_, (RegsBut.refl s _).bump32 _ 1 (by simp)⟩
    rw [State.reg_bump32, if_pos rfl, BitVec.toNat_ofNat]
    omega
  · subst ht
    simp [execRegwr, hm, ha, hrun]

end Sys2Proof.Machine
end

section
/-!
PROOFS. Counters and their clears (R10, R11, R371).
-/
namespace Sys2Proof.Machine

section Filter
variable {α : Type} [DecidableEq α]

/-- A canonical table lists no key below its bound. -/
theorem tget_below_twfFrom (d : Nat → α) (t : Tab α) (lo k : Nat) (h : twfFrom d lo t = true) (hk : k < lo) : tget d t k = d k := by
  cases t with
  | nil => rfl
  | cons e t =>
    simp only [twfFrom, Bool.and_eq_true, decide_eq_true_eq] at h
    have h1 : ¬ k = e.1 := by omega
    have h2 : k < e.1 := by omega
    simp [tget, h1, h2]

theorem tget_filter_twfFrom (d : Nat → α) (p : Nat → Bool) (t : Tab α) (lo k : Nat) (h : twfFrom d lo t = true) :
    tget d (t.filter (fun q => p q.1)) k = if p k = true then tget d t k else d k := by
  induction t generalizing lo with
  | nil => simp
  | cons e t ih =>
    obtain ⟨a, v⟩ := e
    simp only [twfFrom, Bool.and_eq_true, decide_eq_true_eq] at h
    have hrest := ih (a + 1) h.2
    by_cases hk : k < a + 1
    · rw [tget_below_twfFrom d t (a + 1) k h.2 hk, ite_self] at hrest
      by_cases hka : k = a
      · subst hka
        by_cases hp : p k = true <;> simp [hp, tget, hrest]
      · have hlt : k < a := by omega
        by_cases hp : p a = true <;> simp [hp, tget, hka, hlt, hrest]
    · have hka : ¬ k = a := by omega
      have hlt : ¬ k < a := by omega
      by_cases hp : p a = true <;> simp [hp, tget, hka, hlt, hrest]

/-- Leaving entries out of a canonical table by their keys: a key left out reads as an unlisted one, any other as before. -/
theorem tget_filter (d : Nat → α) (p : Nat → Bool) (t : Tab α) (k : Nat) (h : twf d t = true) :
    tget d (t.filter (fun q => p q.1)) k = if p k = true then tget d t k else d k :=
  tget_filter_twfFrom d p t 0 k h

end Filter

/-- A clear returns the registers of its ranges to their reset values and changes no other (R11). -/
theorem State.reg_clearRanges {s : State} (hs : s.Canon) (rs : List (Nat × Nat)) (a : Nat) :
    (s.clearRanges rs).reg a = if rs.any (fun r => decide (r.1 ≤ a) && decide (a < r.1 + r.2)) then regReset a else s.reg a := by
  have h := tget_filter regReset (fun k => !rs.any (fun r => decide (r.1 ≤ k) && decide (k < r.1 + r.2))) s.regs a hs.1
  refine h.trans ?_
  cases hc : rs.any (fun r => decide (r.1 ≤ a) && decide (a < r.1 + r.2)) <;> simp [State.reg]

/-- A block's counters: ranges that are not empty and start at a register whose reset value is 0. -/
abbrev CounterRanges (rs : List (Nat × Nat)) : Prop := ∀ r ∈ rs, 0 < r.2 ∧ regReset r.1 = 0#32

/-- A command that clears ranges of counters when bit 0 of its operand is set, and does nothing else (R11). -/
theorem exec_clears_iff_bit0 {s : State} {c : Instr} {rs : List (Nat × Nat)} {v : BitVec 32} (hs : s.Canon) (hrs : CounterRanges rs)
    (hc : exec c s = .next (if v.getLsbD 0 then s.clearRanges rs else s)) :
    (v.getLsbD 0 = true → ∃ t, exec c s = .next t ∧ (∀ r, r ∈ rs → t.reg r.1 = 0#32)
        ∧ ∀ a, t.reg a = if rs.any (fun r => decide (r.1 ≤ a) && decide (a < r.1 + r.2)) then regReset a else s.reg a)
      ∧ (v.getLsbD 0 = false → exec c s = .next s) := by
  refine ⟨fun hv => ⟨s.clearRanges rs, by simp [hc, hv], fun r hr => ?_, State.reg_clearRanges hs rs⟩, fun hv => by rw [hc, hv]; rfl⟩
  obtain ⟨hpos, hzero⟩ := hrs r hr
  rw [State.reg_clearRanges hs, if_pos, hzero]
  exact List.any_eq_true.mpr ⟨r, hr, by simp [hpos]⟩

/-- The first counter of a pool resets to 0, as the map's row says for each of the eight pools. -/
theorem regReset_fpCnt (p : Fin 8) : regReset (Reg.FP_CNT p 0) = 0#32 ∧ regReset (Reg.FP_CNT p 0 + 4) = 0#32 := by
  revert p
  decide +kernel

/-- FP_CNT_CLR clears the counters of a pool, and FP_LOW, which is none of them, becomes FP_FREE (R371). -/
theorem State.reg_fpClear {s : State} (hs : s.Canon) (p a : Nat) :
    (s.fpClear p).reg a = if a = Reg.FP_LOW p then s.reg (Reg.FP_FREE p)
      else if Reg.FP_CNT p 0 ≤ a ∧ a < Reg.FP_CNT p 0 + 48 then regReset a else s.reg a := by
  unfold State.fpClear
  dsimp only
  rw [State.reg_setReg, State.reg_clearRanges hs, State.reg_clearRanges hs]
  have hfree : ¬ Reg.FP_CNT p 0 ≤ Reg.FP_FREE p := by simp only [Reg.FP_CNT, Reg.FP_FREE]; omega
  simp [hfree]

/-- The first counter of a pool reads 0 after FP_CNT_CLR. -/
theorem State.pair_fpClear {s : State} (hs : s.Canon) (p : Fin 8) : (s.fpClear p).pair (Reg.FP_CNT p 0) = 0 := by
  have hlow : ∀ k, k < 48 → ¬ Reg.FP_CNT p 0 + k = Reg.FP_LOW p := by simp only [Reg.FP_CNT, Reg.FP_LOW]; omega
  obtain ⟨h0, h4⟩ := regReset_fpCnt p
  have hreg : ∀ k, k < 48 → regReset (Reg.FP_CNT p 0 + k) = 0#32 → (s.fpClear p).reg (Reg.FP_CNT p 0 + k) = 0#32 := by
    intro k hk hz
    rw [State.reg_fpClear hs, if_neg (hlow k hk), if_pos ⟨by omega, by omega⟩, hz]
  simp [State.pair, hreg 4 (by omega) h4, show (s.fpClear p).reg (Reg.FP_CNT p 0) = 0#32 from hreg 0 (by omega) h0]

/-- Settles O26: each clear is a clear of ranges, whose starts reset to 0 in every block, and FP_CNT_CLR is one with FP_LOW set after it. -/
theorem countersSaturateAndClear : Obligations.CountersSaturateAndClear := by
  intro s v p4 p8 p24 p64 hs
  refine ⟨fun c rs hc => ?_, fun hv => ?_, fun hv => ?_, fun a n => ⟨State.pair_bumpN s a n, ?_, ?_, ?_⟩⟩
  · simp only [List.mem_cons, Prod.mk.injEq, List.not_mem_nil, or_false] at hc
    obtain ⟨rfl, rfl⟩ | ⟨rfl, rfl⟩ | ⟨rfl, rfl⟩ | ⟨rfl, rfl⟩ | ⟨rfl, rfl⟩ | ⟨rfl, rfl⟩ | ⟨rfl, rfl⟩ | ⟨rfl, rfl⟩ | ⟨rfl, rfl⟩ | ⟨rfl, rfl⟩ | ⟨rfl, rfl⟩
      | ⟨rfl, rfl⟩ | ⟨rfl, rfl⟩ | ⟨rfl, rfl⟩ | ⟨rfl, rfl⟩ | ⟨rfl, rfl⟩ | ⟨rfl, rfl⟩ | ⟨rfl, rfl⟩ | ⟨rfl, rfl⟩ := hc
    all_goals exact exec_clears_iff_bit0 hs (by decide +kernel +revert) rfl
  · have hlow : Reg.FP_LOW p8 < Reg.FP_CNT p8 0 := by simp only [Reg.FP_CNT, Reg.FP_LOW]; omega
    refine ⟨s.fpClear p8, by simp [execFpCntClr, hv], State.pair_fpClear hs p8, by rw [State.reg_fpClear hs, if_pos rfl], fun a ha => ?_⟩
    rw [State.reg_fpClear hs, if_neg ha]
  · rw [exec_fpCntClr, execFpCntClr, hv]
    rfl
  · have hlt := s.pair_lt a
    rw [State.pair_bumpN]
    omega
  · intro h
    rw [State.pair_bumpN]
    omega
  · exact (RegsBut.refl s _).bumpN a n (by simp [ctr]) (by simp [ctr])

end Sys2Proof.Machine
end

section
/-!
PROOFS. LOAD and STORE (R393), and the bytes of packet memory (R6, R372).
-/
namespace Sys2Proof.Machine

/-! ## Bytes -/

/-- A byte of memory after a byte string was written. -/
theorem tget_putBytes (m : List (Nat × Byte)) (a x : Nat) (b : Bytes) :
    tget memDefault (putBytes m a b) x = if a ≤ x ∧ x < a + b.length then b.getD (x - a) 0#8 else tget memDefault m x := by
  induction b generalizing m a with
  | nil =>
    rw [if_neg (by simp)]
    rfl
  | cons v b ih =>
    rw [putBytes, ih, putByte]
    by_cases hx : x = a
    · subst hx
      rw [if_neg (by omega), tget_tput_same, if_pos (by simp), Nat.sub_self]
      rfl
    · rw [tget_tput_other _ _ _ _ _ hx]
      by_cases hin : a + 1 ≤ x ∧ x < a + 1 + b.length
      · obtain ⟨k, rfl⟩ : ∃ k, x = a + 1 + k := ⟨x - (a + 1), by omega⟩
        rw [if_pos hin, if_pos (by simp only [List.length_cons]; omega), Nat.add_sub_cancel_left,
          show a + 1 + k - a = k + 1 by omega, List.getD_cons_succ]
      · rw [if_neg hin, if_neg (by simp only [List.length_cons]; omega)]

/-- Writing a byte string in two pieces. -/
theorem putBytes_append (m : List (Nat × Byte)) (a : Nat) (b c : Bytes) :
    putBytes m a (b ++ c) = putBytes (putBytes m a b) (a + b.length) c := by
  induction b generalizing m a with
  | nil => rfl
  | cons v b ih => rw [List.cons_append, putBytes, putBytes, ih, List.length_cons, Nat.add_right_comm, Nat.add_assoc]

/-- Two runs of memory that follow one another are one run. -/
theorem State.getMem_add (s : State) (a m n : Nat) : s.getMem a (m + n) = s.getMem a m ++ s.getMem (a + m) n := by
  simp [State.getMem, List.range_add, Nat.add_assoc]

@[simp] theorem length_leBytes (n v : Nat) : (le n v).length = n := by
  induction n generalizing v with
  | zero => rfl
  | succ n ih => simp [le, ih]

/-- A byte of a number, least significant first. -/
theorem getD_leBytes (n v k : Nat) (h : k < n) : (le n v).getD k 0#8 = BitVec.ofNat 8 (v / 2 ^ (8 * k)) := by
  induction n generalizing v k with
  | zero => omega
  | succ n ih =>
    cases k with
    | zero => simp [le]
    | succ k =>
      rw [le, List.getD_cons_succ, ih _ _ (by omega), Nat.div_div_eq_div_mul]
      congr 2
      rw [Nat.mul_succ, Nat.pow_add, Nat.mul_comm]

/-! ## Accesses of eight bytes -/

/-- An access that stays on its line. -/
theorem splitLine_within {a : Nat} (h : a % 128 ≤ 120) : splitLine a = [(a, 8)] := by
  have hn : min 8 (128 - a % 128) = 8 := by omega
  simp [splitLine, hn]

/-- An access across a line. -/
theorem splitLine_across {a : Nat} (h : 120 < a % 128) :
    splitLine a = [(a, 128 - a % 128), (a + (128 - a % 128), 8 - (128 - a % 128))] := by
  have hn : min 8 (128 - a % 128) = 128 - a % 128 := by omega
  have h8 : ¬ 128 - a % 128 = 8 := by omega
  simp [splitLine, hn, h8]

theorem any_addrOk_eq_false {s : State} {w : Bool} {a : Nat} (h : ∀ k, k < 8 → s.addrOk w (a + k) = true) :
    (List.range 8).any (fun k => !s.addrOk w (a + k)) = false := by
  simp only [List.any_eq_false, List.mem_range, Bool.not_eq_true', Bool.not_eq_false]
  exact h

theorem any_addrOk_eq_true {s : State} {w : Bool} {a : Nat} (h : ∃ k, k < 8 ∧ s.addrOk w (a + k) = false) :
    (List.range 8).any (fun k => !s.addrOk w (a + k)) = true := by
  obtain ⟨k, hk, hbad⟩ := h
  exact List.any_eq_true.mpr ⟨k, List.mem_range.mpr hk, by simp [hbad]⟩

section Load
variable {s : State} {i : Fin 8} {m : MicroWord} {errs : List (Nat × List SymErr)} {a : Nat}
  (hm : s.ready i 4 = some m) (ha : a = (s.seq i).addr m)
include hm ha

/-- A LOAD from an address that no agent may read fails. -/
theorem exec_load_badAddr (hbad : ∃ k, k < 8 ∧ s.addrOk false (a + k) = false) : exec (.load i errs) s = .next (s.xopDone i m true) := by
  subst ha
  simp only [exec_load, execLoad, hm, any_addrOk_eq_true hbad, if_true]

variable (hok : ∀ k, k < 8 → s.addrOk false (a + k) = true) (hst : s.portStalls a = false)
include hok hst

/-- A LOAD on one line takes one access. -/
theorem exec_load_within (hl : a % 128 ≤ 120) {d : Bytes} {u : State} (hr : s.busRead (agGs i) a 8 errs = (some d, u)) :
    exec (.load i errs) s = .next ((u.setSeq i ((u.seq i).w m.rd (BitVec.ofNat 64 (leNat d)))).xopDone i m false) := by
  subst ha
  simp [execLoad, hm, any_addrOk_eq_false hok, hst, splitLine_within hl, hr]

/-- A LOAD that reads poison fails (R347). -/
theorem exec_load_within_poison (hl : a % 128 ≤ 120) {u : State} (hr : s.busRead (agGs i) a 8 errs = (none, u)) :
    exec (.load i errs) s = .next (u.xopDone i m true) := by
  subst ha
  simp [execLoad, hm, any_addrOk_eq_false hok, hst, splitLine_within hl, hr]

/-- A LOAD across a line takes two accesses, the lower bytes first. -/
theorem exec_load_across (hl : 120 < a % 128) {d1 d2 : Bytes} {u1 u2 : State}
    (hr1 : s.busRead (agGs i) a (128 - a % 128) errs = (some d1, u1))
    (hr2 : u1.busRead (agGs i) (a + (128 - a % 128)) (8 - (128 - a % 128)) errs = (some d2, u2)) :
    exec (.load i errs) s = .next ((u2.setSeq i ((u2.seq i).w m.rd (BitVec.ofNat 64 (leNat (d1 ++ d2))))).xopDone i m false) := by
  subst ha
  simp [execLoad, hm, any_addrOk_eq_false hok, hst, splitLine_across hl, hr1, hr2]

end Load

section Store
variable {s : State} {i : Fin 8} {m : MicroWord} {errs : List (Nat × List SymErr)} {a : Nat}
  (hm : s.ready i 5 = some m) (ha : a = (s.seq i).addr m)
include hm ha

/-- A STORE to an address that no agent may write fails. -/
theorem exec_store_badAddr (hbad : ∃ k, k < 8 ∧ s.addrOk true (a + k) = false) : exec (.store i errs) s = .next (s.xopDone i m true) := by
  subst ha
  simp only [exec_store, execStore, hm, any_addrOk_eq_true hbad, if_true]

variable (hok : ∀ k, k < 8 → s.addrOk true (a + k) = true) (hst : s.portStalls a = false)
include hok hst

/-- A STORE on one line takes one access. -/
theorem exec_store_within (hl : a % 128 ≤ 120) :
    exec (.store i errs) s = .next ((s.busWrite (agGs i) a ((le 8 ((s.seq i).r m.rd).toNat).map some) errs).xopDone i m false) := by
  subst ha
  simp [execStore, execStore.slice', hm, any_addrOk_eq_false hok, hst, splitLine_within hl, List.take_of_length_le]

/-- A STORE across a line takes two accesses, the lower bytes first. -/
theorem exec_store_across (hl : 120 < a % 128) {b1 b2 : Bytes}
    (hb1 : b1 = (le 8 ((s.seq i).r m.rd).toNat).take (128 - a % 128)) (hb2 : b2 = (le 8 ((s.seq i).r m.rd).toNat).drop (128 - a % 128)) :
    exec (.store i errs) s
      = .next (((s.busWrite (agGs i) a (b1.map some) errs).busWrite (agGs i) (a + (128 - a % 128)) (b2.map some) errs).xopDone i m false) := by
  subst ha hb1 hb2
  simp [execStore, execStore.slice', hm, any_addrOk_eq_false hok, hst, splitLine_across hl, List.map_take, List.map_drop, List.take_of_length_le]

end Store

/-! ## Packet memory (R372) -/

theorem isPm_iff (a : Nat) : isPm a = true ↔ 0x8000000000 ≤ a ∧ a < 0x8001000000 := by
  have hdef : isPm a = decide (0x8000000000 ≤ a ∧ a < 0x8001000000) := rfl
  rw [hdef, decide_eq_true_iff]

theorem isDram_of_isPm {a : Nat} (h : isPm a = true) : isDram a = false := by
  rw [isPm_iff] at h
  simp only [isDram, decide_eq_false_iff_not]
  omega

theorem heOf_of_isPm {a : Nat} (h : isPm a = true) : heOf a = none := by
  rw [isPm_iff] at h
  exact if_neg (by omega)

theorem State.addrOk_of_isPm (s : State) (w : Bool) {a : Nat} (h : isPm a = true) : s.addrOk w a = true := by
  simp [State.addrOk, isDram_of_isPm h, h]

/-- Packet memory has no port that could stall. -/
theorem State.portStalls_of_isPm (s : State) {a : Nat} (h : ∀ k, k < 8 → isPm (a + k) = true) : s.portStalls a = false := by
  have h0 : isDram a = false := isDram_of_isPm (h 0 (by omega))
  by_cases hl : a % 128 ≤ 120
  · simp [State.portStalls, splitLine_within hl, h0]
  · simp [State.portStalls, splitLine_across (Nat.lt_of_not_le hl), h0, isDram_of_isPm (h (128 - a % 128) (by omega))]

/-- A read of packet memory without a poisoned byte gives its bytes and changes nothing. -/
theorem State.busRead_of_isPm (s : State) (ag : Nat) (errs : List (Nat × List SymErr)) {a n : Nat} (hpm : isPm a = true)
    (hgood : ∀ k, k < n → tget (fun _ => false) s.mem.badBytes (a + k) = false) : s.busRead ag a n errs = (some (s.getMem a n), s) := by
  have hany : (List.range n).any (fun k => tget (fun _ => false) s.mem.badBytes (a + k)) = false := by
    simpa using hgood
  simp [State.busRead, isDram_of_isPm hpm, hany]

/-- A write of packet memory stores its bytes. -/
theorem State.cells_busWrite_of_isPm (s : State) (ag : Nat) (b : Bytes) (errs : List (Nat × List SymErr)) {a : Nat} (hpm : isPm a = true) :
    (s.busWrite ag a (b.map some) errs).mem.cells = putBytes s.mem.cells a b := by
  simp [State.busWrite, isDram_of_isPm hpm, heOf_of_isPm hpm, Function.comp_def]

theorem State.regs_busWrite_of_isPm (s : State) (ag : Nat) (b : Bytes) (errs : List (Nat × List SymErr)) {a : Nat} (hpm : isPm a = true) :
    (s.busWrite ag a (b.map some) errs).regs = s.regs := by
  simp [State.busWrite, isDram_of_isPm hpm, heOf_of_isPm hpm]

theorem State.ctl_busWrite_of_isPm (s : State) (ag : Nat) (b : Bytes) (errs : List (Nat × List SymErr)) {a : Nat} (hpm : isPm a = true) :
    (s.busWrite ag a (b.map some) errs).ctl = s.ctl := by
  simp [State.busWrite, isDram_of_isPm hpm, heOf_of_isPm hpm]

/-- LOAD of eight bytes of packet memory, whether they lie on one line or on two. -/
theorem exec_load_of_isPm {s : State} {i : Fin 8} {m : MicroWord} {errs : List (Nat × List SymErr)} {a : Nat} (hm : s.ready i 4 = some m)
    (ha : a = (s.seq i).addr m) (hpm : ∀ k, k < 8 → isPm (a + k) = true)
    (hgood : ∀ k, k < 8 → tget (fun _ => false) s.mem.badBytes (a + k) = false) :
    exec (.load i errs) s = .next ((s.setSeq i ((s.seq i).w m.rd (BitVec.ofNat 64 (leNat (s.getMem a 8))))).xopDone i m false) := by
  have hok : ∀ k, k < 8 → s.addrOk false (a + k) = true := fun k hk => s.addrOk_of_isPm false (hpm k hk)
  have hst := s.portStalls_of_isPm hpm
  have hread : ∀ j n, j + n ≤ 8 → 0 < n → s.busRead (agGs i) (a + j) n errs = (some (s.getMem (a + j) n), s) := fun j n hjn hn =>
    s.busRead_of_isPm _ _ (hpm j (by omega)) (fun k hk => by rw [Nat.add_assoc]; exact hgood (j + k) (by omega))
  by_cases hl : a % 128 ≤ 120
  · exact exec_load_within hm ha hok hst hl (hread 0 8 (by omega) (by omega))
  · have hsplit : s.getMem a 8 = s.getMem a (128 - a % 128) ++ s.getMem (a + (128 - a % 128)) (8 - (128 - a % 128)) := by
      rw [← State.getMem_add]
      congr 1
      omega
    rw [hsplit]
    exact exec_load_across hm ha hok hst (by omega) (hread 0 _ (by omega) (by omega)) (hread _ _ (by omega) (by omega))

/-- STORE of eight bytes of packet memory, whether they lie on one line or on two. -/
theorem exec_store_of_isPm {s : State} {i : Fin 8} {m : MicroWord} {errs : List (Nat × List SymErr)} {a : Nat} (hm : s.ready i 5 = some m)
    (ha : a = (s.seq i).addr m) (hpm : ∀ k, k < 8 → isPm (a + k) = true) :
    ∃ t : State, exec (.store i errs) s = .next (t.xopDone i m false) ∧ t.regs = s.regs ∧ t.ctl = s.ctl
      ∧ t.mem.cells = putBytes s.mem.cells a (le 8 ((s.seq i).r m.rd).toNat) := by
  have hok : ∀ k, k < 8 → s.addrOk true (a + k) = true := fun k hk => s.addrOk_of_isPm true (hpm k hk)
  have hst := s.portStalls_of_isPm hpm
  have h0 : isPm a = true := hpm 0 (by omega)
  by_cases hl : a % 128 ≤ 120
  · exact ⟨_, exec_store_within hm ha hok hst hl, s.regs_busWrite_of_isPm _ _ _ h0, s.ctl_busWrite_of_isPm _ _ _ h0,
      s.cells_busWrite_of_isPm _ _ _ h0⟩
  · have hn := hpm (128 - a % 128) (by omega)
    have hlen : ((le 8 ((s.seq i).r m.rd).toNat).take (128 - a % 128)).length = 128 - a % 128 := by
      rw [List.length_take, length_leBytes]
      omega
    refine ⟨_, exec_store_across hm ha hok hst (by omega) rfl rfl, ?_, ?_, ?_⟩
    · rw [State.regs_busWrite_of_isPm _ _ _ _ hn, State.regs_busWrite_of_isPm _ _ _ _ h0]
    · rw [State.ctl_busWrite_of_isPm _ _ _ _ hn, State.ctl_busWrite_of_isPm _ _ _ _ h0]
    · rw [State.cells_busWrite_of_isPm _ _ _ _ hn, State.cells_busWrite_of_isPm _ _ _ _ h0]
      conv_rhs => rw [← List.take_append_drop (128 - a % 128) (le 8 ((s.seq i).r m.rd).toNat), putBytes_append, hlen]

/-- Settles O31: the address checks and the accesses on one line and across two, and in packet memory the bytes themselves. -/
theorem loadAndStoreMoveEightBytes : Obligations.LoadAndStoreMoveEightBytes := by
  intro i s m errs a ha
  refine ⟨fun hm => ⟨fun hbad => ⟨_, exec_load_badAddr hm ha hbad, by simp, rfl, rfl⟩, fun hok hst => ⟨fun d u hl => exec_load_within hm ha hok hst hl,
    fun u hl => exec_load_within_poison hm ha hok hst hl, fun d1 d2 u1 u2 n hl hn => ?_⟩, fun hpm => ?_⟩,
    fun hm => ⟨fun hbad => ⟨_, exec_store_badAddr hm ha hbad, by simp, rfl, rfl⟩, fun hok hst => exec_store_within hm ha hok hst, fun hpm => ?_⟩⟩
  · subst hn
    exact exec_load_across hm ha hok hst hl
  · refine ⟨_, exec_load_of_isPm hm ha (fun k hk => (hpm k hk).1) (fun k hk => (hpm k hk).2), by simp, fun k => ?_, rfl, rfl⟩
    rw [State.r_xopDone, State.seq_setSeq_same, SeqSt.r_w]
    by_cases hk : k = m.rd
    · subst hk
      rfl
    · simp [hk]
  · obtain ⟨t, hexec, hregs, hctl, hcells⟩ := exec_store_of_isPm (errs := errs) hm ha hpm
    refine ⟨_, hexec, by simp, fun k => ?_, hregs, fun x => ?_⟩
    · rw [State.r_xopDone, State.seq, hctl, State.seq]
    · rw [State.xopDone_byteAt, State.byteAt, hcells, tget_putBytes, length_leBytes]
      by_cases hx : a ≤ x ∧ x < a + 8
      · rw [if_pos hx, if_pos hx, getD_leBytes _ _ _ (by omega)]
      · rw [if_neg hx, if_neg hx, State.byteAt]

end Sys2Proof.Machine
end

section
/-!
PROOFS. The felt pools: ALLOC, FREE and GIVE (R365 to R368, R445).
-/
namespace Sys2Proof.Machine

/-! ## Handles and owners (R365) -/

theorem handlePool_handleOf {p : Nat} (hp : p < 8) (i : Nat) : handlePool (handleOf p i) = p := by
  simp only [handlePool, handleOf]
  omega

theorem handleIndex_handleOf (p : Nat) {i : Nat} (hi : i < 2 ^ 21) : handleIndex (handleOf p i) = i := by
  simp only [handleIndex, handleOf]
  omega

/-- The owner that a pool's table names for an index: 0 for none, else 1 + the agent. -/
theorem State.ownerOf_of_entry {s : State} {h a : Nat} (he : tget (fun _ => 0) (s.pool (handlePool h)).owner (handleIndex h) = a + 1) :
    s.ownerOf h = some a := by
  simp only [State.ownerOf, he]

theorem State.ownerOf_of_noEntry {s : State} {h : Nat} (he : tget (fun _ => 0) (s.pool (handlePool h)).owner (handleIndex h) = 0) :
    s.ownerOf h = none := by
  simp only [State.ownerOf, he]

theorem State.ownerOf_congr {s t : State} {h : Nat} (he : tget (fun _ => 0) (t.pool (handlePool h)).owner (handleIndex h)
    = tget (fun _ => 0) (s.pool (handlePool h)).owner (handleIndex h)) : t.ownerOf h = s.ownerOf h := by
  simp only [State.ownerOf, he]

@[simp] theorem State.pool_setPool_same (s : State) (p : Nat) (x : Pool) : (s.setPool p x).pool p = x := tget_tput_same _ _ _ _

theorem State.pool_setPool_other (s : State) (p q : Nat) (x : Pool) (h : q ≠ p) : (s.setPool p x).pool q = s.pool q := tget_tput_other _ _ _ _ _ h

/-- The pools of a state in which one buffer's entry was written. -/
structure OwnerWritten (s t : State) (p i v : Nat) : Prop where
  entry : tget (fun _ => 0) (t.pool p).owner i = v
  others : ∀ q j, q ≠ p ∨ j ≠ i → tget (fun _ => 0) (t.pool q).owner j = tget (fun _ => 0) (s.pool q).owner j

theorem State.setPool_ownerWritten (s : State) (p i v : Nat) (x : Pool) (hx : x.owner = tput (fun _ => 0) (s.pool p).owner i v) :
    OwnerWritten s (s.setPool p x) p i v where
  entry := by rw [State.pool_setPool_same, hx, tget_tput_same]
  others q j h := by
    by_cases hq : q = p
    · subst hq
      rw [State.pool_setPool_same, hx, tget_tput_other _ _ _ _ _ (h.resolve_left (fun hn => hn rfl))]
    · rw [State.pool_setPool_other _ _ _ _ hq]

theorem OwnerWritten.of_pools {s t u : State} {p i v : Nat} (h : OwnerWritten s t p i v) (hp : u.pools = t.pools) : OwnerWritten s u p i v := by
  have hpool : u.pool = t.pool := by
    funext q
    rw [State.pool, hp, State.pool]
  exact ⟨hpool ▸ h.entry, hpool ▸ h.others⟩

theorem OwnerWritten.ownerOf_other {s t : State} {p i v k : Nat} (h : OwnerWritten s t p i v) (hk : handlePool k ≠ p ∨ handleIndex k ≠ i) :
    t.ownerOf k = s.ownerOf k :=
  State.ownerOf_congr (h.others _ _ hk)

/-- A counter that counts once after registers beside it have changed. -/
theorem Counted.bump_of_regsBut {s t : State} {l : List Nat} {a : Nat} (h : RegsBut s t l) (h1 : a ∉ l) (h2 : a + 4 ∉ l) : Counted s (t.bump a) a 1 := by
  rw [Counted, State.pair_bump, h.pair a h1 h2]

/-! ## ALLOC (R366 to R368) -/

/-- Buffer i of pool p goes to an agent; `x` is the pool without it. -/
def State.handOut (s : State) (agent p i : Nat) (x : Pool) : State :=
  let f := s.regF (Reg.FP_FREE p) 0 22 - 1
  let s1 := (s.setPool p { x with owner := tput (fun _ => 0) x.owner i (agent + 1) }).setReg (Reg.FP_FREE p) (BitVec.ofNat 32 f)
  (if f < s1.regF (Reg.FP_LOW p) 0 22 then s1.setReg (Reg.FP_LOW p) (BitVec.ofNat 32 f) else s1).bump (Reg.FP_ALLOCS p)

section TakeBuf
variable (s : State) (agent p : Nat)

/-- A pool hands out its lowest buffer never allocated (R367). -/
theorem State.takeBuf_fresh (h : (s.pool p).fresh < s.poolCount p) : s.takeBuf agent p
    = some (handleOf p (s.pool p).fresh, s.handOut agent p (s.pool p).fresh { s.pool p with fresh := (s.pool p).fresh + 1 }) := by
  simp only [State.takeBuf, h, if_true]
  rfl

/-- A pool without one hands out the buffer that was freed first (R367). -/
theorem State.takeBuf_freed {k : Nat} {l : List Nat} (h : s.poolCount p ≤ (s.pool p).fresh) (hf : (s.pool p).freed = k :: l) :
    s.takeBuf agent p = some (handleOf p k, s.handOut agent p k { s.pool p with freed := l }) := by
  simp only [State.takeBuf, Nat.not_lt.mpr h, if_false, hf]
  rfl

theorem State.takeBuf_empty (h : s.poolCount p ≤ (s.pool p).fresh) (hf : (s.pool p).freed = []) : s.takeBuf agent p = none := by
  simp only [State.takeBuf, Nat.not_lt.mpr h, if_false, hf]

/-- ALLOC from a pool that has a buffer. -/
theorem State.alloc_of_takeBuf {i : Nat} {t : State} (hp : p < 8) (h : s.takeBuf agent p = some (handleOf p i, t)) :
    s.alloc agent p = (handleOf p i, t) := by
  have hfuel : State.allocFuel agent 8 p s = some (handleOf p i, t) := by simp only [State.allocFuel, h]
  simp only [State.alloc, hfuel, handlePool_handleOf hp, if_true]

/-- ALLOC from an empty pool without a fallback: the null handle (R368). -/
theorem State.alloc_of_empty (h : s.takeBuf agent p = none) (hf : s.cfgBit (Reg.FP_CFG p) 3 = false ∨ s.cfgF (Reg.FP_CFG p) 0 3 ≤ p) :
    s.alloc agent p = (0, s.bump (Reg.FP_EMPTY p)) := by
  have hno : (s.cfgBit (Reg.FP_CFG p) 3 && decide (p < s.cfgF (Reg.FP_CFG p) 0 3)) = false := by
    rcases hf with hf | hf <;> simp [hf]
  have hfuel : State.allocFuel agent 8 p s = none := by
    rw [State.allocFuel, h]
    simp only [hno, Bool.false_eq_true, if_false]
  simp only [State.alloc, hfuel]

end TakeBuf

section HandOut
variable (s : State) (agent p i : Nat) (x : Pool)

theorem State.handOut_mem : (s.handOut agent p i x).mem = s.mem := by
  unfold State.handOut
  dsimp only
  split <;> rfl

theorem State.handOut_now : (s.handOut agent p i x).now = s.now := by
  unfold State.handOut
  dsimp only
  split <;> rfl

theorem State.handOut_pools :
    (s.handOut agent p i x).pools = (s.setPool p { x with owner := tput (fun _ => 0) x.owner i (agent + 1) }).pools := by
  unfold State.handOut
  dsimp only
  split <;> rfl

theorem State.pool_handOut_same : (s.handOut agent p i x).pool p = { x with owner := tput (fun _ => 0) x.owner i (agent + 1) } := by
  rw [State.pool, State.handOut_pools]
  exact State.pool_setPool_same s p _

theorem State.ownerOf_handOut (hp : p < 8) (hi : i < 2 ^ 21) : (s.handOut agent p i x).ownerOf (handleOf p i) = some agent := by
  refine State.ownerOf_of_entry ?_
  rw [handlePool_handleOf hp, handleIndex_handleOf p hi, State.pool_handOut_same, tget_tput_same]

/-- FP_FREE and FP_LOW follow a buffer that is handed out. -/
theorem State.handOut_eq_bump : ∃ t, s.handOut agent p i x = t.bump (Reg.FP_ALLOCS p) ∧ RegsBut s t [Reg.FP_FREE p, Reg.FP_LOW p]
    ∧ t.reg (Reg.FP_FREE p) = BitVec.ofNat 32 (s.regF (Reg.FP_FREE p) 0 22 - 1) := by
  refine ⟨_, rfl, ?_, ?_⟩
  · have hfree := (RegsBut.refl s [Reg.FP_FREE p, Reg.FP_LOW p]).setReg (Reg.FP_FREE p) (BitVec.ofNat 32 (s.regF (Reg.FP_FREE p) 0 22 - 1)) (by simp)
    split
    · exact hfree.setReg (Reg.FP_LOW p) _ (by simp)
    · exact hfree
  · have hne : Reg.FP_FREE p ≠ Reg.FP_LOW p := by simp only [Reg.FP_FREE, Reg.FP_LOW]; omega
    split
    · rw [State.reg_setReg_other _ _ _ _ hne, State.reg_setReg_same]
    · rw [State.reg_setReg_same]

theorem State.reg_handOut_free : (s.handOut agent p i x).reg (Reg.FP_FREE p) = BitVec.ofNat 32 (s.regF (Reg.FP_FREE p) 0 22 - 1) := by
  obtain ⟨t, h, -, hfree⟩ := s.handOut_eq_bump agent p i x
  rw [h, State.reg_bump_other _ _ _ (by simp only [Reg.FP_FREE, Reg.FP_ALLOCS]; omega) (by simp only [Reg.FP_FREE, Reg.FP_ALLOCS]; omega), hfree]

theorem State.counted_handOut : Counted s (s.handOut agent p i x) (Reg.FP_ALLOCS p) 1 := by
  obtain ⟨t, h, hregs, -⟩ := s.handOut_eq_bump agent p i x
  rw [h]
  refine Counted.bump_of_regsBut hregs ?_ ?_ <;>
    simp only [Reg.FP_FREE, Reg.FP_LOW, Reg.FP_ALLOCS, List.mem_cons, List.not_mem_nil, or_false] <;> omega

theorem State.regsBut_handOut : RegsBut s (s.handOut agent p i x) (Reg.FP_FREE p :: Reg.FP_LOW p :: ctr (Reg.FP_ALLOCS p)) := by
  obtain ⟨t, h, hregs, -⟩ := s.handOut_eq_bump agent p i x
  rw [h]
  exact (hregs.mono (by simp [ctr])).bump _ (by simp [ctr]) (by simp [ctr])

end HandOut

/-! ## FREE and GIVE (R366) -/

section Release
variable (s : State) (h : Nat)

theorem State.release_ownerWritten : OwnerWritten s (s.release h) (handlePool h) (handleIndex h) 0 :=
  (s.setPool_ownerWritten _ _ _
    { s.pool (handlePool h) with
      owner := tput (fun _ => 0) (s.pool (handlePool h)).owner (handleIndex h) 0, freed := (s.pool (handlePool h)).freed ++ [handleIndex h] }
    rfl).of_pools rfl

/-- FP_FREE follows a buffer that is freed. -/
theorem State.release_eq_bump : ∃ t, s.release h = t.bump (Reg.FP_FREES (handlePool h)) ∧ RegsBut s t [Reg.FP_FREE (handlePool h)]
    ∧ t.reg (Reg.FP_FREE (handlePool h)) = BitVec.ofNat 32 (s.regF (Reg.FP_FREE (handlePool h)) 0 22 + 1) :=
  ⟨_, rfl, RegsBut.setReg (RegsBut.refl s _) _ _ (by simp), State.reg_setReg_same _ _ _⟩

theorem State.reg_release_free : (s.release h).reg (Reg.FP_FREE (handlePool h))
    = BitVec.ofNat 32 (s.regF (Reg.FP_FREE (handlePool h)) 0 22 + 1) := by
  obtain ⟨t, ht, -, hfree⟩ := s.release_eq_bump h
  rw [ht, State.reg_bump_other _ _ _ (by simp only [Reg.FP_FREE, Reg.FP_FREES]; omega) (by simp only [Reg.FP_FREE, Reg.FP_FREES]; omega), hfree]

theorem State.counted_release : Counted s (s.release h) (Reg.FP_FREES (handlePool h)) 1 := by
  obtain ⟨t, ht, hregs, -⟩ := s.release_eq_bump h
  rw [ht]
  refine Counted.bump_of_regsBut hregs ?_ ?_ <;> simp only [Reg.FP_FREE, Reg.FP_FREES, List.mem_singleton] <;> omega

theorem State.regsBut_release : RegsBut s (s.release h) (Reg.FP_FREE (handlePool h) :: ctr (Reg.FP_FREES (handlePool h))) := by
  obtain ⟨t, ht, hregs, -⟩ := s.release_eq_bump h
  rw [ht]
  exact (hregs.mono (by simp)).bump _ (by simp [ctr]) (by simp [ctr])

end Release

/-- GIVE of a buffer, to the Isaim where the receiver is reserved (R14). -/
def State.giveTo (s : State) (h a : Nat) : State :=
  s.setPool (handlePool h) { s.pool (handlePool h) with
    owner := tput (fun _ => 0) (s.pool (handlePool h)).owner (handleIndex h) ((if agentReserved a then agIsaim else a) + 1) }

@[simp] theorem State.giveTo_regs (s : State) (h a : Nat) : (s.giveTo h a).regs = s.regs := rfl

theorem State.giveTo_ownerWritten (s : State) (h a : Nat) :
    OwnerWritten s (s.giveTo h a) (handlePool h) (handleIndex h) ((if agentReserved a then agIsaim else a) + 1) :=
  s.setPool_ownerWritten _ _ _ _ rfl

section Own
variable {s : State} {agent h : Nat} (hb : s.badHandle h = false) (ho : s.ownerOf h = some agent)
include hb ho

theorem State.freeOrGive_own_free : s.freeOrGive agent h none = (.done, s.release h) := by simp [State.freeOrGive, hb, ho]

theorem State.freeOrGive_own_give (a : Nat) : s.freeOrGive agent h (some a) = (.done, s.giveTo h a) := by
  simp [State.freeOrGive, hb, ho, State.giveTo]

end Own

/-! ## Operations alone in their instant (R367) -/

theorem feltAgent_agent (a : Fin 256) (p x : Nat) : feltAgent (.agent a p x) = a.val := rfl
theorem feltAgent_xop (i : Fin 8) : feltAgent (.xop i) = agGs i := rfl

section Alone
variable {s : State} (hal : s.feltAlone = true)
include hal

theorem State.feltRequest_of_feltAlone (q : FeltReq) : s.feltRequest q = s.serveFelt q := by
  simp only [State.feltAlone, Bool.and_eq_true, List.isEmpty_iff, Bool.not_eq_true'] at hal
  exact State.feltRequest_alone q hal.2 hal.1

theorem exec_alloc_alone {b : FeltBy} {g : Nat} (hg : feltAgent b = g) (hf : s.frozen g = false) : exec (.alloc b) s = .next (s.serveAlloc b) := by
  simp [execAlloc, State.feltRequest_of_feltAlone hal, State.serveFelt, hg, hf]

theorem exec_free_alone {b : FeltBy} {g : Nat} (hg : feltAgent b = g) (hf : s.frozen g = false) : exec (.free b) s = .next (s.serveFree b) := by
  simp [execFree, State.feltRequest_of_feltAlone hal, State.serveFelt, hg, hf]

theorem exec_give_alone {b : FeltBy} {g : Nat} (hg : feltAgent b = g) (hf : s.frozen g = false) : exec (.give b) s = .next (s.serveGive b) := by
  simp [execGive, State.feltRequest_of_feltAlone hal, State.serveFelt, hg, hf]

/-- The operations of a frozen agent stall (R445). -/
theorem State.feltRequest_frozen {q : FeltReq} {b : FeltBy} {g : Nat} (hq : q = .alloc b ∨ q = .free b ∨ q = .give b) (hg : feltAgent b = g)
    (hf : s.frozen g = true) : s.feltRequest q = s := by
  rw [State.feltRequest_of_feltAlone hal]
  rcases hq with rfl | rfl | rfl <;> simp only [State.serveFelt, hg, hf, if_true]

end Alone

theorem FeltReq.rank_alloc (b : FeltBy) : (FeltReq.alloc b).rank = 256 + feltAgent b := rfl
theorem FeltReq.rank_free (b : FeltBy) : (FeltReq.free b).rank = feltAgent b := rfl
theorem FeltReq.rank_give (b : FeltBy) : (FeltReq.give b).rank = feltAgent b := rfl

/-- FREE and GIVE of an instant come before the ALLOC that was held for it (R367). -/
theorem State.feltRequest_beforeAlloc {s : State} {q : FeltReq} {c : FeltBy} {g : Nat} (hq : q.rank = g) (hp : s.pending.any isFelt = false)
    (hg : g < 256) (hh : s.mem.felts = [.alloc c]) :
    s.feltRequest q = (({ s with mem := { s.mem with felts := [] } } : State).serveFelt q).serveFelt (.alloc c) := by
  have hord : ¬ FeltReq.rank (.alloc c) ≤ q.rank := by
    rw [FeltReq.rank_alloc, hq]
    omega
  simp [State.feltRequest, hp, hh, sortBy, insertBy, hord]

@[simp] theorem State.gaveHandle_regs (s : State) (agent h : Nat) : (s.gaveHandle agent h).regs = s.regs := rfl
@[simp] theorem State.gaveHandle_reg (s : State) (agent h a : Nat) : (s.gaveHandle agent h).reg a = s.reg a := rfl
@[simp] theorem State.gaveHandle_pair (s : State) (agent h a : Nat) : (s.gaveHandle agent h).pair a = s.pair a := rfl
@[simp] theorem State.gaveHandle_pools (s : State) (agent h : Nat) : (s.gaveHandle agent h).pools = s.pools := rfl
@[simp] theorem State.gaveHandle_pool (s : State) (agent h p : Nat) : (s.gaveHandle agent h).pool p = s.pool p := rfl
@[simp] theorem State.gaveHandle_ownerOf (s : State) (agent h k : Nat) : (s.gaveHandle agent h).ownerOf k = s.ownerOf k := rfl
@[simp] theorem State.gaveHandle_seq (s : State) (agent h k : Nat) : (s.gaveHandle agent h).seq k = s.seq k := rfl

/-! ## What each operation does -/

section Agent
variable {s : State} {a : Fin 256} {p : Nat} (x : Nat) (hal : s.feltAlone = true) (hfr : s.frozen a = false) (hp : p < 8)
include hal hfr hp

/-- ALLOC by an agent: the manager's answer is its handle. -/
theorem exec_alloc_agent : exec (.alloc (.agent a p x)) s = .next ((s.alloc a p).2.gaveHandle a (s.alloc a p).1) := by
  rw [exec_alloc_alone hal (feltAgent_agent a _ _) hfr, State.serveAlloc, if_neg (by omega)]

/-- ALLOC by an agent from a pool that hands out buffer i. -/
theorem exec_alloc_handOut {i : Nat} {y : Pool} (hi : i < 2 ^ 21) (ht : s.takeBuf a p = some (handleOf p i, s.handOut a p i y)) :
    ∃ t, exec (.alloc (.agent a p x)) s = .next t ∧ t.mem.handles = s.handlesNow ++ [(s.now, a.val, handleOf p i)]
      ∧ t.ownerOf (handleOf p i) = some a.val ∧ t.pool p = { y with owner := tput (fun _ => 0) y.owner i (a.val + 1) }
      ∧ t.reg (Reg.FP_FREE p) = BitVec.ofNat 32 (s.regF (Reg.FP_FREE p) 0 22 - 1) ∧ Counted s t (Reg.FP_ALLOCS p) 1
      ∧ RegsBut s t (Reg.FP_FREE p :: Reg.FP_LOW p :: ctr (Reg.FP_ALLOCS p)) := by
  have hexec := exec_alloc_agent x hal hfr hp
  rw [s.alloc_of_takeBuf a p hp ht] at hexec
  refine ⟨_, hexec, ?_, ?_, ?_, ?_, ?_, ?_⟩
  · simp only [State.gaveHandle, State.handOut_mem, State.handOut_now]
  · rw [State.gaveHandle_ownerOf, s.ownerOf_handOut a p i y hp hi]
  · rw [State.gaveHandle_pool, s.pool_handOut_same]
  · rw [State.gaveHandle_reg, s.reg_handOut_free]
  · rw [Counted, State.gaveHandle_pair]
    exact s.counted_handOut a p i y
  · exact (s.regsBut_handOut a p i y).regs_eq (State.gaveHandle_regs _ _ _)

end Agent

/-- ALLOC by microcode: the handle, or 0, goes into RD. -/
theorem exec_alloc_xop {s : State} {i : Fin 8} {m : MicroWord} {r : Nat × State} (hal : s.feltAlone = true) (hfr : s.frozen (agGs i) = false)
    (hm : s.feltReady i 0 = some m) (hp : ((s.seq i).r m.ra).toNat < 8) (hr : r = s.alloc (agGs i) ((s.seq i).r m.ra).toNat) :
    exec (.alloc (.xop i)) s
      = .next (((r.2.setSeq i ((r.2.seq i).w m.rd (BitVec.ofNat 64 r.1))).gaveHandle (agGs i) r.1).xopDone i m false) := by
  subst hr
  rw [exec_alloc_alone hal (feltAgent_xop i) hfr, State.serveAlloc, hm]
  simp only [Nat.not_le.mpr hp, if_false]

section Buffer
variable {s : State} {h : Nat} (hal : s.feltAlone = true) (hb : s.badHandle h = false)
include hal hb

theorem exec_free_agent {a : Fin 256} (x : Nat) (hfr : s.frozen a = false) (ho : s.ownerOf h = some a.val) :
    exec (.free (.agent a h x)) s = .next (s.release h) := by
  rw [exec_free_alone hal (feltAgent_agent a _ _) hfr, State.serveFree, State.feltOp, State.freeOrGive_own_free hb ho]

theorem exec_give_agent {a : Fin 256} (dst : Nat) (hfr : s.frozen a = false) (ho : s.ownerOf h = some a.val) :
    exec (.give (.agent a h dst)) s = .next (s.giveTo h dst) := by
  rw [exec_give_alone hal (feltAgent_agent a _ _) hfr, State.serveGive, State.feltOp, State.freeOrGive_own_give hb ho]

variable {i : Fin 8} {m : MicroWord} (hfr : s.frozen (agGs i) = false) (hh : h = ((s.seq i).r m.ra).toNat % 2 ^ 32) (ho : s.ownerOf h = some (agGs i))
include hfr hh ho

theorem exec_free_xop (hm : s.feltReady i 1 = some m) : exec (.free (.xop i)) s = .next ((s.release h).xopDone i m false) := by
  subst hh
  rw [exec_free_alone hal (feltAgent_xop i) hfr, State.serveFree, hm]
  simp only [State.feltXop, State.freeOrGive_own_free hb ho]

theorem exec_give_xop (hm : s.feltReady i 2 = some m) :
    exec (.give (.xop i)) s = .next ((s.giveTo h (((s.seq i).r m.rb).toNat % 256)).xopDone i m false) := by
  subst hh
  rw [exec_give_alone hal (feltAgent_xop i) hfr, State.serveGive, hm]
  simp only [State.feltXop, State.freeOrGive_own_give hb ho]

end Buffer

/-- ALLOC by an agent from a pool with a buffer never allocated. -/
theorem exec_alloc_fresh {s : State} {a : Fin 256} {p : Nat} (x : Nat) (hal : s.feltAlone = true) (hfr : s.frozen a = false) (hp : p < 8)
    (hcount : s.poolCount p ≤ 2 ^ 21) (hfresh : (s.pool p).fresh < s.poolCount p) :
    ∃ t, exec (.alloc (.agent a p x)) s = .next t ∧ t.mem.handles = s.handlesNow ++ [(s.now, a.val, handleOf p (s.pool p).fresh)]
      ∧ t.ownerOf (handleOf p (s.pool p).fresh) = some a.val ∧ (t.pool p).fresh = (s.pool p).fresh + 1
      ∧ t.reg (Reg.FP_FREE p) = BitVec.ofNat 32 (s.regF (Reg.FP_FREE p) 0 22 - 1) ∧ Counted s t (Reg.FP_ALLOCS p) 1
      ∧ RegsBut s t (Reg.FP_FREE p :: Reg.FP_LOW p :: ctr (Reg.FP_ALLOCS p)) := by
  obtain ⟨t, hexec, hhandles, howner, hpool, hregs⟩ := exec_alloc_handOut x hal hfr hp (Nat.lt_of_lt_of_le hfresh hcount) (s.takeBuf_fresh a p hfresh)
  exact ⟨t, hexec, hhandles, howner, by rw [hpool], hregs⟩

/-- ALLOC by an agent from a pool whose buffers have all been allocated, and one freed. -/
theorem exec_alloc_freed {s : State} {a : Fin 256} {p k : Nat} {l : List Nat} (x : Nat) (hal : s.feltAlone = true) (hfr : s.frozen a = false)
    (hp : p < 8) (hnone : s.poolCount p ≤ (s.pool p).fresh) (hfreed : (s.pool p).freed = k :: l) (hk : k < 2 ^ 21) :
    ∃ t, exec (.alloc (.agent a p x)) s = .next t ∧ t.mem.handles = s.handlesNow ++ [(s.now, a.val, handleOf p k)]
      ∧ t.ownerOf (handleOf p k) = some a.val ∧ (t.pool p).freed = l ∧ Counted s t (Reg.FP_ALLOCS p) 1 := by
  obtain ⟨t, hexec, hhandles, howner, hpool, -, hcount, -⟩ := exec_alloc_handOut x hal hfr hp hk (s.takeBuf_freed a p hnone hfreed)
  exact ⟨t, hexec, hhandles, howner, by rw [hpool], hcount⟩

/-- ALLOC by an agent from an empty pool without a fallback. -/
theorem exec_alloc_empty {s : State} {a : Fin 256} {p : Nat} (x : Nat) (hal : s.feltAlone = true) (hfr : s.frozen a = false) (hp : p < 8)
    (hnone : s.poolCount p ≤ (s.pool p).fresh) (hfreed : (s.pool p).freed = [])
    (hfall : s.cfgBit (Reg.FP_CFG p) 3 = false ∨ s.cfgF (Reg.FP_CFG p) 0 3 ≤ p) :
    ∃ t, exec (.alloc (.agent a p x)) s = .next t ∧ t.mem.handles = s.handlesNow ++ [(s.now, a.val, 0)] ∧ t.pools = s.pools
      ∧ Counted s t (Reg.FP_EMPTY p) 1 ∧ RegsBut s t (ctr (Reg.FP_EMPTY p)) := by
  have hexec := exec_alloc_agent x hal hfr hp
  rw [s.alloc_of_empty a p (s.takeBuf_empty a p hnone hfreed) hfall] at hexec
  refine ⟨_, hexec, ?_, by simp, ?_, ?_⟩
  · simp [State.gaveHandle]
  · rw [Counted, State.gaveHandle_pair, State.pair_bump]
  · exact ((RegsBut.refl s _).bump _ (by simp [ctr]) (by simp [ctr])).regs_eq (State.gaveHandle_regs _ _ _)

/-- Settles O33: one lemma per operation alone in its instant, and the order of those that share one. -/
theorem feltOperationsMoveOwnership : Obligations.FeltOperationsMoveOwnership := by
  intro s a i m p h dst x
  refine ⟨exec_alloc_agent x, fun hal hfr hp hcount => ⟨fun hfresh => ?_, fun k l hnone hfreed hk => ?_, fun hnone hfreed hfall => ?_⟩,
    fun hal hfr hm hp r hr => ?_, fun hal hfr hb => ⟨fun ho => ?_, fun ho => ?_⟩, fun h' hal hfr hh hb ho => ⟨fun hm => ?_, fun hm => ?_⟩,
    fun b hpend => ?_, fun b c hpend hb hfelts => ?_, fun hal hfr => ?_⟩
  · exact exec_alloc_fresh x hal hfr hp hcount hfresh
  · exact exec_alloc_freed x hal hfr hp hnone hfreed hk
  · exact exec_alloc_empty x hal hfr hp hnone hfreed hfall
  · refine ⟨_, exec_alloc_xop hal hfr hm hp hr, fun hrd => ?_, by simp, by simp, by simp⟩
    rw [State.r_xopDone, State.gaveHandle_seq, State.seq_setSeq_same, SeqSt.r_w, if_pos ⟨rfl, hrd⟩]
  · exact ⟨_, exec_free_agent hal hb x hfr ho, State.ownerOf_of_noEntry (s.release_ownerWritten h).entry,
      fun k => (s.release_ownerWritten h).ownerOf_other, s.reg_release_free h, s.counted_release h, s.regsBut_release h⟩
  · exact ⟨_, exec_give_agent hal hb dst hfr ho, State.ownerOf_of_entry (s.giveTo_ownerWritten h dst).entry,
      fun k => (s.giveTo_ownerWritten h dst).ownerOf_other, s.giveTo_regs h dst⟩
  · exact exec_free_xop hal hb hfr hh ho hm
  · exact ⟨_, exec_give_xop hal hb hfr hh ho hm, by simp, by simp, State.ownerOf_of_entry (s.giveTo_ownerWritten h' _).entry⟩
  · simp [execAlloc, execFree, execGive, State.feltRequest_holds _ hpend]
  · simp only [exec_free, exec_give, execFree, execGive]
    rw [State.feltRequest_beforeAlloc (FeltReq.rank_free b) hpend hb hfelts, State.feltRequest_beforeAlloc (FeltReq.rank_give b) hpend hb hfelts]
    exact ⟨rfl, rfl⟩
  · simp only [exec_alloc, exec_free, exec_give, execAlloc, execFree, execGive]
    rw [State.feltRequest_frozen hal (.inl rfl) (feltAgent_agent a _ _) hfr, State.feltRequest_frozen hal (.inr (.inl rfl)) (feltAgent_agent a _ _) hfr,
      State.feltRequest_frozen hal (.inr (.inr rfl)) (feltAgent_agent a _ _) hfr]
    exact ⟨rfl, rfl, rfl⟩

end Sys2Proof.Machine
end

section
/-!
PROOFS. What a unit's job and its completion record read as (R94, R404), and the decode cores (R19, R108 to R110, R137, R144).
-/
namespace Sys2Proof.Machine

section UnitJobs
variable (s : State) (agent : Nat)

@[simp] theorem State.unit_showUnit (k : Nat) : (s.showUnit agent).unit k = s.unit k := rfl

/-- A unit that is given a job has it. -/
@[simp] theorem State.job_startJob_same (j : Job) (slot : Nat) (restarted : Bool) :
    ((s.startJob agent j slot restarted).unit agent).job = some j := by
  simp [State.startJob]

/-- A unit whose job ends has none. -/
@[simp] theorem State.job_endJob_same : ((s.endJob agent).unit agent).job = none := by
  simp [State.endJob]

@[simp] theorem State.sendRecord_now (dest kind slot leafSeq status value since : Nat) :
    (s.sendRecord agent dest kind slot leafSeq status value since).now = s.now := rfl

@[simp] theorem State.unit_sendRecord (dest kind slot leafSeq status value since k : Nat) :
    (s.sendRecord agent dest kind slot leafSeq status value since).unit k = s.unit k := rfl

/-- The record that a unit has sent is the one that it holds (R404). -/
theorem State.heldRec_sendRecord_same (dest kind slot leafSeq status value since : Nat) :
    ∃ h, (s.sendRecord agent dest kind slot leafSeq status value since).heldRec agent = some h ∧ h.rcd.kind = kind ∧ h.rcd.slot = slot
      ∧ h.rcd.leafSeq = leafSeq ∧ h.rcd.unit = unitIndex agent ∧ h.raised = s.now :=
  ⟨_, tget_tput_same _ _ _ _, rfl, rfl, rfl, rfl, rfl⟩

end UnitJobs

theorem unitIndex_agDc (c : Nat) : unitIndex (agDc c) = c := Nat.add_sub_cancel_left _ _

/-! ## Dispatch (R108 to R110, R137) -/

theorem execDecodeDispatch_codingOff {s : State} (hoff : s.codingOn = false) (poison : Bool) : execDecodeDispatch poison s = .next s := by
  simp [execDecodeDispatch, hoff]

theorem execDecodeDispatch_codingOn {s u : State} (hon : s.codingOn = true)
    (hu : u = (s.contexts (fun st => st == 2 || st == 3)).foldl State.skipPics s) (poison : Bool) :
    execDecodeDispatch poison s = .next (State.dispatchFirst poison u.readyList u) := by
  simp [execDecodeDispatch, hon, hu]

section First
variable {s : State} {n c : Nat} (hc : s.chooseUnit 0x40 64 (s.lastCore n) = some c)
include hc

/-- The record of the first ready context reads without poison and its picture finds its buffers: it is dispatched, and no other one. -/
theorem State.dispatchFirst_taken {poison : Bool} {t : State} (ns : List Nat) (hmark : (s.touchRecord c n).1 = false)
    (hread : poison = false ∨ s.cached n = true) (ht : (s.touchRecord c n).2.dispatchCtx n c = some t) :
    State.dispatchFirst poison (n :: ns) s = t := by
  have hclean : (poison && !s.cached n) = false := by simpa [imp_iff_not_or] using hread
  simp [State.dispatchFirst, hc, hmark, hclean, ht]

/-- The read of the first ready context's record returns poison (R110). -/
theorem State.dispatchFirst_poisoned {poison : Bool} (ns : List Nat)
    (hbad : (s.touchRecord c n).1 = true ∨ (poison = true ∧ s.cached n = false)) :
    State.dispatchFirst poison (n :: ns) s = ((s.touchRecord c n).2.recordPoison n c).skipPics n := by
  have htest : ((s.touchRecord c n).1 || (poison && !s.cached n)) = true := by simpa using hbad
  simp only [State.dispatchFirst, hc, htest, if_true]

end First

/-- A dispatch ends with the start of the core's job and the core's number in CTX_CORE (R90). -/
theorem State.dispatchCtx_eq_some {s t : State} {n core : Nat} (h : s.dispatchCtx n core = some t) :
    ∃ (u : State) (restarted : Bool), t = (u.startJob core (.decode n) n restarted).setRegF (Reg.CTX_CORE n) 0 8 core := by
  unfold State.dispatchCtx at h
  -- No picture, no stand-ins, no room in the DPB, no buffers: each leaves the context undispatched.
  iterate 4
    split at h
    · cases h
  cases h
  exact ⟨_, _, rfl⟩

theorem State.job_of_dispatchCtx {s t : State} {n core : Nat} (h : s.dispatchCtx n core = some t) : (t.unit core).job = some (.decode n) := by
  obtain ⟨u, restarted, rfl⟩ := State.dispatchCtx_eq_some h
  simp

theorem State.ctxCore_of_dispatchCtx {s t : State} {n core : Nat} (h : s.dispatchCtx n core = some t) :
    t.regF (Reg.CTX_CORE n) 0 8 = core % 256 := by
  obtain ⟨u, restarted, rfl⟩ := State.dispatchCtx_eq_some h
  exact State.regF_setRegF_same _ _ _ _ _ (by decide)

/-! ## A picture without buffers at its deadline (R144) -/

theorem execDecodeAllocFailure_due {s : State} {n : Fin 1024} {a : Au} {l : List Au} (hq : (s.ctx n).queue = a :: l) (hw : a.waited = true)
    (hb : (s.ctx n).busy = none) (hd : s.deadline n ≤ s.now) :
    execDecodeAllocFailure n s = .next ((((s.setCtx n { s.ctx n with queue := l, skip := some 7 }).absentPic n a 7).dropMarks n).skipPics n) := by
  simp [execDecodeAllocFailure, hq, hw, hb, hd]

/-! ## A finished picture (R137, R404) -/

/-- A core that finishes its picture ends its job and sends the record of it, whatever the picture's reads found. -/
theorem execDecodePictureDone_eq {s : State} {c : Fin 64} {n : Nat} {j : DecJob} (po : DecPoison) (hjob : (s.unit (agDc c)).job = some (.decode n))
    (hbusy : (s.ctx n).busy = some j) (hunit : j.unit = agDc c) (hfr : s.frozen (agDc c) = false) (hheld : s.heldRec (agDc c) = none) :
    ∃ (u : State) (dest status value since : Nat), execDecodePictureDone c po s
      = .next ((u.endJob (agDc c)).sendRecord (agDc c) dest 0 n j.au.seq status value since) := by
  simp only [execDecodePictureDone, hjob, hbusy, hunit, hfr, hheld, ne_eq, not_true_eq_false, Bool.false_eq_true, Option.isSome_none, or_self, if_false]
  exact ⟨_, _, _, _, _, rfl⟩

/-- The end of a picture takes no time: it is no part of the command's footprint. -/
theorem now_of_decodePictureDone {s t : State} {c : Fin 64} {po : DecPoison} (h : exec (.decodePictureDone c po) s = .next t) : t.now = s.now :=
  everyCommandKeepsItsFrame (.decodePictureDone c po) s t .now h (by simp [footprint])

theorem exec_decodePictureDone_record {s : State} {c : Fin 64} {n : Nat} {j : DecJob} (po : DecPoison) (hjob : (s.unit (agDc c)).job = some (.decode n))
    (hbusy : (s.ctx n).busy = some j) (hunit : j.unit = agDc c) (hfr : s.frozen (agDc c) = false) (hheld : s.heldRec (agDc c) = none) :
    ∃ t h, exec (.decodePictureDone c po) s = .next t ∧ (t.unit (agDc c)).job = none ∧ t.heldRec (agDc c) = some h ∧ h.rcd.kind = 0
      ∧ h.rcd.slot = n ∧ h.rcd.leafSeq = j.au.seq ∧ h.rcd.unit = c.val ∧ h.raised = s.now := by
  obtain ⟨u, dest, status, value, since, hexec⟩ := execDecodePictureDone_eq po hjob hbusy hunit hfr hheld
  obtain ⟨h, hrec, hkind, hslot, hleaf, hindex, hraised⟩ :=
    (u.endJob (agDc c)).heldRec_sendRecord_same (agDc c) dest 0 n j.au.seq status value since
  have hnow := now_of_decodePictureDone hexec
  rw [State.sendRecord_now] at hnow
  exact ⟨_, h, hexec, by simp, hrec, hkind, hslot, hleaf, hindex.trans (unitIndex_agDc c), hraised.trans hnow⟩

/-- Settles O57: a dispatch by what the record's read finds and the job it starts, then the other commands by their equations. -/
theorem decodeTakesAndFinishesPictures : Obligations.DecodeTakesAndFinishesPictures := by
  intro s
  refine ⟨fun u n ns c r hon hu hready hcore hr => ⟨fun poison t hmark hread ht => ?_, fun hmark poison => ?_, fun hmiss => ?_⟩,
    execDecodeDispatch_codingOff, fun n a l hq hw hb hd => execDecodeAllocFailure_due hq hw hb hd,
    fun c po n j hjob hbusy hunit hfr hheld => exec_decodePictureDone_record po hjob hbusy hunit hfr hheld, fun _ => rfl⟩
  all_goals
    subst hr
    have hexec (p : Bool) : exec (.decodeDispatch p) s = .next (State.dispatchFirst p (n :: ns) u) := by
      rw [exec_decodeDispatch, execDecodeDispatch_codingOn hon hu, hready]
  · exact ⟨by rw [hexec, State.dispatchFirst_taken hcore ns hmark hread ht], State.job_of_dispatchCtx ht, State.ctxCore_of_dispatchCtx ht⟩
  · rw [hexec, State.dispatchFirst_poisoned hcore ns (.inl hmark)]
  · rw [hexec, State.dispatchFirst_poisoned hcore ns (.inr ⟨rfl, hmiss⟩)]

end Sys2Proof.Machine
end

section
/-!
PROOFS. Link state (R30, R31, R34) and discarded frames (R28, R36, R43).
-/
namespace Sys2Proof.Machine

/-! ## Link up and link down (R30, R34, R38, R313) -/

/-- The manifest's boot-time resend counts the frames that it starts and changes no other register. -/
theorem State.resendManifest_regsBut (s : State) (p : Nat) : RegsBut s (s.resendManifest p) (ctr (Reg.PRT_TX_FRAMES p)) := by
  unfold State.resendManifest
  split
  · exact RegsBut.refl s _
  · exact (RegsBut.refl s _).foldl _ fun u f h => h.transmit p f (by simp [ctr]) (by simp [ctr])

theorem prtStatus_notMem_txOrEv {p : Nat} : Reg.PRT_STATUS p ∉ ctr (Reg.PRT_TX_FRAMES p) ++ evRegs := by
  rw [List.mem_append, not_or]
  refine ⟨?_, notEv_of_ge _ (by unfold Reg.PRT_STATUS; omega)⟩
  simp only [ctr, Reg.PRT_STATUS, Reg.PRT_TX_FRAMES, List.mem_cons, List.not_mem_nil, or_false]
  omega

/-- PRT_STATUS of a port that declares link up: LINK, and the change bit (R34). -/
def State.showUp (s : State) (p : Nat) : State := (s.setRegBit (Reg.PRT_STATUS p) 0 true).setRegBit (Reg.PRT_STATUS p) 8 true

/-- Once PRT_STATUS shows link up, what follows changes no register but the counters of frames and events. -/
theorem State.declareUp_regsBut (s : State) (p : Nat) : RegsBut (s.showUp p) (s.declareUp p) (ctr (Reg.PRT_TX_FRAMES p) ++ evRegs) := by
  have hann : RegsBut (s.showUp p) ((s.showUp p).announceLink p) (ctr (Reg.PRT_TX_FRAMES p) ++ evRegs) :=
    (RegsBut.refl _ _).portOnly (State.announceLink_portOnly _ p)
  have hres := hann.trans ((State.resendManifest_regsBut _ p).mono fun a ha => List.mem_append_left evRegs ha)
  exact (hres.setPort p _).raiseEv (72 + p) fun a ha => List.mem_append_right _ ha

theorem State.showUp_regsBut (s : State) (p : Nat) : RegsBut s (s.showUp p) [Reg.PRT_STATUS p] :=
  ((RegsBut.refl s _).setRegBit _ 0 true (by simp)).setRegBit _ 8 true (by simp)

/-- Declaring link up: LINK and the change bit of PRT_STATUS, and the mark of R313. -/
theorem State.declareUp_spec (s : State) (p : Nat) : (s.declareUp p).linkUp p = true ∧ (s.declareUp p).regBit (Reg.PRT_STATUS p) 8 = true
    ∧ ((s.declareUp p).port p).firstUp = true ∧ RegsBut s (s.declareUp p) (Reg.PRT_STATUS p :: ctr (Reg.PRT_TX_FRAMES p) ++ evRegs) := by
  have hreg : (s.declareUp p).reg (Reg.PRT_STATUS p) = (s.showUp p).reg (Reg.PRT_STATUS p) := s.declareUp_regsBut p _ prtStatus_notMem_txOrEv
  have hbit (i : Nat) : (s.declareUp p).regBit (Reg.PRT_STATUS p) i = (s.showUp p).regBit (Reg.PRT_STATUS p) i := by rw [State.regBit, hreg, State.regBit]
  refine ⟨?_, ?_, by simp [State.declareUp], ?_⟩
  · rw [State.linkUp, hbit, State.showUp, State.regBit_setRegBit_bit _ _ _ _ _ (by decide), State.regBit_setRegBit_same _ _ _ _ (by decide)]
  · rw [hbit, State.showUp, State.regBit_setRegBit_same _ _ _ _ (by decide)]
  · refine RegsBut.trans ((s.showUp_regsBut p).mono ?_) ((s.declareUp_regsBut p).mono ?_)
    · simp
    · exact fun a ha => List.mem_cons_of_mem _ ha

theorem execHiBer_spec (p : Fin 4) (s : State) : ∃ t, execHiBer p s = .next t ∧ t.linkUp p = false ∧ t.regBit (Reg.PRT_STATUS p) 9 = true
    ∧ RegsBut s t (Reg.PRT_STATUS p :: ctr (Reg.PRT_LINK_DOWNS p) ++ evRegs) := by
  obtain ⟨hdown, -, hregs⟩ := s.declareDown_spec p p.isLt
  refine ⟨_, rfl, ?_, State.regBit_setRegBit_same _ _ _ _ (by decide), hregs.setRegBit _ 9 true (by simp)⟩
  rw [State.linkUp, State.regBit_setRegBit_bit _ _ _ _ _ (by decide)]
  exact hdown

/-! ## Training (R31) -/

theorem execTrainingDone_spec {p : Fin 4} {s : State} (fec : Nat) (hphy : s.cfgF (Reg.PRT_CFG p) 2 2 ≠ 0) :
    ∃ t, execTrainingDone p fec s = .next t ∧ (t.port p).trained = true ∧ t.regBit (Reg.PRT_STATUS p) 2 = true
      ∧ RegsBut s t [Reg.PRT_STATUS p] := by
  simp only [execTrainingDone, if_neg hphy]
  refine ⟨_, rfl, ?_, State.regBit_setRegBit_same _ _ _ _ (by decide), ?_⟩
  · split <;> simp
  · have hport := (RegsBut.refl s [Reg.PRT_STATUS p]).setPort p { s.port p with trained := true }
    exact ((hport.setRegF _ 3 2 _ (by simp)).ite hport).setRegBit _ 2 true (by simp)

/-- Settles O1: link up and link down by what declaring them does, training and block lock by what they write. -/
theorem linkCommandsSetPortStatus : Obligations.LinkCommandsSetPortStatus := by
  intro p s
  have hlock (b : Bool) : RegsBut s ((s.setPort p { s.port p with lockTick := s.now }).setRegBit (Reg.PRT_STATUS p) 1 b) [Reg.PRT_STATUS p] :=
    ((RegsBut.refl s _).setPort p _).setRegBit _ 1 b (by simp)
  refine ⟨fun hdue => ?_, fun hbit hlate hup => ?_, execHiBer_spec p s, fun fec hphy => execTrainingDone_spec fec hphy, ?_, ?_⟩
  · exact ⟨s.declareUp p, by simp [execLinkUp, hdue], s.declareUp_spec p⟩
  · obtain ⟨hdown, hdo, hregs⟩ := s.declareDown_spec p p.isLt
    obtain ⟨hchange, hcount, hsysq, hwaiting, hsegs⟩ := hdo hup
    exact ⟨s.declareDown p, by simp [execLinkDown, hbit, hlate], hdown, hchange, hcount, hsysq, hwaiting, hsegs, hregs⟩
  · exact ⟨_, rfl, by simp, State.regBit_setRegBit_same _ _ _ _ (by decide), hlock true⟩
  · exact ⟨_, rfl, by simp, State.regBit_setRegBit_same _ _ _ _ (by decide), hlock false⟩

/-! ## Discarded frames (R36, R43) -/

/-- A frame that is discarded counts once, and changes no other register. -/
theorem State.discard_spec (s : State) (a : Nat) : Counted s (s.discard a) a 1 ∧ RegsBut s (s.discard a) (ctr a) :=
  ⟨s.pair_discard a, (RegsBut.refl s _).bump a (by simp [ctr]) (by simp [ctr])⟩

/-- Settles O2: either command discards the frame into the counter of the check that it fails first. -/
theorem discardedFramesCountOnce : Obligations.DiscardedFramesCountOnce := by
  intro f s c hopen
  refine ⟨fun hfail => ⟨s.discard c, ?_, s.discard_spec c⟩, fun hfail => ⟨s.discard c, ?_, s.discard_spec c⟩⟩
  · simp [execPauseFrame, hopen, hfail]
  · simp [execDiscardedFrame, hopen, hfail]

end Sys2Proof.Machine
end

section
/-!
PROOFS. The responders of R38 and R515.
-/
namespace Sys2Proof.Machine

section Accepted
variable {s u : State} {p : Nat}

theorem CtlKept.sysq (h : CtlKept s u p) : (u.port p).sysq = (s.port p).sysq := by
  obtain ⟨c, hc⟩ := h.own
  rw [hc]

theorem CtlKept.echoes (h : CtlKept s u p) : (u.port p).echoes = (s.port p).echoes := by
  obtain ⟨c, hc⟩ := h.own
  rw [hc]

end Accepted

/-- A command that sends an answer with a known MAC to a frame that the headbox has passed: the answer is the last frame of the receiving port's system
queue, and the frame received counts. -/
theorem answered_of_exec {c : Instr} {f : RxFrame} {s : State} {b : Bool} {g : OutFrame} (hpass : (s.acceptCtl f b).2 = true) (hmac : g.mac.isSome = true)
    (hexec : exec c s = .next ((s.acceptCtl f b).1.send f.port g)) :
    ∃ t, exec c s = .next t ∧ (t.port f.port).sysq = (s.port f.port).sysq ++ [g] ∧ Counted s t (Reg.PRT_RX_FRAMES f.port) 1
      ∧ RegsBut s t (ctr (Reg.PRT_RX_FRAMES f.port) ++ evRegs) := by
  obtain ⟨hup, -, hfail, hkept⟩ := s.acceptCtl_spec f b hpass
  obtain ⟨mac, hm⟩ := Option.isSome_iff_exists.mp hmac
  rw [State.send_mac _ _ _ mac ((hkept.linkUp f.port.isLt).trans hup) (by rw [hkept.power, hfail]) hm] at hexec
  exact ⟨_, hexec, by simp [hkept.sysq], hkept.counted, hkept.regs⟩

/-- The reply to an echo request. -/
def State.echoReply (s : State) (f : RxFrame) : OutFrame :=
  if f.proto = some 1 then ipFrame .icmpReply 1 f.srcIp (some f.srcMac) false (icmp4 0 (f.payload.drop 4))
  else ipFrame .icmpReply 58 f.srcIp (some f.srcMac) false (icmp6 (s.srcFor f.port f.srcIp) f.srcIp 129 (f.payload.drop 4))

theorem State.mac_echoReply (s : State) (f : RxFrame) : (s.echoReply f).mac = some f.srcMac := by
  unfold State.echoReply
  split <;> rfl

/-- An echo request within the window's limit is counted against it and answered. -/
theorem execIcmpEchoRequest_below {f : RxFrame} {s u : State} (hu : (s.acceptCtl f (s.otherPermitted f)).1 = u)
    (hpass : (s.acceptCtl f (s.otherPermitted f)).2 = true) (hecho : f.isEchoRequest = true) (hmax : (u.port f.port).echoes < 100) :
    execIcmpEchoRequest f s
      = .next ((u.setPort f.port { u.port f.port with echoes := (u.port f.port).echoes + 1 }).send f.port (s.echoReply f)) := by
  simp only [execIcmpEchoRequest, hu, hpass, hecho, Bool.not_true, Bool.or_self, Bool.false_eq_true, if_false, if_neg (Nat.not_le.mpr hmax), State.echoReply]

theorem exec_icmpEchoRequest_answered {f : RxFrame} {s : State} (hpass : (s.acceptCtl f (s.otherPermitted f)).2 = true) (hecho : f.isEchoRequest = true)
    (hmax : (s.port f.port).echoes < 100) : ∃ t, exec (.icmpEchoRequest f) s = .next t ∧ (t.port f.port).echoes = (s.port f.port).echoes + 1
      ∧ (t.port f.port).sysq = (s.port f.port).sysq ++ [s.echoReply f] ∧ Counted s t (Reg.PRT_RX_FRAMES f.port) 1
      ∧ RegsBut s t (ctr (Reg.PRT_RX_FRAMES f.port) ++ evRegs) := by
  obtain ⟨hup, -, hfail, hkept⟩ := s.acceptCtl_spec f _ hpass
  have hexec := execIcmpEchoRequest_below rfl hpass hecho (hkept.echoes ▸ hmax)
  rw [State.send_mac (hm := s.mac_echoReply f)] at hexec
  · exact ⟨_, hexec, by simp [hkept.echoes], by simp [hkept.sysq], hkept.counted, hkept.regs⟩
  · exact (hkept.linkUp f.port.isLt).trans hup
  · exact hkept.power ▸ hfail

/-- Settles O3: each query's command sends its answer, with the MAC known, from the state in which the query has been accepted. -/
theorem respondersAnswerOnTheReceivingPort : Obligations.RespondersAnswerOnTheReceivingPort := by
  intro f s
  refine ⟨fun hpass harp hop hon htarget => ?_, fun hpass hicmp htarget => ?_, fun hpass hicmp => ?_, fun hpass hproto htype hport htrans => ?_,
    exec_icmpEchoRequest_answered⟩
  · refine answered_of_exec hpass rfl ?_
    simp [execArpRequest, hpass, harp, hop, hon, htarget]
  · refine answered_of_exec hpass (by split <;> rfl) ?_
    by_cases hun : isUnspecified f.srcIp = true <;> simp [execNeighborSolicitation, hpass, hicmp, htarget, hun]
  · refine answered_of_exec hpass rfl ?_
    simp [execMldQuery, hpass, hicmp]
  · refine answered_of_exec hpass rfl ?_
    simp [execIgmpQuery, hpass, hproto, htype, hport, htrans]

end Sys2Proof.Machine
end

section
/-!
PROOFS. Neighbour resolution (R39) and the windows of R515.
-/
namespace Sys2Proof.Machine

/-! ## Several changes one after another -/

/-- Frames that are queued one after another on a port whose link is up stand at the end of its queue, in order. -/
theorem State.foldl_enqueue_port {p : Nat} (l : List OutFrame) {s : State} (hup : s.linkUp p = true) (hfail : s.power.failing = false) :
    (l.foldl (fun t f => t.enqueue p f) s).port p = { s.port p with sysq := (s.port p).sysq ++ l } := by
  induction l generalizing s with
  | nil => simp
  | cons f l ih =>
    rw [List.foldl_cons, State.enqueue_eq s p f hup hfail, ih]
    · simp
    · exact hup
    · exact hfail

theorem State.foldl_enqueue_regs (l : List OutFrame) (s : State) (p : Nat) : (l.foldl (fun t f => t.enqueue p f) s).regs = s.regs :=
  (PortOnly.foldl l s fun t f => t.enqueue_portOnly p f).regs

/-- Partners whose addresses become reachable or unreachable together (R39). -/
def State.markUnreachable (b : Bool) (s : State) (l : List Nat) : State :=
  l.foldl (fun t n => t.setPartner n { t.partner n with unreachable := b }) s

section MarkUnreachable
variable (b : Bool) (s : State) (l : List Nat)

@[simp] theorem State.markUnreachable_regs : (s.markUnreachable b l).regs = s.regs :=
  List.foldlRecOn (motive := fun t : State => t.regs = s.regs) l _ rfl fun _ h _ _ => h

@[simp] theorem State.port_markUnreachable (p : Nat) : (s.markUnreachable b l).port p = s.port p :=
  List.foldlRecOn (motive := fun t : State => t.port p = s.port p) l _ rfl fun _ h _ _ => h

theorem State.unreachable_markUnreachable {n : Nat} (h : n ∈ l ∨ (s.partner n).unreachable = b) :
    ((s.markUnreachable b l).partner n).unreachable = b := by
  induction l generalizing s with
  | nil => exact h.resolve_left List.not_mem_nil
  | cons k l ih =>
    refine ih _ ?_
    by_cases hk : n = k
    · subst hk
      simp
    · rw [State.partner_setPartner_other _ _ _ _ hk]
      simpa [hk] using h

end MarkUnreachable

/-! ## A reply (R39) -/

/-- An entry as a reply leaves it: resolved for 300 s. -/
def Nbr.learn (e : Nbr) (mac now : Nat) : Nbr := { e with mac, state := .resolved, expires := now + sT 300, tries := 0, refreshed := false }

/-- The frames of a port that wait for an address, with the MAC that a reply gives them. -/
def State.released (s : State) (p ip mac : Nat) : List OutFrame :=
  ((s.port p).waiting.filter (fun w => s.nextHop p w.1.dstIp == ip)).map (fun w => { w.1 with mac := some mac })

/-- What a reply for an entry of the table does. -/
theorem State.resolved_known {s : State} {p ip : Nat} {e : Nbr} (he : (s.port p).nbr? ip = some e) (mac : Nat) :
    s.resolved p ip mac = State.markUnreachable false
      ((s.released p ip mac).foldl (fun t f => t.enqueue p f) (s.setPort p { s.port p with
        nbrs := (s.port p).nbrs.map (fun n => if n.ip = ip then e.learn mac s.now else n)
        waiting := (s.port p).waiting.filter (fun w => s.nextHop p w.1.dstIp != ip) }))
      (s.partnersOn.filter (fun n => s.ptnPort n == p && s.nextHop p (s.ptnIp n) == ip)) := by
  simp only [State.resolved, he]
  rfl

/-- The entry is resolved and the frames that wait for it are queued; no register changes. -/
theorem State.resolved_spec {s : State} {p ip : Nat} {e : Nbr} (he : (s.port p).nbr? ip = some e) (mac : Nat) (hup : s.linkUp p = true)
    (hfail : s.power.failing = false) :
    ((s.resolved p ip mac).port p).nbrs = (s.port p).nbrs.map (fun n => if n.ip = ip then e.learn mac s.now else n)
    ∧ ((s.resolved p ip mac).port p).sysq = (s.port p).sysq ++ s.released p ip mac ∧ (s.resolved p ip mac).regs = s.regs := by
  rw [State.resolved_known he, State.port_markUnreachable, State.foldl_enqueue_port, State.markUnreachable_regs, State.foldl_enqueue_regs]
  · simp
  · exact hup
  · exact hfail

theorem State.nextHop_of_eff {s t : State} (h : t.eff = s.eff) : t.nextHop = s.nextHop := by
  unfold State.nextHop State.ip4 State.ip6 State.ipReg State.cfgBytes State.cfgF State.cfg
  rw [h]

/-- A command that resolves an entry after the headbox has passed its frame. -/
theorem resolved_of_exec {c : Instr} {f : RxFrame} {s : State} {b : Bool} {ip mac : Nat} {e : Nbr} (hpass : (s.acceptCtl f b).2 = true)
    (he : (s.port f.port).nbr? ip = some e) (hexec : exec c s = .next ((s.acceptCtl f b).1.resolved f.port ip mac)) :
    ∃ t, exec c s = .next t ∧ (t.port f.port).nbrs = (s.port f.port).nbrs.map (fun n => if n.ip = ip then e.learn mac s.now else n)
      ∧ (t.port f.port).sysq = (s.port f.port).sysq ++ s.released f.port ip mac ∧ RegsBut s t (ctr (Reg.PRT_RX_FRAMES f.port) ++ evRegs) := by
  obtain ⟨hup, -, hfail, hkept⟩ := s.acceptCtl_spec f b hpass
  obtain ⟨bucket, hport⟩ := hkept.own
  have he' : ((s.acceptCtl f b).1.port f.port).nbr? ip = some e := by rw [hport]; exact he
  obtain ⟨hnbrs, hsysq, hregs⟩ := State.resolved_spec he' mac ((hkept.linkUp f.port.isLt).trans hup) (hkept.power ▸ hfail)
  refine ⟨_, hexec, ?_, ?_, hkept.regs.regs_eq hregs⟩
  · rw [hnbrs, hport, hkept.now]
  · rw [hsysq, State.released, State.nextHop_of_eff hkept.eff, hport, State.released]

/-! ## Requests sent again (R39) -/

/-- A command that changes the table and sends a request. -/
theorem asked_of_exec {c : Instr} {s : State} {p : Nat} {nbrs : List Nbr} {g : OutFrame} (hup : s.linkUp p = true) (hfail : s.power.failing = false)
    (hexec : exec c s = .next ((s.setPort p { s.port p with nbrs := nbrs }).enqueue p g)) :
    ∃ t, exec c s = .next t ∧ (t.port p).nbrs = nbrs ∧ (t.port p).sysq = (s.port p).sysq ++ [g] ∧ t.regs = s.regs := by
  rw [State.enqueue_eq] at hexec
  · exact ⟨_, hexec, by simp, by simp, rfl⟩
  · exact hup
  · exact hfail

/-- After the third failure the entry goes, and its partners are unreachable. -/
theorem exec_neighbourRetryTimeout_last {s : State} {p : Fin 4} {ip : Nat} {e : Nbr} (he : (s.port p).nbr? ip = some e)
    (hge : 3 ≤ e.tries) (hdue : e.retryAt ≤ s.now) : ∃ t, exec (.neighbourRetryTimeout p ip) s = .next t ∧ (t.port p).nbr? ip = none
    ∧ (∀ n, n ∈ s.partnersOn → s.ptnPort n = p.val → s.nextHop p (s.ptnIp n) = ip → (t.partner n).unreachable = true) ∧ t.regs = s.regs := by
  have hact : ¬ (e.tries = 0 ∨ s.now < e.retryAt) := by omega
  have hexec : exec (.neighbourRetryTimeout p ip) s = .next (State.markUnreachable true
      (s.setPort p { s.port p with nbrs := (s.port p).nbrs.filter (fun n => n.ip != ip) })
      (s.partnersOn.filter (fun n => s.ptnPort n == p.val && s.nextHop p (s.ptnIp n) == ip))) := by
    simp only [exec_neighbourRetryTimeout, execNeighbourRetryTimeout, he, if_neg hact, if_neg (Nat.not_lt.mpr hge)]
    rfl
  refine ⟨_, hexec, ?_, fun n hon hport hhop => State.unreachable_markUnreachable _ _ _ (.inl ?_), by simp⟩
  · simp [PortSt.nbr?]
  · simp [hon, hport, hhop]

/-! ## Windows (R515) -/

/-- A port in the list begins its window anew. -/
theorem State.foldl_newWindow {p : Nat} (l : List Nat) {s : State} (h : p ∈ l ∨ ((s.port p).echoes = 0 ∧ (s.port p).hellos = 0)) :
    ((l.foldl (fun t q => t.setPort q { t.port q with echoes := 0, hellos := 0 }) s).port p).echoes = 0
    ∧ ((l.foldl (fun t q => t.setPort q { t.port q with echoes := 0, hellos := 0 }) s).port p).hellos = 0 := by
  induction l generalizing s with
  | nil => exact h.resolve_left List.not_mem_nil
  | cons q l ih =>
    refine ih ?_
    by_cases hq : p = q
    · subst hq
      simp
    · rw [State.port_setPort_other _ _ _ _ hq]
      simpa [hq] using h

theorem exec_rateWindowRollover_due {s : State} {p : Fin 4} (hdue : s.net.winAt + sT 1 ≤ s.now) : ∃ t, exec .rateWindowRollover s = .next t
    ∧ (t.port p).echoes = 0 ∧ (t.port p).hellos = 0 ∧ t.net.winAt = s.now / sT 1 * sT 1 ∧ t.regs = s.regs := by
  simp only [exec_rateWindowRollover, execRateWindowRollover, if_neg (Nat.not_lt.mpr hdue)]
  obtain ⟨hechoes, hhellos⟩ := State.foldl_newWindow (p := p) (List.range 4) (s := s) (.inl (List.mem_range.mpr p.isLt))
  refine ⟨_, rfl, hechoes, hhellos, rfl, ?_⟩
  exact List.foldlRecOn (motive := fun t : State => t.regs = s.regs) _ _ rfl fun _ h _ _ => h

/-- Settles O4: a reply by what resolving an entry does, a request sent again by what asking does, the last failure and the windows each by its lemma. -/
theorem neighbourTableFollowsResolution : Obligations.NeighbourTableFollowsResolution := by
  intro p s
  refine ⟨fun f e hp hpass => ?_, fun ip e he hup hfail => ⟨fun hst hre hend => asked_of_exec hup hfail ?_,
    fun hpos hlt hdue => asked_of_exec hup hfail ?_, exec_neighbourRetryTimeout_last he⟩, ⟨_, rfl, by simp, by simp, rfl⟩,
    exec_rateWindowRollover_due⟩
  · subst hp
    refine ⟨fun harp hop he => resolved_of_exec hpass he ?_, fun hicmp hopt he => resolved_of_exec hpass he ?_⟩
    · simp [execArpReply, hpass, harp, hop]
    · simp [execNeighborAdvertisement, hpass, hicmp, hopt]
  · simp [execNeighbourRefresh, he, hst, hre, hend]
  · have hact : ¬ (e.tries = 0 ∨ s.now < e.retryAt) := by omega
    simp [execNeighbourRetryTimeout, he, if_neg hact, hlt]

end Sys2Proof.Machine
end

section
/-!
PROOFS. What sending on any of the ports can do (R39): it changes what stands on the ports and nothing else.
-/
namespace Sys2Proof.Machine

/-- Only what stands on the ports differs: no register, no frame on the wire, no session, no count of heartbeats. -/
def PortsOnly (s t : State) : Prop := ∃ n, t = { s with net := n } ∧ { n with ports := [] } = { s.net with ports := [] }

theorem PortsOnly.refl (s : State) : PortsOnly s s := ⟨s.net, rfl, rfl⟩

theorem PortsOnly.trans {s t u : State} (h1 : PortsOnly s t) (h2 : PortsOnly t u) : PortsOnly s u := by
  obtain ⟨n, rfl, hn⟩ := h1
  obtain ⟨m, rfl, hm⟩ := h2
  exact ⟨m, rfl, hm.trans hn⟩

theorem PortsOnly.foldl {α : Type} {f : State → α → State} (l : List α) (s : State) (h : ∀ t a, PortsOnly t (f t a)) : PortsOnly s (l.foldl f s) :=
  List.foldlRecOn (motive := PortsOnly s) l f (PortsOnly.refl s) fun t ht a _ => ht.trans (h t a)

theorem PortOnly.portsOnly {p : Nat} {s t : State} (h : PortOnly p s t) : PortsOnly s t := h.1

theorem State.send_portsOnly (s : State) (p : Nat) (f : OutFrame) : PortsOnly s (s.send p f) := (s.send_portOnly p f).portsOnly

theorem State.toPartner_portsOnly (s : State) (n : Nat) (kind : FrameKind) (d : Bytes) : PortsOnly s (s.toPartner n kind d) := s.send_portsOnly _ _

theorem State.ktReply_portsOnly (s : State) (partner cls type id seq : Nat) (body : Bytes) : PortsOnly s (s.ktReply partner cls type id seq body) :=
  s.toPartner_portsOnly partner _ _

section Consequences
variable {s t : State} (h : PortsOnly s t)
include h

theorem PortsOnly.regs : t.regs = s.regs := by
  obtain ⟨n, rfl, -⟩ := h
  rfl

theorem PortsOnly.reg (a : Nat) : t.reg a = s.reg a := by
  rw [State.reg, h.regs, State.reg]

theorem PortsOnly.wire : t.wire = s.wire := by
  obtain ⟨n, rfl, -⟩ := h
  rfl

theorem PortsOnly.hbSeq : t.net.hbSeq = s.net.hbSeq := by
  obtain ⟨n, rfl, hn⟩ := h
  have hhbSeq := congrArg Net.hbSeq hn
  exact hhbSeq

theorem PortsOnly.sess : t.net.sess = s.net.sess := by
  obtain ⟨n, rfl, hn⟩ := h
  have hsess := congrArg Net.sess hn
  exact hsess

end Consequences

end Sys2Proof.Machine
end

section
/-!
PROOFS. Heartbeats (R56, R57).
-/
namespace Sys2Proof.Machine

/-! ## The device's heartbeats (R56) -/

/-- Outside a power failure the heartbeats of an interval go through the ports' queues, and their number advances. -/
theorem State.sendHeartbeats_portsOnly {s : State} (hfail : s.power.failing = false) :
    PortsOnly { s with net := { s.net with hbSeq := s.net.hbSeq + 1 } } s.sendHeartbeats := by
  simp only [State.sendHeartbeats, hfail, Bool.false_eq_true, if_false]
  split
  · refine (PortsOnly.foldl _ _ fun t p => ?_).trans (PortsOnly.foldl _ _ fun t m => t.send_portsOnly _ _)
    split
    · exact (t.send_portsOnly _ _).trans (State.send_portsOnly _ _ _)
    · exact t.send_portsOnly _ _
  · exact PortsOnly.foldl _ _ fun t n => t.toPartner_portsOnly _ _ _

theorem exec_deviceHeartbeatTimer_due {s : State} (hdue : s.net.hbAt ≤ s.now) (hfail : s.power.failing = false) (hrun : s.boot.phase = .running) :
    ∃ t, exec .deviceHeartbeatTimer s = .next t ∧ t.net.hbSeq = s.net.hbSeq + 1 ∧ t.net.hbAt = s.now + s.hbInterval ∧ t.regs = s.regs
      ∧ t.wire = s.wire := by
  have hsent := State.sendHeartbeats_portsOnly hfail
  refine ⟨{ s.sendHeartbeats with net := { s.sendHeartbeats.net with hbAt := s.now + s.hbInterval } }, ?_, hsent.hbSeq, rfl, hsent.regs, hsent.wire⟩
  simp [execDeviceHeartbeatTimer, hfail, hrun, Nat.not_lt.mpr hdue]

/-! ## Partners (R57) -/

/-- A partner that has been heard is up, and its silence timer restarts; EV081 tells of a partner that was down. -/
def State.heard (s : State) (n now : Nat) : State :=
  let t := s.setPartner n { s.partner n with up := true, lastHb := now }
  if (s.partner n).up then t else t.raiseEv 81

theorem State.partner_heard (s : State) (n now : Nat) : (s.heard n now).partner n = { s.partner n with up := true, lastHb := now } := by
  unfold State.heard
  split <;> simp

theorem RegsBut.heard {s t : State} {l : List Nat} (h : RegsBut s t l) (n now : Nat) (hl : ∀ a ∈ evRegs, a ∈ l) : RegsBut s (t.heard n now) l := by
  have hset : RegsBut s (t.setPartner n { t.partner n with up := true, lastHb := now }) l := h.regs_eq rfl
  exact RegsBut.ite hset (hset.raiseEv 81 hl)

theorem execPartnerHeartbeat_monitored {f : RxFrame} {s u : State} {n : Nat} (hpass : s.acceptCtl f (s.isKt f || s.otherPermitted f) = (u, true))
    (hkt : s.isKt f = true) (hhb : isPartnerHeartbeat f = true) (hfrom : s.partnerOf f = some n) (hmon : s.ptnMonitored n = true) :
    execPartnerHeartbeat f s = .next (u.heard n s.now) := by
  simp only [execPartnerHeartbeat, hpass]
  simp only [hkt, hhb, hfrom, hmon, Bool.and_self, if_true, Bool.not_true, Bool.false_eq_true, if_false, State.heard]

/-- Settles O5: the device's timer by what sending its heartbeats changes, a partner's state by what its heartbeat or its silence writes. -/
theorem heartbeatsDrivePartnerState : Obligations.HeartbeatsDrivePartnerState := by
  intro s
  refine ⟨exec_deviceHeartbeatTimer_due, fun f n hpass hkt hhb hfrom hmon => ?_, fun n hmon hup hsilent => ?_⟩
  · obtain ⟨-, -, -, hkept⟩ := s.acceptCtl_spec f _ hpass
    have hregs := hkept.regs.heard n s.now fun a ha => List.mem_append_right _ ha
    refine ⟨_, execPartnerHeartbeat_monitored (Prod.ext rfl hpass) hkt hhb hfrom hmon, by rw [State.partner_heard], by rw [State.partner_heard], hregs⟩
  · refine ⟨(s.setPartner n { s.partner n with up := false }).raiseEv 81, ?_, by simp, ?_⟩
    · simp [execPartnerSilenceTimeout, hmon, hup, hsilent]
    · exact (RegsBut.of_regs _ rfl).raiseEv 81 fun a ha => ha

end Sys2Proof.Machine
end

section
/-!
PROOFS. KT sessions: what reading a session finds after a change, and the session timers (R45, R47 to R49, R51, R52, R104, R261).
-/
namespace Sys2Proof.Machine

/-! ## Finding a session (R45) -/

theorem KtSess.is_iff (x : KtSess) (cls partner id : Nat) : x.is cls partner id = true ↔ x.cls = cls ∧ x.partner = partner ∧ x.id = id := by
  simp [KtSess.is, and_assoc]

theorem State.is_of_sess {s : State} {cls partner id : Nat} {x : KtSess} (h : s.sess cls partner id = some x) : x.is cls partner id = true :=
  List.find?_some (p := fun y : KtSess => y.is cls partner id) h

theorem State.sess_congr {s t : State} (h : t.net.sess = s.net.sess) (cls partner id : Nat) : t.sess cls partner id = s.sess cls partner id := by
  rw [State.sess, h, State.sess]

/-- A session that was open reads as what replaces it. -/
theorem State.sess_setSess_same {s : State} {cls partner id : Nat} {x y : KtSess} (h : s.sess cls partner id = some x)
    (hy : y.is cls partner id = true) : (s.setSess y).sess cls partner id = some y := by
  obtain ⟨hcls, hpartner, hid⟩ := (y.is_iff cls partner id).mp hy
  have hcomp : (fun z : KtSess => z.is cls partner id) ∘ (fun z => if z.is cls partner id then y else z) = fun z => z.is cls partner id := by
    funext z
    by_cases hz : z.is cls partner id = true <;> simp [hz, hy]
  rw [State.sess] at h
  simp only [State.sess, State.setSess, hcls, hpartner, hid]
  rw [List.find?_map, hcomp, h, Option.map_some, if_pos (State.is_of_sess h)]

/-- A session that was not open reads as what is added for it. -/
theorem State.sess_addSess_new {s : State} {cls partner id : Nat} {x : KtSess} (h : s.sess cls partner id = none) (hx : x.is cls partner id = true) :
    (s.addSess x).sess cls partner id = some x := by
  rw [State.sess] at h
  simp [State.sess, State.addSess, List.find?_append, h, hx]

/-! ## Acknowledging (R47, R49) -/

/-- A session that sends an ACK now. -/
def State.acked (s : State) (x : KtSess) : KtSess :=
  { x with ackSeq := x.ackSeq + 1, edge := x.next + s.window x, unacked := 0
           zeroAt := if s.window x = 0 then some (s.now + msT 50) else none }

/-- An ACK changes its session and no register. -/
theorem State.ackNow_spec {s : State} {cls partner id : Nat} {x : KtSess} (h : s.sess cls partner id = some x) :
    (s.ackNow x).sess cls partner id = some (s.acked x) ∧ (s.ackNow x).regs = s.regs := by
  have hsent : PortsOnly (s.setSess (s.acked x)) (s.ackNow x) := State.ktReply_portsOnly _ _ _ _ _ _ _
  exact ⟨(State.sess_congr hsent.sess _ _ _).trans (State.sess_setSess_same h (State.is_of_sess (x := x) h)), hsent.regs⟩

/-! ## The session timers (R49, R51, R52, R104, R261) -/

theorem State.onSess_of_sess {s : State} {r : SessRef} {x : KtSess} (h : s.sess r.cls r.partner r.id = some x) (hawait : x.awaiting = false)
    (f : KtSess → State) : s.onSess r f = f x := by
  simp [State.onSess, h, hawait]

/-- Settles O11: each timer acknowledges where its condition holds; a window that has risen from 0 leaves no repeat due. -/
theorem sessionTimersAcknowledge : Obligations.SessionTimersAcknowledge := by
  intro r s x hx hawait
  obtain ⟨hsess, hregs⟩ := State.ackNow_spec hx
  refine ⟨fun hpos hdue => ?_, fun at_ hat hdue => ?_, fun hzero hwin => ?_⟩
  · exact ⟨s.ackNow x, s.acked x, by simp [execAckDelayExpiry, State.onSess_of_sess hx hawait, hpos, hdue], hsess, rfl, hregs⟩
  · exact ⟨s.ackNow x, s.acked x, by simp [execZeroWindowRepeat, State.onSess_of_sess hx hawait, hat, hdue], hsess, rfl, hregs⟩
  · refine ⟨s.ackNow x, s.acked x, by simp [execWindowRisesFromZero, State.onSess_of_sess hx hawait, hzero, hwin], hsess, ?_, hregs⟩
    rw [State.acked, if_neg (Nat.pos_iff_ne_zero.mp hwin)]

/-- Settles O12: each timer ends its session where its condition holds, and the expiry of closed sessions is a filter of their list. -/
theorem sessionTimersEndSessions : Obligations.SessionTimersEndSessions := by
  intro r s
  refine ⟨fun x hx hawait => ⟨fun hfinal hdue => ?_, fun at_ hat hdue => ?_, fun hcls hdue => ?_⟩, ⟨_, rfl, rfl, rfl, fun c => ?_⟩⟩
  · simp [execCloseTimeout, State.onSess_of_sess hx hawait, hfinal, hdue]
  · simp [execPausedSessionAbort, State.onSess_of_sess hx hawait, hat, hdue]
  · simp [execMaskSessionIdle, State.onSess_of_sess hx hawait, hcls, hdue]
  · simp [imp_iff_not_or, or_assoc]

end Sys2Proof.Machine
end

section
/-!
PROOFS. The messages of OFFLOAD and MASK sessions (R45, R46, R50 to R52, R123, R255).
-/
namespace Sys2Proof.Machine

/-! ## What receiving and admitting leave alone -/

theorem State.good_self (s : State) (free : Part → Prop) : Good ⟨s.pending, False, s, free⟩ s := ⟨rfl, False.elim, fun p _ => Part.same_refl p s⟩

/-- The headbox's check of a KT frame changes no port, no session and no context. -/
theorem State.ktRx_keeps (s : State) (f : RxFrame) (cls type : Nat) : (s.ktRx f cls type).1.net = s.net ∧ (s.ktRx f cls type).1.ctxs = s.ctxs := by
  have hgood := State.ktRx_good f cls type (s.good_self (· ∈ [.regs, .memory])) (by simp) (by simp)
  exact ⟨hgood.same .net (by simp), hgood.same .ctxs (by simp)⟩

theorem State.clearCtxCounters_net (s : State) (n : Nat) : (s.clearCtxCounters n).net = s.net :=
  (State.clearCtxCounters_good n (s.good_self (· = .regs)) rfl).same .net (by simp)

theorem State.writeOpen_net (s : State) (n : Nat) (b : Bytes) : (s.writeOpen n b).net = s.net :=
  (State.writeOpen_good n b (s.good_self (· = .regs)) rfl).same .net (by simp)

/-! ## OPEN (R45, R46, R123, R255) -/

section Received
variable {f : RxFrame} {s t0 : State} {m : KtMsg} {partner cls : Nat}

theorem State.ktOpen_zero (h : s.ktRx f cls 1 = (t0, some (m, partner))) (hz : m.session = 0) : s.ktOpen f cls = t0.bump (Reg.PRT_KT_BAD f.port) := by
  simp [State.ktOpen, h, hz]

theorem State.ktOpen_new {t : State} (h : s.ktRx f cls 1 = (t0, some (m, partner))) (hz : m.session ≠ 0)
    (ht : t = (t0.idleFirst cls partner m.session).raiseEv 102) (hnone : t.sess cls partner m.session = none)
    (hclosed : t.closedSess cls partner m.session = none) :
    s.ktOpen f cls = if cls = clsOffload then t.offloadOpen f.port partner m else t.maskOpen partner m := by
  subst ht
  simp [State.ktOpen, h, hz, State.openMsg, hnone, hclosed]

/-- An OPEN with SESSION 0 counts in PRT_KT_BAD and does nothing else (R45). -/
theorem State.ktOpen_zero_spec (h : s.ktRx f cls 1 = (t0, some (m, partner))) (hz : m.session = 0) :
    Counted t0 (s.ktOpen f cls) (Reg.PRT_KT_BAD f.port) 1 ∧ RegsBut t0 (s.ktOpen f cls) (ctr (Reg.PRT_KT_BAD f.port))
      ∧ (s.ktOpen f cls).net = s.net ∧ (s.ktOpen f cls).ctxs = s.ctxs := by
  obtain ⟨hnet, hctxs⟩ := s.ktRx_keeps f cls 1
  rw [h] at hnet hctxs
  rw [State.ktOpen_zero h hz]
  exact ⟨State.pair_bump _ _, (RegsBut.refl t0 _).bump _ (by simp [ctr]) (by simp [ctr]), hnet, hctxs⟩

end Received

/-- Settles O9: an OPEN of either class with SESSION 0 is only counted. -/
theorem sessionZeroIsDiscarded : Obligations.SessionZeroIsDiscarded := by
  intro f s t0 m partner hz
  exact ⟨fun h => ⟨_, rfl, State.ktOpen_zero_spec h hz⟩, fun h => ⟨_, rfl, State.ktOpen_zero_spec h hz⟩⟩

/-! ## An OFFLOAD OPEN (R85, R123) -/

/-- The registers that an OFFLOAD OPEN writes for its context (R123, R322). -/
def openRegs (n : Nat) : List Nat :=
  [Reg.CTX_CFG n, Reg.CTX_GEOM n, Reg.CTX_RATE n, Reg.HBX_POL_CIR n, Reg.HBX_POL_CBS n] ++ (List.range 6).map (Reg.CTX_LABEL n)

theorem ctxStatus_notMem_openRegs (n : Nat) : Reg.CTX_STATUS n ∉ openRegs n := by
  rw [openRegs, List.mem_append, not_or]
  constructor
  · simp only [Reg.CTX_STATUS, Reg.CTX_CFG, Reg.CTX_GEOM, Reg.CTX_RATE, Reg.HBX_POL_CIR, Reg.HBX_POL_CBS, List.mem_cons, List.not_mem_nil, or_false]
    omega
  · intro hlabel
    obtain ⟨k, hk, heq⟩ := List.mem_map.mp hlabel
    rw [List.mem_range] at hk
    unfold Reg.CTX_LABEL Reg.CTX_STATUS at heq
    omega

theorem RegsBut.settlePol {s t : State} {l : List Nat} (h : RegsBut s t l) (n : Nat) (h1 : Reg.HBX_POL_CIR n ∈ l) (h2 : Reg.HBX_POL_CBS n ∈ l) :
    RegsBut s (t.settlePol n) l :=
  RegsBut.ite ((h.setRegF _ _ _ _ h1).setRegF _ _ _ _ h2) h

theorem State.writeOpen_regsBut (s : State) (n : Nat) (b : Bytes) : RegsBut s (s.writeOpen n b) (openRegs n) := by
  unfold State.writeOpen
  refine List.foldlRecOn (motive := fun t => RegsBut s t (openRegs n)) _ _ ?_ fun t ht q hq => ht.setReg _ _ ?_
  · refine RegsBut.settlePol ?_ n (by simp [openRegs]) (by simp [openRegs])
    exact (((RegsBut.refl s _).setReg _ _ (by simp [openRegs])).setReg _ _ (by simp [openRegs])).setReg _ _ (by simp [openRegs])
  · obtain ⟨k, hk, rfl⟩ := List.mem_map.mp hq
    exact List.mem_append_right _ (List.mem_map_of_mem hk)

theorem State.cstate_writeOpen (s : State) (n : Nat) (b : Bytes) : (s.writeOpen n b).cstate n = s.cstate n := by
  rw [State.cstate, State.regF, s.writeOpen_regsBut n b _ (ctxStatus_notMem_openRegs n), State.cstate, State.regF]

theorem State.admitCtx_regs (s : State) (n : Nat) (req : AdmReq) : (s.admitCtx n req).regs = ((s.clearCtxCounters n).setCstate n 1).regs := by
  simp [State.admitCtx]

theorem State.admitCtx_sess (s : State) (n : Nat) (req : AdmReq) : (s.admitCtx n req).net.sess = s.net.sess := by
  rw [← s.clearCtxCounters_net n, State.admitCtx]
  rfl

/-- A context that leaves FREE is ADMITTING. -/
theorem State.cstate_admitCtx (s : State) (n : Nat) (req : AdmReq) : (s.admitCtx n req).cstate n = 1 := by
  have hreg : (s.admitCtx n req).reg (Reg.CTX_STATUS n) = ((s.clearCtxCounters n).setCstate n 1).reg (Reg.CTX_STATUS n) := by
    rw [State.reg, State.admitCtx_regs, State.reg]
  rw [State.cstate, State.regF, hreg]
  exact State.regF_setRegF_same _ _ 0 2 1 (by decide)

/-- An OFFLOAD OPEN with a free context of the pool: the context is ADMITTING, and the session waits for its evaluation. -/
theorem State.offloadOpen_spec {s : State} {port partner n : Nat} {m : KtMsg} (hnone : s.sess clsOffload partner m.session = none)
    (hsafe : s.power.safe = false) (hmaint : s.maintenance = false) (hcls : m.cls = clsOffload) (hlen : m.body.length = 40)
    (hcodec : fieldAt 0 1 m.body < 3) (hpool : s.poolCtx = some n) : (s.offloadOpen port partner m).cstate n = 1
      ∧ (s.offloadOpen port partner m).sess clsOffload partner m.session
        = some { cls := clsOffload, partner, id := m.session, target := n, awaiting := true, asked := fieldAt 12 4 m.body } := by
  have heq : s.offloadOpen port partner m
      = ((s.admitCtx n (.offload n port partner m.session (fieldAt 12 4 m.body))).writeOpen n m.body).addSess
        { cls := clsOffload, partner, id := m.session, target := n, awaiting := true, asked := fieldAt 12 4 m.body } := by
    simp [State.offloadOpen, hsafe, hmaint, hcls, hlen, Nat.not_le.mpr hcodec, hpool]
  rw [heq]
  refine ⟨?_, State.sess_addSess_new ?_ (by simp [KtSess.is])⟩
  · exact (State.cstate_writeOpen _ n m.body).trans (State.cstate_admitCtx s n _)
  · rw [State.sess_congr (s := s) (by rw [State.writeOpen_net, State.admitCtx_sess])]
    exact hnone

/-! ## A MASK OPEN (R255) -/

section Accepted
variable {s : State} {partner n : Nat} {m : KtMsg} (hn : fieldAt 0 2 m.body = n) (hsafe : s.power.safe = false) (hmaint : s.maintenance = false)
  (hlen : m.body.length = 8) (hlt : n < 1024) (htype : s.rtype n = 2) (hstate : s.rstate n ≠ 3) (hfree : s.sessOf clsMask n = none)
include hn hsafe hmaint hlen hlt htype hstate hfree

/-- An accepted MASK OPEN: its session, its track's registers and its answer. -/
theorem State.maskOpen_accepted : ∃ y body, y.is m.cls partner m.session = true ∧ y.target = n ∧ y.awaiting = false
    ∧ s.maskOpen partner m = (((s.addSess y).setRegBit (Reg.CMP_STATUS n) 0 true).setReg (Reg.CMP_TRACK_ID n)
        (BitVec.ofNat 32 (fieldAt 4 4 m.body))).openAck partner m.cls m.session body := by
  simp only [State.maskOpen, hn, hsafe, hmaint, hlen, htype, hstate, hfree, Nat.not_le.mpr hlt, Bool.or_self, Bool.false_eq_true, ne_eq,
    not_true_eq_false, Option.isSome_none, or_self, if_false]
  exact ⟨_, _, by simp [KtSess.is], rfl, rfl, rfl⟩

/-- After it the rendition shows its track, and its session is open at once. -/
theorem State.maskOpen_spec (hnone : s.sess clsMask partner m.session = none) (hcls : m.cls = clsMask) :
    (s.maskOpen partner m).regBit (Reg.CMP_STATUS n) 0 = true
      ∧ (s.maskOpen partner m).reg (Reg.CMP_TRACK_ID n) = BitVec.ofNat 32 (fieldAt 4 4 m.body)
      ∧ ∃ x, (s.maskOpen partner m).sess clsMask partner m.session = some x ∧ x.target = n ∧ x.awaiting = false := by
  obtain ⟨y, body, his, htarget, hawait, heq⟩ := State.maskOpen_accepted (partner := partner) hn hsafe hmaint hlen hlt htype hstate hfree
  have hsent := State.ktReply_portsOnly (((s.addSess y).setRegBit (Reg.CMP_STATUS n) 0 true).setReg (Reg.CMP_TRACK_ID n)
    (BitVec.ofNat 32 (fieldAt 4 4 m.body))) partner m.cls 2 m.session 0 body
  rw [heq, State.openAck]
  refine ⟨?_, ?_, y, ?_, htarget, hawait⟩
  · rw [State.regBit, hsent.reg, State.reg_setReg_other _ _ _ _ (by unfold Reg.CMP_STATUS Reg.CMP_TRACK_ID; omega)]
    exact State.regBit_setRegBit_same _ _ _ _ (by decide)
  · rw [hsent.reg, State.reg_setReg_same]
  · rw [State.sess_congr hsent.sess]
    exact State.sess_addSess_new hnone (hcls ▸ his)

end Accepted

/-! ## DATA, CLOSE and ABORT (R50 to R52) -/

section Received
variable {f : RxFrame} {s t t0 : State} {m : KtMsg} {partner cls : Nat} {x : KtSess} (hx : t.sess cls partner m.session = some x)
  (hawait : x.awaiting = false)
include hx hawait

/-- A chunk inside the window that is not held yet is stored (R50). -/
theorem State.ktData_inWindow (h : s.ktRx f cls 3 = (t0, some (m, partner))) (ht : t = t0.idleFirst cls partner m.session) (hlow : x.next ≤ m.seq)
    (hhigh : m.seq < x.edge) (hheld : x.held.any (fun c => c.seq == m.seq) = false) (hfinal : x.final = none) : s.ktData f cls = t.storeChunk x m := by
  simp only [State.ktData, h, ← ht, State.dataMsg, hx, hawait, hheld, hfinal, Nat.not_lt.mpr hlow, Nat.not_le.mpr hhigh, decide_false, Bool.or_self,
    Bool.false_eq_true, or_self, if_false, State.storeChunk]

/-- A first CLOSE records FINAL and acknowledges, and the session ends where every chunk is held (R51). -/
theorem State.ktClose_first {y z : KtSess} {u : State} (h : s.ktRx f cls 5 = (t0, some (m, partner)))
    (ht : t = (t0.idleFirst cls partner m.session).raiseEv 102) (hlen : m.body.length = 8) (hfinal : x.final = none)
    (hy : y = { x with final := some (fieldAt 0 4 m.body), held := x.held.filter (fun c => decide (c.seq ≤ fieldAt 0 4 m.body))
                       closeAt := t.now + sT (t.cfgF Reg.GLB_KT_CFG 16 6) })
    (hu : u = ((t.setSess y).touchOffload y).ackNow y) (hz : u.sess cls partner m.session = some z) : s.ktClose f cls = u.closeIfDone z := by
  have hopen : ¬ x.awaiting = true := by simp [hawait]
  subst hy hu
  simp only [State.ktClose, h, hlen, ← ht, State.closeMsg, hx, if_neg hopen, hfinal, hz, ne_eq, not_true_eq_false, if_false]

/-- ABORT ends the session (R52). -/
theorem State.ktAbort_open (h : s.ktRx f cls 7 = (t0, some (m, partner))) (ht : t = (t0.idleFirst cls partner m.session).raiseEv 102)
    (hlen : m.body.length = 4) : s.ktAbort f cls = t.abortSess x none := by
  simp [State.ktAbort, h, hlen, ← ht, State.abortMsg, hx, hawait]

end Received

/-- Settles O10: an OPEN by its session's own part, the messages of an open session by what receiving them comes to, for either class. -/
theorem sessionMessagesTakeTheirEffect : Obligations.SessionMessagesTakeTheirEffect := by
  intro f s t0 m partner
  refine ⟨fun h hz t n ht hnone hclosed hsafe hmaint hcls hlen hcodec hpool => ⟨t.offloadOpen f.port partner m, ?_,
      State.offloadOpen_spec hnone hsafe hmaint hcls hlen hcodec hpool⟩,
    fun h hz t ht hnone hclosed hsafe hmaint hcls hlen hlt htype hstate hfree => ⟨t.maskOpen partner m, ?_,
      State.maskOpen_spec rfl hsafe hmaint hlen hlt htype hstate hfree hnone hcls⟩,
    fun cls _ t x hx hawait => ⟨fun h ht hlow hhigh hheld hfinal => ?_, fun h ht hlen hfinal y u hy hu z hz => ?_, fun h ht hlen => ?_⟩⟩
  · rw [exec_offloadOpen, execOffloadOpen, State.ktOpen_new h hz ht hnone hclosed, if_pos rfl]
  · rw [exec_maskOpen, execMaskOpen, State.ktOpen_new h hz ht hnone hclosed, if_neg (by decide)]
  · have hdata := State.ktData_inWindow hx hawait h ht hlow hhigh hheld hfinal
    exact ⟨fun hcls => by rw [exec_offloadData, execOffloadData, ← hcls, hdata], fun hcls => by rw [exec_maskData, execMaskData, ← hcls, hdata]⟩
  · have hclose := State.ktClose_first hx hawait h ht hlen hfinal hy hu hz
    exact ⟨fun hcls => by rw [exec_offloadClose, execOffloadClose, ← hcls, hclose], fun hcls => by rw [exec_maskClose, execMaskClose, ← hcls, hclose]⟩
  · have habort := State.ktAbort_open hx hawait h ht hlen
    exact ⟨fun hcls => by rw [exec_offloadAbort, execOffloadAbort, ← hcls, habort], fun hcls => by rw [exec_maskAbort, execMaskAbort, ← hcls, habort]⟩

end Sys2Proof.Machine
end

section
/-!
PROOFS. One step (R67, R432; the queue of waiting commands is log entry 1).
-/
namespace Sys2Proof.Machine

/-- Settles O19: of the two cases of a step it is the one with a command waiting. -/
theorem stepRunsFrontCommand : Obligations.StepRunsFrontCommand := by
  intro c rest s hqueue
  rw [step, hqueue]

end Sys2Proof.Machine
end

section
/-!
PROOFS. The quality of device time and a complete measurement (R77 to R82).
-/
namespace Sys2Proof.Machine

/-- A 32-bit counter counts and saturates (R10, R11). -/
theorem State.toNat_reg_bump32 (s : State) (a n : Nat) : ((s.bump32 a n).reg a).toNat = min 0xFFFFFFFF ((s.reg a).toNat + n) := by
  rw [State.reg_bump32, if_pos rfl, BitVec.toNat_ofNat]
  omega

/-! ## Quality (R80, R81) -/

@[simp] theorem State.restamp_regs (s : State) (q : Nat) : (s.restamp q).regs = s.regs := rfl

@[simp] theorem State.setQuality_time (s : State) (q : Nat) : (s.setQuality q).time = s.time := by
  unfold State.setQuality
  split
  · rfl
  · simp [State.restamp]

theorem RegsBut.setQuality {s t : State} {l : List Nat} (h : RegsBut s t l) (hstatus : Reg.GLB_TIME_STATUS ∈ l) (hev : ∀ a ∈ evRegs, a ∈ l) (q : Nat) :
    RegsBut s (t.setQuality q) l :=
  have hstamped : RegsBut s (t.restamp q) l := h.regs_eq (t.restamp_regs q)
  h.ite (((hstamped.setRegF _ 0 3 q hstatus).setRegBit _ 8 true hstatus).raiseEv 80 hev)

theorem State.regF_setRegBit_other (s : State) (a i : Nat) (b : Bool) (lo w : Nat) (h : lo + w ≤ i ∨ i < lo) :
    (s.setRegBit a i b).regF a lo w = s.regF a lo w := by
  rw [State.regF, State.reg_setRegBit, if_pos rfl, fld_setFld_other _ _ _ _ _ _ (by omega), State.regF]

theorem timeStatus_notMem_evRegs : Reg.GLB_TIME_STATUS ∉ evRegs := by decide

/-- A change of the quality shows in GLB_TIME_STATUS, with QUAL_CHG. -/
theorem State.setQuality_changed {s : State} {q : Nat} (hne : s.quality ≠ q) (hq : q < 8) :
    (s.setQuality q).quality = q ∧ (s.setQuality q).regBit Reg.GLB_TIME_STATUS 8 = true := by
  have heq : s.setQuality q = (((s.restamp q).setRegF Reg.GLB_TIME_STATUS 0 3 q).setRegBit Reg.GLB_TIME_STATUS 8 true).raiseEv 80 := if_neg hne
  rw [State.quality, State.regF, State.regBit, heq, State.raiseEv_reg _ _ _ timeStatus_notMem_evRegs]
  constructor
  · exact (State.regF_setRegBit_other _ _ _ _ _ _ (by decide)).trans ((State.regF_setRegF_same _ _ _ _ _ (by decide)).trans (Nat.mod_eq_of_lt hq))
  · exact State.regBit_setRegBit_same _ _ _ _ (by decide)

/-! ## A measurement (R77 to R79) -/

/-- A state with other runs of good and bad offsets (R79). -/
def State.setRuns (s : State) (good bad : Nat) : State := { s with time := { s.time with goodRun := good, badRun := bad } }

/-- Judging an offset locks the time, sets the quality SLEWING, or leaves both as they are (R78, R79). -/
theorem State.judgeOffset_cases (s : State) (o : Int) : ∃ good bad,
    s.judgeOffset o = ((s.setRuns good bad).setRegBit Reg.GLB_TIME_STATUS 3 true).setQuality 0
    ∨ s.judgeOffset o = (s.setRuns good bad).setQuality 1 ∨ s.judgeOffset o = s.setRuns good bad := by
  refine ⟨if o.natAbs ≤ 1000 then s.time.goodRun + 1 else 0, if 2000 < o.natAbs then s.time.badRun + 1 else 0, ?_⟩
  unfold State.judgeOffset
  dsimp only
  generalize (if o.natAbs ≤ 1000 then s.time.goodRun + 1 else 0) = good
  generalize (if 2000 < o.natAbs then s.time.badRun + 1 else 0) = bad
  split
  · exact .inl rfl
  · split
    · split
      · exact .inr (.inl rfl)
      · exact .inr (.inr rfl)
    · split
      · exact .inr (.inl rfl)
      · exact .inr (.inr rfl)

/-- Judging an offset changes the runs of offsets, the quality and what shows it. -/
theorem State.judgeOffset_spec (s : State) (o : Int) : (∃ good bad, (s.judgeOffset o).time = (s.setRuns good bad).time)
    ∧ RegsBut s (s.judgeOffset o) (Reg.GLB_TIME_STATUS :: evRegs) := by
  obtain ⟨good, bad, hcases⟩ := s.judgeOffset_cases o
  have hruns : RegsBut s (s.setRuns good bad) (Reg.GLB_TIME_STATUS :: evRegs) := RegsBut.of_regs _ rfl
  have hev : ∀ a ∈ evRegs, a ∈ Reg.GLB_TIME_STATUS :: evRegs := fun a ha => List.mem_cons_of_mem _ ha
  rcases hcases with heq | heq | heq
  all_goals rw [heq]
  · exact ⟨⟨good, bad, by simp⟩, (hruns.setRegBit _ 3 true (by simp)).setQuality (by simp) hev 0⟩
  · exact ⟨⟨good, bad, by simp⟩, hruns.setQuality (by simp) hev 1⟩
  · exact ⟨⟨good, bad, rfl⟩, hruns⟩

/-- The offset that a complete measurement finds (R77), as GLB_PTP_OFFSET holds it: saturated to 32 bits. -/
def State.offsetWord (s : State) (t1 t2 : Int) : Word := BitVec.ofInt 32 (clampInt (-2147483647) 2147483647 (t2 - t1 - s.time.delay - s.asym))

/-- A complete measurement is the last Sync, and its offset is in GLB_PTP_OFFSET. -/
theorem State.measureOffset_spec (s : State) (t1 t2 : Int) : (s.measureOffset t1 t2).time.sync = s.time.sync
    ∧ (s.measureOffset t1 t2).time.lastSync = s.now
    ∧ (s.measureOffset t1 t2).reg Reg.GLB_PTP_OFFSET = s.offsetWord t1 t2
    ∧ RegsBut s (s.measureOffset t1 t2) (Reg.GLB_PTP_OFFSET :: Reg.GLB_TIME_STATUS :: evRegs) := by
  obtain ⟨u, heq, hsync, hlast, hregs⟩ : ∃ u : State, s.measureOffset t1 t2 = u.judgeOffset (t2 - t1 - s.time.delay - s.asym)
      ∧ u.time.sync = s.time.sync ∧ u.time.lastSync = s.now ∧ u.regs = (s.setReg Reg.GLB_PTP_OFFSET (s.offsetWord t1 t2)).regs :=
    ⟨_, rfl, rfl, rfl, rfl⟩
  obtain ⟨⟨good, bad, htime⟩, hjudge⟩ := u.judgeOffset_spec (t2 - t1 - s.time.delay - s.asym)
  have hset : RegsBut s u [Reg.GLB_PTP_OFFSET] := ((RegsBut.refl s _).setReg _ (s.offsetWord t1 t2) (by simp)).regs_eq hregs
  rw [heq, htime]
  refine ⟨hsync, hlast, ?_, (hset.mono (by simp)).trans (hjudge.mono fun a ha => List.mem_cons_of_mem _ ha)⟩
  rw [hjudge.reg Reg.GLB_PTP_OFFSET (by decide), State.reg, hregs]
  exact State.reg_setReg_same s _ _

end Sys2Proof.Machine
end

section
/-!
PROOFS. PTP messages and the timers of device time (R76 to R83).
-/
namespace Sys2Proof.Machine

/-! ## Messages of the selected master (R76, R77) -/

/-- A frame counts, and a measurement is complete: `u` is the state in which it has counted. -/
theorem measured_of_exec {c : Instr} {s u : State} {a : Nat} {t1 t2 : Int} (hexec : exec c s = .next (u.measureOffset t1 t2))
    (hregs : u.regs = (s.bump a).regs) (hnow : u.now = s.now) (heff : u.eff = s.eff) (hdelay : u.time.delay = s.time.delay) :
    ∃ t, exec c s = .next t ∧ t.time.sync = u.time.sync ∧ t.time.lastSync = s.now ∧ t.reg Reg.GLB_PTP_OFFSET = s.offsetWord t1 t2
      ∧ RegsBut s t (Reg.GLB_PTP_OFFSET :: Reg.GLB_TIME_STATUS :: ctr a ++ evRegs) := by
  obtain ⟨hsync, hlast, hoffset, hbut⟩ := u.measureOffset_spec t1 t2
  have hasym : u.asym = s.asym := by rw [State.asym, State.cfg_of_eff s u _ heff, State.asym]
  have hcount : RegsBut s u (Reg.GLB_PTP_OFFSET :: Reg.GLB_TIME_STATUS :: ctr a ++ evRegs) :=
    ((RegsBut.refl s _).bump a (by simp [ctr]) (by simp [ctr])).regs_eq hregs
  refine ⟨_, hexec, hsync, hlast.trans hnow, ?_, hcount.trans (hbut.mono fun b hb => ?_)⟩
  · rw [hoffset, State.offsetWord, hdelay, hasym, State.offsetWord]
  · simp only [List.mem_cons, List.mem_append] at hb ⊢
    tauto

theorem RegsBut.of_bump {s t : State} {a : Nat} (h : t.regs = (s.bump a).regs) : RegsBut s t (ctr a) :=
  ((RegsBut.refl s _).bump a (by simp [ctr]) (by simp [ctr])).regs_eq h

theorem Counted.of_bump {s t : State} {a : Nat} (h : t.regs = (s.bump a).regs) : Counted s t a 1 := by
  have hreg (b : Nat) : t.reg b = (s.bump a).reg b := by rw [State.reg, h, State.reg]
  rw [Counted, State.pair_congr (s.bump a) t a (hreg a) (hreg (a + 4)), State.pair_bump]

section Master
variable {f : RxFrame} {m : PtpMsg} {s : State} (hfrom : s.ptpFrom f m = true)
include hfrom

theorem execPtpSync_twoStep (htwo : m.twoStep = true) : execPtpSync f m s = .next { s.bump (Reg.PRT_RX_FRAMES f.port) with
    time := { s.time with sync := some (m.seqId, s.taiNs, m.correction), lastSync := s.now } } := by
  simp [execPtpSync, hfrom, htwo]

theorem execPtpSync_oneStep (hone : m.twoStep = false) :
    execPtpSync f m s = .next ((s.bump (Reg.PRT_RX_FRAMES f.port)).measureOffset ((m.stamp : Int) + m.correction) s.taiNs) := by
  simp [execPtpSync, hfrom, hone]

theorem execPtpFollowUp_matching {t2 : Nat} {c : Int} (hsync : s.time.sync = some (m.seqId, t2, c)) :
    execPtpFollowUp f m s = .next (({ s.bump (Reg.PRT_RX_FRAMES f.port) with time := { s.time with sync := none } } : State).measureOffset
      ((m.stamp : Int) + c + m.correction) t2) := by
  simp [execPtpFollowUp, hfrom, hsync]

theorem execPtpDelayResp_matching {t3 : Nat} {t1 t2 : Int} (he2e : s.cfgBit Reg.GLB_PTP_CFG 3 = false) (hmine : s.ptpMine f m = true)
    (hreq : s.time.req = some (m.seqId, t3)) (hlast : s.time.last12 = some (t1, t2)) :
    execPtpDelayResp f m s = .next { s.bump (Reg.PRT_RX_FRAMES f.port) with
      time := { s.time with delay := ((t2 - t1) + ((m.stamp : Int) - m.correction - t3)) / 2, req := none } } := by
  simp [execPtpDelayResp, hfrom, he2e, hmine, hreq, hlast]

end Master

/-! ## The BMCA (R76, R79) -/

/-- The BMCA keeps the clocks heard of and selects the best one that qualifies. -/
theorem State.runBmca_spec (s : State) (cs : List ForeignClock) : (s.runBmca cs).time.clocks = cs
    ∧ (s.runBmca cs).time.master = (bestClock ((cs.filter (fun c => c.qualified s.time.master)).map (·.ds))).map (·.source)
    ∧ RegsBut s (s.runBmca cs) (Reg.GLB_TIME_STATUS :: ctr (Reg.GLB_PTP_MASTER 0) ++ evRegs) := by
  unfold State.runBmca
  dsimp only
  generalize (bestClock ((cs.filter (fun c => c.qualified s.time.master)).map (·.ds))).map (·.source) = best
  have hset : RegsBut s (({ s with time := { s.time with clocks := cs, master := best } } : State).setPair (Reg.GLB_PTP_MASTER 0) (best.getD 0 / 65536))
      (Reg.GLB_TIME_STATUS :: ctr (Reg.GLB_PTP_MASTER 0) ++ evRegs) :=
    RegsBut.setPair (RegsBut.of_regs _ rfl) _ _ (by simp [ctr]) (by simp [ctr])
  split
  · exact ⟨rfl, rfl, RegsBut.of_regs _ rfl⟩
  · split
    · refine ⟨by simp, by simp, RegsBut.setQuality ?_ (by simp) (fun a ha => List.mem_append_right _ ha) 1⟩
      exact hset.regs_eq rfl
    · exact ⟨rfl, rfl, hset.regs_eq rfl⟩

/-! ## Messages of any source (R76) -/

theorem State.linkUp_of_rxOpen {s : State} {p : Nat} (h : s.rxOpen p = true) : s.linkUp p = true := by
  simp only [State.rxOpen, Bool.and_eq_true] at h
  tauto

section Passed
variable {f : RxFrame} {m : PtpMsg} {s : State} (hany : s.ptpAny f m = true)
include hany

theorem State.rxOpen_of_ptpAny : s.rxOpen f.port = true := by
  simp only [State.ptpAny, Bool.and_eq_true] at hany
  tauto

theorem exec_ptpAnnounce_passed (a : Announce) : ∃ t, exec (.ptpAnnounce f m a) s = .next t ∧ t.time.clocks = s.heardClocks a
    ∧ t.time.master = (bestClock (((s.heardClocks a).filter (fun c => c.qualified s.time.master)).map (·.ds))).map (·.source)
    ∧ RegsBut s t (Reg.GLB_TIME_STATUS :: ctr (Reg.GLB_PTP_MASTER 0) ++ ctr (Reg.PRT_RX_FRAMES f.port) ++ evRegs) := by
  obtain ⟨hclocks, hmaster, hregs⟩ := (s.bump (Reg.PRT_RX_FRAMES f.port)).runBmca_spec (s.heardClocks a)
  refine ⟨_, by simp [execPtpAnnounce, hany], hclocks, hmaster, RegsBut.trans ?_ (hregs.mono fun b hb => ?_)⟩
  · exact (RegsBut.refl s _).bump _ (by simp [ctr]) (by simp [ctr])
  · simp only [List.mem_cons, List.mem_append] at hb ⊢
    tauto

end Passed

theorem State.ptpFrame_mac (s : State) (event pdelay : Bool) (body : Bytes) : (s.ptpFrame event pdelay body).mac.isSome = true := by
  unfold State.ptpFrame
  split <;> rfl

/-- A PTP frame waits for no address: it is queued at once, with its mark for the transmit time (R77). -/
theorem State.send_ptpFrame {s u : State} {p : Nat} (hup : u.linkUp p = true) (hfail : u.power.failing = false) (event pdelay : Bool) (body : Bytes)
    (note : PtpNote) : u.send p { s.ptpFrame event pdelay body with ptp := note }
      = u.setPort p { u.port p with sysq := (u.port p).sysq ++ [{ s.ptpFrame event pdelay body with ptp := note }] } := by
  obtain ⟨mac, hmac⟩ := Option.isSome_iff_exists.mp (s.ptpFrame_mac event pdelay body)
  exact State.send_mac u p _ mac hup hfail hmac

/-! ## The other side's and the device's own delay requests (R76, R77) -/

/-- The answer to a peer's delay request: two-step, and its follow-up names the request (R76, R77). -/
def State.pdelayAnswer (s : State) (p : Nat) (m : PtpMsg) : OutFrame :=
  { s.ptpFrame true true (s.ptpBytes p 3 m.seqId 0x0200 0 (ptpStamp s.taiNs ++ be 10 m.source)) with ptp := .resp m.seqId m.source m.correction }

theorem State.linkUp_bump_rxFrames (s : State) (p : Nat) : (s.bump (Reg.PRT_RX_FRAMES p)).linkUp p = s.linkUp p := by
  rw [State.linkUp, State.regBit, State.reg_bump_other, State.linkUp, State.regBit]
  all_goals
    unfold Reg.PRT_STATUS Reg.PRT_RX_FRAMES
    omega

theorem exec_ptpPdelayReq_passed {f : RxFrame} {m : PtpMsg} {s : State} (hany : s.ptpAny f m = true) (hfail : s.power.failing = false) :
    ∃ t, exec (.ptpPdelayReq f m) s = .next t ∧ (t.port f.port).sysq = (s.port f.port).sysq ++ [s.pdelayAnswer f.port m]
      ∧ RegsBut s t (ctr (Reg.PRT_RX_FRAMES f.port)) := by
  have hexec : exec (.ptpPdelayReq f m) s = .next ((s.bump (Reg.PRT_RX_FRAMES f.port)).send f.port (s.pdelayAnswer f.port m)) := by
    simp only [exec_ptpPdelayReq, execPtpPdelayReq, hany, Bool.not_true, Bool.false_eq_true, if_false, State.pdelayAnswer]
  have hup := (s.linkUp_bump_rxFrames f.port).trans (State.linkUp_of_rxOpen (State.rxOpen_of_ptpAny hany))
  refine ⟨_, hexec, ?_, ((RegsBut.refl s _).bump _ (by simp [ctr]) (by simp [ctr])).send _ _⟩
  rw [State.pdelayAnswer, State.send_ptpFrame hup hfail, State.port_setPort_same, State.port_bump]

theorem execPtpPdelayResp_matching {f : RxFrame} {m follow : PtpMsg} {s : State} {t1 : Nat} (hany : s.ptpAny f m = true)
    (hp2p : s.cfgBit Reg.GLB_PTP_CFG 3 = true) (hmine : s.ptpMine f m = true) (hsource : follow.source = m.source) (hseq : follow.seqId = m.seqId)
    (hreq : s.time.req = some (m.seqId, t1)) : execPtpPdelayResp f m follow s = .next { s.bump (Reg.PRT_RX_FRAMES f.port) with
      time := { s.time with
        delay := (((s.taiNs : Int) - t1) - ((follow.stamp : Int) - m.stamp) - m.correction - follow.correction) / 2, req := none } } := by
  simp [execPtpPdelayResp, hany, hp2p, hmine, hsource, hseq, hreq]

/-- Settles O6: a measurement by what it leaves in GLB_PTP_OFFSET, the other messages by what each changes of device time. -/
theorem ptpMessagesMeasureOffsetAndDelay : Obligations.PtpMessagesMeasureOffsetAndDelay := by
  intro f m s
  refine ⟨fun hfrom => ⟨fun htwo => ?_, fun hone => ?_, fun t2 c hsync => ?_, fun t3 t1 t2 he2e hmine hreq hlast => ?_⟩,
    fun hany => ⟨exec_ptpAnnounce_passed hany, exec_ptpPdelayReq_passed hany, fun follow t1 hp2p hmine hsource hseq hreq => ?_⟩⟩
  · exact ⟨_, execPtpSync_twoStep hfrom htwo, rfl, rfl, Counted.of_bump rfl, RegsBut.of_bump rfl⟩
  · obtain ⟨t, hexec, -, hmeasured⟩ := measured_of_exec (c := .ptpSync f m) (execPtpSync_oneStep hfrom hone) rfl rfl rfl rfl
    exact ⟨t, hexec, hmeasured⟩
  · have hexec : exec (.ptpFollowUp f m) s = _ := execPtpFollowUp_matching hfrom hsync
    exact measured_of_exec hexec rfl rfl rfl rfl
  · exact ⟨_, execPtpDelayResp_matching hfrom he2e hmine hreq hlast, rfl, rfl, RegsBut.of_bump rfl⟩
  · exact ⟨_, execPtpPdelayResp_matching hany hp2p hmine hsource hseq hreq, rfl, rfl, RegsBut.of_bump rfl⟩

/-! ## The timers (R76 to R78, R80) -/

/-- The device's own delay request on its PTP port: a Pdelay_Req with DELAY 1, else a Delay_Req (R76). -/
def State.delayReq (s : State) : OutFrame :=
  { s.ptpFrame true (s.cfgBit Reg.GLB_PTP_CFG 3) (s.ptpBytes (s.cfgF Reg.GLB_PTP_CFG 1 2) (if s.cfgBit Reg.GLB_PTP_CFG 3 then 2 else 1) s.time.reqSeq 0 0
      (ptpStamp 0 ++ (if s.cfgBit Reg.GLB_PTP_CFG 3 then zeros 10 else []))) with ptp := .req s.time.reqSeq }

/-- The device's own delay request is sent, and no transmit time is kept until the port starts it (R77). -/
theorem execPtpDelayReqTimer_due {s : State} {p : Nat} (hp : s.cfgF Reg.GLB_PTP_CFG 1 2 = p) (hport : s.ptpPort p = true) (hup : s.linkUp p = true)
    (hmaster : s.time.master.isSome = true) : execPtpDelayReqTimer s = .next { s.send p s.delayReq with
      time := { (s.send p s.delayReq).time with reqSeq := (s.time.reqSeq + 1) % 65536, req := none } } := by
  subst hp
  have hnone : s.time.master.isNone = false := by rw [← Option.not_isSome, hmaster, Bool.not_true]
  simp only [execPtpDelayReqTimer, hport, hup, hnone, Bool.not_true, Bool.and_false, Bool.or_self, Bool.false_eq_true, if_false, State.delayReq]

theorem State.sysq_send_delayReq {s : State} {p : Nat} (hup : s.linkUp p = true) (hfail : s.power.failing = false) :
    ((s.send p s.delayReq).port p).sysq = (s.port p).sysq ++ [s.delayReq] := by
  rw [State.delayReq, State.send_ptpFrame hup hfail, State.port_setPort_same]

/-- The loss of Sync begins holdover (R78, R80). -/
theorem exec_syncLossTimeout_due {s : State} (hq : s.quality = 0 ∨ s.quality = 1)
    (hdue : s.time.lastSync + sT (s.cfgF Reg.GLB_PTP_TIMERS 0 8) ≤ s.now) : ∃ t, exec .syncLossTimeout s = .next t ∧ t.quality = 2
      ∧ t.regBit Reg.GLB_TIME_STATUS 8 = true ∧ t.time.holdoverAt = s.now
      ∧ (t.reg Reg.GLB_PTP_LOSS).toNat = min 0xFFFFFFFF ((s.reg Reg.GLB_PTP_LOSS).toNat + 1)
      ∧ RegsBut s t (Reg.GLB_TIME_STATUS :: Reg.GLB_PTP_LOSS :: evRegs) := by
  obtain ⟨tm, hhold, hexec⟩ : ∃ tm : TimeSt, tm.holdoverAt = s.now
      ∧ exec .syncLossTimeout s = .next ((({ s with time := tm } : State).bump32 Reg.GLB_PTP_LOSS 1).setQuality 2) :=
    ⟨_, rfl, if_pos ⟨hq, hdue⟩⟩
  have hcount : RegsBut s (({ s with time := tm } : State).bump32 Reg.GLB_PTP_LOSS 1) [Reg.GLB_PTP_LOSS] :=
    RegsBut.bump32 (RegsBut.of_regs _ rfl) _ 1 (by simp)
  have hset := (RegsBut.refl (({ s with time := tm } : State).bump32 Reg.GLB_PTP_LOSS 1) (Reg.GLB_TIME_STATUS :: evRegs)).setQuality
    (by simp) (fun a ha => List.mem_cons_of_mem _ ha) 2
  have hquality : (({ s with time := tm } : State).bump32 Reg.GLB_PTP_LOSS 1).quality = s.quality := by
    rw [State.quality, State.regF, hcount.reg _ (by decide), State.quality, State.regF]
  obtain ⟨hnew, hchg⟩ := State.setQuality_changed (q := 2) (hquality.trans_ne (by omega)) (by decide)
  refine ⟨_, hexec, hnew, hchg, (congrArg TimeSt.holdoverAt (State.setQuality_time _ 2)).trans hhold, ?_, (hcount.mono (by simp)).trans (hset.mono ?_)⟩
  · rw [hset.reg Reg.GLB_PTP_LOSS (by decide)]
    exact State.toNat_reg_bump32 _ _ _
  · simp only [List.mem_cons]
    tauto

/-- Settles O7: the delay request by what sending it changes, the other timers by the quality that they set. -/
theorem timeTimersMoveTheQuality : Obligations.TimeTimersMoveTheQuality := by
  intro s
  refine ⟨fun hport hup hmaster => ?_, exec_syncLossTimeout_due, fun hq hdue => ?_⟩
  · exact ⟨_, execPtpDelayReqTimer_due rfl hport hup hmaster, rfl, rfl, (s.send_portOnly _ _).regs,
      fun hfail => ⟨s.delayReq, State.sysq_send_delayReq hup hfail, rfl⟩⟩
  · obtain ⟨hnew, hchg⟩ := State.setQuality_changed (s := s) (q := 3) (by omega) (by decide)
    exact ⟨s.setQuality 3, if_pos ⟨hq, hdue⟩, hnew, hchg, (RegsBut.refl s _).setQuality (by simp) (fun a ha => List.mem_cons_of_mem _ ha) 3⟩

end Sys2Proof.Machine
end

section
/-!
PROOFS. Management sessions and REQUESTs (R60 to R70).
-/
namespace Sys2Proof.Machine

theorem PortsOnly.mgmt {s t : State} (h : PortsOnly s t) : t.mgmt = s.mgmt := by
  obtain ⟨n, rfl, -⟩ := h
  rfl

theorem PortsOnly.ctxs {s t : State} (h : PortsOnly s t) : t.ctxs = s.ctxs := by
  obtain ⟨n, rfl, -⟩ := h
  rfl

theorem State.mgmtSend_portsOnly (s : State) (f : RxFrame) (kind : FrameKind) (d : Bytes) : PortsOnly s (s.mgmtSend f kind d) := s.send_portsOnly _ _

/-! ## HELLO (R60 to R62) -/

/-- An accepted HELLO adds one session, that of its sender and of the key slot that it names. -/
theorem State.openMgmt_spec (s : State) (f : RxFrame) (b : Bytes) : ∃ e,
    (s.openMgmt f b).mgmt.sess = s.mgmt.sess ++ [e] ∧ e.port = f.port.val ∧ e.ip = f.srcIp
    ∧ e.udp = f.srcPort ∧ e.keySlot = fieldAt 8 1 b ∧ e.lastReq = s.now ∧ e.lastSeq = 0 ∧ (s.openMgmt f b).mgmt.opened = s.mgmt.opened + 1 := by
  obtain ⟨e, u, d, hopen, hmgmt, hfields⟩ : ∃ e u d, s.openMgmt f b = State.mgmtSend u f .mgmt d
      ∧ u.mgmt = { s.mgmt with sess := s.mgmt.sess ++ [e], opened := s.mgmt.opened + 1 }
      ∧ e.port = f.port.val ∧ e.ip = f.srcIp ∧ e.udp = f.srcPort ∧ e.keySlot = fieldAt 8 1 b ∧ e.lastReq = s.now ∧ e.lastSeq = 0 :=
    ⟨_, _, _, rfl, rfl, rfl, rfl, rfl, rfl, rfl, rfl⟩
  obtain ⟨hport, hip, hudp, hslot, hreq, hseq⟩ := hfields
  have hsent := (u.mgmtSend_portsOnly f .mgmt d).mgmt.trans hmgmt
  rw [hopen, hsent]
  exact ⟨e, rfl, hport, hip, hudp, hslot, hreq, hseq, rfl⟩

section Hello
variable {f : RxFrame} {s t0 u : State} {m : KtMsg} (h : s.mgmtRx f (fun m => m.type == 1) = (t0, some m)) (hlen : m.body.length = 222)
  (hmax : (t0.port f.port).hellos < 10) (hu : u = t0.setPort f.port { t0.port f.port with hellos := (t0.port f.port).hellos + 1 })
include h hlen hmax hu

theorem execHello_accepted (hst : u.helloStatus m.body = 0) : execHello f s = .next (u.openMgmt f m.body) := by
  simp only [execHello, h, hlen, ne_eq, not_true_eq_false, if_false, if_neg (Nat.not_le.mpr hmax), ← hu, hst, if_true]

theorem execHello_refused (hst : u.helloStatus m.body ≠ 0) :
    ∃ d, execHello f s = .next (u.authFail.mgmtSend f .mgmt d) := by
  simp only [execHello, h, hlen, ne_eq, not_true_eq_false, if_false, if_neg (Nat.not_le.mpr hmax), ← hu, if_neg hst]
  exact ⟨_, rfl⟩

end Hello

/-! ## The end of a session (R64) -/

theorem execBye_valid {f : RxFrame} {s t0 : State} {m : KtMsg} {x : MgmtSess} (h : s.mgmtRx f (fun m => m.type == 5) = (t0, some m))
    (hx : t0.mgmtSess m.session = some x) (htag : tagOk x.kPD f.payload = true) :
    execBye f s = .next ((t0.mgmtSend f .bye (withTag x.kDP 5 x.num 0 [])).dropMgmtSess x.num) := by
  simp only [execBye, h, hx, htag, if_true]

/-- Settles O13: HELLO by the session that it adds or the count of its refusal, the ends of a session as filters of the list. -/
theorem managementSessionsOpenAndEnd : Obligations.ManagementSessionsOpenAndEnd := by
  intro f s t0 m
  refine ⟨fun h hlen hmax u hu => ⟨fun hst => ?_, fun hst => ?_⟩, fun x h hx htag => ?_, fun num x hx hidle => ?_⟩
  · obtain ⟨e, hopen⟩ := u.openMgmt_spec f m.body
    subst hu
    exact ⟨_, e, execHello_accepted h hlen hmax rfl hst, hopen⟩
  · obtain ⟨d, hexec⟩ := execHello_refused h hlen hmax hu hst
    have hsent := u.authFail.mgmtSend_portsOnly f .mgmt d
    subst hu
    refine ⟨_, hexec, hsent.mgmt, ?_⟩
    rw [hsent.reg]
    exact State.toNat_reg_bump32 _ _ _
  · have hsent := t0.mgmtSend_portsOnly f .bye (withTag x.kDP 5 x.num 0 [])
    refine ⟨_, execBye_valid h hx htag, ?_, hsent.regs⟩
    rw [State.dropMgmtSess, hsent.mgmt]
  · exact ⟨s.dropMgmtSess num, by simp [execMgmtSessionIdle, hx, hidle], rfl, rfl⟩

/-! ## REQUEST (R63 to R69) -/

section Request
variable {f : RxFrame} {s t0 : State} {m : KtMsg} {x : MgmtSess} {kind : ReqKind} (op : Perform)
  (h : s.mgmtRx f (fun m => m.type == 3 && reqKind m.body == kind) = (t0, some m)) (hx : t0.mgmtSess m.session = some x)
  (htag : tagOk x.kPD f.payload = true)
include h hx htag

theorem State.request_new (hseq : x.lastSeq < m.seq) (hroom : x.unanswered t0.now < 8) : s.request f kind op = t0.performReq x f m op := by
  simp only [State.request, h, hx, htag, Bool.not_true, Bool.false_eq_true, if_false, if_pos hseq, if_neg (Nat.not_le.mpr hroom)]

theorem State.request_ninth (hseq : x.lastSeq < m.seq) (hfull : 8 ≤ x.unanswered t0.now) :
    s.request f kind op = t0.bump32 Reg.GLB_MGMT_REPLAY 1 := by
  simp only [State.request, h, hx, htag, Bool.not_true, Bool.false_eq_true, if_false, if_pos hseq, if_pos hfull]

/-- An old SEQ whose RESPONSE is kept: the RESPONSE is sent again (R69). -/
theorem State.request_kept {a : Nat × Bytes} (hseq : m.seq ≤ x.lastSeq) (hkept : x.answers.find? (fun a => a.1 == m.seq) = some a) :
    s.request f kind op = (t0.setMgmtSess { x with lastReq := t0.now }).mgmtSend f .mgmt a.2 := by
  simp only [State.request, h, hx, htag, Bool.not_true, Bool.false_eq_true, if_false, if_neg (Nat.not_lt.mpr hseq), hkept]

theorem State.request_forgotten (hseq : m.seq ≤ x.lastSeq) (hgone : x.answers.find? (fun a => a.1 == m.seq) = none) :
    s.request f kind op = (t0.setMgmtSess { x with lastReq := t0.now }).bump32 Reg.GLB_MGMT_REPLAY 1 := by
  simp only [State.request, h, hx, htag, Bool.not_true, Bool.false_eq_true, if_false, if_neg (Nat.not_lt.mpr hseq), hgone]

end Request

/-- A REQUEST that is only counted in GLB_MGMT_REPLAY. -/
theorem State.replayed_spec (s : State) : ((s.bump32 Reg.GLB_MGMT_REPLAY 1).reg Reg.GLB_MGMT_REPLAY).toNat
      = min 0xFFFFFFFF ((s.reg Reg.GLB_MGMT_REPLAY).toNat + 1)
    ∧ RegsBut s (s.bump32 Reg.GLB_MGMT_REPLAY 1) [Reg.GLB_MGMT_REPLAY] ∧ (s.bump32 Reg.GLB_MGMT_REPLAY 1).mgmt.tickets = s.mgmt.tickets :=
  ⟨State.toNat_reg_bump32 _ _ _, (RegsBut.refl s _).bump32 _ 1 (by simp), rfl⟩

/-- Settles O14: each row's command is a REQUEST of its kind, and what a REQUEST does turns on its SEQ. -/
theorem requestRowsPerformTheirOperation : Obligations.RequestRowsPerformTheirOperation := by
  intro f s t0 m x c kind op hrow h hx htag
  have hexec : exec c s = .next (s.request f kind op) := by
    simp only [List.mem_cons, Prod.mk.injEq, List.not_mem_nil, or_false] at hrow
    obtain ⟨rfl, rfl, rfl⟩ | ⟨rfl, rfl, rfl⟩ | ⟨rfl, rfl, rfl⟩ | ⟨rfl, rfl, rfl⟩ | ⟨rfl, rfl, rfl⟩ | ⟨rfl, rfl, rfl⟩
      | ⟨rfl, rfl, rfl⟩ | ⟨rfl, rfl, rfl⟩ | ⟨rfl, rfl, rfl⟩ | ⟨rfl, rfl, rfl⟩ | ⟨rfl, rfl, rfl⟩ | ⟨rfl, rfl, rfl⟩ := hrow
    all_goals rfl
  rw [hexec]
  refine ⟨fun hseq hroom => ?_, fun hseq hfull => ?_, fun a hseq hkept => ?_, fun hseq hgone => ?_⟩
  · rw [State.request_new op h hx htag hseq hroom]
  · exact ⟨_, congrArg _ (State.request_ninth op h hx htag hseq hfull), t0.replayed_spec⟩
  · have hsent := (t0.setMgmtSess { x with lastReq := t0.now }).mgmtSend_portsOnly f .mgmt a.2
    refine ⟨_, congrArg _ (State.request_kept op h hx htag hseq hkept), hsent.regs, ?_, hsent.ctxs⟩
    rw [hsent.mgmt]
    rfl
  · exact ⟨_, congrArg _ (State.request_forgotten op h hx htag hseq hgone), State.replayed_spec _⟩

end Sys2Proof.Machine
end

section
/-!
PROOFS. What starting a frame leaves: its place on the wire, its counts and its transmit time (R77, R324, R326, R329).
-/
namespace Sys2Proof.Machine

/-! ## A frame of a queue (R324, R326) -/

theorem mem_ctr {a b : Nat} : b ∈ ctr a ↔ b = a ∨ b = a + 4 := by
  simp [ctr]

/-- The frame counter of a port lies below those of the queues. -/
theorem prtTxFrames_lt_egqTxFrames {p : Nat} (hp : p < 4) (q : Nat) : Reg.PRT_TX_FRAMES p + 4 < Reg.EGQ_TX_FRAMES q := by
  unfold Reg.PRT_TX_FRAMES Reg.EGQ_TX_FRAMES
  omega

theorem egqTxBytes_eq (q : Nat) : Reg.EGQ_TX_BYTES q = Reg.EGQ_TX_FRAMES q + 8 := by
  unfold Reg.EGQ_TX_BYTES Reg.EGQ_TX_FRAMES
  omega

theorem prtStatus_lt_prtTxFrames (p : Nat) : Reg.PRT_STATUS p < Reg.PRT_TX_FRAMES p := by
  unfold Reg.PRT_STATUS Reg.PRT_TX_FRAMES
  omega

section Count
variable {s u t : State} {a n : Nat} {l : List Nat}

/-- A count stands while other registers change. -/
theorem Counted.regsBut (h : Counted s u a n) (hbut : RegsBut u t l) (hlow : a ∉ l) (hhigh : a + 4 ∉ l) : Counted s t a n :=
  (hbut.pair a hlow hhigh).trans h

theorem RegsBut.counted (hbut : RegsBut s u l) (hlow : a ∉ l) (hhigh : a + 4 ∉ l) (h : Counted u t a n) : Counted s t a n := by
  rw [Counted, h, hbut.pair a hlow hhigh]

end Count

/-- What starting a frame of a queue leaves: the frame on the wire and its counts; of the port, its shaper alone has changed. -/
structure Started (s t : State) (p q : Nat) (f : OutFrame) : Prop where
  wire : t.wire = s.wire ++ [(p, s.framed p f)]
  port : ∃ c, t.port p = { s.port p with shaper := c }
  time : t.time = s.time
  power : t.power = s.power
  eff : t.eff = s.eff
  portFrames : Counted s t (Reg.PRT_TX_FRAMES p) 1
  queueFrames : Counted s t (Reg.EGQ_TX_FRAMES q) 1
  regs : RegsBut s t (ctr (Reg.PRT_TX_FRAMES p) ++ ctr (Reg.EGQ_TX_FRAMES q) ++ ctr (Reg.EGQ_TX_BYTES q))

/-- A frame and its bytes count for its queue. -/
theorem State.queueCounts_spec (s : State) (q n : Nat) :
    Counted s ((s.bump (Reg.EGQ_TX_FRAMES q)).bumpN (Reg.EGQ_TX_BYTES q) n) (Reg.EGQ_TX_FRAMES q) 1
    ∧ RegsBut s ((s.bump (Reg.EGQ_TX_FRAMES q)).bumpN (Reg.EGQ_TX_BYTES q) n) (ctr (Reg.EGQ_TX_FRAMES q) ++ ctr (Reg.EGQ_TX_BYTES q)) := by
  have hbytes : RegsBut (s.bump (Reg.EGQ_TX_FRAMES q)) ((s.bump (Reg.EGQ_TX_FRAMES q)).bumpN (Reg.EGQ_TX_BYTES q) n) (ctr (Reg.EGQ_TX_BYTES q)) :=
    (RegsBut.refl _ _).bumpN _ n (by simp [ctr]) (by simp [ctr])
  have hframes : RegsBut s (s.bump (Reg.EGQ_TX_FRAMES q)) (ctr (Reg.EGQ_TX_FRAMES q)) := RegsBut.of_bump rfl
  refine ⟨(Counted.of_bump rfl).regsBut hbytes ?_ ?_, ?_⟩
  · rw [mem_ctr, egqTxBytes_eq]
    omega
  · rw [mem_ctr, egqTxBytes_eq]
    omega
  · exact (hframes.mono fun a => List.mem_append_left _).trans (hbytes.mono fun a => List.mem_append_right _)

theorem State.startFrame_spec (s : State) {p : Nat} (hp : p < 4) (q : Nat) (f : OutFrame) : Started s (s.startFrame p q f) p q f := by
  obtain ⟨c, u, n, hu, heq⟩ : ∃ c u n, u = (s.setPort p { s.port p with shaper := c }).transmit p f
      ∧ s.startFrame p q f = (u.bump (Reg.EGQ_TX_FRAMES q)).bumpN (Reg.EGQ_TX_BYTES q) n := ⟨_, _, _, rfl, rfl⟩
  have hsent : u.regs = (s.bump (Reg.PRT_TX_FRAMES p)).regs := by rw [hu]; rfl
  have hport : RegsBut s u (ctr (Reg.PRT_TX_FRAMES p)) := RegsBut.of_bump hsent
  have hlt := prtTxFrames_lt_egqTxFrames hp q
  obtain ⟨hqueued, hqueue⟩ := u.queueCounts_spec q n
  rw [← heq] at hqueued hqueue
  refine ⟨?_, ⟨c, ?_⟩, ?_, ?_, ?_, (Counted.of_bump hsent).regsBut hqueue ?_ ?_, hport.counted ?_ ?_ hqueued, ?_⟩
  · simp only [heq, hu, State.bumpN_wire, State.bump_wire, State.transmit_wire, State.setPort_wire]
    rfl
  iterate 4
    · simp [heq, hu]
  iterate 4
    · simp only [List.mem_append, mem_ctr, egqTxBytes_eq]
      omega
  · rw [List.append_assoc]
    exact (hport.mono fun a => List.mem_append_left _).trans (hqueue.mono fun a => List.mem_append_right _)

/-- The port is still up when it has started a frame. -/
theorem Started.linkUp {s t : State} {p q : Nat} {f : OutFrame} (h : Started s t p q f) (hp : p < 4) : t.linkUp p = s.linkUp p := by
  have hlt := prtTxFrames_lt_egqTxFrames hp q
  have hstatus := prtStatus_lt_prtTxFrames p
  rw [State.linkUp, State.regBit, h.regs, State.linkUp, State.regBit]
  simp only [List.mem_append, mem_ctr, egqTxBytes_eq]
  omega

/-! ## Transmit times (R77) -/

section Noted
variable {s : State} {p : Nat} {f : OutFrame}

theorem State.ptpStarted_none (h : f.ptp = .none) : s.ptpStarted p f = s := by
  rw [State.ptpStarted, h]

theorem State.ptpStarted_req {q : Nat} (h : f.ptp = .req q) :
    (s.ptpStarted p f).net = s.net ∧ (s.ptpStarted p f).time.req = some (q, s.taiNs) := by
  simp [State.ptpStarted, h]

theorem State.ptpStarted_resp {q who : Nat} {k : Int} (h : f.ptp = .resp q who k) :
    s.ptpStarted p f = s.send p (s.ptpFrame false true (s.ptpBytes p 10 q 0 k (ptpStamp s.taiNs ++ be 10 who))) := by
  rw [State.ptpStarted, h]

/-- Taking the transmit time starts no other frame, and no register changes. -/
theorem State.ptpStarted_keeps (s : State) (p : Nat) (f : OutFrame) : (s.ptpStarted p f).wire = s.wire ∧ (s.ptpStarted p f).regs = s.regs := by
  unfold State.ptpStarted
  split
  · exact ⟨rfl, rfl⟩
  · exact ⟨rfl, rfl⟩
  · exact ⟨(s.send_portsOnly p _).wire, (s.send_portsOnly p _).regs⟩

end Noted

theorem State.ptpFrame_of_eff {s t : State} (h : t.eff = s.eff) : t.ptpFrame = s.ptpFrame := by
  unfold State.ptpFrame State.ptpTransport State.cfgF State.cfg
  rw [h]

theorem State.ptpBytes_of_eff {s t : State} (h : t.eff = s.eff) : t.ptpBytes = s.ptpBytes := by
  unfold State.ptpBytes State.portIdentity State.mac State.cfgF State.cfg
  rw [h]

/-- The head of the system queue starts and its transmit time is taken (R77, R329). -/
theorem State.startSystem_spec {u : State} {p : Fin 4} {f : OutFrame} {l : List OutFrame} (hup : u.linkUp p = true) (hfail : u.power.failing = false)
    {t : State} (ht : t = ((u.setPort p { u.port p with sysq := l }).startFrame p (256 * p) f).ptpStarted p f) :
    t.wire = u.wire ++ [(p.val, u.framed p f)]
    ∧ (f.ptp = .none → (t.port p).sysq = l ∧ t.time = u.time)
    ∧ (∀ q, f.ptp = .req q → (t.port p).sysq = l ∧ t.time.req = some (q, u.taiNs))
    ∧ (∀ q who k, f.ptp = .resp q who k → (t.port p).sysq
      = l ++ [u.ptpFrame false true (u.ptpBytes p 10 q 0 k (ptpStamp u.taiNs ++ be 10 who))])
    ∧ Counted u t (Reg.PRT_TX_FRAMES p) 1 ∧ Counted u t (Reg.EGQ_TX_FRAMES (256 * p)) 1 := by
  have hstart := (u.setPort p { u.port p with sysq := l }).startFrame_spec p.isLt (256 * p) f
  generalize (u.setPort p { u.port p with sysq := l }).startFrame p (256 * p) f = w at ht hstart
  have hsysq : (w.port p).sysq = l := by
    obtain ⟨c, hc⟩ := hstart.port
    rw [hc, State.port_setPort_same]
  have heff : w.eff = u.eff := hstart.eff
  have htai : w.taiNs = u.taiNs := by rw [State.taiNs, hstart.time]; rfl
  obtain ⟨hwire, hregs⟩ := w.ptpStarted_keeps p f
  have hleft : RegsBut u (u.setPort p { u.port p with sysq := l }) [] := RegsBut.of_regs _ rfl
  have hright : RegsBut w t [] := RegsBut.of_regs _ (ht ▸ hregs)
  refine ⟨(ht ▸ hwire).trans hstart.wire, fun hnote => ?_, fun q hnote => ?_, fun q who k hnote => ?_, ?_, ?_⟩
  · rw [ht, State.ptpStarted_none hnote]
    exact ⟨hsysq, hstart.time⟩
  · obtain ⟨hnet, hreq⟩ := State.ptpStarted_req (s := w) (p := p) hnote
    rw [ht, State.port_of_net _ _ _ hnet, hreq, htai]
    exact ⟨hsysq, rfl⟩
  · obtain ⟨mac, hmac⟩ := Option.isSome_iff_exists.mp (w.ptpFrame_mac false true (w.ptpBytes p 10 q 0 k (ptpStamp w.taiNs ++ be 10 who)))
    rw [ht, State.ptpStarted_resp hnote, State.send_mac w p _ mac ((hstart.linkUp p.isLt).trans hup) (hstart.power ▸ hfail) hmac,
      State.port_setPort_same, hsysq, htai, State.ptpFrame_of_eff heff, State.ptpBytes_of_eff heff]
  · exact hleft.counted List.not_mem_nil List.not_mem_nil (hstart.portFrames.regsBut hright List.not_mem_nil List.not_mem_nil)
  · exact hleft.counted List.not_mem_nil List.not_mem_nil (hstart.queueFrames.regsBut hright List.not_mem_nil List.not_mem_nil)

end Sys2Proof.Machine
end

section
/-!
PROOFS. Signatures, sheets, and the choice of a port's next frame (R285, R292, R310, R324 to R330, R486).
-/
namespace Sys2Proof.Machine

/-! ## Signatures (R284 to R286, R486) -/

/-- What a signature engine signs. -/
def State.engineWork (s : State) (k : Fin 2) : Option SignWork := if k.val = 0 then s.seals.se0 else s.seals.se1

theorem execSealSigned_seal {k : Fin 2} {s : State} {j : SealJob} (hwork : s.engineWork k = some (.seal j)) (hfr : s.frozen (agSe k) = false) :
    execSealSigned k s = .next (((s.setSe k none).placeSeal j (ecdsaSign (s.seals.bootKey.getD 0) (sha256 j.sealBytes))).startSign) := by
  rw [State.engineWork] at hwork
  simp only [execSealSigned, hwork, hfr, Bool.false_eq_true, if_false]

theorem execSealSigned_discarded {k : Fin 2} {s : State} (hwork : s.engineWork k = some .discarded) :
    execSealSigned k s = .next ((s.setSe k none).startSign) := by
  rw [State.engineWork] at hwork
  simp only [execSealSigned, hwork]

@[simp] theorem State.ticket_setSe (s : State) (k : Nat) (w : Option SignWork) (num : Nat) : (s.setSe k w).ticket num = s.ticket num := rfl

theorem execAttestSigned_attest {k : Fin 2} {s : State} {num : Nat} {x : Ticket} (hwork : s.engineWork k = some (.attest num))
    (hfr : s.frozen (agSe k) = false) (hx : s.ticket num = some x) : execAttestSigned k s
      = .next (((s.setSe k none).readyTicket num 0 (x.data ++ ecdsaSign Config.identityKey (sha256 x.data))).startSign) := by
  rw [State.engineWork] at hwork
  simp only [execAttestSigned, hwork, hfr, Bool.false_eq_true, if_false, State.ticket_setSe, hx]

/-! ## Sheets (R292) -/

/-- A sheet with records closes: its records are sent, and the ream's next sheet is empty. -/
theorem State.closeSheet_snd (s : State) (slot : Nat) {r : Ream} (hbuf : r.buf ≠ []) :
    (s.closeSheet slot r).2 = { r with buf := [], sheetSeq := r.sheetSeq + 1 } := by
  rw [State.closeSheet, if_neg (by simpa using hbuf)]

theorem execSheetTimer_due {slot : Fin 2048} {s : State} {r : Ream} (hream : (s.slot slot).ream = some r) (hbuf : r.buf ≠ [])
    (hdue : r.bufAt + msT 1 ≤ s.now) (hfail : s.power.failing = false) :
    ∃ x : SealSlot, x.ream = some { r with buf := [], sheetSeq := r.sheetSeq + 1 }
      ∧ execSheetTimer slot s = .next ((s.closeSheet slot r).1.setSlot slot x) := by
  have hact : ¬ (r.buf.isEmpty = true ∨ s.now < r.bufAt + msT 1 ∨ s.power.failing = true) := by simp [hbuf, hfail, hdue]
  simp only [execSheetTimer, hream, if_neg hact, s.closeSheet_snd slot hbuf]
  exact ⟨_, rfl, rfl⟩

/-! ## The choice of a frame (R310, R324 to R330) -/

/-- Where a destination is not resolved, its resolution begins through the port's queue (R39, R325). -/
theorem State.resolveHeads_portOnly (s : State) (p : Nat) : PortOnly p s (s.resolveHeads p) := by
  refine PortOnly.foldl _ s fun t h => ?_
  split
  · exact t.startResolve_portOnly p _
  · exact PortOnly.refl p t

section Choice
variable {p : Fin 4} {s : State} (hup : s.linkUp p = true) (hopen : (s.port p).stopped = false)
include hup hopen

theorem execEgressSelect_segs {f : OutFrame} {l : List OutFrame} (hsegs : (s.port p).segs = f :: l) : execEgressSelect p s
    = .next (if s.segTurn p then (s.setPort p { s.port p with segs := l, segSent := (s.port p).segSent + 1 }).transmit p f else s) := by
  simp only [execEgressSelect, hup, hopen, hsegs, Bool.not_true, Bool.or_self, Bool.false_eq_true, if_false]

variable {u : State} (hsegs : (s.port p).segs = []) (hfail : s.power.failing = false) (hu : u = (if s.power.safe = true then s else s.resolveHeads p))
include hsegs hfail hu

theorem execEgressSelect_held (hperm : u.portPermits p = false) : execEgressSelect p s = .next u := by
  simp only [execEgressSelect, hup, hopen, hsegs, hfail, ← hu, hperm, Bool.not_true, Bool.not_false, Bool.or_self, Bool.false_eq_true, if_false, if_true]

theorem execEgressSelect_system {f : OutFrame} {l : List OutFrame} (hperm : u.portPermits p = true) (hsysq : (u.port p).sysq = f :: l) :
    execEgressSelect p s = .next (((u.setPort p { u.port p with sysq := l }).startFrame p (256 * p) f).ptpStarted p f) := by
  simp only [execEgressSelect, hup, hopen, hsegs, hfail, ← hu, hperm, hsysq, Bool.not_true, Bool.or_self, Bool.false_eq_true, if_false]

theorem execEgressSelect_sheet {h : Nat × Sheet × BitVec 64} (hperm : u.portPermits p = true) (hsysq : (u.port p).sysq = [])
    (hsafe : s.power.safe = false) (hbest : u.bestHead p = some h) : execEgressSelect p s = .next (u.startSheet p h) := by
  simp only [execEgressSelect, hup, hopen, hsegs, hfail, ← hu, hperm, hsysq, hbest, Bool.not_true, Bool.or_self, Bool.false_eq_true, if_false]
  rw [hsafe]
  rfl

end Choice

/-- What the port chooses from differs from the state before in what stands on the port alone. -/
theorem headsResolved_portOnly {s u : State} {p : Nat} (hu : u = (if s.power.safe = true then s else s.resolveHeads p)) : PortOnly p s u := by
  subst hu
  split
  · exact PortOnly.refl p s
  · exact s.resolveHeads_portOnly p

/-- A manifest segment starts in its port's turn (R310). -/
theorem exec_egressSelect_segment {p : Fin 4} {s : State} {f : OutFrame} {l : List OutFrame} (hup : s.linkUp p = true) (hopen : (s.port p).stopped = false)
    (hsegs : (s.port p).segs = f :: l) (hturn : s.segTurn p = true) : ∃ t, exec (.egressSelect p) s = .next t
      ∧ t.wire = s.wire ++ [(p.val, s.framed p f)] ∧ (t.port p).segs = l ∧ (t.port p).segSent = (s.port p).segSent + 1
      ∧ (t.port p).sysq = (s.port p).sysq ∧ Counted s t (Reg.PRT_TX_FRAMES p) 1 ∧ RegsBut s t (ctr (Reg.PRT_TX_FRAMES p)) := by
  have hexec := execEgressSelect_segs hup hopen hsegs
  rw [if_pos hturn] at hexec
  obtain ⟨t, ht⟩ : ∃ t, t = (s.setPort p { s.port p with segs := l, segSent := (s.port p).segSent + 1 }).transmit p f := ⟨_, rfl⟩
  have hregs : t.regs = (s.bump (Reg.PRT_TX_FRAMES p)).regs := by rw [ht]; rfl
  have hport : t.port p = { s.port p with segs := l, segSent := (s.port p).segSent + 1 } := by
    rw [ht]
    exact State.port_setPort_same s p _
  rw [← ht] at hexec
  refine ⟨t, hexec, by rw [ht]; rfl, ?_, ?_, ?_, Counted.of_bump hregs, RegsBut.of_bump hregs⟩
  all_goals rw [hport]

/-- Settles O60: a signature by its engine's work, a sheet by its closing, and a port's frame by the first of its queues that may send. -/
theorem sealsSheetsAndFramesLeave : Obligations.SealsSheetsAndFramesLeave := by
  intro s
  refine ⟨fun k w hw => ⟨fun j hwork hfr => execSealSigned_seal (hw.symm.trans hwork) hfr, fun hwork => execSealSigned_discarded (hw.symm.trans hwork),
      fun num x hwork hfr hx => execAttestSigned_attest (hw.symm.trans hwork) hfr hx⟩,
    fun slot r hream hbuf hdue hfail => ?_, fun p hup hopen => ⟨fun hturn hsegs => ?_,
      fun f l hsegs hturn => exec_egressSelect_segment hup hopen hsegs hturn,
      fun hsegs hfail u hu => ⟨execEgressSelect_held hup hopen hsegs hfail hu, fun f l hperm hsysq => ?_,
        fun h hperm hsysq hsafe hbest => execEgressSelect_sheet hup hopen hsegs hfail hu hperm hsysq hsafe hbest⟩⟩, fun p hshut => ?_⟩
  · obtain ⟨x, hx, hexec⟩ := execSheetTimer_due hream hbuf hdue hfail
    exact ⟨_, { r with buf := [], sheetSeq := r.sheetSeq + 1 }, hexec, by rw [State.slot_setSlot_same, hx], rfl, rfl, rfl, rfl⟩
  · obtain ⟨f, l, hl⟩ := List.exists_cons_of_ne_nil hsegs
    rw [exec_egressSelect, execEgressSelect_segs hup hopen hl, hturn]
    rfl
  · have hres := headsResolved_portOnly hu
    obtain ⟨n, hn⟩ := hres.field
    have hpower : u.power = s.power := by rw [hn]
    have hlink : u.linkUp p = true := by rw [State.linkUp, State.regBit, hres.reg]; exact hup
    exact ⟨_, execEgressSelect_system hup hopen hsegs hfail hu hperm hsysq, State.startSystem_spec hlink (hpower ▸ hfail) rfl⟩
  · rcases hshut with hdown | hstop
    · simp [execEgressSelect, hdown]
    · simp [execEgressSelect, hstop]

end Sys2Proof.Machine
end

section
/-!
PROOFS. Live ingest: the packets of a live context, its timers and its end (R85, R86, R113, R117, R118, R133).
-/
namespace Sys2Proof.Machine

/-! ## The admission of a context (R85) -/

theorem State.clearRegs_regsOnly (s : State) (a n : Nat) : ∃ r, s.clearRegs a n = { s with regs := r } := by
  induction n generalizing s a with
  | zero => exact ⟨s.regs, rfl⟩
  | succ n ih => exact ih (s.setReg a 0#32) (a + 4)

/-- Clearing consecutive registers leaves those before and behind them. -/
theorem State.reg_clearRegs_other (s : State) (a n : Nat) {b : Nat} (h : b < a ∨ a + 4 * n ≤ b) : (s.clearRegs a n).reg b = s.reg b := by
  induction n generalizing s a with
  | zero => rfl
  | succ n ih => rw [State.clearRegs, ih _ _ (by omega), State.reg_setReg_other _ _ _ _ (by omega)]

theorem State.clearCtxCounters_regsOnly (s : State) (n : Nat) : ∃ r, s.clearCtxCounters n = { s with regs := r } := by
  obtain ⟨r1, h1⟩ := s.clearRegs_regsOnly (Reg.CTX_PIC_VERIFIED n) 10
  obtain ⟨r2, h2⟩ := (s.clearRegs (Reg.CTX_PIC_VERIFIED n) 10).clearRegs_regsOnly (Reg.ING_PKTS n) 22
  obtain ⟨r3, h3⟩ := ((s.clearRegs (Reg.CTX_PIC_VERIFIED n) 10).clearRegs (Reg.ING_PKTS n) 22).clearRegs_regsOnly (Reg.HBX_POL_DROP_FRAMES n) 4
  exact ⟨r3, by rw [State.clearCtxCounters, h3, h2, h1]⟩

/-- The global registers lie below every register of a context, of its ingest and of its policer. -/
theorem State.reg_admitCtx_of_lt (s : State) (n : Nat) (req : AdmReq) {a : Nat} (h : a < 0x100000) : (s.admitCtx n req).reg a = s.reg a := by
  have hregs : (s.admitCtx n req).reg a = ((s.clearCtxCounters n).setCstate n 1).reg a := by rw [State.reg, State.admitCtx_regs, State.reg]
  have hstatus : ¬ a = Reg.CTX_STATUS n := by simp only [Reg.CTX_STATUS]; omega
  rw [hregs, State.setCstate, State.reg_setRegF, if_neg hstatus, State.clearCtxCounters, State.reg_clearRegs_other, State.reg_clearRegs_other,
    State.reg_clearRegs_other]
  all_goals
    left
    simp only [Reg.CTX_PIC_VERIFIED, Reg.ING_PKTS, Reg.HBX_POL_DROP_FRAMES]
    omega

/-- What a frame of a FREE live context finds when its admission has begun: the context ADMITTING, its request queued, and all that classifying and
stamping the frame read as before. -/
structure AdmissionBegun (s t : State) (n : Nat) (req : AdmReq) : Prop where
  state : t.cstate n = 1
  reqs : t.adm.reqs = s.adm.reqs ++ [(s.now, req)]
  early : (t.ctx n).early = (s.ctx n).early
  soon : t.soonF = s.soonF
  tai : t.taiNs = s.taiNs
  quality : t.quality = s.quality
  now : t.now = s.now

theorem State.soonF_congr {s t : State} (hpending : t.pending = s.pending) (hpower : t.power = s.power) (heff : t.eff = s.eff) (hpend : t.pend = s.pend)
    (hstatus : t.reg Reg.GLB_CFG_STATUS = s.reg Reg.GLB_CFG_STATUS) : t.soonF = s.soonF := by
  have hann : t.announcing = s.announcing := by simp only [State.announcing, State.sweeping, State.regBit, hpending, hpower, hstatus]
  funext a lo w
  simp only [State.soonF, State.cfgSoon, State.cfg, hann, heff, hpend]

/-- An admission writes registers, a policer's bucket, its request and the context's last arrival. -/
theorem State.admitCtx_shape (s : State) (n : Nat) (req : AdmReq) : ∃ regs net, s.admitCtx n req = { s.setCtx n { s.ctx n with lastArr := s.taiNs } with
    regs := regs, net := net, adm := { s.adm with reqs := s.adm.reqs ++ [(s.now, req)] } } := by
  obtain ⟨r, hr⟩ := s.clearCtxCounters_regsOnly n
  rw [State.admitCtx, hr]
  exact ⟨_, _, rfl⟩

theorem State.early_admitCtx (s : State) (n : Nat) (req : AdmReq) : ((s.admitCtx n req).ctx n).early = (s.ctx n).early := by
  obtain ⟨regs, net, heq⟩ := s.admitCtx_shape n req
  have hctx : (s.admitCtx n req).ctx n = (s.setCtx n { s.ctx n with lastArr := s.taiNs }).ctx n := by
    rw [heq]
    rfl
  rw [hctx, State.ctx_setCtx_same]

theorem State.admitCtx_begun (s : State) (n : Nat) (req : AdmReq) : AdmissionBegun s ((s.admitCtx n req).raiseEv 100) n req := by
  obtain ⟨regs, net, heq⟩ := s.admitCtx_shape n req
  have hglobal : ∀ a, a < 0x100000 → a ∉ evRegs → ((s.admitCtx n req).raiseEv 100).reg a = s.reg a := fun a ha hev =>
    (State.raiseEv_reg _ _ _ hev).trans (s.reg_admitCtx_of_lt n req ha)
  have hstatus : Reg.CTX_STATUS n ∉ evRegs := notEv_of_ge _ (by unfold Reg.CTX_STATUS; omega)
  refine ⟨?_, ?_, ?_, State.soonF_congr ?_ ?_ ?_ ?_ (hglobal _ (by decide) (by decide)), ?_, ?_, ?_⟩
  · rw [State.cstate, State.regF, State.raiseEv_reg _ _ _ hstatus]
    exact s.cstate_admitCtx n req
  · rw [State.raiseEv_adm, heq]
  · rw [State.ctx_raiseEv, State.early_admitCtx]
  · rw [State.raiseEv_pending, heq, State.setCtx_pending]
  · rw [State.raiseEv_power, heq, State.setCtx_power]
  · rw [State.raiseEv_eff, heq, State.setCtx_eff]
  · rw [State.raiseEv_pend, heq, State.setCtx_pend]
  · rw [State.taiNs, State.raiseEv_time, heq, State.setCtx_time, State.taiNs]
  · rw [State.quality, State.regF, hglobal _ (by decide) (by decide), State.quality, State.regF]
  · rw [State.raiseEv_now, heq, State.setCtx_now]

/-! ## Packets (R36, R85, R113, R114) -/

section Packet
variable {s : State} {n : Fin 1024} {f : RxFrame}

/-- A frame that every check passes is handed to its context. -/
theorem execRtpPacket_accepted (hopen : s.rxOpen f.port = true) (hudp : f.proto = some 17) (hkt : s.isKt f = false) (hptp : s.isPtp f = false)
    (hcheck : s.frameCheck f = none) (hrole : s.role f.port 0 = true) (hflow : s.flowOf f = some n.val) (hsafe : s.power.safe = false)
    (hnight : s.regF Reg.GLB_MEM_NIGHT 16 2 = 0) : execRtpPacket f s = .next (s.liveFrame n f) := by
  simp [execRtpPacket, State.nightFrame, hopen, hudp, hkt, hptp, hcheck, hrole, hflow, hsafe, hnight]

/-- The count of a received frame leaves the state of the contexts. -/
theorem State.cstate_bump_rxFrames (t : State) (p : Fin 4) (k : Nat) : (t.bump (Reg.PRT_RX_FRAMES p)).cstate k = t.cstate k := by
  rw [State.cstate, State.regF, State.reg_bump_other, State.cstate, State.regF]
  all_goals
    simp only [Reg.CTX_STATUS, Reg.PRT_RX_FRAMES]
    omega

/-- With its policer off a context's frames all pass it (R320). -/
theorem State.policeLive_off {k : Nat} (hoff : s.soonF (Reg.HBX_POL_CFG k) 0 1 = 0) (len : Nat) : s.policeLive k len = (s, true) := by
  simp [State.policeLive, hoff]

/-- A packet of an OPEN context that has not idled out is counted and checked. -/
theorem State.liveFrame_open (hoff : s.soonF (Reg.HBX_POL_CFG n) 0 1 = 0) (hstate : s.cstate n = 2) (hidle : s.now < (s.ctx n).idleAt) :
    s.liveFrame n f = (s.bump (Reg.PRT_RX_FRAMES f.port)).rtpIn n f.payload s.taiNs s.quality s.now := by
  have hdue : s.idleDue n = false := by simp [State.idleDue, Nat.not_le.mpr hidle]
  have hcount : (s.bump (Reg.PRT_RX_FRAMES f.port)).cstate n = 2 := by
    rw [State.cstate_bump_rxFrames, hstate]
  simp [State.liveFrame, hdue, hstate, State.policeLive_off hoff, hcount]

/-- A packet of a FREE context begins its admission and waits for it. -/
theorem State.liveFrame_free (hoff : s.soonF (Reg.HBX_POL_CFG n) 0 1 = 0) (hstate : s.cstate n = 0) : (s.liveFrame n f).cstate n = 1
    ∧ (s.liveFrame n f).adm.reqs = s.adm.reqs ++ [(s.now, .live n f.port)]
    ∧ ((s.liveFrame n f).ctx n).early = (s.ctx n).early ++ [(f.payload, s.taiNs, s.quality, s.now)] := by
  have hbegun := s.admitCtx_begun n (.live n f.port)
  obtain ⟨t, ht⟩ : ∃ t, t = (s.admitCtx n (.live n f.port)).raiseEv 100 := ⟨_, rfl⟩
  rw [← ht] at hbegun
  have hdue : s.idleDue n = false := by simp [State.idleDue, hstate]
  have hpolice : t.policeLive n f.len = (t, true) := State.policeLive_off (hbegun.soon ▸ hoff) f.len
  have hcount : (t.bump (Reg.PRT_RX_FRAMES f.port)).cstate n = 1 := (State.cstate_bump_rxFrames t f.port n).trans hbegun.state
  have hlive : s.liveFrame n f = (t.bump (Reg.PRT_RX_FRAMES f.port)).setCtx n
      { t.ctx n with early := (t.ctx n).early ++ [(f.payload, s.taiNs, s.quality, s.now)] } := by
    simp [State.liveFrame, hdue, hstate, ← ht, hpolice, hcount, hbegun.tai, hbegun.quality, hbegun.now]
  refine ⟨?_, ?_, ?_⟩
  · rw [hlive, State.cstate, State.regF, State.reg_setCtx, ← State.regF, ← State.cstate, hcount]
  · rw [hlive, State.setCtx_adm, State.bump_adm, hbegun.reqs]
  · rw [hlive, State.ctx_setCtx_same, hbegun.early]

end Packet

/-! ## The idle timeout and the close (R86, R133) -/

section Ends
variable {s : State} {n : Nat} (hstate : s.cstate n = 2)
include hstate

/-- A live context that has idled out leaves OPEN. -/
theorem State.idleExpire_live (hidle : (s.ctx n).idleAt ≤ s.now) (hnone : s.sessOf clsOffload n = none) : s.idleExpire n = s.ctxLeaveOpen n := by
  simp [State.idleExpire, State.idleDue, hstate, hidle, hnone]

/-- The session of an offload context that has idled out ends, unless it is paused (R104). -/
theorem State.idleExpire_offload {x : KtSess} (hidle : (s.ctx n).idleAt ≤ s.now) (hsess : s.sessOf clsOffload n = some x) (hrun : x.pausedAt = none) :
    s.idleExpire n = s.abortSess x (some 2) := by
  simp [State.idleExpire, State.idleDue, State.abortOffload, hstate, hidle, hsess, hrun]

theorem State.closeCtx_live (hnone : s.sessOf clsOffload n = none) : s.closeCtx n = s.ctxLeaveOpen n := by
  simp [State.closeCtx, hstate, hnone]

theorem State.closeCtx_offload {x : KtSess} (hsess : s.sessOf clsOffload n = some x) : s.closeCtx n = s.abortSess x (some 6) := by
  simp [State.closeCtx, State.abortOffload, hstate, hsess]

end Ends

/-- CLOSE of a context that is not OPEN does nothing (R86). -/
theorem State.closeCtx_notOpen {s : State} {n : Nat} (hstate : s.cstate n ≠ 2) : s.closeCtx n = s := by
  simp [State.closeCtx, hstate]

/-- After units have closed, AU_OPEN tells whether one is being assembled (R112). -/
theorem State.regBit_closeUnits (s : State) (n : Nat) (force leaving : Bool) : (s.closeUnits n force leaving).regBit (Reg.ING_STATUS n) 1
    = (!((s.closeUnits n force leaving).ctx n).rtp.held.isEmpty || ((s.closeUnits n force leaving).ctx n).off.isSome) := by
  rw [State.closeUnits, State.showOpen, State.regBit_setRegBit_same _ _ _ _ (by decide), State.ctx_setRegBit]

/-- Settles O8: a packet by what its context's state makes of it, the timers and the close by what each does to an OPEN context. -/
theorem ingestCommandsTakeTheirEffect : Obligations.IngestCommandsTakeTheirEffect := by
  intro s n
  refine ⟨fun f hopen hudp hkt hptp hcheck hrole hflow hsafe hnight hoff => ?_, fun hstate => ⟨_, ?_, rfl, State.regBit_closeUnits _ _ _ _⟩,
    fun hstate => ⟨_, ?_, rfl, State.regBit_closeUnits _ _ _ _⟩, fun hstate hidle hnone => ?_, fun x hstate hidle hsess hrun => ?_,
    fun hstate hnone => ?_, fun x hstate hsess => ?_, fun hstate => ?_⟩
  · have hexec : exec (.rtpPacket f) s = .next (s.liveFrame n f) := execRtpPacket_accepted hopen hudp hkt hptp hcheck hrole hflow hsafe hnight
    exact ⟨fun hstate => ⟨_, hexec, State.liveFrame_free hoff hstate⟩, fun hstate hidle => by rw [hexec, State.liveFrame_open hoff hstate hidle]⟩
  · simp [execReorderExpiry, hstate]
  · simp [execAuWaitExpiry, hstate]
  · rw [exec_contextIdleTimeout, execContextIdleTimeout, State.idleExpire_live hstate hidle hnone]
  · rw [exec_contextIdleTimeout, execContextIdleTimeout, State.idleExpire_offload hstate hidle hsess hrun]
  · rw [exec_ctxClose, execCtxClose, State.closeCtx_live hstate hnone]
  · rw [exec_ctxClose, execCtxClose, State.closeCtx_offload hstate hsess]
  · rw [exec_ctxClose, execCtxClose, State.closeCtx_notOpen hstate]

end Sys2Proof.Machine
end

section
/-!
PROOFS. Tickets that become READY (R73), and the ends of self-tests and calibrations (R107, R470 to R472).
-/
namespace Sys2Proof.Machine

/-! ## A ticket that becomes READY (R73) -/

/-- A pending ticket that nobody has released reads as READY with its result. -/
theorem State.ticket_readyTicket {s : State} {num : Nat} {x : Ticket} (hx : s.ticket num = some x) (hkept : s.mgmt.cancelled.contains num = false)
    (hpending : x.ready = false) (result : Nat) (data : Bytes) :
    (s.readyTicket num result data).ticket num = some { x with ready := true, running := false, result := result, data := data } := by
  have hnum : x.num = num := by simpa using List.find?_some hx
  have hcomp (f : Ticket → Ticket) (hf : ∀ t, (f t).num = t.num) :
      (fun t : Ticket => t.num == num) ∘ (fun t => if t.num = num then f t else t) = fun t => t.num == num := by
    funext t
    by_cases ht : t.num = num <;> simp [ht, hf]
  rw [State.ticket] at hx
  rw [State.readyTicket, hkept, State.ticket, State.mapTicket]
  simp only [Bool.false_eq_true, if_false, List.find?_map]
  rw [hcomp _ (fun t => by split <;> rfl), hx, Option.map_some, if_pos hnum, hpending]
  rfl

section Ready
variable (s : State) (num result : Nat) (data : Bytes)

/-- The end of a ticket's operation changes the tickets and nothing else. -/
theorem State.readyTicket_mgmtOnly : ∃ m, s.readyTicket num result data = { s with mgmt := m } := by
  unfold State.readyTicket
  split
  · exact ⟨_, rfl⟩
  · exact ⟨_, rfl⟩

@[simp] theorem State.readyTicket_regs : (s.readyTicket num result data).regs = s.regs := by
  obtain ⟨m, h⟩ := s.readyTicket_mgmtOnly num result data
  rw [h]

@[simp] theorem State.unit_readyTicket (k : Nat) : (s.readyTicket num result data).unit k = s.unit k := by
  obtain ⟨m, h⟩ := s.readyTicket_mgmtOnly num result data
  rw [h, State.unit, State.unit]

/-- A ticket that is still pending has another number. -/
theorem State.mem_tickets_readyTicket {x : Ticket} (hx : x ∈ (s.readyTicket num result data).mgmt.tickets) (hpending : x.ready = false) :
    x ∈ s.mgmt.tickets ∧ x.num ≠ num := by
  unfold State.readyTicket at hx
  split at hx
  · simpa [State.dropTicket] using hx
  · obtain ⟨t, ht, rfl⟩ := List.mem_map.mp hx
    by_cases hnum : t.num = num
    · cases hready : t.ready <;> simp [hnum, hready] at hpending
    · rw [if_neg hnum]
      exact ⟨ht, hnum⟩

end Ready

/-- Several tickets become READY with one result. -/
def State.readyTickets (s : State) (l : List Ticket) (data : Bytes) : State := l.foldl (fun u t => u.readyTicket t.num 0 data) s

theorem State.unit_readyTickets (s : State) (l : List Ticket) (data : Bytes) (k : Nat) : (s.readyTickets l data).unit k = s.unit k :=
  List.foldlRecOn (motive := fun u : State => u.unit k = s.unit k) l _ rfl fun u hu t _ => (State.unit_readyTicket u t.num 0 data k).trans hu

/-- A ticket that is pending after that was pending before and is none of them. -/
theorem State.mem_tickets_readyTickets {s : State} {l : List Ticket} {data : Bytes} {x : Ticket} (hx : x ∈ (s.readyTickets l data).mgmt.tickets)
    (hpending : x.ready = false) : x ∈ s.mgmt.tickets ∧ ∀ t ∈ l, x.num ≠ t.num := by
  induction l generalizing s with
  | nil => exact ⟨hx, by simp⟩
  | cons t l ih =>
    obtain ⟨hmem, hrest⟩ := ih hx
    obtain ⟨hmem, hnum⟩ := s.mem_tickets_readyTicket t.num 0 data hmem hpending
    exact ⟨hmem, by simpa using ⟨hnum, hrest⟩⟩

/-! ## Self-tests (R107, R470) -/

/-- A coding unit whose test has ended is under no test, and failed where the test did. -/
theorem State.unit_returnTested (s : State) {a : Nat} (hlow : 0x40 ≤ a) (hhigh : a < 0xA0) (pass : Bool) :
    ((s.returnTested a (some pass)).unit a).test = none ∧ ((s.returnTested a (some pass)).unit a).failed = !pass := by
  simp [State.returnTested, hlow, hhigh, State.showOos]

/-- The tests of an agent that are running: their tickets. -/
def State.testTickets (s : State) (a : Nat) : List Ticket :=
  s.mgmt.tickets.filter (fun t => t.kind == 1 && t.running && !t.ready && t.param 0 1 == a)

/-- What a test with a ticket leaves beside it: an engine's cause ends, or F173 (R443, R470). -/
theorem State.testFaults_ticketed (s : State) (a : Nat) (v : Fin 4) : s.testFaults a (v == 0) false
    = if v = 0 then (if 0xAC ≤ a ∧ a < 0xB0 then s.setCause (144 + (a - 0xAC)) false else s) else s.raiseFault { src := 173 } := by
  by_cases hv : v = 0 <;> simp [State.testFaults, hv]

/-- The margins that a test has measured of its agent's groups (R470). -/
def State.testMeasured (s : State) (a : Nat) (ms : List (List Int)) : State :=
  (List.range (groupList a).length).foldl (fun t i => match ms[i]? with
    | some m => if 4 ≤ m.length then t.storeMargins ((groupList a).getD i 0) m else t
    | none => t) s

/-- A test that was not abandoned: the unit returns to service, its tickets become READY, then what the verdict brings. -/
theorem execSelfTestDone_ticketed {s r u w : State} {a : Fin 256} {v : Fin 4} {dur : Nat} {ms : List (List Int)} (htest : s.inTest a = true)
    (hdrained : s.drained a = true) (hkept : s.testAbandoned a = false) (hticket : (s.unit a).test ≠ some 0)
    (hr : r = (s.testMeasured a ms).returnTested a (some (v == 0))) (hu : u = r.readyTickets (r.testTickets a) (r.testResult a v dur []))
    (hw : w = u.testFaults a (v == 0) false) :
    execSelfTestDone a v dur ms s = .next (if 0x40 ≤ a.val ∧ a.val < 0xA0
      then (w.sendRecord a (w.seqFor 0 - 0xA0) 5 0 0xFFFFFFFF 0 0 (w.now - usT dur)).startSign.startTests else w.startSign.startTests) := by
  have hfreeze : ((s.unit a).test == some 0) = false := by simpa using hticket
  subst hw hu hr
  simp only [execSelfTestDone, htest, hdrained, hkept, hfreeze, Bool.or_false, Bool.not_true, Bool.not_false, Bool.or_self, Bool.false_eq_true,
    if_false, Bool.true_and, decide_eq_true_eq]
  split <;> rfl

/-! ## Calibrations (R471, R472) -/

@[simp] theorem length_beBytes (n v : Nat) : (be n v).length = n := by
  induction n generalizing v with
  | zero => rfl
  | succ n ih => simp [be, ih]

section Calibrate
variable {s : State} {num : Nat} {x : Ticket} (hx : s.ticket num = some x) (hpending : x.ready = false) (hkind : x.kind = 2)
include hx hpending hkind

/-- A CALIBRATE of an agent measures its groups. -/
theorem execCalibrateDone_agent (hidle : s.inTest (x.param 0 1) = false) (hagent : x.param 0 1 ≠ 0xB8) (dur : Nat) (ms : List (List Int)) (r : RefReading) :
    execCalibrateDone num dur ms r s = .next ((s.measure (x.param 0 1) ms).readyTicket num 0
      ((s.measure (x.param 0 1) ms).testResult (x.param 0 1) 0 dur [])) := by
  simp [execCalibrateDone, hx, hpending, hkind, hidle, hagent]

/-- A CALIBRATE of the references has a result of 24 bytes: no group record, and the REF record (R472). -/
theorem execCalibrateDone_refs (hidle : s.inTest 0xB8 = false) (hagent : x.param 0 1 = 0xB8) (dur : Nat) (ms : List (List Int)) (r : RefReading) :
    ∃ data, execCalibrateDone num dur ms r s = .next ((s.refCal r).readyTicket num 0 data) ∧ data.length = 24 := by
  refine ⟨(s.refCal r).testResult 0xB8 0 dur (be 4 r.precres ++ be 2 ((signedOf 8 ((s.refCal r).regF Reg.CAL_TEMP 0 8)) % 65536).toNat
    ++ be 2 ((s.refCal r).regF Reg.CAL_REF 16 1) ++ zeros 8), ?_, ?_⟩
  · simp [execCalibrateDone, hx, hpending, hkind, hidle, hagent]
  · simp [State.testResult, zeros]

end Calibrate

/-- Settles O55: a ticket by what making it READY gives, a finished test by the return of its unit and the tickets that it ends. -/
theorem testsAndCalibrationsEnd : Obligations.TestsAndCalibrationsEnd := by
  refine ⟨fun s num x hx hkept hpending => ⟨fun hkind hrun hdue => ?_, fun dur ms r hkind hidle hagent => ?_, fun dur ms r u hkind hidle hagent hu => ?_⟩,
    fun s a v dur ms htest hdrained hkept hticket => ?_⟩
  · exact ⟨s.readyTicket num 2 [], _, by simp [execSelfTestFitTimeout, hx, hkind, hpending, hrun, hdue], State.ticket_readyTicket hx hkept hpending 2 [],
      rfl, rfl, rfl, by simp⟩
  · exact execCalibrateDone_agent hx hpending hkind hidle hagent dur ms r
  · subst hu
    exact execCalibrateDone_refs hx hpending hkind hidle hagent dur ms r
  · obtain ⟨r, hr⟩ : ∃ r, r = (s.testMeasured a ms).returnTested a (some (v == 0)) := ⟨_, rfl⟩
    obtain ⟨u, hu⟩ : ∃ u, u = r.readyTickets (r.testTickets a) (r.testResult a v dur []) := ⟨_, rfl⟩
    refine ⟨u, u.testFaults a (v == 0) false, u.testFaults_ticketed a v, execSelfTestDone_ticketed htest hdrained hkept hticket hr hu rfl,
      fun x hx hkind hrun hpending hagent => ?_, fun hlow hhigh => ?_⟩
    · rw [hu] at hx
      obtain ⟨hmem, hothers⟩ := State.mem_tickets_readyTickets hx hpending
      exact hothers x (List.mem_filter.mpr ⟨hmem, by simp [hkind, hrun, hpending, hagent]⟩) rfl
    · rw [hu, State.unit_readyTickets, hr]
      exact (s.testMeasured a ms).unit_returnTested hlow hhigh (v == 0)

end Sys2Proof.Machine
end

section
/-!
PROOFS. What the release of buffers and the closing of reams and sheets leave of the registers (R280, R285, R292, R366): those of contexts and renditions.
-/
namespace Sys2Proof.Machine

/-- The registers of contexts and renditions are as before. -/
def SlotRegsKept (s t : State) : Prop := ∀ a, 0x800000 ≤ a → t.reg a = s.reg a

theorem SlotRegsKept.refl (s : State) : SlotRegsKept s s := fun _ _ => rfl

theorem SlotRegsKept.trans {s t u : State} (h1 : SlotRegsKept s t) (h2 : SlotRegsKept t u) : SlotRegsKept s u :=
  fun a ha => (h2 a ha).trans (h1 a ha)

theorem SlotRegsKept.of_regs {s t : State} (h : t.regs = s.regs) : SlotRegsKept s t := fun a _ => by rw [State.reg, h, State.reg]

/-- Registers below those of the contexts do not count. -/
theorem SlotRegsKept.of_regsBut {s t : State} {l : List Nat} (h : RegsBut s t l) (hl : ∀ a ∈ l, a < 0x800000) : SlotRegsKept s t :=
  fun a ha => h a fun hmem => Nat.not_lt.mpr ha (hl a hmem)

theorem SlotRegsKept.foldl {α : Type} {f : State → α → State} (l : List α) (s : State) (h : ∀ t a, SlotRegsKept t (f t a)) : SlotRegsKept s (l.foldl f s) :=
  List.foldlRecOn (motive := SlotRegsKept s) l f (SlotRegsKept.refl s) fun t ht a _ => ht.trans (h t a)

theorem SlotRegsKept.rstate {s t : State} (h : SlotRegsKept s t) (n : Nat) : t.rstate n = s.rstate n := by
  rw [State.rstate, State.regF, h _ (by unfold Reg.RND_STATUS; omega), State.rstate, State.regF]

theorem State.bump_slotRegsKept (s : State) {a : Nat} (h : a + 4 < 0x800000) : SlotRegsKept s (s.bump a) :=
  .of_regsBut (RegsBut.of_bump rfl) fun b hb => by
    rw [mem_ctr] at hb
    omega

/-! ## Sheets and reams (R285, R292) -/

section Sheets
variable (s : State) (slot : Nat)

theorem State.tagQueue_regs (q : Nat) : (s.tagQueue q).regs = s.regs :=
  (State.tagQueue_good q (s.good_self (· = .net)) rfl).same .regs (by simp)

theorem State.startSign_regs : s.startSign.regs = s.regs := (State.startSign_good (s.good_self (· = .seals)) rfl).same .regs (by simp)

theorem State.backlogSheet_slotRegsKept (sheetMax : Nat) (x : Sheet) : SlotRegsKept s (s.backlogSheet sheetMax x) := by
  unfold State.backlogSheet
  dsimp only
  split
  · have hport : s.ptnPort x.partner < 4 := Nat.mod_lt _ (by decide)
    exact s.bump_slotRegsKept (by unfold Reg.PRT_SHEETS_LOST; omega)
  · exact .of_regs (State.tagQueue_regs _ _)

theorem State.closeSheet_slotRegsKept (r : Ream) : SlotRegsKept s (s.closeSheet slot r).1 := by
  unfold State.closeSheet
  split
  · exact .refl s
  · exact (s.bump_slotRegsKept (by decide)).trans (.foldl _ _ fun t _ => t.backlogSheet_slotRegsKept _ _)

theorem State.finalize_slotRegsKept (r : Ream) (reason : Nat) : SlotRegsKept s (s.finalize slot r reason) := by
  obtain ⟨fits, t, heq, ht⟩ : ∃ (fits : Bool) (t : State), s.finalize slot r reason = t.startSign
      ∧ t.regs = (if fits then (s, r) else s.closeSheet slot r).1.regs := ⟨_, _, rfl, rfl⟩
  have hclosed : SlotRegsKept s (if fits then (s, r) else s.closeSheet slot r).1 := by
    split
    · exact .refl s
    · exact s.closeSheet_slotRegsKept slot r
  rw [heq]
  exact hclosed.trans (.of_regs (t.startSign_regs.trans ht))

theorem State.closeReam_slotRegsKept (reason : Nat) : SlotRegsKept s (s.closeReam slot reason) := by
  unfold State.closeReam
  dsimp only
  split
  · split
    · exact SlotRegsKept.of_regs (by split <;> rfl)
    · exact .of_regs rfl
  · split
    · exact s.finalize_slotRegsKept slot _ reason
    · exact .refl s

end Sheets

/-! ## Buffers (R146, R366) -/

theorem State.freeOwn_slotRegsKept (s : State) (h : Nat) : SlotRegsKept s (s.freeOwn h) := by
  have hpool : handlePool h < 8 := Nat.mod_lt _ (by decide)
  have hrelease : SlotRegsKept s (s.release h) := .of_regsBut (s.regsBut_release h) fun a ha => by
    rw [List.mem_cons, mem_ctr] at ha
    unfold Reg.FP_FREE Reg.FP_FREES at ha
    omega
  unfold State.freeOwn
  split
  · exact .refl s
  · split
    · exact hrelease
    · exact .refl s

theorem State.sweepBufs_slotRegsKept (s : State) (n : Nat) : SlotRegsKept s (s.sweepBufs n) :=
  (SlotRegsKept.of_regs (t := s.setCtx n _) rfl).trans (.foldl _ _ fun t h => t.freeOwn_slotRegsKept h)

end Sys2Proof.Machine
end

section
/-!
PROOFS. Admission, the capabilities of the coding units, the opening and closing of renditions, and OOS (R88, R91, R92, R100, R160, R213, R268).
-/
namespace Sys2Proof.Machine

/-! ## Capabilities (R92, R461) -/

/-- The end of a window writes the unit's capability register: 0 out of service, else what its ring's frequency gives. -/
theorem State.publish_eq (s : State) (k : Fin 96) (f e : Nat) : ∃ v, s.publish (0x40 + k) f e
      = s.setReg (if k.val < 64 then Reg.DEC_CAP k else if k.val < 88 then Reg.ENC_CAP (k - 64) else Reg.CU_CAP (k - 88)) v
    ∧ (s.inService (0x40 + k) = false → v = 0#32)
    ∧ (s.inService (0x40 + k) = true → k.val < 64 → v = BitVec.ofNat 32 (s.published f 2 + s.published e 1 * 65536))
    ∧ (s.inService (0x40 + k) = true → 88 ≤ k.val → v = BitVec.ofNat 32 (s.published f 4)) := by
  have hdec : 0x40 + k.val < 0x80 ↔ k.val < 64 := by omega
  have henc : 0x40 + k.val < 0x98 ↔ k.val < 88 := by omega
  have hk1 : 0x40 + k.val - 0x80 = k.val - 64 := by omega
  have hk2 : 0x40 + k.val - 0x98 = k.val - 88 := by omega
  cases hin : s.inService (0x40 + k) with
  | false => exact ⟨0#32, by simp only [State.publish, hin, Bool.not_false, if_true, State.noCap, hdec, henc, hk1, hk2, Nat.add_sub_cancel_left], by simp⟩
  | true =>
    simp only [State.publish, hin, Bool.not_true, Bool.false_eq_true, if_false, hdec, henc, hk1, hk2, Nat.add_sub_cancel_left]
    by_cases h64 : k.val < 64
    · exact ⟨_, by rw [if_pos h64, if_pos h64], by simp, fun _ _ => rfl, by omega⟩
    · by_cases h88 : k.val < 88
      · exact ⟨_, by rw [if_neg h64, if_pos h88, if_neg h64, if_pos h88], by simp, by omega, by omega⟩
      · exact ⟨_, by rw [if_neg h64, if_neg h88, if_neg h64, if_neg h88], by simp, by omega, fun _ _ => rfl⟩

/-! ## The opening of a rendition (R88, R91) -/

theorem State.clearRndCounters_regsOnly (s : State) (n : Nat) : ∃ r, s.clearRndCounters n = { s with regs := r } := by
  obtain ⟨r1, h1⟩ := s.clearRegs_regsOnly (Reg.RC_OVERRUNS n) 8
  obtain ⟨r2, h2⟩ := (s.clearRegs (Reg.RC_OVERRUNS n) 8).clearRegs_regsOnly (Reg.CMP_PICTURES n) 14
  exact ⟨r2, by rw [State.clearRndCounters, h2, h1]⟩

theorem State.rstate_setRstate (s : State) (n v : Nat) : (s.setRstate n v).rstate n = v % 4 := State.regF_setRegF_same s (Reg.RND_STATUS n) 0 2 v (by decide)

/-- A FREE rendition that is no PROXY is ADMITTING, and its request waits for the evaluation. -/
theorem State.rndOpen_free {s : State} {n : Nat} (port : Nat) (hstate : s.rstate n = 0) (htype : s.rtype n ≠ 1) (hsafe : s.power.safe = false) :
    (s.rndOpen n port).rstate n = 1 ∧ (s.rndOpen n port).adm.reqs = s.adm.reqs ++ [(s.now, .rnd n port)] := by
  obtain ⟨r, hr⟩ := s.clearRndCounters_regsOnly n
  obtain ⟨t, ht⟩ : ∃ t, t = s.rndToAdmitting n := ⟨_, rfl⟩
  have hopen : s.rndOpen n port = { t with adm := { t.adm with reqs := t.adm.reqs ++ [(s.now, .rnd n port)] } } := by
    simp [State.rndOpen, hstate, htype, hsafe, ht]
  have hadmitting : t.rstate n = 1 := by rw [ht, State.rndToAdmitting, State.rstate_setRstate]
  have hadm : t.adm = s.adm := by
    rw [ht, State.rndToAdmitting, hr]
    rfl
  rw [hopen, hadm]
  exact ⟨hadmitting, rfl⟩

/-! ## The closing of a rendition (R88) -/

theorem State.endRndReam_slotRegsKept (s : State) (n reason : Nat) : SlotRegsKept s (s.endRndReam n reason) := by
  unfold State.endRndReam
  dsimp only
  split
  · refine SlotRegsKept.trans ?_ (State.closeReam_slotRegsKept _ _ _)
    exact .of_regs rfl
  · exact .of_regs rfl

/-- A rendition that returns to FREE is FREE. -/
theorem State.rstate_freeRnd (s : State) (n : Nat) : (s.freeRnd n).rstate n = 0 := by
  obtain ⟨t, gen, u, hu, hfree⟩ : ∃ (t : State) (gen : Nat) (u : State),
      u = ((((t.setRstate n 0).setRegF (Reg.RND_STATUS n) 16 16 gen).setRegF (Reg.RND_STATUS n) 4 2 0).clearRegs (Reg.RND_CHARGE_ENC n) 3).setRegF
        (Reg.RND_PRESS n) 0 7 64
      ∧ s.freeRnd n = (s.rndSources n).foldl (fun t c => (t.releaseScalers c).sweepBufs c) u := ⟨_, _, _, rfl, rfl⟩
  have hswept : SlotRegsKept u (s.freeRnd n) :=
    hfree ▸ .foldl _ u fun t c => (SlotRegsKept.of_regs rfl).trans ((t.releaseScalers c).sweepBufs_slotRegsKept c)
  have hpress : ¬ Reg.RND_STATUS n = Reg.RND_PRESS n := by unfold Reg.RND_STATUS Reg.RND_PRESS; omega
  have hcharge : Reg.RND_STATUS n < Reg.RND_CHARGE_ENC n := by unfold Reg.RND_STATUS Reg.RND_CHARGE_ENC; omega
  rw [hswept.rstate, hu, State.rstate, State.regF, State.reg_setRegF, if_neg hpress, State.reg_clearRegs_other _ _ _ (.inl hcharge), ← State.regF,
    State.regF_setRegF_other _ _ _ _ _ _ _ (by decide), State.regF_setRegF_other _ _ _ _ _ _ _ (by decide)]
  exact t.rstate_setRstate n 0

/-- An OPEN rendition that closes is CLOSING, or FREE where nothing of it is left. -/
theorem State.rstate_rndLeaveOpen {s : State} {n : Nat} (hstate : s.rstate n = 2) : (s.rndLeaveOpen n).rstate n = 3 ∨ (s.rndLeaveOpen n).rstate n = 0 := by
  obtain ⟨t, ht⟩ : ∃ t : State, s.rndLeaveOpen n = ((t.setRstate n 3).endRndReam n 3).tryFreeRnd n := by
    simp only [State.rndLeaveOpen, hstate, ne_eq, not_true_eq_false, if_false]
    exact ⟨_, rfl⟩
  rw [ht, State.tryFreeRnd]
  split
  · exact .inr (State.rstate_freeRnd _ n)
  · left
    rw [(State.endRndReam_slotRegsKept _ n 3).rstate]
    exact t.rstate_setRstate n 3

theorem State.rndLeaveOpen_notOpen {s : State} {n : Nat} (hstate : s.rstate n ≠ 2) : s.rndLeaveOpen n = s := if_pos hstate

/-! ## OOS (R92, R160, R213, R268) -/

section Oos
variable (s : State) (agent : Nat)

/-- The registers of a unit that show its capability and its status are not the one with its OOS bit. -/
theorem oosReg_ne_unitStatus : oosReg agent ≠ unitStatus agent := by
  unfold oosReg unitStatus Reg.DEC_CFG Reg.DEC_STATUS Reg.ENC_CFG Reg.ENC_STATUS Reg.CU_CFG Reg.CU_STATUS
  split <;> [skip; split] <;> omega

theorem State.reg_noCap_oosReg : (s.noCap agent).reg (oosReg agent) = s.reg (oosReg agent) := by
  refine State.reg_setReg_other _ _ _ _ ?_
  unfold oosReg Reg.DEC_CFG Reg.DEC_CAP Reg.ENC_CFG Reg.ENC_CAP Reg.CU_CFG Reg.CU_CAP
  split <;> [skip; split] <;> omega

theorem State.reg_showUnit_oosReg : (s.showUnit agent).reg (oosReg agent) = s.reg (oosReg agent) :=
  State.reg_setReg_other _ _ _ _ (oosReg_ne_unitStatus agent)

end Oos

/-- A write of OOS that the image does not lock acts at once. -/
theorem State.oos_writeOos {s : State} {agent : Nat} (out : Bool) (hmut : s.fieldMutable (oosReg agent) oosField = true) :
    (s.writeOos agent out).oos agent = out := by
  have hoos (t : State) : t.oos agent = t.regBit (oosReg agent) 0 := rfl
  rw [hoos, State.writeOos, if_pos hmut, State.regBit, State.reg_showUnit_oosReg]
  cases out with
  | true =>
    rw [if_pos rfl, State.reg_noCap_oosReg]
    exact s.regBit_setRegBit_same _ _ _ (by decide)
  | false => exact s.regBit_setRegBit_same _ _ _ (by decide)

/-- One that the image locks counts where it would change the bit, and does nothing else. -/
theorem State.writeOos_locked {s : State} {agent : Nat} (out : Bool) (hmut : s.fieldMutable (oosReg agent) oosField = false) :
    s.writeOos agent out = if s.regBit (oosReg agent) 0 = out then s else s.bump32 Reg.GLB_CFG_IMMUT 1 := by
  simp [State.writeOos, hmut]

/-- Settles O56: the evaluation by its guard, a capability by the register it writes, a rendition by what its opening and closing leave in RND_STATUS,
OOS by whether its field may change. -/
theorem admissionAndSlotsMove : Obligations.AdmissionAndSlotsMove := by
  intro s
  refine ⟨fun hfail hdue => ?_, fun hearly => ?_, fun k f e r hr => ?_, fun n port => ⟨fun hstate htype hsafe => ?_, fun hstate => ?_,
    fun hstate => ⟨_, rfl, rfl, State.rstate_rndLeaveOpen hstate⟩, fun hstate => ?_⟩, fun out d e u c agent hc => ?_⟩
  · simp only [exec_admissionEvaluation, execAdmissionEvaluation, hfail, Nat.not_lt.mpr hdue, Bool.false_eq_true, or_self, if_false]
    exact ⟨_, rfl, rfl⟩
  · simp [execAdmissionEvaluation, hearly]
  · obtain ⟨v, heq, hout, hdec, hcu⟩ := s.publish_eq k f e
    rw [← hr] at heq
    refine ⟨s.setReg r v, by rw [exec_capabilityPublish, execCapabilityPublish, heq], (RegsBut.refl s _).setReg _ _ (by simp), ?_⟩
    rw [State.reg_setReg_same]
    exact ⟨hout, hdec, hcu⟩
  · exact ⟨_, rfl, State.rndOpen_free port hstate htype hsafe⟩
  · simp [execRndOpen, State.rndOpen, hstate]
  · rw [exec_rndClose, execRndClose, State.rndLeaveOpen_notOpen hstate]
  · have hexec : exec c s = .next (s.writeOos agent out) := by
      obtain ⟨rfl, rfl⟩ | ⟨rfl, rfl⟩ | ⟨rfl, rfl⟩ := hc <;> rfl
    refine ⟨fun hmut => ⟨_, hexec, State.oos_writeOos out hmut, rfl⟩, fun hmut hne => ?_, fun hmut heq => ?_⟩
    · rw [State.writeOos_locked out hmut, if_neg hne] at hexec
      exact ⟨_, hexec, s.toNat_reg_bump32 _ 1, (RegsBut.refl s _).bump32 _ 1 (by simp)⟩
    · rw [hexec, State.writeOos_locked out hmut, if_pos heq]

end Sys2Proof.Machine
end

section
/-!
PROOFS. Composition: its dispatch, its pictures and surfaces, and its waits (R109, R110, R237, R250, R259, R262, R404).
-/
namespace Sys2Proof.Machine

section UnitEnds
variable (s : State) (agent k : Nat)

@[simp] theorem State.rnd_showUnit : (s.showUnit agent).rnd k = s.rnd k := rfl

@[simp] theorem State.rnd_endJob : (s.endJob agent).rnd k = s.rnd k := rfl

@[simp] theorem State.rnd_sendRecord (dest kind slot leafSeq status value since : Nat) :
    (s.sendRecord agent dest kind slot leafSeq status value since).rnd k = s.rnd k := rfl

end UnitEnds

/-- A unit that ends its job and sends the record of it has no job and holds that record (R404). -/
theorem State.endJob_sendRecord_spec (s : State) (agent dest kind slot leafSeq status value since : Nat) :
    ∃ h, (((s.endJob agent).sendRecord agent dest kind slot leafSeq status value since).unit agent).job = none
      ∧ ((s.endJob agent).sendRecord agent dest kind slot leafSeq status value since).heldRec agent = some h ∧ h.rcd.kind = kind ∧ h.rcd.slot = slot
      ∧ h.rcd.leafSeq = leafSeq ∧ h.rcd.unit = unitIndex agent := by
  obtain ⟨h, hrec, hkind, hslot, hleaf, hindex, -⟩ := (s.endJob agent).heldRec_sendRecord_same agent dest kind slot leafSeq status value since
  exact ⟨h, by simp, hrec, hkind, hslot, hleaf, hindex⟩

theorem unitIndex_agCu (u : Nat) : unitIndex (agCu u) = 88 + u := by
  unfold unitIndex agCu
  omega

/-! ## Dispatch (R109, R110, R262) -/

theorem execComposeDispatch_codingOff {s : State} (hoff : s.codingOn = false) (poison : Bool) : execComposeDispatch poison s = .next s := by
  simp [execComposeDispatch, hoff]

theorem exec_composeDispatch_first {s : State} {q : Nat × Cand} {qs : List (Nat × Cand)} (hon : s.codingOn = true) (hready : s.readyRnds = q :: qs)
    (poison : Bool) : exec (.composeDispatch poison) s = .next (State.composeFirst poison (q :: qs) s) := by
  simp [execComposeDispatch, hon, hready]

section First
variable {s : State} {n u : Nat} {c : Cand} (hu : s.chooseUnit 0x98 8 (s.rnd n).lastCu = some u)
include hu

/-- The record of the first ready rendition reads without poison and its picture finds a buffer: it is taken, and no other one. -/
theorem State.composeFirst_taken {poison : Bool} {t : State} (qs : List (Nat × Cand)) (hmark : (s.touchRecord u (rndSlot n)).1 = false)
    (hread : poison = false ∨ s.cached (rndSlot n) = true) (ht : (s.touchRecord u (rndSlot n)).2.startCompose n u c = some t) :
    State.composeFirst poison ((n, c) :: qs) s = t := by
  have hclean : (poison && !s.cached (rndSlot n)) = false := by simpa [imp_iff_not_or] using hread
  simp [State.composeFirst, hu, hmark, hclean, ht]

/-- The read of the first ready rendition's record returns poison (R110). -/
theorem State.composeFirst_poisoned {poison : Bool} (qs : List (Nat × Cand))
    (hbad : (s.touchRecord u (rndSlot n)).1 = true ∨ (poison = true ∧ s.cached (rndSlot n) = false)) :
    State.composeFirst poison ((n, c) :: qs) s = (s.touchRecord u (rndSlot n)).2.loseRecord n := by
  have htest : ((s.touchRecord u (rndSlot n)).1 || (poison && !s.cached (rndSlot n))) = true := by simpa using hbad
  simp only [State.composeFirst, hu, htest, if_true]

end First

/-- A unit that takes up a picture composes it, or builds the surface that it needs first (R250). -/
theorem State.job_of_startCompose {s t : State} {n u : Nat} {c : Cand} (h : s.startCompose n u c = some t) :
    (t.unit u).job = some (.compose n) ∨ (t.unit u).job = some (.flatten n) := by
  unfold State.startCompose at h
  split at h
  · cases h
    exact .inr (by simp)
  · dsimp only at h
    split at h
    · cases h
    · split at h
      · cases h
        exact .inl (by simp)
      · cases h
        exact .inl (by simp)

/-! ## A finished picture, a built surface (R250, R404) -/

/-- A unit that finishes its picture ends its job and sends the record of it, whatever the picture's reads found. -/
theorem execComposePictureDone_eq {s : State} {u : Fin 8} {po : ComposePoison} {n : Nat} {c : Cand} {l : List Cand}
    (hjob : (s.unit (agCu u)).job = some (.compose n)) (hwait : (s.rnd n).wait = c :: l) (hdone : c.done = none) (hunit : (s.rnd n).cmpUnit = some (agCu u))
    (hfr : s.frozen (agCu u) = false) (hheld : s.heldRec (agCu u) = none) (hsurf : po.surf = false ∨ (s.rnd n).surf = none) :
    ∃ (t : State) (dest status since : Nat), execComposePictureDone u po s
      = .next ((t.endJob (agCu u)).sendRecord (agCu u) dest 2 n 0xFFFFFFFF status 0 since) := by
  have hkept : (po.surf && (s.rnd n).surf.isSome) = false := by
    rcases hsurf with hsurf | hsurf <;> simp [hsurf]
  simp only [execComposePictureDone, hjob, hwait, hdone, hunit, hfr, hheld, hkept, ne_eq, not_true_eq_false, Bool.false_eq_true, Option.isSome_none,
    or_self, if_false]
  exact ⟨_, _, _, _, rfl⟩

/-- A unit that has built a rendition's surface ends its job, and the rendition has the surface. -/
theorem execFlattenDone_eq {s : State} {u : Fin 8} {n : Nat} (hjob : (s.unit (agCu u)).job = some (.flatten n)) (hfr : s.frozen (agCu u) = false)
    (hheld : s.heldRec (agCu u) = none) :
    ∃ (t : State) (dest since : Nat), execFlattenDone u s = .next ((t.endJob (agCu u)).sendRecord (agCu u) dest 4 n 0xFFFFFFFF 0 0 since)
      ∧ (t.rnd n).surf.isSome = true ∧ (t.rnd n).lastCu = some (agCu u) := by
  simp only [execFlattenDone, hjob, hfr, hheld, Bool.false_eq_true, Option.isSome_none, or_self, if_false]
  exact ⟨_, _, _, rfl, by simp, by simp⟩

/-! ## Waits (R237, R259) -/

/-- Sweeping the buffers of contexts changes no rendition. -/
theorem State.rnd_sweepAll (s : State) (l : List Nat) (n : Nat) : (l.foldl State.sweepBufs s).rnd n = s.rnd n := by
  have hrnds : (l.foldl State.sweepBufs s).rnds = s.rnds :=
    (Good.foldl (l := l) (s.good_self (· ∈ [.regs, .ctxs, .pools])) fun t c ht => State.sweepBufs_good c ht (by simp) (by simp) (by simp)).same .rnds (by simp)
  rw [State.rnd, hrnds, State.rnd]

/-- Before 100 ms have passed for any of them the candidates wait on. -/
theorem execTileWaitExpiry_early {s : State} {n : Fin 1024} (hearly : ∀ c, c ∈ (s.rnd n).wait → s.now < c.at_ + msT 100) :
    ∃ t, execTileWaitExpiry n s = .next t ∧ (t.rnd n).wait = (s.rnd n).wait := by
  have hmap : (s.rnd n).wait.map (fun c => if c.at_ + msT 100 ≤ s.now then s.decideTiles n c true else (c, false, 0))
      = (s.rnd n).wait.map (fun c => (c, false, 0)) :=
    List.map_congr_left fun c hc => if_neg (Nat.not_le.mpr (hearly c hc))
  refine ⟨_, rfl, ?_⟩
  rw [hmap, State.rnd_sweepAll]
  split <;> simp [Function.comp_def]

/-- A single candidate's tiles are decided after 100 ms, and those that were late are counted. -/
theorem execTileWaitExpiry_due {s : State} {n : Fin 1024} {c : Cand} (hwait : (s.rnd n).wait = [c]) (hdue : c.at_ + msT 100 ≤ s.now) {d : Cand × Bool × Nat}
    (hd : d = s.decideTiles n c true) {v : State} (hv : v = s.setRnd n { s.rnd n with wait := [d.1] }) : execTileWaitExpiry n s
      = .next ((s.rndSources n).foldl State.sweepBufs (if d.2.2 = 0 then v else v.bumpN (Reg.CMP_TILE_LATE n) d.2.2)) := by
  subst hd hv
  simp [execTileWaitExpiry, hwait, hdue, sumNat]

/-- A counter that is left alone where there is nothing to count has counted in any case (R10). -/
theorem State.countAny_spec {s t : State} (h : t.regs = s.regs) (a k : Nat) :
    Counted s (if k = 0 then t else t.bumpN a k) a k ∧ RegsBut s (if k = 0 then t else t.bumpN a k) (ctr a) := by
  have hkept : RegsBut s t (ctr a) := .of_regs _ h
  have hpair : t.pair a = s.pair a := (RegsBut.of_regs [] h).pair a List.not_mem_nil List.not_mem_nil
  have hlt := s.pair_lt a
  split
  · next hzero =>
    subst hzero
    exact ⟨by rw [Counted, hpair]; omega, hkept⟩
  · exact ⟨by rw [Counted, State.pair_bumpN, hpair], hkept.bumpN a k (by simp [ctr]) (by simp [ctr])⟩

/-- The pictures whose mask has not come in time are blanked and counted. -/
theorem execMaskWaitExpiry_release {s : State} {n : Fin 1024} (htype : s.rtype n = 2) {due : Cand → Bool}
    (hdue : ∀ c, due c = (!(c.handle != 0) && !s.maskReady n c && decide (c.at_ + maskWaitT (s.candWords n c) ≤ s.now))) :
    ∃ t, execMaskWaitExpiry n s = .next t
      ∧ (t.rnd n).wait = (s.rnd n).wait.map (fun c => if due c = true then { c with blank := true, blankAt := some s.now } else c)
      ∧ Counted s t (Reg.CMP_MASK_MISSING n) ((s.rnd n).wait.countP due) ∧ RegsBut s t (ctr (Reg.CMP_MASK_MISSING n)) := by
  obtain rfl : due = fun c => !(c.handle != 0) && !s.maskReady n c && decide (c.at_ + maskWaitT (s.candWords n c) ≤ s.now) := funext hdue
  simp only [execMaskWaitExpiry, htype, ne_eq, not_true_eq_false, if_false]
  exact ⟨_, rfl, by split <;> simp, State.countAny_spec rfl _ _⟩

/-- Settles O58: a dispatch by what the record's read finds and the job it starts, a unit's end by its record, the waits by their equations. -/
theorem compositionTakesAndFinishesPictures : Obligations.CompositionTakesAndFinishesPictures := by
  intro s
  refine ⟨fun n c qs u r hon hready hu hr => ⟨fun poison t hmark hread ht => ?_, fun hmark poison => ?_, fun hmiss => ?_⟩, execComposeDispatch_codingOff,
    fun u po n c l hjob hwait hdone hunit hfr hheld hsurf => ?_, fun u n hjob hfr hheld => ?_, fun n hearly => execTileWaitExpiry_early hearly,
    fun n c hwait hdue d hd v hv => execTileWaitExpiry_due hwait hdue hd hv, fun n due htype hdue => execMaskWaitExpiry_release htype hdue⟩
  · subst hr
    exact ⟨by rw [exec_composeDispatch_first hon hready, State.composeFirst_taken hu qs hmark hread ht], State.job_of_startCompose ht⟩
  · rw [exec_composeDispatch_first hon hready, State.composeFirst_poisoned hu qs (.inl (hr ▸ hmark)), hr]
  · rw [exec_composeDispatch_first hon hready, State.composeFirst_poisoned hu qs (.inr ⟨rfl, hmiss⟩), hr]
  · obtain ⟨t, dest, status, since, hexec⟩ := execComposePictureDone_eq hjob hwait hdone hunit hfr hheld hsurf
    obtain ⟨h, hidle, hrec, hkind, hslot, -, hindex⟩ := t.endJob_sendRecord_spec (agCu u) dest 2 n 0xFFFFFFFF status 0 since
    exact ⟨_, h, hexec, hidle, hrec, hkind, hslot, hindex.trans (unitIndex_agCu u)⟩
  · obtain ⟨t, dest, since, hexec, hsurf, hlast⟩ := execFlattenDone_eq hjob hfr hheld
    obtain ⟨h, hidle, hrec, hkind, hslot, -, -⟩ := t.endJob_sendRecord_spec (agCu u) dest 4 n 0xFFFFFFFF 0 0 since
    exact ⟨_, h, hexec, hidle, hrec, hkind, hslot, by simpa using hsurf, by simpa using hlast⟩

end Sys2Proof.Machine
end

section
/-!
PROOFS. Encode and stills: their dispatch, pictures, stills and timeouts (R109, R110, R190, R191, R208, R209, R404).
-/
namespace Sys2Proof.Machine

theorem unitIndex_agEc (c : Nat) : unitIndex (agEc c) = 64 + c := by
  unfold unitIndex agEc
  omega

/-! ## Dispatch (R109, R110, R191) -/

theorem execEncodeDispatch_codingOff {s : State} (hoff : s.codingOn = false) (poison : Bool) : execEncodeDispatch poison s = .next s := by
  simp [execEncodeDispatch, hoff]

theorem execEncodeDispatch_codingOn {s : State} (hon : s.codingOn = true) (poison : Bool) :
    execEncodeDispatch poison s = .next (State.encodeFirst poison s.recomposeStale.encReady s.recomposeStale) := by
  simp [execEncodeDispatch, hon]

section First
variable {s : State} {n u : Nat} {c : Cand} (hu : s.chooseUnit 0x80 24 (s.rnd n).lastEc = some u)
include hu

/-- The record of the first ready rendition reads without poison and its picture finds a buffer: it is taken, and no other one. -/
theorem State.encodeFirst_taken {poison : Bool} {t : State} (qs : List (Nat × Cand)) (hmark : (s.touchRecord u (rndSlot n)).1 = false)
    (hread : poison = false ∨ s.cached (rndSlot n) = true) (ht : (s.touchRecord u (rndSlot n)).2.startEncode n u c = some t) :
    State.encodeFirst poison ((n, c) :: qs) s = t := by
  have hclean : (poison && !s.cached (rndSlot n)) = false := by simpa [imp_iff_not_or] using hread
  simp [State.encodeFirst, hu, hmark, hclean, ht]

/-- The read of the first ready rendition's record returns poison (R110). -/
theorem State.encodeFirst_poisoned {poison : Bool} (qs : List (Nat × Cand))
    (hbad : (s.touchRecord u (rndSlot n)).1 = true ∨ (poison = true ∧ s.cached (rndSlot n) = false)) :
    State.encodeFirst poison ((n, c) :: qs) s = (s.touchRecord u (rndSlot n)).2.loseRecord n := by
  have htest : ((s.touchRecord u (rndSlot n)).1 || (poison && !s.cached (rndSlot n))) = true := by simpa using hbad
  simp only [State.encodeFirst, hu, htest, if_true]

end First

/-- A core that takes up a picture encodes it. -/
theorem State.job_of_startEncode {s t : State} {n u : Nat} {c : Cand} (h : s.startEncode n u c = some t) : (t.unit u).job = some (.encode n) := by
  unfold State.startEncode at h
  dsimp only at h
  split at h
  · cases h
  · cases h
    simp

/-! ## A finished picture (R190, R404) -/

/-- A core that finishes its picture ends its job and sends the record of it. -/
theorem execEncodePictureDone_eq {s : State} {c : Fin 24} {po : EncPoison} {n : Nat} {j : EncJob} (hjob : (s.unit (agEc c)).job = some (.encode n))
    (henc : (s.rnd n).encUnit = some j) (hunit : j.unit = agEc c) (hfr : s.frozen (agEc c) = false) (hheld : s.heldRec (agEc c) = none)
    (href : s.refPoisoned n j po = none) :
    ∃ (t : State) (dest status value since : Nat), execEncodePictureDone c po s
      = .next ((t.endJob (agEc c)).sendRecord (agEc c) dest 1 n (s.rnd n).leafSeq status value since) := by
  simp only [execEncodePictureDone, hjob, henc, hunit, hfr, hheld, href, ne_eq, not_true_eq_false, Bool.false_eq_true, Option.isSome_none, or_self,
    if_false]
  exact ⟨_, _, _, _, _, rfl⟩

/-! ## A picture without a buffer (R208) -/

/-- After 100 ms without a buffer the composed picture is discarded and its ream broken. -/
theorem execEncAllocTimeout_due {s v : State} {n : Fin 1024} {c : Cand} {l : List Cand} {w : Nat} (hready : (s.rnd n).ready = c :: l)
    (hwaited : c.waited = some w) (hdue : w + msT 100 ≤ s.now) (hv : v = (s.setRnd n { s.rnd n with ready := l }).dropComposed c.handle) :
    execEncAllocTimeout n s = .next ((v.breakRndReam n (max 4 c.closes)).endIfDrained n).settleSlots := by
  subst hv
  simp [execEncAllocTimeout, hready, hwaited, hdue]

/-! ## Stills (R209 to R211) -/

section Drop
variable (s : State) (t : Still)

/-- A still that leaves the list takes its ticket's entries with it, and no other. -/
theorem State.stills_dropStill : (s.dropStill t).stills = s.stills.filter (fun x => x.ticket != t.ticket) := by
  have hsweep (u : State) (n : Nat) : (u.sweepBufs n).stills = u.stills :=
    (State.sweepBufs_good n (u.good_self (· ∈ [.regs, .ctxs, .pools])) (by simp) (by simp) (by simp)).same .stills (by simp)
  have hdrop (u : State) (h : Nat) : (u.dropComposed h).stills = u.stills :=
    (State.dropComposed_good h (u.good_self (· ∈ [.regs, .pools])) (by simp) (by simp)).same .stills (by simp)
  cases hrnd : t.rnd with
  | none => simp only [State.dropStill, hrnd, hsweep]
  | some n => simp only [State.dropStill, hrnd, apply_ite State.stills, hdrop, ite_self]

theorem State.unit_dropStill (k : Nat) : (s.dropStill t).unit k = s.unit k := by
  have hunits : (s.dropStill t).units = s.units :=
    (State.dropStill_good t (s.good_self (· ∈ [.regs, .ctxs, .stills, .pools])) (by simp) (by simp) (by simp) (by simp)).same .units (by simp)
  rw [State.unit, hunits, State.unit]

end Drop

/-- A core that finishes a still ends its job, and the still leaves the list; the core sends the record of it. -/
theorem execStillDone_eq {s : State} {c : Fin 24} {num : Nat} {x : Still} (hjob : (s.unit (agEc c)).job = some (.still num))
    (hx : s.stills.find? (fun t => t.ticket == num) = some x) (hfr : s.frozen (agEc c) = false) (hheld : s.heldRec (agEc c) = none) :
    ∃ (t : State) (dest slot since : Nat), execStillDone c s
      = .next (((t.endJob (agEc c)).dropStill x).sendRecord (agEc c) dest 3 slot x.leafSeq 0 0 since) := by
  simp only [execStillDone, hjob, hx, hfr, hheld, Bool.false_eq_true, Option.isSome_none, or_self, if_false]
  exact ⟨_, _, _, _, rfl⟩

theorem exec_stillDone_record {s : State} {c : Fin 24} {num : Nat} {x : Still} (hjob : (s.unit (agEc c)).job = some (.still num))
    (hx : s.stills.find? (fun t => t.ticket == num) = some x) (hfr : s.frozen (agEc c) = false) (hheld : s.heldRec (agEc c) = none) :
    ∃ t h, exec (.stillDone c) s = .next t ∧ (t.unit (agEc c)).job = none ∧ t.heldRec (agEc c) = some h ∧ h.rcd.kind = 3
      ∧ h.rcd.leafSeq = x.leafSeq ∧ (∀ y, y ∈ t.stills → y.ticket ≠ num) := by
  have hnum : x.ticket = num := by simpa using List.find?_some hx
  obtain ⟨t, dest, slot, since, hexec⟩ := execStillDone_eq hjob hx hfr hheld
  obtain ⟨h, hrec, hkind, -, hleaf, -, -⟩ := ((t.endJob (agEc c)).dropStill x).heldRec_sendRecord_same (agEc c) dest 3 slot x.leafSeq 0 0 since
  refine ⟨_, h, hexec, by rw [State.unit_sendRecord, State.unit_dropStill, State.job_endJob_same], hrec, hkind, hleaf, fun y hy => ?_⟩
  have hmem : y ∈ ((t.endJob (agEc c)).dropStill x).stills := hy
  rw [State.stills_dropStill] at hmem
  simpa [hnum] using (List.mem_filter.mp hmem).2

/-- Settles O59: a dispatch by what the record's read finds and the job it starts, a core's end by its record, the timeouts by their equations. -/
theorem encodeTakesAndFinishesPictures : Obligations.EncodeTakesAndFinishesPictures := by
  intro s
  refine ⟨fun v n c qs u r hon hv hready hu hr => ?_, fun poison hon hready => ?_, fun poison hoff => execEncodeDispatch_codingOff hoff poison,
    fun c po n j hjob henc hunit hfr hheld href => ?_, fun n c l w hready hwaited hdue v hv => execEncAllocTimeout_due hready hwaited hdue hv,
    fun c num x hjob hx hfr hheld => exec_stillDone_record hjob hx hfr hheld, fun num x hx hkind hpending hrun hdue hkept => ?_⟩
  · have hexec (p : Bool) : exec (.encodeDispatch p) s = .next (State.encodeFirst p ((n, c) :: qs) v) := by
      rw [exec_encodeDispatch, execEncodeDispatch_codingOn hon, ← hv, hready]
    subst hr
    refine ⟨fun poison t hmark hread ht => ⟨?_, State.job_of_startEncode ht⟩, fun hmark poison => ?_, fun hmiss => ?_⟩
    · rw [hexec, State.encodeFirst_taken hu qs hmark hread ht]
    · rw [hexec, State.encodeFirst_poisoned hu qs (.inl hmark)]
    · rw [hexec, State.encodeFirst_poisoned hu qs (.inr ⟨rfl, hmiss⟩)]
  · rw [exec_encodeDispatch, execEncodeDispatch_codingOn hon, hready, State.encodeFirst]
  · obtain ⟨t, dest, status, value, since, hexec⟩ := execEncodePictureDone_eq hjob henc hunit hfr hheld href
    obtain ⟨h, hidle, hrec, hkind, hslot, hleaf, hindex⟩ := t.endJob_sendRecord_spec (agEc c) dest 1 n (s.rnd n).leafSeq status value since
    exact ⟨_, h, hexec, hidle, hrec, hkind, hslot, hleaf, hindex.trans (unitIndex_agEc c)⟩
  · exact ⟨s.readyTicket num 1 [], _, by simp [execStillTimeout, hx, hkind, hpending, hrun, hdue], State.ticket_readyTicket hx hkept hpending 1 [],
      rfl, rfl, rfl, by simp⟩

end Sys2Proof.Machine
end

section
/-!
PROOFS. The release of a group's events (R400), and the collector's round (R405, R406).
-/
namespace Sys2Proof.Machine

/-! ## Pending events while they are released and routed (R399, R400) -/

/-- The pending events keep their places, and none is held that was not held before. -/
def EventsKept (s t : State) : Prop :=
  ∃ f : PendEv → PendEv, t.ctl.events = s.ctl.events.map f ∧ ∀ e, (f e).ev = e.ev ∧ ((f e).held = true → e.held = true)

theorem EventsKept.refl (s : State) : EventsKept s s := ⟨id, by simp, fun _ => ⟨rfl, id⟩⟩

theorem EventsKept.trans {s t u : State} (h1 : EventsKept s t) (h2 : EventsKept t u) : EventsKept s u := by
  obtain ⟨f, hf, hkept⟩ := h1
  obtain ⟨g, hg, hkept'⟩ := h2
  exact ⟨g ∘ f, by rw [hg, hf, List.map_map], fun e => ⟨(hkept' _).1.trans (hkept e).1, fun h => (hkept e).2 ((hkept' _).2 h)⟩⟩

theorem EventsKept.foldl {α : Type} {f : State → α → State} (hf : ∀ t a, EventsKept t (f t a)) (l : List α) (s : State) :
    EventsKept s (l.foldl f s) := by
  induction l generalizing s with
  | nil => exact EventsKept.refl s
  | cons a l ih => exact (hf s a).trans (ih _)

/-- The sources of the pending events are the same. -/
theorem EventsKept.map_ev {s t : State} (h : EventsKept s t) : t.ctl.events.map (·.ev) = s.ctl.events.map (·.ev) := by
  obtain ⟨f, hf, hkept⟩ := h
  rw [hf, List.map_map]
  exact List.map_congr_left fun e _ => (hkept e).1

/-- An event that is held was held before. -/
theorem EventsKept.held {s t : State} (h : EventsKept s t) {e : PendEv} (he : e ∈ t.ctl.events) (hheld : e.held = true) :
    ∃ x, x ∈ s.ctl.events ∧ x.ev = e.ev ∧ x.held = true := by
  obtain ⟨f, hf, hkept⟩ := h
  rw [hf] at he
  obtain ⟨x, hx, rfl⟩ := List.mem_map.mp he
  exact ⟨x, hx, (hkept x).1.symm, (hkept x).2 hheld⟩

theorem State.releaseGroup_eventsKept (s : State) (g : Nat) : EventsKept s (s.releaseGroup g) := by
  refine ⟨fun e => if s.evGroup e.ev = g then { e with held := false } else e, rfl, fun e => ?_⟩
  dsimp only
  split <;> simp

/-- A group that is released holds no event. -/
theorem State.held_releaseGroup (s : State) (g : Nat) {e : PendEv} (he : e ∈ (s.releaseGroup g).ctl.events) (hg : s.evGroup e.ev = g) :
    e.held = false := by
  obtain ⟨x, -, rfl⟩ := List.mem_map.mp he
  by_cases hx : s.evGroup x.ev = g
  · simp only [hx, if_true]
  · simp only [hx, if_false] at hg

theorem State.tryRelease_eventsKept (s : State) (g : Nat) : EventsKept s (s.tryRelease g) := by
  unfold State.tryRelease
  split
  · exact EventsKept.refl s
  · split
    · exact s.releaseGroup_eventsKept g
    · split
      · exact s.releaseGroup_eventsKept g
      · exact EventsKept.refl s

/-- Routing an event changes where it is offered. -/
theorem State.routeOne_keeps (s : State) (e : PendEv) : (s.routeOne e).1.ev = e.ev ∧ (s.routeOne e).1.held = e.held := by
  unfold State.routeOne
  split <;> exact ⟨rfl, rfl⟩

theorem State.routeAll_eventsKept (s : State) : EventsKept s s.routeAll := by
  refine ⟨fun e => (s.routeOne e).1, ?_, fun e => ⟨(s.routeOne_keeps e).1, fun h => (s.routeOne_keeps e).2 ▸ h⟩⟩
  unfold State.routeAll
  dsimp only
  split <;> simp

theorem State.settleEvents_eventsKept (s : State) : EventsKept s s.settleEvents :=
  (EventsKept.foldl (fun t g => t.tryRelease_eventsKept g) _ s).trans (State.routeAll_eventsKept _)

/-! ## The end of a group's hold (R400) -/

theorem execHoldoffExpiry_due {s : State} {g : Fin 64} {since : Nat} (hsince : minNat? ((s.heldOf g).map (·.raised)) = some since)
    (hdue : since + usT (s.cfgF (Reg.INT_GRP_CFG g) 0 10) ≤ s.now) : execHoldoffExpiry g s = .next (s.releaseGroup g).settleEvents := by
  simp only [execHoldoffExpiry, hsince, hdue, if_true]

/-- Once a group is released and the events are settled, the group holds none. -/
theorem State.held_settleEvents_releaseGroup (s : State) (g : Nat) {e : PendEv} (he : e ∈ (s.releaseGroup g).settleEvents.ctl.events)
    (hg : s.evGroup e.ev = g) : e.held = false := by
  refine Bool.eq_false_iff.mpr fun hheld => ?_
  obtain ⟨x, hx, hev, hxheld⟩ := (s.releaseGroup g).settleEvents_eventsKept.held he hheld
  rw [s.held_releaseGroup g hx (hev ▸ hg)] at hxheld
  contradiction

/-! ## The records of a round (R405, R406) -/

theorem Counted.zero (s : State) (a : Nat) : Counted s s a 0 := by
  have hlt := s.pair_lt a
  unfold Counted
  omega

/-- Counts add up, and saturate all the same. -/
theorem Counted.trans {s t u : State} {a m n : Nat} (h1 : Counted s t a m) (h2 : Counted t u a n) : Counted s u a (m + n) := by
  unfold Counted at *
  omega

/-- The registers that the records of a round may change. -/
def roundRegs : List Nat := Reg.COL_WORST :: ctr Reg.COL_RECORDS ++ ctr Reg.COL_FULL_WAITS

/-- What the acceptance of the records `rs` leaves: each has taken a number and is counted. -/
structure Accepted (s t : State) (rs : List CRec) : Prop where
  gseq : t.ctl.gseq = s.ctl.gseq + rs.length
  records : Counted s t Reg.COL_RECORDS rs.length
  regs : RegsBut s t roundRegs

theorem Accepted.refl (s : State) : Accepted s s [] := ⟨rfl, Counted.zero s _, RegsBut.refl s _⟩

theorem Accepted.trans {s t u : State} {rs qs : List CRec} (h1 : Accepted s t rs) (h2 : Accepted t u qs) : Accepted s u (rs ++ qs) where
  gseq := by rw [h2.gseq, h1.gseq, List.length_append, Nat.add_assoc]
  records := List.length_append ▸ h1.records.trans h2.records
  regs := h1.regs.trans h2.regs

/-- A record that waits for another round takes no number. -/
theorem Accepted.setHeld (s : State) (held : Tab (Option HeldRec)) : Accepted s { s with ctl := { s.ctl with held := held } } [] :=
  ⟨rfl, Counted.zero s _, RegsBut.of_regs _ rfl⟩

theorem Accepted.fullWait (s : State) : Accepted s (s.bump Reg.COL_FULL_WAITS) [] where
  gseq := rfl
  records := (Counted.zero s _).regsBut (RegsBut.of_bump rfl) (by decide) (by decide)
  regs := (RegsBut.of_bump rfl).mono (by decide)

/-- The record accepted carries the next number and is counted; the longest wait may rise (R405). -/
theorem State.acceptRec_accepted (s : State) (u : Nat) (h : HeldRec) : Accepted s (s.acceptRec u h) [h.rcd] := by
  obtain ⟨t, hbump, hgseq, hworst⟩ : ∃ t, s.acceptRec u h = t.bump Reg.COL_RECORDS ∧ t.ctl.gseq = s.ctl.gseq + 1
      ∧ RegsBut s t [Reg.COL_WORST] := by
    refine ⟨_, rfl, ?_, ?_⟩
    · split <;> rfl
    · split
      · exact (RegsBut.of_regs _ rfl).setRegF _ _ _ _ (List.mem_singleton_self _)
      · exact RegsBut.of_regs _ rfl
  rw [hbump]
  exact ⟨hgseq, Counted.bump_of_regsBut hworst (by decide) (by decide), (hworst.mono (by decide)).bump _ (by decide) (by decide)⟩

/-- A round takes the records in their order, as many as there is room for. -/
theorem State.roundRecs_spec (s : State) (room : Nat) (hs : List (Nat × HeldRec)) :
    Accepted s (s.roundRecs room hs).1 (s.roundRecs room hs).2.2 ∧ (s.roundRecs room hs).2.2.length ≤ room
    ∧ (s.roundRecs room hs).2.2.Sublist (hs.map (·.2.rcd)) := by
  fun_induction State.roundRecs s room hs with
  | case1 s room => exact ⟨Accepted.refl s, by simp, by simp⟩
  | case2 s u h hs held ih =>
    obtain ⟨hacc, hlen, hsub⟩ := ih
    exact ⟨(Accepted.setHeld s _).trans hacc, hlen, hsub.cons _⟩
  | case3 s room u h hs hfull held ih =>
    obtain ⟨hacc, hlen, hsub⟩ := ih
    exact ⟨((Accepted.setHeld s _).trans (Accepted.fullWait _)).trans hacc, hlen, hsub.cons _⟩
  | case4 s room u h hs hfits was r ih =>
    obtain ⟨hacc, hlen, hsub⟩ := ih
    exact ⟨(s.acceptRec_accepted u h).trans hacc, Nat.succ_le_succ hlen, hsub.cons_cons _⟩

/-! ## The round (R405, R406) -/

/-- The round itself counts, and its events are raised. -/
theorem State.round_spec (s : State) :
    s.round.1.ctl.gseq = s.ctl.gseq + s.round.2.length ∧ s.round.2.length ≤ 8 ∧ s.round.2.Sublist (s.heldRecords.map (·.2.rcd))
    ∧ Counted s s.round.1 Reg.COL_ROUNDS 1 ∧ Counted s s.round.1 Reg.COL_RECORDS s.round.2.length
    ∧ RegsBut s s.round.1 (Reg.COL_WORST :: ctr Reg.COL_ROUNDS ++ ctr Reg.COL_RECORDS ++ ctr Reg.COL_FULL_WAITS ++ evRegs) := by
  obtain ⟨hacc, hlen, hsub⟩ := s.roundRecs_spec 8 s.heldRecords
  have hrecs : s.round.2 = (s.roundRecs 8 s.heldRecords).2.2 := rfl
  obtain ⟨evs, hround⟩ : ∃ evs, s.round.1 = ((s.roundRecs 8 s.heldRecords).1.bump Reg.COL_ROUNDS).raiseEvs evs := ⟨_, rfl⟩
  have hrounds : RegsBut _ ((s.roundRecs 8 s.heldRecords).1.bump Reg.COL_ROUNDS) (ctr Reg.COL_ROUNDS) := RegsBut.of_bump rfl
  have hevs := (RegsBut.refl ((s.roundRecs 8 s.heldRecords).1.bump Reg.COL_ROUNDS) evRegs).raiseEvs evs fun _ => id
  rw [hround, hrecs]
  refine ⟨by simpa only [State.raiseEvs_ctl_gseq, State.bump_ctl] using hacc.gseq, hlen, hsub, ?_, ?_, ?_⟩
  · exact (Counted.bump_of_regsBut hacc.regs (by decide) (by decide)).regsBut hevs (by decide) (by decide)
  · exact (hacc.records.regsBut hrounds (by decide) (by decide)).regsBut hevs (by decide) (by decide)
  · exact ((hacc.regs.mono (by decide)).trans (hrounds.mono (by decide))).trans (hevs.mono (by decide))

theorem execCollectorRound_empty {s : State} (h : s.heldRecords = []) : execCollectorRound s = .next s.expireWaiting := by
  rw [execCollectorRound, h]

theorem execCollectorRound_records {s : State} (h : s.heldRecords ≠ []) :
    execCollectorRound s = .next (s.round.2.foldl State.onAccept s.round.1).settleSlots.expireWaiting := by
  unfold execCollectorRound
  split
  · contradiction
  · rfl

/-- Settles O32: a release by what settling keeps of the events, a round by what each of its records takes. -/
theorem collectorAndModerationRelease : Obligations.CollectorAndModerationRelease := by
  intro s
  refine ⟨fun g since hsince hdue => ?_, fun hheld => ?_, fun hnone => execCollectorRound_empty hnone⟩
  · have hkept := (s.releaseGroup_eventsKept g).trans (s.releaseGroup g).settleEvents_eventsKept
    have honly := (s.releaseGroup_evOnly g).trans (s.releaseGroup g).settleEvents_evOnly
    exact ⟨_, execHoldoffExpiry_due hsince hdue, fun e he hg => s.held_settleEvents_releaseGroup g he hg, hkept.map_ev,
      honly.regsBut evRegs fun _ => id⟩
  · obtain ⟨hgseq, hlen, hsub, hrounds, hrecords, hregs⟩ := s.round_spec
    refine ⟨s.round.1, s.round.2, execCollectorRound_records hheld, hgseq, hlen, fun c hc => ?_, hrounds, hrecords, hregs⟩
    obtain ⟨q, hq, rfl⟩ := List.mem_map.mp (hsub.subset hc)
    exact ⟨q, hq, rfl⟩

end Sys2Proof.Machine
end

section
/-!
PROOFS. The sessions of KT while the chains are brought to an end and committed (R53, R299, R301): sheets join the fair queues, and no session changes.
-/
namespace Sys2Proof.Machine

theorem State.foldl_sess {α : Type} {f : State → α → State} (h : ∀ t a, (f t a).net.sess = t.net.sess) (l : List α) (s : State) :
    (l.foldl f s).net.sess = s.net.sess :=
  List.foldlRecOn (motive := fun t => t.net.sess = s.net.sess) l f rfl fun t ht a _ => (h t a).trans ht

@[simp] theorem State.setPort_sess (s : State) (p : Nat) (x : PortSt) : (s.setPort p x).net.sess = s.net.sess := rfl

@[simp] theorem State.setEgq_sess (s : State) (q : Nat) (x : EgqSt) : (s.setEgq q x).net.sess = s.net.sess := rfl

@[simp] theorem State.startSign_net (s : State) : s.startSign.net = s.net :=
  (State.startSign_good (s.good_self (· = .seals)) rfl).same .net (by simp)

/-! ## Sheets (R292) -/

@[simp] theorem State.tagQueue_sess (s : State) (q : Nat) : (s.tagQueue q).net.sess = s.net.sess := by
  unfold State.tagQueue
  dsimp only
  split <;> rfl

@[simp] theorem State.backlogSheet_sess (s : State) (sheetMax : Nat) (x : Sheet) : (s.backlogSheet sheetMax x).net.sess = s.net.sess := by
  unfold State.backlogSheet
  dsimp only
  split <;> simp

@[simp] theorem State.closeSheet_sess (s : State) (slot : Nat) (r : Ream) : (s.closeSheet slot r).1.net.sess = s.net.sess := by
  unfold State.closeSheet
  split
  · rfl
  · exact State.foldl_sess (fun t _ => t.backlogSheet_sess _ _) _ _

/-- A step that changes no session on either branch. -/
theorem sess_of_ite {c : Prop} [Decidable c] {s : State} {a b : State × Ream} (ha : a.1.net.sess = s.net.sess) (hb : b.1.net.sess = s.net.sess) :
    (if c then a else b).1.net.sess = s.net.sess := by
  split <;> assumption

theorem State.placeFuel_sess (slot type total : Nat) (headsAfter : Option (Nat × Bytes)) (fuel off : Nat) (rest : Bytes) (sr : State × Ream) :
    (State.placeFuel slot type total headsAfter fuel off rest sr).1.net.sess = sr.1.net.sess := by
  induction fuel generalizing off rest sr with
  | zero => rfl
  | succ fuel ih =>
    obtain ⟨s, r⟩ := sr
    refine sess_of_ite ?_ (sess_of_ite ?_ ?_)
    · rw [ih, State.closeSheet_sess]
    · exact sess_of_ite (s.closeSheet_sess slot _) rfl
    · rw [ih]
      exact sess_of_ite (s.closeSheet_sess slot _) rfl

@[simp] theorem State.place_sess (slot type : Nat) (obj : Bytes) (headsAfter : Option (Nat × Bytes)) (sr : State × Ream) :
    (State.place slot type obj headsAfter sr).1.net.sess = sr.1.net.sess := State.placeFuel_sess ..

/-! ## Reams and chains (R274, R282, R285) -/

@[simp] theorem State.openReam_sess (s : State) (slot : Nat) (hdr : ReamHdr) (l : Leaf) : (s.openReam slot hdr l).1.net.sess = s.net.sess := by
  unfold State.openReam
  simp only [State.place_sess]
  split <;> rfl

@[simp] theorem State.finalize_sess (s : State) (slot : Nat) (r : Ream) (reason : Nat) : (s.finalize slot r reason).net.sess = s.net.sess := by
  unfold State.finalize
  simp only [State.startSign_net, State.setSlot_net]
  exact sess_of_ite rfl (s.closeSheet_sess slot r)

@[simp] theorem State.chainOne_sess (s : State) (slot : Nat) (l : Leaf) : (s.chainOne slot l).net.sess = s.net.sess := by
  unfold State.chainOne
  dsimp only
  split
  all_goals
    simp only [State.finalize_sess, State.setSlot_net, apply_ite State.net, ite_self, State.place_sess, State.bump_net]
    split
    · exact State.openReam_sess ..
    · rfl
    · exact State.openReam_sess ..

@[simp] theorem State.chainForced_sess (slot n : Nat) (s : State) : (State.chainForced slot n s).net.sess = s.net.sess := by
  induction n generalizing s with
  | zero => rfl
  | succ n ih =>
    unfold State.chainForced
    split
    · simp [ih]
    · rfl

theorem State.chainReadyFuel_sess (slot fuel : Nat) (s : State) : (State.chainReadyFuel slot fuel s).net.sess = s.net.sess := by
  induction fuel generalizing s with
  | zero => rfl
  | succ fuel ih =>
    unfold State.chainReadyFuel
    split
    · split
      · simp [ih]
      · rfl
    · rfl

theorem State.chainRenditions_sess (s : State) : s.chainRenditions.net.sess = s.net.sess :=
  State.foldl_sess (fun _ _ => State.chainReadyFuel_sess ..) _ s

theorem State.chainAll_sess (s : State) : s.chainAll.net.sess = s.net.sess := by
  unfold State.chainAll
  refine (State.foldl_sess (fun t q => ?_) _ _).trans ((State.chainRenditions_sess _).trans (State.foldl_sess (fun t q => ?_) _ s))
  · rw [State.setSlot_net]
  · exact State.chainForced_sess ..

theorem State.markSteady_sess (s : State) : s.markSteady.net.sess = s.net.sess := State.foldl_sess (fun t p => t.setPort_sess p _) _ s

theorem State.commitChains_sess (s : State) (cause : Nat) : (s.commitChains cause).net.sess = s.net.sess := by
  unfold State.commitChains
  rw [State.startSign_net]
  exact s.chainAll.markSteady_sess.trans s.chainAll_sess

end Sys2Proof.Machine
end

section
/-!
PROOFS. The power-fail sequence (R297 to R300, R306, R307, R311, R312): its start, the manifest, the end of the commit, a collapse, and the return of power.
-/
namespace Sys2Proof.Machine

/-! ## What the sequence drops, and what it keeps (R300, R301) -/

/-- What keeps the journal and the rest of the power block keeps all of it. -/
theorem Good.power_eq {kp : Kept} {s : State} (h : Good kp s) (hpower : ¬ kp.free .power) (hjournal : ¬ kp.free .journal) : s.power = kp.base.power := by
  have hrest := h.same .power hpower
  have hkept := h.same .journal hjournal
  simp only [Part.same] at hrest hkept
  calc s.power = { ({ s.power with journal := [] } : Power) with journal := s.power.journal } := rfl
    _ = kp.base.power := by rw [hrest, hkept]

theorem State.dropTraffic_sess (s : State) : s.dropTraffic.net.sess = [] := State.foldl_sess (fun t p => t.setPort_sess p _) _ _

theorem State.foldl_dmaAbort_net (s : State) (l : List Nat) : (l.foldl State.dmaAbort s).net = s.net :=
  (Good.foldl (s.good_self (· ∈ [.regs, .dma])) fun _ n ht => State.dmaAbort_good n ht (by simp) (by simp)).same .net (by simp)

theorem State.dropMemory_net (s : State) : s.dropMemory.net = s.net :=
  (State.dropMemory_good (s.good_self (· ∈ [.regs, .cells, .memory])) (by simp) (by simp) (by simp)).same .net (by simp)

theorem State.powerShed_sess (s : State) : s.powerShed.net.sess = [] := by
  unfold State.powerShed
  simp only [State.setRegBit_net, State.setRegF_net, State.dropMemory_net, State.foldl_dmaAbort_net, State.dropTraffic_sess]

theorem State.powerShed_power (s : State) : s.powerShed.power = s.power :=
  (State.powerShed_good (s.good_self fun p => p ≠ .power ∧ p ≠ .journal) (by simp) (by simp) (by simp) (by simp) (by simp) (by simp) (by simp) (by simp)
    (by simp) (by simp) (by simp) (by simp) (by simp)).power_eq (by simp) (by simp)

theorem State.chainAll_power (s : State) : s.chainAll.power = s.power :=
  (State.chainAll_good (s.good_self (· ∈ [.regs, .net, .seals])) (by simp) (by simp) (by simp)).power_eq (by simp) (by simp)

theorem State.markSteady_power (s : State) : s.markSteady.power = s.power :=
  (State.markSteady_good (s.good_self (· = .net)) rfl).power_eq (by simp) (by simp)

@[simp] theorem State.startSign_power (s : State) : s.startSign.power = s.power :=
  (State.startSign_good (s.good_self (· = .seals)) rfl).power_eq (by simp) (by simp)

@[simp] theorem State.setSe_power (s : State) (k : Nat) (w : Option SignWork) : (s.setSe k w).power = s.power := rfl

@[simp] theorem State.syncState_net (s : State) : s.syncState.net = s.net :=
  (State.syncState_good (s.good_self (· ∈ [.regs, .faults])) (by simp) (by simp)).same .net (by simp)

@[simp] theorem State.syncState_power (s : State) : s.syncState.power = s.power :=
  (State.syncState_good (s.good_self (· ∈ [.regs, .faults])) (by simp) (by simp)).power_eq (by simp) (by simp)

theorem State.freeze_failing (s : State) (cause : Nat) : (s.freeze cause).power.failing = s.power.failing := rfl

/-- A commit changes the phase and what the manifest is made of, not that the power fails. -/
theorem State.commitChains_failing (s : State) (cause : Nat) : (s.commitChains cause).power.failing = s.power.failing := by
  unfold State.commitChains
  simp only [State.startSign_power, State.freeze_failing, State.markSteady_power, State.chainAll_power]

theorem State.failCommit_failing (s : State) (cause : Nat) : (s.failCommit cause).power.failing = s.power.failing := by
  unfold State.failCommit
  dsimp only
  repeat' split
  case isFalse => exact s.commitChains_failing cause
  all_goals rfl

theorem State.failCommit_sess (s : State) (cause : Nat) : (s.failCommit cause).net.sess = s.net.sess := by
  unfold State.failCommit
  dsimp only
  repeat' split
  case isFalse => exact s.commitChains_sess cause
  all_goals rfl

/-! ## The start (R297, R299, R312, R490) -/

/-- GLB_STATE.STATE follows the state of the device. -/
theorem State.regF_syncState (s : State) : s.syncState.regF Reg.GLB_STATE 0 3 = s.deviceState % 8 := by
  unfold State.syncState
  dsimp only
  split
  · exact State.regF_setRegF_same _ _ _ _ _ (by decide)
  · exact (State.regF_setRegF_other _ _ _ _ _ _ _ (by decide)).trans (State.regF_setRegF_same _ _ _ _ _ (by decide))

theorem State.deviceState_failing {s : State} (h : s.power.failing = true) : s.deviceState = 4 := by rw [State.deviceState, if_pos h]

/-- Once the sequence has started the power fails, no session is left, and GLB_STATE says POWER_FAIL. -/
theorem State.powerFail_spec (s : State) (cause : Nat) (acked : Bool) : (s.powerFail cause acked).power.failing = true
    ∧ (s.powerFail cause acked).net.sess = [] ∧ (s.powerFail cause acked).regF Reg.GLB_STATE 0 3 = 4 := by
  obtain ⟨u, heq, hfails⟩ : ∃ u : State, s.powerFail cause acked = (u.powerShed.failCommit cause).syncState ∧ u.power.failing = true := ⟨_, rfl, rfl⟩
  have hfailing : (u.powerShed.failCommit cause).power.failing = true := by rw [State.failCommit_failing, State.powerShed_power, hfails]
  rw [heq]
  refine ⟨?_, ?_, ?_⟩
  · rw [State.syncState_power, hfailing]
  · rw [State.syncState_net, State.failCommit_sess, State.powerShed_sess]
  · rw [State.regF_syncState, State.deviceState_failing hfailing]

theorem execPowerFailDetect_starts {s : State} {pf : Bool} {mv : Nat} {acked : Bool} (hcause : s.failCause pf mv ≠ 0) (hfailing : s.power.failing = false)
    (hon : s.boot.phase ≠ .off) : execPowerFailDetect pf mv acked s = .next ((s.senseVin pf mv).powerFail (s.failCause pf mv) acked) := by
  simp [execPowerFailDetect, hcause, hfailing, hon]

theorem execPowerFailDetect_noCause {s : State} {pf : Bool} {mv : Nat} {acked : Bool} (hcause : s.failCause pf mv = 0) :
    execPowerFailDetect pf mv acked s = .next (s.senseVin pf mv) := by
  simp [execPowerFailDetect, hcause]

/-! ## The manifest and its commit (R306, R307, R314) -/

theorem State.loadSegments_power (s : State) (m : Bytes) : (s.loadSegments m).power = s.power :=
  (State.loadSegments_good m (s.good_self (· = .net)) rfl).power_eq (by simp) (by simp)

theorem State.loadSegments_regs (s : State) (m : Bytes) : (s.loadSegments m).regs = s.regs :=
  (State.loadSegments_good m (s.good_self (· = .net)) rfl).same .regs (by simp)

theorem State.manifestSigned_spec (s : State) : s.manifestSigned.power.phase = .writing ∧ s.manifestSigned.power.made = s.power.made + 1
    ∧ s.manifestSigned.power.sig = ecdsaSign (s.seals.bootKey.getD 0) (sha256 (s.power.body.take 128 ++ s.power.root))
    ∧ s.manifestSigned.regs = s.regs := by
  unfold State.manifestSigned
  simp [State.loadSegments_power, State.loadSegments_regs]

/-- The engine that holds the manifest takes its next work. -/
theorem execManifestSigned_signing {s : State} (hphase : s.power.phase = .signing) (hheld : s.seals.se0 = some .manifest ∨ s.seals.se1 = some .manifest) :
    ∃ k, execManifestSigned s = .next (s.manifestSigned.setSe k none).startSign := by
  rw [execManifestSigned, if_neg (not_not_intro hphase)]
  split
  · exact ⟨0, rfl⟩
  · exact ⟨1, if_pos (hheld.resolve_left ‹_›)⟩

theorem State.recheck_power (s : State) (bad : List (Fin 256)) : (s.recheck bad).power = s.power :=
  (State.recheck_good bad (s.good_self (· = .regs)) rfl).power_eq (by simp) (by simp)

theorem State.recheck_regsBut (s : State) (bad : List (Fin 256)) : RegsBut s (s.recheck bad) [Reg.FLT_CAUSE 4, Reg.FLT_CAUSE 5] := by
  have hcauses : ∀ n ∈ [154, 161, 162, 163], Reg.FLT_CAUSE (n / 32) ∈ [Reg.FLT_CAUSE 4, Reg.FLT_CAUSE 5] := by decide
  unfold State.recheck
  refine List.foldlRecOn (motive := fun t => RegsBut s t [Reg.FLT_CAUSE 4, Reg.FLT_CAUSE 5]) _ _ (RegsBut.refl s _) fun t ht n hn => ?_
  split
  · exact ht
  · exact ht.setRegBit _ _ _ (hcauses n hn)

theorem State.deferredReset_none {s : State} (h : s.power.resetAfter = false) : s.deferredReset = s := by simp [State.deferredReset, h]

/-- A commit that ends without a reset that waits. -/
theorem execJournalCommitDone_writing {s : State} {bad : List (Fin 256)} (hphase : s.power.phase = .writing) (hreset : s.power.resetAfter = false) :
    execJournalCommitDone bad s = .next (if s.power.failing then s.commitDone else s.commitDone.recheck bad) := by
  rw [execJournalCommitDone, if_pos hphase]
  refine congrArg Host.Outcome.next (State.deferredReset_none ?_)
  split
  · exact hreset
  · rw [State.recheck_power]
    exact hreset

theorem State.isaState_commitDone (s : State) : s.commitDone.regF Reg.ISA_STATUS 0 3 = if s.power.failing = true then 2 else 3 := by
  unfold State.commitDone
  dsimp only
  rw [State.regF_setRegF_same _ _ _ _ _ (by decide)]
  split <;> rfl

/-! ## Collapse (R298) -/

/-- The chip is reset with the journal that the collapse leaves: as it was where no write was under way, and all of it where every part was complete. -/
theorem execVinCollapse_low {s : State} {mv done : Nat} (h : mv < 2300) :
    ∃ u : State, execVinCollapse mv done s = .next u.fullReset ∧ u.power.vin = mv
      ∧ (s.power.phase ≠ .writing → u.power.journal = s.power.journal)
      ∧ (s.power.phase = .writing → s.power.parts.length ≤ done →
        u.power.journal = s.power.parts.foldl (fun j q => writeJournal j q.1 q.2) s.power.journal) := by
  rw [execVinCollapse, if_neg (Nat.not_le.mpr h)]
  refine ⟨_, rfl, rfl, fun hidle => ?_, fun hwriting hall => ?_⟩
  · simp [hidle]
  · simp [hwriting, List.drop_eq_nil_of_le hall, List.take_of_length_le hall]

/-! ## Return (R311) -/

theorem execPowerReturnReset_failed {s : State} {e : BootEnv} (hgood : s.powerGood = true) (hfailing : s.power.failing = true) (hdone : s.power.phase = .done) :
    execPowerReturnReset e s = .next (if s.boot.nporLow then s.fullReset else s.fullReset.bootStart e) := by
  simp [execPowerReturnReset, hgood, hfailing, hdone]

theorem execPowerReturnReset_waiting {s : State} {e : BootEnv} (hgood : s.powerGood = true) (hfailing : s.power.failing = false) (hoff : s.boot.phase = .off)
    (hhigh : s.boot.nporLow = false) : execPowerReturnReset e s = .next (s.bootStart e) := by
  simp [execPowerReturnReset, hgood, hfailing, hoff, hhigh]

/-- Settles O50: each clause from what its row does in the case that the clause names. -/
theorem powerFailSequenceRuns : Obligations.PowerFailSequenceRuns := by
  intro s
  refine ⟨fun pf mv acked hcause hfailing hon => ?_, fun pf mv acked hcause => ?_, fun hphase hheld => ?_, fun bad hphase hreset => ?_,
    fun mv done hhigh => if_pos hhigh, fun mv done hlow => ?_, fun mv => ⟨_, rfl, rfl, rfl, rfl, rfl⟩, fun e hgood => ⟨fun hfailing hdone => ?_, ?_⟩⟩
  · exact ⟨_, execPowerFailDetect_starts hcause hfailing hon, rfl, State.powerFail_spec ..⟩
  · exact ⟨_, execPowerFailDetect_noCause hcause, rfl, rfl, rfl, rfl⟩
  · obtain ⟨k, hexec⟩ := execManifestSigned_signing hphase hheld
    obtain ⟨hwriting, hmade, hsig, hregs⟩ := s.manifestSigned_spec
    exact ⟨_, hexec, by simpa using hwriting, by simpa using hmade, by simpa using hsig,
      (State.startSign_regs _).trans hregs⟩
  · refine ⟨_, execJournalCommitDone_writing hphase hreset, ?_, ?_, ?_⟩
    · split
      · rfl
      · rw [State.recheck_power]
        rfl
    · rw [← s.isaState_commitDone]
      split
      · rfl
      · rw [State.regF, s.commitDone.recheck_regsBut bad _ (by decide), State.regF]
    · split
      · rfl
      · rw [State.recheck_power]
        rfl
  · obtain ⟨u, hexec, hvin, hidle, hall⟩ := execVinCollapse_low (s := s) (done := done) hlow
    exact ⟨_, hexec, rfl, rfl, hvin, rfl, hidle, hall⟩
  · rw [exec_powerReturnReset, execPowerReturnReset_failed hgood hfailing hdone]
    exact ⟨fun hhigh => by rw [hhigh]; rfl, fun hlow => by rw [hlow]; rfl⟩
  · exact execPowerReturnReset_waiting hgood

end Sys2Proof.Machine
end

section
/-!
PROOFS. Boot (R312, R412 to R414, R426, R428): its start, its timeouts, the memory ports, the flash, and the installation of an image.
-/
namespace Sys2Proof.Machine

/-! ## The start (R312, R413) -/

/-- The references and the monitors that a boot reads first leave the boot block. -/
theorem State.boot_references (s : State) (r : RefReading) (ps : List RingPair) : { ((s.refCal r).readMonitors ps).boot with flash := [], otp := {} }
    = { s.boot with flash := [], otp := {} } :=
  (State.readMonitors_good ps (State.refCal_good r (s.good_self (· ≠ .boot)) (by simp) (by simp) (by simp) (by simp) (by simp) (by simp) (by simp) (by simp)
    (by simp) (by simp) (by simp) (by simp) (by simp) (by simp) (by simp)) (by simp) (by simp) (by simp) (by simp) (by simp) (by simp) (by simp) (by simp)
    (by simp) (by simp) (by simp) (by simp) (by simp) (by simp) (by simp)).same .boot (by simp)

theorem State.bootStart_boot (s : State) (e : BootEnv) : (s.bootStart e).boot.phase = .journal ∧ (s.bootStart e).boot.straps = e.straps.val
    ∧ (s.bootStart e).boot.nporLow = false := by
  obtain ⟨u, heq, hphase, hstraps, hnpor⟩ : ∃ u : State, s.bootStart e = (u.refCal e.refs).readMonitors e.rings ∧ u.boot.phase = .journal
      ∧ u.boot.straps = e.straps.val ∧ u.boot.nporLow = false := ⟨_, rfl, rfl, rfl, rfl⟩
  have hkept := u.boot_references e.refs e.rings
  rw [heq]
  exact ⟨(congrArg BootSt.phase hkept).trans hphase, (congrArg BootSt.straps hkept).trans hstraps, (congrArg BootSt.nporLow hkept).trans hnpor⟩

theorem execBootStart_powerGood {s : State} {e : BootEnv} (hoff : s.boot.phase = .off) (hfailing : s.power.failing = false)
    (hcause : s.nporRelease.failCause s.nporRelease.power.pfail e.mv = 0) : execBootStart e s = .next (s.nporRelease.bootStart e) := by
  simp [execBootStart, hoff, hfailing, hcause]

theorem execBootStart_waits {s : State} {e : BootEnv} (hoff : s.boot.phase = .off) (hfailing : s.power.failing = false)
    (hcause : s.nporRelease.failCause s.nporRelease.power.pfail e.mv ≠ 0) :
    execBootStart e s = .next { s.nporRelease with power := { s.nporRelease.power with vin := e.mv, goodSince := none } } := by
  simp [execBootStart, hoff, hfailing, hcause]

/-! ## Timeouts (R412, R424) -/

theorem execFlashReadTimeout_slot {k : Fin 2} {s : State} (h : s.boot.phase = .slot k) :
    execFlashReadTimeout k s = .next (if s.boot.tries + 1 < 3 then { s with boot := { s.boot with tries := s.boot.tries + 1 } }
      else ({ s with boot := { s.boot with tries := 0 } } : State).slotDone k { reason := 1 }) := if_pos h

theorem execJournalReadTimeout_record {s : State} (h : s.boot.phase = .record) : execJournalReadTimeout s = .next (s.enterMaint 3) := by
  rw [execJournalReadTimeout, h]

theorem execJournalReadTimeout_journal {s : State} (h : s.boot.phase = .journal) :
    execJournalReadTimeout s = .next (((s.setReg Reg.GLB_BOOT_COUNT 1#32).setRegBit Reg.GLB_BOOT_STATUS 15 true).enterMaint 3) := by
  rw [execJournalReadTimeout, h]

/-! ## Memory ports (R351) -/

theorem execMemPortInitDone_up {p : Fin 8} {ms : List Margin} {s : State} (hphase : s.boot.phase = .memory) (hinit : s.memState p = 1) :
    execMemPortInitDone p true ms s
      = .next (((s.setMemPort p { s.memPort p with upAt := s.now, lastReport := s.now, lastScrub := s.now, lastRefresh := s.now }).probe p ms).setRegF
        (Reg.MEM_STATUS p) 0 3 2) := by
  simp [execMemPortInitDone, hphase, hinit]

theorem execMemPortInitDone_failed {p : Fin 8} {ms : List Margin} {s : State} (hphase : s.boot.phase = .memory) (hinit : s.memState p = 1) :
    execMemPortInitDone p false ms s
      = .next ((((s.setRegF (Reg.MEM_STATUS p) 0 3 4).raiseFault { src := 112 + p.val }).setCause (112 + p.val) true).enterMaint 4) := by
  simp [execMemPortInitDone, hphase, hinit]

/-! ## The flash (R426, R428) -/

/-- A kilobyte that does not begin a sector is programmed without an erase. -/
theorem execFlashProgramDone_within {s : State} {w : FlashWrite} {l : List FlashWrite} (hqueue : s.boot.queue = w :: l) (hoff : w.off % 4096 ≠ 0) :
    ∃ failed, execFlashProgramDone true s
      = .next (s.setBoot { s.boot with queue := l, flash := programFlash s.boot.flash (w.slot * 2 ^ 24 + w.off) w.data, failed := failed }) := by
  rw [execFlashProgramDone, hqueue]
  dsimp only
  rw [if_neg hoff]
  exact ⟨_, rfl⟩

theorem contains_addOnce (l : List Nat) (n : Nat) : (if l.contains n then l else l ++ [n]).contains n = true := by
  split
  · assumption
  · simp

theorem execFlashProgramDone_failed {s : State} {w : FlashWrite} {l : List FlashWrite} (hqueue : s.boot.queue = w :: l) :
    ∃ failed, execFlashProgramDone false s = .next (s.setBoot { s.boot with queue := l, failed := failed }) ∧ failed.contains w.slot = true := by
  rw [execFlashProgramDone, hqueue]
  exact ⟨_, rfl, contains_addOnce _ _⟩

/-! ## Installation (R428) -/

theorem execImageInstallDone_read {num : Nat} {x : Ticket} {s : State} (hx : s.ticket num = some x) (hkind : x.kind = 6) (hready : x.ready = false)
    (hqueue : s.boot.queue.any (fun q => q.slot == x.param 0 1) = false) :
    execImageInstallDone num s = .next (if s.boot.failed.contains (x.param 0 1)
      then ({ s with boot := { s.boot with tries := 0 } } : State).installDone x (x.param 0 1) 3 []
      else ({ s with boot := { s.boot with tries := 0 } } : State).installDone x (x.param 0 1)
        (({ s with boot := { s.boot with tries := 0 } } : State).checkSlot (x.param 0 1)).reason
        (({ s with boot := { s.boot with tries := 0 } } : State).checkSlot (x.param 0 1)).stream) := by
  rw [execImageInstallDone, hx]
  dsimp only
  rw [if_neg (by simp [hkind, hready, hqueue]), apply_ite Host.Outcome.next]

/-- Settles O52: each clause from what its row does in the case that the clause names. -/
theorem bootCommandsAct : Obligations.BootCommandsAct := by
  intro s
  refine ⟨fun e u hoff hfailing hu => ?_, fun k hphase => ?_, execJournalReadTimeout_record, execJournalReadTimeout_journal,
    fun p ms hphase hinit u hu => ?_, fun w l hqueue hoff => ?_, fun w l hqueue => ?_, fun num x hx hkind hready hqueue u hu => ?_⟩
  · subst hu
    refine ⟨fun hcause => ?_, execBootStart_waits hoff hfailing⟩
    obtain ⟨hphase, hstraps, hnpor⟩ := s.nporRelease.bootStart_boot e
    exact ⟨_, execBootStart_powerGood hoff hfailing hcause, hphase, hstraps, hnpor, rfl⟩
  · rw [exec_flashReadTimeout, execFlashReadTimeout_slot hphase]
    refine ⟨fun hfew => ?_, fun hmany => ?_⟩
    · exact ⟨_, congrArg _ (if_pos (by omega)), rfl, hphase, rfl⟩
    · exact congrArg _ (if_neg (by omega))
  · subst hu
    exact ⟨execMemPortInitDone_up hphase hinit, execMemPortInitDone_failed hphase hinit⟩
  · obtain ⟨failed, hexec⟩ := execFlashProgramDone_within hqueue hoff
    exact ⟨_, hexec, rfl, rfl, rfl⟩
  · obtain ⟨failed, hexec, hslot⟩ := execFlashProgramDone_failed hqueue
    exact ⟨_, hexec, rfl, rfl, hslot⟩
  · subst hu
    rw [exec_imageInstallDone, execImageInstallDone_read hx hkind hready hqueue]
    exact ⟨fun hfailed => congrArg _ (if_pos hfailed), fun hfailed => congrArg _ (if_neg (ne_true_of_eq_false hfailed))⟩

end Sys2Proof.Machine
end

section
/-!
PROOFS. What every step keeps: the canonical form of the tables (R307, R342, R352).
-/
namespace Sys2Proof.Machine

/-- What is kept where the canonical form alone counts: every part is free. -/
def canonOnly (queue : List Instr) (s : State) : Kept := ⟨queue, True, s, fun _ => True⟩

theorem good_canonOnly {s : State} (hs : s.Canon) : Good (canonOnly s.pending s) s := ⟨rfl, fun _ => hs, fun p _ => Part.same_refl p s⟩

theorem canonOnly_free (queue : List Instr) (s : State) (p : Part) : (canonOnly queue s).free p := trivial

/-- One tick of the base keeps the canonical form. -/
theorem State.idle_canon {s : State} (hs : s.Canon) : s.idle.Canon := by
  have hfree := canonOnly_free s.pending s
  exact (State.idle_good (good_canonOnly hs) (hfree _) (hfree _) (hfree _) (hfree _) (hfree _) (hfree _) (hfree _) (hfree _) (hfree _)
    (hfree _) (hfree _) (hfree _) (hfree _) (hfree _) (hfree _) (hfree _) (hfree _) (hfree _) (hfree _) (hfree _) (hfree _) (hfree _)
    (hfree _) (hfree _) (hfree _) (hfree _)).canon trivial

/-- A command keeps the canonical form. -/
theorem exec_canon {c : Instr} {s t : State} (hs : s.Canon) (h : exec c s = .next t) : t.Canon :=
  (exec_good c (good_canonOnly hs) (fun p _ => canonOnly_free s.pending s p) t h).canon trivial

/-- Settles O22: a step is a tick or a command, and taking a command out of the queue leaves the tables alone. -/
theorem everyStepKeepsCanonicalForm : Obligations.EveryStepKeepsCanonicalForm := by
  intro s t hs h
  unfold step at h
  split at h
  case h_1 =>
    cases h
    exact State.idle_canon hs
  case h_2 c rest _ =>
    have hfront : ({ s with pending := rest } : State).Canon := hs
    exact exec_canon hfront h

end Sys2Proof.Machine
end

section
/-!
PROOFS. Where a command stops: at a memory request to an address without devices, and nowhere else. The stop is the model's own (SPEC.md, Stops).
-/
namespace Sys2Proof.Machine

/-- The address that a memory request names. -/
def memRequestAddr : Instr → Option Nat
  | .memReadRequest _ a _ _ => some a
  | .memWriteRequest _ a _ _ _ _ => some a
  | _ => none

theorem memRequestAddr_eq_some (c : Instr) (a : Nat) : memRequestAddr c = some a ↔ ∃ agent,
    (∃ n errs, c = .memReadRequest agent a n errs) ∨ ∃ mask data poison errs, c = .memWriteRequest agent a mask data poison errs := by
  cases c <;> simp [memRequestAddr]

theorem completes_next (t : State) : Completes (.next t) := ⟨t, rfl⟩

theorem Completes.ite {c : Prop} [Decidable c] {a b : Host.Outcome State Fault Refusal} (ha : Completes a) (hb : Completes b) :
    Completes (if c then a else b) := by
  split <;> assumption

theorem not_completes_fault (f : Fault) : ¬ Completes (.fault f) := fun ⟨_, h⟩ => nomatch h

/-- A request to an address without devices stops. -/
theorem exec_absent {c : Instr} {s : State} {a : Nat} (hc : memRequestAddr c = some a) (ha : s.memPresent a = false) :
    exec c s = .fault (.absentMemory a) := by
  obtain ⟨agent, ⟨n, errs, rfl⟩ | ⟨mask, data, poison, errs, rfl⟩⟩ := (memRequestAddr_eq_some c a).mp hc
  · simp [execMemReadRequest, ha]
  · simp [execMemWriteRequest, ha]

/-- Every other command completes: what a row answers is a next state, or branches that each end in one. -/
theorem exec_completes {c : Instr} {s : State} (hc : ∀ a, memRequestAddr c = some a → s.memPresent a = true) : Completes (exec c s) := by
  cases c
  case memReadRequest agent a n errs =>
    rw [exec_memReadRequest, execMemReadRequest, if_neg (by simp [hc a rfl])]
    exact Completes.ite (completes_next _) (completes_next _)
  case memWriteRequest agent a mask data poison errs =>
    rw [exec_memWriteRequest, execMemWriteRequest, if_neg (by simp [hc a rfl])]
    exact Completes.ite (completes_next _) (completes_next _)
  all_goals try exact completes_next _
  all_goals
    simp only [exec, execTrainingDone, execPauseFrame, execArpRequest, execArpReply, execNeighborSolicitation, execNeighborAdvertisement,
      execMldQuery, execIgmpQuery, execIcmpEchoRequest, execRateWindowRollover, execNeighbourRefresh, execNeighbourRetryTimeout, execPtpSync,
      execPtpFollowUp, execPtpAnnounce, execPtpDelayResp, execPtpPdelayReq, execPtpPdelayResp, execPtpDelayReqTimer, execSyncLossTimeout,
      execHoldoverExpiry, execRtpPacket, execPartnerHeartbeat, execPartnerSilenceTimeout, execDeviceHeartbeatTimer, execHello, execBye,
      execMgmtSessionIdle, execFlashProgramDone, execSelfTestDone, execSelfTestFitTimeout, execCalibrateDone, execAttestSigned, execStillDone,
      execStillTimeout, execImageInstallDone, execMaintenanceInstallReset, execAdmissionEvaluation, execDecodeDispatch, execDecodeAllocFailure,
      execDecodePictureDone, execSealSigned, execSheetTimer, execComposeDispatch, execComposePictureDone, execFlattenDone, execMaskWaitExpiry,
      execEncodeDispatch, execEncodePictureDone, execEncAllocTimeout, execEgressSelect, execCollectorRound, execHoldoffExpiry, execFastEventAccept,
      execSeqWake, execMicrowordStep, execFetch, execSleep, execRetf, execLoad, execStore, execRegrd, execRegwr, execPop, execSetprio, execDoorbell,
      execUnit, execSeal, execDmaBurst, execMove, execLoop, execWait, execWaitTimeout, execSignal, execEnd, execNop, execWriteAgeDrain,
      execMemReadTimeout, execPatrolScrubRead, execMarginProbe, execRefresh, execRefreshRateRead, execBackgroundFill, execNightEntryDone,
      execNightExitDone, execPowerFailDetect, execManifestSigned, execJournalCommitDone, execVinCollapse, execPowerReturnReset, execNporFall,
      execBootStart, execFlashReadTimeout, execJournalReadTimeout, execMemPortInitDone, execSweepStart, execUnitResetDone, execRefCalibration,
      execGroupMeasurement, execCurrentLimitStep, execCurrentRestoreStep, execReplan, execOtpCommandDone, execKeyload, execDiscardedFrame,
      execInternalCheckFailure, execTemperatureLimitCrossing]
    with_reducible repeat' (first | apply completes_next | apply Completes.ite | split)

/-- Settles O25: a command that names absent memory stops, and every other one completes. -/
theorem onlyAbsentMemoryStops : Obligations.OnlyAbsentMemoryStops := by
  intro c s
  by_cases hc : ∃ a, memRequestAddr c = some a ∧ s.memPresent a = false
  · obtain ⟨a, hc, ha⟩ := hc
    have hstop := exec_absent hc ha
    refine ⟨.inr ⟨a, hstop⟩, fun b => ⟨fun hb => ?_, fun ⟨hb, hreq⟩ => exec_absent ((memRequestAddr_eq_some c b).mpr hreq) hb⟩⟩
    obtain rfl : a = b := by rw [hstop] at hb; cases hb; rfl
    exact ⟨ha, (memRequestAddr_eq_some c a).mp hc⟩
  · have hdone : Completes (exec c s) := exec_completes fun a ha => by
      by_contra habsent
      exact hc ⟨a, ha, Bool.eq_false_of_not_eq_true habsent⟩
    refine ⟨.inl hdone, fun a => ⟨fun hstop => absurd (hstop ▸ hdone) (not_completes_fault _), fun ⟨ha, hreq⟩ => ?_⟩⟩
    exact absurd ⟨a, (memRequestAddr_eq_some c a).mpr hreq, ha⟩ hc

end Sys2Proof.Machine
end

section
/-!
PROOFS. The symbol code (R338 to R341): both syndromes are linear, so one wrong symbol shows its value and its place.
-/
namespace Sys2Proof.Machine

/-! ## Multiplying by α -/

theorem gfx2_xor (a b : Byte) : gfx2 (a ^^^ b) = gfx2 a ^^^ gfx2 b := by
  have hcarry : ∀ x y : Bool, (if (x ^^ y) = true then 0x1D#8 else 0#8) = (if x = true then 0x1D#8 else 0#8) ^^^ (if y = true then 0x1D#8 else 0#8) := by
    decide
  rw [gfx2, BitVec.shiftLeft_xor_distrib, BitVec.getLsbD_xor, hcarry, gfx2, gfx2]
  ac_rfl

@[simp] theorem gfx2_eq_zero {a : Byte} : gfx2 a = 0#8 ↔ a = 0#8 := by
  have h : ∀ a : Byte, gfx2 a = 0#8 ↔ a = 0#8 := by decide
  exact h a

theorem gfx2_injective : Function.Injective gfx2 := fun a b h => by
  have hzero : gfx2 (a ^^^ b) = 0#8 := by rw [gfx2_xor, h, BitVec.xor_self]
  exact BitVec.xor_eq_zero_iff.mp (gfx2_eq_zero.mp hzero)

theorem iterate_gfx2_ne_zero {x : Byte} (hx : x ≠ 0#8) (i : Nat) : gfx2^[i] x ≠ 0#8 := by
  induction i with
  | zero => exact hx
  | succ i ih => rwa [Function.iterate_succ_apply', ne_eq, gfx2_eq_zero]

/-- No power of α up to the ninth is 1. -/
theorem iterate_gfx2_ne_self : ∀ x : Byte, x ≠ 0#8 → ∀ k : Fin 9, gfx2^[k.val + 1] x ≠ x := by decide

/-- The ten positions of a beat give ten different second syndromes (R340). -/
theorem iterate_gfx2_ne {x : Byte} (hx : x ≠ 0#8) {i j : Nat} (hij : i < j) (hj : j < 10) : gfx2^[i] x ≠ gfx2^[j] x := by
  obtain ⟨k, rfl⟩ : ∃ k, j = i + (k + 1) := ⟨j - i - 1, by omega⟩
  rw [Function.iterate_add_apply]
  intro h
  exact iterate_gfx2_ne_self x hx ⟨k, by omega⟩ ((gfx2_injective.iterate i) h).symm

/-- 0xF4 is 1 / 0x03 (R339). -/
theorem mul3_gfMul_F4 : ∀ y : Byte, gfMul 8 y 0xF4#8 ^^^ gfx2 (gfMul 8 y 0xF4#8) = y := by decide

/-! ## The syndromes -/

theorem foldl_xor (v : Bytes) (a : Byte) : v.foldl (· ^^^ ·) a = a ^^^ gfSum v := by
  induction v generalizing a with
  | nil => simp [gfSum]
  | cons x v ih => rw [gfSum, List.foldl_cons, List.foldl_cons, ih, ih, BitVec.zero_xor, BitVec.xor_assoc]

@[simp] theorem gfSum_cons (x : Byte) (v : Bytes) : gfSum (x :: v) = x ^^^ gfSum v := by
  rw [gfSum, List.foldl_cons, foldl_xor, BitVec.zero_xor]

@[simp] theorem gfEval_cons (x : Byte) (v : Bytes) : gfEval (x :: v) = x ^^^ gfx2 (gfEval v) := rfl

/-- A wrong symbol adds its value to the first syndrome. -/
theorem gfSum_modify (v : Bytes) (i : Nat) (x : Byte) (hi : i < v.length) : gfSum (v.modify i (· ^^^ x)) = gfSum v ^^^ x := by
  induction v generalizing i with
  | nil => contradiction
  | cons y v ih =>
    cases i with
    | zero => rw [List.modify_zero_cons, gfSum_cons, gfSum_cons]; ac_rfl
    | succ i => rw [List.modify_succ_cons, gfSum_cons, gfSum_cons, ih i (Nat.lt_of_succ_lt_succ hi), BitVec.xor_assoc]

/-- A wrong symbol adds its value times a power of α, by its place, to the second syndrome. -/
theorem gfEval_modify (v : Bytes) (i : Nat) (x : Byte) (hi : i < v.length) : gfEval (v.modify i (· ^^^ x)) = gfEval v ^^^ gfx2^[i] x := by
  induction v generalizing i with
  | nil => contradiction
  | cons y v ih =>
    cases i with
    | zero => rw [List.modify_zero_cons, gfEval_cons, gfEval_cons, Function.iterate_zero_apply]; ac_rfl
    | succ i =>
      rw [List.modify_succ_cons, gfEval_cons, gfEval_cons, ih i (Nat.lt_of_succ_lt_succ hi), gfx2_xor, Function.iterate_succ_apply', BitVec.xor_assoc]

/-- The check symbols make both syndromes 0 (R339). -/
theorem syndromes_rsEncode (d : Bytes) : gfSum (rsEncode d) = 0#8 ∧ gfEval (rsEncode d) = 0#8 := by
  rw [rsEncode]
  have hthird := mul3_gfMul_F4 (gfSum d ^^^ gfx2 (gfx2 (gfEval d)))
  generalize gfMul 8 (gfSum d ^^^ gfx2 (gfx2 (gfEval d))) 0xF4#8 = c1 at hthird
  constructor
  · rw [gfSum_cons, gfSum_cons, BitVec.xor_comm c1, BitVec.xor_self]
  · calc gfEval ((gfSum d ^^^ c1) :: c1 :: d) = (c1 ^^^ gfx2 c1) ^^^ (gfSum d ^^^ gfx2 (gfx2 (gfEval d))) := by
          rw [gfEval_cons, gfEval_cons, gfx2_xor]
          ac_rfl
      _ = 0#8 := by rw [hthird, BitVec.xor_self]

@[simp] theorem length_rsEncode (d : Bytes) : (rsEncode d).length = d.length + 2 := rfl

@[simp] theorem drop_rsEncode (d : Bytes) : (rsEncode d).drop 2 = d := rfl

/-! ## Decoding -/

/-- A beat without errors reads as its data (R339). -/
@[simp] theorem rsDecode_rsEncode (d : Bytes) : rsDecode (rsEncode d) = .good d 0 := by
  rw [rsDecode, if_pos (syndromes_rsEncode d), drop_rsEncode]

/-- The search finds the place of the wrong symbol where no earlier place gives the same syndrome. -/
theorem errPos_iterate {n i j : Nat} {x : Byte} (hj : j < n) (hne : ∀ k, k < j → gfx2^[k] x ≠ gfx2^[j] x) :
    errPos n i x (gfx2^[j] x) = some (i + j) := by
  induction n generalizing i j x with
  | zero => contradiction
  | succ n ih =>
    cases j with
    | zero => rw [errPos, if_pos (by rfl), Nat.add_zero]
    | succ j =>
      have hfirst : x ≠ gfx2^[j + 1] x := hne 0 (Nat.succ_pos j)
      have hrest : ∀ k, k < j → gfx2^[k] (gfx2 x) ≠ gfx2^[j] (gfx2 x) := fun k hk => hne (k + 1) (Nat.succ_lt_succ hk)
      rw [errPos, if_neg hfirst, Function.iterate_succ_apply, ih (Nat.lt_of_succ_lt_succ hj) hrest, Nat.add_right_comm, Nat.add_assoc]

/-- A wrong symbol put right. -/
theorem modify_xor_twice (v : Bytes) (i : Nat) (x : Byte) : (v.modify i (· ^^^ x)).modify i (· ^^^ x) = v := by
  rw [List.modify_modify_eq]
  have hid : ((· ^^^ x) ∘ (· ^^^ x) : Byte → Byte) = id := funext fun y => by
    rw [Function.comp_apply, BitVec.xor_assoc, BitVec.xor_self, BitVec.xor_zero, id]
  rw [hid, List.modify_id]

/-- One wrong symbol is corrected and counted (R339, R340). -/
theorem rsDecode_modify {d : Bytes} {i : Nat} {x : Byte} (hd : d.length = 8) (hi : i < 10) (hx : x ≠ 0#8) :
    rsDecode ((rsEncode d).modify i (· ^^^ x)) = .good d 1 := by
  obtain ⟨hsum, heval⟩ := syndromes_rsEncode d
  have hplace : i < (rsEncode d).length := by rw [length_rsEncode]; omega
  have hs0 : gfSum ((rsEncode d).modify i (· ^^^ x)) = x := by rw [gfSum_modify _ _ _ hplace, hsum, BitVec.zero_xor]
  have hs1 : gfEval ((rsEncode d).modify i (· ^^^ x)) = gfx2^[i] x := by rw [gfEval_modify _ _ _ hplace, heval, BitVec.zero_xor]
  have hne := iterate_gfx2_ne_zero hx i
  have hfound : errPos 10 0 x (gfx2^[i] x) = some i := by
    rw [errPos_iterate hi fun k hk => iterate_gfx2_ne hx hk hi, Nat.zero_add]
  rw [rsDecode, hs0, hs1, if_neg (by simp [hx]), if_neg (by simp [hx, hne]), hfound]
  dsimp only
  rw [modify_xor_twice, drop_rsEncode]

/-- Settles O40: a beat without errors has syndromes 0, and one wrong symbol is the value and the place that the syndromes give. -/
theorem singleSymbolErrorsAreCorrected : Obligations.SingleSymbolErrorsAreCorrected :=
  fun d _ _ hd => ⟨rsDecode_rsEncode d, fun hi hx => rsDecode_modify hd hi hx⟩

end Sys2Proof.Machine
end

section
/-!
PROOFS. What the memory ports keep while they count, log and raise: the time and the answers of the instant (R347, R350).
-/
namespace Sys2Proof.Machine

/-! ## What raises and log entries keep -/

/-- The time and the answers of the memory ports are as they were. -/
structure AnswersKept (s t : State) : Prop where
  resp : t.mem.resp = s.mem.resp
  now : t.now = s.now

theorem AnswersKept.refl (s : State) : AnswersKept s s := ⟨rfl, rfl⟩

theorem AnswersKept.trans {s t u : State} (h1 : AnswersKept s t) (h2 : AnswersKept t u) : AnswersKept s u :=
  ⟨h2.resp.trans h1.resp, h2.now.trans h1.now⟩

/-- What is kept where the memory ports and the time are left alone: every other part is free. -/
def portsAside (s : State) : Kept := ⟨s.pending, False, s, fun p => p ∉ [.memory, .cells, .now]⟩

theorem good_portsAside (s : State) : Good (portsAside s) s := s.good_self _

theorem free_portsAside {s : State} {p : Part} (hp : p ∉ [.memory, .cells, .now] := by decide) : (portsAside s).free p := hp

/-- What leaves the memory ports alone keeps all of memory, and so the answers of the instant. -/
theorem AnswersKept.of_good {s t : State} (h : Good (portsAside s) t) : AnswersKept s t := by
  have hrest : { t.mem with cells := [] } = { s.mem with cells := [] } := h.same .memory (by simp [portsAside])
  have hresp := congrArg MemSt.resp hrest
  exact ⟨hresp, h.same .now (by simp [portsAside])⟩

theorem State.nightExit_answersKept (s : State) : AnswersKept s s.nightExit := by
  unfold State.nightExit
  split <;> exact ⟨rfl, rfl⟩

/-- Of entering the safe state, only the exit from night retention touches memory (R359, R449). -/
theorem State.enterSafe_answersKept (s : State) (src : Nat) (srcs : List Nat) : AnswersKept s (s.enterSafe src srcs) := by
  unfold State.enterSafe
  dsimp only
  generalize hu : State.setRegBit _ Reg.FLT_GLOBAL 16 true = u
  have hsu : AnswersKept s u := by
    subst hu
    exact ⟨rfl, rfl⟩
  have hleft : Good (portsAside u.nightExit) (u.nightExit.leaveAll.abandonCoding.safeCommit).settleSlots := by
    refine State.settleSlots_good (State.safeCommit_good (State.abandonCoding_good (State.leaveAll_good (good_portsAside _) ?_ ?_ ?_ ?_ ?_ ?_ ?_
      ?_ ?_ ?_) ?_ ?_ ?_ ?_ ?_ ?_ ?_) ?_ ?_ ?_ ?_) ?_ ?_ ?_ ?_ ?_ ?_ ?_ ?_
    all_goals exact free_portsAside
  exact hsu.trans (u.nightExit_answersKept.trans (.of_good hleft))

theorem State.noteRaise_answersKept (s : State) (x : React) : AnswersKept s (s.noteRaise x) :=
  .of_good (State.noteRaise_good x (good_portsAside s) free_portsAside free_portsAside)

theorem State.freezeAgent_answersKept (s : State) (agent src : Nat) : AnswersKept s (s.freezeAgent agent src) := by
  refine .of_good (State.freezeAgent_good agent src (good_portsAside s) ?_ ?_ ?_ ?_ ?_ ?_ ?_ ?_ ?_ ?_)
  all_goals exact free_portsAside

theorem AnswersKept.foldl {α : Type} {f : State → α → State} (hf : ∀ t a, AnswersKept t (f t a)) (l : List α) (s : State) :
    AnswersKept s (l.foldl f s) := by
  induction l generalizing s with
  | nil => exact .refl s
  | cons a l ih => exact (hf s a).trans (ih _)

theorem State.raiseEvs_answersKept (s : State) (ns : List Nat) : AnswersKept s (s.raiseEvs ns) := ⟨by simp, by simp⟩

theorem State.syncState_answersKept (s : State) : AnswersKept s s.syncState :=
  .of_good (State.syncState_good (good_portsAside s) free_portsAside free_portsAside)

/-- A raise keeps the answers, whatever its reaction (R440 to R450). -/
theorem State.raiseFault_answersKept (s : State) (r : Raise) : AnswersKept s (s.raiseFault r) := by
  unfold State.raiseFault State.raiseFaults
  dsimp only
  refine .trans ?_ (State.syncState_answersKept _)
  refine .trans ?_ (AnswersKept.foldl (fun t x => t.freezeAgent_answersKept _ _) _ _)
  split
  · exact (AnswersKept.foldl State.noteRaise_answersKept _ s).trans (State.raiseEvs_answersKept _ _)
  · exact ((AnswersKept.foldl State.noteRaise_answersKept _ s).trans (State.raiseEvs_answersKept _ _)).trans (State.enterSafe_answersKept _ _ _)

/-! ## What the work of a port keeps -/

/-- Registers and the ports' own records alone have changed. -/
def PortWork (s t : State) : Prop := ∃ regs ports, t = { s with regs := regs, mem := { s.mem with ports := ports } }

theorem PortWork.refl (s : State) : PortWork s s := ⟨s.regs, s.mem.ports, rfl⟩

theorem PortWork.trans {s t u : State} (h1 : PortWork s t) (h2 : PortWork t u) : PortWork s u := by
  obtain ⟨_, _, rfl⟩ := h1
  obtain ⟨regs, ports, rfl⟩ := h2
  exact ⟨regs, ports, rfl⟩

theorem PortWork.setReg (s : State) (a : Nat) (v : Word) : PortWork s (s.setReg a v) := ⟨_, s.mem.ports, rfl⟩
theorem PortWork.setRegF (s : State) (a lo w x : Nat) : PortWork s (s.setRegF a lo w x) := ⟨_, s.mem.ports, rfl⟩
theorem PortWork.setRegBit (s : State) (a i : Nat) (b : Bool) : PortWork s (s.setRegBit a i b) := ⟨_, s.mem.ports, rfl⟩
theorem PortWork.bumpN (s : State) (a n : Nat) : PortWork s (s.bumpN a n) := ⟨_, s.mem.ports, rfl⟩
theorem PortWork.bump (s : State) (a : Nat) : PortWork s (s.bump a) := ⟨_, s.mem.ports, rfl⟩
theorem PortWork.bumpIf (s : State) (b : Bool) (a : Nat) : PortWork s (s.bumpIf b a) := by
  cases b
  · exact .refl s
  · exact .bump s a
theorem PortWork.setRegs (s : State) (a : Nat) (l : List Word) : PortWork s (s.setRegs a l) := by
  induction l generalizing s a with
  | nil => exact .refl s
  | cons v l ih => exact (PortWork.setReg s a v).trans (ih _ _)
theorem PortWork.setMemPort (s : State) (p : Nat) (x : MemPort) : PortWork s (s.setMemPort p x) := ⟨s.regs, _, rfl⟩

section Consequences
variable {s t : State} (h : PortWork s t)
include h

theorem PortWork.answersKept : AnswersKept s t := by
  obtain ⟨_, _, rfl⟩ := h
  exact ⟨rfl, rfl⟩

theorem PortWork.cells : t.mem.cells = s.mem.cells := by
  obtain ⟨_, _, rfl⟩ := h
  rfl

theorem PortWork.poison : t.mem.poison = s.mem.poison := by
  obtain ⟨_, _, rfl⟩ := h
  rfl

theorem PortWork.cfg (a : Nat) : t.cfg a = s.cfg a := by
  obtain ⟨_, _, rfl⟩ := h
  rfl

end Consequences

/-- A port issues its oldest writes until `n` remain (R346). -/
theorem State.issueTo_portWork (s : State) (p n : Nat) : PortWork s (s.issueTo p n) := by
  unfold State.issueTo
  dsimp only
  split
  · exact .refl s
  · exact ((PortWork.setMemPort s p _).trans (.bumpN _ _ _)).trans (.setRegF _ _ _ _ _)

theorem State.drain_portWork (s : State) (p : Nat) : PortWork s (s.drain p) :=
  ((PortWork.bump s _).trans (.setRegBit _ _ _ _)).trans (State.issueTo_portWork _ _ _)

theorem State.issueTo_wq_same (s : State) (p n : Nat) : ((s.issueTo p n).memPort p).wq = (s.memPort p).wq.drop ((s.memPort p).wq.length - n) := by
  unfold State.issueTo
  dsimp only
  split
  · next h => rw [h, List.drop_zero]
  · simp [State.showWq]

theorem State.issueTo_memPort_other (s : State) (p n : Nat) {q : Nat} (hq : q ≠ p) : (s.issueTo p n).memPort q = s.memPort q := by
  unfold State.issueTo
  dsimp only
  split
  · rfl
  · exact State.memPort_setMemPort_other _ _ _ _ hq

theorem State.issueTo_regsBut (s : State) (p n : Nat) : RegsBut s (s.issueTo p n) (Reg.MEM_STATUS p :: ctr (Reg.MEM_WR_LINES p)) := by
  unfold State.issueTo
  dsimp only
  split
  · exact .refl s _
  · exact (RegsBut.bumpN (.of_regs _ rfl) _ _ (by simp [ctr]) (by simp [ctr])).setRegF _ _ _ _ (by simp)

theorem AnswersKept.raiseUnless {s t : State} (h : AnswersKept s t) {c : Prop} [Decidable c] (r : Raise) :
    AnswersKept s (if c then t else t.raiseFault r) := by
  split
  · exact h
  · exact h.trans (State.raiseFault_answersKept _ _)

/-- A log entry of a port keeps the answers, and so does what it raises (R347, R350). -/
theorem State.memLog_answersKept (s : State) (p a agent : Nat) (e : MemErr) : AnswersKept s (s.memLog p a agent e) := by
  unfold State.memLog
  refine .raiseUnless (.trans (PortWork.answersKept ?_) (State.raiseEvs_answersKept _ _)) _
  exact ((((PortWork.setRegs _ _ _).trans (.setRegF _ _ _ _ _)).trans (.bumpIf _ _ _)).trans (.setRegBit _ _ _ _)).trans (.setMemPort _ _ _)

/-- A line read keeps the answers, whatever the read finds (R339, R347, R348). -/
theorem State.readLine_answersKept (s : State) (p a agent kind : Nat) (self keep : Bool) (errs : List SymErr) :
    AnswersKept s (s.readLine p a agent kind self keep errs).2 := by
  unfold State.readLine
  dsimp only
  split
  · exact ((PortWork.bump s _).trans (.bump _ _)).answersKept.trans (State.memLog_answersKept _ _ _ _ _)
  · split
    · exact (PortWork.bump s _).answersKept
    · refine .trans ?_ (State.raiseFault_answersKept _ _)
      cases keep
      · exact ((PortWork.bump s _).trans (.bumpN _ _ _)).answersKept
      · exact ⟨rfl, rfl⟩

/-- What a requester is answered follows the answers of the instant so far. -/
theorem AnswersKept.respond {s t : State} (h : AnswersKept s t) (agent a : Nat) (d : Option Bytes) :
    (t.respond agent a d).mem.resp = s.answers ++ [{ at_ := s.now, agent := agent, addr := a, data := d }] := by
  rw [State.respond, State.answers, h.resp, h.now]

end Sys2Proof.Machine
end

section
/-!
PROOFS. Line reads and read requests (R337, R339, R342, R343, R347, R348).
-/
namespace Sys2Proof.Machine

/-! ## The beats of a line (R338, R339, R342) -/

@[simp] theorem State.length_getMem (s : State) (a n : Nat) : (s.getMem a n).length = n := by simp [State.getMem]

theorem length_slice_beat {l : Bytes} {b : Nat} (hl : l.length = 128) (hb : b < 16) : (slice (8 * b) 8 l).length = 8 := by
  simp only [slice, List.length_take, List.length_drop]
  omega

/-- The beats of a line, one after the other, are the line. -/
theorem flatMap_slice (l : Bytes) (k : Nat) : (List.range k).flatMap (fun b => slice (8 * b) 8 l) = l.take (8 * k) := by
  induction k with
  | zero => rfl
  | succ k ih => rw [List.range_succ, List.flatMap_append, ih, List.flatMap_singleton, slice, Nat.mul_succ, List.take_add]

/-- A beat without errors and without the mark. -/
theorem beatSyms_clean (l : Bytes) {errs : List SymErr} {b : Nat} (h : ∀ e ∈ errs, e.beat ≠ b) :
    beatSyms l false errs b = rsEncode (slice (8 * b) 8 l) := by
  have hnone : errs.filter (fun e => e.beat == b) = [] := by simpa using h
  rw [beatSyms, hnone]
  rfl

/-- The beat that one wrong symbol hits. -/
theorem beatSyms_one (l : Bytes) (e : SymErr) : beatSyms l false [e] e.beat = (rsEncode (slice (8 * e.beat) 8 l)).modify e.pos (· ^^^ e.xor) := by
  simp [beatSyms]

/-- A beat of a marked line reads as the mark's syndromes (R342). -/
theorem rsDecode_mark (l : Bytes) (b : Nat) : rsDecode (beatSyms l true [] b) = .bad 0x00#8 0x1C#8 := by
  obtain ⟨hsum, heval⟩ := syndromes_rsEncode (slice (8 * b) 8 l)
  have hv : 1 < (rsEncode (slice (8 * b) 8 l)).length := by simp
  have hs0 : gfSum (beatSyms l true [] b) = 0x00#8 := by
    change gfSum (((rsEncode (slice (8 * b) 8 l)).modify 0 (· ^^^ 0xFF#8)).modify 1 (· ^^^ 0xFF#8)) = _
    rw [gfSum_modify _ _ _ (by rwa [List.length_modify]), gfSum_modify _ _ _ (by omega), hsum]
    rfl
  have hs1 : gfEval (beatSyms l true [] b) = 0x1C#8 := by
    change gfEval (((rsEncode (slice (8 * b) 8 l)).modify 0 (· ^^^ 0xFF#8)).modify 1 (· ^^^ 0xFF#8)) = _
    rw [gfEval_modify _ _ _ (by rwa [List.length_modify]), gfEval_modify _ _ _ (by omega), heval]
    rfl
  rw [rsDecode, hs0, hs1]
  rfl

section GoodBeats
variable {l : Bytes} {mark : Bool} {errs : List SymErr} {f : Nat → Nat}
  (h : ∀ b, b < 16 → rsDecode (beatSyms l mark errs b) = .good (slice (8 * b) 8 l) (f b))
include h

theorem readBeats_of_good : readBeats l mark errs = (List.range 16).map (fun b => .good (slice (8 * b) 8 l) (f b)) :=
  List.map_congr_left fun b hb => h b (List.mem_range.mp hb)

theorem not_any_isBad_of_good : (readBeats l mark errs).any Beat.isBad = false := by
  rw [readBeats_of_good h, List.any_map]
  simp [Beat.isBad]

/-- A line whose beats can all be read or corrected gives its bytes. -/
theorem flatMap_data_of_good (hl : l.length = 128) : (readBeats l mark errs).flatMap Beat.data = l := by
  rw [readBeats_of_good h, List.flatMap_map]
  exact (flatMap_slice l 16).trans (List.take_of_length_le (by omega))

theorem fixed_of_good : (readBeats l mark errs).map Beat.fixed = (List.range 16).map f := by
  rw [readBeats_of_good h, List.map_map]
  rfl

end GoodBeats

/-! ## A line read -/

section Read
variable {s : State} {p a agent kind : Nat} {self keep : Bool}

/-- A line without the mark, read without errors: its bytes, and one line read. -/
theorem State.readLine_clean (hm : s.lineMarked a = false) :
    s.readLine p a agent kind self keep [] = (some (s.getMem (a / 128 * 128) 128), s.bump (Reg.MEM_RD_LINES p)) := by
  have hgood : ∀ b, b < 16 → rsDecode (beatSyms (s.getMem (a / 128 * 128) 128) false [] b)
      = .good (slice (8 * b) 8 (s.getMem (a / 128 * 128) 128)) ((fun _ => 0) b) := fun b _ => by
    rw [beatSyms_clean _ (by simp), rsDecode_rsEncode]
  have hnone : sumNat ((List.range 16).map (fun _ => 0)) = 0 := by decide
  rw [State.readLine, hm]
  simp only [not_any_isBad_of_good hgood, flatMap_data_of_good hgood (s.length_getMem _ _), fixed_of_good hgood, hnone, if_true, if_false,
    Bool.false_eq_true]

/-- A line without the mark, read with one wrong symbol, gives its bytes all the same (R339). -/
theorem State.readLine_one {e : SymErr} (hm : s.lineMarked a = false) (hpos : e.pos < 10) (hxor : e.xor ≠ 0#8) :
    (s.readLine p a agent kind self keep [e]).1 = some (s.getMem (a / 128 * 128) 128) := by
  have hgood : ∀ b, b < 16 → rsDecode (beatSyms (s.getMem (a / 128 * 128) 128) false [e] b)
      = .good (slice (8 * b) 8 (s.getMem (a / 128 * 128) 128)) ((fun b => if b = e.beat then 1 else 0) b) := fun b hb => by
    by_cases hbeat : b = e.beat
    · subst hbeat
      rw [beatSyms_one, rsDecode_modify (length_slice_beat (s.length_getMem _ _) hb) hpos hxor]
      simp
    · rw [beatSyms_clean _ (by simpa using Ne.symm hbeat), rsDecode_rsEncode]
      simp [hbeat]
  rw [State.readLine, hm]
  simp only [not_any_isBad_of_good hgood, flatMap_data_of_good hgood (s.length_getMem _ _), if_false, Bool.false_eq_true]
  split <;> rfl

/-- A marked line gives poison (R342). -/
theorem State.readLine_marked (hm : s.lineMarked a = true) : (s.readLine p a agent kind self keep []).1 = none := by
  have hbad : (readBeats (s.getMem (a / 128 * 128) 128) true []).any Beat.isBad = true := by
    rw [readBeats, List.any_map, List.any_eq_true]
    exact ⟨0, by simp, by rw [Function.comp_apply, rsDecode_mark]; rfl⟩
  rw [State.readLine, hm]
  simp only [hbad, if_true]

end Read

/-! ## A read request (R337, R343, R347) -/

/-- A filled chunk is left as it is (R352). -/
theorem State.fillChunk_filled {s : State} {c : Nat} (h : tget (fun _ => false) s.mem.filled c = true) : s.fillChunk c = s := if_pos (.inr (.inr h))

theorem State.slice_getMem (s : State) (b k n m : Nat) : slice k n (s.getMem b (k + (n + m))) = s.getMem (b + k) n := by
  rw [State.getMem_add, State.getMem_add, slice, List.drop_left' (s.length_getMem _ _), List.take_left' (s.length_getMem _ _)]

/-- Part of a line. -/
theorem State.slice_line (s : State) {a n : Nat} (h : a % 128 + n ≤ 128) :
    slice (a % 128) (min n (128 - a % 128)) (s.getMem (a / 128 * 128) 128) = s.getMem a n := by
  have hpart := s.slice_getMem (a / 128 * 128) (a % 128) n (128 - a % 128 - n)
  rw [show a % 128 + (n + (128 - a % 128 - n)) = 128 by omega, show a / 128 * 128 + a % 128 = a by omega] at hpart
  rw [show min n (128 - a % 128) = n by omega, hpart]

section Served
variable {s : State} {agent a n p : Nat} {errs : List SymErr} (hp : p = s.memPortOf a) (hlow : 2 ^ 20 ≤ a)
  (hfill : tget (fun _ => false) s.mem.filled (a / 2 ^ 20) = true) (hq : s.queuedWrite p (a / 128) = false) (hn : a % 128 + n ≤ 128)
include hp hlow hfill hq

/-- A read of a filled line with no write queued is a line read. -/
theorem State.memRead_line : s.memRead agent a n errs = (((s.readLine p a agent 1 false true errs).1.map
    fun d => slice (a % 128) (min n (128 - a % 128)) d), (s.readLine p a agent 1 false true errs).2) := by
  subst hp
  have hnot : s.forwards (s.memPortOf a) (a / 128) (a % 128) (min n (128 - a % 128)) = false := by
    rw [State.queuedWrite, List.any_eq_false] at hq
    rw [State.forwards, List.any_eq_false]
    intro e he
    have := hq e he
    simp_all
  have hissue : s.issueLine (s.memPortOf a) (a / 128) = s := by
    rw [State.issueLine, hq]
    rfl
  rw [State.memRead, if_neg (by omega), State.fillChunk_filled hfill, if_neg (by rw [hnot]; exact Bool.false_ne_true), hissue]

/-- A clean read (R337, R343). -/
theorem State.memRead_clean (hn : a % 128 + n ≤ 128) (hm : s.lineMarked a = false) :
    s.memRead agent a n [] = (some (s.getMem a n), s.bump (Reg.MEM_RD_LINES p)) := by
  rw [State.memRead_line hp hlow hfill hq, State.readLine_clean hm, Option.map_some, s.slice_line hn]

/-- A read with one wrong symbol (R339, R348). -/
theorem State.memRead_one {e : SymErr} (hn : a % 128 + n ≤ 128) (hm : s.lineMarked a = false) (hpos : e.pos < 10) (hxor : e.xor ≠ 0#8) :
    (s.memRead agent a n [e]).1 = some (s.getMem a n) := by
  rw [State.memRead_line hp hlow hfill hq, State.readLine_one hm hpos hxor, Option.map_some, s.slice_line hn]

/-- A read of a marked line (R342, R347). -/
theorem State.memRead_marked (hm : s.lineMarked a = true) : (s.memRead agent a n []).1 = none := by
  rw [State.memRead_line hp hlow hfill hq, State.readLine_marked hm, Option.map_none]

theorem State.memRead_answersKept : AnswersKept s (s.memRead agent a n errs).2 := by
  rw [State.memRead_line hp hlow hfill hq]
  exact State.readLine_answersKept _ _ _ _ _ _ _ _

end Served

section Request
variable {s : State} {agent a p : Nat}

/-- A port that does not run takes no request, and a frozen agent sends none (R445). -/
theorem exec_memReadRequest_stalls {n : Nat} {errs : List SymErr} (ha : s.memPresent a = true) (hp : p = s.memPortOf a)
    (h : s.memState p ≠ 2 ∨ s.frozen agent = true) : exec (.memReadRequest agent a n errs) s = .next s := by
  subst hp
  rw [exec_memReadRequest, execMemReadRequest, if_neg (by simp [ha]), if_pos h]

theorem exec_memReadRequest_taken {n : Nat} {errs : List SymErr} (ha : s.memPresent a = true) (hp : p = s.memPortOf a)
    (hrun : s.memState p = 2) (hfr : s.frozen agent = false) :
    exec (.memReadRequest agent a n errs) s = .next (s.memRequest p (.read agent a n errs)) := by
  subst hp
  rw [exec_memReadRequest, execMemReadRequest, if_neg (by simp [ha]), if_neg (by simp [hrun, hfr])]

end Request

/-- Settles O41: a request by when its port takes it, and a read by what the beats of its line decode to. -/
theorem memoryReadsAnswerTheLine : Obligations.MemoryReadsAnswerTheLine := by
  intro agent a n p errs s ha _ hp
  refine ⟨exec_memReadRequest_stalls ha hp, fun hrun hfr hlater => ?_, fun hrun hfr hlast halone => ?_⟩
  · rw [exec_memReadRequest_taken ha hp hrun hfr, State.memRequest_holds _ _ hlater]
  have hserved : exec (.memReadRequest agent a n errs) s = .next ((s.memRead agent a n errs).2.respond agent a (s.memRead agent a n errs).1) := by
    rw [exec_memReadRequest_taken ha hp hrun hfr, State.memRequest_alone _ _ hlast halone]
    rfl
  refine ⟨fun hlow => ?_, fun _ => hserved, fun hlow hfill hq hn => ⟨fun hm herrs => ?_, fun e hm herrs _ hpos hxor => ?_, fun hm herrs => ?_⟩⟩
  · rw [hserved, State.memRead, if_pos hlow, ← hp]
  · subst herrs
    rw [State.memRead_clean hp hlow hfill hq hn hm] at hserved
    exact ⟨_, hserved, (PortWork.bump s _).answersKept.respond agent a _, rfl, Counted.of_bump rfl, RegsBut.of_bump rfl⟩
  · subst herrs
    have hdata := State.memRead_one (agent := agent) hp hlow hfill hq hn hm hpos hxor
    exact ⟨_, hserved, hdata ▸ (State.memRead_answersKept hp hlow hfill hq).respond agent a _⟩
  · subst herrs
    have hpoison := State.memRead_marked (agent := agent) (n := n) hp hlow hfill hq hm
    exact ⟨_, hserved, hpoison ▸ (State.memRead_answersKept hp hlow hfill hq).respond agent a _⟩

end Sys2Proof.Machine
end

section
/-!
PROOFS. Line writes and write requests (R337, R342 to R346).
-/
namespace Sys2Proof.Machine

/-! ## A line accepted into the write queue (R345, R346) -/

theorem State.setRegF_regsBut (s : State) (a lo w x : Nat) : RegsBut s (s.setRegF a lo w x) [a] := (RegsBut.refl s _).setRegF a lo w x (by simp)

/-- The registers of a port that a write changes: WQ_FILL and DRAINING, and what it counts. -/
def drainRegs (p : Nat) : List Nat := Reg.MEM_STATUS p :: ctr (Reg.MEM_DRAINS p) ++ ctr (Reg.MEM_WR_LINES p)

theorem State.drain_regsBut (s : State) (p : Nat) : RegsBut s (s.drain p) (drainRegs p) := by
  refine .trans (t := (s.bump (Reg.MEM_DRAINS p)).setRegBit (Reg.MEM_STATUS p) 3 true) ?_ ((State.issueTo_regsBut _ p _).mono ?_)
  · exact (RegsBut.bump (.refl s _) _ (by simp [drainRegs, ctr]) (by simp [drainRegs, ctr])).setRegBit _ _ _ (by simp [drainRegs])
  · intro b hb
    simp only [drainRegs, List.cons_append, List.mem_cons, List.mem_append] at hb ⊢
    tauto

/-- What accepting a line leaves: its bytes and its mark; the port's registers alone have changed. -/
structure LineAccepted (s t : State) (p line : Nat) (d : Bytes) (mark : Bool) : Prop where
  answers : AnswersKept s t
  byteAt : ∀ x, t.byteAt x = if x / 128 = line then d.getD (x % 128) 0#8 else s.byteAt x
  poison : ∀ l, tget (fun _ => false) t.mem.poison l = if l = line then mark else tget (fun _ => false) s.mem.poison l
  regs : RegsBut s t (drainRegs p)

theorem LineAccepted.portWork {s t u : State} {p line : Nat} {d : Bytes} {mark : Bool} (h : LineAccepted s t p line d mark) (hw : PortWork t u)
    (hr : RegsBut t u (drainRegs p)) : LineAccepted s u p line d mark where
  answers := h.answers.trans hw.answersKept
  byteAt := fun x => by rw [State.byteAt, hw.cells]; exact h.byteAt x
  poison := fun l => by rw [hw.poison]; exact h.poison l
  regs := h.regs.trans hr

/-- The bytes and the mark of a line are stored (R342). -/
theorem LineAccepted.store {s u : State} {p line : Nat} {d : Bytes} {mark : Bool} (hd : d.length = 128) (hw : PortWork s u)
    (hr : RegsBut s u (drainRegs p)) :
    LineAccepted s (({ u with mem := { u.mem with cells := putBytes u.mem.cells (line * 128) d } } : State).markLine line mark) p line d mark where
  answers := hw.answersKept.trans ⟨rfl, rfl⟩
  byteAt := fun x => by
    have hput := tget_putBytes u.mem.cells (line * 128) x d
    rw [hd] at hput
    by_cases hx : x / 128 = line
    · rw [if_pos hx, ← show x - line * 128 = x % 128 by omega]
      exact hput.trans (if_pos (by omega))
    · rw [if_neg hx]
      exact hput.trans ((if_neg (by omega)).trans (congrArg (tget memDefault · x) hw.cells))
  poison := fun l => by
    by_cases hl : l = line
    · rw [if_pos hl, hl]
      exact tget_tput_same _ _ _ _
    · rw [if_neg hl, ← hw.poison]
      exact tget_tput_other _ _ _ _ _ hl
  regs := hr.trans (.of_regs _ rfl)

theorem LineAccepted.drainIf {s t : State} {p line : Nat} {d : Bytes} {mark : Bool} (h : LineAccepted s t p line d mark) {c : Prop} [Decidable c] :
    LineAccepted s (if c then t.drain p else t) p line d mark := by
  split
  · exact h.portWork (t.drain_portWork p) (t.drain_regsBut p)
  · exact h

theorem State.acceptLine_spec (s : State) (p agent line : Nat) (mask : BitVec 128) {d : Bytes} (mark : Bool) (hd : d.length = 128) :
    LineAccepted s (s.acceptLine p agent line mask d mark) p line d mark := by
  have hstored (x : MemPort) := LineAccepted.store (u := (s.setMemPort p x).showWq p) (p := p) (line := line) (mark := mark) hd
    ((PortWork.setMemPort s p x).trans (.setRegF _ _ _ _ _)) ((RegsBut.of_regs _ rfl).setRegF _ _ _ _ (by simp [drainRegs]))
  exact (hstored _).drainIf

/-! ## A write of a line or part of one (R337, R342, R344) -/

@[simp] theorem length_mergeBytes (mask : BitVec 128) (new old : Bytes) : (mergeBytes mask new old).length = 128 := by simp [mergeBytes]

/-- The enabled bytes, and no others, take the new data (R344). -/
theorem getD_mergeBytes (mask : BitVec 128) (new old : Bytes) {i : Nat} (hi : i < 128) :
    (mergeBytes mask new old).getD i 0#8 = if mask.getLsbD i then new.getD i 0#8 else old.getD i 0#8 := by
  simp [mergeBytes, List.getD_eq_getElem?_getD, hi]

theorem State.getD_getMem (s : State) (a : Nat) {n i : Nat} (hi : i < n) : (s.getMem a n).getD i 0#8 = s.byteAt (a + i) := by
  simp [State.getMem, List.getD_eq_getElem?_getD, hi]

/-- Where a line takes merged bytes, the enabled bytes change and no others. -/
theorem LineAccepted.byteAt_merged {s t : State} {p line : Nat} {mask : BitVec 128} {data old : Bytes} {mark : Bool}
    (h : LineAccepted s t p line (mergeBytes mask data old) mark)
    (hold : ∀ i, i < 128 → mask.getLsbD i = false → old.getD i 0#8 = s.byteAt (line * 128 + i)) (x : Nat) :
    t.byteAt x = if x / 128 = line ∧ mask.getLsbD (x % 128) = true then data.getD (x % 128) 0#8 else s.byteAt x := by
  have hoff : x % 128 < 128 := Nat.mod_lt x (by decide)
  rw [h.byteAt, getD_mergeBytes _ _ _ hoff]
  by_cases hx : x / 128 = line
  · cases hbit : mask.getLsbD (x % 128)
    · rw [hold _ hoff hbit, show line * 128 + x % 128 = x by omega]
      simp
    · simp [hx]
  · simp [hx]

/-- The marks after a line has taken one, in DRAM (R342). -/
theorem LineAccepted.lineMarked {s t : State} {p a : Nat} {d : Bytes} {mark : Bool} (h : LineAccepted s t p (a / 128) d mark) (hd : isDram a = true) :
    t.lineMarked a = mark ∧ ∀ b, b / 128 ≠ a / 128 → t.lineMarked b = s.lineMarked b := by
  refine ⟨?_, fun b hb => ?_⟩
  · rw [State.lineMarked, hd, h.poison, if_pos rfl, Bool.true_and]
  · rw [State.lineMarked, h.poison, if_neg hb, State.lineMarked]

section Write
variable {s : State} {agent a p : Nat} {mask : BitVec 128} {data : Bytes} {mark : Bool} {errs : List SymErr} (hp : p = s.memPortOf a)
  (hlow : 2 ^ 20 ≤ a) (hfill : tget (fun _ => false) s.mem.filled (a / 2 ^ 20) = true)
include hp hlow hfill

/-- A write of a whole line. -/
theorem State.memWrite_whole (hmask : mask = BitVec.allOnes 128) :
    s.memWrite agent a mask data mark errs = (true, s.acceptLine p agent (a / 128) mask (mergeBytes mask data []) mark) := by
  subst hp
  rw [State.memWrite, if_neg (by omega), State.fillChunk_filled hfill, if_pos hmask]

/-- A write of part of a line reads the line, where none of it is queued, and merges (R344). -/
theorem State.memWrite_part (hmask : mask ≠ BitVec.allOnes 128) (hq : s.queuedWrite p (a / 128) = false) (hm : s.lineMarked a = false) :
    s.memWrite agent a mask data mark [] = (true, ((s.bump (Reg.MEM_RMW p)).bump (Reg.MEM_RD_LINES p)).acceptLine p agent (a / 128) mask
      (mergeBytes mask data (s.getMem (a / 128 * 128) 128)) mark) := by
  subst hp
  have hread := State.readLine_clean (s := s.bump (Reg.MEM_RMW (s.memPortOf a))) (p := s.memPortOf a) (a := a) (agent := agent) (kind := 3)
    (self := false) (keep := false) hm
  have hfree : (s.bump (Reg.MEM_RMW (s.memPortOf a))).queuedWrite (s.memPortOf a) (a / 128) = false := hq
  rw [State.memWrite, if_neg (by omega), State.fillChunk_filled hfill, if_neg hmask]
  simp only [hfree, Bool.false_eq_true, if_false, hread]
  rfl

end Write

section Request
variable {s : State} {agent a p : Nat} {mask : BitVec 128} {data : Bytes} {poison : Bool} {errs : List SymErr}

/-- A port that does not run takes no request, and a frozen agent sends none (R445). -/
theorem exec_memWriteRequest_stalls (ha : s.memPresent a = true) (hp : p = s.memPortOf a) (h : s.memState p ≠ 2 ∨ s.frozen agent = true) :
    exec (.memWriteRequest agent a mask data poison errs) s = .next s := by
  subst hp
  rw [exec_memWriteRequest, execMemWriteRequest, if_neg (by simp [ha]), if_pos h]

theorem exec_memWriteRequest_taken (ha : s.memPresent a = true) (hp : p = s.memPortOf a) (hrun : s.memState p = 2) (hfr : s.frozen agent = false) :
    exec (.memWriteRequest agent a mask data poison errs) s = .next (s.memRequest p (.write agent a mask data poison errs)) := by
  subst hp
  rw [exec_memWriteRequest, execMemWriteRequest, if_neg (by simp [ha]), if_neg (by simp [hrun, hfr])]

end Request

/-- The registers that a write may change, with the counts of the read that a part of a line takes. -/
def writeRegs (p : Nat) : List Nat :=
  Reg.MEM_STATUS p :: ctr (Reg.MEM_RMW p) ++ ctr (Reg.MEM_RD_LINES p) ++ ctr (Reg.MEM_WR_LINES p) ++ ctr (Reg.MEM_DRAINS p)

theorem drainRegs_sub_writeRegs {p b : Nat} (h : b ∈ drainRegs p) : b ∈ writeRegs p := by
  simp only [drainRegs, writeRegs, List.cons_append, List.mem_cons, List.mem_append] at h ⊢
  tauto

theorem rmw_notMem_drainRegs (p : Nat) : Reg.MEM_RMW p ∉ ctr (Reg.MEM_RD_LINES p) ++ drainRegs p
    ∧ Reg.MEM_RMW p + 4 ∉ ctr (Reg.MEM_RD_LINES p) ++ drainRegs p := by
  simp only [drainRegs, List.mem_cons, List.mem_append, List.cons_append, mem_ctr, Reg.MEM_RMW, Reg.MEM_RD_LINES, Reg.MEM_STATUS, Reg.MEM_DRAINS,
    Reg.MEM_WR_LINES]
  omega

/-- Settles O42: a request by when its port takes it, and a write by the line that the write queue accepts. -/
theorem memoryWritesStoreTheEnabledBytes : Obligations.MemoryWritesStoreTheEnabledBytes := by
  intro agent a p mask data poison errs s ha hdram hp
  refine ⟨exec_memWriteRequest_stalls ha hp, fun hrun hfr hlater => ?_, fun hrun hfr hlast halone => ?_⟩
  · rw [exec_memWriteRequest_taken ha hp hrun hfr, State.memRequest_holds _ _ hlater]
  have hserved : exec (.memWriteRequest agent a mask data poison errs) s = .next ((s.memWrite agent a mask data poison errs).2.respond agent a
      (if (s.memWrite agent a mask data poison errs).1 = true then some [] else none)) := by
    rw [exec_memWriteRequest_taken ha hp hrun hfr, State.memRequest_alone _ _ hlast halone]
    rfl
  refine ⟨fun hlow => ?_, fun _ => hserved, fun hlow hfill hcase => ?_⟩
  · rw [hserved, State.memWrite, if_pos hlow, ← hp, if_pos rfl]
  · by_cases hmask : mask = BitVec.allOnes 128
    · rw [State.memWrite_whole hp hlow hfill hmask] at hserved
      have hline := s.acceptLine_spec p agent (a / 128) mask poison (length_mergeBytes mask data [])
      obtain ⟨hmark, hother⟩ := hline.lineMarked hdram
      refine ⟨_, hserved, hline.answers.respond agent a _, hline.byteAt_merged fun i hi hbit => ?_, hmark, hother, fun hpart => absurd hmask hpart,
        hline.regs.mono fun _ => drainRegs_sub_writeRegs⟩
      rw [hmask, BitVec.getLsbD_allOnes, decide_eq_false_iff_not] at hbit
      exact absurd hi hbit
    · obtain ⟨hq, rfl, hm⟩ := hcase.resolve_left hmask
      rw [State.memWrite_part hp hlow hfill hmask hq hm] at hserved
      have hline := ((s.bump (Reg.MEM_RMW p)).bump (Reg.MEM_RD_LINES p)).acceptLine_spec p agent (a / 128) mask poison
        (length_mergeBytes mask data (s.getMem (a / 128 * 128) 128))
      obtain ⟨hmark, hother⟩ := hline.lineMarked hdram
      have hread : RegsBut (s.bump (Reg.MEM_RMW p)) ((s.bump (Reg.MEM_RMW p)).bump (Reg.MEM_RD_LINES p)) (ctr (Reg.MEM_RD_LINES p)) := .of_bump rfl
      have hlater : RegsBut (s.bump (Reg.MEM_RMW p)) _ (ctr (Reg.MEM_RD_LINES p) ++ drainRegs p) :=
        (hread.mono fun _ => List.mem_append_left _).trans (hline.regs.mono fun _ => List.mem_append_right _)
      obtain ⟨hrmw, hrmw4⟩ := rmw_notMem_drainRegs p
      refine ⟨_, hserved, hline.answers.respond agent a _, hline.byteAt_merged fun i hi _ => State.getD_getMem s _ hi, hmark, hother,
        fun _ => (Counted.of_bump rfl).regsBut hlater hrmw hrmw4, ?_⟩
      refine .trans (t := s.bump (Reg.MEM_RMW p)) ((RegsBut.of_bump rfl).mono fun b hb => ?_) (hlater.mono fun b hb => ?_)
      · simp [hb]
      · rcases List.mem_append.mp hb with hb | hb
        · simp [hb]
        · exact drainRegs_sub_writeRegs hb

end Sys2Proof.Machine
end

section
/-!
PROOFS. What a memory port does at its own times (R346, R347, R349, R352 to R356). The shortest interval that a channel asks for is log entry 17, and a
drain within one instant log entry 56.
-/
namespace Sys2Proof.Machine

/-! ## The drain of old writes (R346) -/

theorem memDrains_notMem_issueRegs (p : Nat) : Reg.MEM_DRAINS p ∉ Reg.MEM_STATUS p :: ctr (Reg.MEM_WR_LINES p)
    ∧ Reg.MEM_DRAINS p + 4 ∉ Reg.MEM_STATUS p :: ctr (Reg.MEM_WR_LINES p) := by
  simp only [List.mem_cons, mem_ctr, Reg.MEM_DRAINS, Reg.MEM_STATUS, Reg.MEM_WR_LINES]
  omega

theorem State.drain_counted (s : State) (p : Nat) : Counted s (s.drain p) (Reg.MEM_DRAINS p) 1 := by
  obtain ⟨hlow, hhigh⟩ := memDrains_notMem_issueRegs p
  have hstatus : RegsBut (s.bump (Reg.MEM_DRAINS p)) ((s.bump (Reg.MEM_DRAINS p)).setRegBit (Reg.MEM_STATUS p) 3 true)
      (Reg.MEM_STATUS p :: ctr (Reg.MEM_WR_LINES p)) := (RegsBut.refl _ _).setRegBit _ _ _ List.mem_cons_self
  exact (Counted.of_bump rfl).regsBut (hstatus.trans (State.issueTo_regsBut _ p _)) hlow hhigh

/-- A drain leaves the youngest LOW writes. -/
theorem State.drain_wq (s : State) (p : Nat) :
    ((s.drain p).memPort p).wq = (s.memPort p).wq.drop ((s.memPort p).wq.length - s.cfgF (Reg.MEM_WQ_LOW p) 0 7) :=
  State.issueTo_wq_same _ p _

/-- The oldest write has waited 20 µs. -/
theorem exec_writeAgeDrain_due {s : State} {p : Fin 8} {e : WqEnt} {l : List WqEnt} (hwq : (s.memPort p).wq = e :: l) (hdue : e.at_ + usT 20 ≤ s.now) :
    exec (.writeAgeDrain p) s = .next (s.drain p) := by
  rw [exec_writeAgeDrain, execWriteAgeDrain, hwq]
  exact if_pos hdue

/-! ## A read without data (R347) -/

theorem exec_memReadTimeout_due {s : State} {agent a : Nat} (ha : s.memPresent a = true) (hlow : 2 ^ 20 ≤ a) (hrun : s.memState (s.memPortOf a) = 2)
    (hq : s.queuedWrite (s.memPortOf a) (a / 128) = false) :
    exec (.memReadTimeout agent a) s = .next ((((s.fillChunk (a / 2 ^ 20)).bump (Reg.MEM_TIMEOUTS (s.memPortOf a))).memLog (s.memPortOf a) a agent
      { kind := 2, self := false }).respond agent a none) := by
  have hbelow : decide (a < 2 ^ 20) = false := decide_eq_false (by omega)
  rw [exec_memReadTimeout, execMemReadTimeout]
  exact if_neg (by rw [ha, hbelow, hrun, hq]; decide)

/-! ## The patrol (R349) -/

section Patrol
variable {s : State} {p : Fin 8} {l : Nat} (errs : List SymErr) (hrun : s.memState p = 2) (hnight : s.nightOn = false)
  (hpass : s.cfgF Reg.GLB_MEM_SCRUB 0 8 ≠ 0) (hdue : (s.memPort p).lastScrub + s.patrolGap ≤ s.now) (hl : s.patrolLine p = some l) {s1 : State}
  (hs1 : s1 = (s.setMemPort p { s.memPort p with scrub := l + 1, lastScrub := s.now }).fillChunk (l * 128 / 2 ^ 20))
include hrun hnight hpass hdue hl hs1

/-- The patrol's next line: read where no write of it is queued. -/
theorem exec_patrolScrubRead_due : exec (.patrolScrubRead p errs) s
    = if s1.queuedWrite p l = true then .next s1 else .next (s1.readLine p (l * 128) 0 1 true true errs).2 := by
  have hgo : ¬ (s.memState p ≠ 2 ∨ s.nightOn = true ∨ s.cfgF Reg.GLB_MEM_SCRUB 0 8 = 0 ∨ s.now < (s.memPort p).lastScrub + s.patrolGap) := by
    simp only [hrun, hnight, ne_eq, not_true_eq_false, Bool.false_eq_true, hpass, false_or]
    omega
  subst hs1
  rw [exec_patrolScrubRead, execPatrolScrubRead]
  simp only [if_neg hgo, hl]

end Patrol

/-! ## The margin probe (R354, R355, R357) -/

section Probe
variable {s : State} {p : Fin 8} {ms : List Margin} (hdue : (s.memPort p).lastProbe + sT (s.cfgF Reg.GLB_MEM_PROBE 0 12) ≤ s.now)
include hdue

theorem exec_marginProbe_run (hrun : s.memState p = 2) (hnight : s.nightOn = false) : exec (.marginProbe p ms) s = .next (s.probe p ms) := by
  rw [exec_marginProbe, execMarginProbe]
  rw [if_neg (by simp only [hrun]; omega), if_neg (by simp [hrun, hnight])]

theorem exec_marginProbe_skip (hstate : s.memState p = 3 ∨ (s.memState p = 2 ∧ s.nightOn = true)) :
    exec (.marginProbe p ms) s = .next (s.setMemPort p { s.memPort p with lastProbe := s.now }) := by
  rw [exec_marginProbe, execMarginProbe]
  rw [if_neg (by omega), if_pos (hstate.imp_right And.right)]

end Probe

/-! ## Refresh (R356) -/

theorem exec_refresh_due {s : State} {p : Fin 8} (hrun : s.memState p = 2) (hdue : (s.memPort p).lastRefresh + (s.memPort p).refresh ≤ s.now) :
    exec (.refresh p) s = .next (s.setMemPort p { s.memPort p with lastRefresh := s.now }) := by
  rw [exec_refresh, execRefresh]
  exact if_pos ⟨hrun, hdue⟩

/-- The channels above their operating limit. -/
theorem hotChannels_eq_nil (rs : List (Nat × Bool)) :
    (List.range rs.length).filter (fun k => (rs.getD k (0, false)).2) = [] ↔ ∀ r, r ∈ rs → r.2 = false := by
  rw [List.filter_eq_nil_iff]
  constructor
  · intro h r hr
    obtain ⟨k, hk, rfl⟩ := List.getElem_of_mem hr
    simpa [List.getD_eq_getElem?_getD, hk] using h k (List.mem_range.mpr hk)
  · intro h k hk
    rw [List.mem_range] at hk
    simp [List.getD_eq_getElem?_getD, hk, h _ (List.getElem_mem hk)]

/-- The port with the interval that its channels ask for. -/
def State.reported (s : State) (p : Fin 8) (rs : List (Nat × Bool)) : State :=
  s.setMemPort p { s.memPort p with lastReport := s.now, refresh := (minNat? (rs.map (·.1))).getD (s.memPort p).refresh }

section Report
variable {s : State} {p : Fin 8} {rs : List (Nat × Bool)} (hrun : s.memState p = 2) (hdue : (s.memPort p).lastReport + msT 16 ≤ s.now)
include hrun hdue

theorem exec_refreshRateRead_cool (h : ∀ r, r ∈ rs → r.2 = false) :
    exec (.refreshRateRead p rs) s = .next ((s.reported p rs).setCause (136 + p) false) := by
  rw [exec_refreshRateRead, execRefreshRateRead]
  dsimp only
  rw [if_neg (by simp only [hrun]; omega), (hotChannels_eq_nil rs).mpr h, State.reported]

theorem exec_refreshRateRead_hot (h : ∃ r, r ∈ rs ∧ r.2 = true) :
    exec (.refreshRateRead p rs) s = .next (((s.reported p rs).setRegBit (Reg.MEM_STATUS p) 18 true).raiseFault { src := 136 + p.val }) := by
  rw [exec_refreshRateRead, execRefreshRateRead]
  dsimp only
  rw [if_neg (by simp only [hrun]; omega)]
  split
  · next hnil =>
    obtain ⟨r, hr, hhot⟩ := h
    exact absurd ((hotChannels_eq_nil rs).mp hnil r hr) (by simp [hhot])
  · rfl

end Report

theorem State.cause_setCause_false (s : State) (n : Nat) : (s.setCause n false).cause n = false :=
  s.regBit_setRegBit_same _ _ _ (Nat.mod_lt n (by decide))

/-! ## The background fill (R352) -/

/-- Filling a chunk that is not filled: its bytes read 0, and no others change. -/
theorem State.fillChunk_spec {s : State} {c : Nat} (hs : s.Canon) (hc : c ≠ 0) (hlast : c ≤ s.memChunks)
    (hfill : tget (fun _ => false) s.mem.filled c = false) : tget (fun _ => false) (s.fillChunk c).mem.filled c = true
      ∧ (∀ x, (s.fillChunk c).byteAt x = if x / 2 ^ 20 = c then 0#8 else s.byteAt x) ∧ RegsBut s (s.fillChunk c) [Reg.GLB_MEM_FILL] := by
  obtain ⟨_, hcells, _, _, _⟩ := hs
  rw [State.fillChunk, if_neg (by simp [hc, hfill]; omega)]
  refine ⟨tget_tput_same _ _ _ _, fun x => ?_, RegsBut.setReg (.of_regs _ rfl) _ _ (by simp)⟩
  refine (tget_filter memDefault (fun k => k / 2 ^ 20 != c) s.mem.cells x hcells).trans ?_
  by_cases hx : x / 2 ^ 20 = c
  · rw [if_pos hx, hx, if_neg (by simp), memDefault]
  · rw [if_neg hx, if_pos (by simpa using hx), State.byteAt]

theorem exec_backgroundFill_next {s : State} {c : Nat} (hrun : ∀ k, k ∈ s.memPortList → s.memState k = 2)
    (hc : ((List.range s.memChunks).map (· + 1)).find? (fun c => !tget (fun _ => false) s.mem.filled c) = some c) :
    exec .backgroundFill s = .next (s.fillChunk c) := by
  have hnone : s.memPortList.any (fun p => s.memState p != 2) = false := by
    rw [List.any_eq_false]
    intro k hk
    simp [hrun k hk]
  rw [exec_backgroundFill, execBackgroundFill, hnone, if_neg Bool.false_ne_true, hc]

/-- Settles O43: each row by what it does where its time has come. -/
theorem portTimersAct : Obligations.PortTimersAct := by
  intro p s
  refine ⟨fun e l hwq hdue => ?_, fun agent a => exec_memReadTimeout_due, fun errs l s1 hrun hnight hpass hdue hl hs1 => ?_, fun ms hdue => ?_,
    fun hrun hdue => ?_, fun rs hrun hdue => ⟨fun hcool => ?_, fun hhot => ?_⟩, fun c hs hrun hc => ?_⟩
  · exact ⟨_, exec_writeAgeDrain_due hwq hdue, s.drain_counted p, hwq ▸ s.drain_wq p, (s.drain_portWork p).cells, s.drain_regsBut p⟩
  · rw [exec_patrolScrubRead_due errs hrun hnight hpass hdue hl hs1]
    exact ⟨fun hq => if_pos hq, fun hq => if_neg (by simp [hq])⟩
  · refine ⟨exec_marginProbe_run hdue, fun hstate => ⟨_, exec_marginProbe_skip hdue hstate, ?_, rfl⟩⟩
    rw [State.memPort_setMemPort_same]
  · exact ⟨_, exec_refresh_due hrun hdue, by rw [State.memPort_setMemPort_same], by rw [State.memPort_setMemPort_same], rfl, rfl⟩
  · refine ⟨_, exec_refreshRateRead_cool hrun hdue hcool, ?_, ?_, State.cause_setCause_false _ _, ?_⟩
    · rw [State.memPort_setCause, State.reported, State.memPort_setMemPort_same]
    · rw [State.memPort_setCause, State.reported, State.memPort_setMemPort_same]
    · exact RegsBut.setRegBit (.of_regs _ rfl) _ _ _ (by rw [show (136 + p.val) / 32 = 4 by omega]; exact List.mem_cons_self)
  · exact ⟨_, exec_refreshRateRead_hot hrun hdue hhot, State.regBit_setRegBit_same _ _ _ _ (by decide),
      RegsBut.setRegBit (.of_regs _ rfl) _ _ _ List.mem_cons_self⟩
  · have hopen : tget (fun _ => false) s.mem.filled c = false := by simpa using List.find?_some hc
    obtain ⟨k, hk, rfl⟩ := List.mem_map.mp (List.mem_of_find?_eq_some hc)
    rw [List.mem_range] at hk
    exact ⟨_, exec_backgroundFill_next hrun hc, s.fillChunk_spec hs (Nat.succ_ne_zero k) hk hopen⟩

end Sys2Proof.Machine
end

section
/-!
PROOFS. Night retention (R357 to R359).
-/
namespace Sys2Proof.Machine

/-! ## Entry and exit (R357, R359) -/

theorem PortWork.foldl {α : Type} {f : State → α → State} (hf : ∀ t a, PortWork t (f t a)) (l : List α) (s : State) : PortWork s (l.foldl f s) := by
  induction l generalizing s with
  | nil => exact .refl s
  | cons a l ih => exact (hf s a).trans (ih _)

theorem State.issueTo_wq_nil {s : State} {q : Nat} (h : (s.memPort q).wq = []) (p n : Nat) : ((s.issueTo p n).memPort q).wq = [] := by
  by_cases hq : q = p
  · rw [hq, State.issueTo_wq_same, ← hq, h, List.drop_nil]
  · rw [State.issueTo_memPort_other _ _ _ hq, h]

/-- Every queue of the ports in a list is issued. -/
theorem State.foldl_issueTo_wq {q : Nat} (l : List Nat) {s : State} (h : q ∈ l ∨ (s.memPort q).wq = []) :
    ((l.foldl (fun t p => t.issueTo p 0) s).memPort q).wq = [] := by
  induction l generalizing s with
  | nil => exact h.resolve_left List.not_mem_nil
  | cons p l ih =>
    refine ih ?_
    rcases h with hq | hq
    · rcases List.mem_cons.mp hq with rfl | hq
      · right
        rw [State.issueTo_wq_same, Nat.sub_zero, List.drop_length]
      · exact .inl hq
    · exact .inr (State.issueTo_wq_nil hq p 0)

/-- ENTER with work running is counted (R357). -/
theorem exec_nightEnter_refused {s : State} (hoff : s.regF Reg.GLB_MEM_NIGHT 16 2 = 0)
    (hwork : s.codingIdle = false ∨ s.net.sess ≠ [] ∨ s.dmaInDram = true) :
    exec (.nightEnter false) s = .next (s.bump32 Reg.GLB_MEM_NIGHT_REFUSED 1) := by
  have hbusy : (!s.codingIdle || !s.net.sess.isEmpty || s.dmaInDram) = true := by
    rcases hwork with h | h | h
    · simp [h]
    · simp [List.isEmpty_eq_false_iff.mpr h]
    · simp [h]
  simp only [exec_nightEnter, execNightEnter, Bool.false_eq_true, if_false, State.nightEnter, hoff, ne_eq, not_true_eq_false, hbusy, if_true]

/-- The state in which entry has begun: the queues are issued, and KEEP is taken. -/
def State.nightBegun (s : State) : State :=
  let s1 := s.memPortList.foldl (fun t p => t.issueTo p 0) s
  ({ s1 with mem := { s1.mem with nightAt := s1.now, keep := s1.cfgF Reg.GLB_MEM_NIGHT 4 8 } } : State).setRegF Reg.GLB_MEM_NIGHT 16 2 1

theorem exec_nightEnter_begins {s : State} (hoff : s.regF Reg.GLB_MEM_NIGHT 16 2 = 0) (hcoding : s.codingIdle = true) (hsess : s.net.sess = [])
    (hdma : s.dmaInDram = false) : exec (.nightEnter false) s = .next s.nightBegun := by
  simp only [exec_nightEnter, execNightEnter, Bool.false_eq_true, if_false, State.nightEnter, hoff, ne_eq, not_true_eq_false, hcoding, hsess, hdma,
    List.isEmpty_nil, Bool.not_true, Bool.or_self]
  rfl

theorem State.nightBegun_spec (s : State) : s.nightBegun.regF Reg.GLB_MEM_NIGHT 16 2 = 1 ∧ (∀ p, p ∈ s.memPortList → (s.nightBegun.memPort p).wq = [])
    ∧ s.nightBegun.mem.keep = s.cfgF Reg.GLB_MEM_NIGHT 4 8 ∧ s.nightBegun.mem.cells = s.mem.cells := by
  have hwork : PortWork s (s.memPortList.foldl (fun t p => t.issueTo p 0) s) := .foldl (fun t p => t.issueTo_portWork p 0) _ _
  refine ⟨State.regF_setRegF_same _ _ _ _ _ (by decide), fun p hp => State.foldl_issueTo_wq _ (.inl hp), ?_, hwork.cells⟩
  exact congrArg (fld · 4 8) (hwork.cfg _)

theorem State.nightExit_spec {s : State} (h : s.regF Reg.GLB_MEM_NIGHT 16 2 = 1 ∨ s.regF Reg.GLB_MEM_NIGHT 16 2 = 2) :
    s.nightExit.regF Reg.GLB_MEM_NIGHT 16 2 = 3 ∧ s.nightExit.mem.nightAt = s.now ∧ RegsBut s s.nightExit [Reg.GLB_MEM_NIGHT] := by
  rw [State.nightExit, if_pos h]
  exact ⟨State.regF_setRegF_same _ _ _ _ _ (by decide), rfl, State.setRegF_regsBut _ _ _ _ _⟩

/-! ## The ports' states (R357, R359, R360) -/

/-- The ports of a list that are in one state take another. -/
def State.movePorts (s : State) (old new : Nat) (l : List Nat) : State :=
  l.foldl (fun t p => if t.memState p = old then t.setRegF (Reg.MEM_STATUS p) 0 3 new else t) s

theorem memStatus_injective : Function.Injective Reg.MEM_STATUS := fun p q h => by
  unfold Reg.MEM_STATUS at h
  omega

/-- Only registers change. -/
theorem State.movePorts_regs (s : State) (old new : Nat) (l : List Nat) : ∃ regs, s.movePorts old new l = { s with regs := regs } := by
  induction l generalizing s with
  | nil => exact ⟨s.regs, rfl⟩
  | cons p l ih =>
    obtain ⟨regs, h⟩ := ih (if s.memState p = old then s.setRegF (Reg.MEM_STATUS p) 0 3 new else s)
    refine ⟨regs, h.trans ?_⟩
    split <;> rfl

theorem State.memState_setRegF (s : State) (p q : Nat) {v : Nat} (hv : v < 8) :
    (s.setRegF (Reg.MEM_STATUS p) 0 3 v).memState q = if q = p then v else s.memState q := by
  by_cases hq : q = p
  · rw [if_pos hq, hq, State.memState, State.regF_setRegF_same _ _ _ _ _ (by decide), Nat.mod_eq_of_lt (by simpa using hv)]
  · rw [if_neg hq, State.memState, State.regF, State.reg_setRegF, if_neg (fun h => hq (memStatus_injective h)), State.memState, State.regF]

theorem State.memState_movePorts {q old new : Nat} (hnew : new < 8) (l : List Nat) {s : State}
    (h : s.memState q = new ∨ (q ∈ l ∧ s.memState q = old)) : (s.movePorts old new l).memState q = new := by
  induction l generalizing s with
  | nil => exact h.resolve_right fun ⟨hq, _⟩ => List.not_mem_nil hq
  | cons p l ih =>
    refine ih ?_
    dsimp only
    by_cases hp : s.memState p = old
    · rw [if_pos hp, State.memState_setRegF _ _ _ hnew]
      by_cases hq : q = p
      · exact .inl (if_pos hq)
      · rw [if_neg hq]
        exact h.imp_right fun ⟨hmem, hold⟩ => ⟨(List.mem_cons.mp hmem).resolve_left hq, hold⟩
    · rw [if_neg hp]
      exact h.imp_right fun ⟨hmem, hold⟩ => ⟨(List.mem_cons.mp hmem).resolve_left fun hq => hp (hq ▸ hold), hold⟩

theorem exec_nightEntryDone_entering {s : State} (h : s.regF Reg.GLB_MEM_NIGHT 16 2 = 1) :
    exec .nightEntryDone s = .next ((s.movePorts 2 3 s.memPortList).setRegF Reg.GLB_MEM_NIGHT 16 2 2) := by
  rw [exec_nightEntryDone, execNightEntryDone, if_neg (by simp [h])]
  rfl

/-- A register outside the ports leaves their states alone. -/
theorem State.memState_setReg_other (s : State) {a : Nat} (v : Word) (p : Nat) (ha : a < 0x200000) : (s.setReg a v).memState p = s.memState p := by
  have hne : Reg.MEM_STATUS p ≠ a := by
    unfold Reg.MEM_STATUS
    omega
  rw [State.memState, State.regF, State.reg_setReg_other _ _ _ _ hne, State.memState, State.regF]

/-! ## The segments that were not kept (R358, R359) -/

theorem exec_nightExitDone_leaving {s : State} (h : s.regF Reg.GLB_MEM_NIGHT 16 2 = 3) :
    exec .nightExitDone s = .next ((s.movePorts 3 2 s.memPortList).dropSegments.setRegF Reg.GLB_MEM_NIGHT 16 2 0) := by
  rw [exec_nightExitDone, execNightExitDone, if_neg (by simp [h])]
  rfl

/-- What the lost segments leave: their bytes read 0 and their chunks are not filled. -/
theorem State.dropSegments_spec {s : State} (hcells : Memory.wf s.mem.cells) (hfilled : twf (fun _ => false) s.mem.filled = true) :
    (∀ x, s.dropSegments.byteAt x = if isDram x = true ∧ s.chunkLost (x / 2 ^ 20) = true then 0#8 else s.byteAt x)
      ∧ ∀ c, s.chunkLost c = true → tget (fun _ => false) s.dropSegments.mem.filled c = false := by
  constructor
  · intro x
    refine (tget_filter memDefault (fun k => !(isDram k && s.chunkLost (k / 2 ^ 20))) s.mem.cells x hcells).trans ?_
    by_cases hx : isDram x = true ∧ s.chunkLost (x / 2 ^ 20) = true
    · rw [if_pos hx, if_neg (by rw [hx.1, hx.2]; decide), memDefault]
    · rw [if_neg hx, if_pos (by rwa [Bool.not_eq_true', ← Bool.not_eq_true, Bool.and_eq_true]), State.byteAt]
  · intro c hc
    refine (tget_filter (fun _ => false) (fun k => !s.chunkLost k) s.mem.filled c hfilled).trans ?_
    rw [if_neg (by simp [hc])]

/-- Settles O44: each command by the state of GLB_MEM_NIGHT in which it acts. -/
theorem nightRetentionMovesThroughItsStates : Obligations.NightRetentionMovesThroughItsStates := by
  intro s
  refine ⟨fun hoff => ⟨fun hwork => ?_, fun hcoding hsess hdma => ?_⟩, rfl, fun hon => ⟨_, rfl, State.nightExit_spec hon⟩, fun hentering => ?_,
    fun hs hleaving => ?_⟩
  · exact ⟨_, exec_nightEnter_refused hoff hwork, rfl, s.toNat_reg_bump32 _ _, (RegsBut.refl s _).bump32 _ _ List.mem_cons_self⟩
  · exact ⟨_, exec_nightEnter_begins hoff hcoding hsess hdma, s.nightBegun_spec⟩
  · refine ⟨_, exec_nightEntryDone_entering hentering, State.regF_setRegF_same _ _ _ _ _ (by decide), fun p hp hrun => ?_, ?_⟩
    · exact (State.memState_setReg_other _ _ p (by decide)).trans (State.memState_movePorts (by decide) _ (.inr ⟨hp, hrun⟩))
    · obtain ⟨regs, hmoved⟩ := s.movePorts_regs 2 3 s.memPortList
      rw [hmoved]
      rfl
  · obtain ⟨_, hcells, _, hfilled, _⟩ := hs
    obtain ⟨regs, hmoved⟩ := s.movePorts_regs 3 2 s.memPortList
    have hstates (p : Nat) (hp : p ∈ s.memPortList) (hnight : s.memState p = 3) : (s.movePorts 3 2 s.memPortList).memState p = 2 :=
      State.memState_movePorts (by decide) _ (.inr ⟨hp, hnight⟩)
    refine ⟨_, exec_nightExitDone_leaving hleaving, State.regF_setRegF_same _ _ _ _ _ (by decide), fun p hp hnight => ?_, ?_⟩
    · exact (State.memState_setReg_other _ _ p (by decide)).trans ((State.memState_setReg_other _ _ p (by decide)).trans (hstates p hp hnight))
    · rw [hmoved]
      exact State.dropSegments_spec (s := { s with regs := regs }) hcells hfilled

end Sys2Proof.Machine
end

section
/-!
PROOFS. DMA channels: what DMA_STATUS and DMA_PC show (R386), and the errors that stop a channel (R382).
-/
namespace Sys2Proof.Machine

/-! ## DMA_STATUS and DMA_PC (R386) -/

/-- DMA_STATUS with its fields that follow the channel: STATE, SHADOW_VALID, and how the transfer runs (R386). -/
def State.showStatus (s : State) (n st : Nat) (shadow down overlap : Bool) : State :=
  (((s.setRegF (Reg.DMA_STATUS n) 0 3 st).setRegBit (Reg.DMA_STATUS n) 3 shadow).setRegBit (Reg.DMA_STATUS n) 4 down).setRegBit
    (Reg.DMA_STATUS n) 5 overlap

section ShowStatus
variable (s : State) (n st : Nat) (shadow down overlap : Bool)

theorem State.showStatus_regsBut : RegsBut s (s.showStatus n st shadow down overlap) [Reg.DMA_STATUS n] :=
  ((((RegsBut.refl s _).setRegF _ _ _ _ (by simp)).setRegBit _ _ _ (by simp)).setRegBit _ _ _ (by simp)).setRegBit _ _ _ (by simp)

theorem State.regF_showStatus_state : (s.showStatus n st shadow down overlap).regF (Reg.DMA_STATUS n) 0 3 = st % 2 ^ 3 := by
  simp only [State.showStatus, State.setRegBit]
  rw [State.regF_setRegF_other _ _ _ _ _ _ _ (by decide), State.regF_setRegF_other _ _ _ _ _ _ _ (by decide),
    State.regF_setRegF_other _ _ _ _ _ _ _ (by decide), State.regF_setRegF_same _ _ _ _ _ (by decide)]

theorem State.regBit_showStatus_shadow : (s.showStatus n st shadow down overlap).regBit (Reg.DMA_STATUS n) 3 = shadow := by
  rw [State.showStatus, State.regBit_setRegBit_bit _ _ _ _ _ (by decide), State.regBit_setRegBit_bit _ _ _ _ _ (by decide),
    State.regBit_setRegBit_same _ _ _ _ (by decide)]

theorem State.regF_showStatus_high {lo w : Nat} (h : 6 ≤ lo) :
    (s.showStatus n st shadow down overlap).regF (Reg.DMA_STATUS n) lo w = s.regF (Reg.DMA_STATUS n) lo w := by
  simp only [State.showStatus, State.setRegBit]
  rw [State.regF_setRegF_other _ _ _ _ _ _ _ (by omega), State.regF_setRegF_other _ _ _ _ _ _ _ (by omega),
    State.regF_setRegF_other _ _ _ _ _ _ _ (by omega), State.regF_setRegF_other _ _ _ _ _ _ _ (by omega)]

theorem State.regBit_showStatus_high {j : Nat} (h : 6 ≤ j) :
    (s.showStatus n st shadow down overlap).regBit (Reg.DMA_STATUS n) j = s.regBit (Reg.DMA_STATUS n) j := by
  rw [State.showStatus, State.regBit_setRegBit_bit _ _ _ _ _ (by omega), State.regBit_setRegBit_bit _ _ _ _ _ (by omega),
    State.regBit_setRegBit_bit _ _ _ _ _ (by omega), State.regBit_setRegF_other _ _ _ _ _ _ (by omega)]

end ShowStatus

section ShowDma
variable (s : State) (n : Nat)

/-- A channel without a program shows its status alone. -/
theorem State.showDma_noProgram (h : (s.dmaCh n).prog = none) : ∃ down overlap, s.showDma n
    = s.showStatus n (if s.frozen (agDma n) then 5 else if (s.dmaCh n).stopped then 4 else if (s.dmaCh n).active then 1 else 0)
        (s.dmaCh n).shadow down overlap := by
  simp only [State.showDma, h]
  exact ⟨_, _, rfl⟩

/-- A channel with a program shows the program's address too. -/
theorem State.showDma_program {p : DmaProg} (h : (s.dmaCh n).prog = some p) : ∃ down overlap, s.showDma n
    = (s.showStatus n (if s.frozen (agDma n) then 5 else if (s.dmaCh n).stopped then 4 else if p.waitFrom.isSome then 3 else 2)
        (s.dmaCh n).shadow down overlap).setPair (Reg.DMA_PC n 0) p.pc := by
  simp only [State.showDma, h]
  exact ⟨_, _, rfl⟩

/-- DMA_STATUS is no part of DMA_PC. -/
theorem State.reg_status_setPair_pc (v : Nat) : (s.setPair (Reg.DMA_PC n 0) v).reg (Reg.DMA_STATUS n) = s.reg (Reg.DMA_STATUS n) :=
  s.reg_setPair_other _ _ _ (by simp only [Reg.DMA_STATUS, Reg.DMA_PC]; omega) (by simp only [Reg.DMA_STATUS, Reg.DMA_PC]; omega)

/-- DMA_STATUS holds what `showStatus` makes of it, with a program or without one. -/
theorem State.reg_showDma_status : ∃ st down overlap,
    (s.showDma n).reg (Reg.DMA_STATUS n) = (s.showStatus n st (s.dmaCh n).shadow down overlap).reg (Reg.DMA_STATUS n)
      ∧ (s.frozen (agDma n) = false → (s.dmaCh n).stopped = true → st = 4)
      ∧ (s.frozen (agDma n) = false → (s.dmaCh n).stopped = false → (s.dmaCh n).prog = none → (s.dmaCh n).active = false → st = 0) := by
  cases hprog : (s.dmaCh n).prog with
  | none =>
    obtain ⟨down, overlap, h⟩ := s.showDma_noProgram n hprog
    exact ⟨_, down, overlap, by rw [h], fun hf hs => by simp [hf, hs], fun hf hs _ ha => by simp [hf, hs, ha]⟩
  | some p =>
    obtain ⟨down, overlap, h⟩ := s.showDma_program n hprog
    exact ⟨_, down, overlap, by rw [h, State.reg_status_setPair_pc], fun hf hs => by simp [hf, hs], fun _ _ h => by simp at h⟩

/-- STATE of a stopped channel is 4. -/
theorem State.regF_showDma_stopped (hf : s.frozen (agDma n) = false) (hs : (s.dmaCh n).stopped = true) :
    (s.showDma n).regF (Reg.DMA_STATUS n) 0 3 = 4 := by
  obtain ⟨st, down, overlap, hreg, hst, -⟩ := s.reg_showDma_status n
  rw [State.regF, hreg]
  exact (s.regF_showStatus_state _ _ _ _ _).trans (by rw [hst hf hs]; rfl)

/-- STATE of an idle channel is 0. -/
theorem State.regF_showDma_idle (hf : s.frozen (agDma n) = false) (hs : (s.dmaCh n).stopped = false) (hp : (s.dmaCh n).prog = none)
    (ha : (s.dmaCh n).active = false) : (s.showDma n).regF (Reg.DMA_STATUS n) 0 3 = 0 := by
  obtain ⟨st, down, overlap, hreg, -, hst⟩ := s.reg_showDma_status n
  rw [State.regF, hreg]
  exact (s.regF_showStatus_state _ _ _ _ _).trans (by rw [hst hf hs hp ha]; rfl)

theorem State.regBit_showDma_shadow : (s.showDma n).regBit (Reg.DMA_STATUS n) 3 = (s.dmaCh n).shadow := by
  obtain ⟨st, down, overlap, hreg, -⟩ := s.reg_showDma_status n
  rw [State.regBit, hreg]
  exact s.regBit_showStatus_shadow _ _ _ _ _

/-- The fields of DMA_STATUS that record what happened stay. -/
theorem State.regF_showDma_high {lo w : Nat} (h : 6 ≤ lo) : (s.showDma n).regF (Reg.DMA_STATUS n) lo w = s.regF (Reg.DMA_STATUS n) lo w := by
  obtain ⟨st, down, overlap, hreg, -⟩ := s.reg_showDma_status n
  rw [State.regF, hreg]
  exact s.regF_showStatus_high _ _ _ _ _ h

theorem State.regBit_showDma_high {j : Nat} (h : 6 ≤ j) : (s.showDma n).regBit (Reg.DMA_STATUS n) j = s.regBit (Reg.DMA_STATUS n) j := by
  obtain ⟨st, down, overlap, hreg, -⟩ := s.reg_showDma_status n
  rw [State.regBit, hreg]
  exact s.regBit_showStatus_high _ _ _ _ _ h

theorem State.showDma_regsBut_noProgram (h : (s.dmaCh n).prog = none) : RegsBut s (s.showDma n) [Reg.DMA_STATUS n] := by
  obtain ⟨down, overlap, heq⟩ := s.showDma_noProgram n h
  rw [heq]
  exact s.showStatus_regsBut _ _ _ _ _

theorem State.showDma_regsBut : RegsBut s (s.showDma n) (Reg.DMA_STATUS n :: ctr (Reg.DMA_PC n 0)) := by
  cases hprog : (s.dmaCh n).prog with
  | none => exact (s.showDma_regsBut_noProgram n hprog).mono (by simp)
  | some p =>
    obtain ⟨down, overlap, heq⟩ := s.showDma_program n hprog
    rw [heq]
    exact ((s.showStatus_regsBut _ _ _ _ _).mono (by simp)).setPair _ _ (by simp [ctr]) (by simp [ctr])

/-- Showing a channel changes registers alone. -/
theorem State.showDma_regsOnly : ∃ regs, s.showDma n = { s with regs := regs } := by
  cases hprog : (s.dmaCh n).prog with
  | none =>
    obtain ⟨_, _, h⟩ := s.showDma_noProgram n hprog
    exact ⟨_, h⟩
  | some p =>
    obtain ⟨_, _, h⟩ := s.showDma_program n hprog
    exact ⟨_, h⟩

@[simp] theorem State.showDma_mem : (s.showDma n).mem = s.mem := by
  obtain ⟨_, h⟩ := s.showDma_regsOnly n
  rw [h]

@[simp] theorem State.showDma_ctl : (s.showDma n).ctl = s.ctl := by
  obtain ⟨_, h⟩ := s.showDma_regsOnly n
  rw [h]

@[simp] theorem State.dmaCh_showDma (k : Nat) : (s.showDma n).dmaCh k = s.dmaCh k := by
  obtain ⟨_, h⟩ := s.showDma_regsOnly n
  rw [h]
  rfl

end ShowDma

/-! ## Errors (R382) -/

/-- What an error records in the registers of its channel: ERR_KIND, ERR, the count, and the address where there is one. -/
def State.recordDmaError (s : State) (n kind : Nat) (addr : Option Nat) : State :=
  let s1 := ((s.setRegF (Reg.DMA_STATUS n) 8 3 kind).setRegBit (Reg.DMA_STATUS n) 18 true).bump (Reg.DMA_ERRORS n)
  addr.elim s1 (s1.setPair (Reg.DMA_ERR_ADDR n 0))

section RecordError
variable (s : State) (n kind : Nat) (addr : Option Nat)

theorem State.recordDmaError_regsOnly : ∃ regs, s.recordDmaError n kind addr = { s with regs := regs } := by
  cases addr <;> exact ⟨_, rfl⟩

@[simp] theorem State.recordDmaError_mem : (s.recordDmaError n kind addr).mem = s.mem := by
  obtain ⟨_, h⟩ := s.recordDmaError_regsOnly n kind addr
  rw [h]

@[simp] theorem State.dmaCh_recordDmaError (k : Nat) : (s.recordDmaError n kind addr).dmaCh k = s.dmaCh k := by
  obtain ⟨_, h⟩ := s.recordDmaError_regsOnly n kind addr
  rw [h]
  rfl

theorem State.recordDmaError_regsBut :
    RegsBut s (s.recordDmaError n kind addr) (Reg.DMA_STATUS n :: ctr (Reg.DMA_ERRORS n) ++ ctr (Reg.DMA_ERR_ADDR n 0)) := by
  have hcount := (((RegsBut.refl s (Reg.DMA_STATUS n :: ctr (Reg.DMA_ERRORS n) ++ ctr (Reg.DMA_ERR_ADDR n 0))).setRegF (Reg.DMA_STATUS n) 8 3 kind
    (by simp)).setRegBit (Reg.DMA_STATUS n) 18 true (by simp)).bump (Reg.DMA_ERRORS n) (by simp [ctr]) (by simp [ctr])
  cases addr with
  | none => exact hcount
  | some a => exact hcount.setPair _ _ (by simp [ctr]) (by simp [ctr])

/-- Neither the count nor the address lies in DMA_STATUS. -/
theorem State.reg_recordDmaError_status : (s.recordDmaError n kind addr).reg (Reg.DMA_STATUS n)
    = ((s.setRegF (Reg.DMA_STATUS n) 8 3 kind).setRegBit (Reg.DMA_STATUS n) 18 true).reg (Reg.DMA_STATUS n) := by
  have hcount (t : State) : (t.bump (Reg.DMA_ERRORS n)).reg (Reg.DMA_STATUS n) = t.reg (Reg.DMA_STATUS n) :=
    t.reg_bump_other _ _ (by simp only [Reg.DMA_STATUS, Reg.DMA_ERRORS]; omega) (by simp only [Reg.DMA_STATUS, Reg.DMA_ERRORS]; omega)
  cases addr with
  | none => exact hcount _
  | some a =>
    exact (State.reg_setPair_other _ _ _ _ (by simp only [Reg.DMA_STATUS, Reg.DMA_ERR_ADDR]; omega)
      (by simp only [Reg.DMA_STATUS, Reg.DMA_ERR_ADDR]; omega)).trans (hcount _)

theorem State.regF_recordDmaError_kind (h : kind < 8) : (s.recordDmaError n kind addr).regF (Reg.DMA_STATUS n) 8 3 = kind := by
  rw [State.regF, State.reg_recordDmaError_status]
  refine (State.regF_setRegF_other _ _ _ _ _ _ _ (by decide)).trans ?_
  exact (State.regF_setRegF_same _ _ _ _ _ (by decide)).trans (Nat.mod_eq_of_lt h)

theorem State.regBit_recordDmaError_err : (s.recordDmaError n kind addr).regBit (Reg.DMA_STATUS n) 18 = true := by
  rw [State.regBit, State.reg_recordDmaError_status]
  exact State.regBit_setRegBit_same _ _ _ _ (by decide)

theorem State.counted_recordDmaError : Counted s (s.recordDmaError n kind addr) (Reg.DMA_ERRORS n) 1 := by
  have hcount : Counted s (((s.setRegF (Reg.DMA_STATUS n) 8 3 kind).setRegBit (Reg.DMA_STATUS n) 18 true).bump (Reg.DMA_ERRORS n))
      (Reg.DMA_ERRORS n) 1 := by
    refine Counted.bump_of_regsBut (l := [Reg.DMA_STATUS n]) (((RegsBut.refl s _).setRegF _ _ _ _ (by simp)).setRegBit _ _ _ (by simp)) ?_ ?_ <;>
      simp only [Reg.DMA_STATUS, Reg.DMA_ERRORS, List.mem_singleton] <;> omega
  cases addr with
  | none => exact hcount
  | some a =>
    refine (State.pair_congr _ _ _ ?_ ?_).trans hcount <;> refine State.reg_setPair_other _ _ _ _ ?_ ?_ <;>
      simp only [Reg.DMA_ERR_ADDR, Reg.DMA_ERRORS] <;> omega

theorem State.pair_recordDmaError_addr {a : Nat} (h : a < 2 ^ 64) : (s.recordDmaError n kind (some a)).pair (Reg.DMA_ERR_ADDR n 0) = a :=
  State.pair_setPair _ _ _ h

end RecordError

/-- A channel in STATE 4: its transfer has ended, and its program waits for nothing (R382, R383). -/
def DmaCh.halted (c : DmaCh) : DmaCh :=
  { c with active := false, stopped := true, prog := c.prog.map (fun p => { p with waitFrom := none }) }

/-- What an error leaves in the channel and its registers, before the source is raised. -/
def State.stopDma (s : State) (n kind : Nat) (addr : Option Nat) : State :=
  ((s.setDmaCh n (s.dmaCh n).halted).recordDmaError n kind addr).showDma n

theorem State.dmaError_eq (s : State) (n kind : Nat) (addr : Option Nat) :
    s.dmaError n kind addr = (s.stopDma n kind addr).raiseFault { src := 157, agent := agDma n, d0 := n, d1 := kind } := by
  cases addr <;> rfl

section StopDma
variable (s : State) (n kind : Nat) (addr : Option Nat)

theorem State.dmaCh_stopDma : (s.stopDma n kind addr).dmaCh n = (s.dmaCh n).halted := by
  simp [State.stopDma]

@[simp] theorem State.stopDma_mem : (s.stopDma n kind addr).mem = s.mem := by
  simp [State.stopDma]

theorem State.stopDma_regsBut : RegsBut s (s.stopDma n kind addr)
    (Reg.DMA_STATUS n :: ctr (Reg.DMA_ERRORS n) ++ ctr (Reg.DMA_ERR_ADDR n 0) ++ ctr (Reg.DMA_PC n 0)) :=
  RegsBut.trans (t := (s.setDmaCh n (s.dmaCh n).halted).recordDmaError n kind addr)
    ((State.recordDmaError_regsBut _ n kind addr).mono (fun _ => List.mem_append_left _)) ((State.showDma_regsBut _ n).mono (by simp [ctr]))

theorem State.regF_stopDma_kind (h : kind < 8) : (s.stopDma n kind addr).regF (Reg.DMA_STATUS n) 8 3 = kind :=
  (State.regF_showDma_high _ n (by decide)).trans (State.regF_recordDmaError_kind _ n kind addr h)

theorem State.regBit_stopDma_err : (s.stopDma n kind addr).regBit (Reg.DMA_STATUS n) 18 = true :=
  (State.regBit_showDma_high _ n (by decide)).trans (State.regBit_recordDmaError_err _ n kind addr)

theorem State.counted_stopDma : Counted s (s.stopDma n kind addr) (Reg.DMA_ERRORS n) 1 := by
  refine ((State.showDma_regsBut _ n).pair _ ?_ ?_).trans (State.counted_recordDmaError (s.setDmaCh n (s.dmaCh n).halted) n kind addr) <;>
    simp [ctr, Reg.DMA_ERRORS, Reg.DMA_STATUS, Reg.DMA_PC] <;> omega

theorem State.pair_stopDma_addr {a : Nat} (h : a < 2 ^ 64) : (s.stopDma n kind (some a)).pair (Reg.DMA_ERR_ADDR n 0) = a := by
  refine ((State.showDma_regsBut _ n).pair _ ?_ ?_).trans (State.pair_recordDmaError_addr _ n kind h) <;>
    simp [ctr, Reg.DMA_ERR_ADDR, Reg.DMA_STATUS, Reg.DMA_PC] <;> omega

end StopDma

/-- Settles O39: the error is the stopped channel with its record, and the raise of F157. -/
theorem dmaErrorsStopTheChannel : Obligations.DmaErrorsStopTheChannel := by
  intro s n kind addr hkind
  have hch := s.dmaCh_stopDma n kind addr
  refine ⟨s.stopDma n kind addr, s.dmaError_eq n kind addr, by rw [hch]; rfl, by rw [hch]; rfl, by rw [hch]; rfl, s.regF_stopDma_kind n kind addr hkind,
    s.regBit_stopDma_err n kind addr, s.counted_stopDma n kind addr, fun a haddr ha => ?_, s.stopDma_mem n kind addr, s.stopDma_regsBut n kind addr⟩
  subst haddr
  exact s.pair_stopDma_addr n kind (by omega)

end Sys2Proof.Machine
end

section
/-!
PROOFS. DMA channels: loading an armed set (R379), and the controls ARM, ABORT, CLEAR and PROG_START (R380, R384).
-/
namespace Sys2Proof.Machine

/-! ## Runs of registers -/

section SetRegs
variable (s : State) (a : Nat) (l : List Word)

/-- A register outside the run that is written. -/
theorem State.reg_setRegs_outside {b : Nat} (h : b < a ∨ a + 4 * l.length ≤ b) : (s.setRegs a l).reg b = s.reg b := by
  induction l generalizing s a with
  | nil => rfl
  | cons v l ih =>
    rw [List.length_cons] at h
    rw [State.setRegs, ih _ _ (by omega), State.reg_setReg_other _ _ _ _ (by omega)]

/-- A register of the run that is written. -/
theorem State.reg_setRegs_at {k : Nat} (h : k < l.length) : (s.setRegs a l).reg (a + 4 * k) = l[k] := by
  induction l generalizing s a k with
  | nil => simp at h
  | cons v l ih =>
    cases k with
    | zero => rw [State.setRegs, State.reg_setRegs_outside _ _ _ (by omega), Nat.mul_zero, Nat.add_zero, State.reg_setReg_same, List.getElem_cons_zero]
    | succ k =>
      rw [State.setRegs, show a + 4 * (k + 1) = a + 4 + 4 * k by omega, ih _ _ (by simpa using h), List.getElem_cons_succ]

theorem State.setRegs_regsOnly : ∃ regs, s.setRegs a l = { s with regs := regs } := by
  induction l generalizing s a with
  | nil => exact ⟨s.regs, rfl⟩
  | cons v l ih =>
    obtain ⟨regs, h⟩ := ih (s.setReg a v) (a + 4)
    exact ⟨regs, h⟩

@[simp] theorem State.setRegs_mem : (s.setRegs a l).mem = s.mem := by
  obtain ⟨_, h⟩ := s.setRegs_regsOnly a l
  rw [h]

end SetRegs

/-! ## Loading the shadow set (R379, R382, R383) -/

/-- An idle channel with its shadow set in the active one, at its first byte. -/
def State.loadActive (s : State) (n : Nat) : State :=
  (s.setRegs (Reg.DMA_ACT_SRC_LO n) ((List.range 16).map (fun k => s.reg (Reg.DMA_SRC_LO n + 4 * k)))).setDmaCh n
    { s.dmaCh n with active := true, moved := 0, shadow := false }

theorem State.reg_loadActive_at (s : State) (n : Nat) {k : Nat} (h : k < 16) :
    (s.loadActive n).reg (Reg.DMA_ACT_SRC_LO n + 4 * k) = s.reg (Reg.DMA_SRC_LO n + 4 * k) := by
  rw [State.loadActive, State.reg_setDmaCh, State.reg_setRegs_at _ _ _ (by simpa using h), List.getElem_map, List.getElem_range]

theorem State.reg_loadActive_outside (s : State) (n : Nat) {b : Nat} (h : b < Reg.DMA_ACT_SRC_LO n ∨ Reg.DMA_SRC_LO n ≤ b) :
    (s.loadActive n).reg b = s.reg b := by
  simp only [Reg.DMA_SRC_LO, Reg.DMA_ACT_SRC_LO] at h
  rw [State.loadActive, State.reg_setDmaCh, State.reg_setRegs_outside]
  simp only [Reg.DMA_ACT_SRC_LO, List.length_map, List.length_range]
  omega

@[simp] theorem State.loadActive_mem (s : State) (n : Nat) : (s.loadActive n).mem = s.mem := by
  simp [State.loadActive]

section LoadShadow
variable {s : State} {n : Nat}

theorem State.loadShadow_loads (hs : (s.dmaCh n).shadow = true) (ha : (s.dmaCh n).active = false) (hst : (s.dmaCh n).stopped = false)
    (hf : s.frozen (agDma n) = false) : s.loadShadow n = (s.loadActive n).showDma n := by
  unfold State.loadShadow
  exact if_neg (by simp [hs, ha, hst, hf])

/-- The shadow set loads or it waits. -/
theorem State.loadShadow_eq_or (s : State) (n : Nat) : s.loadShadow n = s.showDma n ∨ s.loadShadow n = (s.loadActive n).showDma n := by
  unfold State.loadShadow
  dsimp only
  split
  · exact .inl rfl
  · exact .inr rfl

theorem State.loadShadow_waits (h : (s.dmaCh n).active = true ∨ (s.dmaCh n).stopped = true) : s.loadShadow n = s.showDma n := by
  unfold State.loadShadow
  rcases h with h | h <;> simp [h]

end LoadShadow

/-! ## ARM, ABORT and CLEAR (R379, R380) -/

/-- A channel whose shadow set a sequencer has armed. -/
def State.armed (s : State) (n seq : Nat) : State := s.setDmaCh n { s.dmaCh n with shadow := true, armedBy := seq }

@[simp] theorem State.dmaCh_armed (s : State) (n seq : Nat) : (s.armed n seq).dmaCh n = { s.dmaCh n with shadow := true, armedBy := seq } :=
  State.dmaCh_setDmaCh_same _ _ _

section Arm
variable {s : State} {n seq : Nat}

theorem State.dmaArm_failing (h : s.power.failing = true) : s.dmaArm n seq = s := if_pos h

theorem State.dmaArm_eq (h : s.power.failing = false) : s.dmaArm n seq = (s.armed n seq).loadShadow n := by
  simp [State.dmaArm, h, State.armed]

theorem State.dmaArm_idle (h : s.power.failing = false) (ha : (s.dmaCh n).active = false) (hst : (s.dmaCh n).stopped = false)
    (hf : s.frozen (agDma n) = false) : s.dmaArm n seq = ((s.armed n seq).loadActive n).showDma n := by
  have hch := s.dmaCh_armed n seq
  rw [State.dmaArm_eq h]
  exact State.loadShadow_loads (by rw [hch]) (by rw [hch]; exact ha) (by rw [hch]; exact hst) hf

theorem State.dmaArm_busy (h : s.power.failing = false) (ha : (s.dmaCh n).active = true ∨ (s.dmaCh n).stopped = true) :
    s.dmaArm n seq = (s.armed n seq).showDma n := by
  rw [State.dmaArm_eq h, State.loadShadow_waits (by simpa using ha)]

/-- The channel of an idle channel that is armed. -/
theorem State.dmaCh_dmaArm_idle (h : s.power.failing = false) (ha : (s.dmaCh n).active = false) (hst : (s.dmaCh n).stopped = false)
    (hf : s.frozen (agDma n) = false) :
    (s.dmaArm n seq).dmaCh n = { s.dmaCh n with active := true, moved := 0, shadow := false, armedBy := seq } := by
  rw [State.dmaArm_idle h ha hst hf]
  simp [State.loadActive]

/-- The shadow set is the active set of an idle channel that is armed. -/
theorem State.reg_dmaArm_idle (h : s.power.failing = false) (ha : (s.dmaCh n).active = false) (hst : (s.dmaCh n).stopped = false)
    (hf : s.frozen (agDma n) = false) {k : Nat} (hk : k < 16) :
    (s.dmaArm n seq).reg (Reg.DMA_ACT_SRC_LO n + 4 * k) = s.reg (Reg.DMA_SRC_LO n + 4 * k) := by
  rw [State.dmaArm_idle h ha hst hf, State.showDma_regsBut, State.reg_loadActive_at _ _ hk, State.armed, State.reg_setDmaCh]
  simp [ctr, Reg.DMA_ACT_SRC_LO, Reg.DMA_STATUS, Reg.DMA_PC]
  omega

end Arm

section Abort
variable {s : State} {n : Nat}

/-- A channel that ABORT stops. -/
def State.aborted (s : State) (n : Nat) : State :=
  (s.setDmaCh n { s.dmaCh n with active := false, moved := 0, shadow := false, prog := none }).setRegBit (Reg.DMA_STATUS n) 17 true

theorem State.dmaAbort_stopped (h : (s.dmaCh n).stopped = true) : s.dmaAbort n = s := by simp [State.dmaAbort, h]

theorem State.dmaAbort_eq (hst : (s.dmaCh n).stopped = false) (hf : s.frozen (agDma n) = false) : s.dmaAbort n = (s.aborted n).showDma n := by
  unfold State.dmaAbort
  exact if_neg (by simp [hst, hf])

/-- A channel that CLEAR returns to idle. -/
def State.cleared (s : State) (n : Nat) : State :=
  (s.setDmaCh n { s.dmaCh n with active := false, moved := 0, shadow := false, prog := none, stopped := false }).setRegF (Reg.DMA_STATUS n) 8 3 0

theorem State.dmaClear_notStopped (h : (s.dmaCh n).stopped = false) : s.dmaClear n = s := by simp [State.dmaClear, h]

theorem State.dmaClear_eq (hst : (s.dmaCh n).stopped = true) (hf : s.frozen (agDma n) = false) : s.dmaClear n = (s.cleared n).showDma n := by
  unfold State.dmaClear
  exact if_neg (by simp [hst, hf])

/-- What DMA_STATUS shows freezes no channel. -/
theorem State.frozen_setReg_dmaStatus (s : State) (n : Nat) (v : Word) : (s.setReg (Reg.DMA_STATUS n) v).frozen (agDma n) = s.frozen (agDma n) := by
  rw [State.frozen, State.frozen, State.regBit, State.reg_setReg_other, State.regBit]
  simp only [Reg.DMA_STATUS, Reg.FLT_FROZEN, agDma]
  omega

end Abort

/-! ## A program's instructions are fetched (R384, R385) -/

/-- Fetching adds to the copies held and leaves the rest of the program's place alone. -/
theorem State.dmaFetchFuel_fetches (n fuel : Nat) (p : DmaProg) (s : State) :
    ∃ l, (State.dmaFetchFuel n fuel p s).1 = { p with fetched := l } ∧ (p.fetched.length + fuel = 5 → l.length = 5) := by
  induction fuel generalizing p s with
  | zero => exact ⟨p.fetched, rfl, fun h => h⟩
  | succ fuel ih =>
    rw [State.dmaFetchFuel]
    split
    · exact ⟨p.fetched, rfl, fun h => by omega⟩
    · obtain ⟨l, hl, hlen⟩ := ih { p with fetched := p.fetched ++ [(s.dmaFetch n (wrap40 (p.pc + 8 * p.fetched.length))).1] }
        (s.dmaFetch n (wrap40 (p.pc + 8 * p.fetched.length))).2
      exact ⟨l, hl, fun h => hlen (by rw [List.length_append, List.length_singleton]; omega)⟩

/-- A program that goes on at an address is at that address, with its fetched copies. -/
theorem State.prog_dmaGoTo (s : State) (n : Nat) (p : DmaProg) :
    ∃ l, ((s.dmaGoTo n p).dmaCh n).prog = some { p with fetched := l } ∧ (p.fetched = [] → l.length = 5) := by
  obtain ⟨l, hl, hlen⟩ := State.dmaFetchFuel_fetches n 5 p s
  refine ⟨l, ?_, fun h => hlen (by rw [h]; rfl)⟩
  rw [State.dmaGoTo, State.dmaCh_showDma, State.dmaCh_setDmaCh_same, hl]

section ProgStart
variable {s : State} {n : Nat}

theorem State.dmaProgStart_ignored (h : (s.dmaCh n).stopped = true ∨ (s.dmaCh n).active = true ∨ (s.dmaCh n).prog.isSome = true
    ∨ s.power.failing = true) : s.dmaProgStart n = s := by
  rcases h with h | h | h | h <;> simp [State.dmaProgStart, h]

theorem State.dmaProgStart_eq (hf : s.frozen (agDma n) = false) (hst : (s.dmaCh n).stopped = false) (hpow : s.power.failing = false)
    (ha : (s.dmaCh n).active = false) (hp : (s.dmaCh n).prog = none) : s.dmaProgStart n
      = s.dmaGoTo n { pc := (s.reg (Reg.DMA_PROG_LO n)).toNat / 8 * 8 + s.regF (Reg.DMA_PROG_HI n) 0 8 * 2 ^ 32 } := by
  unfold State.dmaProgStart
  exact if_neg (by simp [hf, hst, hpow, ha, hp])

end ProgStart

/-! ## What each control does -/

section Controls
variable {s : State} {n : Nat} (hf : s.frozen (agDma n) = false)
include hf

/-- ARM of an idle channel loads the shadow set. -/
theorem State.dmaArm_idle_spec (seq : Nat) (hst : (s.dmaCh n).stopped = false) (h : s.power.failing = false) (ha : (s.dmaCh n).active = false) :
    ((s.dmaArm n seq).dmaCh n).active = true ∧ ((s.dmaArm n seq).dmaCh n).moved = 0 ∧ ((s.dmaArm n seq).dmaCh n).shadow = false
      ∧ ((s.dmaArm n seq).dmaCh n).armedBy = seq
      ∧ ∀ k, k < 16 → (s.dmaArm n seq).reg (Reg.DMA_ACT_SRC_LO n + 4 * k) = s.reg (Reg.DMA_SRC_LO n + 4 * k) := by
  rw [State.dmaCh_dmaArm_idle h ha hst hf]
  exact ⟨rfl, rfl, rfl, rfl, fun _ => State.reg_dmaArm_idle h ha hst hf⟩

/-- ABORT stops a channel and drops its shadow set and its program. -/
theorem State.dmaAbort_spec (hst : (s.dmaCh n).stopped = false) :
    ((s.dmaAbort n).dmaCh n).active = false ∧ ((s.dmaAbort n).dmaCh n).shadow = false ∧ ((s.dmaAbort n).dmaCh n).prog = none
      ∧ (s.dmaAbort n).regBit (Reg.DMA_STATUS n) 17 = true ∧ (s.dmaAbort n).regF (Reg.DMA_STATUS n) 0 3 = 0
      ∧ RegsBut s (s.dmaAbort n) [Reg.DMA_STATUS n] := by
  have hch : (s.aborted n).dmaCh n = { s.dmaCh n with active := false, moved := 0, shadow := false, prog := none } := by simp [State.aborted]
  have hfr : (s.aborted n).frozen (agDma n) = false := (State.frozen_setReg_dmaStatus _ n _).trans hf
  have hregs : RegsBut s (s.aborted n) [Reg.DMA_STATUS n] :=
    RegsBut.setRegBit (t := s.setDmaCh n _) (RegsBut.refl s _) _ _ _ List.mem_cons_self
  rw [State.dmaAbort_eq hst hf, State.dmaCh_showDma, hch]
  refine ⟨rfl, rfl, rfl, ?_, ?_, ?_⟩
  · rw [State.regBit_showDma_high _ _ (by decide)]
    exact State.regBit_setRegBit_same _ _ _ _ (by decide)
  · exact State.regF_showDma_idle _ _ hfr (by rw [hch]; exact hst) (by rw [hch]) (by rw [hch])
  · exact hregs.trans (State.showDma_regsBut_noProgram _ _ (by rw [hch]))

/-- CLEAR returns a stopped channel to idle. -/
theorem State.dmaClear_spec (hst : (s.dmaCh n).stopped = true) :
    ((s.dmaClear n).dmaCh n).stopped = false ∧ ((s.dmaClear n).dmaCh n).active = false ∧ ((s.dmaClear n).dmaCh n).shadow = false
      ∧ ((s.dmaClear n).dmaCh n).prog = none ∧ (s.dmaClear n).regF (Reg.DMA_STATUS n) 8 3 = 0 ∧ (s.dmaClear n).regF (Reg.DMA_STATUS n) 0 3 = 0
      ∧ RegsBut s (s.dmaClear n) [Reg.DMA_STATUS n] := by
  have hch : (s.cleared n).dmaCh n = { s.dmaCh n with active := false, moved := 0, shadow := false, prog := none, stopped := false } := by
    simp [State.cleared]
  have hfr : (s.cleared n).frozen (agDma n) = false := (State.frozen_setReg_dmaStatus _ n _).trans hf
  have hregs : RegsBut s (s.cleared n) [Reg.DMA_STATUS n] :=
    RegsBut.setRegF (t := s.setDmaCh n _) (RegsBut.refl s _) _ _ _ _ List.mem_cons_self
  rw [State.dmaClear_eq hst hf, State.dmaCh_showDma, hch]
  refine ⟨rfl, rfl, rfl, rfl, ?_, ?_, ?_⟩
  · rw [State.regF_showDma_high _ _ (by decide)]
    exact State.regF_setRegF_same _ _ _ _ _ (by decide)
  · exact State.regF_showDma_idle _ _ hfr (by rw [hch]) (by rw [hch]) (by rw [hch])
  · exact hregs.trans (State.showDma_regsBut_noProgram _ _ (by rw [hch]))

/-- PROG_START of an idle channel starts the program at DMA_PROG, with five instructions fetched. -/
theorem State.dmaProgStart_spec (hst : (s.dmaCh n).stopped = false) (hpow : s.power.failing = false) (ha : (s.dmaCh n).active = false)
    (hp : (s.dmaCh n).prog = none) : ∃ q, ((s.dmaProgStart n).dmaCh n).prog = some q
      ∧ q.pc = (s.reg (Reg.DMA_PROG_LO n)).toNat / 8 * 8 + s.regF (Reg.DMA_PROG_HI n) 0 8 * 2 ^ 32 ∧ q.fetched.length = 5 := by
  rw [State.dmaProgStart_eq hf hst hpow ha hp]
  obtain ⟨l, hprog, hlen⟩ := s.prog_dmaGoTo n { pc := (s.reg (Reg.DMA_PROG_LO n)).toNat / 8 * 8 + s.regF (Reg.DMA_PROG_HI n) 0 8 * 2 ^ 32 }
  exact ⟨_, hprog, rfl, hlen rfl⟩

end Controls

/-- ARM of a busy channel leaves the shadow set waiting, and the active set as it is. -/
theorem State.dmaArm_busy_spec {s : State} {n seq : Nat} (h : s.power.failing = false) (ha : (s.dmaCh n).active = true) :
    ((s.dmaArm n seq).dmaCh n).active = true ∧ ((s.dmaArm n seq).dmaCh n).shadow = true ∧ (s.dmaArm n seq).regBit (Reg.DMA_STATUS n) 3 = true
      ∧ ∀ k, k < 16 → (s.dmaArm n seq).reg (Reg.DMA_ACT_SRC_LO n + 4 * k) = s.reg (Reg.DMA_ACT_SRC_LO n + 4 * k) := by
  rw [State.dmaArm_busy h (.inl ha), State.dmaCh_showDma, State.regBit_showDma_shadow, State.dmaCh_armed]
  refine ⟨ha, rfl, rfl, fun k hk => State.showDma_regsBut _ n _ ?_⟩
  simp [ctr, Reg.DMA_ACT_SRC_LO, Reg.DMA_STATUS, Reg.DMA_PC]
  omega

/-- The eight sequencer lines are the bits that are written (R377). -/
theorem State.regBit_setSwreq (s : State) (v : BitVec 8) {j : Nat} (h : j < 8) :
    (s.setRegF Reg.DMA_SWREQ 0 8 v.toNat).regBit Reg.DMA_SWREQ j = v.getLsbD j := by
  rw [State.regBit, State.reg_setRegF, if_pos rfl, getLsbD_setFld, if_pos ⟨Nat.zero_le _, by omega, by omega⟩, Nat.sub_zero, BitVec.testBit_toNat]

/-- Settles O35: what each control does to a channel by its state; a channel that is not idle ignores PROG_START. -/
theorem dmaControlActs : Obligations.DmaControlActs := by
  intro n seq s
  refine ⟨fun hf hst => ⟨fun hpow ha => ?_, fun hpow ha => ?_, ?_, ?_, fun hpow ha hp => ?_, fun h => ?_⟩, fun hf hst => ⟨?_, ?_, ?_⟩,
    fun hpow => ⟨?_, ?_⟩, ?_, fun v => ?_⟩
  · exact ⟨_, rfl, State.dmaArm_idle_spec hf seq hst hpow ha⟩
  · exact ⟨_, rfl, State.dmaArm_busy_spec hpow ha⟩
  · exact ⟨_, rfl, State.dmaAbort_spec hf hst⟩
  · exact congrArg _ (State.dmaClear_notStopped hst)
  · obtain ⟨q, hq⟩ := State.dmaProgStart_spec hf hst hpow ha hp
    exact ⟨_, q, rfl, hq⟩
  · exact congrArg _ (State.dmaProgStart_ignored (h.elim (fun ha => .inr (.inl ha)) (fun hp => .inr (.inr (.inl hp)))))
  · exact congrArg _ (State.dmaAbort_stopped hst)
  · exact congrArg _ (State.dmaProgStart_ignored (.inl hst))
  · exact ⟨_, rfl, State.dmaClear_spec hf hst⟩
  · exact congrArg _ (State.dmaArm_failing hpow)
  · exact congrArg _ (State.dmaProgStart_ignored (.inr (.inr (.inr hpow))))
  · exact ⟨_, rfl, State.regBit_setRegBit_same _ _ _ _ (by decide), (RegsBut.refl s _).setRegBit _ _ _ List.mem_cons_self⟩
  · exact ⟨_, rfl, fun j => s.regBit_setSwreq v, (RegsBut.refl s _).setRegF _ _ _ _ List.mem_cons_self⟩

end Sys2Proof.Machine
end

section
/-!
PROOFS. DMA bursts (R373, R374, R377, R381): the accesses of a burst, and the bytes that it moves within packet memory.
-/
namespace Sys2Proof.Machine

/-! ## The accesses of a burst -/

/-- Bytes `i` to `i + m - 1` of a burst whose byte k lies at address `a + k`: (index, address) pairs. -/
def accRun (a i m : Nat) : List (Nat × Nat) := (List.range' i m).map (fun k => (k, a + k))

@[simp] theorem length_accRun (a i m : Nat) : (accRun a i m).length = m := by simp [accRun]

theorem accRun_add (a i m k : Nat) : accRun a i (m + k) = accRun a i m ++ accRun a (i + m) k := by
  rw [accRun, accRun, accRun, ← List.map_append, List.range'_append_1]

/-- The accesses of a burst are its bytes in order. -/
theorem flatten_groupAcc (single : Bool) (l : List (Nat × Nat)) : (groupAcc single l).flatten = l := by
  induction l with
  | nil => rfl
  | cons q l ih =>
    rw [groupAcc]
    split
    · next r g gs h =>
      rw [h] at ih
      split <;> simp [← ih]
    · simp [ih]

/-- No access is empty. -/
theorem ne_nil_of_mem_groupAcc (single : Bool) (l : List (Nat × Nat)) : ∀ g ∈ groupAcc single l, g ≠ [] := by
  induction l with
  | nil => simp [groupAcc]
  | cons q l ih =>
    rw [groupAcc]
    split
    · next r g gs h =>
      rw [h] at ih
      split <;> simp_all
    · simpa using ih

/-- Lists that make up a run are runs that follow one another. -/
theorem accRun_of_flatten_cons {a i m : Nat} {g : List (Nat × Nat)} {gs : List (List (Nat × Nat))} (h : (g :: gs).flatten = accRun a i m) :
    ∃ j k, m = j + k ∧ g = accRun a i j ∧ gs.flatten = accRun a (i + j) k := by
  rw [List.flatten_cons] at h
  have hlen : g.length + gs.flatten.length = m := by rw [← List.length_append, h, length_accRun]
  refine ⟨g.length, gs.flatten.length, hlen.symm, ?_⟩
  rw [← hlen, accRun_add] at h
  exact List.append_inj h (length_accRun _ _ _).symm

theorem map_snd_accRun (a i m : Nat) : (accRun a i m).map (·.2) = List.range' (a + i) m := by
  simp [accRun, List.range'_eq_map_range, Nat.add_assoc]

theorem foldl_min_of_le {a : Nat} {l : List Nat} (h : ∀ x ∈ l, a ≤ x) : l.foldl min a = a := by
  induction l with
  | nil => rfl
  | cons x l ih => rw [List.foldl_cons, Nat.min_eq_left (h x List.mem_cons_self), ih fun y hy => h y (List.mem_cons_of_mem _ hy)]

/-- The lowest address of a run is its first. -/
theorem minNat?_range' (a m : Nat) : minNat? (List.range' a (m + 1)) = some a := by
  rw [List.range'_succ, minNat?, foldl_min_of_le]
  intro x hx
  rw [List.mem_range'_1] at hx
  omega

/-- The highest address of a run is its last. -/
theorem foldl_max_range' (a m : Nat) : (List.range' a (m + 1)).foldl max 0 = a + m := by
  induction m with
  | zero => simp
  | succ m ih =>
    rw [List.range'_1_concat, List.foldl_concat, ih]
    omega

/-- A list in order is sorted already. -/
theorem sortBy_of_pairwise {α : Type} {le : α → α → Bool} {l : List α} (h : l.Pairwise (fun x y => le x y = true)) : sortBy le l = l := by
  induction l with
  | nil => rfl
  | cons x l ih =>
    obtain ⟨hx, hl⟩ := List.pairwise_cons.mp h
    have htail : sortBy le (x :: l) = insertBy le x l := by
      rw [sortBy, List.foldr_cons, ← sortBy, ih hl]
    rw [htail]
    cases l with
    | nil => rfl
    | cons y l => rw [insertBy, if_pos (hx y List.mem_cons_self)]

/-- A run is in the order of its addresses. -/
theorem pairwise_accRun (a i m : Nat) : (accRun a i m).Pairwise (fun x y => decide (x.2 ≤ y.2) = true) := by
  rw [accRun, List.pairwise_map]
  exact List.pairwise_le_range'.imp fun h => by simpa using h

/-! ## Reading within packet memory -/

section Read
variable {s : State} {a : Nat} (agent : Nat) (errs : List (Nat × List SymErr))

/-- What a burst has read: the byte at `a + k` for every k of the run. -/
def State.runBytes (s : State) (a i m : Nat) : List (Nat × Option Byte) := (List.range' i m).map (fun k => (k, some (s.byteAt (a + k))))

theorem State.runBytes_add (s : State) (a i m k : Nat) : s.runBytes a i (m + k) = s.runBytes a i m ++ s.runBytes a (i + m) k := by
  rw [State.runBytes, State.runBytes, State.runBytes, ← List.map_append, List.range'_append_1]

/-- Each byte of an access lies in what its read gives. -/
theorem State.map_getMem_accRun (s : State) (a i m : Nat) :
    (accRun a i m).map (fun q => (q.1, (s.getMem (a + i) m)[q.2 - (a + i)]?)) = s.runBytes a i m := by
  rw [accRun, State.runBytes, List.map_map]
  refine List.map_congr_left fun k hk => ?_
  rw [List.mem_range'_1] at hk
  have hlt : a + k - (a + i) < m := by omega
  have hadd : a + i + (a + k - (a + i)) = a + k := by omega
  simp [State.getMem, hlt, hadd]

/-- The accesses of a run of packet memory without poisoned bytes read its bytes and change nothing. -/
theorem State.burstRead_of_isPm {gs : List (List (Nat × Nat))} {i m : Nat} (hgs : gs.flatten = accRun a i m) (hne : ∀ g ∈ gs, g ≠ [])
    (hpm : ∀ k, k < i + m → isPm (a + k) = true) (hgood : ∀ k, k < i + m → tget (fun _ => false) s.mem.badBytes (a + k) = false) :
    State.burstRead errs agent gs s = (s.runBytes a i m, none, s) := by
  induction gs generalizing i m with
  | nil =>
    have hm : m = 0 := by simpa using (congrArg List.length hgs).symm
    subst hm
    rfl
  | cons g gs ih =>
    obtain ⟨j, k, rfl, rfl, hrest⟩ := accRun_of_flatten_cons hgs
    obtain ⟨j, rfl⟩ : ∃ j', j = j' + 1 := Nat.exists_eq_succ_of_ne_zero fun hj => hne _ List.mem_cons_self (by rw [hj]; rfl)
    have hread : s.busRead agent (a + i) (j + 1) errs = (some (s.getMem (a + i) (j + 1)), s) :=
      s.busRead_of_isPm agent errs (hpm i (by omega)) fun x hx => by rw [Nat.add_assoc]; exact hgood _ (by omega)
    have htail := ih hrest (fun g hg => hne g (List.mem_cons_of_mem _ hg)) (fun x hx => hpm x (by omega)) (fun x hx => hgood x (by omega))
    have hlen : a + i + j + 1 - (a + i) = j + 1 := by omega
    rw [State.burstRead]
    simp only [map_snd_accRun, minNat?_range', foldl_max_range', Option.getD_some, hlen, hread, htail]
    simp [State.map_getMem_accRun, State.runBytes_add]

/-- A byte that was read is found by its place in the burst. -/
theorem State.find?_runBytes (s : State) (a : Nat) {m k : Nat} (hk : k < m) :
    (s.runBytes a 0 m).find? (fun q => q.1 == k) = some (k, some (s.byteAt (a + k))) := by
  have hcomp : (fun q : Nat × Option Byte => q.1 == k) ∘ (fun x => (x, some (s.byteAt (a + x)))) = (· == k) := rfl
  have hfind : (List.range' 0 m).find? (· == k) = some k := by
    rw [List.find?_range'_eq_some]
    exact ⟨by simp, by simpa using hk, fun j _ hj => by simpa using Nat.ne_of_lt hj⟩
  rw [State.runBytes, List.find?_map, hcomp, hfind, Option.map_some]

end Read

/-! ## Writing within packet memory -/

/-- A write of packet memory changes bytes and their marks alone. -/
theorem State.busWrite_of_isPm (s : State) (ag : Nat) (b : Bytes) (errs : List (Nat × List SymErr)) {a : Nat} (hpm : isPm a = true) :
    ∃ bad, s.busWrite ag a (b.map some) errs = { s with mem := { s.mem with cells := putBytes s.mem.cells a b, badBytes := bad } } := by
  refine ⟨(s.busWrite ag a (b.map some) errs).mem.badBytes, ?_⟩
  simp [State.busWrite, isDram_of_isPm hpm, heOf_of_isPm hpm, Function.comp_def]

/-- Bytes of memory and their marks alone have changed, and the bytes are as given. -/
def BytesWritten (s t : State) (f : Nat → Byte) : Prop :=
  ∃ cells bad, t = { s with mem := { s.mem with cells := cells, badBytes := bad } } ∧ ∀ x, tget memDefault cells x = f x

/-- A byte of memory after a run of bytes was written. -/
theorem tget_putBytes_run (m : List (Nat × Byte)) (b i n x : Nat) (v : Nat → Byte) :
    tget memDefault (putBytes m (b + i) ((List.range' i n).map v)) x = if b + i ≤ x ∧ x < b + i + n then v (x - b) else tget memDefault m x := by
  rw [tget_putBytes, List.length_map, List.length_range']
  by_cases hx : b + i ≤ x ∧ x < b + i + n
  · have hlt : x - (b + i) < n := by omega
    have hidx : i + (x - (b + i)) = x - b := by omega
    rw [if_pos hx, if_pos hx]
    simp [List.getD, hlt, hidx]
  · rw [if_neg hx, if_neg hx]

/-- The accesses of a run of packet memory write its bytes and no others. -/
theorem State.burstWrite_of_isPm {s : State} {b : Nat} (agent : Nat) (errs : List (Nat × List SymErr))
    {bytes : List (Nat × Option Byte)} {v : Nat → Byte} {gs : List (List (Nat × Nat))} {i m : Nat}
    (hgs : gs.flatten = accRun b i m) (hne : ∀ g ∈ gs, g ≠ []) (hpm : ∀ k, k < i + m → isPm (b + k) = true)
    (hv : ∀ k, k < i + m → (bytes.find? (fun q => q.1 == k)).bind (·.2) = some (v k)) :
    BytesWritten s (State.burstWrite errs agent bytes gs s) (fun x => if b + i ≤ x ∧ x < b + i + m then v (x - b) else s.byteAt x) := by
  induction gs generalizing s i m with
  | nil =>
    have hm : m = 0 := by simpa using (congrArg List.length hgs).symm
    subst hm
    exact ⟨s.mem.cells, s.mem.badBytes, rfl, fun x => (if_neg (by omega)).symm⟩
  | cons g gs ih =>
    obtain ⟨j, k, rfl, rfl, hrest⟩ := accRun_of_flatten_cons hgs
    obtain ⟨j, rfl⟩ : ∃ j', j = j' + 1 := Nat.exists_eq_succ_of_ne_zero fun hj => hne _ List.mem_cons_self (by rw [hj]; rfl)
    have hdata : (accRun b i (j + 1)).map (fun q => (bytes.find? (fun p => p.1 == q.1)).bind (·.2)) = ((List.range' i (j + 1)).map v).map some := by
      rw [accRun, List.map_map, List.map_map]
      refine List.map_congr_left fun x hx => hv x ?_
      rw [List.mem_range'_1] at hx
      omega
    obtain ⟨bad, hwrite⟩ := s.busWrite_of_isPm agent ((List.range' i (j + 1)).map v) errs (hpm i (by omega))
    rw [State.burstWrite]
    simp only [map_snd_accRun, minNat?_range', Option.getD_some, sortBy_of_pairwise (pairwise_accRun b i (j + 1)), hdata, hwrite]
    obtain ⟨cells, bad', hrec, hbytes⟩ := ih
      (s := { s with mem := { s.mem with cells := putBytes s.mem.cells (b + i) ((List.range' i (j + 1)).map v), badBytes := bad } }) hrest
      (fun g hg => hne g (List.mem_cons_of_mem _ hg)) (fun x hx => hpm x (by omega)) (fun x hx => hv x (by omega))
    refine ⟨cells, bad', hrec, fun x => ?_⟩
    simp only [hbytes, State.byteAt, tget_putBytes_run]
    by_cases hfirst : b + i ≤ x ∧ x < b + i + (j + 1)
    · rw [if_neg (by omega), if_pos hfirst, if_pos (by omega)]
    · rw [if_neg hfirst]
      exact if_congr (by omega) rfl rfl

section BytesWritten
variable {s t : State} {f : Nat → Byte} (h : BytesWritten s t f)
include h

theorem BytesWritten.byteAt (x : Nat) : t.byteAt x = f x := by
  obtain ⟨_, _, rfl, hbytes⟩ := h
  exact hbytes x

theorem BytesWritten.regs : t.regs = s.regs := by
  obtain ⟨_, _, rfl, _⟩ := h
  rfl

end BytesWritten

/-! ## The end of a transfer (R379, R381) -/

@[simp] theorem State.loadShadow_mem (s : State) (n : Nat) : (s.loadShadow n).mem = s.mem := by
  rcases s.loadShadow_eq_or n with h | h <;> simp [h]

/-- A register that is no part of the active set, of DMA_STATUS or of DMA_PC stays when the shadow set loads. -/
theorem State.reg_loadShadow_other (s : State) (n : Nat) {b : Nat} (hact : b < Reg.DMA_ACT_SRC_LO n ∨ Reg.DMA_SRC_LO n ≤ b)
    (hshow : b ∉ Reg.DMA_STATUS n :: ctr (Reg.DMA_PC n 0)) : (s.loadShadow n).reg b = s.reg b := by
  rcases s.loadShadow_eq_or n with h | h
  · rw [h, s.showDma_regsBut n b hshow]
  · rw [h, State.showDma_regsBut _ n b hshow, State.reg_loadActive_outside _ _ hact]

/-- The end of a transfer changes no byte. -/
@[simp] theorem State.dmaComplete_mem (s : State) (n : Nat) : (s.dmaComplete n).mem = s.mem := by
  unfold State.dmaComplete
  dsimp only
  rw [State.loadShadow_mem]
  split <;> simp

/-- The end of a transfer changes no register from DMA_BYTES on. -/
theorem State.reg_dmaComplete_of_ge (s : State) (n : Nat) {b : Nat} (hlo : Reg.DMA_BYTES n ≤ b) :
    (s.dmaComplete n).reg b = s.reg b := by
  have hev : b ∉ evRegs := by
    simp [evRegs, Reg.INT_MERGED, Reg.INT_BYPASS, Reg.INT_REROUTED, Reg.DMA_BYTES] at hlo ⊢
    omega
  have hch : b ∉ Reg.DMA_STATUS n :: ctr (Reg.DMA_PC n 0) ++ ctr (Reg.DMA_XFERS n) := by
    simp [ctr, Reg.DMA_STATUS, Reg.DMA_PC, Reg.DMA_XFERS, Reg.DMA_BYTES] at hlo ⊢
    omega
  have hset : RegsBut s (((s.setDmaCh n { s.dmaCh n with active := false, moved := 0 }).bump (Reg.DMA_XFERS n)).setRegBit (Reg.DMA_STATUS n) 16 true)
      (Reg.DMA_STATUS n :: ctr (Reg.DMA_PC n 0) ++ ctr (Reg.DMA_XFERS n) ++ evRegs) :=
    RegsBut.setRegBit (RegsBut.bump (t := s.setDmaCh n _) (.refl s _) _ (by simp [ctr]) (by simp [ctr])) _ _ _ (by simp)
  have hall : b ∉ Reg.DMA_STATUS n :: ctr (Reg.DMA_PC n 0) ++ ctr (Reg.DMA_XFERS n) ++ evRegs := fun hb => (List.mem_append.mp hb).elim hch hev
  unfold State.dmaComplete
  dsimp only
  rw [State.reg_loadShadow_other _ _ (.inr ?_) (fun hb => hch (List.mem_append_left _ hb))]
  · exact RegsBut.ite (hset.raiseEv n (fun _ => List.mem_append_right _)) hset b hall
  · simp only [Reg.DMA_SRC_LO, Reg.DMA_BYTES] at hlo ⊢
    omega

/-! ## One burst -/

/-- The sources of a burst: the place in the burst, and the address. -/
def Xfer.srcs (t : Xfer) (i : Nat) : List (Nat × Nat) := (List.range (t.burst i)).map (fun k => (k, (t.at (i + k)).1))

/-- The destinations of a burst. -/
def Xfer.dsts (t : Xfer) (i : Nat) : List (Nat × Nat) := (List.range (t.burst i)).map (fun k => (k, (t.at (i + k)).2))

/-- The first access of a burst to an address that does not decode, sources first. -/
def State.firstBadAddr (s : State) (t : Xfer) (i : Nat) : Option (Nat × Nat) :=
  ((t.srcs i).find? (fun q => !s.addrOk false q.2)).orElse (fun _ => (t.dsts i).find? (fun q => !s.addrOk true q.2))

/-- After the accesses of a burst: the transfer ends with its last byte. -/
def State.burstEnds (s : State) (n : Nat) (t : Xfer) (moved : Nat) : State :=
  let s1 := s.setDmaCh n { s.dmaCh n with moved := moved }
  if t.x * t.y * t.z ≤ moved then s1.dmaComplete n else s1

section Burst
variable {s : State} {n : Nat} {t : Xfer} (ht : t = (s.xferAt (Reg.DMA_ACT_SRC_LO n)).run) (errs : List (Nat × List SymErr))
include ht

theorem State.dmaBurst_badAddr {q : Nat × Nat} (h : s.firstBadAddr t (s.dmaCh n).moved = some q) : s.dmaBurst n errs = s.dmaError n 1 (some q.2) := by
  subst ht
  unfold State.dmaBurst
  dsimp only
  split
  · next q' hq' =>
    rw [State.firstBadAddr, Xfer.srcs, Xfer.dsts, hq', Option.some.injEq] at h
    rw [h]
  · next hq' =>
    rw [State.firstBadAddr, Xfer.srcs, Xfer.dsts, hq'] at h
    exact absurd h (by simp)

/-- A burst whose addresses all decode and whose reads find no poison. -/
theorem State.dmaBurst_moves {bytes : List (Nat × Option Byte)} {u : State} (h : s.firstBadAddr t (s.dmaCh n).moved = none)
    (hread : State.burstRead errs n (groupAcc t.single (t.srcs (s.dmaCh n).moved)) s = (bytes, none, u)) :
    s.dmaBurst n errs = (((State.burstWrite errs n bytes (groupAcc t.single (t.dsts (s.dmaCh n).moved)) u).bumpN (Reg.DMA_BYTES n)
      (t.burst (s.dmaCh n).moved)).bump (Reg.DMA_BURSTS n)).burstEnds n t ((s.dmaCh n).moved + t.burst (s.dmaCh n).moved) := by
  subst ht
  rw [Xfer.srcs] at hread
  unfold State.dmaBurst
  dsimp only
  split
  · next q' hq' =>
    rw [State.firstBadAddr, Xfer.srcs, Xfer.dsts, hq'] at h
    exact absurd h (by simp)
  · simp only [hread]
    rfl

end Burst

/-- Where an address of a burst does not decode, the first bad one is an address of the burst. -/
theorem State.firstBadAddr_spec {s : State} {t : Xfer} {i : Nat}
    (h : ∃ k, k < t.burst i ∧ (s.addrOk false (t.at (i + k)).1 = false ∨ s.addrOk true (t.at (i + k)).2 = false)) :
    ∃ q, s.firstBadAddr t i = some q ∧ ∃ k, k < t.burst i ∧ (q.2 = (t.at (i + k)).1 ∨ q.2 = (t.at (i + k)).2) := by
  rw [State.firstBadAddr]
  cases hsrc : (t.srcs i).find? (fun q => !s.addrOk false q.2) with
  | some q =>
    obtain ⟨k, hk, rfl⟩ := List.mem_map.mp (List.mem_of_find?_eq_some hsrc)
    exact ⟨_, rfl, k, List.mem_range.mp hk, .inl rfl⟩
  | none =>
    cases hdst : (t.dsts i).find? (fun q => !s.addrOk true q.2) with
    | some q =>
      obtain ⟨k, hk, rfl⟩ := List.mem_map.mp (List.mem_of_find?_eq_some hdst)
      exact ⟨_, rfl, k, List.mem_range.mp hk, .inr rfl⟩
    | none =>
      obtain ⟨k, hk, hbad⟩ := h
      have hs := List.find?_eq_none.mp hsrc _ (List.mem_map_of_mem (List.mem_range.mpr hk))
      have hd := List.find?_eq_none.mp hdst _ (List.mem_map_of_mem (List.mem_range.mpr hk))
      simp only [Bool.not_eq_true', Bool.not_eq_false] at hs hd
      simp [hs, hd] at hbad

/-- Where every address of a burst decodes there is no bad one. -/
theorem State.firstBadAddr_eq_none {s : State} {t : Xfer} {i : Nat}
    (h : ∀ k, k < t.burst i → s.addrOk false (t.at (i + k)).1 = true ∧ s.addrOk true (t.at (i + k)).2 = true) : s.firstBadAddr t i = none := by
  have hsrc : (t.srcs i).find? (fun q => !s.addrOk false q.2) = none := by
    simpa [Xfer.srcs] using fun k hk => (h k hk).1
  have hdst : (t.dsts i).find? (fun q => !s.addrOk true q.2) = none := by
    simpa [Xfer.dsts] using fun k hk => (h k hk).2
  rw [State.firstBadAddr, hsrc, hdst]
  rfl

/-! ## What a burst leaves (R373, R374, R377) -/

section Ends
variable (s : State) (n : Nat) (t : Xfer) (moved : Nat)

@[simp] theorem State.burstEnds_mem : (s.burstEnds n t moved).mem = s.mem := by
  unfold State.burstEnds
  dsimp only
  split <;> simp

theorem State.reg_burstEnds_of_ge {b : Nat} (hlo : Reg.DMA_BYTES n ≤ b) : (s.burstEnds n t moved).reg b = s.reg b := by
  unfold State.burstEnds
  dsimp only
  split
  · exact State.reg_dmaComplete_of_ge _ n hlo
  · rfl

end Ends

/-- The counts of a burst, whatever it wrote. -/
theorem State.counted_burstEnds {s w : State} {n : Nat} (t : Xfer) (moved len : Nat) (hregs : w.regs = s.regs) :
    Counted s (((w.bumpN (Reg.DMA_BYTES n) len).bump (Reg.DMA_BURSTS n)).burstEnds n t moved) (Reg.DMA_BYTES n) len
      ∧ Counted s (((w.bumpN (Reg.DMA_BYTES n) len).bump (Reg.DMA_BURSTS n)).burstEnds n t moved) (Reg.DMA_BURSTS n) 1 := by
  have hsame : RegsBut s w [] := .of_regs _ hregs
  have hends (u : State) (c : Nat) (hlo : Reg.DMA_BYTES n ≤ c) : (u.burstEnds n t moved).pair c = u.pair c :=
    State.pair_congr _ _ _ (u.reg_burstEnds_of_ge n t moved hlo) (u.reg_burstEnds_of_ge n t moved (by omega))
  constructor
  · rw [Counted, hends _ _ le_rfl, State.pair_congr (w.bumpN (Reg.DMA_BYTES n) len),
      State.pair_bumpN, hsame.pair _ (by simp) (by simp)] <;>
      refine State.reg_bump_other _ _ _ ?_ ?_ <;> simp only [Reg.DMA_BYTES, Reg.DMA_BURSTS] <;> omega
  · rw [Counted, hends _ _ (by simp only [Reg.DMA_BYTES, Reg.DMA_BURSTS]; omega),
      State.pair_bump, State.pair_congr w, hsame.pair _ (by simp) (by simp)] <;>
      refine State.reg_bumpN_other _ _ _ _ ?_ ?_ <;> simp only [Reg.DMA_BYTES, Reg.DMA_BURSTS] <;> omega

section WithinPacketMemory
variable {s : State} {n : Nat} {t : Xfer} {a b : Nat} (ht : t = (s.xferAt (Reg.DMA_ACT_SRC_LO n)).run) (errs : List (Nat × List SymErr))
  (hat : ∀ k, k < t.burst (s.dmaCh n).moved → t.at ((s.dmaCh n).moved + k) = (a + k, b + k))
  (hsrc : ∀ k, k < t.burst (s.dmaCh n).moved → isPm (a + k) = true) (hdst : ∀ k, k < t.burst (s.dmaCh n).moved → isPm (b + k) = true)
  (hgood : ∀ k, k < t.burst (s.dmaCh n).moved → tget (fun _ => false) s.mem.badBytes (a + k) = false)
include ht hat hsrc hdst hgood

/-- A burst of consecutive bytes within packet memory writes them, counts, and ends the transfer where it was the last. -/
theorem State.dmaBurst_of_isPm : ∃ w, s.dmaBurst n errs = ((w.bumpN (Reg.DMA_BYTES n) (t.burst (s.dmaCh n).moved)).bump (Reg.DMA_BURSTS n)).burstEnds n t
        ((s.dmaCh n).moved + t.burst (s.dmaCh n).moved)
      ∧ BytesWritten s w (fun x => if b ≤ x ∧ x < b + t.burst (s.dmaCh n).moved then s.byteAt (a + (x - b)) else s.byteAt x) := by
  have hsrcs : t.srcs (s.dmaCh n).moved = accRun a 0 (t.burst (s.dmaCh n).moved) := by
    rw [Xfer.srcs, accRun, List.range_eq_range']
    exact List.map_congr_left fun k hk => by rw [hat k (by simpa using hk)]
  have hdsts : t.dsts (s.dmaCh n).moved = accRun b 0 (t.burst (s.dmaCh n).moved) := by
    rw [Xfer.dsts, accRun, List.range_eq_range']
    exact List.map_congr_left fun k hk => by rw [hat k (by simpa using hk)]
  have hok : s.firstBadAddr t (s.dmaCh n).moved = none :=
    State.firstBadAddr_eq_none fun k hk => by
      rw [hat k hk]
      exact ⟨s.addrOk_of_isPm false (hsrc k hk), s.addrOk_of_isPm true (hdst k hk)⟩
  generalize hlen : t.burst (s.dmaCh n).moved = len at *
  have hread : State.burstRead errs n (groupAcc t.single (t.srcs (s.dmaCh n).moved)) s = (s.runBytes a 0 len, none, s) := by
    rw [hsrcs]
    exact State.burstRead_of_isPm n errs (flatten_groupAcc _ _) (ne_nil_of_mem_groupAcc _ _) (by simpa using hsrc) (by simpa using hgood)
  refine ⟨_, hlen ▸ State.dmaBurst_moves ht errs hok hread, ?_⟩
  rw [hdsts]
  have hwrite := State.burstWrite_of_isPm (s := s) n errs (flatten_groupAcc t.single (accRun b 0 len)) (ne_nil_of_mem_groupAcc _ _) (by simpa using hdst)
    (v := fun k => s.byteAt (a + k)) (bytes := s.runBytes a 0 len) (fun k hk => by rw [s.find?_runBytes a (by omega)]; rfl)
  simpa using hwrite

end WithinPacketMemory

theorem execDmaBurst_issues {n : Fin 64} {line : Bool} {errs : List (Nat × List SymErr)} {s : State} (ha : (s.dmaCh n).active = true)
    (hst : (s.dmaCh n).stopped = false) (hf : s.frozen (agDma n) = false) (hline : s.regBit (Reg.DMA_ACT_CNT_Z n) 17 = false
      ∨ s.lineUp (s.regF (Reg.DMA_ACT_CNT_Z n) 18 7) line = true) : execDmaBurst n line errs s = .next (s.dmaBurst n errs) := by
  rcases hline with hline | hline <;> simp [execDmaBurst, ha, hst, hf, hline]

/-- Settles O36: a paced channel waits, the first address that does not decode is the error's, and a run of packet memory is moved access by access. -/
theorem dmaBurstsMoveBytes : Obligations.DmaBurstsMoveBytes := by
  intro n line errs s t len ha hst hf ht hlen
  subst hlen
  refine ⟨fun hpaced hdown => ?_, fun hline => ?_⟩
  · simp [execDmaBurst, hpaced, hdown]
  · have hexec : exec (.dmaBurst n line errs) s = .next (s.dmaBurst n errs) := execDmaBurst_issues ha hst hf hline
    refine ⟨hexec, fun hbad => ?_, fun a b hrun => ?_⟩
    · obtain ⟨q, hq, hwhere⟩ := State.firstBadAddr_spec hbad
      exact ⟨q.2, State.dmaBurst_badAddr ht errs hq, hwhere⟩
    · simp only [imp_and, forall_and] at hrun
      obtain ⟨hat, hsrc, hdst, hgood⟩ := hrun
      obtain ⟨w, hburst, hbytes⟩ := State.dmaBurst_of_isPm ht errs hat hsrc hdst hgood
      refine ⟨_, hexec, fun x => ?_, ?_⟩
      · rw [hburst, State.byteAt, State.burstEnds_mem, ← hbytes.byteAt x]
        rfl
      · rw [hburst]
        exact State.counted_burstEnds t _ _ hbytes.regs

end Sys2Proof.Machine
end

section
/-!
PROOFS. DMA program mode (R384, R385): the six instructions, their waits, and the errors of an instruction (R382).
-/
namespace Sys2Proof.Machine

/-! ## Events that are raised (R397, R409) -/

/-- An event of a source that is on is pending once it is raised. -/
theorem State.exists_event_raiseEv {s : State} {n : Nat} (h : s.evEn n = true) : ∃ e, e ∈ (s.raiseEv n).ctl.events ∧ e.ev = n := by
  have hpend : ∃ e, e ∈ (s.pendEvent n).ctl.events ∧ e.ev = n := by
    unfold State.pendEvent
    by_cases hthere : s.ctl.events.any (fun e => e.ev == n) = true
    · obtain ⟨e, he, hn⟩ := List.any_eq_true.mp hthere
      rw [if_neg (by simp [h]), if_pos hthere]
      exact ⟨e, he, beq_iff_eq.mp hn⟩
    · rw [if_neg (by simp [h]), if_neg hthere]
      exact ⟨_, List.mem_append_right _ List.mem_cons_self, rfl⟩
  have hkept := (s.pendEvent n).settleEvents_eventsKept.map_ev
  have hmem : n ∈ (s.raiseEv n).ctl.events.map (·.ev) := by
    rw [State.raiseEv, State.raiseEvs, List.foldl_cons, List.foldl_nil, hkept]
    exact List.mem_map.mpr hpend
  exact List.mem_map.mp hmem

/-! ## The instruction that a channel executes -/

/-- A channel that executes an instruction, in error or not, runs a program. -/
theorem State.exists_prog_of_dmaInstr {s : State} {n op : Nat} (h : s.dmaInstr n op ≠ .idle) : ∃ p, (s.dmaCh n).prog = some p := by
  refine Option.ne_none_iff_exists'.mp fun hp => h ?_
  unfold State.dmaInstr
  simp [hp]

/-! ## Going on and waiting -/

/-- An instruction that waits stays where it is, and its wait began when it first did. -/
theorem State.dmaWait_spec (s : State) (n : Nat) (p : DmaProg) :
    ((s.dmaWait n p).dmaCh n).prog = some { p with waitFrom := some (p.waitFrom.getD s.now) } ∧ (s.dmaWait n p).mem = s.mem := by
  simp [State.dmaWait]

/-- A program that goes on at an address keeps its loop counters. -/
theorem State.exists_prog_dmaGoTo (s : State) (n : Nat) (p : DmaProg) :
    ∃ q, ((s.dmaGoTo n p).dmaCh n).prog = some q ∧ q.pc = p.pc ∧ q.loops = p.loops ∧ q.waitFrom = p.waitFrom := by
  obtain ⟨l, h, -⟩ := s.prog_dmaGoTo n p
  exact ⟨_, h, rfl, rfl, rfl⟩

/-! ## Errors of an instruction (R382, R385) -/

section InstrErr
variable {s : State} {n kind : Nat}

/-- Once the transfers armed before it have moved, an instruction's error stops the channel. -/
theorem State.dmaInstrErr_idle (h : s.dmaIdle n = true) :
    s.dmaInstrErr n kind = s.dmaError n kind (if kind = 1 ∨ kind = 2 then (s.dmaCh n).prog.map (·.pc) else none) := if_pos h

/-- Until then it waits, with the error in the place of the instruction. -/
theorem State.dmaInstrErr_busy (h : s.dmaIdle n = false) (hp : ∃ p, (s.dmaCh n).prog = some p) :
    ∃ q, ((s.dmaInstrErr n kind).dmaCh n).prog = some q ∧ q.fetched.head? = some (.err kind) ∧ (s.dmaInstrErr n kind).mem = s.mem := by
  obtain ⟨p, hp⟩ := hp
  have heq : s.dmaInstrErr n kind = s.dmaWait n { p with fetched := .err kind :: p.fetched.drop 1 } := by
    rw [State.dmaInstrErr, if_neg (by simp [h]), hp]
  obtain ⟨hprog, hmem⟩ := s.dmaWait_spec n { p with fetched := .err kind :: p.fetched.drop 1 }
  rw [heq]
  exact ⟨_, hprog, rfl, hmem⟩

end InstrErr

/-- What a command that finds its instruction in error does, whichever of the six it is. -/
theorem exec_dmaInstr_err {s : State} {n : Fin 64} {line : Bool} {c : Instr} {op k : Nat}
    (hc : (c, op) ∈ ([(.move n, 1), (.loop n, 2), (.wait n line, 3), (.signal n, 4), (.end_ n, 5), (.nop n, 6)] : List (Instr × Nat)))
    (h : s.dmaInstr n op = .err k) : exec c s = .next (s.dmaInstrErr n k) := by
  simp only [List.mem_cons, Prod.mk.injEq, List.not_mem_nil, or_false] at hc
  obtain ⟨rfl, rfl⟩ | ⟨rfl, rfl⟩ | ⟨rfl, rfl⟩ | ⟨rfl, rfl⟩ | ⟨rfl, rfl⟩ | ⟨rfl, rfl⟩ := hc
  · simp only [exec_move, execMove, h]
  · simp only [exec_loop, execLoop, h]
  · simp only [exec_wait, execWait, h]
  · simp only [exec_signal, execSignal, h]
  · simp only [exec_end_, execEnd, h]
  · simp only [exec_nop, execNop, h]

/-! ## MOVE and LOOP (R384) -/

section Instructions
variable {s : State} {n : Fin 64} {p : DmaProg} {w : Nat}

/-- MOVE waits while the shadow set is armed. -/
theorem exec_move_waits (h : s.dmaInstr n 1 = .run p w) (hsh : (s.dmaCh n).shadow = true) : exec (.move n) s = .next (s.dmaWait n p) := by
  simp only [exec_move, execMove, h, hsh, if_true]

/-- MOVE from an address that does not decode. -/
theorem exec_move_badAddr (h : s.dmaInstr n 1 = .run p w) (hsh : (s.dmaCh n).shadow = false) (hbad : s.addrOk false (w % 2 ^ 40) = false) :
    exec (.move n) s = .next (s.dmaError n 1 (some (w % 2 ^ 40))) := by
  simp only [exec_move, execMove, h, hsh, hbad, Bool.not_false, Bool.false_eq_true, if_false, if_true]

/-- MOVE reads its descriptor into the shadow set and arms it. -/
theorem exec_move_arms (h : s.dmaInstr n 1 = .run p w) (hsh : (s.dmaCh n).shadow = false) (hok : s.addrOk false (w % 2 ^ 40) = true)
    {d : Bytes} {u v : State} (hread : s.busRead n (w % 2 ^ 40) 64 [] = (some d, u))
    (hv : v = (u.setRegs (Reg.DMA_SRC_LO n) (descWords d).1).setRegBit (Reg.DMA_STATUS n) 6 (descWords d).2) :
    exec (.move n) s = .next ((v.dmaArm n (v.dmaCh n).armedBy).dmaGoTo n p.next) := by
  subst hv
  simp only [exec_move, execMove, h, hsh, hok, hread, Bool.not_true, Bool.false_eq_true, if_false]

/-- LOOP with turns left jumps, and else goes on; an inactive counter starts at the instruction's. -/
theorem exec_loop_turns (h : s.dmaInstr n 2 = .run p w) {l c : Nat} (hl : l = w / 2 ^ 56 % 2)
    (hc : c = if tget (fun _ => 0) p.loops l = 0 then w / 2 ^ 32 % 2 ^ 16 else tget (fun _ => 0) p.loops l - 1) {q : DmaProg}
    (hq : q = { p with loops := tput (fun _ => 0) p.loops l c }) :
    exec (.loop n) s = .next (s.dmaGoTo n (if 0 < c then q.jump (wrap40 ((p.pc : Int) + 8 * signedOf 32 w)) else q.next)) := by
  have hcount : (if tget (fun _ => 0) p.loops l = 0 then w / 2 ^ 32 % 2 ^ 16 + 1 else tget (fun _ => 0) p.loops l) - 1 = c := by
    rw [hc]
    split <;> rfl
  subst hl hq
  simp only [exec_loop, execLoop, h, hcount]
  split <;> rfl

theorem exec_loop_spec (h : s.dmaInstr n 2 = .run p w) {l c : Nat} (hl : l = w / 2 ^ 56 % 2)
    (hc : c = if tget (fun _ => 0) p.loops l = 0 then w / 2 ^ 32 % 2 ^ 16 else tget (fun _ => 0) p.loops l - 1) :
    ∃ t q, exec (.loop n) s = .next t ∧ (t.dmaCh n).prog = some q ∧ tget (fun _ => 0) q.loops l = c
      ∧ (0 < c → q.pc = wrap40 ((p.pc : Int) + 8 * signedOf 32 w)) ∧ (c = 0 → q.pc = wrap40 (p.pc + 8)) := by
  obtain ⟨q, hprog, hpc, hloops, -⟩ := s.exists_prog_dmaGoTo n
    (if 0 < c then DmaProg.jump { p with loops := tput (fun _ => 0) p.loops l c } (wrap40 ((p.pc : Int) + 8 * signedOf 32 w))
      else DmaProg.next { p with loops := tput (fun _ => 0) p.loops l c })
  refine ⟨_, q, exec_loop_turns h hl hc rfl, hprog, ?_, fun hpos => ?_, fun hzero => ?_⟩
  · rw [hloops]
    split <;> exact tget_tput_same _ _ _ _
  · rw [hpc, if_pos hpos]
    rfl
  · rw [hpc, if_neg (by omega)]
    rfl

/-! ## WAIT and its timeout (R382, R384) -/

theorem exec_wait_waits {line : Bool} (h : s.dmaInstr n 3 = .run p w) (hw : s.waitHolds n w line = false) :
    exec (.wait n line) s = .next (s.dmaWait n p) := by
  simp only [exec_wait, execWait, h, hw, Bool.false_eq_true, if_false]

/-- A WAIT whose condition holds goes on, and clears DMA_GO where it waited for it. -/
theorem exec_wait_holds {line : Bool} (h : s.dmaInstr n 3 = .run p w) (hw : s.waitHolds n w line = true) : exec (.wait n line) s
    = .next ((if w / 2 ^ 32 % 16 = 2 then s.setRegBit (Reg.DMA_GO n) 0 false else s).dmaGoTo n p.next) := by
  simp only [exec_wait, execWait, h, hw, if_true]

/-- A WAIT that has waited too long fails: for idle at once, and else as an instruction in error. -/
theorem exec_waitTimeout_due {t0 : Nat} (h : s.dmaInstr n 3 = .run p w) (ht0 : p.waitFrom = some t0)
    (hdue : t0 + usT (100 * (w / 2 ^ 16 % 2 ^ 16)) ≤ s.now) (hw : s.waitHolds n w false = false) :
    exec (.waitTimeout n) s = .next (if w / 2 ^ 32 % 16 = 0 then s.dmaError n 4 none else s.dmaInstrErr n 4) := by
  simp only [exec_waitTimeout, execWaitTimeout, h, ht0, hdue, hw, and_self, if_true]

/-! ## SIGNAL, END and NOP (R384) -/

theorem exec_signal_waits (h : s.dmaInstr n 4 = .run p w) (hdrain : w / 2 ^ 16 % 2 = 1) (hbusy : s.dmaIdle n = false) :
    exec (.signal n) s = .next (s.dmaWait n p) := by
  simp only [exec_signal, execSignal, h, hdrain, hbusy, and_self, if_true]

theorem exec_signal_signals (h : s.dmaInstr n 4 = .run p w) (hok : w / 2 ^ 16 % 2 = 0 ∨ s.dmaIdle n = true) :
    exec (.signal n) s = .next (((s.setReg (Reg.DMA_SIGNAL n) (BitVec.ofNat 32 (w % 2 ^ 16))).raiseEv n).dmaGoTo n p.next) := by
  have hno : ¬ (w / 2 ^ 16 % 2 = 1 ∧ s.dmaIdle n = false) := by
    rintro ⟨hdrain, hbusy⟩
    rcases hok with h0 | hidle
    · omega
    · rw [hbusy] at hidle
      exact Bool.noConfusion hidle
  simp only [exec_signal, execSignal, h, hno, if_false]

theorem exec_end_waits (h : s.dmaInstr n 5 = .run p w) (hbusy : s.dmaIdle n = false) : exec (.end_ n) s = .next (s.dmaWait n p) := by
  simp only [exec_end_, execEnd, h, hbusy, Bool.false_eq_true, if_false]

/-- A channel whose program has ended. -/
def State.programEnds (s : State) (n : Nat) : State :=
  (((s.setDmaCh n { s.dmaCh n with prog := none }).setRegBit (Reg.DMA_STATUS n) 16 true).raiseEv n).showDma n

theorem exec_end_ends (h : s.dmaInstr n 5 = .run p w) (hidle : s.dmaIdle n = true) : exec (.end_ n) s = .next (s.programEnds n) := by
  simp only [exec_end_, execEnd, h, hidle, if_true]
  rfl

theorem exec_nop_goesOn (h : s.dmaInstr n 6 = .run p w) : exec (.nop n) s = .next (s.dmaGoTo n p.next) := by
  simp only [exec_nop, execNop, h]

end Instructions

/-- The end of a program sets DONE and raises the channel's event. -/
theorem State.programEnds_spec (s : State) (n : Nat) : ((s.programEnds n).dmaCh n).prog = none ∧ (s.programEnds n).regBit (Reg.DMA_STATUS n) 16 = true
    ∧ (s.evEn n = true → ∃ e, e ∈ (s.programEnds n).ctl.events ∧ e.ev = n) ∧ RegsBut s (s.programEnds n) (Reg.DMA_STATUS n :: evRegs) := by
  obtain ⟨u, hu⟩ : ∃ u, u = (s.setDmaCh n { s.dmaCh n with prog := none }).setRegBit (Reg.DMA_STATUS n) 16 true := ⟨_, rfl⟩
  have heq : s.programEnds n = (u.raiseEv n).showDma n := by rw [hu, State.programEnds]
  have hprog : ((u.raiseEv n).dmaCh n).prog = none := by simp [hu]
  have hset : RegsBut s u (Reg.DMA_STATUS n :: evRegs) := by
    rw [hu]
    exact RegsBut.setRegBit (t := s.setDmaCh n _) (.refl s _) _ _ _ List.mem_cons_self
  have hdone : (u.raiseEv n).regBit (Reg.DMA_STATUS n) 16 = true := by
    rw [State.regBit, State.raiseEv_reg _ _ _ (by simp [evRegs, Reg.DMA_STATUS, Reg.INT_MERGED, Reg.INT_BYPASS, Reg.INT_REROUTED]; omega), hu]
    exact State.regBit_setRegBit_same _ _ _ _ (by decide)
  rw [heq]
  refine ⟨by simpa using hprog, ?_, fun hen => ?_, ?_⟩
  · rw [State.regBit_showDma_high _ _ (by decide), hdone]
  · rw [State.showDma_ctl]
    exact State.exists_event_raiseEv (by rw [hu]; exact hen)
  · exact (hset.raiseEv n (fun _ => List.mem_cons_of_mem _)).trans ((State.showDma_regsBut_noProgram _ n hprog).mono (by simp))

/-- An instruction that waits, as a next state. -/
theorem exists_next_dmaWait {s : State} {n : Nat} {p : DmaProg} {c : Instr} (h : exec c s = .next (s.dmaWait n p)) :
    ∃ t q, exec c s = .next t ∧ (t.dmaCh n).prog = some q ∧ q.pc = p.pc ∧ q.waitFrom = some (p.waitFrom.getD s.now) ∧ t.mem = s.mem := by
  obtain ⟨hprog, hmem⟩ := s.dmaWait_spec n p
  exact ⟨_, _, h, hprog, rfl, rfl, hmem⟩

/-- Settles O38: each instruction by what it finds; one in error, or a WAIT for too long, stops the channel once it is idle. -/
theorem dmaProgramsRunTheirInstructions : Obligations.DmaProgramsRunTheirInstructions := by
  intro n line s p w
  refine ⟨fun h => ⟨fun hsh => ?_, fun hsh hbad => ?_, fun d u hsh hok hread v hv => ?_⟩, fun h l c hl hc => ?_,
    fun h => ⟨fun hw hgo => ?_, fun hw hgo => ?_, fun hw => ?_, fun t0 ht0 hdue hw => ⟨fun hidle => ?_, fun hcond hbusy => ?_⟩⟩,
    fun h => ⟨fun hdrain hbusy => ?_, fun hok => ?_⟩, fun h => ⟨fun hidle => ?_, fun hbusy => ?_⟩, fun h => ?_,
    fun c op k hc h => ⟨fun hidle => ?_, fun hbusy => ?_⟩⟩
  · exact exists_next_dmaWait (exec_move_waits h hsh)
  · exact exec_move_badAddr h hsh hbad
  · exact exec_move_arms h hsh hok hread hv
  · exact exec_loop_spec h hl hc
  · exact (exec_wait_holds h hw).trans (by rw [if_pos hgo])
  · exact (exec_wait_holds h hw).trans (by rw [if_neg hgo])
  · exact exists_next_dmaWait (exec_wait_waits h hw)
  · refine (exec_waitTimeout_due h ht0 hdue hw).trans (congrArg _ ?_)
    split
    · rfl
    · next hcond => exact State.dmaInstrErr_idle (hidle.resolve_left hcond)
  · have hprog := State.exists_prog_of_dmaInstr (s := s) (n := n) (op := 3) (by simp [h])
    obtain ⟨q, hq⟩ := State.dmaInstrErr_busy (kind := 4) hbusy hprog
    exact ⟨_, q, (exec_waitTimeout_due h ht0 hdue hw).trans (by rw [if_neg hcond]), hq⟩
  · obtain ⟨t, q, hexec, hprog, hpc, -, hmem⟩ := exists_next_dmaWait (exec_signal_waits h hdrain hbusy)
    exact ⟨t, q, hexec, hprog, hpc, hmem⟩
  · exact exec_signal_signals h hok
  · exact ⟨_, exec_end_ends h hidle, s.programEnds_spec n⟩
  · obtain ⟨t, q, hexec, hprog, hpc, -, hmem⟩ := exists_next_dmaWait (exec_end_waits h hbusy)
    exact ⟨t, q, hexec, hprog, hpc, hmem⟩
  · obtain ⟨q, hprog, hpc, -, hwait⟩ := s.exists_prog_dmaGoTo n p.next
    exact ⟨_, q, exec_nop_goesOn h, hprog, hpc, hwait⟩
  · exact (exec_dmaInstr_err hc h).trans (congrArg _ (State.dmaInstrErr_idle hidle))
  · obtain ⟨q, hq⟩ := State.dmaInstrErr_busy (kind := k) hbusy (State.exists_prog_of_dmaInstr (op := op) (by simp [h]))
    exact ⟨_, q, exec_dmaInstr_err hc h, hq⟩

end Sys2Proof.Machine
end

section
/-!
PROOFS. Frozen DMA channels (R383, R445, R447).
-/
namespace Sys2Proof.Machine

/-! ## Freezing (R383, R445) -/

/-- The end of a self-test of an agent that is no unit and no sequencer changes tickets alone (R470). -/
theorem State.endTest_mgmtOnly (s : State) {a : Nat} (ha : a < 0x40) : ∃ m, s.endTest a = { s with mgmt := m } := by
  have hfold (l : List Ticket) (u : State) : ∃ m, l.foldl (fun u t => u.readyTicket t.num 2 []) u = { u with mgmt := m } :=
    List.foldlRecOn (motive := fun v : State => ∃ m, v = { u with mgmt := m }) l _ ⟨u.mgmt, rfl⟩ fun v ⟨m, hv⟩ t _ => by
      obtain ⟨m', hm⟩ := v.readyTicket_mgmtOnly t.num 2 []
      exact ⟨m', by rw [hm, hv]⟩
  unfold State.endTest
  dsimp only
  rw [if_neg (by omega), if_neg (by omega)]
  exact hfold _ s

theorem State.directEvent_evOnly (s : State) (n i : Nat) : EvOnly s (s.directEvent n i) :=
  (EvOnly.events s _).trans (State.settleEvents_evOnly _)

/-- The bit of a frozen agent and what froze it. -/
def State.markFrozen (s : State) (n src : Nat) : State :=
  let t := s.setRegBit (Reg.FLT_FROZEN (n / 32)) (n % 32) true
  { t with faults := { t.faults with frozenBy := tput (fun _ => 0) t.faults.frozenBy n (src + 1) } }

/-- A channel is frozen: its bit is set, its buffers pass to a sequencer, STATE reads 5, and the fault's event goes to that sequencer (R445). -/
theorem State.freezeAgent_dma (s : State) {n : Nat} (hn : n < 0x40) (src : Nat) : ∃ m i,
    s.freezeAgent n src
      = ((({ s.markFrozen n src with mgmt := m } : State).rehome n (agGs i)).setRegF (Reg.DMA_STATUS n) 0 3 5).directEvent (256 + src) i := by
  obtain ⟨m, htest⟩ := (s.markFrozen n src).endTest_mgmtOnly hn
  refine ⟨m, (((s.markFrozen n src).endTest n).dmaCh n).armedBy, ?_⟩
  unfold State.freezeAgent
  dsimp only
  rw [if_neg (by omega), if_pos hn, ← htest]
  rfl

/-- FLT_FROZEN is none of the registers of events. -/
theorem EvOnly.frozen {s t : State} (h : EvOnly s t) {n : Nat} (hn : n < 256) : t.frozen n = s.frozen n := by
  rw [State.frozen, State.regBit, h.reg, State.frozen, State.regBit]
  simp only [evRegs, Reg.INT_MERGED, Reg.INT_BYPASS, Reg.INT_REROUTED, Reg.FLT_FROZEN, List.mem_cons, List.not_mem_nil, or_false]
  omega

theorem State.frozen_freezeAgent (s : State) {n : Nat} (hn : n < 0x40) (src : Nat) : (s.freezeAgent n src).frozen n = true := by
  obtain ⟨m, i, h⟩ := s.freezeAgent_dma hn src
  rw [h, (State.directEvent_evOnly _ _ _).frozen (by omega)]
  refine (State.frozen_setReg_dmaStatus _ n _).trans ?_
  exact State.regBit_setRegBit_same s _ _ true (Nat.mod_lt _ (by decide))

theorem State.regF_freezeAgent_state (s : State) {n : Nat} (hn : n < 0x40) (src : Nat) : (s.freezeAgent n src).regF (Reg.DMA_STATUS n) 0 3 = 5 := by
  obtain ⟨m, i, h⟩ := s.freezeAgent_dma hn src
  rw [h, State.regF, (State.directEvent_evOnly _ _ _).reg]
  · exact State.regF_setRegF_same _ _ _ _ _ (by decide)
  · simp only [evRegs, Reg.INT_MERGED, Reg.INT_BYPASS, Reg.INT_REROUTED, Reg.DMA_STATUS, List.mem_cons, List.not_mem_nil, or_false]
    omega

theorem execDmaBurst_frozen {n : Fin 64} {line : Bool} {errs : List (Nat × List SymErr)} {s : State} (h : s.frozen (agDma n) = true) :
    execDmaBurst n line errs s = .next s := by simp [execDmaBurst, h]

theorem execDmaBurst_idle {n : Fin 64} {line : Bool} {errs : List (Nat × List SymErr)} {s : State} (h : (s.dmaCh n).active = false) :
    execDmaBurst n line errs s = .next s := by simp [execDmaBurst, h]

/-! ## Unfreezing (R383, R447) -/

/-- FLT_GLOBAL brought in line with the state, as the first part of `syncState`. -/
def State.showFaultState (s : State) : State :=
  let t := (s.setRegF Reg.FLT_GLOBAL 0 2 s.fltState).setRegBit Reg.FLT_GLOBAL 3 s.faultPinNow
  { t with faults := { t.faults with faultPin := s.faultPinNow } }

theorem State.showFaultState_regsBut (s : State) : RegsBut s s.showFaultState [Reg.FLT_GLOBAL] :=
  RegsBut.regs_eq (((RegsBut.refl s _).setRegF Reg.FLT_GLOBAL 0 2 s.fltState (by simp)).setRegBit Reg.FLT_GLOBAL 3 s.faultPinNow (by simp)) rfl

theorem State.syncState_regsBut (s : State) : RegsBut s s.syncState [Reg.FLT_GLOBAL, Reg.GLB_STATE] := by
  have hstate : RegsBut s (s.showFaultState.setRegF Reg.GLB_STATE 0 3 s.deviceState) [Reg.FLT_GLOBAL, Reg.GLB_STATE] :=
    (s.showFaultState_regsBut.mono (by simp)).setRegF _ _ _ _ (by simp)
  unfold State.syncState
  dsimp only
  split
  · exact hstate
  · exact hstate.setRegBit Reg.GLB_STATE 8 true (by simp)

@[simp] theorem State.syncState_dma (s : State) : s.syncState.dma = s.dma :=
  (State.syncState_good (s.good_self (· ∈ [.regs, .faults])) (by simp) (by simp)).same .dma (by simp)

@[simp] theorem State.dmaCh_syncState (s : State) (n : Nat) : s.syncState.dmaCh n = s.dmaCh n := by
  rw [State.dmaCh, State.syncState_dma, State.dmaCh]

/-- A channel that returns from a freeze is in STATE 4 with ERR_KIND 0. -/
def State.thawed (s : State) (n : Nat) : State :=
  ((s.setRegBit (Reg.FLT_FROZEN (n / 32)) (n % 32) false).setDmaCh n (s.dmaCh n).halted).setRegF (Reg.DMA_STATUS n) 8 3 0

theorem State.thaw_dma (s : State) {n : Nat} (hn : n < 0x40) : s.thaw n = (s.thawed n).showDma n := by
  unfold State.thaw
  dsimp only
  rw [if_neg (by omega), if_neg (by omega), if_pos hn]
  rfl

/-- FLT_UNFREEZE of an agent that a source froze which is no longer latched. -/
theorem State.unfreeze_returns {s : State} {n src : Nat} (hf : s.frozen n = true) (hby : tget (fun _ => 0) s.faults.frozenBy n = src + 1)
    (hclear : s.latched src = false) : s.unfreeze n 0x0F0F = (s.thaw n).syncState := by
  unfold State.unfreeze
  exact if_neg (by simp [hf, hby, hclear])

section Thawed
variable (s : State) (n : Nat)

theorem State.dmaCh_thawed : ((s.thawed n).showDma n).dmaCh n = (s.dmaCh n).halted := by
  simp [State.thawed]

theorem State.frozen_thawed : (s.thawed n).frozen (agDma n) = false :=
  (State.frozen_setReg_dmaStatus _ n _).trans (State.regBit_setRegBit_same s _ _ false (Nat.mod_lt _ (by decide)))

/-- What a channel shows goes on to freeze nobody. -/
theorem State.frozen_showDma : (s.showDma n).frozen (agDma n) = s.frozen (agDma n) := by
  rw [State.frozen, State.regBit, s.showDma_regsBut n, State.frozen, State.regBit]
  simp only [ctr, agDma, Reg.FLT_FROZEN, Reg.DMA_STATUS, Reg.DMA_PC, List.mem_cons, List.not_mem_nil, or_false]
  omega

theorem State.regF_syncState_dmaStatus (t : State) (lo w : Nat) : t.syncState.regF (Reg.DMA_STATUS n) lo w = t.regF (Reg.DMA_STATUS n) lo w := by
  rw [State.regF, t.syncState_regsBut, State.regF]
  simp only [Reg.FLT_GLOBAL, Reg.GLB_STATE, Reg.DMA_STATUS, List.mem_cons, List.not_mem_nil, or_false]
  omega

theorem State.frozen_syncState {n : Nat} (t : State) (hn : n < 256) : t.syncState.frozen n = t.frozen n := by
  rw [State.frozen, State.regBit, t.syncState_regsBut, State.frozen, State.regBit]
  simp only [Reg.FLT_GLOBAL, Reg.GLB_STATE, Reg.FLT_FROZEN, List.mem_cons, List.not_mem_nil, or_false]
  omega

variable {n} (hn : n < 0x40)
include hn

/-- What a channel is after a freeze: no longer frozen, in STATE 4 with ERR_KIND 0. -/
theorem State.thaw_syncState_spec : (s.thaw n).syncState.frozen n = false ∧ (s.thaw n).syncState.regF (Reg.DMA_STATUS n) 0 3 = 4
    ∧ (s.thaw n).syncState.regF (Reg.DMA_STATUS n) 8 3 = 0 ∧ (s.thaw n).syncState.dmaCh n = (s.dmaCh n).halted := by
  have hch := s.dmaCh_thawed n
  rw [State.frozen_syncState _ (by omega), State.regF_syncState_dmaStatus, State.regF_syncState_dmaStatus, State.dmaCh_syncState, s.thaw_dma hn, hch]
  refine ⟨(State.frozen_showDma _ n).trans (s.frozen_thawed n), ?_, ?_, rfl⟩
  · refine State.regF_showDma_stopped _ n (s.frozen_thawed n) ?_
    rw [← State.dmaCh_showDma, hch]
    rfl
  · rw [State.regF_showDma_high _ n (by decide)]
    exact State.regF_setRegF_same _ _ _ _ _ (by decide)

end Thawed

/-- An armed set does not load into a channel in STATE 4 (R382, R383). -/
theorem State.active_dmaArm_stopped {s : State} {n : Nat} (seq : Nat) (hst : (s.dmaCh n).stopped = true) :
    ((s.dmaArm n seq).dmaCh n).active = (s.dmaCh n).active := by
  cases hpow : s.power.failing with
  | true => rw [State.dmaArm_failing hpow]
  | false => rw [State.dmaArm_busy hpow (.inr hst), State.dmaCh_showDma, State.dmaCh_armed]

/-- Settles O45: a channel's freeze and its return, and that STATE 4 neither bursts nor loads. -/
theorem frozenChannelStopsUntilClear : Obligations.FrozenChannelStopsUntilClear := by
  intro n s src line errs seq
  refine ⟨execDmaBurst_frozen, ⟨s.frozen_freezeAgent n.isLt src, s.regF_freezeAgent_state n.isLt src⟩, fun hf hby hclear => ?_⟩
  obtain ⟨hthawed, hstate, hkind, hch⟩ := s.thaw_syncState_spec n.isLt
  have hexec : exec (.fltUnfreeze (BitVec.ofNat 8 n) 0x0F0F#16) s = .next (s.thaw n).syncState := by
    have hagent : (BitVec.ofNat 8 n).toNat = n := by
      rw [BitVec.toNat_ofNat]
      omega
    rw [exec_fltUnfreeze, execFltUnfreeze, hagent]
    exact congrArg _ (State.unfreeze_returns hf hby hclear)
  have hidle : ((s.thaw n).syncState.dmaCh n).active = false := by
    rw [hch]
    rfl
  exact ⟨_, hexec, hthawed, hstate, hkind, hidle, execDmaBurst_idle hidle, _, rfl, (State.active_dmaArm_stopped seq (by rw [hch]; rfl)).trans hidle⟩

end Sys2Proof.Machine
end

section
/-!
PROOFS. Double frees (R369).
-/
namespace Sys2Proof.Machine

/-! ## What the felt manager records (R369, R371) -/

/-- The last-event record of a double free, before it counts. -/
def State.recordDoubleFree (s : State) (h agent : Nat) (give : Bool) : State :=
  (s.setReg Reg.FP_LAST_HANDLE (BitVec.ofNat 32 h)).setReg Reg.FP_LAST_INFO (BitVec.ofNat 32 (1 + agent * 2 ^ 8 + if give = true then 2 ^ 24 else 0))

/-- The counter of double frees lies below the last-event record. -/
theorem fpDoubleFree_lt (h : Nat) : Reg.FP_DOUBLE_FREE (handlePool h) + 4 < Reg.FP_LAST_HANDLE := by
  have hpool : handlePool h < 8 := Nat.mod_lt _ (by decide)
  simp only [Reg.FP_DOUBLE_FREE, Reg.FP_LAST_HANDLE]
  omega

/-- What a double free of a buffer leaves, before its source is raised: the pools as they were, the count and the last-event record. -/
def DoubleFreed (s u : State) (h agent : Nat) (give : Bool) : Prop :=
  u.pools = s.pools ∧ Counted s u (Reg.FP_DOUBLE_FREE (handlePool h)) 1 ∧ u.reg Reg.FP_LAST_HANDLE = BitVec.ofNat 32 h
    ∧ u.reg Reg.FP_LAST_INFO = BitVec.ofNat 32 (1 + agent * 2 ^ 8 + if give = true then 2 ^ 24 else 0)
    ∧ RegsBut s u (Reg.FP_LAST_HANDLE :: Reg.FP_LAST_INFO :: ctr (Reg.FP_DOUBLE_FREE (handlePool h)))

section DoubleFree
variable (s : State) (h agent : Nat) (give : Bool)

theorem State.feltLast_double : s.feltLast h 1 agent 0 give = (s.recordDoubleFree h agent give).bump (Reg.FP_DOUBLE_FREE (handlePool h)) := by
  simp only [State.feltLast, State.recordDoubleFree, if_true, Nat.zero_mul, Nat.add_zero]

/-- A double free is counted and recorded, and leaves the pools and the other registers alone. -/
theorem State.feltLast_doubleFreed : DoubleFreed s (s.feltLast h 1 agent 0 give) h agent give := by
  have hlt := fpDoubleFree_lt h
  have hinfo : Reg.FP_LAST_INFO = Reg.FP_LAST_HANDLE + 4 := rfl
  have hrec : RegsBut s (s.recordDoubleFree h agent give) [Reg.FP_LAST_HANDLE, Reg.FP_LAST_INFO] :=
    ((RegsBut.refl s _).setReg _ _ (by simp)).setReg _ _ (by simp)
  rw [State.feltLast_double]
  refine ⟨rfl, Counted.bump_of_regsBut hrec ?_ ?_, ?_, ?_, (hrec.mono (by simp)).bump _ (by simp [ctr]) (by simp [ctr])⟩
  · simp only [hinfo, List.mem_cons, List.not_mem_nil, or_false]
    omega
  · simp only [hinfo, List.mem_cons, List.not_mem_nil, or_false]
    omega
  · rw [State.reg_bump_other _ _ _ (by omega) (by omega), State.recordDoubleFree, State.reg_setReg_other _ _ _ _ (by decide), State.reg_setReg_same]
  · rw [State.reg_bump_other _ _ _ (by omega) (by omega), State.recordDoubleFree, State.reg_setReg_same]

end DoubleFree

/-- A FREE or GIVE of a free buffer is refused as a double free. -/
theorem State.freeOrGive_double {s : State} {h : Nat} (hb : s.badHandle h = false) (ho : s.ownerOf h = none) (agent : Nat) (give : Option Nat) :
    s.freeOrGive agent h give = (.bad 1 0, s.feltLast h 1 agent 0 give.isSome) := by
  simp [State.freeOrGive, hb, ho]

/-- A change beside the registers and the pools. -/
theorem DoubleFreed.of_eq {s t u : State} {h agent : Nat} {give : Bool} (hd : DoubleFreed s t h agent give) (hregs : u.regs = t.regs)
    (hpools : u.pools = t.pools) : DoubleFreed s u h agent give := by
  obtain ⟨hp, hcount, hhandle, hinfo, hbut⟩ := hd
  have hreg (a : Nat) : u.reg a = t.reg a := by rw [State.reg, hregs, State.reg]
  exact ⟨hpools.trans hp, (State.pair_congr _ _ _ (hreg _) (hreg _)).trans hcount, (hreg _).trans hhandle, (hreg _).trans hinfo, hbut.regs_eq hregs⟩

section Refused
variable {s : State} {h : Nat} (hb : s.badHandle h = false) (ho : s.ownerOf h = none)
include hb ho

/-- A double free by an agent. -/
theorem State.feltOp_double (agent : Nat) (give : Option Nat) : ∃ u, (s.feltOp agent h give).2
      = u.raiseFault { src := 155, agent := agent, d0 := h, d1 := (u.reg Reg.FP_LAST_INFO).toNat } ∧ DoubleFreed s u h agent give.isSome :=
  ⟨_, by simp only [State.feltOp, State.freeOrGive_double hb ho, if_true], s.feltLast_doubleFreed h agent give.isSome⟩

/-- A double free by microcode: the XOP fails, and then the source is raised. -/
theorem State.feltXop_double {i : Nat} {m : MicroWord} (hh : ((s.seq i).r m.ra).toNat % 2 ^ 32 = h) (give : Option Nat) : ∃ u, s.feltXop i m give
      = u.raiseFault { src := 155, agent := agGs i, d0 := h, d1 := (u.reg Reg.FP_LAST_INFO).toNat } ∧ (u.seq i).err = true
      ∧ DoubleFreed s u h (agGs i) give.isSome := by
  refine ⟨(s.feltLast h 1 (agGs i) 0 give.isSome).xopDone i m true, ?_, State.err_xopDone _ _ _ _,
    (s.feltLast_doubleFreed h (agGs i) give.isSome).of_eq (State.xopDone_regs _ _ _ _) (State.xopDone_pools _ _ _ _)⟩
  simp only [State.feltXop, hh, State.freeOrGive_double hb ho, if_true, State.reg, State.xopDone_regs]

end Refused

section Serve
variable {s : State} {b : FeltBy} (hf : s.frozen (feltAgent b) = false)
include hf

theorem State.serveFelt_free : s.serveFelt (.free b) = s.serveFree b := by simp only [State.serveFelt, hf, Bool.false_eq_true, if_false]

theorem State.serveFelt_give : s.serveFelt (.give b) = s.serveGive b := by simp only [State.serveFelt, hf, Bool.false_eq_true, if_false]

end Serve

/-- Settles O34: FREE and GIVE, by an agent and by microcode, come to the one record of a double free. -/
theorem doubleFreeIsIgnoredAndRaised : Obligations.DoubleFreeIsIgnoredAndRaised := by
  intro s a i m h dst x give b c q hb ho _ hop hf
  refine ⟨fun hal => ?_, fun hagent => ?_, fun hxop hready hh => ?_⟩
  · obtain ⟨_, rfl, rfl⟩ | ⟨_, rfl, rfl⟩ := hop <;> exact congrArg _ (State.feltRequest_of_feltAlone hal _)
  · subst hagent
    obtain ⟨rfl, rfl, rfl⟩ | ⟨rfl, rfl, rfl⟩ := hop
    · rw [State.serveFelt_free hf]
      exact State.feltOp_double hb ho a none
    · rw [State.serveFelt_give hf]
      exact State.feltOp_double hb ho a (some dst)
  · subst hxop
    obtain ⟨rfl, rfl, rfl⟩ | ⟨rfl, rfl, rfl⟩ := hop
    · have hm : s.feltReady i 1 = some m := hready
      obtain ⟨u, hu, herr, hpools, hrest⟩ := State.feltXop_double hb ho hh none
      rw [State.serveFelt_free hf, State.serveFree, hm]
      exact ⟨u, hu, hpools, herr, hrest⟩
    · have hm : s.feltReady i 2 = some m := hready
      obtain ⟨u, hu, herr, hpools, hrest⟩ := State.feltXop_double hb ho hh (some (((s.seq i).r m.rb).toNat % 256))
      rw [State.serveFelt_give hf, State.serveGive, hm]
      exact ⟨u, hu, hpools, herr, hrest⟩

end Sys2Proof.Machine
end

section
/-!
PROOFS. The register banks of a sequencer (R390), what a write to one leaves alone, and the address at which a sequencer goes on (R391).
-/
namespace Sys2Proof.Machine

/-! ## Registers (R390) -/

section Banks
variable (q : SeqSt) (k : Nat) (v : DWord)

theorem SeqSt.r_zero : q.r 0 = 0#64 := if_pos rfl

theorem SeqSt.w_zero : q.w 0 v = q := if_pos rfl

/-- In the fast bank a write leaves the normal one, and the other way about. -/
theorem SeqSt.bankN_w_inFast (h : q.inFast = true) : (q.w k v).bankN = q.bankN := by
  by_cases hk : k = 0 <;> simp only [SeqSt.w, hk, h, if_true, if_false]

theorem SeqSt.bankF_w_normal (h : q.inFast = false) : (q.w k v).bankF = q.bankF := by
  by_cases hk : k = 0 <;> simp only [SeqSt.w, hk, h, Bool.false_eq_true, if_true, if_false]

/-- What does not read the banks is the same after a write. -/
theorem SeqSt.w_congr {α : Type} (f : SeqSt → α) (hf : ∀ n b, f { q with bankN := n, bankF := b } = f q) : f (q.w k v) = f q := by
  unfold SeqSt.w
  split
  · rfl
  · split
    · exact hf q.bankN _
    · exact hf _ q.bankF

@[simp] theorem SeqSt.state_w : (q.w k v).state = q.state := q.w_congr k v _ fun _ _ => rfl
@[simp] theorem SeqSt.cp_w : (q.w k v).cp = q.cp := q.w_congr k v _ fun _ _ => rfl
@[simp] theorem SeqSt.opcode_w : (q.w k v).opcode = q.opcode := q.w_congr k v _ fun _ _ => rfl
@[simp] theorem SeqSt.zf_w : (q.w k v).zf = q.zf := q.w_congr k v _ fun _ _ => rfl
@[simp] theorem SeqSt.nf_w : (q.w k v).nf = q.nf := q.w_congr k v _ fun _ _ => rfl
@[simp] theorem SeqSt.cf_w : (q.w k v).cf = q.cf := q.w_congr k v _ fun _ _ => rfl
@[simp] theorem SeqSt.vf_w : (q.w k v).vf = q.vf := q.w_congr k v _ fun _ _ => rfl
@[simp] theorem SeqSt.err_w : (q.w k v).err = q.err := q.w_congr k v _ fun _ _ => rfl
@[simp] theorem SeqSt.queue_w : (q.w k v).queue = q.queue := q.w_congr k v _ fun _ _ => rfl

end Banks

/-- Settles O28: the laws of reading and writing a register of the bank in use. -/
theorem registerZeroReadsZero : Obligations.RegisterZeroReadsZero :=
  fun q k j v => ⟨q.r_zero, q.w_zero v, q.r_w k j v, q.bankN_w_inFast k v, q.bankF_w_normal k v⟩

/-! ## Going on (R391) -/

section Advance
variable (s : State) (i : Nat) (m : MicroWord)

@[simp] theorem State.advance_regs : (s.advance i m).regs = s.regs := rfl
@[simp] theorem State.advance_mem : (s.advance i m).mem = s.mem := rfl
@[simp] theorem State.advance_ctl_events : (s.advance i m).ctl.events = s.ctl.events := rfl

@[simp] theorem State.seq_advance_same : (s.advance i m).seq i = { s.seq i with pc := s.nextAddr i m } := State.seq_setSeq_same _ _ _

/-- The next address does not depend on the present one. -/
theorem State.nextAddr_advance : (s.advance i m).nextAddr i m = s.nextAddr i m := by
  have hcond (c : Nat) : (s.advance i m).useqCond i c = s.useqCond i c := by
    simp only [State.useqCond, State.seq_advance_same, State.advance_ctl_events]
  rw [State.nextAddr, hcond, State.seq_advance_same, State.nextAddr]
  rfl

theorem State.pc_advance : ((s.advance i m).seq i).pc = (s.advance i m).nextAddr i m := by
  rw [State.nextAddr_advance, State.seq_advance_same]

theorem State.pc_xopDone (e : Bool) : ((s.xopDone i m e).seq i).pc = (s.xopDone i m e).nextAddr i m := State.pc_advance _ i m

end Advance

end Sys2Proof.Machine
end

section
/-!
PROOFS. The end of a microword (R388, R391, R392).
-/
namespace Sys2Proof.Machine

/-! ## What the ALU leaves (R392) -/

/-- The result and the flags of a microword's operation. -/
def SeqSt.aluOut (q : SeqSt) (m : MicroWord) : AluOut := alu m.alu (q.r m.ra) (q.opB m)

/-- A sequencer after an operation with result `v`, carry `c` and overflow `o`: MOV leaves the flags, CMP writes nothing. -/
def SeqSt.computed (q : SeqSt) (m : MicroWord) (v : DWord) (c o : Bool) : SeqSt :=
  let q1 : SeqSt := if m.alu = 1 then q else { q with zf := v == 0#64, nf := v.msb, cf := c, vf := o }
  if m.we && m.alu != 8 then q1.w m.rd v else q1

section Computed
variable (q : SeqSt) (m : MicroWord) (v : DWord) (c o : Bool)

theorem SeqSt.r_computed (k : Nat) :
    (q.computed m v c o).r k = if m.we = true ∧ m.alu ≠ 8 ∧ k = m.rd ∧ k ≠ 0 then v else q.r k := by
  have hflags : (if m.alu = 1 then q else { q with zf := v == 0#64, nf := v.msb, cf := c, vf := o }).r k = q.r k := by
    split <;> rfl
  by_cases hw : m.we = true ∧ m.alu ≠ 8
  · have hand : (m.we && m.alu != 8) = true := by simpa using hw
    simp only [SeqSt.computed, hand, if_true, SeqSt.r_w, hflags]
    refine if_congr ?_ rfl rfl
    constructor
    · rintro ⟨rfl, h0⟩
      exact ⟨hw.1, hw.2, rfl, h0⟩
    · rintro ⟨-, -, rfl, h0⟩
      exact ⟨rfl, h0⟩
  · have hand : (m.we && m.alu != 8) = false := by simpa using hw
    rw [if_neg fun h => hw ⟨h.1, h.2.1⟩, SeqSt.computed, hand]
    exact hflags

/-- MOV leaves the flags. -/
theorem SeqSt.flags_computed_mov (h : m.alu = 1) :
    (q.computed m v c o).zf = q.zf ∧ (q.computed m v c o).nf = q.nf ∧ (q.computed m v c o).cf = q.cf ∧ (q.computed m v c o).vf = q.vf := by
  simp only [SeqSt.computed, h, if_true]
  split <;> simp

/-- Every other operation sets the flags. -/
theorem SeqSt.flags_computed (h : m.alu ≠ 1) :
    (q.computed m v c o).zf = (v == 0#64) ∧ (q.computed m v c o).nf = v.msb ∧ (q.computed m v c o).cf = c ∧ (q.computed m v c o).vf = o := by
  simp only [SeqSt.computed, h, if_false]
  split <;> simp

end Computed

/-! ## MICROWORD_STEP -/

/-- The state once the read of a microword has counted (R388). -/
def State.readCounted (s : State) (i : Nat) (rd : StoreRead) : State := if rd = .corrected then s.bump (Reg.SEQ_CS_CORR i) else s

section ReadCounted
variable (s : State) (i : Nat) (rd : StoreRead)

/-- The count changes registers alone, those of SEQ_CS_CORR. -/
theorem State.readCounted_spec : ∃ r, s.readCounted i rd = { s with regs := r } ∧ RegsBut s (s.readCounted i rd) (ctr (Reg.SEQ_CS_CORR i))
    ∧ (rd = .corrected → Counted s (s.readCounted i rd) (Reg.SEQ_CS_CORR i) 1) := by
  unfold State.readCounted
  split
  · exact ⟨_, rfl, RegsBut.of_bump rfl, fun _ => Counted.of_bump rfl⟩
  · exact ⟨s.regs, rfl, RegsBut.refl s _, fun h => absurd h ‹_›⟩

end ReadCounted

/-- A flag that is stated is that flag, and one that is not takes a free value, if any (log entry 2). -/
theorem flag_stated_or_free {s u : State} {n : Nat} (hu : u = { s with freeCtr := n }) {o : Option Bool} {x : Bool × State}
    (hsome : ∀ b, o = some b → x = (b, u)) (hnone : o = none → x = ((u.fresh 1).1 == 1, (u.fresh 1).2)) :
    (∀ b, o = some b → x.1 = b) ∧ ∃ n, x.2 = { s with freeCtr := n } := by
  subst hu
  cases o with
  | some b =>
    rw [hsome b rfl]
    exact ⟨fun _ h => Option.some.inj h, _, rfl⟩
  | none =>
    rw [hnone rfl]
    exact ⟨by simp, _, rfl⟩

section Microword
variable {s : State} {i : Fin 8} {m : MicroWord} {rd : StoreRead} (hm : s.ready i (s.uword i).xop = some m)
include hm

theorem exec_microwordStep_bad : exec (.microwordStep i .bad) s = .next (s.haltSeq i) := by
  simp only [exec_microwordStep, execMicrowordStep, hm, if_true]

variable (hrd : rd ≠ .bad)
include hrd

theorem exec_microwordStep_xop (hx : m.xop ≠ 0) : exec (.microwordStep i rd) s = .next (s.readCounted i rd) := by
  simp only [exec_microwordStep, execMicrowordStep, hm, hrd, hx, ne_eq, not_false_eq_true, if_true, if_false, State.readCounted]

variable (hx : m.xop = 0)
include hx

theorem exec_microwordStep_noAlu (ha : m.alu = 0) : exec (.microwordStep i rd) s = .next ((s.readCounted i rd).advance i m) := by
  simp only [exec_microwordStep, execMicrowordStep, hm, hrd, hx, ha, ne_eq, not_true, if_true, if_false, State.readCounted]

/-- An operation: its result and then its flags are stated or free (log entry 2), and the sequencer goes on with them. -/
theorem exec_microwordStep_alu (ha : m.alu ≠ 0) {v : DWord}
    (hv : ((s.seq i).aluOut m).val = some v
      ∨ (((s.seq i).aluOut m).val = none ∧ v = BitVec.ofNat 64 (Config.freeValue s.freeCtr % 2 ^ 64))) :
    ∃ n c o, exec (.microwordStep i rd) s
        = .next ((({ s.readCounted i rd with freeCtr := n } : State).setSeq i ((s.seq i).computed m v c o)).advance i m)
      ∧ (∀ b, ((s.seq i).aluOut m).carry = some b → c = b) ∧ (∀ b, ((s.seq i).aluOut m).ovf = some b → o = b) := by
  obtain ⟨r, hr, -, -⟩ := s.readCounted_spec i rd
  rw [exec_microwordStep]
  generalize hexec : execMicrowordStep i rd s = answer
  rw [execMicrowordStep, hm] at hexec
  simp -zeta only [hrd, hx, ha, ne_eq, not_true, if_false] at hexec
  rw [← State.readCounted] at hexec
  extract_lets s0 q out freeV val freeC carry freeO ovf moves s1 q1 q2 q3 at hexec
  have hseq (n : Nat) : ({ s0 with freeCtr := n } : State).seq i = s.seq i := by
    simp only [s0, hr]
    rfl
  have hout : out = (s.seq i).aluOut m := by
    simp only [out, q, SeqSt.aluOut, ← hseq s0.freeCtr]
  rw [← hout] at hv ⊢
  obtain ⟨hvalue, nv, hnv⟩ : val.1 = v ∧ ∃ n, val.2 = { s0 with freeCtr := n } := by
    have hfree : s0.freeCtr = s.freeCtr := by simp only [s0, hr]
    obtain h | ⟨h, rfl⟩ := hv <;> simp only [val, h]
    · exact ⟨trivial, s0.freeCtr, rfl⟩
    · exact ⟨by rw [← hfree]; rfl, _, rfl⟩
  obtain ⟨hcf, nc, hnc⟩ := flag_stated_or_free hnv (o := out.carry) (x := carry) (fun b h => by simp only [carry, h])
    (fun h => by simp only [carry, freeC, h])
  obtain ⟨hvf, no, hno⟩ := flag_stated_or_free hnc (o := out.ovf) (x := ovf) (fun b h => by simp only [ovf, h])
    (fun h => by simp only [ovf, freeO, h])
  obtain ⟨n, hn⟩ : ∃ n, s1 = { s0 with freeCtr := n } := by
    by_cases hmov : m.alu = 1
    · exact ⟨nv, (if_pos hmov).trans hnv⟩
    · exact ⟨no, (if_neg hmov).trans hno⟩
  have hq3 : q3 = (s.seq i).computed m v carry.1 ovf.1 := by
    simp only [q3, q2, q1, hn, hseq, hvalue]
    rfl
  refine ⟨n, carry.1, ovf.1, ?_, hcf, hvf⟩
  rw [← hexec, hq3, hn]

end Microword

/-- Settles O27: a microword by the four things it can do, and an operation by the sequencer that it leaves. -/
theorem microwordsComputeAndGoOn : Obligations.MicrowordsComputeAndGoOn := by
  intro i rd s m hm
  obtain ⟨r, hr, hbut, hcount⟩ := s.readCounted_spec i rd
  refine ⟨?_, ?_, ?_, fun hrd hx ha => ?_, fun hrd hx ha v hv => ?_⟩
  · rintro rfl
    exact exec_microwordStep_bad hm
  · rintro rfl hx
    exact exec_microwordStep_xop hm (by decide) hx
  · rintro rfl hx
    exact exec_microwordStep_xop hm (by decide) hx
  · have hnext : (s.readCounted i rd).nextAddr i m = s.nextAddr i m := by rw [hr]; rfl
    have hseq : (s.readCounted i rd).seq i = s.seq i := by rw [hr]; rfl
    refine ⟨_, exec_microwordStep_noAlu hm hrd hx ha, ?_⟩
    rw [State.seq_advance_same, hseq, hnext]
    exact ⟨rfl, fun _ => rfl, rfl, rfl, rfl, rfl, hbut.regs_eq rfl⟩
  · obtain ⟨n, c, o, hexec, hc, ho⟩ := exec_microwordStep_alu hm hrd hx ha hv
    refine ⟨_, hexec, State.pc_advance _ i m, ?_⟩
    rw [State.seq_advance_same, State.seq_setSeq_same]
    refine ⟨(s.seq i).r_computed m v c o, fun h1 => ?_, (s.seq i).flags_computed_mov m v c o, fun b h1 hb => ?_, fun b h1 hb => ?_, ?_,
      hbut.regs_eq rfl, fun h => (hcount h).regsBut (RegsBut.of_regs [] rfl) (by simp) (by simp)⟩
    · obtain ⟨hz, hn, -, -⟩ := (s.seq i).flags_computed m v c o h1
      exact ⟨hz, hn⟩
    · obtain ⟨-, -, hcf, -⟩ := (s.seq i).flags_computed m v c o h1
      exact hcf.trans (hc b hb)
    · obtain ⟨-, -, -, hvf⟩ := (s.seq i).flags_computed m v c o h1
      exact hvf.trans (ho b hb)
    · simp [hr]

end Sys2Proof.Machine
end

section
/-!
PROOFS. External operations without a memory access (R393, R407).
-/
namespace Sys2Proof.Machine

/-! ## POP (R407) -/

/-- Write consecutive registers, from register k on. -/
def SeqSt.writes (q : SeqSt) (k : Nat) (ws : List Nat) : SeqSt :=
  (ws.foldl (fun (acc : SeqSt × Nat) w => (acc.1.w acc.2 (BitVec.ofNat 64 w), acc.2 + 1)) (q, k)).1

section Writes
variable (q : SeqSt) (k w : Nat) (ws : List Nat)

theorem SeqSt.writes_cons : q.writes k (w :: ws) = (q.w k (BitVec.ofNat 64 w)).writes (k + 1) ws := rfl

theorem SeqSt.queue_writes : (q.writes k ws).queue = q.queue := by
  induction ws generalizing q k with
  | nil => rfl
  | cons w ws ih => rw [SeqSt.writes_cons, ih, SeqSt.queue_w]

/-- The other registers keep what they held. -/
theorem SeqSt.r_writes_outside {j : Nat} (hj : j < k ∨ k + ws.length ≤ j) : (q.writes k ws).r j = q.r j := by
  induction ws generalizing q k with
  | nil => rfl
  | cons w ws ih =>
    rw [List.length_cons] at hj
    rw [SeqSt.writes_cons, ih _ _ (by omega), SeqSt.r_w, if_neg (by omega)]

/-- Each register written holds its word, but register 0. -/
theorem SeqSt.r_writes_inside {j : Nat} (hj : j < ws.length) (h0 : k + j ≠ 0) :
    (q.writes k ws).r (k + j) = BitVec.ofNat 64 (ws.getD j 0) := by
  induction ws generalizing q k j with
  | nil => contradiction
  | cons w ws ih =>
    rw [SeqSt.writes_cons]
    cases j with
    | zero => rw [SeqSt.r_writes_outside _ _ _ (by omega), SeqSt.r_w, if_pos ⟨rfl, h0⟩, List.getD_cons_zero]
    | succ j =>
      rw [show k + (j + 1) = k + 1 + j by omega, ih _ _ (Nat.lt_of_succ_lt_succ hj) (by omega), List.getD_cons_succ]

end Writes

/-! ## The commands -/

section Commands
variable {s : State} {i : Fin 8} {m : MicroWord}

theorem exec_pop_empty (hm : s.ready i 9 = some m) (hq : (s.seq i).queue = []) : exec (.pop i) s = .next (s.xopDone i m true) := by
  simp only [exec_pop, execPop, hm, hq]

theorem exec_pop_record (hm : s.ready i 9 = some m) {c : CRec} {l : List CRec} (hq : (s.seq i).queue = c :: l) : exec (.pop i) s
    = .next ((s.setSeq i (({ s.seq i with queue := l } : SeqSt).writes m.rd c.words)).xopDone i m false) := by
  simp only [exec_pop, execPop, hm, hq]
  rfl

theorem exec_setprio_ready (hm : s.ready i 10 = some m) :
    exec (.setprio i) s = .next ((s.setSeq i { s.seq i with cp := m.imm % 16 }).xopDone i m false).settleEvents := by
  simp only [exec_setprio, execSetprio, hm]

theorem exec_doorbell_ready (hm : s.ready i 11 = some m) : exec (.doorbell i) s = .next ((s.xopDone i m false).raiseEv (92 + m.imm % 8)) := by
  simp only [exec_doorbell, execDoorbell, hm]

theorem exec_unit_ready (hm : s.ready i 12 = some m) : exec (.unit i) s = .next (({ s with ctl :=
    { s.ctl with unitCmds := s.ctl.unitCmds ++ [(i.val, m.imm % 256, ((s.seq i).r m.ra).toNat)] } } : State).xopDone i m false) := by
  simp only [exec_unit, execUnit, hm]

theorem exec_seal_ready (hm : s.ready i 13 = some m) : exec (.seal i) s = .next (({ s with ctl :=
    { s.ctl with sealReqs := s.ctl.sealReqs ++ [(i.val, ((s.seq i).r m.ra).toNat)] } } : State).xopDone i m false) := by
  simp only [exec_seal, execSeal, hm]

end Commands

/-- POP of a record: four registers hold it, and the queue is shorter by it. -/
theorem exec_pop_spec {s : State} {i : Fin 8} {m : MicroWord} (hm : s.ready i 9 = some m) {c : CRec} {l : List CRec}
    (hq : (s.seq i).queue = c :: l) : ∃ t, exec (.pop i) s = .next t ∧ (t.seq i).err = false ∧ (t.seq i).queue = l
      ∧ (∀ k, k < 4 → m.rd + k ≠ 0 → (t.seq i).r (m.rd + k) = BitVec.ofNat 64 (c.words.getD k 0))
      ∧ (∀ k, (k < m.rd ∨ m.rd + 4 ≤ k) → (t.seq i).r k = (s.seq i).r k) ∧ t.regs = s.regs ∧ t.mem = s.mem := by
  refine ⟨_, exec_pop_record hm hq, State.err_xopDone _ _ _ _, ?_, fun k hk h0 => ?_, fun k hk => ?_, rfl, rfl⟩
  · obtain ⟨pc, h⟩ := (s.setSeq i (({ s.seq i with queue := l } : SeqSt).writes m.rd c.words)).seq_xopDone_same i m false
    rw [h, State.seq_setSeq_same]
    exact SeqSt.queue_writes _ _ _
  · rw [State.r_xopDone, State.seq_setSeq_same]
    exact SeqSt.r_writes_inside _ _ _ hk h0
  · rw [State.r_xopDone, State.seq_setSeq_same]
    exact SeqSt.r_writes_outside _ _ _ hk

/-- Settles O30: each operation by the XOP's end that it comes to. -/
theorem externalOperationsComplete : Obligations.ExternalOperationsComplete := by
  intro i s m
  refine ⟨fun hm => ⟨fun hq => ?_, fun c l => exec_pop_spec hm⟩, fun hm => ?_, fun hm => ?_, fun hm => ?_, fun hm => ?_⟩
  · exact ⟨_, exec_pop_empty hm hq, State.err_xopDone _ _ _ _, State.r_xopDone _ _ _ _, rfl⟩
  · obtain ⟨pc, h⟩ := (s.setSeq i { s.seq i with cp := m.imm % 16 }).seq_xopDone_same i m false
    rw [State.seq_setSeq_same] at h
    have hregs : RegsBut s ((s.setSeq i { s.seq i with cp := m.imm % 16 }).xopDone i m false) evRegs := RegsBut.of_regs _ rfl
    refine ⟨_, exec_setprio_ready hm, ?_, ?_, fun k => ?_, hregs.settleEvents fun _ => id⟩
    all_goals rw [State.seq_settleEvents, h]
    rfl
  · have hen : (s.xopDone i m false).evEn (92 + m.imm % 8) = s.evEn (92 + m.imm % 8) := rfl
    have hregs : RegsBut s (s.xopDone i m false) evRegs := RegsBut.of_regs _ rfl
    refine ⟨_, exec_doorbell_ready hm, ?_, fun h => State.exists_event_raiseEv (hen.trans h), fun k => ?_,
      hregs.raiseEv _ fun _ => id⟩
    · rw [State.seq_raiseEv, State.err_xopDone]
    · rw [State.seq_raiseEv, State.r_xopDone]
  · exact ⟨_, exec_unit_ready hm, rfl, State.err_xopDone _ _ _ _, State.pc_xopDone _ _ _ _, rfl⟩
  · exact ⟨_, exec_seal_ready hm, rfl, State.err_xopDone _ _ _ _, State.pc_xopDone _ _ _ _, rfl⟩

end Sys2Proof.Machine
end

section
/-!
PROOFS. Events at a sequencer: FETCH, SLEEP, its end, fast events and RETF (R393, R397 to R401).
-/
namespace Sys2Proof.Machine

/-! ## The counters that count them -/

/-- Where the counters of a sequencer lie. -/
theorem Reg.seq_le (i : Nat) : 0x40000 ≤ Reg.SEQ_ITEMS i ∧ 0x40000 ≤ Reg.SEQ_FAST i ∧ 0x40000 ≤ Reg.SEQ_SLEEPS i
    ∧ 0x40000 ≤ Reg.SEQ_SLEEP_REFUSED i ∧ 0x40000 ≤ Reg.SEQ_WAKES i := by
  unfold Reg.SEQ_ITEMS Reg.SEQ_FAST Reg.SEQ_SLEEPS Reg.SEQ_SLEEP_REFUSED Reg.SEQ_WAKES
  omega

theorem Reg.seqSleepRefused_ge (i : Nat) : Reg.SEQ_ITEMS i + 8 ≤ Reg.SEQ_SLEEP_REFUSED i ∧ Reg.SEQ_FAST i + 8 ≤ Reg.SEQ_SLEEP_REFUSED i := by
  unfold Reg.SEQ_ITEMS Reg.SEQ_FAST Reg.SEQ_SLEEP_REFUSED
  omega

/-- A register of a sequencer is none of the interrupt controller's. -/
theorem not_mem_evRegs_of_le {a : Nat} (h : 0x40000 ≤ a) : a ∉ evRegs := fun ha =>
  absurd ((by decide : ∀ b ∈ evRegs, b < 0x40000) a ha) (by omega)

theorem not_mem_ctr {a b : Nat} (h1 : b ≠ a) (h2 : b ≠ a + 4) : b ∉ ctr a := by simp [ctr, h1, h2]

theorem not_mem_ctr_intDelivered_of_le {a : Nat} (h : 0x40000 ≤ a) : a ∉ ctr Reg.INT_DELIVERED := fun ha =>
  absurd ((by decide : ∀ b ∈ ctr Reg.INT_DELIVERED, b < 0x40000) a ha) (by omega)

/-- A counter of a sequencer stands while only events and their counters change. -/
theorem Counted.evOnly {s u t : State} {a n : Nat} (h : Counted s u a n) (he : EvOnly u t) (ha : 0x40000 ≤ a) : Counted s t a n :=
  h.regsBut (he.regsBut evRegs fun _ => id) (not_mem_evRegs_of_le ha) (not_mem_evRegs_of_le (by omega))

/-- One counter of a sequencer counts, and then the events settle. -/
theorem State.settleEvents_counted {s u : State} {a : Nat} (hregs : u.regs = (s.bump a).regs) (ha : 0x40000 ≤ a) :
    Counted s u.settleEvents a 1 ∧ RegsBut s u.settleEvents (ctr a ++ evRegs) :=
  ⟨(Counted.of_bump hregs).evOnly u.settleEvents_evOnly ha, ((RegsBut.of_bump hregs).mono fun _ => List.mem_append_left _).settleEvents
    fun _ => List.mem_append_right _⟩

/-! ## An event that is taken (R397, R398) -/

/-- The event `ev` leaves the pending ones for good; `a` is the counter of the sequencer that takes it. -/
structure Taken (s t : State) (ev a : Nat) : Prop where
  events : ∀ x, x ∈ t.ctl.events → x.ev ≠ ev
  items : Counted s t a 1
  delivered : Counted s t Reg.INT_DELIVERED 1
  regs : RegsBut s t (ctr a ++ ctr Reg.INT_DELIVERED ++ evRegs)

/-- Settling keeps the sources of the pending events. -/
theorem State.ne_of_mem_settleEvents {s : State} {ev : Nat} (h : ∀ x, x ∈ s.ctl.events → x.ev ≠ ev) {x : PendEv}
    (hx : x ∈ s.settleEvents.ctl.events) : x.ev ≠ ev := by
  have hmem : x.ev ∈ s.ctl.events.map (·.ev) := s.settleEvents_eventsKept.map_ev ▸ List.mem_map_of_mem hx
  obtain ⟨y, hy, hev⟩ := List.mem_map.mp hmem
  exact hev ▸ h y hy

theorem State.settleEvents_taken {s u : State} {ev a : Nat} (hregs : u.regs = ((s.takeEvent ev).bump a).regs)
    (hevents : u.ctl.events = (s.takeEvent ev).ctl.events) (ha : 0x40000 ≤ a) : Taken s u.settleEvents ev a := by
  have hdelivered : RegsBut s (s.takeEvent ev) (ctr Reg.INT_DELIVERED) := RegsBut.of_bump rfl
  have hcount : Counted s (s.takeEvent ev) Reg.INT_DELIVERED 1 := Counted.of_bump rfl
  obtain ⟨hitems, hbut⟩ := State.settleEvents_counted hregs ha
  have hlow : Reg.INT_DELIVERED + 4 < 0x40000 := by decide
  refine ⟨fun x => State.ne_of_mem_settleEvents fun y hy => ?_, ?_, hcount.regsBut hbut ?_ ?_, ?_⟩
  · rw [hevents] at hy
    simpa using (List.mem_filter.mp hy).2
  · exact hdelivered.counted (not_mem_ctr_intDelivered_of_le ha) (not_mem_ctr_intDelivered_of_le (by omega)) hitems
  · exact fun h => (List.mem_append.mp h).elim (not_mem_ctr (by omega) (by omega)) (by decide)
  · exact fun h => (List.mem_append.mp h).elim (not_mem_ctr (by omega) (by omega)) (by decide)
  · refine (hdelivered.mono fun b hb => ?_).trans (hbut.mono fun b hb => ?_)
    · simp [hb]
    · simp only [List.mem_append] at hb ⊢
      tauto

/-- The counters of a sequencer above the one that counts the event stand. -/
theorem Taken.counted_above {s u t : State} {ev a b n : Nat} (htaken : Taken u t ev a) (h : Counted s u b n) (hb : 0x40000 ≤ b)
    (hab : a + 8 ≤ b) : Counted s t b n := by
  refine h.regsBut htaken.regs ?_ ?_ <;> simp only [List.mem_append, not_or]
  · exact ⟨⟨not_mem_ctr (by omega) (by omega), not_mem_ctr_intDelivered_of_le hb⟩, not_mem_evRegs_of_le hb⟩
  · exact ⟨⟨not_mem_ctr (by omega) (by omega), not_mem_ctr_intDelivered_of_le (by omega)⟩, not_mem_evRegs_of_le (by omega)⟩

section Accept
variable (s : State) (i : Fin 8) (m : MicroWord) (ev : Nat)

/-- A sequencer that a normal event has been given to. -/
def SeqSt.given (q : SeqSt) (ev prio opcode : Nat) : SeqSt :=
  (({ q with state := .running, cp := prio, opcode, event := ev, item := some ev, err := false } : SeqSt).w 1 (BitVec.ofNat 64 ev)).w 2
    (BitVec.ofNat 64 opcode)

theorem SeqSt.r_given (q : SeqSt) (prio opcode : Nat) : (q.given ev prio opcode).r 1 = BitVec.ofNat 64 ev
    ∧ (q.given ev prio opcode).r 2 = BitVec.ofNat 64 opcode
    ∧ ∀ k, k ≠ 1 → k ≠ 2 → k ≠ 0 → (q.given ev prio opcode).r k = tget (fun _ => 0#64) q.bankN k := by
  refine ⟨by simp [SeqSt.given, SeqSt.r_w], by simp [SeqSt.given, SeqSt.r_w], fun k h1 h2 h0 => ?_⟩
  rw [SeqSt.given, SeqSt.r_w, if_neg (fun h => h2 h.1), SeqSt.r_w, if_neg (fun h => h1 h.1)]
  exact if_neg h0

theorem SeqSt.given_fields (q : SeqSt) (prio opcode : Nat) : (q.given ev prio opcode).state = .running ∧ (q.given ev prio opcode).cp = prio
    ∧ (q.given ev prio opcode).opcode = opcode ∧ (q.given ev prio opcode).err = false := by
  simp [SeqSt.given]

theorem State.seq_acceptNormal : ∃ pc, (s.acceptNormal i m ev).seq i = { (s.seq i).given ev (s.evPrio ev) (s.evOpcode ev) with pc := pc } := by
  refine ⟨((s.acceptNormal i m ev).seq i).pc, ?_⟩
  rw [State.acceptNormal, State.seq_settleEvents, State.seq_advance_same, State.seq_setSeq_same]
  rfl

theorem State.acceptNormal_taken : Taken s (s.acceptNormal i m ev) ev (Reg.SEQ_ITEMS i) := by
  obtain ⟨hle, -⟩ := Reg.seq_le i
  exact State.settleEvents_taken rfl rfl hle

theorem State.acceptFast_taken : Taken s (s.acceptFast i ev) ev (Reg.SEQ_FAST i) := by
  obtain ⟨-, hle, -⟩ := Reg.seq_le i
  exact State.settleEvents_taken rfl rfl hle

/-- A fast event leaves the banks, and keeps what RETF goes back to. -/
theorem State.seq_acceptFast : (s.acceptFast i ev).seq i = { s.seq i with
    state := .fast, fastRet := (s.seq i).pc, fastCp := (s.seq i).cp, fastOpcode := (s.seq i).opcode, fastState := (s.seq i).state
    fastItem := some ev, cp := s.evPrio ev, opcode := s.evOpcode ev, event := ev
    pc := tget (fun _ => 0) s.ctl.store.disp (s.evOpcode ev) } := by
  rw [State.acceptFast, State.seq_settleEvents, State.seq_setSeq_same]
  rfl

end Accept

/-! ## FETCH (R393, R397) -/

/-- The state with the sequencer waiting in a FETCH. -/
abbrev State.asIdle (s : State) (i : Nat) : State := s.setSeq i { s.seq i with state := .idle, item := none }

section Commands
variable {s : State} {i : Fin 8} {m : MicroWord} {e : PendEv}

/-- A sequencer at a FETCH in the normal bank, or waiting in one. -/
def State.atFetch (s : State) (i : Nat) (m : MicroWord) : Prop :=
  (s.ready i 1 = some m ∧ (s.seq i).state = .running) ∨ ((s.seq i).state = .idle ∧ s.fastDue i = none ∧ m = s.uword i)

theorem exec_fetch_event (h : s.atFetch i m) (he : s.fetchable i = some e) : exec (.fetch i) s = .next (s.acceptNormal i m e.ev) := by
  obtain ⟨hm, hrun⟩ | ⟨hidle, hdue, rfl⟩ := h
  · simp [execFetch, hm, hrun, he, SeqSt.inFast]
  · simp [execFetch, hidle, hdue, he]

theorem exec_fetch_none (h : s.ready i 1 = some m) (hrun : (s.seq i).state = .running) (he : s.fetchable i = none) :
    exec (.fetch i) s = .next (s.asIdle i).settleEvents := by
  simp [execFetch, h, hrun, he, SeqSt.inFast]

theorem exec_fetch_fast (h : s.ready i 1 = some m) (hfast : (s.seq i).state = .fast) : exec (.fetch i) s = .next (s.haltSeq i) := by
  simp [execFetch, h, hfast, SeqSt.inFast]

theorem exec_fetch_takes (h : s.atFetch i m) (he : s.fetchable i = some e) : ∃ t, exec (.fetch i) s = .next t
    ∧ (t.seq i).state = .running ∧ (t.seq i).r 1 = BitVec.ofNat 64 e.ev ∧ (t.seq i).r 2 = BitVec.ofNat 64 (s.evOpcode e.ev)
    ∧ (t.seq i).cp = s.evPrio e.ev ∧ (t.seq i).opcode = s.evOpcode e.ev ∧ (t.seq i).err = false
    ∧ (∀ k, k ≠ 1 → k ≠ 2 → k ≠ 0 → (t.seq i).r k = tget (fun _ => 0#64) (s.seq i).bankN k)
    ∧ (∀ x, x ∈ t.ctl.events → x.ev ≠ e.ev) ∧ Counted s t (Reg.SEQ_ITEMS i) 1 ∧ Counted s t Reg.INT_DELIVERED 1
    ∧ RegsBut s t (ctr (Reg.SEQ_ITEMS i) ++ ctr Reg.INT_DELIVERED ++ evRegs) := by
  obtain ⟨pc, hseq⟩ := s.seq_acceptNormal i m e.ev
  obtain ⟨hstate, hcp, hopcode, herr⟩ := (s.seq i).given_fields e.ev (s.evPrio e.ev) (s.evOpcode e.ev)
  obtain ⟨hr1, hr2, hr⟩ := (s.seq i).r_given e.ev (s.evPrio e.ev) (s.evOpcode e.ev)
  obtain ⟨hevents, hitems, hdelivered, hregs⟩ := s.acceptNormal_taken i m e.ev
  refine ⟨_, exec_fetch_event h he, ?_⟩
  rw [hseq]
  exact ⟨hstate, hr1, hr2, hcp, hopcode, herr, hr, hevents, hitems, hdelivered, hregs⟩

/-! ## SLEEP and its end (R399, R401) -/

theorem exec_sleep_fast (h : s.ready i 2 = some m) (hfast : (s.seq i).state = .fast) : exec (.sleep i) s = .next (s.haltSeq i) := by
  simp [execSleep, h, hfast, SeqSt.inFast]

theorem exec_sleep_sleeps (h : s.ready i 2 = some m) (hrun : (s.seq i).state = .running)
    (hnone : s.ctl.events.filter (fun x => (s.asIdle i).eligible i x.ev) = []) : exec (.sleep i) s
      = .next ((s.setSeq i { s.seq i with state := .sleeping, item := none }).bump (Reg.SEQ_SLEEPS i)).settleEvents := by
  simp [execSleep, h, hrun, SeqSt.inFast, hnone]

/-- A refused SLEEP counts, releases what it could take, and takes the first of it. -/
theorem exec_sleep_refused (h : s.ready i 2 = some m) (hrun : (s.seq i).state = .running)
    (hsome : s.ctl.events.filter (fun x => (s.asIdle i).eligible i x.ev) ≠ []) :
    ∃ u t, exec (.sleep i) s = .next t ∧ EvOnly ((s.asIdle i).bump (Reg.SEQ_SLEEP_REFUSED i)) u
      ∧ ((∃ ev, t = u.acceptFast i ev) ∨ (∃ ev, t = u.acceptNormal i m ev) ∨ t = u.settleEvents) := by
  obtain ⟨x, l, hl⟩ := List.exists_cons_of_ne_nil hsome
  simp only [exec_sleep, execSleep, h, SeqSt.inFast, hrun, hl, beq_iff_eq, reduceCtorEq, if_false]
  generalize hu : (x :: l).foldl (fun t y => if y.held then t.releaseGroup (t.evGroup y.ev) else t)
    ((s.asIdle i).bump (Reg.SEQ_SLEEP_REFUSED i)) = u
  have hreleased : EvOnly ((s.asIdle i).bump (Reg.SEQ_SLEEP_REFUSED i)) u := hu ▸ EvOnly.foldl _ _ fun t y => by
    split
    · exact t.releaseGroup_evOnly _
    · exact EvOnly.refl t
  refine ⟨u, ?_⟩
  split
  · split
    · exact ⟨_, rfl, hreleased, .inl ⟨_, rfl⟩⟩
    · exact ⟨_, rfl, hreleased, .inr (.inl ⟨_, rfl⟩)⟩
  · exact ⟨_, rfl, hreleased, .inr (.inr rfl)⟩

/-- A SLEEP refused does not sleep, and counts. -/
theorem exec_sleep_refused_spec (h : s.ready i 2 = some m) (hrun : (s.seq i).state = .running)
    (hsome : s.ctl.events.filter (fun x => (s.asIdle i).eligible i x.ev) ≠ []) :
    ∃ t, exec (.sleep i) s = .next t ∧ (t.seq i).state ≠ .sleeping ∧ Counted s t (Reg.SEQ_SLEEP_REFUSED i) 1 := by
  obtain ⟨u, t, hexec, honly, ht⟩ := exec_sleep_refused h hrun hsome
  obtain ⟨-, -, -, hle, -⟩ := Reg.seq_le i
  obtain ⟨hitems, hfast⟩ := Reg.seqSleepRefused_ge i
  have hbump : Counted s ((s.asIdle i).bump (Reg.SEQ_SLEEP_REFUSED i)) (Reg.SEQ_SLEEP_REFUSED i) 1 := Counted.of_bump rfl
  have hcount := hbump.evOnly honly hle
  refine ⟨t, hexec, ?_⟩
  obtain ⟨ev, rfl⟩ | ⟨ev, rfl⟩ | rfl := ht
  · rw [State.seq_acceptFast]
    exact ⟨by simp, (u.acceptFast_taken i ev).counted_above hcount hle hfast⟩
  · obtain ⟨pc, hseq⟩ := u.seq_acceptNormal i m ev
    obtain ⟨hstate, -⟩ := (u.seq i).given_fields ev (u.evPrio ev) (u.evOpcode ev)
    rw [hseq]
    exact ⟨by simp [hstate], (u.acceptNormal_taken i m ev).counted_above hcount hle hitems⟩
  · have hseq : u.seq i = (s.asIdle i).seq i := by
      rw [State.seq, honly.ctl_seqs]
      rfl
    rw [State.seq_settleEvents, hseq, State.seq_setSeq_same]
    exact ⟨by simp, hcount.evOnly u.settleEvents_evOnly hle⟩

theorem exec_seqWake_offered (hsleep : (s.seq i).state = .sleeping) (ho : s.ctl.events.any (fun x => x.offered == some i.val) = true) :
    exec (.seqWake i) s = .next ((((s.setSeq i { s.seq i with state := .running, err := false }).bump (Reg.SEQ_WAKES i)).advance i
      (s.uword i)).settleEvents) := by
  simp [execSeqWake, hsleep, ho]

/-! ## Fast events and RETF (R398) -/

theorem exec_fastEventAccept_due (h : s.fastDue i = some e) : exec (.fastEventAccept i) s = .next (s.acceptFast i e.ev) := by
  simp only [exec_fastEventAccept, execFastEventAccept, h]

theorem exec_retf_fast (h : s.ready i 3 = some m) (hfast : (s.seq i).state = .fast) : exec (.retf i) s = .next (s.setSeq i { s.seq i with
    state := (s.seq i).fastState, cp := (s.seq i).fastCp, pc := (s.seq i).fastRet, opcode := (s.seq i).fastOpcode
    fastItem := none }).settleEvents := by
  simp [execRetf, h, hfast, SeqSt.inFast]

theorem exec_retf_normal (h : s.ready i 3 = some m) (hrun : (s.seq i).state = .running) : exec (.retf i) s = .next (s.xopDone i m true) := by
  simp [execRetf, h, hrun, SeqSt.inFast]

end Commands

/-- Settles O29: each command by its equation, an event accepted by what taking it changes. -/
theorem sequencersTakeEvents : Obligations.SequencersTakeEvents := by
  intro i s m e
  obtain ⟨-, -, hsleepsLe, -, hwakesLe⟩ := Reg.seq_le i
  refine ⟨fun hat => ⟨exec_fetch_takes hat, fun he hrun => ?_⟩, ?_, ?_, fun hsleep ho => ?_, fun hdue => ?_,
    fun hm => ⟨fun hfast => ?_, fun hrun => ?_⟩⟩
  · obtain ⟨hm, -⟩ | ⟨hidle, -⟩ := hat
    · refine ⟨_, exec_fetch_none hm hrun he, ?_, ?_, (RegsBut.of_regs (t := s.asIdle i) _ rfl).settleEvents fun _ => id⟩ <;> simp
    · rw [hrun] at hidle
      contradiction
  · rintro x (rfl | rfl) hm hfast
    · exact ⟨fun _ => exec_fetch_fast hm hfast, by simp⟩
    · exact ⟨by simp, fun _ => exec_sleep_fast hm hfast⟩
  · rintro hm hrun u rfl
    refine ⟨fun hnone => ⟨_, exec_sleep_sleeps hm hrun hnone, ?_, ?_, State.settleEvents_counted rfl hsleepsLe⟩,
      exec_sleep_refused_spec hm hrun⟩ <;> simp
  · refine ⟨_, exec_seqWake_offered hsleep ho, ?_, ?_, State.settleEvents_counted rfl hwakesLe⟩ <;> simp
  · obtain ⟨-, hcount, -, hregs⟩ := s.acceptFast_taken i e.ev
    refine ⟨_, exec_fastEventAccept_due hdue, ?_⟩
    rw [State.seq_acceptFast]
    exact ⟨rfl, rfl, rfl, rfl, rfl, rfl, rfl, rfl, hcount, hregs⟩
  · refine ⟨_, exec_retf_fast hm hfast, ?_⟩
    rw [State.seq_settleEvents, State.seq_setSeq_same]
    exact ⟨rfl, rfl, rfl, rfl, rfl, rfl, RegsBut.settleEvents (RegsBut.of_regs _ rfl) fun _ => id⟩
  · exact ⟨_, exec_retf_normal hm hrun, State.err_xopDone _ _ _ _, State.pc_xopDone _ _ _ _, rfl⟩

end Sys2Proof.Machine
end

section
/-!
PROOFS. The global registers (R15, R490): sheets, buffers, sessions, contexts and renditions change none of them, whatever becomes of their work.
-/
namespace Sys2Proof.Machine

/-- What the registers of the global block read; the other blocks lie from 0x10000 up (R15). -/
def globalRegs (regs : Tab Word) (a : Nat) : Word := if a < 0x10000 then tget regReset regs a else 0#32

theorem State.reg_of_globalRegs {s t : State} (h : globalRegs t.regs = globalRegs s.regs) {a : Nat} (ha : a < 0x10000) : t.reg a = s.reg a := by
  have hread := congrFun h a
  simp only [globalRegs, if_pos ha] at hread
  exact hread

theorem RegsBut.globalRegs {s t : State} {l : List Nat} (h : RegsBut s t l) (hl : ∀ a ∈ l, 0x10000 ≤ a) : globalRegs t.regs = globalRegs s.regs := by
  funext a
  unfold Machine.globalRegs
  split
  · exact h a fun hmem => absurd (hl a hmem) (by omega)
  · rfl

theorem EvOnly.globalRegs {s t : State} (h : EvOnly s t) : globalRegs t.regs = globalRegs s.regs :=
  (h.regsBut evRegs fun _ => id).globalRegs (by decide)

@[simp] theorem State.foldl_globalRegs {α : Type} {f : State → α → State} (h : ∀ t a, globalRegs (f t a).regs = globalRegs t.regs) (l : List α)
    (s : State) : globalRegs (l.foldl f s).regs = globalRegs s.regs :=
  List.foldlRecOn (motive := fun t => globalRegs t.regs = globalRegs s.regs) l f rfl fun t ht a _ => (h t a).trans ht

/-! ## The other blocks -/

@[simp] theorem Reg.ctx_above_global (n : Nat) : 0x10000 ≤ Reg.CTX_STATUS n ∧ 0x10000 ≤ Reg.CTX_CHARGE_DEC n ∧ 0x10000 ≤ Reg.CTX_PRESS n
    ∧ 0x10000 ≤ Reg.CTX_PIC_DEFERRED n ∧ 0x10000 ≤ Reg.ING_STATUS n ∧ 0x10000 ≤ Reg.ING_LAST_TS n ∧ 0x10000 ≤ Reg.ING_AUS n
    ∧ 0x10000 ≤ Reg.ING_UNSUPPORTED n ∧ 0x10000 ≤ Reg.ING_OVER_LIMIT n ∧ 0x10000 ≤ Reg.ING_REFUSED n ∧ 0x10000 ≤ Reg.ING_PS_MISSING n
    ∧ 0x10000 ≤ Reg.ING_LOST n := by
  simp only [Reg.CTX_STATUS, Reg.CTX_CHARGE_DEC, Reg.CTX_PRESS, Reg.CTX_PIC_DEFERRED, Reg.ING_STATUS, Reg.ING_LAST_TS, Reg.ING_AUS,
    Reg.ING_UNSUPPORTED, Reg.ING_OVER_LIMIT, Reg.ING_REFUSED, Reg.ING_PS_MISSING, Reg.ING_LOST]
  omega

@[simp] theorem Reg.rnd_above_global (n : Nat) : 0x10000 ≤ Reg.RND_STATUS n ∧ 0x10000 ≤ Reg.RND_CHARGE_ENC n ∧ 0x10000 ≤ Reg.RND_PRESS n
    ∧ 0x10000 ≤ Reg.CMP_STATUS n ∧ 0x10000 ≤ Reg.CMP_TRACK_ID n ∧ 0x10000 ≤ Reg.CMP_MASK_MISSING n ∧ 0x10000 ≤ Reg.CMP_MASK_BAD n
    ∧ 0x10000 ≤ Reg.CMP_MASK_LATE n ∧ 0x10000 ≤ Reg.CMP_MASK_UNUSED n := by
  simp only [Reg.RND_STATUS, Reg.RND_CHARGE_ENC, Reg.RND_PRESS, Reg.CMP_STATUS, Reg.CMP_TRACK_ID, Reg.CMP_MASK_MISSING, Reg.CMP_MASK_BAD,
    Reg.CMP_MASK_LATE, Reg.CMP_MASK_UNUSED]
  omega

@[simp] theorem Reg.block_above_global (n : Nat) : 0x10000 ≤ Reg.PRT_SHEETS_LOST n ∧ 0x10000 ≤ Reg.FP_FREE n ∧ 0x10000 ≤ Reg.FP_FREES n
    ∧ 0x10000 ≤ Reg.MEM_STATUS n ∧ 0x10000 ≤ Reg.MEM_DRAINS n ∧ 0x10000 ≤ Reg.MEM_WR_LINES n := by
  simp only [Reg.PRT_SHEETS_LOST, Reg.FP_FREE, Reg.FP_FREES, Reg.MEM_STATUS, Reg.MEM_DRAINS, Reg.MEM_WR_LINES]
  omega

@[simp] theorem Reg.single_above_global : 0x10000 ≤ Reg.SEAL_REAMS ∧ 0x10000 ≤ Reg.SEAL_NSC ∧ 0x10000 ≤ Reg.SEAL_LEAVES ∧ 0x10000 ≤ Reg.SEAL_SHEETS
    ∧ 0x10000 ≤ Reg.ISA_PEND ∧ 0x10000 ≤ Reg.CAL_SETPOINT := by
  decide

section Registers
variable (s : State) {a : Nat}

@[simp] theorem State.setReg_globalRegs (v : Word) (h : 0x10000 ≤ a) : globalRegs (s.setReg a v).regs = globalRegs s.regs :=
  ((RegsBut.refl s [a]).setReg a v (by simp)).globalRegs (by simpa using h)

@[simp] theorem State.setRegF_globalRegs (lo w x : Nat) (h : 0x10000 ≤ a) : globalRegs (s.setRegF a lo w x).regs = globalRegs s.regs :=
  s.setReg_globalRegs _ h

@[simp] theorem State.setRegBit_globalRegs (i : Nat) (b : Bool) (h : 0x10000 ≤ a) : globalRegs (s.setRegBit a i b).regs = globalRegs s.regs :=
  s.setReg_globalRegs _ h

@[simp] theorem State.setPair_globalRegs (v : Nat) (h : 0x10000 ≤ a) : globalRegs (s.setPair a v).regs = globalRegs s.regs :=
  (State.setReg_globalRegs _ _ (by omega)).trans (s.setReg_globalRegs _ h)

@[simp] theorem State.bumpN_globalRegs (n : Nat) (h : 0x10000 ≤ a) : globalRegs (s.bumpN a n).regs = globalRegs s.regs := s.setPair_globalRegs _ h

@[simp] theorem State.bump_globalRegs (h : 0x10000 ≤ a) : globalRegs (s.bump a).regs = globalRegs s.regs := s.setPair_globalRegs _ h

@[simp] theorem State.bumpIf_globalRegs (b : Bool) (h : 0x10000 ≤ a) : globalRegs (s.bumpIf b a).regs = globalRegs s.regs := by
  unfold State.bumpIf
  split
  · exact s.bump_globalRegs h
  · rfl

@[simp] theorem State.clearRegs_globalRegs (n : Nat) (h : 0x10000 ≤ a) : globalRegs (s.clearRegs a n).regs = globalRegs s.regs := by
  induction n generalizing s a with
  | zero => rfl
  | succ n ih => rw [State.clearRegs, ih _ (by omega), s.setReg_globalRegs _ h]

end Registers

section Operations
variable (s : State)

@[simp] theorem State.settleEvents_globalRegs : globalRegs s.settleEvents.regs = globalRegs s.regs := s.settleEvents_evOnly.globalRegs

@[simp] theorem State.raiseEv_globalRegs (n : Nat) : globalRegs (s.raiseEv n).regs = globalRegs s.regs := (s.raiseEv_evOnly n).globalRegs

@[simp] theorem State.sendAbort_globalRegs (partner cls id reason : Nat) : globalRegs (s.sendAbort partner cls id reason).regs = globalRegs s.regs :=
  congrArg globalRegs (s.ktReply_portsOnly ..).regs

/-! ## Sheets, reams and chains (R274, R282, R285, R292) -/

section Sheets
variable (slot : Nat)

@[simp] theorem State.backlogSheet_globalRegs (sheetMax : Nat) (x : Sheet) : globalRegs (s.backlogSheet sheetMax x).regs = globalRegs s.regs := by
  unfold State.backlogSheet
  dsimp only
  split
  · simp
  · rw [State.tagQueue_regs]
    rfl

@[simp] theorem State.closeSheet_globalRegs (r : Ream) : globalRegs (s.closeSheet slot r).1.regs = globalRegs s.regs := by
  unfold State.closeSheet
  split
  · rfl
  · simp [State.emitSheet]

/-- A step of the placing that changes no global register on either branch. -/
theorem globalRegs_of_ite {c : Prop} [Decidable c] {s : State} {a b : State × Ream} (ha : globalRegs a.1.regs = globalRegs s.regs)
    (hb : globalRegs b.1.regs = globalRegs s.regs) : globalRegs (if c then a else b).1.regs = globalRegs s.regs := by
  split <;> assumption

theorem State.placeFuel_globalRegs (type total : Nat) (headsAfter : Option (Nat × Bytes)) (fuel off : Nat) (rest : Bytes) (sr : State × Ream) :
    globalRegs (State.placeFuel slot type total headsAfter fuel off rest sr).1.regs = globalRegs sr.1.regs := by
  induction fuel generalizing off rest sr with
  | zero => rfl
  | succ fuel ih =>
    obtain ⟨s, r⟩ := sr
    refine globalRegs_of_ite ?_ (globalRegs_of_ite ?_ ?_)
    · rw [ih, State.closeSheet_globalRegs]
    · exact globalRegs_of_ite (s.closeSheet_globalRegs slot _) rfl
    · rw [ih]
      exact globalRegs_of_ite (s.closeSheet_globalRegs slot _) rfl

@[simp] theorem State.place_globalRegs (type : Nat) (obj : Bytes) (headsAfter : Option (Nat × Bytes)) (sr : State × Ream) :
    globalRegs (State.place slot type obj headsAfter sr).1.regs = globalRegs sr.1.regs := State.placeFuel_globalRegs ..

@[simp] theorem State.openReam_globalRegs (hdr : ReamHdr) (l : Leaf) : globalRegs (s.openReam slot hdr l).1.regs = globalRegs s.regs := by
  unfold State.openReam
  extract_lets x link prev nsc obj h r s1 s2 s3
  have hcounted : globalRegs s2.regs = globalRegs s.regs := by
    unfold s2 s1
    split <;> simp
  rw [State.place_globalRegs, State.place_globalRegs]
  exact hcounted

@[simp] theorem State.finalize_globalRegs (r : Ream) (reason : Nat) : globalRegs (s.finalize slot r reason).regs = globalRegs s.regs := by
  unfold State.finalize
  simp only [State.startSign_regs, State.setSlot_regs]
  exact globalRegs_of_ite rfl (s.closeSheet_globalRegs slot r)

@[simp] theorem State.chainOne_globalRegs (l : Leaf) : globalRegs (s.chainOne slot l).regs = globalRegs s.regs := by
  unfold State.chainOne
  dsimp only
  split
  all_goals
    simp only [State.finalize_globalRegs, State.setSlot_regs, apply_ite State.regs, ite_self, State.place_globalRegs]
    rw [State.bump_globalRegs _ (by simp)]
    split
    · simp
    · rfl
    · exact State.openReam_globalRegs ..

@[simp] theorem State.chainForced_globalRegs (n : Nat) : globalRegs (State.chainForced slot n s).regs = globalRegs s.regs := by
  induction n generalizing s with
  | zero => rfl
  | succ n ih =>
    unfold State.chainForced
    split
    · simp [ih]
    · rfl

theorem State.chainReadyFuel_globalRegs (fuel : Nat) : globalRegs (State.chainReadyFuel slot fuel s).regs = globalRegs s.regs := by
  induction fuel generalizing s with
  | zero => rfl
  | succ fuel ih =>
    unfold State.chainReadyFuel
    split
    · split
      · simp [ih]
      · rfl
    · rfl

@[simp] theorem State.chainReady_globalRegs : globalRegs (s.chainReady slot).regs = globalRegs s.regs := State.chainReadyFuel_globalRegs ..

@[simp] theorem State.chainRenditions_globalRegs : globalRegs s.chainRenditions.regs = globalRegs s.regs := by simp [State.chainRenditions]

@[simp] theorem State.closeReam_globalRegs (reason : Nat) : globalRegs (s.closeReam slot reason).regs = globalRegs s.regs := by
  unfold State.closeReam
  dsimp only
  split
  · split
    · split <;> rfl
    · rfl
  · split
    · simp
    · rfl

@[simp] theorem State.awaitLeaf_globalRegs (l : Leaf) : globalRegs (s.awaitLeaf slot l).regs = globalRegs s.regs := by
  unfold State.awaitLeaf
  dsimp only
  split <;> simp

end Sheets

/-! ## Buffers, pictures and renditions (R88, R146, R236, R261) -/

section Slots
variable (n : Nat)

@[simp] theorem State.freeOwn_globalRegs (h : Nat) : globalRegs (s.freeOwn h).regs = globalRegs s.regs := by
  have hrelease : globalRegs (s.release h).regs = globalRegs s.regs := (s.regsBut_release h).globalRegs (by simp [ctr, Nat.le_add_right_of_le])
  unfold State.freeOwn
  split
  · rfl
  · split
    · exact hrelease
    · rfl

@[simp] theorem State.sweepBufs_globalRegs : globalRegs (s.sweepBufs n).regs = globalRegs s.regs := by simp [State.sweepBufs]

@[simp] theorem State.maskGone_globalRegs : globalRegs (s.maskGone n).regs = globalRegs s.regs := by simp [State.maskGone]

@[simp] theorem State.abortMaskOf_globalRegs : globalRegs (s.abortMaskOf n).regs = globalRegs s.regs := by
  unfold State.abortMaskOf
  split <;> simp

@[simp] theorem State.endRndReam_globalRegs (reason : Nat) : globalRegs (s.endRndReam n reason).regs = globalRegs s.regs := by
  unfold State.endRndReam
  dsimp only
  split <;> simp

@[simp] theorem State.releaseScalers_regs : (s.releaseScalers n).regs = s.regs := rfl

@[simp] theorem State.assignScalers_regs : (s.assignScalers n).regs = s.regs :=
  (State.assignScalers_good n (s.good_self (· = .ctxs)) rfl).same .regs (by simp)

@[simp] theorem State.freeRnd_globalRegs : globalRegs (s.freeRnd n).regs = globalRegs s.regs := by simp [State.freeRnd, State.setRstate]

@[simp] theorem State.tryFreeRnd_globalRegs : globalRegs (s.tryFreeRnd n).regs = globalRegs s.regs := by
  unfold State.tryFreeRnd
  dsimp only
  split <;> simp

@[simp] theorem State.rndLeaveOpen_globalRegs : globalRegs (s.rndLeaveOpen n).regs = globalRegs s.regs := by
  unfold State.rndLeaveOpen
  split <;> simp [State.setRstate]

@[simp] theorem State.rndsFollow_globalRegs : globalRegs (s.rndsFollow n).regs = globalRegs s.regs := by
  refine State.foldl_globalRegs (fun t r => ?_) _ s
  split <;> simp

@[simp] theorem State.offer_regs (p : PicInfo) (ts : Int) : (s.offer n p ts).regs = s.regs :=
  (State.offer_good n p ts (s.good_self (· = .rnds)) rfl).same .regs (by simp)

@[simp] theorem State.giveStills_regs (kind : Nat) (mk : Nat → Still) : (s.giveStills kind n mk).regs = s.regs :=
  (State.giveStills_good kind n mk (s.good_self (· ∈ [.mgmt, .stills])) (by simp) (by simp)).same .regs (by simp)

@[simp] theorem State.outputPic_globalRegs (buf : Nat) : globalRegs (s.outputPic n buf).regs = globalRegs s.regs := by
  unfold State.outputPic
  dsimp only
  split <;> simp

@[simp] theorem State.lastPicture_globalRegs : globalRegs (s.lastPicture n).regs = globalRegs s.regs := by simp [State.lastPicture, State.outputAll]

@[simp] theorem State.freeCtx_globalRegs : globalRegs (s.freeCtx n).regs = globalRegs s.regs := by
  simp [State.freeCtx, State.setCstate, State.setVstate]

@[simp] theorem State.tryFreeCtx_globalRegs : globalRegs (s.tryFreeCtx n).regs = globalRegs s.regs := by
  unfold State.tryFreeCtx
  dsimp only
  split
  · split <;> simp
  · rfl

@[simp] theorem State.settleSlots_globalRegs : globalRegs s.settleSlots.regs = globalRegs s.regs := by simp [State.settleSlots]

/-! ## Access units (R113 to R126, R133, R180) -/

@[simp] theorem State.newHdr_regs (arr : Nat) (comp : Bytes) : (s.newHdr arr comp).2.regs = s.regs := rfl

@[simp] theorem State.closeAu_globalRegs (u : AuIn) (leaving : Bool) : globalRegs (s.closeAu n u leaving).regs = globalRegs s.regs := by
  unfold State.closeAu
  extract_lets codec x nals store sets sl isPic rap info i window win vs v hasMap bw bh b s1 s2 s3 q hs hdr s4 done leaf au s5 s6 s7
  have hcounted : globalRegs s2.regs = globalRegs s.regs := by simp [s2, s1, State.setVstate]
  have hclosed : globalRegs s3.regs = globalRegs s2.regs := by
    unfold s3
    split <;> simp
  have hhdr : s4.regs = s3.regs := by
    unfold s4 hs
    split <;> rfl
  have hscaled : s6.regs = s4.regs := by
    unfold s6 s5
    split <;> simp
  have hawait : globalRegs s7.regs = globalRegs s.regs := by simp only [s7, State.awaitLeaf_globalRegs, hscaled, hhdr, hclosed, hcounted]
  split <;> simp [hawait]

@[simp] theorem State.showOpen_globalRegs : globalRegs (s.showOpen n).regs = globalRegs s.regs := by simp [State.showOpen]

@[simp] theorem State.closeRtpUnit_globalRegs (leaving : Bool) : globalRegs (s.closeRtpUnit n leaving).regs = globalRegs s.regs := by
  unfold State.closeRtpUnit
  dsimp only
  split <;> simp

theorem State.closeUnitsFuel_globalRegs (force leaving : Bool) (fuel : Nat) :
    globalRegs (State.closeUnitsFuel n force leaving fuel s).regs = globalRegs s.regs := by
  induction fuel generalizing s with
  | zero => rfl
  | succ fuel ih =>
    unfold State.closeUnitsFuel
    split
    · rw [ih, State.closeRtpUnit_globalRegs]
    · rfl

@[simp] theorem State.closeUnits_globalRegs (force leaving : Bool) : globalRegs (s.closeUnits n force leaving).regs = globalRegs s.regs := by
  simp [State.closeUnits, State.closeUnitsFuel_globalRegs]

@[simp] theorem State.closeOff_globalRegs (missing leaving : Bool) : globalRegs (s.closeOff n missing leaving).regs = globalRegs s.regs := by
  unfold State.closeOff
  dsimp only
  split
  · rfl
  · split <;> simp

@[simp] theorem State.offRecord_globalRegs (arr tq tick : Nat) (q : OffRec) : globalRegs (State.offRecord arr tq tick n s q).regs = globalRegs s.regs := by
  unfold State.offRecord
  extract_lets s1 x o o1 s2
  have hopened : globalRegs s1.regs = globalRegs s.regs := by
    unfold s1
    split
    · split <;> simp
    · rfl
  have hput : globalRegs s2.regs = globalRegs s.regs := by simp [s2, hopened]
  split <;> simp [hput]

@[simp] theorem State.offChunk_globalRegs (b : Bytes) (arr tq tick : Nat) : globalRegs (s.offChunk n b arr tq tick).regs = globalRegs s.regs := by
  unfold State.offChunk
  split <;> simp

@[simp] theorem State.offMissing_globalRegs (k : Nat) : globalRegs (s.offMissing n k).regs = globalRegs s.regs := by simp [State.offMissing]

@[simp] theorem State.ctxLeaveOpen_globalRegs : globalRegs (s.ctxLeaveOpen n).regs = globalRegs s.regs := by
  unfold State.ctxLeaveOpen
  split <;> simp [State.setCstate]

@[simp] theorem State.expireLeaves_globalRegs : globalRegs (s.expireLeaves n).regs = globalRegs s.regs := by
  unfold State.expireLeaves State.expireNow
  dsimp only
  split
  · rfl
  · split <;> simp

/-! ## Sessions (R52, R126, R255, R438) -/

@[simp] theorem State.unblank_globalRegs (seq : Nat) (b : Bytes) : globalRegs (s.unblank n seq b).regs = globalRegs s.regs := by simp [State.unblank]

@[simp] theorem State.maskRecord_globalRegs (q : Nat × Nat × Bytes) : globalRegs (State.maskRecord n s q).regs = globalRegs s.regs := by
  unfold State.maskRecord
  dsimp only
  split_ifs <;> simp

@[simp] theorem State.maskChunk_globalRegs (b : Bytes) : globalRegs (s.maskChunk n b).regs = globalRegs s.regs := by
  unfold State.maskChunk
  split <;> simp

end Slots

section Sessions
variable (x : KtSess)

@[simp] theorem State.useChunk_globalRegs (c : Chunk) : globalRegs (s.useChunk x c).regs = globalRegs s.regs := by
  unfold State.useChunk
  split_ifs <;> simp

@[simp] theorem State.missChunks_globalRegs (k : Nat) : globalRegs (s.missChunks x k).regs = globalRegs s.regs := by
  unfold State.missChunks
  split <;> simp

@[simp] theorem State.flushSess_globalRegs : globalRegs (s.flushSess x).2.regs = globalRegs s.regs := by
  unfold State.flushSess
  dsimp only
  rw [State.missChunks_globalRegs]
  exact List.foldlRecOn (motive := fun acc : Nat × Nat × State => globalRegs acc.2.2.regs = globalRegs s.regs) _ _ rfl fun acc hacc c _ => by simp [hacc]

@[simp] theorem State.sessGone_globalRegs : globalRegs (s.sessGone x).regs = globalRegs s.regs := by
  unfold State.sessGone
  split <;> simp

@[simp] theorem State.withdraw_globalRegs : globalRegs (s.withdraw x).regs = globalRegs s.regs := by simp [State.withdraw]

@[simp] theorem State.abortSess_globalRegs (reason : Option Nat) : globalRegs (s.abortSess x reason).regs = globalRegs s.regs := by
  unfold State.abortSess
  extract_lets s1 s2
  have hsent : globalRegs s2.regs = globalRegs s.regs := by
    unfold s2
    split <;> simp [s1]
  split <;> simp [hsent]

end Sessions

@[simp] theorem State.dropBacklog_globalRegs (n : Nat) : globalRegs (s.dropBacklog n).regs = globalRegs s.regs := by
  refine State.foldl_globalRegs (fun t q => ?_) _ s
  dsimp only
  split
  · rfl
  · rw [State.bumpN_globalRegs _ _ (by simp), State.tagQueue_regs]
    rfl

@[simp] theorem State.partnerOff_globalRegs (n : Nat) : globalRegs (s.partnerOff n).regs = globalRegs s.regs := by simp [State.partnerOff]

/-! ## Write queues and policers (R321, R346) -/

@[simp] theorem State.drainDue_globalRegs (p : Nat) : globalRegs (s.drainDue p).regs = globalRegs s.regs := by
  unfold State.drainDue
  split
  · exact (s.drain_regsBut p).globalRegs (by simp [drainRegs, ctr, Nat.le_add_right_of_le])
  · rfl

@[simp] theorem State.applyCfg_regs (old : Tab Word) (a : Nat) : (State.applyCfg old s a).regs = s.regs :=
  (State.applyCfg_good old a (s.good_self (· = .net)) rfl).same .regs (by simp)

end Operations

end Sys2Proof.Machine
end

section
/-!
PROOFS. Configuration epochs (R433 to R435): the start of a sweep, and its announcement.
-/
namespace Sys2Proof.Machine

/-! ## The sweep (R433) -/

/-- The state in which a sweep has started: the stored configuration is pending as the next epoch. -/
def State.sweepStarted (s : State) : State :=
  (({ s with pend := s.configTab } : State).setRegBit Reg.GLB_CFG_STATUS 0 true).setReg Reg.GLB_EPOCH_PEND (s.reg Reg.GLB_EPOCH + 1#32)

theorem State.sweepStarted_sweeping (s : State) : s.sweepStarted.sweeping = true := by
  rw [State.sweeping, State.sweepStarted, State.regBit, State.reg_setReg_other _ _ _ _ (by decide), ← State.regBit]
  exact State.regBit_setRegBit_same _ _ _ _ (by decide)

theorem State.sweepStarted_regsBut (s : State) : RegsBut s s.sweepStarted [Reg.GLB_CFG_STATUS, Reg.GLB_EPOCH_PEND] :=
  ((RegsBut.of_regs (t := { s with pend := s.configTab }) _ rfl).setRegBit _ 0 true (by simp)).setReg _ _ (by simp)

theorem exec_sweepStart_changed {s : State} (hidle : s.sweeping = false) (hchanged : s.configChanged = true) (hfailing : s.power.failing = false)
    (hmaint : s.maintenance = false) (hrun : s.boot.phase = .running) : exec .sweepStart s = .next s.sweepStarted := by
  simp [execSweepStart, State.sweepStarted, hidle, hchanged, hfailing, hmaint, hrun]

theorem exec_sweepStart_none {s : State} (h : s.sweeping = true ∨ s.configChanged = false) : exec .sweepStart s = .next s := by
  rw [exec_sweepStart, execSweepStart, if_pos]
  obtain hsweeping | hsame := h
  · simp [hsweeping]
  · simp [hsame]

/-! ## The announcement (R434, R435) -/

/-- Of the global registers, what an announcement brings about at once changes GLB_STATE alone. -/
theorem State.announceEffects_reg (s : State) (old new : Tab Word) {a : Nat} (hglobal : a < 0x10000) (hstate : a ≠ Reg.GLB_STATE) :
    (s.announceEffects old new).reg a = s.reg a := by
  obtain ⟨t, ht, hkept⟩ : ∃ t : State, s.announceEffects old new = t.syncState ∧ globalRegs t.regs = globalRegs s.regs := by
    refine ⟨_, rfl, ?_⟩
    split <;> simp [State.showActual]
  have hfault : a ≠ Reg.FLT_GLOBAL := by
    unfold Reg.FLT_GLOBAL
    omega
  have hsync : t.syncState.reg a = t.reg a := t.syncState_regsBut a (by simp [hfault, hstate])
  rw [ht, hsync, State.reg_of_globalRegs hkept hglobal]

theorem State.announceEffects_eff (s : State) (old new : Tab Word) : (s.announceEffects old new).eff = s.eff :=
  ((State.announceEffects_good old new (s.good_self (· ≠ .config)) (by simp) (by simp) (by simp) (by simp) (by simp) (by simp) (by simp) (by simp)
    (by simp) (by simp) (by simp) (by simp)).same .config (by simp)).1

@[simp] theorem State.reg_setBoot (s : State) (b : BootSt) (a : Nat) : (s.setBoot b).reg a = s.reg a := rfl

@[simp] theorem State.setBoot_eff (s : State) (b : BootSt) : (s.setBoot b).eff = s.eff := rfl

theorem State.reg_withEff (s : State) (t : Tab Word) (a : Nat) : ({ s with eff := t } : State).reg a = s.reg a := rfl

/-- An announced epoch has its number and its configuration, and ends the sweep. -/
theorem State.announceEpoch_spec (s : State) (n : Nat) (t : Tab Word) : (s.announceEpoch n t).eff = t
    ∧ (s.announceEpoch n t).reg Reg.GLB_EPOCH = BitVec.ofNat 32 n ∧ (s.announceEpoch n t).sweeping = false := by
  unfold State.announceEpoch
  extract_lets e s1 s2
  refine ⟨rfl, ?_, ?_⟩
  · rw [State.reg_withEff, State.reg_setRegBit, if_neg (by decide), State.reg_setRegBit, if_neg (by decide),
      State.reg_setRegs_outside _ _ _ (.inl (by decide)), State.reg_setReg_other _ _ _ _ (by decide), State.reg_setReg_same]
  · rw [State.sweeping, State.regBit, State.reg_withEff, ← State.regBit]
    exact State.regBit_setRegBit_same _ _ _ _ (by decide)

/-- After the announcement of a sweep the pending epoch is the announced one, and no sweep runs. -/
theorem State.announceSweep_spec (s : State) : s.announceSweep.eff = s.pend ∧ s.announceSweep.reg Reg.GLB_EPOCH = s.reg Reg.GLB_EPOCH_PEND
    ∧ s.announceSweep.sweeping = false := by
  obtain ⟨heff, hepoch, hsweeping⟩ := s.announceEpoch_spec (s.reg Reg.GLB_EPOCH_PEND).toNat s.pend
  obtain ⟨b, hb⟩ : ∃ b, s.announceSweep = ((s.announceEpoch (s.reg Reg.GLB_EPOCH_PEND).toNat s.pend).setBoot b).announceEffects s.eff s.pend := by
    unfold State.announceSweep
    exact ⟨_, rfl⟩
  have hreg : ∀ a, a < 0x10000 → a ≠ Reg.GLB_STATE → s.announceSweep.reg a = (s.announceEpoch (s.reg Reg.GLB_EPOCH_PEND).toNat s.pend).reg a :=
    fun a hglobal hstate => by rw [hb, State.announceEffects_reg _ _ _ hglobal hstate, State.reg_setBoot]
  refine ⟨?_, ?_, ?_⟩
  · rw [hb, State.announceEffects_eff, State.setBoot_eff, heff]
  · rw [hreg _ (by decide) (by decide), hepoch, BitVec.ofNat_toNat, BitVec.setWidth_eq]
  · rw [State.sweeping, State.regBit, hreg _ (by decide) (by decide), ← State.regBit, ← State.sweeping, hsweeping]

/-- Settles O53: a sweep by the fields that it writes, an announcement by what its effects leave. -/
theorem epochsFollowTheStoredConfiguration : Obligations.EpochsFollowTheStoredConfiguration := by
  intro s
  refine ⟨fun hidle hchanged hfailing hmaint hrun => ?_, exec_sweepStart_none, fun hsweeping hfailing => ?_, fun hidle => ?_⟩
  · exact ⟨_, exec_sweepStart_changed hidle hchanged hfailing hmaint hrun, rfl, rfl, s.sweepStarted_sweeping,
      State.reg_setReg_same .., s.sweepStarted_regsBut⟩
  · refine ⟨s.announceSweep, ?_, rfl, s.announceSweep_spec⟩
    simp [execEpochAnnounce, hsweeping, hfailing]
  · simp [execEpochAnnounce, hidle]

end Sys2Proof.Machine
end

section
/-!
PROOFS. Resets (R428, R510): NPOR_N, GLB_RESET, and the installation of an image in maintenance mode.
-/
namespace Sys2Proof.Machine

/-! ## NPOR_N (R510) -/

section NporFall
variable {s : State}

/-- NPOR_N is low, and nothing else has changed. -/
def State.nporHeld (s : State) : State := { s with boot := { s.boot with nporLow := true } }

theorem exec_nporFall_off (hoff : s.boot.phase = .off) : exec .nporFall s = .next s.nporHeld := by
  simp [execNporFall, State.nporHeld, hoff]

/-- A sequence that runs, that begins in the same instant, or that safe state has not ended: the reset waits. -/
theorem exec_nporFall_waits (hon : s.boot.phase ≠ .off) (hrun : s.power.phase ≠ .done)
    (hcommit : s.power.failing = true ∨ s.power.safe = true ∨ s.failsNow = true) :
    exec .nporFall s = .next { s.nporHeld with power := { s.power with resetAfter := true, resetSend := true } } := by
  have hseq : s.power.failing = true ∨ (s.power.safe = true ∧ s.power.phase ≠ .done) ∨ s.failsNow = true :=
    hcommit.imp_right (Or.imp_left fun hsafe => ⟨hsafe, hrun⟩)
  rw [exec_nporFall, execNporFall, if_neg hon, if_pos hseq, State.deferredReset, if_neg (by simp [hrun])]
  rfl

section NoSequence
variable (hon : s.boot.phase ≠ .off) (hfailing : s.power.failing = false) (hnow : s.failsNow = false)
include hon hfailing hnow

theorem exec_nporFall_committed (hsafe : s.power.safe = true) (hdone : s.power.phase = .done) :
    exec .nporFall s = .next s.nporHeld.fullReset := by
  simp [execNporFall, State.nporHeld, hon, hfailing, hnow, hsafe, hdone]

theorem exec_nporFall_nothingToCommit (hsafe : s.power.safe = false) (hnone : s.maintenance = true ∨ s.epoch = 0) :
    exec .nporFall s = .next s.nporHeld.fullReset := by
  simp [execNporFall, State.nporHeld, hon, hfailing, hnow, hsafe, hnone]

theorem exec_nporFall_commits (hsafe : s.power.safe = false) (hmaint : s.maintenance = false) (hepoch : s.epoch ≠ 0) :
    exec .nporFall s = .next s.nporHeld.commitForReset := by
  simp [execNporFall, State.nporHeld, hon, hfailing, hnow, hsafe, hmaint, hepoch]

end NoSequence

end NporFall

/-! ## GLB_RESET (R428) -/

section GlbReset
variable {s : State}

theorem exec_glbReset_otherKey {key : BitVec 16} (h : key ≠ 0x0B0B#16) : exec (.glbReset key) s = .next s := by
  rw [exec_glbReset, execGlbReset, if_neg h]

variable (hfailing : s.power.failing = false) (hon : s.boot.phase ≠ .off)
include hfailing hon

theorem exec_glbReset_maintenance (hmaint : s.maintenance = true) : exec (.glbReset 0x0B0B#16) s = .next s.fullReset := by
  simp [execGlbReset, State.glbReset, hfailing, hon, hmaint]

theorem exec_glbReset_commits (hmaint : s.maintenance = false) (hsafe : s.power.safe = false) :
    exec (.glbReset 0x0B0B#16) s = .next s.commitForReset := by
  simp [execGlbReset, State.glbReset, hfailing, hon, hmaint, hsafe]

theorem exec_glbReset_committed (hmaint : s.maintenance = false) (hsafe : s.power.safe = true) (hdone : s.power.phase = .done) :
    exec (.glbReset 0x0B0B#16) s = .next s.fullReset := by
  simp [execGlbReset, State.glbReset, hfailing, hon, hmaint, hsafe, hdone]

end GlbReset

theorem exec_maintenanceInstallReset_due {s : State} {x : Nat} (hat : s.power.resetAt = some x) (hdue : x ≤ s.now) (hmaint : s.maintenance = true) :
    exec .maintenanceInstallReset s = .next s.fullReset := by
  simp [execMaintenanceInstallReset, hat, hdue, hmaint]

/-- Settles O51: each clause from what its row does in the case that the clause names. -/
theorem resetsKeepWhatIsNotVolatile : Obligations.ResetsKeepWhatIsNotVolatile := by
  intro s
  refine ⟨⟨rfl, rfl, rfl, rfl, rfl, rfl, rfl, rfl⟩, ?_, fun key => exec_glbReset_otherKey, fun hfailing hon => ?_,
    fun x => exec_maintenanceInstallReset_due⟩
  · rintro u rfl
    exact ⟨exec_nporFall_off, exec_nporFall_committed, exec_nporFall_nothingToCommit, exec_nporFall_commits,
      fun hon hrun hcommit => ⟨_, exec_nporFall_waits hon hrun hcommit, rfl, rfl, rfl, rfl⟩⟩
  · exact ⟨exec_glbReset_maintenance hfailing hon, exec_glbReset_commits hfailing hon, exec_glbReset_committed hfailing hon⟩

end Sys2Proof.Machine
end

section
/-!
PROOFS. The queue of waiting commands.
-/
namespace Sys2Proof.Machine

/-- Settles O24: a command keeps the queue, whatever parts of the state it may change. -/
theorem noCommandTouchesTheQueue : Obligations.NoCommandTouchesTheQueue := fun c s t h =>
  (exec_good c (s.good_self fun _ => True) (fun _ _ => trivial) t h).queue

end Sys2Proof.Machine
end

section
/-!
PROOFS. OTP commands (R484, R485), the test port (R484, R513) and the TRNG test (R483).
-/
namespace Sys2Proof.Machine

@[simp] theorem State.setOtp_otp (s : State) (o : Otp) : (s.setOtp o).boot.otp = o := rfl

/-! ## The start of a command (R485) -/

section Start
variable {s : State} {num k : Nat} (hkey : s.sessionKey num = some k)
include hkey

theorem State.otpOf_open (cmd slot : Nat) : s.otpOf num cmd slot = s.otpCommand k cmd slot := by
  rw [State.otpOf, hkey]

/-- A command that no check refuses starts: a PROGRAM takes the staged hash with it, and only the stage and the hash change beside it. -/
theorem State.otpOf_starts {cmd slot : Nat} (hcmd : 1 ≤ cmd ∧ cmd ≤ 3) (hrun : s.otpRefusal k cmd slot = 0) :
    s.otpOf num cmd slot = s.setOtp { s.boot.otp with
      busy := some (cmd, slot)
      hash := if cmd = 1 then s.stageBytes else s.boot.otp.hash
      stage := if cmd = 1 then [] else s.boot.otp.stage } := by
  rw [State.otpOf_open hkey, State.otpCommand, if_neg (by omega)]
  simp [hrun]

/-- A refused command leaves its RESULT; GLB_SEC_STAGE is cleared after every PROGRAM. -/
theorem State.otpOf_refused {cmd slot r : Nat} (hcmd : 1 ≤ cmd ∧ cmd ≤ 3) (hr : r ≠ 0) (hrefused : s.otpRefusal k cmd slot = r) :
    s.otpOf num cmd slot = s.setOtp { s.boot.otp with result := r, stage := if cmd = 1 then [] else s.boot.otp.stage } := by
  rw [State.otpOf_open hkey, State.otpCommand, if_neg (by omega)]
  simp [hrefused, hr]

end Start

section Refusals
variable {s : State} {k slot : Nat}

theorem State.otpRefusal_busy (hbusy : s.boot.otp.busy.isSome = true) (cmd : Nat) : s.otpRefusal k cmd slot = 5 := by
  simp [State.otpRefusal, hbusy]

variable (hidle : s.boot.otp.busy = none)
include hidle

theorem State.otpRefusal_programmed (hprog : s.programmed slot = true) : s.otpRefusal k 1 slot = 1 := by
  simp [State.otpRefusal, hidle, hprog]

/-- The key of the session that asks cannot be revoked. -/
theorem State.otpRefusal_ownKey (hown : k = slot) : s.otpRefusal k 2 slot = 2 := by
  simp [State.otpRefusal, hidle, hown]

theorem State.otpRefusal_notAhead (hroll : s.imageRollback ≤ s.boot.otp.rollback) : s.otpRefusal k 3 slot = 3 := by
  simp [State.otpRefusal, hidle, Nat.not_lt.mpr hroll]

end Refusals

/-! ## The end of a command (R485) -/

/-- What a command leaves of the fuses where every fuse is programmed. -/
def State.otpDone (s : State) (cmd slot : Nat) : State :=
  if cmd = 1 then s.programKey slot s.boot.otp.hash
  else if cmd = 2 then s.revokeKey slot
  else s.setOtp { s.boot.otp with rollback := s.imageRollback }

/-- The end of a command: its RESULT, and no command runs. -/
def State.otpEnds (s : State) (ok : Bool) : State :=
  s.setOtp { s.boot.otp with busy := none, hash := [], result := if ok then 0 else 4 }

theorem execOtpCommandDone_busy {s : State} {cmd slot : Nat} (hbusy : s.boot.otp.busy = some (cmd, slot)) (ok : Bool) :
    execOtpCommandDone ok s = .next ((if ok then s.otpDone cmd slot else s.otpFailed cmd slot).otpEnds ok) := by
  cases ok <;> simp [execOtpCommandDone, hbusy, State.otpDone, State.otpEnds]

/-- Only the slot that takes the hash changes. -/
theorem State.keys_programKey (s : State) (k : Nat) (hash : Bytes) : tget (fun _ => none) (s.programKey k hash).boot.otp.keys k = some hash
    ∧ ∀ j, j ≠ k → tget (fun _ => none) (s.programKey k hash).boot.otp.keys j = tget (fun _ => none) s.boot.otp.keys j :=
  ⟨tget_tput_same _ _ _ _, fun _ hj => tget_tput_other _ _ _ _ _ hj⟩

/-- No session of a revoked key is left. -/
theorem State.keySlot_ne_of_mem_revokeKey {s : State} {k : Nat} {x : MgmtSess} (hx : x ∈ (s.revokeKey k).mgmt.sess) : x.keySlot ≠ k := by
  simpa using (List.mem_filter.mp hx).2

/-- Settles O17: a command by its refusal, its end by what it leaves of the fuses. -/
theorem otpCommandsRun : Obligations.OtpCommandsRun := by
  refine ⟨fun s num k slot hkey => ⟨fun hrun => ?_, fun hrun => ?_, fun hrun => ?_, fun r hr hrefused => ?_, State.otpRefusal_programmed,
    State.otpRefusal_ownKey, State.otpRefusal_notAhead,
    fun hbusy => ⟨State.otpRefusal_busy hbusy 1, State.otpRefusal_busy hbusy 2, State.otpRefusal_busy hbusy 3⟩⟩,
    fun s slot => ⟨fun hbusy => ?_, fun hbusy => ?_, fun hbusy => ?_, fun cmd hbusy => ?_⟩⟩
  · exact ⟨_, congrArg Host.Outcome.next (State.otpOf_starts hkey (by decide) hrun), rfl, rfl, rfl, rfl⟩
  · exact ⟨_, congrArg Host.Outcome.next (State.otpOf_starts hkey (by decide) hrun), rfl, rfl⟩
  · exact ⟨_, congrArg Host.Outcome.next (State.otpOf_starts hkey (by decide) hrun), rfl, rfl⟩
  · exact ⟨_, congrArg Host.Outcome.next (State.otpOf_refused hkey (by decide) hr hrefused), rfl, rfl, rfl⟩
  · obtain ⟨htaken, hothers⟩ := s.keys_programKey slot s.boot.otp.hash
    exact ⟨_, execOtpCommandDone_busy hbusy true, rfl, rfl, htaken, hothers⟩
  · exact ⟨_, execOtpCommandDone_busy hbusy true, rfl, rfl, rfl, rfl, fun x hx => State.keySlot_ne_of_mem_revokeKey hx⟩
  · exact ⟨_, execOtpCommandDone_busy hbusy true, rfl, rfl, rfl, rfl⟩
  · exact ⟨_, execOtpCommandDone_busy hbusy false, rfl, rfl⟩

/-! ## The test port and the TRNG test (R483, R484, R513) -/

/-- KEYLOAD of a claimed device acts as BYPASS. -/
theorem State.jtagActs_keyload_claimed {s : State} {code : Nat} (hcode : code = 0x30) (hclaimed : s.unclaimed = false) : s.jtagActs code = 0xFF := by
  simp [State.jtagActs, hcode, hclaimed]

theorem execKeyload_acts {s : State} {dr : BitVec 258} (hjtag : s.boot.jtag = 0x30) (hunclaimed : s.unclaimed = true) (hnpor : s.boot.nporLow = false) :
    execKeyload dr s = .next (s.programKey (dr.toNat % 4) (be 32 (dr.toNat / 4))) := by
  rw [execKeyload, if_pos ⟨hjtag, hunclaimed, hnpor⟩]

/-- Settles O18: an instruction by what its code acts as, a window by the count that it leaves. -/
theorem testPortAndTrngTestAct : Obligations.TestPortAndTrngTestAct := by
  intro s code dr
  refine ⟨⟨_, rfl, rfl, rfl, rfl⟩, State.jtagActs_keyload_claimed, fun hjtag hunclaimed hnpor => ?_, ⟨_, rfl, rfl, rfl⟩, ⟨_, rfl, rfl, rfl⟩⟩
  exact ⟨_, execKeyload_acts hjtag hunclaimed hnpor, (s.keys_programKey _ _).1, rfl⟩

end Sys2Proof.Machine
end

section
/-!
PROOFS. The fault collector: what a raise latches, counts and logs (R440 to R442, R450, R455), and the fault state (R452).
-/
namespace Sys2Proof.Machine

/-! ## Registers of the collector -/

/-- The registers of the fault collector lie below those of the interrupt controller. -/
theorem notMem_evRegs_of_lt {a : Nat} (h : a < 0x30000) : a ∉ evRegs := by
  simp only [evRegs, Reg.INT_MERGED, Reg.INT_BYPASS, Reg.INT_REROUTED, List.mem_cons, List.not_mem_nil, or_false]
  omega

theorem State.bumpIf_regsBut (s : State) (b : Bool) (a : Nat) : RegsBut s (s.bumpIf b a) (ctr a) := by
  unfold State.bumpIf
  split
  · exact (RegsBut.refl s _).bump a (by simp [ctr]) (by simp [ctr])
  · exact RegsBut.refl s _

@[simp] theorem State.bumpIf_faults (s : State) (b : Bool) (a : Nat) : (s.bumpIf b a).faults = s.faults := by
  unfold State.bumpIf
  split <;> rfl

/-! ## The log (R455) -/

/-- The registers that the log writes beside its entries. -/
def logRegs : List Nat := Reg.FLT_LOG_HEAD :: ctr Reg.FLT_LOG_LOST

section Log
variable (s : State) (r : Raise) (sev : Nat) (down rep : Bool)

theorem State.fltLog_logSeq : (s.fltLog r sev down rep).faults.logSeq = s.faults.logSeq + 1 := rfl

/-- Below the entries of the ring, an entry changes the head and the count of the lost ones. -/
theorem State.reg_fltLog {a : Nat} (hlow : a < Reg.FLT_LOG 0) (ha : a ∉ logRegs) : (s.fltLog r sev down rep).reg a = s.reg a := by
  obtain ⟨k, l, b, heq⟩ : ∃ (k : Nat) (l : List Word) (b : Bool), (s.fltLog r sev down rep).regs
      = ((((s.setRegs (Reg.FLT_LOG (8 * k)) l).setRegF Reg.FLT_LOG_HEAD 0 6 ((k + 1) % 64)).bumpIf b Reg.FLT_LOG_LOST).regs) := ⟨_, _, _, rfl⟩
  simp only [logRegs, List.mem_cons, not_or] at ha
  obtain ⟨hhead, hlost⟩ := ha
  have hring : a < Reg.FLT_LOG (8 * k) := Nat.lt_of_lt_of_le hlow (by simp [Reg.FLT_LOG])
  rw [State.reg, heq]
  refine (State.bumpIf_regsBut _ _ _ a hlost).trans ?_
  rw [State.reg_setRegF, if_neg hhead, State.reg_setRegs_outside _ _ _ (.inl hring)]

end Log

/-! ## Latch and count (R440, R442) -/

/-- A source's status bit is set, it counts, and it is one of those that this instant raised. -/
def State.latchRaise (s : State) (n : Nat) : State :=
  ({ s with faults := { s.faults with rose := (s.now, n :: s.rose) } }.setRegBit (Reg.FLT_STATUS (n / 32)) (n % 32) true).bump32 (Reg.FLT_COUNT n) 1

/-- The registers that a raise of source n may change after it has latched and counted, those of the log's entries aside. -/
def afterLatch (n : Nat) : List Nat := logRegs ++ ctr Reg.FLT_DOWNGRADED ++ [Reg.FLT_CAUSE (n / 32), Reg.FLT_GLOBAL]

theorem notMem_afterLatch {n a : Nat} (hn : n < 256) (ha : a < Reg.FLT_CAUSE 0 ∨ (Reg.FLT_FROZEN 0 ≤ a ∧ a < Reg.FLT_GLOBAL) ∨ Reg.FLT_COUNT 0 ≤ a) :
    a ∉ afterLatch n := by
  simp only [afterLatch, logRegs, ctr, Reg.FLT_LOG_HEAD, Reg.FLT_LOG_LOST, Reg.FLT_DOWNGRADED, Reg.FLT_CAUSE, Reg.FLT_FROZEN, Reg.FLT_COUNT, Reg.FLT_GLOBAL,
    List.mem_append, List.mem_cons, List.not_mem_nil, or_false] at ha ⊢
  omega

section Note
variable (s : State) (x : React)

theorem State.reg_noteRaise {a : Nat} (hlow : a < Reg.FLT_LOG 0) (ha : a ∉ afterLatch x.r.src) :
    (s.noteRaise x).reg a = (s.latchRaise x.r.src).reg a := by
  simp only [afterLatch, List.mem_append, List.mem_cons, List.not_mem_nil, or_false, not_or] at ha
  obtain ⟨⟨hlog, hdown⟩, hcause, hglobal⟩ := ha
  have hbut : RegsBut ((s.latchRaise x.r.src).fltLog x.r x.sev x.down x.rep) (s.noteRaise x)
      (Reg.FLT_CAUSE (x.r.src / 32) :: Reg.FLT_GLOBAL :: ctr Reg.FLT_DOWNGRADED) := by
    have hcount := (((s.latchRaise x.r.src).fltLog x.r x.sev x.down x.rep).bumpIf_regsBut x.down Reg.FLT_DOWNGRADED).mono
      (m := Reg.FLT_CAUSE (x.r.src / 32) :: Reg.FLT_GLOBAL :: ctr Reg.FLT_DOWNGRADED) (by simp [ctr])
    have hheld := (hcount.setRegBit (Reg.FLT_CAUSE (x.r.src / 32)) (x.r.src % 32) true (by simp)).ite
      (c := (holdsCause x.r.src (x.sev == 2) && !x.r.forced) = true) hcount
    exact (hheld.setRegBit Reg.FLT_GLOBAL 5 true (by simp)).ite hheld
  rw [hbut a (by simp [hcause, hglobal, hdown]), State.reg_fltLog _ _ _ _ _ hlow hlog]

theorem State.noteRaise_logSeq : (s.noteRaise x).faults.logSeq = s.faults.logSeq + 1 := by
  unfold State.noteRaise
  dsimp only
  have hcount : ((((s.latchRaise x.r.src).fltLog x.r x.sev x.down x.rep).bumpIf x.down Reg.FLT_DOWNGRADED)).faults.logSeq = s.faults.logSeq + 1 := by
    rw [State.bumpIf_faults, State.fltLog_logSeq]
    rfl
  repeat' split
  all_goals exact hcount

theorem State.noteRaise_good_self : Good ⟨s.pending, False, s, (· ∈ [.regs, .faults])⟩ (s.noteRaise x) :=
  State.noteRaise_good x (s.good_self _) (by simp) (by simp)

@[simp] theorem State.noteRaise_power : (s.noteRaise x).power = s.power := (s.noteRaise_good_self x).power_eq (by simp) (by simp)

theorem State.evEn_noteRaise (n : Nat) : (s.noteRaise x).evEn n = s.evEn n := by
  obtain ⟨heff, -⟩ := (s.noteRaise_good_self x).same .config (by simp)
  rw [State.evEn, State.cfgBit, State.cfg, heff]
  rfl

variable {x} (hx : x.r.src < 256)
include hx

/-- No agent freezes as its source is noted. -/
theorem State.frozen_noteRaise {k : Nat} (hk : k < 8) : (s.noteRaise x).reg (Reg.FLT_FROZEN k) = s.reg (Reg.FLT_FROZEN k) := by
  rw [s.reg_noteRaise x (by unfold Reg.FLT_FROZEN Reg.FLT_LOG; omega) (notMem_afterLatch hx (by unfold Reg.FLT_FROZEN Reg.FLT_GLOBAL; omega)),
    State.latchRaise, State.reg_bump32, if_neg (by unfold Reg.FLT_FROZEN Reg.FLT_COUNT; omega), State.reg_setRegBit,
    if_neg (by unfold Reg.FLT_FROZEN Reg.FLT_STATUS; omega)]
  rfl

theorem State.latched_noteRaise : (s.noteRaise x).latched x.r.src = true := by
  rw [State.latched, State.regBit,
    s.reg_noteRaise x (by unfold Reg.FLT_STATUS Reg.FLT_LOG; omega) (notMem_afterLatch hx (by unfold Reg.FLT_STATUS Reg.FLT_CAUSE; omega)),
    State.latchRaise, State.reg_bump32, if_neg (by unfold Reg.FLT_STATUS Reg.FLT_COUNT; omega)]
  exact State.regBit_setRegBit_same _ _ _ true (Nat.mod_lt _ (by decide))

theorem State.count_noteRaise : ((s.noteRaise x).reg (Reg.FLT_COUNT x.r.src)).toNat = min 0xFFFFFFFF ((s.reg (Reg.FLT_COUNT x.r.src)).toNat + 1) := by
  rw [s.reg_noteRaise x (by unfold Reg.FLT_COUNT Reg.FLT_LOG; omega) (notMem_afterLatch hx (by unfold Reg.FLT_COUNT; omega)),
    State.latchRaise, State.reg_bump32, if_pos rfl, State.reg_setRegBit, if_neg (by unfold Reg.FLT_COUNT Reg.FLT_STATUS; omega), BitVec.toNat_ofNat]
  exact Nat.mod_eq_of_lt (Nat.lt_of_le_of_lt (Nat.min_le_left _ _) (by decide))

end Note

/-! ## Reported sources (R440, R442, R450) -/

/-- The reaction to a source whose reaction is a log entry or a report, and to one of any severity in safe state. -/
def State.report (s : State) (r : Raise) : React := { r, sev := min (s.sevSoon r.src) 1, rep := s.latched r.src }

/-- The event that goes with the reaction, if any. -/
def State.reportEvents (s : State) (r : Raise) : List Nat := if 1 ≤ s.sevSoon r.src then [256 + r.src] else []

section Report
variable {s : State} {r : Raise} (hreport : s.sevSoon r.src ≤ 1 ∨ s.power.safe = true)
include hreport

theorem State.plan1_report (gone : List Nat) : s.plan1 gone r = (s.report r, gone) := by
  unfold State.plan1 State.report
  dsimp only
  by_cases hlatched : s.latched r.src = true
  · simp [hlatched]
  · by_cases hquiet : (s.power.safe || s.power.failing) = true
    · simp [hlatched, hquiet]
    · obtain hsev | hsafe := hreport
      · have hnot : s.sevSoon r.src ≠ 2 := by omega
        simp [hlatched, hquiet, hnot, Nat.min_eq_left hsev]
      · simp [hsafe] at hquiet

/-- A reported source is noted and its event raised; nothing freezes, and safe state is not entered. -/
theorem State.raiseFault_report (hreserved : srcReserved r.src = false) :
    s.raiseFault r = ((s.noteRaise (s.report r)).raiseEvs (s.reportEvents r)).syncState := by
  have hnot2 : min (s.sevSoon r.src) 1 ≠ 2 := by omega
  have hnot3 : min (s.sevSoon r.src) 1 ≠ 3 := by omega
  have hsorted : sortBy (fun (a b : Raise) => decide (a.src ≤ b.src)) (mergeRaises ([r].filter fun r => !srcReserved r.src)) = [r] := by
    simp [hreserved, mergeRaises, sortBy, insertBy]
  have hplan : s.planAll [] [r] = [s.report r] := by rw [State.planAll, State.plan1_report hreport, State.planAll]
  unfold State.raiseFault State.raiseFaults
  simp only [hsorted, hplan]
  by_cases hevent : 1 ≤ s.sevSoon r.src
  · simp [State.report, State.reportEvents, hevent]
  · simp [State.report, State.reportEvents, hnot2, hnot3, hevent]

/-- What a reported source changes of the status, cause, freeze and count registers, it changes as it is noted. -/
theorem State.reg_raiseFault_report (hreserved : srcReserved r.src = false) {a : Nat}
    (ha : (Reg.FLT_STATUS 0 ≤ a ∧ a < Reg.FLT_GLOBAL) ∨ (Reg.FLT_COUNT 0 ≤ a ∧ a < Reg.FLT_LOG 0)) :
    (s.raiseFault r).reg a = (s.noteRaise (s.report r)).reg a := by
  unfold Reg.FLT_STATUS Reg.FLT_GLOBAL Reg.FLT_COUNT Reg.FLT_LOG at ha
  have hsync : a ∉ [Reg.FLT_GLOBAL, Reg.GLB_STATE] := by
    simp only [Reg.FLT_GLOBAL, Reg.GLB_STATE, List.mem_cons, List.not_mem_nil, or_false]
    omega
  rw [State.raiseFault_report hreport hreserved, State.syncState_regsBut _ a hsync, State.raiseEvs_reg _ _ _ (notMem_evRegs_of_lt (by omega))]

end Report

@[simp] theorem State.syncState_events (s : State) : s.syncState.ctl.events = s.ctl.events := by
  unfold State.syncState
  dsimp only
  split <;> rfl

@[simp] theorem State.syncState_logSeq (s : State) : s.syncState.faults.logSeq = s.faults.logSeq := by
  unfold State.syncState
  dsimp only
  split <;> rfl

/-- Settles O47: the source is noted, its event raised, and FLT_GLOBAL follows. -/
theorem reportedSourcesLatchAndFreezeNothing : Obligations.ReportedSourcesLatchAndFreezeNothing := by
  rintro s r hsrc hreport t rfl
  have hreserved : srcReserved r.src = false := by simp [srcReserved]; omega
  have hlt : (s.report r).r.src < 256 := Nat.lt_trans hsrc (by decide)
  have heq := State.raiseFault_report hreport hreserved
  refine ⟨?_, fun k hk => ?_, ?_, ?_, ?_, fun hsev hen => ?_⟩
  · rw [State.latched, State.regBit, State.reg_raiseFault_report hreport hreserved (by unfold Reg.FLT_STATUS Reg.FLT_GLOBAL; omega)]
    exact s.latched_noteRaise hlt
  · rw [State.reg_raiseFault_report hreport hreserved (by unfold Reg.FLT_FROZEN Reg.FLT_STATUS Reg.FLT_GLOBAL; omega)]
    exact s.frozen_noteRaise hlt hk
  · rw [State.reg_raiseFault_report hreport hreserved (by unfold Reg.FLT_COUNT Reg.FLT_LOG; omega)]
    exact s.count_noteRaise hlt
  · rw [heq, State.syncState_power, State.raiseEvs_power, State.noteRaise_power]
  · rw [heq, State.syncState_logSeq, State.raiseEvs_faults, State.noteRaise_logSeq]
  · rw [heq, State.syncState_events, State.reportEvents, if_pos hsev]
    exact State.exists_event_raiseEv ((s.evEn_noteRaise _ _).trans hen)

/-! ## The fault state (R452) -/

/-- A word with no bit set is 0. -/
theorem word_ne_zero_iff (v : Word) : v ≠ 0#32 ↔ ∃ i, i < 32 ∧ v.getLsbD i = true := by
  refine ⟨fun hne => ?_, ?_⟩
  · by_contra hnone
    simp only [not_exists, not_and, Bool.not_eq_true] at hnone
    exact hne (BitVec.eq_of_getLsbD_eq fun i hi => by rw [hnone i hi, BitVec.getLsbD_zero])
  · rintro ⟨i, -, hbit⟩ rfl
    simp at hbit

theorem State.anyFrozen_iff (s : State) : s.anyFrozen = true ↔ ∃ a, a < 256 ∧ s.frozen a = true := by
  simp only [State.anyFrozen, List.any_eq_true, List.mem_range, bne_iff_ne, word_ne_zero_iff]
  constructor
  · rintro ⟨k, hk, i, hi, hbit⟩
    refine ⟨32 * k + i, by omega, ?_⟩
    rwa [State.frozen, State.regBit, show (32 * k + i) / 32 = k by omega, show (32 * k + i) % 32 = i by omega]
  · rintro ⟨a, ha, hfrozen⟩
    exact ⟨a / 32, by omega, a % 32, Nat.mod_lt _ (by decide), hfrozen⟩

/-- Some source at severity 1 or 2 is latched. -/
theorem State.anyLatched_iff (s : State) : ((List.range 256).any fun n => s.regBit (Reg.FLT_STATUS (n / 32)) (n % 32) && (s.sev n == 1 || s.sev n == 2)) = true
    ↔ ∃ n, n < 256 ∧ s.latched n = true ∧ (s.sev n = 1 ∨ s.sev n = 2) := by
  simp only [List.any_eq_true, List.mem_range, Bool.and_eq_true, Bool.or_eq_true, beq_iff_eq, State.latched]

theorem State.fltState_le_two (s : State) : s.fltState ≤ 2 := by
  unfold State.fltState
  repeat' split
  all_goals decide

/-- What follows FLT_GLOBAL is GLB_STATE alone. -/
theorem State.syncState_regsBut_shown (s : State) : RegsBut s.showFaultState s.syncState [Reg.GLB_STATE] := by
  have hstate : RegsBut s.showFaultState (s.showFaultState.setRegF Reg.GLB_STATE 0 3 s.deviceState) [Reg.GLB_STATE] :=
    (RegsBut.refl _ _).setRegF _ _ _ _ (by simp)
  unfold State.syncState
  dsimp only
  split
  · exact hstate
  · exact hstate.setRegBit Reg.GLB_STATE 8 true (by simp)

/-- FLT_GLOBAL.STATE follows the fault state. -/
theorem State.regF_syncState_fltState (s : State) : s.syncState.regF Reg.FLT_GLOBAL 0 2 = s.fltState := by
  have hlt : s.fltState % 2 ^ 2 = s.fltState := Nat.mod_eq_of_lt (Nat.lt_succ_of_le (Nat.le_succ_of_le s.fltState_le_two))
  have hshown : s.showFaultState.regF Reg.FLT_GLOBAL 0 2 = s.fltState :=
    (State.regF_setRegF_other _ _ _ _ _ _ _ (by decide)).trans ((State.regF_setRegF_same _ _ _ _ _ (by decide)).trans hlt)
  rw [State.regF, s.syncState_regsBut_shown _ (by decide), ← State.regF, hshown]

/-- Byte 23 of a heartbeat is the device's STATE. -/
theorem State.fieldAt_heartbeatBody_state (s : State) : fieldAt 23 1 s.heartbeatBody = s.deviceState % 256 := by
  obtain ⟨pre, post, heq, hlen⟩ : ∃ pre post, s.heartbeatBody = pre ++ (be 1 s.deviceState ++ post) ∧ pre.length = 23 := by
    refine ⟨deviceIdBytes ++ be 4 s.uptime ++ be 6 (s.taiNs / 1000000000) ++ be 4 (s.taiNs % 1000000000) ++ be 1 s.quality, ?post, ?split, ?len⟩
    case split =>
      simp only [State.heartbeatBody, List.append_assoc]
      rfl
    case len => simp [deviceIdBytes]
  rw [fieldAt, slice, heq, List.drop_left' hlen, List.take_left' (length_beBytes 1 _)]
  simp [be, beNat]

/-- Settles O46: outside safe state the fault state is 1 for one of its two causes, and both registers and the heartbeat show it. -/
theorem faultStateFollowsItsCauses : Obligations.FaultStateFollowsItsCauses := by
  intro s hsafe
  have hcases : s.fltState = if (s.anyFrozen || (List.range 256).any fun n =>
      s.regBit (Reg.FLT_STATUS (n / 32)) (n % 32) && (s.sev n == 1 || s.sev n == 2)) = true then 1 else 0 := by
    rw [State.fltState, if_neg (by simp [hsafe])]
  refine ⟨?_, ?_, s.regF_syncState_fltState, fun hfailing hmaint => ?_⟩
  · rw [← s.anyFrozen_iff, ← s.anyLatched_iff, hcases, ← Bool.or_eq_true]
    split <;> simp_all
  · rw [hcases]
    split <;> simp
  · have hdevice : s.deviceState = s.fltState := by simp [State.deviceState, hfailing, hmaint]
    rw [s.fieldAt_heartbeatBody_state, hdevice]
    exact Nat.mod_eq_of_lt (Nat.lt_of_le_of_lt s.fltState_le_two (by decide))

end Sys2Proof.Machine
end

section
/-!
PROOFS. The rows of the fault collector: detections and the ends of causes (R443 to R445, R453), and its writes (R447, R451, R456).
-/
namespace Sys2Proof.Machine

/-! ## Raises of one instant (R442) -/

theorem State.raisesAlone_iff (s : State) : s.raisesAlone = true ↔ s.faults.arrived = [] ∧ s.pending.any isRaise = false := by
  simp only [State.raisesAlone, Bool.and_eq_true, List.isEmpty_iff, Bool.not_eq_true']

theorem State.raiseTogether_raisesAlone {s : State} (h : s.raisesAlone = true) (r : Raise) : s.raiseTogether (some r) = s.raiseFault r := by
  obtain ⟨harrived, hpending⟩ := s.raisesAlone_iff.mp h
  exact State.raiseTogether_alone r hpending harrived

/-! ## Detections (R443) -/

theorem execUnitProgressTimeout_due {s : State} {a : Fin 256} (halone : s.raisesAlone = true) (hlow : 0x40 ≤ a.val) (hhigh : a.val < 0xA0)
    (hjob : (s.unit a).job.isSome = true) (hdue : (s.unit a).since + usT 20 ≤ s.now) (hfrozen : s.frozen a = false) :
    execUnitProgressTimeout a s = .next (s.raiseFault { src := a - 0x40 }) := by
  rw [← State.raiseTogether_raisesAlone halone]
  simp [execUnitProgressTimeout, hlow, hhigh, hjob, hdue, hfrozen]

theorem execXopTimeout_running {s : State} {i : Fin 8} (halone : s.raisesAlone = true) (hruns : (s.seq i).state = .running ∨ (s.seq i).state = .fast) :
    execXopTimeout i s = .next (s.raiseFault { src := 104 + i.val }) := by
  rw [← State.raiseTogether_raisesAlone halone]
  simp [execXopTimeout, hruns]

theorem execInternalCheckFailure_other {s : State} {n : Fin 256} (record : Option (Fin 1024 × Nat)) (halone : s.raisesAlone = true)
    (hcheck : checkSource n = true) (hn : n.val ≠ 159) : execInternalCheckFailure n record s = .next (s.raiseFault { src := n.val }) := by
  rw [← State.raiseTogether_raisesAlone halone]
  simp [execInternalCheckFailure, hcheck, hn]

/-- A poisoned record changes its context or session, and no raise of the instant. -/
theorem State.raisesAlone_poisonRecord (s : State) (n q : Nat) : (s.poisonRecord n q).raisesAlone = s.raisesAlone := by
  have hgood := State.poisonRecord_good n q (s.good_self (· ∈ [.regs, .net, .ctxs])) (by simp) (by simp) (by simp)
  have hqueue : (s.poisonRecord n q).pending = s.pending := hgood.queue
  have hfaults : (s.poisonRecord n q).faults = s.faults := hgood.same .faults (by simp)
  rw [State.raisesAlone, hfaults, hqueue]

theorem execInternalCheckFailure_poison {s : State} (c : Fin 1024) (q : Nat) (halone : s.raisesAlone = true) :
    execInternalCheckFailure 159 (some (c, q)) s = .next ((s.poisonRecord c q).raiseFault { src := 159 }) := by
  rw [← State.raiseTogether_raisesAlone ((s.raisesAlone_poisonRecord c q).trans halone)]
  rfl

/-! ## Ends of causes (R444, R445) -/

theorem State.cause_setCause (s : State) (m n : Nat) (b : Bool) : (s.setCause m b).cause n = if n = m then b else s.cause n := by
  unfold State.cause State.setCause
  by_cases hword : n / 32 = m / 32
  · by_cases hbit : n % 32 = m % 32
    · rw [if_pos (by omega), hword, hbit]
      exact State.regBit_setRegBit_same _ _ _ _ (Nat.mod_lt _ (by decide))
    · rw [if_neg (by omega), hword]
      exact State.regBit_setRegBit_bit _ _ _ _ _ hbit
  · rw [if_neg (by omega), State.regBit, State.reg_setRegBit, if_neg (by unfold Reg.FLT_CAUSE; omega), State.regBit]

theorem State.setCause_regsBut (s : State) (n : Nat) (b : Bool) : RegsBut s (s.setCause n b) [Reg.FLT_CAUSE (n / 32)] :=
  (RegsBut.refl s _).setRegBit _ _ _ (by simp)

/-- The causes of a list of sources end. -/
def State.endCauses (s : State) (l : List Nat) : State := l.foldl (fun t n => t.setCause n false) s

theorem State.cause_endCauses {s : State} {l : List Nat} {n : Nat} (h : n ∈ l ∨ s.cause n = false) : (s.endCauses l).cause n = false := by
  induction l generalizing s with
  | nil => exact h.resolve_left List.not_mem_nil
  | cons m l ih =>
    refine ih ?_
    rw [State.cause_setCause]
    rcases h with hmem | hended
    · rcases List.mem_cons.mp hmem with rfl | hl
      · simp
      · exact .inl hl
    · simp [hended]

theorem State.endCauses_regsBut (s : State) {l : List Nat} (hl : ∀ n ∈ l, n < 256) : RegsBut s (s.endCauses l) ((List.range 8).map Reg.FLT_CAUSE) := by
  refine List.foldlRecOn (motive := fun t => RegsBut s t _) l _ (RegsBut.refl s _) fun t ht n hn => ht.setRegBit _ _ _ ?_
  have hlt := hl n hn
  exact List.mem_map.mpr ⟨n / 32, List.mem_range.mpr (by omega), rfl⟩

theorem lt_of_mem_sourcesOf {a n : Nat} (h : n ∈ sourcesOf a) : n < 256 := by
  unfold sourcesOf at h
  repeat' split at h
  all_goals simp only [List.mem_cons, List.not_mem_nil, or_false] at h
  all_goals omega

theorem execUnitResetDone_frozen {s : State} {a : Fin 256} (hfrozen : s.frozen a = true) : execUnitResetDone a s = .next (s.endCauses (sourcesOf a)) := by
  simp [execUnitResetDone, hfrozen, State.endCauses]

/-! ## Temperature (R443, R444) -/

/-- What a crossing shows: the temperature and its sensor, HOT, and THERM_N. -/
def State.showHot (s : State) (x : Int) (k : Nat) (hot : Bool) : State :=
  let t := (s.showTemp x k).setRegBit Reg.CAL_TEMP 12 hot
  { t with faults := { t.faults with thermPin := hot } }

section Hot
variable (s : State) (x : Int) (k : Fin 16) (hot : Bool)

theorem State.regBit_showHot : (s.showHot x k hot).regBit Reg.CAL_TEMP 12 = hot := State.regBit_setRegBit_same _ _ _ _ (by decide)

theorem State.regF_showHot_sensor : (s.showHot x k hot).regF Reg.CAL_TEMP 8 4 = k := by
  refine (State.regF_setRegBit_other _ _ _ _ _ _ (by decide)).trans ((State.regF_setRegF_same _ _ _ _ _ (by decide)).trans ?_)
  exact Nat.mod_eq_of_lt k.isLt

theorem State.showHot_regsBut : RegsBut s (s.showHot x k hot) [Reg.CAL_TEMP] :=
  ((((RegsBut.refl s _).setRegF _ _ _ _ (by simp)).setRegF _ _ _ _ (by simp)).setRegBit Reg.CAL_TEMP 12 hot (by simp)).regs_eq rfl

theorem execTemperatureLimitCrossing_rises (hcool : s.regBit Reg.CAL_TEMP 12 = false) (hx : tempLimit < x) :
    execTemperatureLimitCrossing x k s = .next ((s.showHot x k true).raiseFault { src := 165 }) := by
  simp [execTemperatureLimitCrossing, hcool, hx, State.showHot]

theorem execTemperatureLimitCrossing_falls (hhot : s.regBit Reg.CAL_TEMP 12 = true) (hx : x ≤ tempLimit - 3) :
    execTemperatureLimitCrossing x k s = .next ((s.showHot x k false).setCause 165 false) := by
  simp [execTemperatureLimitCrossing, hhot, hx, State.showHot]

/-- With the temperature back below the limit F165 has no cause. -/
theorem State.cooled_spec : ((s.showHot x k false).setCause 165 false).regBit Reg.CAL_TEMP 12 = false
    ∧ ((s.showHot x k false).setCause 165 false).cause 165 = false
    ∧ RegsBut s ((s.showHot x k false).setCause 165 false) [Reg.CAL_TEMP, Reg.FLT_CAUSE 5] := by
  refine ⟨?_, by rw [State.cause_setCause, if_pos rfl], ((s.showHot_regsBut x k false).mono (by simp)).setRegBit _ _ _ (by simp)⟩
  rw [State.regBit, (s.showHot x k false).setCause_regsBut 165 false _ (by decide), ← State.regBit, State.regBit_showHot]

end Hot

/-- Settles O48: each detection by its row, and the raises of one instant by what gathers them. -/
theorem detectionsRaiseTheirSource : Obligations.DetectionsRaiseTheirSource := by
  intro s
  refine ⟨fun a => execUnitProgressTimeout_due, fun i => execXopTimeout_running,
    fun halone => congrArg Host.Outcome.next (State.raiseTogether_raisesAlone halone _), fun hmore => ?_, fun r hlast harrived => ?_, ?_,
    fun n rec_ => execInternalCheckFailure_other rec_, fun c q => execInternalCheckFailure_poison c q, fun a hfrozen => ?_, fun x k hcool hx => ?_,
    fun x k hhot hx => ?_⟩
  · exact ⟨_, congrArg Host.Outcome.next (State.raiseTogether_holds _ hmore), rfl, rfl⟩
  · refine ⟨{ s with faults := { s.faults with arrived := [] } }, ?_, rfl, rfl⟩
    rw [exec_regulatorOutOfRange, execRegulatorOutOfRange, State.raiseTogether_last _ hlast, harrived, List.singleton_append]
  · exact ⟨_, rfl, by rw [State.cause_setCause, if_pos rfl], s.setCause_regsBut 164 false⟩
  · exact ⟨_, execUnitResetDone_frozen hfrozen, fun n hn => State.cause_endCauses (.inl hn), s.endCauses_regsBut fun n => lt_of_mem_sourcesOf⟩
  · exact ⟨_, execTemperatureLimitCrossing_rises s x k hcool hx, s.regBit_showHot x k true, rfl, s.regF_showHot_sensor x k true, s.showHot_regsBut x k true⟩
  · obtain ⟨hbit, hcause, hbut⟩ := s.cooled_spec x k
    exact ⟨_, execTemperatureLimitCrossing_falls s x k hhot hx, hbit, rfl, hcause, hbut⟩

/-! ## FLT_STATUS (R442, R451) -/

theorem State.getLsbD_faultsKept (s : State) {k j : Nat} (hj : j < 32) :
    (s.faultsKept k).getLsbD j = (s.regBit (Reg.FLT_CAUSE k) j || s.rose.contains (32 * k + j)) := by
  have hbit (n : Nat) : (BitVec.ofNat 32 (2 ^ (n % 32))).getLsbD j = decide (n % 32 = j) := by
    rw [BitVec.getLsbD_ofNat, Nat.testBit_two_pow, decide_eq_true hj, Bool.true_and]
  have hfold (l : List Nat) (w : Word) : (l.foldl (fun w n => if n / 32 = k then w ||| BitVec.ofNat 32 (2 ^ (n % 32)) else w) w).getLsbD j
      = (w.getLsbD j || l.contains (32 * k + j)) := by
    induction l generalizing w with
    | nil => simp
    | cons n l ih =>
      rw [List.foldl_cons, ih, List.contains_cons, ← Bool.or_assoc]
      congr 1
      by_cases hn : 32 * k + j = n
      · rw [if_pos (by omega), BitVec.getLsbD_or, hbit, decide_eq_true (by omega), hn, beq_self_eq_true]
      · have hne : (32 * k + j == n) = false := beq_eq_false_iff_ne.mpr hn
        rw [hne, Bool.or_false]
        split
        · rw [BitVec.getLsbD_or, hbit, decide_eq_false (by omega), Bool.or_false]
        · rfl
  exact hfold _ _

/-- A write of 1 clears a status bit, unless its cause is present or its source is raised in the same instant. -/
theorem State.regBit_clearFaults (s : State) {k j : Nat} (hk : k < 8) (hj : j < 32) (bits : Word) :
    (s.clearFaults k bits).regBit (Reg.FLT_STATUS k) j
      = (s.regBit (Reg.FLT_STATUS k) j && !(bits.getLsbD j && !s.regBit (Reg.FLT_CAUSE k) j && !s.rose.contains (32 * k + j))) := by
  have hsync : Reg.FLT_STATUS k ∉ [Reg.FLT_GLOBAL, Reg.GLB_STATE] := by
    simp only [Reg.FLT_STATUS, Reg.FLT_GLOBAL, Reg.GLB_STATE, List.mem_cons, List.not_mem_nil, or_false]
    omega
  rw [State.clearFaults, State.regBit, State.syncState_regsBut _ _ hsync, State.reg_setReg_same]
  simp only [BitVec.getLsbD_and, BitVec.getLsbD_not, hj, decide_true, Bool.true_and, s.getLsbD_faultsKept hj, Bool.not_or, Bool.and_assoc, State.regBit]

theorem State.clearFaults_regsBut (s : State) (k : Nat) (bits : Word) : RegsBut s (s.clearFaults k bits) [Reg.FLT_STATUS k, Reg.FLT_GLOBAL, Reg.GLB_STATE] :=
  ((RegsBut.refl s _).setReg _ _ (by simp)).trans ((State.syncState_regsBut _).mono (by simp))

/-! ## FLT_UNFREEZE (R447) -/

/-- Without the key, for an agent that is not frozen, and while the source that froze it is latched, the write only counts. -/
theorem State.unfreeze_refused {s : State} {a : BitVec 8} {key : BitVec 16} (h : key ≠ 0x0F0F#16 ∨ s.frozen a.toNat = false
      ∨ ∃ src, tget (fun _ => 0) s.faults.frozenBy a.toNat = src + 1 ∧ s.latched src = true) :
    s.unfreeze a.toNat key.toNat = s.bump Reg.FLT_UNFREEZE_REFUSED := by
  unfold State.unfreeze
  refine if_pos ?_
  rcases h with hkey | hfrozen | ⟨src, hby, hlatched⟩
  · exact .inl fun h => hkey (BitVec.eq_of_toNat_eq h)
  · exact .inr (.inl hfrozen)
  · exact .inr (.inr (by simp [hby, hlatched]))

/-! ## Leaving safe state (R451) -/

@[simp] theorem State.syncState_safeSrcs (s : State) : s.syncState.faults.safeSrcs = s.faults.safeSrcs := by
  unfold State.syncState
  dsimp only
  split <;> rfl

@[simp] theorem State.startSign_faults (s : State) : s.startSign.faults = s.faults :=
  (State.startSign_good (s.good_self (· = .seals)) rfl).same .faults (by simp)

/-- FLT_GLOBAL's other bits stay as its STATE and FAULT_PIN follow. -/
theorem State.regBit_syncState_fltGlobal (s : State) {j : Nat} (hj : 4 ≤ j) : s.syncState.regBit Reg.FLT_GLOBAL j = s.regBit Reg.FLT_GLOBAL j := by
  have hshown : s.showFaultState.regBit Reg.FLT_GLOBAL j = s.regBit Reg.FLT_GLOBAL j :=
    (State.regBit_setRegBit_bit _ _ _ _ _ (by omega)).trans (State.regBit_setRegF_other _ _ _ _ _ _ (by omega))
  rw [State.regBit, s.syncState_regsBut_shown _ (by decide), ← State.regBit, hshown]

/-- Outside safe state, with the sources that caused it forgotten, ISA_STATUS.STATE 0 and the change of FLT_GLOBAL shown. -/
theorem State.leaveSafe_spec (s : State) : s.leaveSafe.power.safe = false ∧ s.leaveSafe.faults.safeSrcs = [] ∧ s.leaveSafe.regF Reg.ISA_STATUS 0 3 = 0
    ∧ s.leaveSafe.regBit Reg.FLT_GLOBAL 16 = true := by
  obtain ⟨t, heq, hsafe, hsrcs⟩ : ∃ t : State, s.leaveSafe = ((t.showIsa 0 0).setRegBit Reg.FLT_GLOBAL 16 true).syncState.startSign
      ∧ t.power.safe = false ∧ t.faults.safeSrcs = [] := ⟨_, rfl, rfl, rfl⟩
  generalize hu : (t.showIsa 0 0).setRegBit Reg.FLT_GLOBAL 16 true = u at heq
  have hreg (a : Nat) : s.leaveSafe.reg a = u.syncState.reg a := by rw [heq, State.reg, State.startSign_regs, State.reg]
  refine ⟨?_, ?_, ?_, ?_⟩
  · rw [heq, State.startSign_power, State.syncState_power, ← hu]
    exact hsafe
  · rw [heq, State.startSign_faults, State.syncState_safeSrcs, ← hu]
    exact hsrcs
  · rw [State.regF, hreg, u.syncState_regsBut _ (by decide), ← hu, State.reg_setRegBit, if_neg (by decide)]
    exact (State.regF_setRegF_other _ _ _ _ _ _ _ (by decide)).trans (State.regF_setRegF_same _ _ _ _ _ (by decide))
  · rw [State.regBit, hreg, ← State.regBit, u.regBit_syncState_fltGlobal (by decide), ← hu]
    exact State.regBit_setRegBit_same _ _ _ _ (by decide)

/-- Settles O49: each write by what its row does where it acts, and where it is refused. -/
theorem collectorWritesAct : Obligations.CollectorWritesAct := by
  intro s
  refine ⟨fun k bits => ?_, fun n halone => ?_, fun a key h => ?_, fun a src hfrozen hby hclear => ?_, fun hdue => ?_, fun hnot => ?_⟩
  · exact ⟨_, rfl, fun j hj => s.regBit_clearFaults k.isLt hj bits, s.clearFaults_regsBut k bits⟩
  · exact congrArg Host.Outcome.next (State.raiseTogether_raisesAlone halone _)
  · exact ⟨_, congrArg Host.Outcome.next (State.unfreeze_refused h), State.pair_bump s _, RegsBut.of_bump rfl⟩
  · exact congrArg Host.Outcome.next (State.unfreeze_returns hfrozen hby hclear)
  · obtain ⟨hsafe, hsrcs, hisa, hglobal⟩ := s.leaveSafe_spec
    exact ⟨s.leaveSafe, by simp [execSafeStateExit, hdue], hsafe, hsrcs, hisa, hglobal⟩
  · simp [execSafeStateExit, hnot]

end Sys2Proof.Machine
end

section
/-!
PROOFS. Calibration (R462 to R465, R468): references, groups, the current limit and the re-plan.
-/
namespace Sys2Proof.Machine

/-! ## References (R463, R464) -/

section References
variable {s : State} {r : RefReading}

theorem execRefCalibration_due (hdue : ∀ x, s.cal.refAt = some x → x + sT 10 ≤ s.now) : execRefCalibration r s = .next (s.refCal r) := by
  unfold execRefCalibration
  split
  next x hx => rw [if_neg (Nat.not_lt.mpr (hdue x hx))]
  next => rfl

/-- No source is raised: what is pending is settled, and FLT_GLOBAL follows. -/
theorem State.raiseFaults_nil (s : State) : s.raiseFaults [] = (s.raiseEvs []).syncState := by
  simp [State.raiseFaults, mergeRaises, sortBy, State.planAll]

theorem State.reg_raiseFaults_nil (s : State) {a : Nat} (ha : a ∉ evRegs) (hsync : a ∉ [Reg.FLT_GLOBAL, Reg.GLB_STATE]) :
    (s.raiseFaults []).reg a = s.reg a := by
  rw [State.raiseFaults_nil, State.syncState_regsBut _ a hsync, State.raiseEvs_reg _ _ _ ha]

@[simp] theorem State.syncState_cal (s : State) : s.syncState.cal = s.cal :=
  (State.syncState_good (s.good_self (· ∈ [.regs, .faults])) (by simp) (by simp)).same .cal (by simp)

/-- CAL_REF of a reading in range. -/
def State.showRef (s : State) (precres : Nat) : State := (s.setRegF Reg.CAL_REF 0 16 precres).setRegBit Reg.CAL_REF 16 true

variable (hlow : 9000 ≤ r.precres) (hhigh : r.precres ≤ 11000) (hosc : r.oscOk = true) (htemps : ∀ q, q ∈ r.temps → q.2 = true)
include hlow hhigh hosc htemps

/-- References in range with every sensor valid end the causes of F166 and F167 and raise nothing. -/
theorem State.refCal_inRange : ∃ t : State, s.refCal r = ((t.setCause 167 false).setCause 166 false).raiseFaults []
    ∧ RegsBut (s.showRef r.precres) t [Reg.CAL_TEMP] ∧ t.cal.refAt = some s.now := by
  have hok : decide (9000 ≤ r.precres ∧ r.precres ≤ 11000) = true := decide_eq_true ⟨hlow, hhigh⟩
  have hodd : (r.temps.any fun t => !t.2) = false := by simpa using htemps
  have hmin : min 65535 r.precres = r.precres := Nat.min_eq_right (by omega)
  unfold State.refCal
  simp only [hok, hodd, hosc, hmin, if_true, Bool.false_eq_true, if_false, List.append_nil]
  cases r.hottest with
  | none => exact ⟨_, rfl, RegsBut.of_regs _ rfl, rfl⟩
  | some q => exact ⟨_, rfl, (((RegsBut.refl _ _).setRegF Reg.CAL_TEMP 0 8 _ (by simp)).setRegF Reg.CAL_TEMP 8 4 _ (by simp)).regs_eq rfl, rfl⟩

theorem State.refCal_spec : (s.refCal r).regF Reg.CAL_REF 0 16 = r.precres ∧ (s.refCal r).regBit Reg.CAL_REF 16 = true
    ∧ (s.refCal r).cause 166 = false ∧ (s.refCal r).cause 167 = false ∧ (s.refCal r).cal.refAt = some s.now := by
  obtain ⟨t, heq, hbut, hat⟩ := State.refCal_inRange (s := s) hlow hhigh hosc htemps
  have hcauses : RegsBut t ((t.setCause 167 false).setCause 166 false) [Reg.FLT_CAUSE 5] :=
    (t.setCause_regsBut 167 false).trans ((t.setCause 167 false).setCause_regsBut 166 false)
  have href : (s.refCal r).reg Reg.CAL_REF = (s.showRef r.precres).reg Reg.CAL_REF := by
    rw [heq, State.reg_raiseFaults_nil _ (by decide) (by decide), hcauses _ (by decide), hbut _ (by decide)]
  have hcause {n : Nat} (hn : n / 32 = 5) : (s.refCal r).cause n = ((t.setCause 167 false).setCause 166 false).cause n := by
    rw [State.cause, State.cause, State.regBit, State.regBit, heq, hn, State.reg_raiseFaults_nil _ (by decide) (by decide)]
  refine ⟨?_, ?_, ?_, ?_, ?_⟩
  · rw [State.regF, href, ← State.regF]
    refine (State.regF_setRegBit_other _ _ _ _ _ _ (by decide)).trans ((State.regF_setRegF_same _ _ _ _ _ (by decide)).trans ?_)
    exact Nat.mod_eq_of_lt (by omega)
  · rw [State.regBit, href, ← State.regBit]
    exact State.regBit_setRegBit_same _ _ _ _ (by decide)
  · rw [hcause (by decide), State.cause_setCause, if_pos rfl]
  · rw [hcause (by decide), State.cause_setCause, if_neg (by decide), State.cause_setCause, if_pos rfl]
  · rw [heq, State.raiseFaults_nil, State.syncState_cal, State.raiseEvs_cal]
    exact hat

end References

/-! ## Groups (R465) -/

theorem execGroupMeasurement_due {s : State} {a : Fin 256} (ms : List (List Int)) (hgroups : (groupsOf a).2 ≠ 0) (hfrozen : s.frozen a = false)
    (htest : s.inTest a = false) (hdue : tget (fun _ => 0) s.cal.measAt a + sT (s.cfgF Reg.CAL_CFG 8 6) ≤ s.now) :
    execGroupMeasurement a ms s = .next (s.measure a ms) := by
  simp [execGroupMeasurement, hgroups, hfrozen, htest, Nat.not_lt.mpr hdue]

/-! ## The current limit (R462) -/

theorem State.showActual_regsBut (s : State) : RegsBut s s.showActual [Reg.CAL_SETPOINT] := s.setRegF_regsBut _ _ _ _

/-- ACTUAL reads what the current limit leaves of the set-point, and the set-point stays. -/
theorem State.showActual_spec (s : State) : s.showActual.regF Reg.CAL_SETPOINT 16 10 = s.regF Reg.CAL_SETPOINT 0 10 - s.cal.lowered
    ∧ s.showActual.regF Reg.CAL_SETPOINT 0 10 = s.regF Reg.CAL_SETPOINT 0 10 := by
  have hlt : s.regF Reg.CAL_SETPOINT 0 10 < 2 ^ 10 := Nat.mod_lt _ (by decide)
  exact ⟨(State.regF_setRegF_same _ _ _ _ _ (by decide)).trans (Nat.mod_eq_of_lt (by omega)), State.regF_setRegF_other _ _ _ _ _ _ _ (by decide)⟩

/-- The limit has lowered ACTUAL to `lowered` mV below the set-point, and has just stepped. -/
def State.setLimit (s : State) (lowered lowerAt : Nat) : State :=
  { s with cal := { s.cal with lowered := lowered, limitAt := s.now, lowerAt := lowerAt } }

theorem execCurrentLimitStep_due {s : State} (hdue : s.cal.limitAt + usT 10 ≤ s.now) (hroom : s.cal.lowered + 5 ≤ 30)
    (hfloor : 720 + s.cal.lowered + 5 ≤ s.regF Reg.CAL_SETPOINT 0 10) :
    execCurrentLimitStep s = .next ((s.setLimit (s.cal.lowered + 5) s.now).showActual.bump Reg.CAL_VLIMIT) :=
  if_neg (by omega)

theorem execCurrentRestoreStep_due {s : State} (hlowered : s.cal.lowered ≠ 0) (hdue : s.cal.limitAt + usT 10 ≤ s.now)
    (hquiet : s.cal.lowerAt + msT 100 ≤ s.now) : execCurrentRestoreStep s = .next (s.setLimit (s.cal.lowered - 5) s.cal.lowerAt).showActual :=
  if_neg (by omega)

section Limit
variable (s : State) (lowered lowerAt : Nat)

theorem State.reg_setLimit (a : Nat) : (s.setLimit lowered lowerAt).reg a = s.reg a := rfl

/-- A step of the limit changes ACTUAL alone. -/
theorem State.setLimit_spec : (s.setLimit lowered lowerAt).showActual.regF Reg.CAL_SETPOINT 16 10 = s.regF Reg.CAL_SETPOINT 0 10 - lowered
    ∧ (s.setLimit lowered lowerAt).showActual.regF Reg.CAL_SETPOINT 0 10 = s.regF Reg.CAL_SETPOINT 0 10
    ∧ RegsBut s (s.setLimit lowered lowerAt).showActual [Reg.CAL_SETPOINT] := by
  obtain ⟨hactual, hkept⟩ := (s.setLimit lowered lowerAt).showActual_spec
  have hset : (s.setLimit lowered lowerAt).regF Reg.CAL_SETPOINT 0 10 = s.regF Reg.CAL_SETPOINT 0 10 := by
    rw [State.regF, State.reg_setLimit, State.regF]
  rw [hactual, hkept, hset]
  exact ⟨rfl, rfl, RegsBut.trans (t := s.setLimit lowered lowerAt) (RegsBut.of_regs _ rfl) (State.showActual_regsBut _)⟩

end Limit

/-! ## The re-plan (R468, R469) -/

theorem execReplan_started {s : State} (ps : List RingPair) (again : List (List (Nat × List Int))) (hfailing : s.power.failing = false)
    (hdue : s.replanDue = false) (hstarted : s.regBit Reg.CAL_STATUS 4 = true) : execReplan ps again s = .next (s.replan ps again) := by
  simp [execReplan, hfailing, hdue, hstarted]

/-- A re-plan ends with REPLANNING clear and REPLAN_DONE set in CAL_STATUS. -/
theorem State.replan_status (s : State) (ps : List RingPair) (again : List (List (Nat × List Int))) :
    (s.replan ps again).regBit Reg.CAL_STATUS 4 = false ∧ (s.replan ps again).regBit Reg.CAL_STATUS 8 = true := by
  obtain ⟨t, hregs⟩ : ∃ t : State, (s.replan ps again).regs
      = (((t.setRegBit Reg.CAL_STATUS 4 false).setRegBit Reg.CAL_STATUS 8 true).bump Reg.CAL_REPLANS).regs := by
    unfold State.replan
    extract_lets s0 gs live s1 r short red three s2 hard s3 s4 s5 s6
    exact ⟨s5.setRegF Reg.CAL_STATUS 2 2 (if three then 3 else r.2), rfl⟩
  have hreg : (s.replan ps again).reg Reg.CAL_STATUS = ((t.setRegBit Reg.CAL_STATUS 4 false).setRegBit Reg.CAL_STATUS 8 true).reg Reg.CAL_STATUS := by
    rw [State.reg, hregs, ← State.reg, State.reg_bump_other _ _ _ (by decide) (by decide)]
  rw [State.regBit, State.regBit, hreg]
  exact ⟨(State.regBit_setRegBit_bit _ _ _ _ _ (by decide)).trans (State.regBit_setRegBit_same _ _ _ _ (by decide)),
    State.regBit_setRegBit_same _ _ _ _ (by decide)⟩

theorem State.calReplan_spec {s : State} (hfailing : s.power.failing = false) :
    s.calReplan.regBit Reg.CAL_STATUS 4 = true ∧ RegsBut s s.calReplan [Reg.CAL_STATUS] := by
  have heq : s.calReplan = s.setRegBit Reg.CAL_STATUS 4 true := by simp [State.calReplan, hfailing]
  rw [heq]
  exact ⟨State.regBit_setRegBit_same _ _ _ _ (by decide), s.setRegF_regsBut _ _ _ _⟩

/-- Settles O54: each row where its time has come, by what it shows in the registers of calibration. -/
theorem calibrationStepsAct : Obligations.CalibrationStepsAct := by
  intro s
  refine ⟨fun r => execRefCalibration_due, fun r hlow hhigh hosc htemps hdue => ?_, fun a ms => execGroupMeasurement_due ms,
    fun hdue hroom hfloor => ?_, fun hlowered hdue hquiet => ?_, fun ps again hfailing hdue hstarted => ?_, fun hfailing => ⟨_, rfl, State.calReplan_spec hfailing⟩⟩
  · exact ⟨_, execRefCalibration_due hdue, State.refCal_spec hlow hhigh hosc htemps⟩
  · obtain ⟨hactual, hset, hbut⟩ := s.setLimit_spec (s.cal.lowered + 5) s.now
    have hreg : ((s.setLimit (s.cal.lowered + 5) s.now).showActual.bump Reg.CAL_VLIMIT).reg Reg.CAL_SETPOINT
        = (s.setLimit (s.cal.lowered + 5) s.now).showActual.reg Reg.CAL_SETPOINT := State.reg_bump_other _ _ _ (by decide) (by decide)
    refine ⟨_, execCurrentLimitStep_due hdue hroom hfloor, rfl, ?_, ?_, Counted.bump_of_regsBut hbut (by decide) (by decide),
      (hbut.mono (by simp)).bump _ (by simp [ctr]) (by simp [ctr])⟩
    · rw [State.regF, hreg, ← State.regF, hactual]
    · rw [State.regF, hreg, ← State.regF, hset]
  · obtain ⟨-, hset, hbut⟩ := s.setLimit_spec (s.cal.lowered - 5) s.cal.lowerAt
    exact ⟨_, execCurrentRestoreStep_due hlowered hdue hquiet, rfl, hset, hbut⟩
  · exact ⟨_, execReplan_started ps again hfailing hdue hstarted, rfl, s.replan_status ps again⟩

end Sys2Proof.Machine
end
